-- ==== Sys2Proof/Word.lean ====
section
/-!
DEFINITION. The word types of the model: bytes, the register and frame field widths, and their plainest arithmetic.
-/

namespace Sys2Proof

/-- One byte (8 bits). -/
abbrev Byte := BitVec 8

/-- A 16-bit field. -/
abbrev W16 := BitVec 16

/-- A 32-bit field; a short stamp is one (R20). -/
abbrev W32 := BitVec 32

/-- A 64-bit field; `HT_NS` is one (R10). -/
abbrev W64 := BitVec 64

/-- A plane: 0 plane A, 1 plane B (R43). -/
abbrev Plane := BitVec 1

/-- A step number, 0 to 2^48 - 1 (R1). -/
abbrev StepNo := BitVec 48

/-- The 80-bit HT value in the layout of R10: `HT_NS` in bits 79:16, `HT_FRAC` in bits 15:0. -/
abbrev Ht80 := BitVec 80

/-- One bit as a one-bit vector. -/
def bit1 (b : Bool) : BitVec 1 := BitVec.ofBool b

end Sys2Proof
end

