-- ==== Sys2Proof/Frames.lean ====
section
/-!
DEFINITION. The mooring frames: their payloads and envelope (R42 to R46), as the model holds and exchanges them.
-/

namespace Sys2Proof

/-- Which of the two parts of the family (R1): the TSU of one host die, or one Phidor. -/
inductive Part where
  | tsu
  | phi
  deriving DecidableEq, Repr

/-- Payload of `LINK_IDENT` (R46). `phi` is the `PART` bit. -/
structure IdentPl where
  phi : Bool
  tier : Byte
  id : W16
  port : W16
  channel : Byte
  calId : W32
  deriving DecidableEq, Repr

/-- Payload of `LINK_CTRL` (R46). -/
structure CtrlPl where
  code : Byte
  arg : Byte
  deriving DecidableEq, Repr

/-- Payload of `BEACON_REQ` (R46). -/
structure ReqPl where
  xid : W16
  swap : Bool
  lastTheta : W32
  lastDelay : W32
  asym : W32
  deriving DecidableEq, Repr

/-- Payload of `BEACON_RESP` (R46). -/
structure RespPl where
  xid : W16
  swap : Bool
  deriving DecidableEq, Repr

/-- Payload of `BEACON_FU` (R46). -/
structure FuPl where
  xid : W16
  swap : Bool
  valid : Bool
  pstate : BitVec 3
  t2 : Ht80
  t3 : Ht80
  ptier : Byte
  deriving DecidableEq, Repr

/-- Payload of `TIME_INFO` (R46). -/
structure InfoPl where
  trace : BitVec 2
  leap61 : Bool
  leap59 : Bool
  masterPlane : Plane
  tier : Byte
  taiUtc : W16
  epochS : W64
  epochNs : W32
  ppsOffset : W32
  deriving DecidableEq, Repr

/-- Payload of `ANNOUNCE`, `ACK`, `COMMIT` and `ABORT` (R46). -/
structure LaunchPl where
  step : StepNo
  bell : W32
  entry : BitVec 24
  status : Byte
  origin : W16
  agg : Bool
  cause : W16
  count : W32
  lastStep : StepNo
  deriving DecidableEq, Repr

/-- Payload of `GATE_ARRIVE` and `GATE_RELEASE` (R46). -/
structure GatePl where
  gate : BitVec 12
  use : W32
  count : W32
  relBell : W32
  origin : W16
  agg : Bool
  deriving DecidableEq, Repr

/-- Payload of `WB_DATA` and `WB_RESULT` (R46); `data` holds 24 bytes. -/
structure WbPl where
  opid : W32
  chunk : W16
  fmt : Byte
  last : Bool
  acc : Bool
  inexact : Bool
  ovf : Bool
  data : List Byte
  deriving DecidableEq, Repr

/-- Payload of `WB_ACK` (R46). -/
structure WbAckPl where
  opid : W32
  origin : W16
  status : Byte
  deriving DecidableEq, Repr

/-- Payload of `RECORD` (R46); `data` holds 20 bytes. -/
structure RecordPl where
  rseq : W64
  chunk : W16
  last : Bool
  data : List Byte
  deriving DecidableEq, Repr

/-- Payload of `RECORD_ACK` (R46). -/
structure RecAckPl where
  rseq : W64
  status : Byte
  deriving DecidableEq, Repr

/-- Payload of `MEMBER` (R46). -/
structure MemberPl where
  die : W16
  action : Byte
  tear : Bool
  step : StepNo
  deriving DecidableEq, Repr

/-- Payload of `LATCH` (R46). -/
structure LatchPl where
  at_ : W32
  latchId : W32
  deriving DecidableEq, Repr

/-- Payload of `FAULT_NOTE` (R46). -/
structure NotePl where
  phi : Bool
  id : W16
  cause : W16
  detail : W32
  at_ : W32
  deriving DecidableEq, Repr

/-- The frame types of R45 with their payloads. -/
inductive Payload where
  | linkIdent (p : IdentPl)
  | linkCtrl (p : CtrlPl)
  | beaconReq (p : ReqPl)
  | beaconResp (p : RespPl)
  | beaconFu (p : FuPl)
  | timeInfo (p : InfoPl)
  | announce (p : LaunchPl)
  | ack (p : LaunchPl)
  | commit (p : LaunchPl)
  | abort (p : LaunchPl)
  | gateArrive (p : GatePl)
  | gateRelease (p : GatePl)
  | wbData (p : WbPl)
  | wbResult (p : WbPl)
  | wbAck (p : WbAckPl)
  | member (p : MemberPl)
  | record (p : RecordPl)
  | recordAck (p : RecAckPl)
  | latch (p : LatchPl)
  | faultNote (p : NotePl)
  deriving DecidableEq, Repr

/-- The envelope of a received frame that its receiver acts on (R43); `FTYPE`, `VER` and `REL` are checked by the frame
checks, which the row FRAME_RECEIVE_ERROR holds (R44, R45). -/
structure Env where
  plane : Plane
  up : Bool
  retx : Bool
  lseq : Byte
  lack : Byte
  basin : BitVec 12
  gen : W16
  deriving DecidableEq, Repr

/-- A whole frame: envelope and payload (R43). -/
structure Frame where
  plane : Plane
  up : Bool
  retx : Bool
  lseq : Byte
  lack : Byte
  basin : BitVec 12
  gen : W16
  pl : Payload
  deriving DecidableEq, Repr

end Sys2Proof
end

