-- ==== Sys2Proof/Syntax.lean ====
section
/-!
DEFINITION. The commands of the block: one constructor per row of the table of operations and events, with its operands.
-/

namespace Sys2Proof

/-- What an IEEE 1588 message brings to a lighthouse's slave-only ordinary clock (R65). Correction fields are in 2^-16 ns. -/
inductive PtpBody where
  /-- An Announce message, with whether the port is in `SLAVE` state after it. -/
  | announce (slave timeTraceable frequencyTraceable : Bool) (currentUtcOffset : W16) (leap61 leap59 : Bool)
  /-- A Sync message; a one-step one carries its origin time. -/
  | sync (twoStep : Bool) (seq : W16) (seconds : W64) (ns : Nat) (correction : Int)
  /-- The Follow_Up message of a two-step Sync. -/
  | followUp (seq : W16) (seconds : W64) (ns : Nat) (correction : Int)
  /-- The port's own Delay_Req message crosses the ball. -/
  | delayReq (seq : W16)
  /-- The Delay_Resp message that answers it. -/
  | delayResp (seq : W16) (seconds : W64) (ns : Nat) (correction : Int)
  /-- The L1_SYNC flags of the peer. -/
  | l1Sync (txCoherent rxCoherent : Bool)
  deriving DecidableEq, Repr

/-- An IEEE 1588 message of a management port (R65): its domain, its transport (true: UDP over IPv4), whether it was sent by
multicast, and what it brings. -/
structure PtpMsg where
  domain : Nat
  udp : Bool
  multicast : Bool
  body : PtpBody
  deriving DecidableEq, Repr

/-- A raw edge at a multiphase input (R73, R76): the always-on counter and the increment of edge E, and the coarse count and the bin
since E. -/
structure RawEdge where
  acc : BitVec 112
  inc : Int
  coarse : Nat
  bin : Nat
  deriving DecidableEq, Repr

/-- The blocks of one frame as a lane carried them, and the 58 scrambled bits before them (R39). -/
structure RxBlocks where
  before : BitVec 58
  blocks : List (BitVec 2 × BitVec 64)
  deriving DecidableEq, Repr

/-- The measurements of one region in a spine calibration (R102), in fs: means and deviations of the test strobes at
codes 0, 128 and 255, and of the tap edge. -/
structure RegionCal where
  region : Nat
  mean0 : Int
  mean128 : Int
  mean255 : Int
  meanTap : Int
  sigma0 : Nat
  sigma128 : Nat
  sigma255 : Nat
  sigmaTap : Nat
  deriving DecidableEq, Repr

/-- One berth of an interval input table (R263): its units, and the basin, step, L and first 16 bytes of the step digest of
the latest step strobed on a core of a context bound to it. -/
structure BerthIn where
  berth : Nat
  units : Nat
  basin : Nat
  step : StepNo
  digest : List Byte
  l : W64 := 0
  deriving DecidableEq, Repr

/-- An interval input table (R252, R263): the number of the interval that it is of, the unbound units of a die and its berths. -/
structure TableIn where
  no : Nat
  unbound : Nat
  berths : List BerthIn
  deriving DecidableEq, Repr

/-- What the reads of the meter's store find (R274): the copies that fail their check while the other copy is good, and a range of
`RSEQ` both copies of which fail. -/
structure StoreCheck where
  single : Nat := 0
  both : Option (Nat × Nat) := none
  deriving DecidableEq, Repr

/-- A check of a lane, or of the rounding, that failed at a Phidor while a frame was taken (R239, R240): the lane, or 0xFFFF for the
rounding check, whether its repeat failed too, and the chunks that it affects by basin, generation, operation and data chunk. Which
chunks use a lane is not stated (R234): it comes with the command (log entry 77). -/
structure LaneCheck where
  lane : Nat
  again : Bool
  hit : List (Nat × Nat × W32 × Nat)
  deriving DecidableEq, Repr

/-- The commands: one constructor for each row of the table of operations and events. -/
inductive Instr where
  /-- `AON_POWER_ON` (R14): Start of the always-on supply sets HT and RATE_ADJ to zero and the time state to FREE. -/
  | aonPowerOn
  /-- `REF_CLOCK_LOST` (R25): The always-on reference clock is missing for 64 ns, so the part enters FAULT with its accumulator held. -/
  | refClockLost (p : Part)
  /-- `HT_PARITY` (R25): A lasting parity fault on the HT accumulator sends the part to FAULT. -/
  | htParity (p : Part)
  /-- `HOLDOVER_WINDOW_EXPIRY` (R25): 100 ms after entry to HOLDOVER the part moves to DEGRADED and keeps RATE_ADJ. -/
  | holdoverWindowExpiry (p : Part)
  /-- `HT_HOLD_END` (R27): A hold of HT has counted down its amount d, and HT resumes at the parent's HT. -/
  | htHoldEnd (p : Part)
  /-- `PLANE_REVERT` (R59): The preferred plane has met the standby conditions for 1 s while LOCKED, so the TSU returns to it without a step. -/
  | planeRevert
  /-- `BEACON_LOSS` (R53): Four beacon periods pass without an accepted exchange, so the plane's beacons count as lost and the time state and plane choice change under R25, R59 and R453. -/
  | beaconLoss (p : Part) (port : Nat)
  /-- `LIGHTHOUSE_OBTAIN_HT` (R19): A FREE lighthouse takes HT from the first available source, steps or holds, and enters LOCKED. -/
  | lighthouseObtainHt
  /-- `TRACE_WINDOW_EXPIRY` (R18): TRACE_WINDOW expires, and the lighthouse moves from TRACE_HOLDOVER to UNTRACEABLE. -/
  | traceWindowExpiry
  /-- `REFERENCE_LOST` (R17): The external 10 MHz/1PPS reference becomes invalid; the lighthouse freezes its rate and enters TRACE_HOLDOVER. -/
  | referenceLost
  /-- `REFERENCE_VALID` (R18): The external reference becomes valid again; the lighthouse returns to TRACEABLE and steers by rate alone. -/
  | referenceValid
  /-- `PPS_EDGE` (R61): At a 1PPS edge the lighthouse stamps it and computes its offset from TAI for its discipline. -/
  | ppsEdge (chan core c n : Nat)
  /-- `PPS_OFFSET_SEND` (R63): Each second the follower lighthouse sends its 1PPS offset upstream in TIME_INFO. -/
  | ppsOffsetSend
  /-- `PTP_MESSAGE` (R65): A lighthouse management port receives an IEEE 1588 message, timestamps it and updates its TAI mapping and leap flags. -/
  | ptpMessage (port coarse bin : Nat) (m : PtpMsg)
  /-- `LEAP_SECOND` (R16): At the end of the announced UTC day TAI_UTC_S changes, while HT does not. -/
  | leapSecond
  /-- `HT_EPOCH` (R15): The host sends a new hall epoch to a FREE master lighthouse, which stores it and applies R19. -/
  | htEpoch (ring idx : Nat)
  /-- `HT_EPOCH_CLEAR` (R295): HT_EPOCH with CLEAR set erases the stored epoch and the saved HT from module storage. -/
  | htEpochClear (ring idx : Nat)
  /-- `HT_LOAD` (R28): A write of the highest word of HT_LOAD loads HT in FREE if the value is not lower, and otherwise sets HT_LOAD_REJ. -/
  | htLoad (word : W32)
  /-- `HT_SNAP_GO` (R37): A write of GO clears VALID, latches a time status block at the next always-on cycle and sets VALID. -/
  | htSnapGo (p : Part)
  /-- `HT_SAVE_TIMER` (R416): Once per second a LOCKED lighthouse writes its HT to module storage. -/
  | htSaveTimer
  /-- `SIGNAL_DETECTED` (R40): Signal appears on the receive pair of a DOWN port, which enters SIGNAL. -/
  | signalDetected (p : Part) (port : Nat)
  /-- `CLOCK_RECOVERY_LOCK` (R40): Clock recovery locks and the port enters BLOCK_LOCK. -/
  | clockRecoveryLock (p : Part) (port : Nat)
  /-- `BLOCK_LOCK_ACQUIRED` (R40): 64 valid sync headers have been seen and the TDC holds accepted tables, so the port enters IDENT. -/
  | blockLockAcquired (p : Part) (port : Nat)
  /-- `LINK_IDENT_SEND` (R40): Every 10 µs in IDENT the port sends LINK_IDENT. -/
  | linkIdentSend (p : Part) (port : Nat)
  /-- `LINK_IDENT_RECEIVE` (R41): A LINK_IDENT frame is received and checked for plane, topology and duplicate die, and the port enters CAL or is refused. -/
  | linkIdentReceive (p : Part) (port : Nat) (e : Env) (f : IdentPl)
  /-- `LINK_TRAIN_TIMEOUT` (R40): A link-state time limit expires, so the port returns to DOWN and counts a failed attempt. -/
  | linkTrainTimeout (p : Part) (port : Nat)
  /-- `LINK_RETRY_TIMER` (R40): After LINK_FAILED the part retries training every 10 s. -/
  | linkRetryTimer (p : Part) (port : Nat)
  /-- `BLOCK_LOCK_LOST` (R40): An UP port loses block lock and returns to DOWN; a second loss within 1 s is a lasting channel fault. -/
  | blockLockLost (p : Part) (port : Nat)
  /-- `FRAME_RECEIVE_ERROR` (R44): A received frame fails CRC16, BPAR, REL, FTYPE or VER checks and is discarded, with a NAK where reliable. -/
  | frameReceiveError (p : Part) (port : Nat) (rx : RxBlocks)
  /-- `LINK_CTRL_ACK` (R47): A LINK_CTRL ACK advances the peer's acknowledgement and frees replay slots. -/
  | linkCtrlAck (p : Part) (port : Nat) (e : Env)
  /-- `LINK_CTRL_NAK` (R47): A LINK_CTRL NAK makes the sender retransmit, once, every unacknowledged frame from the named LSEQ. -/
  | linkCtrlNak (p : Part) (port : Nat) (e : Env) (arg : Byte)
  /-- `LINK_ACK_TIMER` (R47): A receiver with no frame to send within 1 µs of a reliable frame sends LINK_CTRL ACK. -/
  | linkAckTimer (p : Part) (port : Nat)
  /-- `RETX_TIMEOUT` (R47): LACK has not advanced within 4 µs of a transmission, so the sender retransmits from the oldest unacknowledged frame. -/
  | retxTimeout (p : Part) (port : Nat)
  /-- `LANE_TRANSMIT` (R175): A free lane direction picks its next queued reliable frame in class order and sends it. -/
  | laneTransmit (p : Part) (port : Nat)
  /-- `BEACON_REQ_SEND` (R50): At the scheduled HT the child sends BEACON_REQ and stamps t1, or skips it when the fast logic is late. -/
  | beaconReqSend (p : Part) (port core : Nat)
  /-- `BEACON_REQ_RECEIVE` (R50): The parent receives BEACON_REQ and stamps t2. -/
  | beaconReqReceive (p : Part) (port core : Nat) (e : Env) (f : ReqPl)
  /-- `BEACON_RESP_SEND` (R50): Between t2 + 1 µs and t2 + 2 µs the parent sends BEACON_RESP and stamps t3. -/
  | beaconRespSend (p : Part) (port core : Nat)
  /-- `BEACON_RESP_RECEIVE` (R50): The child receives BEACON_RESP and stamps t4. -/
  | beaconRespReceive (p : Part) (port core : Nat) (e : Env) (f : RespPl)
  /-- `BEACON_FU_SEND` (R50): Once its stamps are converted, the parent sends BEACON_FU carrying t2 and t3. -/
  | beaconFuSend (p : Part) (port : Nat)
  /-- `BEACON_FU_RECEIVE` (R52): The child computes θ and d, accepts or rejects the exchange, updates the correction and the rate, and evaluates time-state transitions. -/
  | beaconFuReceive (p : Part) (port : Nat) (e : Env) (f : FuPl)
  /-- `BEACON_EXCHANGE_ABANDON` (R50): No BEACON_FU has arrived by t1 + 16 µs, so the child abandons the exchange. -/
  | beaconExchangeAbandon (p : Part) (port : Nat)
  /-- `LINK_CTRL_CAL_START` (R55): CAL_START sets the beacon period to 2^14 ns at both ends for calibration. -/
  | linkCtrlCalStart (p : Part) (port : Nat) (rx : Option Env)
  /-- `LINK_CTRL_TURN` (R55): TURN makes both ends reverse both pairs within 2 µs and wait for block lock. -/
  | linkCtrlTurn (p : Part) (port : Nat) (rx : Option Env) (swapped : Bool)
  /-- `LINK_CTRL_CAL_END` (R55): CAL_END returns both ends to normal direction. -/
  | linkCtrlCalEnd (p : Part) (port : Nat) (rx : Option Env)
  /-- `LINK_CTRL_RETRAIN` (R46): A LINK_CTRL RETRAIN frame is received. -/
  | linkCtrlRetrain (p : Part) (port : Nat) (e : Env)
  /-- `ASYM_CAL_COMPLETE` (R56): After 1,024 quads the child computes A and its spread and accepts, repeats or fails the calibration. -/
  | asymCalComplete (p : Part) (port : Nat)
  /-- `ASYM_RECAL_TIMER` (R57): Every ASYM_RECAL_S seconds the TSU recalibrates one port in service. -/
  | asymRecalTimer (port : Nat)
  /-- `LINK_RECAL` (R295): The host command recalibrates a port and completes when the calibration is accepted or fails. -/
  | linkRecal (p : Part) (ring idx : Nat)
  /-- `TIME_INFO_SEND` (R64): Each UP Phidor port sends TIME_INFO at link-up, within 10 µs of a change, and otherwise every 2^20 ns. -/
  | timeInfoSend (port : Nat)
  /-- `TIME_INFO_RECEIVE` (R62): A received TIME_INFO updates trace state, TAI-UTC offset, leap flags and epoch. -/
  | timeInfoReceive (p : Part) (port : Nat) (e : Env) (f : InfoPl)
  /-- `LIGHTHOUSE_MASTER` (R64): The host command moves the master role to the follower lighthouse. -/
  | lighthouseMaster (ring idx : Nat)
  /-- `TDC_CONVERSION_DONE` (R76): A TDC input or vernier core finishes converting an edge into an HT stamp. -/
  | tdcConversionDone (p : Part) (chan input a b : Nat) (ok : Bool)
  /-- `CODE_DENSITY_RUN_COMPLETE` (R79): A multiphase code-density run ends with 2^20 hits and its table is accepted, repeated or failed. -/
  | codeDensityRunComplete (p : Part) (chan : Nat) (hists : List (List Nat))
  /-- `VERNIER_CAL_COMPLETE` (R81): A vernier core's fit of LSB and OFS ends and is accepted or rejected, and the core roles rotate. -/
  | vernierCalComplete (p : Part) (chan core : Nat) (sums : List Nat)
  /-- `TDC_RECAL_TIMER` (R79): Every TDC_RECAL_S seconds a channel starts a code-density calibration. -/
  | tdcRecalTimer (p : Part) (chan : Nat)
  /-- `TEMPERATURE_MOVE` (R79): Die or module temperature has moved by more than 4 °C since the last run, which starts TDC and spine calibrations. -/
  | temperatureMove (p : Part) (centi : Int)
  /-- `TDC_MEASURE_INTERVAL` (R84): A TDC_MEASURE in INTERVAL mode starts collecting stop-minus-start samples. -/
  | tdcMeasureInterval (p : Part) (ring idx : Nat)
  /-- `TDC_MEASURE_FREQUENCY` (R84): A TDC_MEASURE in FREQUENCY mode starts collecting gated prescaled intervals. -/
  | tdcMeasureFrequency (p : Part) (ring idx : Nat)
  /-- `TDC_MEASURE_BEACON` (R84): A TDC_MEASURE in BEACON mode starts collecting θ of accepted exchanges. -/
  | tdcMeasureBeacon (p : Part) (ring idx : Nat)
  /-- `TDC_MEASURE_CODE_DENSITY` (R84): A TDC_MEASURE in CODE_DENSITY mode runs a calibration at once and reports its figures. -/
  | tdcMeasureCodeDensity (p : Part) (ring idx : Nat)
  /-- `TDC_MEASURE_COMPLETE` (R83): N samples have been taken, and the statistics record is written and the command completes. -/
  | tdcMeasureComplete (p : Part) (chan : Nat) (starts : List RawEdge) (ends : List (List RawEdge))
  /-- `TDC_MEASURE_TIMEOUT` (R84): TIMEOUT_US expires before N samples, and the record is written with TIMEOUT over COUNT. -/
  | tdcMeasureTimeout (p : Part) (chan : Nat) (starts : List RawEdge) (ends : List (List RawEdge))
  /-- `REGION_WATCH_RESULT` (R87): A region watch completes N samples, writes its result to the state page and checks the band. -/
  | regionWatchResult (region : Nat) (starts : List RawEdge) (ends : List (List RawEdge))
  /-- `FAST_WAKE_REQUEST` (R91): A timed wake or other wake request starts the spine PLL and the fast logic. -/
  | fastWakeRequest
  /-- `SPINE_PLL_LOCK` (R92): The spine PLL locks and the spine switches to fast mode at the next always-on edge. -/
  | spinePllLock (p : Part)
  /-- `SPINE_PLL_LOCK_TIMEOUT` (R96): The PLL fails to lock within 2.5 µs; it restarts, or moves to SOSC1 on a second failure. -/
  | spinePllLockTimeout (p : Part)
  /-- `FAST_IDLE_EXPIRY` (R94): No keep-running condition has held for FAST_IDLE_US, so the spine goes to slow mode and the fast logic stops. -/
  | fastIdleExpiry
  /-- `FAST_FORCE_WRITE` (R93): A write of FAST_FORCE starts the fast logic or keeps it running. -/
  | fastForceWrite (v : Bool)
  /-- `SPINE_PARITY` (R98): A region crossing finds a parity error in the HT word; a second one in a row is a lasting fault. -/
  | spineParity (region : Nat)
  /-- `CORE_HT_READ` (R99): A core reads HT through its region crossing and gets a monotonic HT_NS. -/
  | coreHtRead (region core : Nat)
  /-- `REGION_FIFO_CONSUME` (R100): A region consumes an event FIFO entry: a strobe starts armed slots and resets REGION_CYC, and wakes resume contexts. -/
  | regionFifoConsume (region : Nat)
  /-- `CROSSING_SLIP` (R107): An entry is not consumed by CROSS_MARGIN_NS after its write, and a slip is recorded. -/
  | crossingSlip (region : Nat)
  /-- `REGION_POWER_CHANGE` (R101): A region's controller reports it powered off or on, and its FIFO entries are kept for in-order delivery. -/
  | regionPowerChange (region : Nat) (off : Bool)
  /-- `STRETCH_EVENT` (R105): A region reports stretched periods, which are added to STRETCH_CNT and STRETCH_SLOT. -/
  | stretchEvent (region count : Nat)
  /-- `SPINE_CAL_RUN_COMPLETE` (R103): A spine calibration of the regions ends, and accepted values take effect or the region is remeasured or failed. -/
  | spineCalRunComplete (runs : List RegionCal)
  /-- `SPINE_RECAL_TIMER` (R103): Every SPINE_RECAL_S seconds the TSU starts a spine calibration. -/
  | spineRecalTimer
  /-- `BASIN_CREATE` (R121): The Phidor creates a basin in LOADING after its checks. -/
  | basinCreate (ring idx : Nat) (dies : List Nat)
  /-- `TIDE_LOAD` (R123): The Phidor checks and writes tide entries, or queues a patch for AT_STEP. -/
  | tideLoad (ring idx : Nat) (data : List Byte)
  /-- `BASIN_START` (R124): The Phidor validates the whole table, enters RUNNING and sends joins to the initial members. -/
  | basinStart (ring idx : Nat)
  /-- `BASIN_PARK` (R125): The sequencer stops issuing steps and parks once issued steps have settled. -/
  | basinPark (ring idx : Nat)
  /-- `BASIN_RESUME` (R125): A parked basin resumes at the entry where it stopped. -/
  | basinResume (ring idx : Nat)
  /-- `BASIN_DESTROY` (R125): The Phidor parks the basin, sends leaves with TEAR set, enters DESTROYING and waits for purge confirmations. -/
  | basinDestroy (ring idx : Nat)
  /-- `BASIN_LEAD` (R125): The host moves the basin's leadership to the named plane. -/
  | basinLead (ring idx : Nat)
  /-- `MEMBER_LIST` (R125): The host stores a change list for MEMBER_ADD and MEMBER_DEL. -/
  | memberList (ring idx : Nat) (dies : List Nat)
  /-- `TIDE_NOP` (R126): A NOP entry executes without effect. -/
  | tideNop (basin : Nat)
  /-- `TIDE_LAUNCH` (R130): A LAUNCH entry whose waits are satisfied chooses L, takes a snapshot and issues the step. -/
  | tideLaunch (basin : Nat)
  /-- `ANNOUNCE_SEND` (R154): At L − ANN_LEAD_US the leading sequencer sends the step's ANNOUNCE down its plane. -/
  | announceSend (basin : Nat) (step : StepNo)
  /-- `TIDE_REDUCE` (R132): A REDUCE entry opens a weighbridge operation for the current step. -/
  | tideReduce (basin : Nat)
  /-- `TIDE_GATE_WAIT` (R133): A GATE_WAIT entry waits for the next release of a hall gate and sets the launch floor. -/
  | tideGateWait (basin : Nat)
  /-- `GATE_WAIT_TIMEOUT` (R133): A GATE_WAIT expires with no release and is treated as a gate timeout. -/
  | gateWaitTimeout (basin : Nat)
  /-- `TIDE_BRANCH` (R137): A BRANCH entry waits for its predicate register and chooses TARGET or the next entry. -/
  | tideBranch (basin : Nat)
  /-- `BRANCH_WAIT_TIMEOUT` (R138): The predicate stays invalid for the branch's wait limit, so the basin parks with reason 7. -/
  | branchWaitTimeout (basin : Nat)
  /-- `TIDE_LOOP_SET` (R139): A LOOP_SET entry loads a loop counter. -/
  | tideLoopSet (basin : Nat)
  /-- `TIDE_LOOP_BACK` (R139): A LOOP_BACK entry decrements its counter and jumps or falls through. -/
  | tideLoopBack (basin : Nat)
  /-- `TIDE_METER_MARK` (R134): A METER_MARK entry marks the next step for a totals close and a ledger mark entry at its L. -/
  | tideMeterMark (basin : Nat)
  /-- `TIDE_MEMBER_ADD` (R140): A MEMBER_ADD entry stages joins for the next launched step. -/
  | tideMemberAdd (basin : Nat)
  /-- `TIDE_MEMBER_DEL` (R140): A MEMBER_DEL entry stages leaves for the next launched step. -/
  | tideMemberDel (basin : Nat)
  /-- `TIDE_PRED_SET` (R136): A PRED_SET entry writes IMM to a predicate register as a valid INT64. -/
  | tidePredSet (basin : Nat)
  /-- `TIDE_PARK` (R127): A PARK entry parks the basin with reason 1 and its argument. -/
  | tidePark (basin : Nat)
  /-- `TIDE_END` (R150): An END entry ends the basin once every issued step has settled. -/
  | tideEnd (basin : Nat)
  /-- `TIDE_FETCH_DONE` (R319): An entry that was missing from the sequencer window arrives from memory and the sequencer continues. -/
  | tideFetchDone (basin : Nat)
  /-- `STEP_COMMIT_TIMER` (R151): At L + 20 µs without a lower ABORT, the step counts as committed. -/
  | stepCommitTimer (basin : Nat) (step : StepNo)
  /-- `MEMBER_CONFIRM_TIMEOUT` (R176): Join confirmations are not complete within WAIT_US, so the basin parks with reason 4. -/
  | memberConfirmTimeout (basin : Nat)
  /-- `LEAD_TIMEOUT` (R149): A follower waits LEAD_TIMEOUT_US at a LAUNCH with no ACK and becomes the leader. -/
  | leadTimeout (basin : Nat)
  /-- `ABORT_WAVE_COMPLETE` (R169): 20 µs after its first ABORT the sequencer takes the wave as complete and reissues or parks. -/
  | abortWaveComplete (basin : Nat)
  /-- `ANNOUNCE_RECEIVE` (R158): A TSU judges an ANNOUNCE, fetches the launch row, arms the launch and answers with ACK. -/
  | announceReceive (port : Nat) (e : Env) (f : LaunchPl)
  /-- `LAUNCH_ROW_FETCHED` (R158): The launch table row returns to the TSU, the remaining checks run, and the launch is armed with mailbox slots written. -/
  | launchRowFetched (basin : Nat) (step : StepNo) (row : List Byte) (parityOk : Bool)
  /-- `ROW_FETCH_TIMEOUT` (R158): The launch row is not returned within 800 ns and the ANNOUNCE is answered with TIMEOUT. -/
  | rowFetchTimeout (basin : Nat) (step : StepNo)
  /-- `ANNOUNCE_FORWARD` (R153): A Phidor forwards an ANNOUNCE to member ports within 150 ns. -/
  | announceForward (port : Nat) (e : Env) (f : LaunchPl)
  /-- `ACK_RECEIVE` (R155): A Phidor aggregates an ACK; a sequencer learns, leads or commits from it, or aborts on a refusal. -/
  | ackReceive (port : Nat) (e : Env) (f : LaunchPl)
  /-- `COMMIT_CUTOFF` (R157): A sequencer reaches its commit cutoff without a full count and sends nothing for the step. -/
  | commitCutoff (basin : Nat) (step : StepNo)
  /-- `COMMIT_RECEIVE` (R163): A TSU records a COMMIT for an armed launch of the same STEP and BELL. -/
  | commitReceive (port : Nat) (e : Env) (f : LaunchPl)
  /-- `COMMIT_FORWARD` (R153): A Phidor forwards a COMMIT down its member ports. -/
  | commitForward (port : Nat) (e : Env) (f : LaunchPl)
  /-- `COMMIT_DEADLINE` (R163): At L − 2 µs, an armed launch without COMMIT is disarmed and starts the abort wave. -/
  | commitDeadline (basin : Nat) (step : StepNo)
  /-- `FAST_READY_CHECK` (R96): At L − 1 µs the fast logic is not ready, so FAST_WAKE_LATE is recorded and the abort wave starts. -/
  | fastReadyCheck (basin : Nat) (step : StepNo)
  /-- `STROBE_DECISION` (R164): At L − 128 ns the TSU settles which committed launches and gate edges it will drive. -/
  | strobeDecision (bell : W64)
  /-- `DELAY_LINE_FIRE` (R104): At L − STROBE_DLY the TSU fires a region's delay line to place the strobe at L. -/
  | delayLineFire (region : Nat) (bell : W64)
  /-- `ABORT_RECEIVE` (R168): A TSU applies a new ABORT, disarms and aborts slots, notifies cores, sets the fence and relays it. -/
  | abortReceive (port : Nat) (e : Env) (f : LaunchPl)
  /-- `ABORT_FORWARD` (R167): A Phidor propagates a new ABORT and discards counts, contexts and data of the cancelled steps; a sequencer rolls back. -/
  | abortForward (port : Nat) (e : Env) (f : LaunchPl)
  /-- `SLOT_DONE_WRITE` (R162): A core writes DONE to a STARTED or ABORTED slot, which is stamped and becomes EMPTY. -/
  | slotDoneWrite (core slot : Nat)
  /-- `BASIN_ATTACH` (R159): The TSU attaches a basin's launch table. -/
  | basinAttach (ring idx : Nat)
  /-- `CORESET_WRITE` (R161): The TSU writes an entry of its core-set table. -/
  | coresetWrite (ring idx : Nat)
  /-- `SOFT_REQUEST` (R178): A power or pre-empt soft request arrives and is granted at once or deferred while a ring step is in flight. -/
  | softRequest (request : Nat)
  /-- `SOFT_REQUEST_GRANT` (R178): After the ring step ends, the deferred request is granted at the next bell of that basin. -/
  | softRequestGrant
  /-- `THROTTLE_DEFER_TIMEOUT` (R178): THROTTLE_DEFER_US passes, so the request is granted and counted as late. -/
  | throttleDeferTimeout (request : Nat)
  /-- `HARD_LIMIT` (R179): A thermal trip, current limit or forced pre-emption is applied at once and counted if a ring step is in flight. -/
  | hardLimit
  /-- `MEMBER_RECEIVE` (R118): A TSU handles a MEMBER join or leave, joining, discarding, refusing or starting a purge. -/
  | memberReceive (port : Nat) (e : Env) (f : MemberPl)
  /-- `MEMBER_FORWARD` (R141): A Phidor updates its member counts from a passing MEMBER frame, or counts a confirmation at the sequencer. -/
  | memberForward (port : Nat) (e : Env) (f : MemberPl)
  /-- `BASIN_PURGE_COMPLETE` (R451): A TSU finishes purging a basin and sends MEMBER purge confirmation up both ports. -/
  | basinPurgeComplete (basin : Nat)
  /-- `FLAG_SET` (R185): A sync request sets a flag and wakes its waiters. -/
  | flagSet (core ctx index : Nat)
  /-- `FLAG_CLEAR` (R185): A sync request clears a flag. -/
  | flagClear (core ctx index : Nat)
  /-- `FLAG_TEST` (R185): A sync request reads a flag and may consume it. -/
  | flagTest (core ctx index : Nat) (consume : Bool)
  /-- `FLAG_WAIT` (R185): A sync request waits until a flag is set, possibly consuming it. -/
  | flagWait (core ctx index : Nat) (consume : Bool) (timeoutUs : Nat)
  /-- `TALLY_ADD` (R185): A sync request adds to a tally, wakes satisfied waiters and checks WINDOW. -/
  | tallyAdd (core ctx index : Nat) (operand : W32)
  /-- `TALLY_READ` (R185): A sync request reads a tally. -/
  | tallyRead (core ctx index : Nat)
  /-- `TALLY_WAIT` (R187): A sync request waits until a tally reaches its operand by modular comparison. -/
  | tallyWait (core ctx index : Nat) (operand : W32) (timeoutUs : Nat)
  /-- `DG_ARRIVE` (R191): A participant arrives at a die gate and continues; the gate opens when the use completes. -/
  | dgArrive (core ctx gate : Nat)
  /-- `DG_ARRIVE_WAIT` (R191): A participant arrives at a die gate and waits for that use to open. -/
  | dgArriveWait (core ctx gate timeoutUs : Nat)
  /-- `DG_WAIT` (R185): A request waits for a die gate use without arriving. -/
  | dgWait (core ctx gate : Nat) (operand : W32) (timeoutUs : Nat)
  /-- `HG_ARRIVE_WAIT` (R197): A participant arrives at a hall gate proxy and waits for the release of that use. -/
  | hgArriveWait (core ctx proxy timeoutUs : Nat)
  /-- `HG_WAIT` (R185): A request waits for a hall gate use without arriving. -/
  | hgWait (core ctx proxy : Nat) (operand : W32) (timeoutUs : Nat)
  /-- `SYNC_WAIT_TIMEOUT` (R195): A flag, tally or hall gate wait reaches its own TIMEOUT_US and completes with TIMEOUT. -/
  | syncWaitTimeout (waiter : Nat)
  /-- `DG_GATE_TIMEOUT` (R192): A die gate wait reaches the gate's limit, completes with TIMEOUT and records GATE_TIMEOUT. -/
  | dgGateTimeout (waiter : Nat)
  /-- `GATE_CONFIG` (R190): The host configures a die gate's mask and timeout. -/
  | gateConfig (ring idx : Nat)
  /-- `PROXY_BIND` (R197): The host binds a proxy to a basin and hall gate. -/
  | proxyBind (ring idx : Nat)
  /-- `PROXY_UNBIND` (R197): PROXY_BIND with UNBIND set releases a proxy. -/
  | proxyUnbind (ring idx : Nat)
  /-- `GATE_ARRIVE_RECEIVE` (R199): A Phidor counts a GATE_ARRIVE, forwards aggregates, and at the leader releases a full use. -/
  | gateArriveReceive (port : Nat) (e : Env) (f : GatePl)
  /-- `GATE_CONTEXT_FREE` (R199): A non-sequencing counting context is freed 100 µs after its last release. -/
  | gateContextFree (basin gen gate : Nat)
  /-- `FOLLOWER_RELEASE_TIMER` (R201): 4 µs after its total became full with no release seen, the follower sends its own GATE_RELEASE. -/
  | followerReleaseTimer (basin gate : Nat)
  /-- `GATE_RELEASE_RECEIVE` (R202): A TSU applies or discards a GATE_RELEASE and relays it; a late one completes waits at once. -/
  | gateReleaseReceive (port : Nat) (e : Env) (f : GatePl)
  /-- `GATE_RELEASE_FORWARD` (R202): A Phidor propagates a new GATE_RELEASE as it does an ABORT. -/
  | gateReleaseForward (port : Nat) (e : Env) (f : GatePl)
  /-- `GATE_RELEASE_BELL` (R202): In the cycle that contains RB the TSU sets RELEASED and completes host waits of the use. -/
  | gateReleaseBell (proxy : Nat)
  /-- `HALL_GATE_TIMEOUT` (R204): A use reaches WAIT_US without a full count, so the sequencer records GATE_TIMEOUT and sends ABORT. -/
  | hallGateTimeout (basin gate : Nat)
  /-- `PROXY_BACKSTOP_TIMEOUT` (R205): A proxy sees no release or abort within TIMEOUT_US + 100 µs, so it times out its waits and clears its arrivals. -/
  | proxyBackstopTimeout (proxy : Nat)
  /-- `GATE_ARRIVE_HOLD_END` (R206): At F + 60 µs after an abort the TSU sends the GATE_ARRIVE frames it held. -/
  | gateArriveHoldEnd (proxy : Nat)
  /-- `SYNC_OP` (R208): The host carries a sync request in a descriptor, with its response written to RESULT_ADDR. -/
  | syncOp (ring idx : Nat)
  /-- `REMOTE_SIGNAL` (R212): A remote FLAG_SET or TALLY_ADD arrives, attached or separate, and is applied, parked or refused. -/
  | remoteSignal (bytes : List Byte) (written : Nat)
  /-- `DATA_MOVER_PACKET_REPORT` (R212): The data mover reports a packet of a pending transfer, and the signal is applied when the count reaches PKTS. -/
  | dataMoverPacketReport (sender tag : W16) (written : Nat)
  /-- `PEND_TIMEOUT` (R213): A pending entry has waited PEND_TIMEOUT_US, so FLAG_ORPHAN is recorded and the entry freed unapplied. -/
  | pendTimeout (entry : Nat)
  /-- `CTX_SAVE` (R214): The TSU captures a core's object set and waits into an image and unloads the set. -/
  | ctxSave (ring idx : Nat)
  /-- `CTX_RESTORE` (R216): The TSU loads an object-set image into a core and re-arms its waits. -/
  | ctxRestore (ring idx : Nat) (img : List Byte)
  /-- `SYNC_VIEW` (R218): The TSU writes view entries of one object kind, optionally clearing sticky bits. -/
  | syncView (ring idx : Nat)
  /-- `SYNC_DUMP` (R219): The TSU writes a post-mortem dump of its synchronisation objects. -/
  | syncDump (ring idx : Nat)
  /-- `WB_SUBMIT` (R225): A contribution request from a core or a descriptor is judged and, on OK, its chunks are sent on both ports. -/
  | wbSubmit (desc : Option (Nat × Nat)) (req data : List Byte)
  /-- `WB_DATA_RECEIVE` (R230): A Phidor accumulates or forwards a contribution chunk and, on completion, sends a partial up or releases a result. -/
  | wbDataReceive (port : Nat) (e : Env) (f : WbPl) (check : Option LaneCheck)
  /-- `WB_RESULT_RECEIVE` (R241): A TSU writes a result data chunk to DST_ADDR unless already verified, or compares a second copy. -/
  | wbResultReceive (port : Nat) (e : Env) (f : WbPl)
  /-- `WB_RESULT_FORWARD` (R232): A Phidor forwards a result chunk down its plane, or a gathered one towards its die. -/
  | wbResultForward (port : Nat) (e : Env) (f : WbPl)
  /-- `WB_RESIDUE_CHUNK_RECEIVE` (R241): A TSU verifies chunks against a residue chunk and sets READY and sends WB_ACK when all are verified. -/
  | wbResidueChunkReceive (port : Nat) (e : Env) (f : WbPl)
  /-- `WB_CLOSED_RECEIVE` (R242): A TSU applies a CLOSED control chunk when READY, writing OK and relaying it, or holds it. -/
  | wbClosedReceive (port : Nat) (e : Env) (f : WbPl)
  /-- `WB_FAILED_RECEIVE` (R245): A TSU receives a FAILED control chunk and re-fetches or starts the abort wave. -/
  | wbFailedReceive (port : Nat) (e : Env) (f : WbPl)
  /-- `WB_ACK_OK` (R242): A sequencing Phidor counts WB_ACK OK and closes the operation when every member has acknowledged. -/
  | wbAckOk (port : Nat) (e : Env) (f : WbAckPl)
  /-- `WB_ACK_PARITY` (R243): A sequencing Phidor resends its retained result, serving a passing mirror copy or FAILED. -/
  | wbAckParity (port : Nat) (e : Env) (f : WbAckPl) (bad0 bad1 : List Nat)
  /-- `WB_TIMEOUT` (R245): READY is still 0 after WB_TIMEOUT_US, so the TSU ends the operation and starts the abort wave. -/
  | wbTimeout (basin gen : Nat) (opid : W32)
  /-- `WB_DATA_HOLD_END` (R246): At F + 60 µs after an abort the TSU sends the WB_DATA it held. -/
  | wbDataHoldEnd (basin gen : Nat) (opid : W32)
  /-- `ADC_SAMPLE` (R256): The meter master takes a voltage and current sample and accumulates its energy. -/
  | adcSample (frame retry : List Byte)
  /-- `METER_INTERVAL_CLOSE` (R259): A grid boundary or a fault-time boundary closes a meter interval and its energy is fixed. -/
  | meterIntervalClose (cycles since : Nat)
  /-- `INTERVAL_TABLE_HANDOFF` (R263): After an interval boundary a TSU hands its berth units and digests to its meter section, which may pass them to the master. -/
  | intervalTableHandoff (addr : Nat) (table : Option TableIn)
  /-- `INPUT_CUTOFF` (R264): At the interval end + 5 ms the master merges the tables, allocates energy and writes the records. -/
  | inputCutoff (check : StoreCheck)
  /-- `ACTIVITY_REPORT` (R263): An activity-unit report is added to its context's berth for the open interval. -/
  | activityReport (report : W32)
  /-- `BERTH_BIND` (R262): The host binds a context to a berth from AT_NS. -/
  | berthBind (ring idx : Nat)
  /-- `POWER_FAIL` (R259): The 52 V input falls below 36 V, closing the interval with POWER_FAIL and sealing the block. -/
  | powerFail (cycles since : Nat)
  /-- `METER_START` (R253): At supply start the meter checks ROM and parameters, halts or writes a POWER record, and reseals unsealed records. -/
  | meterStart (strapMaster : Bool) (masters : Nat) (romOk paramOk : Bool)
  /-- `TAMPER_OPEN` (R280): The tamper loop stays open 1 ms, so the meter enters SEAL_BROKEN. -/
  | tamperOpen
  /-- `BLOCK_SEAL_TIMER` (R268): MTR_BLOCK_MS passes since the block's first record, so the block is sealed. -/
  | blockSealTimer
  /-- `BLOCK_SEALED` (R270): A block's chaining and signature are complete, and the TSU sends it with its records as a RECORD transfer. -/
  | blockSealed (check : StoreCheck)
  /-- `RECORD_ACK_RECEIVE` (R273): The meter master frees, resends or waits according to the RECORD_ACK status. -/
  | recordAckReceive (port : Nat) (e : Env) (f : RecAckPl) (check : StoreCheck)
  /-- `RECORD_RESEND_TIMER` (R272): A sent block is not acknowledged within MTR_ACK_MS, so blocks are sent again from the oldest. -/
  | recordResendTimer
  /-- `MTR_PARAM` (R275): The host writes a meter parameter, as allowed by the meter state, with logging. -/
  | mtrParam (ring idx : Nat)
  /-- `MTR_STATE_SEAL` (R279): MTR_STATE to METER_SEALED starts a new epoch, generates a key pair and logs SEAL and KEY. -/
  | mtrStateSeal (ring idx cycles since : Nat)
  /-- `MTR_STATE_OPEN` (R281): MTR_STATE to METER_OPEN re-verifies: it wipes the store and key and logs UNSEAL. -/
  | mtrStateOpen (ring idx cycles since : Nat)
  /-- `MTR_LOG_READ` (R295): The host reads logbook entries from the meter master. -/
  | mtrLogRead (ring idx : Nat)
  /-- `MTR_MIRROR_READ` (R432): A read of MTR_MIRROR word 0 latches the whole meter status block for the following word reads. -/
  | mtrMirrorRead
  /-- `RING_ENTRY_STAGE` (R430): A write to a ring base table word other than the EN word is staged. -/
  | ringEntryStage (p : Part) (ring off : Nat) (data : List Byte)
  /-- `RING_ENABLE` (R430): A write that sets EN applies the staged entry after its checks, or queues the enable while draining. -/
  | ringEnable (p : Part) (ring off : Nat) (data : List Byte)
  /-- `RING_DISABLE` (R286): Clearing EN puts the ring into DRAINING. -/
  | ringDisable (p : Part) (ring off : Nat) (data : List Byte)
  /-- `RING_DRAIN_COMPLETE` (R286): A draining ring holds no command or held completion, and becomes DISABLED or takes its pending enable. -/
  | ringDrainComplete (p : Part) (ring : Nat)
  /-- `DOORBELL_WRITE` (R290): The part sees a doorbell line change, takes PROD and CPL_CONS after checks, and writes held completions. -/
  | doorbellWrite (p : Part) (ring : Nat) (prod cons : W32)
  /-- `POLL_ROUND` (R290): Every POLL_US without CXL.cache the Phidor reads every watched line. -/
  | pollRound (doorbells : List (Nat × W32 × W32)) (cons hb : W64) (overrun : Bool)
  /-- `DESCRIPTOR_FETCH` (R296): The part fetches up to 16 descriptors of the next ring round-robin and checks their headers. -/
  | descriptorFetch (p : Part) (descs : List (Option (List Byte)))
  /-- `COMMAND_TIMEOUT` (R300): A command's time limit passes, so it completes with TIMEOUT and is cancelled in its engine. -/
  | commandTimeout (p : Part) (ring idx : Nat) (hung : Option Nat)
  /-- `IRQ_HOLDOFF_EXPIRY` (R298): HOLDOFF_US ends and a pending ring interrupt is raised. -/
  | irqHoldoffExpiry (p : Part) (ring : Nat)
  /-- `NOP` (R295): The NOP command completes with OK. -/
  | nop (p : Part) (ring idx : Nat)
  /-- `STATE_REFRESH` (R295): The command forces a state page update and returns its SEQ. -/
  | stateRefresh (p : Part) (ring idx : Nat)
  /-- `STATE_PAGE_UPDATE` (R303): Every STATE_PERIOD_US, or after a state change, the part writes a sequence-locked state page. -/
  | statePageUpdate (p : Part)
  /-- `VIEW_READ_GATES` (R295): VIEW_READ of KIND 0 writes the hall gate view of one basin. -/
  | viewReadGates (ring idx : Nat)
  /-- `VIEW_READ_SHORTFALL` (R295): VIEW_READ of KIND 1 writes the shortfall entries of one operation. -/
  | viewReadShortfall (ring idx : Nat)
  /-- `HEARTBEAT_CHANGE` (R313): HB_COUNT changes, so DRIVER_STATE becomes PRESENT. -/
  | heartbeatChange (p : Part) (v : W64)
  /-- `DRIVER_GONE` (R311): HB_COUNT has not changed for HB_TIMEOUT_MS, so the state becomes GONE and POLICY applies. -/
  | driverGone (p : Part)
  /-- `LEDGER_DOORBELL` (R310): The host returns ledger space with LCONS, and held ledger entries are written as they fit. -/
  | ledgerDoorbell (cons : W64)
  /-- `FUNCTION_LEVEL_RESET` (R316): A PCI Express FLR ends DMA, disables rings, discards unwritten completions and clears HB_ADDR. -/
  | functionLevelReset
  /-- `PATROL_READ` (R322): The memory patrol reads a line and handles a parity failure under the retry rule. -/
  | patrolRead (pkg : Nat) (first second both : Bool)
  /-- `RESILVER_COMPLETE` (R323): A spare's resilver copy ends and it takes the expelled package's place in the pair. -/
  | resilverComplete (pair : Nat)
  /-- `PAIR_REBUILD_COMPLETE` (R326): A lost pair has been rebuilt from two spares with the dual-held copy restored. -/
  | pairRebuildComplete (pair : Nat)
  /-- `TIDE_UNIT_DREDGE_DONE` (R328): The dredge of a destroyed basin's tide-table units ends and they return to the free pool. -/
  | tideUnitDredgeDone
  /-- `RECORD_RECEIVE` (R329): A tier-1 Phidor reassembles a RECORD transfer, checks it and applies the anchor table. -/
  | recordReceive (port : Nat) (e : Env) (f : RecordPl)
  /-- `LEDGER_READBACK_DONE` (R310): Read-back of a written transfer's last line confirms visibility, and RECORD_ACK OK is sent. -/
  | ledgerReadbackDone
  /-- `ANCHOR_EXPIRY` (R330): A meter anchor entry with no transfer for 1 h is freed. -/
  | anchorExpiry (meter : W64)
  /-- `TOTALS_PERIOD_CLOSE` (R335): A totals period closes at a grid boundary or at a mark's L. -/
  | totalsPeriodClose
  /-- `TOTALS_EMIT` (R335): TOTALS_GRACE_MS after a period ends its TOTALS entries are written to the ledger. -/
  | totalsEmit
  /-- `LDR_GO` (R415): A write of LDR_CTRL.GO makes the boot ROM read, check and copy an image. -/
  | ldrGo (image : Option (List Byte))
  /-- `FW_IMAGE_STARTED` (R415): A checked image starts and FW_STATE passes through STARTING to RUNNING, or the image is refused. -/
  | fwImageStarted
  /-- `TRAPPED_WRITE` (R345): A register write without a row of its own is applied, by firmware after the trap queue on the Phidor. -/
  | trappedWrite (p : Part) (off : Nat) (data : List Byte)
  /-- `TRAPPED_READ` (R345): A Phidor BAR0 read traps and firmware answers with the register value. -/
  | trappedRead (p : Part) (off len : Nat)
  /-- `TRAP_READ_TIMEOUT` (R345): An unanswered trapped read completes after 50 µs with all ones and sets TRAP_LATE. -/
  | trapReadTimeout
  /-- `FW_WATCHDOG` (R349): A firmware core's watchdog fires and the firmware restarts, completing commands in execution with RETRY. -/
  | fwWatchdog (cores : List Nat)
  /-- `FW_RESTART_DONE` (R349): Journal replay ends and the complex returns to RUNNING, resuming ring execution. -/
  | fwRestartDone (hashOk : Bool)
  /-- `JOURNAL_CHECKPOINT` (R347): At least once per second firmware compacts its journal into a checkpoint. -/
  | journalCheckpoint
  /-- `FW_HANDOVER` (R353): The command checks a new image and moves to HANDOVER towards the quiescent point. -/
  | fwHandover (ring idx : Nat) (image : List Byte)
  /-- `HANDOVER_QUIESCENT` (R353): The quiescent point is reached, the old image checkpoints and the new image starts. -/
  | handoverQuiescent
  /-- `QUIESCE_TIMEOUT` (R354): The quiescent point is not reached within QUIESCE_MS, so the handover completes with CONFLICT. -/
  | quiesceTimeout
  /-- `THERM_HIGH` (R355): The hottest sensor reaches 100 °C, so firmware cores are slowed until 95 °C. -/
  | thermHigh (celsius : Nat)
  /-- `THERM_TRIP` (R355): 115 °C for 1 ms holds the chip in reset until module power-on. -/
  | thermTrip (celsius : Nat)
  /-- `SUPPLY_RANGE` (R355): A rail is outside ±6 % for 10 µs and the Phidor chip resets. -/
  | supplyRange (rail : Nat) (refOk parityOk : Bool)
  /-- `LOG_FETCH` (R358): The mailbox request copies firmware log history entries to the host. -/
  | logFetch
  /-- `FW_INFO` (R358): The mailbox request writes the running image's header to the host. -/
  | fwInfo
  /-- `TRANSIENT_RATE` (R362): At the end of a 60 s window, a unit's transient count rose by more than TRANSIENT_WARN and is recorded. -/
  | transientRate (p : Part) (kind index : Nat)
  /-- `FAULT_NOTE_RECEIVE` (R365): A Phidor records and forwards a FAULT_NOTE; a sequencer acts on MEMBER_RESET under R377. -/
  | faultNoteReceive (port : Nat) (e : Env) (f : NotePl)
  /-- `ENGINE_STALL` (R371): An engine takes no request from its queue for STALL_US, which is recorded and escalates to a reset. -/
  | engineStall (p : Part) (engine : Nat)
  /-- `ENGINE_RESET_STEP_TIMEOUT` (R372): A reset step's timer expires without the engine ready, so escalation moves to the next step. -/
  | engineResetStepTimeout (p : Part) (engine : Nat) (refOk parityOk : Bool)
  /-- `ENGINE_RESET_DONE` (R370): An engine domain reports ready after reset and its breakwater opens. -/
  | engineResetDone (p : Part) (engine : Nat)
  /-- `TSU_WARM_RESET` (R368): A TSU warm reset closes breakwaters, notes the reset, dumps and dredges, then restarts. -/
  | tsuWarmReset (refOk parityOk : Bool)
  /-- `DIE_RESET` (R368): A host die reset performs the warm-reset sequence and clears domain DIE registers. -/
  | dieReset (refOk parityOk : Bool)
  /-- `CHIP_RESET` (R367): A write of the key to CHIP_RESET starts a Phidor chip reset. -/
  | chipReset (key : W32) (refOk parityOk : Bool)
  /-- `MODULE_POWER_ON` (R414): PDM-52 power-on starts the Phidor with HT at zero. -/
  | modulePowerOn
  /-- `DREDGE_DONE` (R403): A dredge of memories ends and the start-up sequence continues. -/
  | dredgeDone (p : Part)
  /-- `PORT_DRAIN_COMPLETE` (R383): A draining port empties its replay buffer or reaches 100 µs and goes DOWN, or takes its pending enable. -/
  | portDrainComplete (p : Part) (port : Nat)
  /-- `UNIT_QUERY` (R382): UNIT_CTRL QUERY returns a unit's state, score and transient count. -/
  | unitQuery (p : Part) (ring idx : Nat)
  /-- `UNIT_EXPEL` (R382): UNIT_CTRL EXPEL moves a unit to a spare, bypassing the governor's limit. -/
  | unitExpel (p : Part) (ring idx : Nat)
  /-- `UNIT_KEEP` (R382): UNIT_CTRL KEEP clears a unit's suspect state. -/
  | unitKeep (p : Part) (ring idx : Nat)
  /-- `UNIT_RETURN` (R382): UNIT_CTRL RETURN places an expelled unit back among the free spares. -/
  | unitReturn (p : Part) (ring idx : Nat)
  /-- `UNIT_ENGINE_RESET` (R382): UNIT_CTRL ENGINE_RESET starts the reset escalation of an engine or unit. -/
  | unitEngineReset (p : Part) (ring idx : Nat)
  /-- `UNIT_DISABLE` (R383): UNIT_CTRL DISABLE starts draining a port. -/
  | unitDisable (p : Part) (ring idx : Nat)
  /-- `UNIT_ENABLE` (R384): UNIT_CTRL ENABLE starts training of a down port or queues the enable on a draining one. -/
  | unitEnable (p : Part) (ring idx : Nat)
  /-- `ENGINE_DIGEST` (R389): An engine digest message is taken for a STARTED slot or discarded as late. -/
  | engineDigest (msg : List Byte)
  /-- `STEP_DIGEST_FORM` (R390): Once a step's slots are empty and the previous digest formed, the TSU computes D_n and writes a digest entry. -/
  | stepDigestForm (basin : Nat)
  /-- `COUNTER_LATCH` (R397): The host asks the Phidor to latch counters at an instant, optionally sending LATCH down. -/
  | counterLatch (ring idx : Nat)
  /-- `LATCH_RECEIVE` (R398): A part takes a LATCH frame as a pending latch and a Phidor forwards it down. -/
  | latchReceive (p : Part) (port : Nat) (e : Env) (f : LatchPl)
  /-- `LATCH_APPLY` (R398): At the latch instant every counter is copied and the snapshot is written to CNT_ADDR. -/
  | latchApply (p : Part) (chain : List (Nat × Nat × W64))
  /-- `LATCH_NOW` (R433): A write of LATCH_NOW makes the TSU latch its counters locally. -/
  | latchNow
  /-- `WRAP_CLR` (R394): A write of WRAP_CLR clears every WRAP bit of the part. -/
  | wrapClr (p : Part)
  /-- `FLT_CNT_CLR` (R364): A write of FLT_CNT_CLR clears every per-cause fault counter. -/
  | fltCntClr (p : Part) (rest : W32)
  /-- `CFG_LOAD` (R408): The part checks a configuration block and puts it in force or refuses it. -/
  | cfgLoad (p : Part) (ring idx : Nat) (block : List Byte)
  /-- `LC_CHANGE` (R420): The part burns a fuse row for a life-cycle change, completes, then resets, dredges and restarts. -/
  | lcChange (p : Part) (ring idx : Nat) (token : List Byte) (refOk parityOk : Bool)
  /-- `WATCH_WRITE` (R431): A write to WATCH configures, starts or stops a region watch. -/
  | watchWrite (region off : Nat) (data : List Byte)
  /-- `LEDGER_REG_WRITE` (R434): A write to a ledger register is taken only while LEDGER_BASE is 0 or clears it. -/
  | ledgerRegWrite (off : Nat) (data : List Byte)
  /-- `DB_NUDGE` (R436): A write of DB_NUDGE makes the Phidor read a ring's doorbell line now. -/
  | dbNudge (ring : Nat) (prod cons : W32)
  /-- `LEDGER_NUDGE` (R436): A write of LEDGER_NUDGE makes the Phidor read the ledger doorbell line now. -/
  | ledgerNudge (cons : W64)
  /-- `INPUT_UNDERVOLTAGE` (R440): The module input falls below 38.0 V and the converters turn off. -/
  | inputUndervoltage (mv : Nat)
  /-- `INPUT_OVERVOLTAGE` (R440): The module input rises above 62.0 V and the converters turn off. -/
  | inputOvervoltage (mv : Nat)
  /-- `INPUT_RECOVERY` (R441): The input has been within range for 100 ms and the converters start. -/
  | inputRecovery (mv : Nat)
  /-- `PRESENT_PIN_BREAK` (R441): The present pin breaks on removal and the module shuts down at once. -/
  | presentPinBreak
  /-- `PRESENT_PIN_MATE` (R441): The present pin mates on insertion, arming converter start. -/
  | presentPinMate
  /-- `SMBUS_STATUS` (R443): The SMBus STATUS command returns the module status word. -/
  | smbusStatus (pec overcurrent : Bool)
  /-- `SMBUS_VIN_MV` (R443): The SMBus VIN_MV command returns the input voltage. -/
  | smbusVinMv (pec : Bool) (mv : W16)
  /-- `SMBUS_IIN_MA` (R443): The SMBus IIN_MA command returns the input current. -/
  | smbusIinMa (pec : Bool) (ma : W16)
  /-- `SMBUS_PIN_DW` (R443): The SMBus PIN_DW command returns the input power. -/
  | smbusPinDw (pec : Bool) (dw : W16)
  /-- `SMBUS_TEMPS` (R443): The SMBus TEMPS command returns four temperatures. -/
  | smbusTemps (pec : Bool) (phidor memory inlet converter : Byte)
  /-- `SMBUS_CONVERTERS_OFF` (R443): CTRL bit 0 = 1 turns the converters off, a module reset. -/
  | smbusConvertersOff (pec clear : Bool)
  /-- `SMBUS_CONVERTERS_ON` (R443): CTRL bit 0 = 0 turns the converters on. -/
  | smbusConvertersOn (pec clear : Bool)
  /-- `SMBUS_CLEAR_FAULTS` (R443): CTRL bit 1 clears latched module faults including THERM_TRIP. -/
  | smbusClearFaults (pec off : Bool)
  /-- `SMBUS_MODULE_ID` (R443): The SMBus MODULE_ID command returns serial number and board revision. -/
  | smbusModuleId (pec : Bool)
  /-- `SLEW_COMPLETE` (R29): The slew of a correction has removed the whole amount, SLEW_ADJ returns to zero and SLEWING clears. -/
  | slewComplete (p : Part)
  /-- `BLOCK_LOCK_AFTER_TURN` (R55): After a TURN reverses both pairs, the receiver regains block lock and the end may send frames again. -/
  | blockLockAfterTurn (p : Part) (port : Nat)
  /-- `MANAGEMENT_PORT_FAULT` (R65): A lighthouse's IEEE 1588 management port 0 becomes faulty and port 1 takes over as the slave port. -/
  | managementPortFault
  /-- `PPS_OUT_EDGE` (R442): At each instant at which TAI is a whole second, a LOCKED or HOLDOVER Phidor drives the 1PPS output edge, which AUX2 stamps in loopback. -/
  | ppsOutEdge
  /-- `TAMPER_CLOSE` (R280): The tamper loop closes again, clearing TAMPER_OPEN without leaving SEAL_BROKEN and allowing a seal command again. -/
  | tamperClose
  /-- `THERM_HIGH_CLEAR` (R355): The hottest sensor falls to 95 °C and the firmware cores return from 750 MHz to their normal clock. -/
  | thermHighClear (celsius : Nat)
  /-- `RELAYED_CLOSED_RECEIVE` (R242): A Phidor receives a CLOSED relayed up from a member, frees its context and forwards it up, and the sequencing Phidor closes the operation on it. -/
  | relayedClosedReceive (port : Nat) (e : Env) (f : WbPl)
  deriving DecidableEq, Repr

end Sys2Proof
end

