-- ==== Sys2Proof/Machine/Bytes.lean ====
section
/-!
DEFINITION. Byte strings: the byte order of R3, the parity bits of R44, and the checks CRC-16 (R44), CRC-32C (R402) and
CRC-8 (R255).
-/

namespace Sys2Proof.Machine

/-- The `n` bytes of `v`, least significant byte first (R3). -/
def leBytes : Nat → Nat → List Byte
  | 0, _ => []
  | n + 1, v => BitVec.ofNat 8 v :: leBytes n (v / 256)

/-- The number that a byte string spells, least significant byte first (R3). -/
def leNat : List Byte → Nat
  | [] => 0
  | b :: bs => b.toNat + 256 * leNat bs

/-- The bytes of a field of `w` bits, `n` bytes long (R3). -/
def leOf {w : Nat} (n : Nat) (v : BitVec w) : List Byte := leBytes n v.toNat

/-- `n` bytes of `bs` from byte number `off`; bytes beyond the end read as zero. -/
def slice (bs : List Byte) (off n : Nat) : List Byte :=
  let t := (bs.drop off).take n
  t ++ List.replicate (n - t.length) 0

/-- The number held in `n` bytes of `bs` from byte number `off` (R3). -/
def field (bs : List Byte) (off n : Nat) : Nat := leNat (slice bs off n)

/-- One byte of `bs`; bytes beyond the end read as zero. -/
def byteAt (bs : List Byte) (off : Nat) : Byte := bs.getD off 0

/-- `bs` with the bytes from byte number `off` on replaced by `new`, its length kept. -/
def splice (bs : List Byte) (off : Nat) (new : List Byte) : List Byte :=
  bs.take off ++ new.take (bs.length - off) ++ bs.drop (off + new.length)

/-- `n` reserved bytes: zero (R5). -/
def zeros (n : Nat) : List Byte := List.replicate n 0

/-- A byte string cut or padded with zeros to `n` bytes. -/
def padTo (n : Nat) (bs : List Byte) : List Byte := slice bs 0 n

/-- Bits packed into bytes, the first bit the least significant bit of the first byte. -/
def packBits : List Bool → Nat
  | [] => 0
  | b :: bs => (if b then 1 else 0) + 2 * packBits bs

/-- One bit as a number. -/
def nb (b : Bool) : Nat := if b then 1 else 0

/-- The number of ones in the low `n` bits of `v`. -/
def popCount : Nat → Nat → Nat
  | 0, _ => 0
  | n + 1, v => v % 2 + popCount n (v / 2)

/-- The odd parity bit of a byte: the byte and the bit together hold an odd number of ones (R44). -/
def oddParity (b : Byte) : Bool := popCount 8 b.toNat % 2 == 0

/-- `BPAR` of R43 and R44: bit i is the odd parity bit of byte i, for bytes 0 to 39. -/
def bpar (bs : List Byte) : Nat := packBits ((slice bs 0 40).map oddParity)

/-- One byte of CRC-16, most significant bit first, polynomial 0x1021 (R44). -/
def crc16Bits : Nat → W16 → W16
  | 0, c => c
  | n + 1, c => crc16Bits n (if c.msb then (c <<< 1) ^^^ 0x1021#16 else c <<< 1)

/-- CRC-16 of R44 from a running value. -/
def crc16From (c : W16) (bs : List Byte) : W16 :=
  bs.foldl (fun (c : W16) (b : Byte) => crc16Bits 8 (c ^^^ ((b.setWidth 16 : W16) <<< 8))) c

/-- `CRC16` of R44: initial value 0xFFFF, no final inversion. -/
def crc16 (bs : List Byte) : W16 := crc16From 0xFFFF#16 bs

/-- One byte of the bit-reflected CRC-32C (R402). -/
def crc32cBits : Nat → W32 → W32
  | 0, c => c
  | n + 1, c => crc32cBits n (if c.getLsbD 0 then (c >>> 1) ^^^ 0x82F63B78#32 else c >>> 1)

/-- CRC-32C of R402. -/
def crc32c (bs : List Byte) : W32 :=
  (bs.foldl (fun c b => crc32cBits 8 (c ^^^ b.setWidth 32)) 0xFFFFFFFF#32) ^^^ 0xFFFFFFFF#32

/-- One byte of the CRC-8 of an ADC frame, polynomial 0x07 (R255). -/
def crc8Bits : Nat → Byte → Byte
  | 0, c => c
  | n + 1, c => crc8Bits n (if c.msb then (c <<< 1) ^^^ 0x07#8 else c <<< 1)

/-- The CRC-8 of an ADC frame (R255). -/
def crc8 (bs : List Byte) : Byte := bs.foldl (fun c b => crc8Bits 8 (c ^^^ b)) 0

/-- A signed field of `w` bits from an integer, two's complement (R4). -/
def sInt (w : Nat) (v : Int) : BitVec w := BitVec.ofInt w v

/-- An integer kept within plus or minus `lim` (a field that the spec calls saturating). -/
def satInt (lim : Int) (v : Int) : Int := if v > lim then lim else if v < -lim then -lim else v

/-- A count kept at `2 ^ w - 1` at most (a counter that the spec calls saturating). -/
def satNat (w : Nat) (v : Nat) : Nat := if v ≥ 2 ^ w then 2 ^ w - 1 else v

end Sys2Proof.Machine
end

