-- ==== Sys2Proof/Machine/Crypto.lean ====
section
/-!
DEFINITION. SHA-256 of FIPS 180-4 and Ed25519 of RFC 8032 (with its SHA-512), in the byte order of those standards (R3).
-/

namespace Sys2Proof.Machine

/-- Round constants of SHA-256 (FIPS 180-4), part 0. -/
def sha256K0 : List (BitVec 32) := [
  0x428A2F98, 0x71374491, 0xB5C0FBCF, 0xE9B5DBA5,
  0x3956C25B, 0x59F111F1, 0x923F82A4, 0xAB1C5ED5,
  0xD807AA98, 0x12835B01, 0x243185BE, 0x550C7DC3,
  0x72BE5D74, 0x80DEB1FE, 0x9BDC06A7, 0xC19BF174]

/-- Round constants of SHA-256 (FIPS 180-4), part 1. -/
def sha256K1 : List (BitVec 32) := [
  0xE49B69C1, 0xEFBE4786, 0x0FC19DC6, 0x240CA1CC,
  0x2DE92C6F, 0x4A7484AA, 0x5CB0A9DC, 0x76F988DA,
  0x983E5152, 0xA831C66D, 0xB00327C8, 0xBF597FC7,
  0xC6E00BF3, 0xD5A79147, 0x06CA6351, 0x14292967]

/-- Round constants of SHA-256 (FIPS 180-4), part 2. -/
def sha256K2 : List (BitVec 32) := [
  0x27B70A85, 0x2E1B2138, 0x4D2C6DFC, 0x53380D13,
  0x650A7354, 0x766A0ABB, 0x81C2C92E, 0x92722C85,
  0xA2BFE8A1, 0xA81A664B, 0xC24B8B70, 0xC76C51A3,
  0xD192E819, 0xD6990624, 0xF40E3585, 0x106AA070]

/-- Round constants of SHA-256 (FIPS 180-4), part 3. -/
def sha256K3 : List (BitVec 32) := [
  0x19A4C116, 0x1E376C08, 0x2748774C, 0x34B0BCB5,
  0x391C0CB3, 0x4ED8AA4A, 0x5B9CCA4F, 0x682E6FF3,
  0x748F82EE, 0x78A5636F, 0x84C87814, 0x8CC70208,
  0x90BEFFFA, 0xA4506CEB, 0xBEF9A3F7, 0xC67178F2]

/-- Round constants of SHA-256 (FIPS 180-4). -/
def sha256K : List (BitVec 32) := sha256K0 ++ sha256K1 ++ sha256K2 ++ sha256K3

/-- Round constants of SHA-512 (FIPS 180-4), part 0. -/
def sha512K0 : List (BitVec 64) := [
  0x428A2F98D728AE22, 0x7137449123EF65CD, 0xB5C0FBCFEC4D3B2F, 0xE9B5DBA58189DBBC,
  0x3956C25BF348B538, 0x59F111F1B605D019, 0x923F82A4AF194F9B, 0xAB1C5ED5DA6D8118,
  0xD807AA98A3030242, 0x12835B0145706FBE, 0x243185BE4EE4B28C, 0x550C7DC3D5FFB4E2,
  0x72BE5D74F27B896F, 0x80DEB1FE3B1696B1, 0x9BDC06A725C71235, 0xC19BF174CF692694]

/-- Round constants of SHA-512 (FIPS 180-4), part 1. -/
def sha512K1 : List (BitVec 64) := [
  0xE49B69C19EF14AD2, 0xEFBE4786384F25E3, 0x0FC19DC68B8CD5B5, 0x240CA1CC77AC9C65,
  0x2DE92C6F592B0275, 0x4A7484AA6EA6E483, 0x5CB0A9DCBD41FBD4, 0x76F988DA831153B5,
  0x983E5152EE66DFAB, 0xA831C66D2DB43210, 0xB00327C898FB213F, 0xBF597FC7BEEF0EE4,
  0xC6E00BF33DA88FC2, 0xD5A79147930AA725, 0x06CA6351E003826F, 0x142929670A0E6E70]

/-- Round constants of SHA-512 (FIPS 180-4), part 2. -/
def sha512K2 : List (BitVec 64) := [
  0x27B70A8546D22FFC, 0x2E1B21385C26C926, 0x4D2C6DFC5AC42AED, 0x53380D139D95B3DF,
  0x650A73548BAF63DE, 0x766A0ABB3C77B2A8, 0x81C2C92E47EDAEE6, 0x92722C851482353B,
  0xA2BFE8A14CF10364, 0xA81A664BBC423001, 0xC24B8B70D0F89791, 0xC76C51A30654BE30,
  0xD192E819D6EF5218, 0xD69906245565A910, 0xF40E35855771202A, 0x106AA07032BBD1B8]

/-- Round constants of SHA-512 (FIPS 180-4), part 3. -/
def sha512K3 : List (BitVec 64) := [
  0x19A4C116B8D2D0C8, 0x1E376C085141AB53, 0x2748774CDF8EEB99, 0x34B0BCB5E19B48A8,
  0x391C0CB3C5C95A63, 0x4ED8AA4AE3418ACB, 0x5B9CCA4F7763E373, 0x682E6FF3D6B2B8A3,
  0x748F82EE5DEFB2FC, 0x78A5636F43172F60, 0x84C87814A1F0AB72, 0x8CC702081A6439EC,
  0x90BEFFFA23631E28, 0xA4506CEBDE82BDE9, 0xBEF9A3F7B2C67915, 0xC67178F2E372532B]

/-- Round constants of SHA-512 (FIPS 180-4), part 4. -/
def sha512K4 : List (BitVec 64) := [
  0xCA273ECEEA26619C, 0xD186B8C721C0C207, 0xEADA7DD6CDE0EB1E, 0xF57D4F7FEE6ED178,
  0x06F067AA72176FBA, 0x0A637DC5A2C898A6, 0x113F9804BEF90DAE, 0x1B710B35131C471B,
  0x28DB77F523047D84, 0x32CAAB7B40C72493, 0x3C9EBE0A15C9BEBC, 0x431D67C49C100D4C,
  0x4CC5D4BECB3E42B6, 0x597F299CFC657E2A, 0x5FCB6FAB3AD6FAEC, 0x6C44198C4A475817]

/-- Round constants of SHA-512 (FIPS 180-4). -/
def sha512K : List (BitVec 64) := sha512K0 ++ sha512K1 ++ sha512K2 ++ sha512K3 ++ sha512K4

/-- Initial hash value of SHA-256 (FIPS 180-4). -/
def sha256H : List (BitVec 32) := [
  0x6A09E667, 0xBB67AE85, 0x3C6EF372, 0xA54FF53A,
  0x510E527F, 0x9B05688C, 0x1F83D9AB, 0x5BE0CD19]

/-- Initial hash value of SHA-512 (FIPS 180-4). -/
def sha512H : List (BitVec 64) := [
  0x6A09E667F3BCC908, 0xBB67AE8584CAA73B, 0x3C6EF372FE94F82B, 0xA54FF53A5F1D36F1,
  0x510E527FADE682D1, 0x9B05688C2B3E6C1F, 0x1F83D9ABFB41BD6B, 0x5BE0CD19137E2179]

/-- The eight rotation and shift amounts in which SHA-256 and SHA-512 differ (FIPS 180-4). -/
structure Sha2Shape where
  a0 : Nat
  a1 : Nat
  a2 : Nat
  b0 : Nat
  b1 : Nat
  b2 : Nat
  c0 : Nat
  c1 : Nat
  c2 : Nat
  d0 : Nat
  d1 : Nat
  d2 : Nat
  deriving DecidableEq, Repr

/-- The amounts of SHA-256. -/
def sha256Shape : Sha2Shape := ⟨2, 13, 22, 6, 11, 25, 7, 18, 3, 17, 19, 10⟩

/-- The amounts of SHA-512. -/
def sha512Shape : Sha2Shape := ⟨28, 34, 39, 14, 18, 41, 1, 8, 7, 19, 61, 6⟩

/-- The message schedule, newest word first, extended by `n` words. -/
def sha2Schedule {w : Nat} (z : Sha2Shape) : Nat → List (BitVec w) → List (BitVec w)
  | 0, ws => ws
  | n + 1, ws =>
    let x := ws.getD 14 0
    let y := ws.getD 1 0
    let s0 := x.rotateRight z.c0 ^^^ x.rotateRight z.c1 ^^^ (x >>> z.c2)
    let s1 := y.rotateRight z.d0 ^^^ y.rotateRight z.d1 ^^^ (y >>> z.d2)
    sha2Schedule z n ((s1 + ws.getD 6 0 + s0 + ws.getD 15 0) :: ws)

/-- One round on the eight working variables. -/
def sha2Round {w : Nat} (z : Sha2Shape) (v : List (BitVec w)) (kw : BitVec w × BitVec w) : List (BitVec w) :=
  match v with
  | [a, b, c, d, e, f, g, h] =>
    let s1 := e.rotateRight z.b0 ^^^ e.rotateRight z.b1 ^^^ e.rotateRight z.b2
    let ch := (e &&& f) ^^^ ((~~~e) &&& g)
    let t1 := h + s1 + ch + kw.1 + kw.2
    let s0 := a.rotateRight z.a0 ^^^ a.rotateRight z.a1 ^^^ a.rotateRight z.a2
    let maj := (a &&& b) ^^^ (a &&& c) ^^^ (b &&& c)
    [t1 + (s0 + maj), a, b, c, d + t1, e, f, g]
  | _ => v

/-- The number that a byte string spells, most significant byte first. -/
def beNat (bs : List Byte) : Nat := bs.foldl (fun a b => a * 256 + b.toNat) 0

/-- The `n` bytes of `v`, most significant byte first. -/
def beBytes (n v : Nat) : List Byte := (leBytes n v).reverse

/-- A byte string cut into `n` blocks of `k` bytes. -/
def blocks (k : Nat) : Nat → List Byte → List (List Byte)
  | 0, _ => []
  | n + 1, bs => bs.take k :: blocks k n (bs.drop k)

/-- One message block taken into the hash value. -/
def sha2Block {w : Nat} (z : Sha2Shape) (ks hv : List (BitVec w)) (blk : List Byte) : List (BitVec w) :=
  let m := (blocks (w / 8) 16 blk).map (fun b => BitVec.ofNat w (beNat b))
  let ws := (sha2Schedule z (ks.length - 16) m.reverse).reverse
  let v := (ks.zip ws).foldl (sha2Round z) hv
  (hv.zip v).map (fun p => p.1 + p.2)

/-- SHA-2 over a byte string: padding, length field and blocks of 16 words. -/
def sha2 {w : Nat} (z : Sha2Shape) (ks hv : List (BitVec w)) (msg : List Byte) : List Byte :=
  let blk := 2 * w
  let lenB := w / 4
  let fill := (blk - (msg.length + 1 + lenB) % blk) % blk
  let bs := msg ++ [0x80#8] ++ zeros fill ++ beBytes lenB (8 * msg.length)
  let h := (blocks blk (bs.length / blk) bs).foldl (sha2Block z ks) hv
  h.flatMap (fun x => beBytes (w / 8) x.toNat)

/-- SHA-256 (FIPS 180-4). -/
def sha256 (msg : List Byte) : List Byte := sha2 sha256Shape sha256K sha256H msg

/-- SHA-512 (FIPS 180-4), which Ed25519 uses. -/
def sha512 (msg : List Byte) : List Byte := sha2 sha512Shape sha512K sha512H msg

/-- The prime 2^255 - 19 of edwards25519 (RFC 8032). -/
def edP : Nat := 2 ^ 255 - 19

/-- The order of the base point (RFC 8032). -/
def edL : Nat := 2 ^ 252 + 27742317777372353535851937790883648493

/-- `b ^ e` modulo `m`, `n` bits of `e` taken from the least significant one. -/
def powMod (m : Nat) : Nat → Nat → Nat → Nat → Nat
  | 0, _, _, acc => acc
  | n + 1, b, e, acc => powMod m n (b * b % m) (e / 2) (if e % 2 = 1 then acc * b % m else acc)

/-- The inverse in the field (Fermat). -/
def edInv (x : Nat) : Nat := powMod edP 255 x (edP - 2) 1

/-- The curve constant d = -121665 / 121666 (RFC 8032). -/
def edD : Nat := (edP - 121665) * edInv 121666 % edP

/-- A point in extended coordinates (RFC 8032 section 5.1.4). -/
structure EdPoint where
  x : Nat
  y : Nat
  z : Nat
  t : Nat
  deriving DecidableEq, Repr

/-- The neutral point. -/
def EdPoint.zero : EdPoint := ⟨0, 1, 1, 0⟩

/-- Point addition (RFC 8032 section 5.1.4). -/
def EdPoint.add (p q : EdPoint) : EdPoint :=
  let a := (p.y + edP - p.x) * (q.y + edP - q.x) % edP
  let b := (p.y + p.x) * (q.y + q.x) % edP
  let c := 2 * p.t * q.t % edP * edD % edP
  let d := 2 * p.z * q.z % edP
  let e := b + edP - a
  let f := d + edP - c
  let g := d + c
  let h := b + a
  ⟨e * f % edP, g * h % edP, f * g % edP, e * h % edP⟩

/-- Scalar multiplication, `n` bits of the scalar. -/
def EdPoint.mulBits : Nat → Nat → EdPoint → EdPoint → EdPoint
  | 0, _, _, acc => acc
  | n + 1, k, p, acc => EdPoint.mulBits n (k / 2) (p.add p) (if k % 2 = 1 then acc.add p else acc)

/-- Scalar multiplication by a 256-bit scalar. -/
def EdPoint.mul (k : Nat) (p : EdPoint) : EdPoint := EdPoint.mulBits 256 k p EdPoint.zero

/-- The x coordinate of a point with the given y and sign (RFC 8032 section 5.1.3). -/
def edRecoverX (y : Nat) (sign : Nat) : Option Nat :=
  if y ≥ edP then none
  else
    let x2 := (y * y + edP - 1) * edInv (edD * y * y + 1) % edP
    if x2 = 0 then (if sign = 1 then none else some 0)
    else
      let r := powMod edP 253 x2 ((edP + 3) / 8) 1
      let r := if r * r % edP = x2 then r else r * powMod edP 253 2 ((edP - 1) / 4) 1 % edP
      if r * r % edP ≠ x2 then none
      else if r % 2 ≠ sign then some (edP - r) else some r

/-- The base point (RFC 8032 section 5.1). -/
def edBase : EdPoint :=
  let y := 4 * edInv 5 % edP
  let x := (edRecoverX y 0).getD 0
  ⟨x, y, 1, x * y % edP⟩

/-- A point as its 32 bytes. -/
def EdPoint.encode (p : EdPoint) : List Byte :=
  let zi := edInv p.z
  let x := p.x * zi % edP
  let y := p.y * zi % edP
  leBytes 32 (y + (x % 2) * 2 ^ 255)

/-- The point that 32 bytes spell, if they spell one. -/
def edDecode (bs : List Byte) : Option EdPoint :=
  let v := leNat bs
  let y := v % 2 ^ 255
  (edRecoverX y (v / 2 ^ 255)).map (fun x => ⟨x, y, 1, x * y % edP⟩)

/-- The secret scalar and the hash prefix of a 32-byte private key (RFC 8032 section 5.1.5). -/
def edSecret (key : List Byte) : Nat × List Byte :=
  let h := sha512 key
  let a := leNat (h.take 32)
  (a % 2 ^ 254 / 8 * 8 + 2 ^ 254, h.drop 32)

/-- The public key of a private key (RFC 8032 section 5.1.5). -/
def edPublic (key : List Byte) : List Byte := (edBase.mul (edSecret key).1).encode

/-- The Ed25519 signature of a message: pure, no context, no prehash (RFC 8032 section 5.1.6). -/
def edSign (key msg : List Byte) : List Byte :=
  let sk := edSecret key
  let pub := (edBase.mul sk.1).encode
  let r := leNat (sha512 (sk.2 ++ msg)) % edL
  let rEnc := (edBase.mul r).encode
  let k := leNat (sha512 (rEnc ++ pub ++ msg)) % edL
  rEnc ++ leBytes 32 ((r + k * sk.1) % edL)

/-- Verification of an Ed25519 signature (RFC 8032 section 5.1.7). -/
def edVerify (pub msg sig : List Byte) : Bool :=
  let s := leNat (slice sig 32 32)
  match edDecode pub, edDecode (slice sig 0 32) with
  | some a, some r =>
    if sig.length ≠ 64 ∨ pub.length ≠ 32 ∨ s ≥ edL then false
    else
      let k := leNat (sha512 (slice sig 0 32 ++ pub ++ msg)) % edL
      (edBase.mul s).encode == (r.add (a.mul k)).encode
  | _, _ => false

end Sys2Proof.Machine
end

