-- ==== Sys2Proof/Config.lean ====
section
/-!
DEFINITION. What an implementation fixes and the spec leaves open: fuse and production constants, keys, and the free
values. Every constant marked opaque has no value a proof can see.
-/

namespace Sys2Proof.Config

/-- A FREE VALUE (DESIGN CHOICE, log entry 5): the n-th value that the spec leaves open. Nothing constrains it. -/
opaque freeValue : Nat → BitVec 256

/-- Unique identifier of the TSU from fuses (R419). -/
opaque uidTsu : W64

/-- Unique identifier of the Phidor from fuses (R419). -/
opaque uidPhi : W64

/-- Silicon revisions from fuses (`ID_PART`), TSU and Phidor. -/
opaque siliconRev : Bool → Byte

/-- Identity of the meter ROM (`MTR_STRAP`). -/
opaque romId : W32

/-- The production values of the meter's calibration parameters `GAIN_V`, `OFS_V`, `GAIN_I` and `OFS_I` (R275), by their
`PARAM` code. -/
opaque meterCal : Nat → W64

/-- The production constants of a channel (R54), in 2^-16 ns: part (true: Phidor), channel code, transmit side, pair Y. -/
opaque chanConst : Bool → Nat → Bool → Bool → Int

/-- The identifier `CAL_ID` of the constant set of a channel (R54): part (true: Phidor), channel code. -/
opaque calId : Bool → Nat → W32

/-- The strobe delay of a region from fuses (R103). -/
opaque strobeFuse : Nat → Nat

/-- The spine delay of a region from fuses (R103). -/
opaque spineFuse : Nat → Nat

/-- The delay of a region's return path from fuses, in fs (R102). -/
opaque retFuse : Nat → Nat

/-- `constantAsymmetry` of a management port's `asymmetryCorrectionPortDS` (R65), in 2^-16 ns, which no register of the spec sets. -/
opaque constantAsymmetry : Nat → Int

/-- `scaledDelayCoefficient` of a management port (R65), in units of 2^-62, which no register of the spec sets. -/
opaque scaledDelayCoefficient : Nat → Int

/-- The `BELL_K` of a basin as the TSU takes it for R178, 6 to 20 (R113): no rule tells it to the TSU (a free value, log entry 74). -/
opaque tsuBellK : Nat → Nat

/-- The time in ns that the fresh calibration or dredge of a unit takes when it returns to the free spares (R382), by part (true: Phidor),
kind and index: the spec states none (a free value, log entry 86). -/
opaque returnNs : Bool → Nat → Nat → Nat

/-- The host has enabled CXL.cache on a link trained for it, by the always-on cycle of the chip's start (R290, R315; log entry 51). -/
opaque cxlCache : Nat → Bool

/-- The bit of the uncorrectable error status that a poisoned or failed completion sets, by always-on cycle (R314; log entry 89). -/
opaque aerBit : Nat → Nat

/-- Firmware does not get to the trapped accesses in an always-on cycle (R345; log entry 90). -/
opaque fwBusy : Nat → Bool

/-- The region clock cycles that complete in an always-on cycle, by region and always-on cycle (R108): a free value, which the host
die's clock controllers decide (log entry 71). -/
opaque regionCycles : Nat → Nat → Nat

/-- The meter master's status block as a non-master's TSU shows it, by always-on cycle (R283): the master is another TSU's section (a free
value, log entry 80). -/
opaque masterStatus : Nat → BitVec 512

/-- The HT word of an always-on cycle reaches the meter section (R252, R259; log entry 88). -/
opaque htWordComes : Nat → Bool

/-- The Ed25519 public key of Mehride's service key (R419). -/
opaque serviceKey : List Byte

/-- The Ed25519 public key that firmware images are signed with (R343). -/
opaque firmwareKey : List Byte

/-- The serial number of the module (R443). -/
opaque moduleSerial : BitVec 96

/-- The board revision of the module (R443). -/
opaque boardRev : W32

/-- What an accumulator slot reads as whose `P`, or whose `W` with `P` = 511, is reserved (R231; a free value of the slot's contents,
log entry 19): the sum, and the marks of -0, NaN, +∞ and -∞ in bits 320 to 323. -/
opaque reservedSlot : Nat → Int → BitVec 324

/-- Enabled cores of the host die product (R1). -/
def coreCount : Nat := 176

/-- Clock regions of the host die product (`ID_FUSE`). -/
def regionCount : Nat := 16

/-- The cores enabled by fuses: cores 0 to 175 of the host die product (`ID_CORE_EN`; R1's table). -/
def coreEn : BitVec 192 := BitVec.ofNat 192 (2 ^ coreCount - 1)

/-- The clock region of each core: 12 cores each (DESIGN CHOICE, log entry 14). -/
def coreRegion : List Nat := (List.range 192).map (· / 12)

end Sys2Proof.Config
end

