-- ==== Sys2Proof/Machine/CfgImage.lean ====
section
/-!
DEFINITION. The reset values of the configuration registers (R426, R429).
-/

namespace Sys2Proof.Machine

/-- The TSU's configuration registers at a die reset: the bracketed values of `CFG_IMAGE` (R426), as block bytes. -/
def tsuResetImage : List Byte :=
  zeros 16 ++ leBytes 2 0 ++ leBytes 2 Config.regionCount ++ leBytes 2 Config.coreCount ++ leBytes 1 16 ++ leBytes 1 2
    ++ leBytes 2 600 ++ leBytes 2 300 ++ leBytes 2 300 ++ leBytes 2 4 ++ leBytes 1 20 ++ leBytes 1 2 ++ leBytes 2 64
    ++ leBytes 4 1000 ++ leBytes 4 1000 ++ leBytes 4 10000 ++ leBytes 4 1000 ++ leBytes 4 1000 ++ leBytes 4 1000
    ++ leBytes 2 100 ++ zeros 66

/-- The Phidor's configuration registers without a boot configuration: the bracketed values of `CFG_IMAGE` (R426). -/
def phiResetImage : List Byte :=
  zeros 20 ++ leBytes 2 0xFFFF ++ leBytes 2 0xFFFF ++ zeros 70 ++ zeros 1 ++ leBytes 1 16
    ++ leBytes 4 3600 ++ leBytes 4 100 ++ leBytes 2 10 ++ leBytes 1 36 ++ leBytes 1 2 ++ leBytes 4 5000 ++ zeros 10
    ++ leBytes 2 64 ++ leBytes 4 1000 ++ leBytes 4 1000 ++ leBytes 4 1000 ++ zeros 120

end Sys2Proof.Machine
end

