-- ==== Sys2Proof/Machine/Tab.lean ====
section
/-!
DEFINITION. Finite tables as lists of key and value pairs with the keys rising.
-/

namespace Sys2Proof.Machine

/-- A finite table with natural numbers as keys; the operations below keep the keys strictly rising. -/
abbrev Tab (α : Type) := List (Nat × α)

/-- The entry at a key, if there is one. -/
def tabGet? {α : Type} : Tab α → Nat → Option α
  | [], _ => none
  | (k, v) :: t, x => if k = x then some v else tabGet? t x

/-- The entry at a key, or a default. -/
def tabGet {α : Type} (d : α) (t : Tab α) (x : Nat) : α := (tabGet? t x).getD d

/-- Writes an entry. -/
def tabSet {α : Type} : Tab α → Nat → α → Tab α
  | [], x, v => [(x, v)]
  | (k, w) :: t, x, v =>
    if x < k then (x, v) :: (k, w) :: t
    else if x = k then (x, v) :: t
    else (k, w) :: tabSet t x v

/-- Removes an entry. -/
def tabDel {α : Type} (t : Tab α) (x : Nat) : Tab α := t.filter (fun e => e.1 != x)

/-- Changes the entry at a key, starting from a default where there is none. -/
def tabMod {α : Type} (d : α) (t : Tab α) (x : Nat) (f : α → α) : Tab α := tabSet t x (f (tabGet d t x))

/-- Changes the entry at a key if there is one. -/
def tabAdj {α : Type} (t : Tab α) (x : Nat) (f : α → α) : Tab α :=
  t.map (fun e => if e.1 = x then (e.1, f e.2) else e)

/-- The keys rise strictly. -/
def tabSorted {α : Type} : Tab α → Bool
  | [] => true
  | [_] => true
  | a :: b :: t => a.1 < b.1 && tabSorted (b :: t)

/-- The entry of a list at an index changed. -/
def listAdj {α : Type} (l : List α) (i : Nat) (f : α → α) : List α :=
  match l, i with
  | [], _ => []
  | a :: t, 0 => f a :: t
  | a :: t, i + 1 => a :: listAdj t i f

end Sys2Proof.Machine
end

