-- ==== Sys2Proof/Machine/StCore.lean ====
section
/-!
DEFINITION. The state that a TSU and a Phidor both have: time, mooring ports, rings, state page, faults and units,
counters, configuration and life cycle.
-/

namespace Sys2Proof.Machine

/-- The time states of R23, in the order of their codes. -/
inductive TimeState where
  | free
  | acquiring
  | locked
  | holdover
  | degraded
  | fault
  deriving DecidableEq, Repr

/-- The code of a time state (R23). -/
def TimeState.code : TimeState → Nat
  | .free => 0
  | .acquiring => 1
  | .locked => 2
  | .holdover => 3
  | .degraded => 4
  | .fault => 5

/-- The trace states of R17. -/
inductive TraceState where
  | untraceable
  | traceable
  | holdover
  deriving DecidableEq, Repr

/-- The code of a trace state (R17). -/
def TraceState.code : TraceState → Nat
  | .untraceable => 0
  | .traceable => 1
  | .holdover => 2

/-- The hall epoch of R15. -/
structure Epoch where
  s : W64
  ns : W32
  deriving DecidableEq, Repr

/-- Hall Time in one part: the always-on accumulator, its rates, the time state and what the time status block of R36
shows. Amounts of slew and hold are in units of 2^-48 ns (R12). `snapCyc` is the always-on cycle of the last latch (R33). `selWas` is the always-on cycle in which `PLANE_SEL` last moved
and the plane that it named before that cycle (R60, R66), `acqCyc` the cycle in which the part last left `FREE` (R453). -/
structure TimeSt where
  acc : BitVec 112 := 0
  rateAdj : BitVec 40 := 0
  slewAdj : Int := 0
  slewLeft : Int := 0
  holdLeft : Nat := 0
  holding : Bool := false
  state : TimeState := .free
  entryNs : W64 := 0
  holdoverNs : W64 := 0
  planeSel : Plane := 0
  standbyOk : Bool := false
  trace : TraceState := .untraceable
  leap61 : Bool := false
  leap59 : Bool := false
  offsetFs : W32 := 0
  sigma10fs : W16 := 0
  taiUtcS : W16 := 0
  epoch : Epoch := ⟨0, 0⟩
  acqDone : Bool := false
  acqCount : Nat := 0
  lockSince : Option W64 := none
  devSince : Option W64 := none
  standbySince : Option W64 := none
  everLocked : Bool := false
  refClk : Bool := true
  parityGood : Bool := true
  snapValid : Bool := false
  snap : List Byte := []
  snapCyc : Option Nat := none
  htLoadLow : W64 := 0
  htLoadRej : Bool := false
  masterPlane : Plane := 0
  cycles : Nat := 0
  selWas : Option (Nat × Plane) := none
  acqCyc : Option Nat := none
  deriving DecidableEq, Repr

/-- The link states of R40. -/
inductive LState where
  | down
  | signal
  | blockLock
  | ident
  | cal
  | up
  deriving DecidableEq, Repr

/-- The code of a link state (`PORT_STATUS`). -/
def LState.code : LState → Nat
  | .down => 0
  | .signal => 1
  | .blockLock => 2
  | .ident => 3
  | .cal => 4
  | .up => 5

/-- The administrative state of a port (`PORT_STATUS`, R383, R384). -/
inductive Admin where
  | enabled
  | draining
  | drainingPending
  | disabled
  deriving DecidableEq, Repr

/-- The code of an administrative state (`PORT_STATUS`). -/
def Admin.code : Admin → Nat
  | .enabled => 0
  | .draining => 1
  | .drainingPending => 2
  | .disabled => 3

/-- A reliable frame in the replay buffer (R47). -/
structure Sent where
  frame : Frame
  sentNs : W64
  retx : Bool
  deriving DecidableEq, Repr

/-- A conversion that the TDC has under way (R75, R76): which stamp of which exchange it makes, and the always-on counter
and increment of the cycle in which the edge fell. -/
structure Capture where
  acc : BitVec 112
  inc : Int
  deriving DecidableEq, Repr

/-- The child's exchange in progress (R50); `stale`: a stamp of its own used a table with `STATE` other than 1 (R83). -/
structure Exchange where
  xid : W16
  swap : Bool
  startNs : W64
  t1 : Option Ht80
  t2 : Option Ht80
  t3 : Option Ht80
  t4 : Option Ht80
  t4Acc : BitVec 112
  t4Cycles : Nat
  t4Rate : BitVec 40
  fu : Option FuPl
  rxError : Bool
  stale : Bool := false
  deriving DecidableEq, Repr

/-- The parent's exchange in progress (R50). -/
structure Answer where
  xid : W16
  swap : Bool
  recvNs : W64
  sentNs : Option W64
  t2 : Option Ht80
  t3 : Option Ht80
  failed : Bool
  deriving DecidableEq, Repr

/-- An accepted exchange that the discipline loop holds (R52). Stamps and offsets are counts of 2^-16 ns; `acc`,
`cycles` and `rate` are own HT, the number of always-on cycles and `RATE_ADJ` at the exchange, from which P of R52 is
formed; `startNs` and `stale` are its start and whether its stamps used a table with `STATE` other than 1 (R83). -/
structure Held where
  theta : Int
  delay : Int
  t4 : Int
  acc : BitVec 112
  cycles : Nat
  rate : BitVec 40
  startNs : W64 := 0
  stale : Bool := false
  deriving DecidableEq, Repr

/-- What a lighthouse holds beside its time (R17 to R19, R61 to R65). Of IEEE 1588: `ptpSync` is the sequence number and the stamp
of a two-step Sync whose Follow_Up has not come, `ptpReq` those of the Delay_Req under way, `ptpDown` the last difference from
master to slave, `ptpDelay` the mean path delay, all in 2^-16 ns, and `ptpL1Tx`, `ptpL1Rx` the flags of the peer's L1Sync. `ppsNew`
says that the last 1PPS edge has not been reported upstream (R63). `edge` is the stamp of an edge in the always-on cycle under way, which its
end judges, and `lostCyc` the cycle in which the reference last failed (R450). -/
structure LighthouseSt where
  traceLostNs : W64 := 0
  refInputs : Bool := false
  refValid : Bool := false
  ppsOffset : Int := 0
  ppsKnown : Bool := false
  ppsNew : Bool := false
  ppsHeld : List Held := []
  edge : Option Int := none
  lostCyc : Option Nat := none
  followerPs : Int := 0
  followerKnown : Bool := false
  disagreeSince : Option W64 := none
  disagreed : Bool := false
  ptpPort : Nat := 0
  ptpFault0 : Bool := false
  ptpFault1 : Bool := false
  ptpSlave : Bool := false
  ptpTimeTraceable : Bool := false
  ptpFreqTraceable : Bool := false
  ptpSecond : W64 := 0
  ptpStamp : Ht80 := 0
  ptpAgree : Bool := false
  ptpSync : Option (W16 × Int) := none
  ptpReq : Option (W16 × Int) := none
  ptpDown : Option Int := none
  ptpDelay : Int := 0
  ptpL1Tx : Bool := false
  ptpL1Rx : Bool := false
  deriving DecidableEq, Repr

/-- An asymmetry calibration in progress (R55): the x values of the quad under way, and the count, sum and sum of squares
of the quad results A_q; `off` says that item 2 of R52 rejects an exchange of the quad under way. -/
structure Calib where
  quads : Nat
  cur : List Int
  sumA : Int
  sumSq : Int
  attempt : Nat
  recal : Bool
  off : Bool := false
  stale : Bool := false
  deriving DecidableEq, Repr

/-- One mooring port (R38 to R60). `lastPeer` is the peer that last trained (R68), `rxRun` says that the last reliable frame taken was a retransmission (R48),
`goodSince` the instant since which its beacons have been valid with a deviation estimate of 3 ps RMS or less (R25),
`swapCyc` is the always-on cycle in which an expulsion gave it another channel, with the channel
that left, and `enCyc` that in which the end of a drain enabled it (R385), `calRun` that the port lies between `CAL_START` and `CAL_END` (R55), `asymBy` holds the last accepted A by channel (R56), and `wbOpen` names the accumulator partials of which some frames, and not the last,
have gone on the lane, by basin, generation, operation and chunk (R231). -/
structure Port where
  lstate : LState := .down
  entryNs : W64 := 0
  fails : Nat := 0
  linkFailed : Bool := false
  retryNs : W64 := 0
  lossNs : Option W64 := none
  channel : Nat := 0
  cableFault : Bool := false
  spareTry : Bool := false
  admin : Admin := .enabled
  swapCyc : Option (Nat × Nat) := none
  enCyc : Option Nat := none
  drainNs : W64 := 0
  blockLock : Bool := false
  headersOk : Bool := false
  waitLock : Bool := false
  swapped : Bool := false
  identHeld : Option IdentPl := none
  identSentNs : Option W64 := none
  peer : Option IdentPl := none
  lastPeer : Option IdentPl := none
  txSeq : Byte := 0
  rxNext : Byte := 0
  rxAny : Bool := false
  replay : List Sent := []
  lastTxNs : W64 := 0
  ackOwed : Option W64 := none
  queue : List Frame := []
  rrLast : Nat := 0
  sinceC3 : Nat := 0
  wbOpen : List (Nat × Nat × W32 × Nat) := []
  rxRetry : Bool := false
  rxRun : Bool := false
  beaconFail : Bool := false
  calRun : Bool := false
  xid : W16 := 0
  lastReqNs : W64 := 0
  exch : Option Exchange := none
  answer : Option Answer := none
  held : List Held := []
  sinceEntry : Nat := 0
  consec : Nat := 0
  valid : Bool := false
  lastAcceptNs : W64 := 0
  lastPstate : BitVec 3 := 0
  goodSince : Option W64 := none
  theta : Int := 0
  var256 : Nat := 0
  formed : Bool := false
  lastTheta : Int := 0
  lastDelay : Int := 0
  asym : Int := 0
  asymBy : Tab Int := []
  asymNs : W64 := 0
  calib : Option Calib := none
  recalRing : Option (Nat × Nat) := none
  infoSentNs : W64 := 0
  infoLast : Option InfoPl := none
  infoRx : Option InfoPl := none
  noteOwed : Option Nat := none
  blockErrors : Nat := 0
  unknownFrames : Nat := 0
  jitter : List Int := []
  deriving DecidableEq, Repr

/-- A basin and generation that a sender holds as torn down (R175), with the instant of its last frame. -/
structure Torn where
  basin : Nat
  gen : Nat
  lastNs : W64
  deriving DecidableEq, Repr

/-- The key of an `ANNOUNCE` (kind 0), `COMMIT` (1) or `ABORT` (2) that a part has acted on (R172): with the bell of the
first frame and of every further one forwarded, and the instant until which the key is kept. -/
structure FrameKey where
  basin : Nat
  gen : Nat
  step : StepNo
  kind : Nat
  bells : List W32
  untilNs : W64
  deriving DecidableEq, Repr

/-- The key of a `GATE_RELEASE` that a part has acted on (R202). -/
structure RelKey where
  basin : Nat
  gen : Nat
  gate : Nat
  use : W32
  bell : W32
  untilNs : W64
  deriving DecidableEq, Repr

/-- A ring entry of the ring base table (R285). -/
structure RingEntry where
  descBase : Nat := 0
  cplBase : Nat := 0
  dbAddr : Nat := 0
  sizeLog2 : Nat := 0
  en : Bool := false
  irqEn : Bool := false
  vector : Nat := 0
  holdoffUs : Nat := 0
  deriving DecidableEq, Repr

/-- The ring states of R306. -/
inductive RState where
  | disabled
  | enabled
  | draining
  | drainingPending
  deriving DecidableEq, Repr

/-- The code of a ring state (R306). -/
def RState.code : RState → Nat
  | .disabled => 0
  | .enabled => 1
  | .draining => 2
  | .drainingPending => 3

/-- A descriptor fetched and not completed: its free-running index, its 64 bytes, whether it has started and when, whether its effect has
been applied (R296, R349, R368), and whether its header has been checked, which waits at a Phidor until firmware runs (R343). -/
structure Desc where
  idx : W32
  bytes : List Byte
  started : Bool
  startNs : W64
  applied : Bool
  judged : Bool := true
  deriving DecidableEq, Repr

/-- A finished completion (R297), waiting for a slot or about to be written. -/
structure Cpl where
  status : Byte
  cause : W16
  tag : W32
  descIdx : W32
  dseq : W64
  result : W64
  irq : Bool
  deriving DecidableEq, Repr

/-- One ring (R284 to R298). `stagedWords` is the entry's 32 bytes as staged under R430; `enCyc` is the always-on cycle in which the end of
a drain enabled the ring (R385). -/
structure Ring where
  entry : RingEntry := {}
  stagedWords : List Byte := List.replicate 32 0
  lastEn : Option RingEntry := none
  rstate : RState := .disabled
  pendEn : Option RingEntry := none
  enCyc : Option Nat := none
  fetched : W32 := 0
  prod : W32 := 0
  cplProd : W32 := 0
  cplCons : W32 := 0
  idxErr : Bool := false
  badProd : List W32 := []
  badCons : List W32 := []
  cfgRej : Bool := false
  held : List Cpl := []
  inflight : List Desc := []
  lastDseq : Option W64 := none
  lastIrqNs : Option W64 := none
  irqPend : Bool := false
  deriving DecidableEq, Repr

/-- The driver states of R302. -/
inductive DriverState where
  | absent
  | present
  | gone
  deriving DecidableEq, Repr

/-- The code of a driver state (R302). -/
def DriverState.code : DriverState → Nat
  | .absent => 0
  | .present => 1
  | .gone => 2

/-- State page, heartbeat and doorbell watching (R290, R302 to R316). `lapse` says that the heartbeat has lapsed in this cycle, as long as it
does not change in it (R301); `flrs` counts the Function Level Resets, and `aer` holds the uncorrectable error status of Advanced Error
Reporting (R314). -/
structure PageSt where
  seq : W64 := 0
  lastNs : W64 := 0
  changeNs : Option W64 := none
  stateAddr : W64 := 0
  hbAddr : W64 := 0
  hbCount : W64 := 0
  hbLastNs : W64 := 0
  driver : DriverState := .absent
  parkAtStep : Bool := false
  lapse : Bool := false
  flrs : Nat := 0
  aer : W32 := 0
  cxlCache : Bool := false
  pollNs : W64 := 0
  pollLate : Nat := 0
  rrNext : Nat := 0
  deriving DecidableEq, Repr

/-- Fault records and notes (R363 to R365). `perSec` and `noted` belong to second `sec` of HT. `saved` is the
`RESET_HUNG` record of step 4, kept in the always-on domain for the first record after the die reset (R372): `DETAIL`, `EXT`
and HT. -/
structure FaultSt where
  seqNext : W64 := 1
  base : W64 := 0
  log2 : Nat := 6
  irqEn : Bool := false
  vector : Nat := 0
  rate : Nat := 1000
  cnt : Tab Nat := []
  sec : Nat := 0
  perSec : Tab Nat := []
  noted : List Nat := []
  noteDrop : Nat := 0
  saved : Option (Nat × List Byte × Ht80) := none
  deriving DecidableEq, Repr

/-- The states of a unit (R382). -/
inductive UState where
  | inService
  | freeSpare
  | suspect
  | expelled
  | failed
  | draining
  | drainingPending
  | disabled
  deriving DecidableEq, Repr

/-- The code of a unit state (R382). -/
def UState.code : UState → Nat
  | .inService => 0
  | .freeSpare => 1
  | .suspect => 2
  | .expelled => 3
  | .failed => 4
  | .draining => 5
  | .drainingPending => 6
  | .disabled => 7

/-- One unit under the retry rule and the health governor (R360 to R362, R378 to R382): its kind and index, its state,
its transient count, that count at the start of window `win`, and whether `TRANSIENT_RATE` was recorded in it. -/
structure UnitSt where
  kind : Nat
  index : Nat
  state : UState
  transient : Nat := 0
  winBase : Nat := 0
  win : Nat := 0
  rateNoted : Bool := false
  deriving DecidableEq, Repr

/-- The reset of one engine or hardware unit under R371 to R373: the step reached, 0 for none, with its instant and that of the
escalation's beginning; items held at its breakwater; the `UNIT_CTRL` commands that wait for it, and whether one of this cycle asks for the
reset (R385). -/
structure EngineSt where
  step : Nat := 0
  stepNs : W64 := 0
  beginNs : W64 := 0
  outOfService : Bool := false
  heldItems : List (List Byte) := []
  ctls : List (Nat × Nat) := []
  asked : Bool := false
  deriving DecidableEq, Repr

/-- A lasting fault that the governor has still to decide (R340, R380): unit kind and index. -/
structure HeldFault where
  kind : Nat
  index : Nat
  deriving DecidableEq, Repr

/-- A `RETURN` of a source, an oscillator, a lane or a package under way (R382): the unit, the command by ring and index, and HT at its
start. -/
structure UnitReturn where
  kind : Nat
  index : Nat
  ring : Nat
  idx : Nat
  sinceNs : W64
  deriving DecidableEq, Repr

/-- The health governor (R378 to R380): the instants of the expulsions granted or forced, and the lasting faults to be decided as the
always-on cycle ends, at a Phidor once firmware is `RUNNING`. -/
structure GovSt where
  granted : List W64 := []
  held : List HeldFault := []
  returns : List UnitReturn := []
  deriving DecidableEq, Repr

/-- One performance counter (R394): value and sticky wrap bit, with the always-on cycle of the last wrap (R401). -/
structure Counter where
  event : Nat
  inst : Nat
  value : W64
  wrap : Bool
  wrapCyc : Option Nat := none
  deriving DecidableEq, Repr

/-- A pending counter latch (R398): its instant and number, the plane that it came from, the command that waits for it, whether
it is a local latch (R433), and whether its instant had passed when it came. -/
structure LatchSt where
  atNs : W64
  latchId : W32
  plane : Plane
  ring : Option (Nat × Nat)
  own : Bool
  late : Bool
  deriving DecidableEq, Repr

/-- Counters and latches (R394 to R399). `applying` holds the latches of the always-on cycle under way, with the counters of the host die,
until its end (R401). -/
structure CountSt where
  counters : List Counter := []
  sinceNs : W64 := 0
  pending : List LatchSt := []
  applying : List (LatchSt × List Counter) := []
  seen : List (W32 × W64) := []
  cntAddr : W64 := 0
  localId : W32 := 0
  latchBusy : Bool := false
  deriving DecidableEq, Repr

/-- Configuration and life cycle (R404 to R420). `image` holds the configuration registers as the bytes of a block
(R429), and `asked` the `CFG_LOAD` of the always-on cycle under way, by ring and index, with its block, which is put in force at the cycle's
end (R422). -/
structure CfgSt where
  image : List Byte := []
  inForce : Option (List Byte) := none
  wrRej : Bool := false
  accErr : Bool := false
  lastReason : Byte := 0
  lastOffset : W16 := 0
  serial : W32 := 0
  lcState : Nat := 0
  lcRows : Nat := 0
  startStep : Nat := 1
  stepNs : W64 := 0
  regHold : Tab W32 := []
  asked : Option (Nat × Nat × List Byte) := none
  deriving DecidableEq, Repr

/-- The W1C bits of the register maps (R6, R7). -/
inductive W1c where
  | wrRej
  | accErr
  | htLoadRej
  | trapOvf
  | trapLate
  | mbxRej
  deriving DecidableEq, Repr

/-- A ring command that has started in an always-on cycle: its ring, its `DSEQ` and the object that it acts on (R301). -/
structure RanCmd where
  cyc : Nat
  ring : Nat
  dseq : W64
  obj : Nat × Nat
  deriving DecidableEq, Repr

/-- What meets a register write in one always-on cycle (R7, R8, R437), the model's own record of the cycle: the W1C bits that hardware
set, the last reset of the TSU with its domain (0 warm, 1 die, 2 always-on), the last Function Level Reset, the writes of
configuration registers with whether each was refused and whether `WR_REJ` was set before it, and the last update of the state page
(R301), the last application of the held block after a warm reset (R8, R429), and the ring commands that have started (R301). -/
structure CycSt where
  sets : List (W1c × Nat) := []
  dredged : Option (Nat × Nat) := none
  flr : Option Nat := none
  cfgWrites : List (Nat × Nat × List Byte × Bool × Bool) := []
  pageUpd : Option Nat := none
  cfgKept : Option Nat := none
  ran : List RanCmd := []
  deriving DecidableEq, Repr

/-- What a part keeps in fuses and module storage, which no reset clears (R15, R410, R416, R355). -/
structure Storage where
  epoch : Option Epoch := none
  savedHt : Option Ht80 := none
  savedNs : W64 := 0
  bootCfg : Option (List Byte) := none
  records : List (W16 × W32) := []
  deriving DecidableEq, Repr

end Sys2Proof.Machine
end

