-- ==== Sys2Proof/Machine/StTdc.lean ====
section
/-!
DEFINITION. The state of the time-to-digital converters and their measurements, of the fast logic, and of the time spine
with its region crossings.
-/

namespace Sys2Proof.Machine

/-- The bin table of one multiphase input (R80). -/
structure BinTable where
  centre : List Nat := (List.range 16).map (fun i => 1024 * i + 512)
  widthFs : List Nat := List.replicate 16 15625
  hits : Nat := 0
  state : Nat := 0
  source : Nat := 0
  dnlMax : Nat := 0
  calNs : W64 := 0
  deriving DecidableEq, Repr

/-- One vernier core (R74, R81): constants in 2^-32 ns, the state of its constants as for a bin table, and the always-on
cycle from which it is idle again after a conversion. -/
structure VCore where
  lsb : Nat := 0
  ofs : Int := 0
  fitRes : Nat := 0
  state : Nat := 0
  calNs : W64 := 0
  attempt : Nat := 0
  busyUntil : Option Nat := none
  deriving DecidableEq, Repr

/-- What a conversion is for (R72): one of the four stamps of a port's exchange, an output edge, or no exchange at all. -/
inductive StampUse where
  | t1 (port : Nat)
  | t2 (port : Nat)
  | t3 (port : Nat)
  | t4 (port : Nat)
  | output
  | stray
  deriving DecidableEq, Repr

/-- A conversion under way, with the always-on cycle of its edge E, the bin table or vernier constants in force there (R76, R77) and
the pair on which the edge fell, X or Y (R54). -/
structure Conv where
  use : StampUse
  input : Nat
  cyc : Nat
  cap : Capture
  centre : List Nat
  tabState : Nat
  lsb : Nat
  ofs : Int
  pairY : Bool
  deriving DecidableEq, Repr

/-- A running host measurement (R84): its descriptor, its parameters and the θ taken so far in `BEACON` mode, with the start of the
first, and the always-on cycle of its start (R437). -/
structure Meas where
  ring : Nat
  idx : Nat
  mode : Nat
  m : Nat
  gate : Nat
  prescale : Nat
  startIn : Nat
  stopIn : Nat
  timeoutUs : Nat
  addr : Nat
  startNs : W64
  t0Ns : W64
  samples : List Int
  stale : Bool
  figures : Option (Int × Int × Int × Int × Nat)
  cyc : Nat := 0
  deriving DecidableEq, Repr

/-- One metric of channel health (R88): its latest value and whether it was at or above its threshold at its last
evaluation. -/
structure Metric where
  value : Nat := 0
  failOnce : Bool := false
  score : Nat := 0
  deriving DecidableEq, Repr

/-- One TDC channel (R69 to R89). `old` holds the table sets that were in force before the present one during a measurement, newest
first, each with the HT at which it ceased (R77, R83); `schedNs` is the last run that counts towards the periodic schedule, and `hostRun`
says that the run under way is the host's (R84); `ret` holds the `RETURN` commands that wait for its fresh calibration (R382). `calCore` is 3 while no core calibrates (R75), `rotFrom` the core that finished
last, and `rotCyc` the always-on cycle in which it finished, while the rotation of that cycle is not decided. -/
structure Chan where
  tables : Tab BinTable := []
  cores : Tab VCore := []
  calCore : Nat := 2
  rotWait : Bool := false
  rotFrom : Nat := 0
  rotCyc : Option Nat := none
  old : List (BitVec 112 × Tab BinTable) := []
  calRun : Bool := false
  hostRun : Bool := false
  schedNs : W64 := 0
  attempt : Nat := 0
  altSource : Bool := false
  lastCalNs : W64 := 0
  calTemp : Int := 0
  meas : Option Meas := none
  convs : List Conv := []
  metrics : Tab Metric := []
  warnFloor : Bool := false
  failed : Bool := false
  ret : List (Nat × Nat) := []
  deriving DecidableEq, Repr

/-- The TDC channels of one part, its calibration sources and the last temperature reported (R69, R79). -/
structure TdcSt where
  chans : Tab Chan := []
  srcFailed : List Nat := []
  temp : Int := 0
  deriving DecidableEq, Repr

/-- A region watch (R87, `WATCH`): the settings in force, those that apply from the next set on, and its latest result. -/
structure WatchSt where
  en : Bool := false
  prescale : Nat := 0
  m : Nat := 0
  gate : Nat := 1
  lo : W64 := 0
  hi : W64 := 0x7FFFFFFFFFFFFFFF#64
  curPrescale : Nat := 0
  curM : Nat := 0
  curGate : Nat := 1
  curLo : W64 := 0
  curHi : W64 := 0x7FFFFFFFFFFFFFFF#64
  running : Bool := false
  failed : Bool := false
  result : List Byte := List.replicate 48 0
  deriving DecidableEq, Repr

/-- The fast logic and its PLL (R91 to R97, R112). It runs since `runSinceNs`, or ran from then until `stopNs`. `wakeCyc` is the always-on cycle of the latest wake request and `stopCyc` that of the
latest stop decision (R94). -/
structure ClockSt where
  running : Bool := false
  starting : Bool := false
  startNs : W64 := 0
  runSinceNs : W64 := 0
  stopNs : W64 := 0
  fast : Bool := false
  pllLock : Bool := false
  sosc : Nat := 0
  soscDead : Bool := false
  pllFails : Nat := 0
  fastForce : Bool := false
  idleSince : Option W64 := none
  wakeCyc : Option Nat := none
  stopCyc : Option Nat := none
  deriving DecidableEq, Repr

/-- A launch mailbox slot: core, slot index (R162). -/
structure SlotRef where
  core : Nat
  slot : Nat
  deriving DecidableEq, Repr

/-- A wake of a context of a core, with the answer it carries (R100, R184, R194); context 8 is the core itself, woken for
its mailbox (R162, R168). -/
structure WakeRef where
  core : Nat
  ctx : Nat
  status : Byte
  value : W32
  deriving DecidableEq, Repr

/-- One entry of a region's event FIFO (R100): the instant of its write as an accumulator value, at most one strobe with its bell, whether the
strobe is a slipway strobe and the proxy uses whose gate edge it carries (R202), and wakes. `slipped`: past its margin (R107); `exempt`: in the FIFO while the region was off (R101). -/
structure FifoEntry where
  wAcc : BitVec 112
  bell : Option W64
  launch : Bool
  edges : List (Nat × W32)
  wakes : List WakeRef
  slipped : Bool := false
  exempt : Bool := false
  deriving DecidableEq, Repr

/-- One clock region's crossing and calibration (R98 to R110). `waiting` holds, in order of their writes, entries that are held at their
source or whose spine cycle has not come (R100); `prevDone` is the accumulator at the last `DONE` of a previous launch (R109). Delays and
step in fs. -/
structure RegionSt where
  fifo : List FifoEntry := []
  waiting : List FifoEntry := []
  stretchCnt : W64 := 0
  stretchSlot : Nat := 0
  stretchShown : Nat := 0
  slackNs : W32 := 0
  slackMinNs : W32 := 0xFFFFFFFF#32
  slipCnt : Nat := 0
  lastSlipNs : Nat := 0
  strobeDlyFs : Int := 0
  spineDlyFs : Int := 0
  stepFs : Int := 0
  calOk : Bool := false
  calFuse : Bool := false
  calAttempt : Nat := 0
  off : Bool := false
  cycZeroNs : W64 := 0
  cycKnown : Bool := false
  htLast : W64 := 0
  parityAt : Option Nat := none
  parityErrs : Nat := 0
  calNext : Option (Int × Int × Int) := none
  fired : Option W64 := none
  prevSlots : List SlotRef := []
  prevAny : Bool := false
  prevDone : Option (BitVec 112) := none
  deriving DecidableEq, Repr

/-- The spine of the host die: its regions, their watches, the calibration of R103, and the cycle anchors `REGION_CYC` of the regions
(R108), zero at reset (DESIGN CHOICE, log entry 71). -/
structure SpineSt where
  regions : Tab RegionSt := []
  regionCycs : List Nat := List.replicate 16 0
  watches : Tab WatchSt := []
  calRun : Bool := false
  calNs : W64 := 0
  calTemp : Int := 0
  deriving DecidableEq, Repr

end Sys2Proof.Machine
end

