-- ==== Sys2Proof/Machine/StDie.lean ====
section
/-!
DEFINITION. The state of the TSU alone: launches, synchronisation objects, weighbridge requests, digests, berths.
-/

namespace Sys2Proof.Machine

/-- A basin entry that holds a generation (R118), with its purge flag (R451), what launch status shows (R180), the last
abort applied with its instant F (R168, R171, R206), the steps strobed with their L, and those of them cancelled by an abort
and not strobed again (R225), and the steps taken as committed (R151). -/
structure BasinSt where
  gen : Nat
  joinStep : StepNo
  purging : Bool := false
  purgeReset : Bool := false
  leaveStep : StepNo := 0
  leaveTear : Bool := false
  lastArmed : StepNo := 0
  lastStrobed : StepNo := 0
  lastRollback : StepNo := 0
  lastCause : W16 := 0
  lastOrigin : W16 := 0
  aborts : Nat := 0
  applied : List (StepNo × W64) := []
  strobed : List (StepNo × W64) := []
  undone : List StepNo := []
  committed : List StepNo := []
  deriving DecidableEq, Repr

/-- The launch table attachment of a basin (R159). -/
structure Attach where
  gen : Nat
  rows : Nat
  addr : W64
  deriving DecidableEq, Repr

/-- An `ANNOUNCE` whose launch row is being fetched (R158), with the instant and the always-on cycle of its receipt and the number of parity
failures so far. `row` is a row that has come and waits for that of a lower basin announced in the same cycle (R174). -/
structure Fetch where
  basin : Nat
  gen : Nat
  step : StepNo
  bell : W32
  lNs : W64
  entry : BitVec 24
  recvNs : W64
  recvCyc : Nat
  fails : Nat
  row : Option (List Byte) := none
  deriving DecidableEq, Repr

/-- Where a launch stands: armed; its strobes settled at the decision point (R164); strobed. -/
inductive LPhase where
  | armed
  | decided
  | strobed
  deriving DecidableEq, Repr

/-- A launch of this TSU, from its arming until its digest has formed (R158 to R164, R390). -/
structure Launch where
  basin : Nat
  gen : Nat
  step : StepNo
  bell : W32
  lNs : W64
  entry : BitVec 24
  coreset : Nat
  mask : BitVec 192
  ring : Bool
  kernel : W32
  arg : W64
  committed : Bool
  checked : Bool
  phase : LPhase
  aborted : Bool
  deriving DecidableEq, Repr

/-- A core-set table entry (R161). -/
structure CoreSet where
  mask : BitVec 192
  owner : Nat
  valid : Bool
  ring : Bool
  deriving DecidableEq, Repr

/-- The states of a launch mailbox slot (R162). -/
inductive SlotState where
  | empty
  | armed
  | started
  | aborted
  deriving DecidableEq, Repr

/-- The code of a slot state (R162). -/
def SlotState.code : SlotState → Nat
  | .empty => 0
  | .armed => 1
  | .started => 2
  | .aborted => 3

/-- One launch mailbox slot (R162). -/
structure Slot where
  kernel : W32 := 0
  basin : Nat := 0
  gen : Nat := 0
  arg : W64 := 0
  step : StepNo := 0
  state : SlotState := .empty
  lNs : W64 := 0
  deriving DecidableEq, Repr

/-- The abort notice of a core's mailbox (R162). -/
structure Notice where
  basin : Nat := 0
  gen : Nat := 0
  lastStep : StepNo := 0
  seq : W32 := 0
  deriving DecidableEq, Repr

/-- A soft request withheld while a ring step is in flight (R178). -/
structure SoftReq where
  id : Nat
  sinceNs : W64
  deriving DecidableEq, Repr

/-- A flag (R181, R217). `cyc` is the cycle of its latest set or clear with `was`, its value before that cycle, and `setCyc` that of its
latest set, as long as nothing has consumed it since (R193). -/
structure FlagObj where
  value : Bool := false
  cyc : Option Nat := none
  was : Bool := false
  setCyc : Option Nat := none
  mode : Nat := 0
  sticky : Byte := 0
  ops : Nat := 0
  lastNs : W64 := 0
  deriving DecidableEq, Repr

/-- A tally (R187 to R189, R217). `addCyc` is the cycle of its latest add until that cycle is resolved; `waitCyc` and
`waitWas` are the cycle of the latest wait that completed and what `LAST_WAIT` was before that cycle (R193). -/
structure TallyObj where
  addCyc : Option Nat := none
  waitCyc : Option Nat := none
  waitWas : W32 := 0
  value : W32 := 0
  lastWait : W32 := 0
  window : Nat := 0
  mode : Nat := 0
  sticky : Byte := 0
  ops : Nat := 0
  lastNs : W64 := 0
  deriving DecidableEq, Repr

/-- A die gate (R190 to R192): participants and arrivals as masks, bit 192 the host. -/
structure DieGate where
  mask : BitVec 193 := 0
  timeoutUs : Nat := 0
  released : W32 := 0
  arrived : BitVec 193 := 0
  sticky : Byte := 0
  ops : Nat := 0
  lastNs : W64 := 0
  deriving DecidableEq, Repr

/-- A hall gate proxy (R197 to R206). `pend` is a release applied and not yet at its bell, `pendRegions` the
regions for which its gate edge was settled at the decision point; `heldFrame` a `GATE_ARRIVE` held after an abort. -/
structure Proxy where
  bound : Bool := false
  basin : Nat := 0
  gen : Nat := 0
  gate : Nat := 0
  timeoutUs : Nat := 0
  mask : BitVec 193 := 0
  released : W32 := 0
  arrived : BitVec 193 := 0
  sentNs : Option W64 := none
  sentUse : Option W32 := none
  heldFrame : Bool := false
  pend : Option (W32 × W64) := none
  pendRegions : Option (List Nat) := none
  cancelled : Option W32 := none
  cancelCause : W16 := 0
  sticky : Byte := 0
  ops : Nat := 0
  lastNs : W64 := 0
  deriving DecidableEq, Repr

/-- A waiter entry (R194): the operation and its object, the operand or the use awaited, the start and the limit of the
wait, and for the host the descriptor and result address (R208). -/
structure Waiter where
  sop : Nat
  consume : Bool
  index : Nat
  operand : W32
  timeoutUs : Nat
  startNs : W64
  cmd : Option (Nat × Nat × Nat)
  deriving DecidableEq, Repr

/-- A pending-table entry (R212, R213), or a separate-write signal that waits for one, with the instant of its last change (R217). -/
structure PendEntry where
  sop : Nat
  index : Nat
  operand : W32
  sender : W16
  tag : W16
  pkts : Nat
  written : Nat
  sinceNs : W64
  lastNs : W64
  deriving DecidableEq, Repr

/-- The synchronisation objects of the TSU (R181). -/
structure SyncSt where
  flags : Tab FlagObj := []
  tallies : Tab TallyObj := []
  gates : Tab DieGate := []
  proxies : Tab Proxy := []
  waiters : Tab Waiter := []
  pend : Tab PendEntry := []
  pendFull : List PendEntry := []
  unloaded : List Nat := []
  dumpAddr : W64 := 0
  dumpSeq : W32 := 0
  deriving DecidableEq, Repr

/-- The copy of a result chunk that a TSU holds (R241): the plane it came from, its residue, whether it is verified, the data, and the
always-on cycle in which it came (R247). -/
structure ChunkCopy where
  plane : Plane
  residue : Nat
  verified : Bool
  inexact : Bool
  ovf : Bool
  data : List Byte
  cyc : Nat := 0
  deriving DecidableEq, Repr

/-- An open weighbridge operation of the TSU (R224 to R226, R241 to R245). `bad` holds, per chunk, the planes whose copy
failed its checks; `failed` per chunk the planes that sent `FAILED`, with its cause. -/
structure WbOp where
  wbop : Nat
  fmt : Nat
  len : Nat
  basin : Nat
  gen : Nat
  step : StepNo
  bell : W32
  opid : W32
  fen : Bool
  flag : Nat
  dst : Nat
  cpl : Nat
  acceptNs : W64
  data : List Byte
  sent : Bool := false
  ready : Bool := false
  inexact : Bool := false
  ovf : Bool := false
  alt : Bool := false
  refetch : Bool := false
  copies : Tab ChunkCopy := []
  bad : List (Nat × Plane) := []
  failed : List (Nat × Plane × W16) := []
  closedHeld : Option Nat := none
  deriving DecidableEq, Repr

/-- `WB_DATA` frames of a step held after an abort until an instant (R246). -/
structure WbHold where
  basin : Nat
  gen : Nat
  step : StepNo
  opid : W32
  deriving DecidableEq, Repr

/-- A formed step digest (R390). -/
structure Digest where
  step : StepNo
  cores : Nat
  value : List Byte
  deriving DecidableEq, Repr

/-- The digest chain of a basin (R390, R391): the head at the join is `D` of no step. -/
structure Chain where
  gen : Nat
  formed : List Digest := []
  deriving DecidableEq, Repr

/-- An engine digest taken for a core, engine and step (R389). -/
structure EngDigest where
  core : Nat
  engine : Nat
  basin : Nat
  gen : Nat
  step : StepNo
  value : List Byte
  deriving DecidableEq, Repr

/-- The digest ring (R392). `forming` lists the basins whose digest forms as the always-on cycle under way ends, and `doneNow` the slots done in
that cycle (R401). -/
structure DigSt where
  base : W64 := 0
  log2 : Nat := 6
  seqNext : W64 := 1
  chains : Tab Chain := []
  engines : List EngDigest := []
  forming : List Nat := []
  doneNow : List (Nat × Slot) := []
  deriving DecidableEq, Repr

/-- A binding of a context to a berth (R262): the berth, 0 for none, the instant from which it applies, and for one that applies at once
the always-on cycle of its command. -/
structure BerthBind where
  berth : Nat
  atNs : W64
  fromCyc : Option Nat
  deriving DecidableEq, Repr

/-- What the TSU keeps of a berth for the meter (R263): the units of the open interval, and the latest step strobed on a
core of a context bound to it, with its L and the first 16 bytes of its digest. -/
structure BerthUse where
  units : Nat := 0
  basin : Nat := 0
  step : StepNo := 0
  digest : List Byte := []
  l : W64 := 0
  deriving DecidableEq, Repr

/-- The state of the TSU alone. `ringEnd` is the basin whose ring step ended last, with the instant (R178); `wbJudged` are the
descriptors whose contributions were accepted in this cycle, with basin, generation and operation (R225, R247). -/
structure DieSt where
  spine : SpineSt := {}
  coreEn : BitVec 192 := Config.coreEn
  coreRegion : List Nat := Config.coreRegion
  basins : Tab BasinSt := []
  attaches : Tab Attach := []
  fetches : List Fetch := []
  launches : List Launch := []
  coresets : Tab CoreSet := []
  slots : Tab Slot := []
  notices : Tab Notice := []
  soft : List SoftReq := []
  ringEnd : Option (Nat × W64) := none
  sync : SyncSt := {}
  wbOps : List WbOp := []
  wbHolds : List WbHold := []
  wbJudged : List (Nat × Nat × Nat × Nat × W32) := []
  dig : DigSt := {}
  binds : Tab (List BerthBind) := []
  uses : Tab BerthUse := []
  unbound : Nat := 0
  cutUses : List (Nat × Nat × Tab BerthUse) := []
  cutCyc : Option Nat := none
  deriving DecidableEq, Repr

end Sys2Proof.Machine
end

