-- ==== Sys2Proof/Machine/StHub.lean ====
section
/-!
DEFINITION. The state of the Phidor alone: basins and their sequencers, aggregation of the launch wave and of hall gates,
the weighbridge, records and totals, memory, firmware.
-/

namespace Sys2Proof.Machine

/-- The states of a basin (R150). -/
inductive BState where
  | loading
  | running
  | waiting
  | parked
  | ended
  | destroying
  deriving DecidableEq, Repr

/-- The code of a basin state (R150). -/
def BState.code : BState → Nat
  | .loading => 0
  | .running => 1
  | .waiting => 2
  | .parked => 3
  | .ended => 4
  | .destroying => 5

/-- The roles of a sequencer (R150). -/
inductive Role where
  | leader
  | follower
  | detached
  deriving DecidableEq, Repr

/-- The code of a role (R150). -/
def Role.code : Role → Nat
  | .leader => 0
  | .follower => 1
  | .detached => 2

/-- A predicate register (R135), with the operation whose result it awaits. -/
structure Pred where
  value : W64 := 0
  fmt : Nat := 0
  valid : Bool := false
  nan : Bool := false
  inf : Bool := false
  neg : Bool := false
  zero : Bool := false
  await : Option W32 := none
  deriving DecidableEq, Repr

/-- A staged membership change (R140): join or leave, and its change list. -/
structure Change where
  add : Bool
  list : Nat
  deriving DecidableEq, Repr

/-- The snapshot P_n (R143), with the members before n and what R130 needs of the step before n. -/
structure Snap where
  pc : Nat
  lctr : List Nat
  preds : List Pred
  marks : List W32
  changes : List Change
  members : List Nat
  issuedAny : Bool
  lastIssued : StepNo
  lastL : W64
  prevStride : Nat
  deriving DecidableEq, Repr

/-- The classes of the last wait that ended before a step's issue (R400). -/
inductive WaitClass where
  | none
  | back
  | front
  | wasted
  deriving DecidableEq, Repr

/-- An issued step that has not settled (R130, R131, R143): its L, slot, members, what has been sent for it, the reductions
that belong to it and have not released, its marks, the lists its membership change used, the start and number of its
gap bells (R400), whether its bells are counted, and the bells that it had here before one was adopted (R149). -/
structure Issued where
  step : StepNo
  l : W64
  stride : Nat
  entry : Nat
  members : List Nat
  snap : Snap
  announced : Bool
  commitSent : Bool
  cut : Bool
  committed : Bool
  ops : List W32
  change : Option (List Nat × List Nat)
  lists : List Nat
  gapFrom : W64
  gap : Nat
  cls : WaitClass
  counted : Bool := false
  sentBells : List W32 := []
  deriving DecidableEq, Repr

/-- A pending patch (R123): its `TIDE_LOAD` and the entries read. -/
structure Patch where
  ring : Nat
  idx : Nat
  first : Nat
  data : List Byte
  atStep : StepNo
  deriving DecidableEq, Repr

/-- What a follower has learned of a step from an `ACK` (R147). -/
structure Learned where
  step : StepNo
  bell : W32
  lNs : W64
  entry : BitVec 24
  deriving DecidableEq, Repr

/-- A basin that this Phidor sequences (R115 to R150). `table` lists the entries that differ from a `NOP`; `winLeft` is the
number of entries left in the window after a jump, none once the window is full (R319). `parkReq` is the reason and argument
of a park that is under way, `halted` says that the sequencer has stopped for it; `change` is the membership change whose
frames have been sent, `joinWait` the dies whose join is not confirmed (R141, R176). `bellsTo` is the end of the bells
already counted, `parkedNs` the time `PARKED` since (R400). `goNs` is the instant at which the last wait of the `LAUNCH` at the program
counter ended (R131, R169, R176), and `tear` says that a `BASIN_DESTROY` waits for the basin to park (R125). `firm` says that a rollback does not undo
the park under way, `hostPark` that `BASIN_PARK` asks for one (R125, R144); `fetched` that the last wait ended was one for a fetch (R319);
`done` is the step that settled last (R131, R146). -/
structure Seq where
  gen : Nat
  k : Nat
  onAbort : Bool
  retryMax : Nat
  annLeadUs : Nat
  waitUs : Nat
  leadTimeoutUs : Nat
  entries : Nat
  table : Tab (List Byte) := []
  pair : Nat := 0
  slot : Nat := 0
  members : List Nat
  ever : List Nat
  joinWait : List Nat := []
  joinNs : Option W64 := none
  change : Option (List Nat × List Nat) := none
  purged : List Nat := []
  state : BState := .loading
  role : Role
  reason : Nat := 0
  reasonArg : Nat := 0
  firstStep : StepNo := 0
  pc : Nat := 0
  issuedAny : Bool := false
  lastIssued : StepNo := 0
  lastSettled : StepNo := 0
  lastL : W64 := 0
  prevStride : Nat := 0
  bellsTo : Option W64 := none
  parkedNs : Nat := 0
  parkAt : Option W64 := none
  floor : W64 := 0
  issued : List Issued := []
  preds : List Pred := List.replicate 16 {}
  lctr : List Nat := List.replicate 8 0
  sinceLaunch : Nat := 0
  winLeft : Option Nat := none
  patch : Option Patch := none
  marks : List W32 := []
  changes : List Change := []
  lists : Tab (List Nat) := []
  waitNs : Option W64 := none
  rewait : Bool := false
  cls : WaitClass := .none
  parkReq : Option (Nat × Nat) := none
  halted : Bool := false
  firm : Bool := false
  hostPark : Bool := false
  fetched : Bool := false
  done : Option Issued := none
  ending : Bool := false
  waveNs : Option W64 := none
  goNs : Option W64 := none
  tear : Bool := false
  abortJ : Option StepNo := none
  abortRun : Nat := 0
  aborts : Nat := 0
  cancelled : List (StepNo × W32 × W64) := []
  learned : List Learned := []
  bells : List (StepNo × W64 × Nat) := []
  tableLost : Bool := false
  reload : List (Nat × Nat) := []
  destroy : List (Nat × Nat) := []
  deriving DecidableEq, Repr

/-- A membership of a die below a port of a Phidor on the path of a basin (R141): from its join step, until its leave
step. -/
structure PathMember where
  die : Nat
  port : Nat
  join : StepNo
  leave : Option StepNo
  deriving DecidableEq, Repr

/-- What a Phidor knows of a basin and generation whose frames pass it: the members below its ports and the latest steps
with their L (R141, R155, R199). -/
structure Path where
  basin : Nat
  gen : Nat
  members : List PathMember := []
  deriving DecidableEq, Repr

/-- The aggregation of one key's `ACK` frames (R155): the largest `COUNT` of each port, and HT at the first of them. -/
structure AckCtx where
  basin : Nat
  gen : Nat
  step : StepNo
  bell : W32
  sinceNs : W64 := 0
  counts : Tab Nat := []
  first : Bool := false
  full : Bool := false
  deriving DecidableEq, Repr

/-- A counting context of a hall gate (R199 to R201, R204): the released count, the open use's largest `COUNT` of each port,
its first arrival, what has been forwarded, since when its total has been full, and the releases so far with the short stamps of their
bells and the instants at which they were seen; `relSeen` says that the gate has released in the generation (R207, R218). -/
structure GateCtx where
  basin : Nat
  gen : Nat
  gate : Nat
  released : W32
  counts : Tab Nat := []
  firstNs : Option W64 := none
  first : Bool := false
  full : Bool := false
  fullNs : Option W64 := none
  lastRelNs : Option W64 := none
  releases : List (W32 × W64) := []
  relSeen : Bool := false
  deriving DecidableEq, Repr

/-- A launch that a Phidor saw announced, with its L, or HT at receipt where its HT was no valid reference: for the member counts of
gates (R199). -/
structure SeenStep where
  basin : Nat
  gen : Nat
  step : StepNo
  l : W64
  deriving DecidableEq, Repr

/-- An accumulator of one element (R235): the exact sum in units of 2^-q, and its flags. -/
structure Acc where
  a : Int := 0
  n : Bool := false
  pi : Bool := false
  mi : Bool := false
  nz : Bool := true
  deriving DecidableEq, Repr

/-- The states of an operation at a sequencing Phidor (R249). -/
inductive OpState where
  | collecting
  | releasing
  | released
  | closed
  deriving DecidableEq, Repr

/-- The code of an operation state (R249). -/
def OpState.code : OpState → Nat
  | .collecting => 0
  | .releasing => 1
  | .released => 2
  | .closed => 3

/-- What one port or, for a gathered operation, one die has given of a chunk: the data of a plain contribution or of an
accumulator partial, which is `whole` with its last frame. -/
structure Input where
  port : Nat
  die : Nat
  chunk : Nat
  fmt : Byte
  acc : Bool
  last : Bool
  whole : Bool
  data : List Byte
  deriving DecidableEq, Repr

/-- A retained result chunk (R242): the member it is for (none: every member) and its data; `bad` says that both mirror copies have
failed their checks (R243). -/
structure Kept where
  die : Option Nat
  chunk : Nat
  data : List Byte
  inexact : Bool
  ovf : Bool
  bad : Bool := false
  deriving DecidableEq, Repr

/-- An operation context (R230, R233, R242, R249). `opened` at a sequencing Phidor: its `REDUCE` has executed. `fmts` are the `FMT`
bytes of the frames taken and `ends` the chunks that carried `LAST` (R233); `dead` says that the whole operation has failed here;
`failed` are the data chunks of the result that have failed; `full` says that the acknowledgement count has been full in this
cycle (R247). -/
structure OpCtx where
  basin : Nat
  gen : Nat
  opid : W32
  fmt : Byte
  opened : Bool := false
  step : StepNo := 0
  len : Nat := 0
  pen : Bool := false
  preg : Nat := 0
  psel : Nat := 0
  openNs : W64 := 0
  ranks : List Nat := []
  inputs : List Input := []
  sent : List Nat := []
  failed : List Nat := []
  kept : List Kept := []
  state : OpState := .collecting
  acks : List Nat := []
  refetches : Nat := 0
  fmts : List Byte := []
  ends : List Nat := []
  dead : Bool := false
  full : Bool := false
  deriving DecidableEq, Repr

/-- A discard window after an `ABORT` (R206, R246), or after an operation context was freed (R230). -/
structure Discard where
  basin : Nat
  gen : Nat
  lastStep : StepNo
  atNs : W64
  deriving DecidableEq, Repr

/-- An operation context freed, whose late frames are discarded for 100 us (R230). -/
structure FreedOp where
  basin : Nat
  gen : Nat
  opid : W32
  atNs : W64
  deriving DecidableEq, Repr

/-- A meter anchor table entry (R330): the last `RSEQ` written and the last made visible without a gap, and the pending trigger. -/
structure Anchor where
  meter : W64
  held : Option Nat := none
  visible : Option Nat := none
  trigger : Option Nat := none
  lastNs : W64
  deriving DecidableEq, Repr

/-- A transfer in reassembly on a port (R329): the bytes so far, the next `CHUNK`, and whether it has been found invalid. -/
structure Transfer where
  rseq : W64
  next : Nat := 0
  data : List Byte := []
  bad : Bool := false
  deriving DecidableEq, Repr

/-- A written transfer whose last line has not been read back, or an acknowledgement behind it (R310): the port, the meter
and the `RSEQ` to acknowledge. -/
structure Readback where
  port : Nat
  meter : W64
  rseq : Nat
  deriving DecidableEq, Repr

/-- A berth's totals in one period (R334, R336). -/
structure Row where
  records : Nat := 0
  share : Nat := 0
  lastEnd : W64 := 0
  flags : Nat := 0
  deriving DecidableEq, Repr

/-- A totals period (R335, R336): `startNs` exclusive, `endNs` inclusive; the open period has no end yet. `gridFrom` is the instant after which
the next boundary of the grid lies. -/
structure Period where
  startNs : W64 := 0
  endNs : W64 := 0
  rows : Tab Row := []
  rebuilt : Bool := false
  late : Nat := 0
  markBasin : Option Nat := none
  gridFrom : W64 := 0
  deriving DecidableEq, Repr

/-- A mark that is due at the L of its step (R134). -/
structure MarkDue where
  mark : W32
  basin : Nat
  gen : Nat
  step : StepNo
  l : W64
  deriving DecidableEq, Repr

/-- The ledger ring (R308 to R310, R434): its place, the indices, the entries of kind and body that wait for space, the
entries lost with staging since the last `TOTALS`, and the flag of R333. -/
structure LedgerSt where
  base : W64 := 0
  db : W64 := 0
  log2 : Nat := 20
  prod : W64 := 0
  cons : W64 := 0
  lseq : W64 := 1
  waiting : List (Nat × List Byte) := []
  readback : List Readback := []
  lost : Nat := 0
  stagingFull : Bool := false
  deriving DecidableEq, Repr

/-- A memory pair (R321 to R326): the packages in its even and odd places, none where the place is empty, whether the pair is
lost, the spare being filled for the empty place, and for a lost pair the packages with which it is rebuilt. -/
structure MemPair where
  a : Option Nat := none
  b : Option Nat := none
  lost : Bool := false
  resilver : Option Nat := none
  rebuild : Option (Option Nat × Option Nat) := none
  deriving DecidableEq, Repr

/-- A write to the set-up window in the trap queue (R345): offset, data, and for a nudge the content of the doorbell line. -/
structure TrapWrite where
  off : Nat
  data : List Byte
  line : List Byte
  deriving DecidableEq, Repr

/-- A read of the set-up window that waits for firmware (R345): offset, length, the instant of its arrival, and how many queued
writes arrived before it. -/
structure TrapRead where
  off : Nat
  len : Nat
  atNs : W64
  ahead : Nat
  deriving DecidableEq, Repr

/-- The firmware states (R344). -/
inductive FwState where
  | none
  | starting
  | running
  | restarting
  | handover
  | halted
  deriving DecidableEq, Repr

/-- The code of a firmware state (R344). -/
def FwState.code : FwState → Nat
  | .none => 0
  | .starting => 1
  | .running => 2
  | .restarting => 3
  | .handover => 4
  | .halted => 5

/-- A journal record (R347): its sequence number, the change that it commits, and its CRC-32C. The spec gives a record's parts and not their
layout (DESIGN CHOICE, log entry 90). -/
structure JRec where
  seq : Nat
  body : List Byte
  crc : W32
  deriving DecidableEq, Repr

/-- A handover in progress (R353): its command, the new image's header, its limit, and whether the old image has stopped. -/
structure Handover where
  ring : Nat
  idx : Nat
  header : List Byte
  startNs : W64
  quiesceMs : Nat
  stopped : Bool := false
  deriving DecidableEq, Repr

/-- The firmware complex, its loader and its mailbox (R338 to R358, R415, R435). `retained` is the header of the retained
image, `loading` that of an image read and not yet started with whether it passed R343; `dogCores` are the cores that the last
restart names, `fails` counts per core the consecutive failed restarts that name it, and `missed` says that the last restart
has already failed (R350), `owed` that a restart's image has not come to run. `journal` holds the journal records after the last checkpoint, `jseq` the
number of the last record and `checkpoint` that of the last one which the checkpoint covers (R347). `busy` says that firmware does not get to
trapped accesses in this cycle (R345), and `goNow` is a `GO` to a loader that is still in reset, with its always-on cycle and what the loader
would read (R422). -/
structure FwSt where
  state : FwState := .none
  trapQueue : List TrapWrite := []
  trapReads : List TrapRead := []
  trapOvf : Bool := false
  trapLate : Bool := false
  coresOut : List Nat := []
  roleCore : List Nat := List.range 8
  restartCnt : Nat := 0
  retained : Option (List Byte) := Option.none
  loading : Option (List Byte × Bool) := Option.none
  goNow : Option (Nat × Option (List Byte)) := Option.none
  journal : List JRec := []
  jseq : Nat := 0
  checkpoint : Nat := 0
  checkNs : W64 := 0
  dogNs : W64 := 0
  dogCores : List Nat := []
  lastRunNs : Option W64 := Option.none
  fails : Tab Nat := []
  missed : Bool := false
  owed : Bool := false
  busy : Bool := false
  handover : Option Handover := Option.none
  ldrAddr : W64 := 0
  ldrLen : W32 := 0
  ldrStatus : Nat := 0
  logBase : W64 := 0
  logLog2 : Nat := 12
  logLevel : Nat := 3
  fseq : W64 := 1
  history : List (List Byte) := []
  traceEn : BitVec 1024 := 0
  mbxReq : Nat := 0
  mbxRun : Nat := 0
  mbxBusy : Bool := false
  mbxStatus : Nat := 0
  mbxRej : Bool := false
  mbxArg : W64 := 0
  mbxCount : W32 := 0
  mbxAddr : W64 := 0
  mbxResult : W64 := 0
  thermSlow : Bool := false
  deriving DecidableEq, Repr

/-- The state of the Phidor alone. `berthCache` lists the berths in the cache of R334, the one used last first, and `gatherSeen` the gathered operations
whose result chunks have passed without a context of them here (R232). -/
structure HubSt where
  lh : LighthouseSt := {}
  storage : Storage := {}
  fw : FwSt := {}
  tearing : List (Nat × Nat) := []
  seqs : Tab Seq := []
  lastGen : Tab Nat := []
  freeUnits : List Nat := [953, 954]
  dredging : List (Nat × Nat) := []
  paths : List Path := []
  routes : Tab Nat := []
  acks : List AckCtx := []
  gates : List GateCtx := []
  seen : List SeenStep := []
  ops : List OpCtx := []
  freed : List FreedOp := []
  gatherSeen : List (Nat × Nat × W32) := []
  discards : List Discard := []
  roundFault : Bool := false
  led : LedgerSt := {}
  anchors : List Anchor := []
  transfers : Tab Transfer := []
  period : Period := {}
  closing : List Period := []
  berths : Tab Nat := []
  berthCache : List Nat := []
  marksDue : List MarkDue := []
  msix : Tab W32 := []
  pba : List Nat := []
  pairs : List MemPair := (List.range 10).map (fun i => { a := some (2 * i), b := some (2 * i + 1) })
  deriving DecidableEq, Repr

/-- Firmware executes ring commands (R344). -/
def HubSt.fwRuns (h : HubSt) : Bool := h.fw.state == .running

/-- Firmware keeps its journal (R347, R353): it runs, or works towards the quiescent point of a handover. -/
def HubSt.fwCommits (h : HubSt) : Bool := h.fw.state == .running || h.fw.state == .handover

end Sys2Proof.Machine
end

