-- ==== Sys2Proof/Machine/StMeter.lean ====
section
/-!
DEFINITION. The state of the sealed meter section (R250 to R283).
-/

namespace Sys2Proof.Machine

/-- The meter states (R283). -/
inductive MState where
  | meterOpen
  | meterSealed
  | sealBroken
  deriving DecidableEq, Repr

/-- The code of a meter state (R283). -/
def MState.code : MState → Nat
  | .meterOpen => 0
  | .meterSealed => 1
  | .sealBroken => 2

/-- An interval that has ended and awaits its input cutoff (R259, R264): its number, its labels, the instant of its end on the meter's clock, its
legal duration, its energies, the registers after it, the flags of byte 2 and `TQ`, the parameters in force in it, and
the tables received by `MTR_ADDR`. -/
structure Ended where
  no : Nat
  startNs : W64
  endNs : W64
  closedNs : Nat
  us : Nat
  eInt : Nat
  eExp : Nat
  eCum : Nat
  eWraps : Nat
  flags : Nat
  tq : Nat
  uBase : Nat
  berths : Nat
  tables : Tab TableIn := []
  deriving DecidableEq, Repr

/-- Records taken for a block and not yet sealed into it (R268), with the state and epoch at the trigger. -/
structure Draft where
  recs : List (List Byte)
  first : Nat
  powerSeal : Bool
  mstate : MState
  epoch : Nat
  deriving DecidableEq, Repr

/-- A sealed block in the store (R269, R272): the `RSEQ` of its first record, its bytes and its records, when it was last
sent on the meter's clock, and whether both copies of it have failed (R274). -/
structure Block where
  first : Nat
  bytes : List Byte
  recs : List (List Byte)
  sentNs : Option Nat := none
  lost : Bool := false
  deriving DecidableEq, Repr

/-- The meter section of the TSU. `down` holds until the first start of its supply; `params` holds the parameters in force
by their code and `newParams` those accepted since the last boundary (R275), `paramWas` with an always-on cycle those accepted before it
(R282); `peers` the addresses of non-master sections
heard of; `lastV` and `lastI` the last voltage and current codes. `openNs` and `waitUntil` are instants of the meter's clock, in ns;
`word` is the `HT_NS` of the last valid HT word and `wordCyc` the always-on cycle in which it came (R252, R259);
`storeRetries` and `adcRetries` count the transient faults of the store (R274) and of the ADC (R360). -/
structure MeterSt where
  down : Bool := true
  halted : Bool := false
  strapMaster : Bool := false
  masters : Nat := 1
  mstate : MState := .meterOpen
  tamperOpen : Bool := false
  params : Tab W64 := []
  newParams : Tab W64 := []
  paramWas : Option (Nat × Tab W64) := none
  sealEpoch : Nat := 0
  evtCnt : Nat := 0
  accImp : Nat := 0
  accExp : Nat := 0
  eCum : Nat := 0
  eWraps : Nat := 0
  lastV : Int := 0
  lastI : Int := 0
  word : W64 := 0
  wordCyc : Nat := 0
  missed : Nat := 0
  lastMissed : Nat := 0
  ppm : Int := 0
  intervalNo : Nat := 0
  startNs : W64 := 0
  gridFrom : W64 := 0
  extended : Bool := false
  adcFault : Bool := false
  clip : Bool := false
  htRestart : Bool := false
  ended : List Ended := []
  peers : List Nat := []
  rseq : Nat := 0
  ackedRseq : Nat := 0
  openRecs : List (List Byte) := []
  openNs : Nat := 0
  drafts : List Draft := []
  bseq : Nat := 0
  prevHash : List Byte := []
  blocks : List Block := []
  waitUntil : Option Nat := none
  altPort : Bool := false
  log : List (List Byte) := []
  logLost : Nat := 0
  key : List Byte := []
  rejects : Nat := 0
  mirror : List Byte := []
  storeRetries : Nat := 0
  adcRetries : Nat := 0
  deriving DecidableEq, Repr

end Sys2Proof.Machine
end

