-- ==== Sys2Proof/Machine/StModule.lean ====
section
/-!
DEFINITION. The state of the PDM-52 module around the Phidor: input supply, converters, temperatures.
-/

namespace Sys2Proof.Machine

/-- The module (R440, R441, R443): converters on; turned off by `CTRL`; present pin mated; input in range since the last recovery;
shut down by an overvoltage that has not gone; the latched faults undervoltage, overvoltage, overcurrent and `THERM_TRIP`; chip held in reset until module power-on (R355). -/
structure ModuleSt where
  convOn : Bool := true
  ctrlOff : Bool := false
  present : Bool := true
  inRange : Bool := true
  ovShut : Bool := false
  uv : Bool := false
  ov : Bool := false
  oc : Bool := false
  tripLatched : Bool := false
  heldReset : Bool := false
  deriving DecidableEq, Repr

end Sys2Proof.Machine
end

