-- ==== Sys2Proof/Machine/State.lean ====
section
/-!
DEFINITION. The whole state of the block: one TSU with its host die side and meter section, one Phidor on its module,
the log of what they put out, and the queue of waiting commands.
-/

namespace Sys2Proof.Machine

/-- Faults: none. Every event that the spec calls a fault is recorded in the state (R363); none stops the model. -/
inductive Fault where
  /-- Never raised: kept so that the type has a name to report. Safe. -/
  | unused
  deriving DecidableEq, Repr

/-- Refusals of a step. -/
inductive Refusal where
  /-- The command has no meaning in this model yet; raised by the dispatch alone. Safe. -/
  | notModelled (mnemonic : String)
  deriving DecidableEq, Repr

/-- What a part puts out, in the order in which it does so (log entry 3). -/
inductive Out where
  /-- A write to host memory at an address, as one ordered write. -/
  | dma (p : Part) (addr : Nat) (data : List Byte)
  /-- An interrupt by its vector or index. -/
  | irq (p : Part) (vector : Nat)
  /-- A frame put on the lane of a port (R42). -/
  | frame (p : Part) (port : Nat) (f : Frame)
  /-- The answer to a core's read of HT (R99). -/
  | htRead (region core : Nat) (v : W64)
  /-- The value returned by a register read (R6). -/
  | regRead (p : Part) (v : W64)
  /-- An answer to a core's request that did not wait (R184, R225): `STATUS` and `VALUE`. -/
  | answer (core ctx : Nat) (status : Byte) (value : W32)
  /-- A core is told to deschedule a context, whose wait has begun (R194). -/
  | deschedule (core ctx : Nat)
  /-- A wake that a region consumed: core, context, answer (R100, R194). -/
  | wake (w : WakeRef)
  /-- A delay line fired for a region's strobe (R104): region, whole spine cycles and vernier code of the lead, bell. -/
  | delayLine (region cycles code : Nat) (bell : W64)
  /-- A message of a lighthouse's IEEE 1588 clock, on its management port (R65). -/
  | ptp (port : Nat) (b : PtpBody)
  /-- A write of result bytes into the host die's address space (R226, R241). -/
  | dieWrite (addr : Nat) (data : List Byte)
  /-- A grant of a soft request, or a hard limit applied (R178, R179). -/
  | grant (request : Nat)
  /-- A request of the host die's reset controller for a die reset (R372). -/
  | dieReset
  /-- An edge of the 1PPS output at the HT given (R442). -/
  | ppsOut (ns : W64)
  /-- The answer to an SMBus command (R443). -/
  | smbus (data : List Byte)
  /-- A die's interval input table put on the isolated SPI bus by a non-master section: its `MTR_ADDR` (R254, R263). -/
  | spi (addr : Nat) (table : TableIn)
  /-- An answer to the data mover for a remote signal (R212). -/
  | moverAnswer (status : Byte)
  deriving DecidableEq, Repr

/-- What a TSU and a Phidor both have. `took` is the instant at which each engine or unit last took a request from its queue (R371), and `hung` the engines,
units and firmware cores that have still to confirm the cancellation of a command, with the instant of that (R374). -/
structure PartCore where
  time : TimeSt := {}
  ports : Tab Port := []
  torn : List Torn := []
  keys : List FrameKey := []
  relKeys : List RelKey := []
  tdc : TdcSt := {}
  clk : ClockSt := {}
  rings : Tab Ring := []
  page : PageSt := {}
  flt : FaultSt := {}
  units : List UnitSt := []
  engines : Tab EngineSt := []
  took : Tab W64 := []
  hung : List (Nat × W64) := []
  gov : GovSt := {}
  cnt : CountSt := {}
  cfg : CfgSt := {}
  cycs : CycSt := {}
  deriving DecidableEq, Repr

/-- The whole state. `cyc` counts the always-on cycles that have passed: two commands between which it does not change fall in one
cycle (log entry 35). -/
structure State where
  tsu : PartCore
  phi : PartCore
  die : DieSt
  hub : HubSt
  meter : MeterSt
  mdl : ModuleSt
  out : List Out
  freeNext : Nat
  cyc : Nat
  pending : List Instr
  deriving DecidableEq, Repr

/-- The TSU right after the start of its always-on supply, before the dredge of step 2 (R14, R367, R376, R412): both ports owe the
`MEMBER_RESET` note, which the count of causes shows. -/
def PartCore.tsuReset : PartCore where
  ports := [(0, { noteOwed := some 3 }), (1, { channel := 1, noteOwed := some 3 })]
  flt := { cnt := [(69, 1)], perSec := [(0x0405, 1)] }
  cfg := { image := tsuResetImage, startStep := 2 }

/-- The Phidor right after its module's power-on, without a boot configuration (R367, R410, R414). -/
def PartCore.phiReset : PartCore where
  clk := { starting := true }
  cfg := { image := phiResetImage }

/-- The machine right after reset: the TSU's always-on power-on, the Phidor's module power-on, the meter section as manufactured
(log entry 2). -/
def State.reset : State where
  tsu := .tsuReset
  phi := .phiReset
  die := {}
  hub := {}
  meter := { htRestart := true }
  mdl := {}
  out := []
  freeNext := 0
  cyc := 0
  pending := []

end Sys2Proof.Machine
end

