-- ==== Sys2Proof/Machine/Cfg.lean ====
section
/-!
DEFINITION. The configuration registers: the bytes of a configuration block (R405, R406, R429), their reset values and the
fields that the model's operations read.
-/

namespace Sys2Proof.Machine

/-- A field of a part's configuration registers: block byte number and length. -/
def PartCore.cfgField (c : PartCore) (off n : Nat) : Nat := field c.cfg.image off n

/-- The number held at a bit of a configuration byte. -/
def PartCore.cfgBit (c : PartCore) (off bit : Nat) : Bool := (byteAt c.cfg.image off).getLsbD bit

/-- Die number of the TSU (R405). -/
def State.dieNum (s : State) : W16 := BitVec.ofNat 16 (s.tsu.cfgField 16 2)

/-- Phidor number (R406). -/
def State.phiNum (s : State) : W16 := BitVec.ofNat 16 (s.phi.cfgField 18 2)

/-- The Phidor's plane (R406). -/
def State.phiPlane (s : State) : Plane := bit1 (s.phi.cfgBit 16 0)

/-- The Phidor is a lighthouse (R406). -/
def State.lighthouse (s : State) : Bool := s.phi.cfgBit 16 1

/-- The Phidor's tier (R406). -/
def State.tier (s : State) : Nat := s.phi.cfgField 17 1

/-- The Phidor's uplink port, or 0xFFFF (R406). -/
def State.uplink (s : State) : Nat := s.phi.cfgField 20 2

/-- A lighthouse's sister port, or 0xFFFF (R406). -/
def State.sister (s : State) : Nat := s.phi.cfgField 22 2

/-- The lowest die number of the subtree (R406). -/
def State.dieLo (s : State) : Nat := s.phi.cfgField 24 2

/-- The highest die number of the subtree (R406). -/
def State.dieHi (s : State) : Nat := s.phi.cfgField 26 2

/-- A Phidor port is enabled in `PORT_EN` (R406). -/
def State.portEn (s : State) (i : Nat) : Bool := i < 528 && s.phi.cfgBit (28 + i / 8) (i % 8)

/-- The master lighthouse: a lighthouse whose plane is the master plane (R15, R64). -/
def State.master (s : State) : Bool := s.lighthouse && s.phi.time.masterPlane == s.phiPlane

/-- The port on which a part is a child: a TSU's both ports, a Phidor's uplink, the follower lighthouse's sister port
(R49). -/
def State.childPort (s : State) (p : Part) (port : Nat) : Bool :=
  match p with
  | .tsu => port < 2
  | .phi => if s.lighthouse then !s.master && port == s.sister else port == s.uplink

/-- The port on which a part begins exchanges: that on which it is a child, and the sister port of a master lighthouse in `FREE`,
which so may obtain HT from the other lighthouse (R19; DEDUCED, log entry 63). -/
def State.exchPort (s : State) (p : Part) (port : Nat) : Bool :=
  s.childPort p port || (match p with
    | .tsu => false
    | .phi => s.master && s.phi.time.state == .free && port == s.sister)

/-- The port on which a part answers exchanges: a Phidor's ports down, and the sister port of either lighthouse (R49, R62; DEDUCED, log
entry 63). -/
def State.parentPort (s : State) (p : Part) (port : Nat) : Bool :=
  match p with
  | .tsu => false
  | .phi => !s.childPort .phi port || (s.lighthouse && port == s.sister)

/-- `PTP_DOMAIN` and `PTP_UDP` (R65). -/
def State.ptpDomain (s : State) : Nat := s.phi.cfgField 94 1

/-- `PTP_UDP` (R65). -/
def State.ptpUdp (s : State) : Bool := s.phi.cfgBit 16 2

/-- `BEACON_EXP` (R50). -/
def State.beaconExp (s : State) : Part → Nat
  | .tsu => s.tsu.cfgField 22 1 % 32
  | .phi => s.phi.cfgField 95 1 % 32

/-- The preferred plane (R59). -/
def State.planePref (s : State) : Plane := bit1 (s.tsu.cfgBit 23 0)

/-- `REVERT` (R59). -/
def State.revert (s : State) : Bool := s.tsu.cfgBit 23 1

/-- `MTR_PLANE` (R272). -/
def State.mtrPlane (s : State) : Nat := if s.tsu.cfgBit 23 2 then 1 else 0

/-- `ASYM_RECAL_S` (R57). -/
def State.asymRecalS (s : State) : Nat := s.tsu.cfgField 24 2

/-- `TDC_RECAL_S` (R79). The Phidor has no such register; its period is the reset value (log entry 9). -/
def State.tdcRecalS (s : State) : Part → Nat
  | .tsu => s.tsu.cfgField 26 2
  | .phi => 300

/-- `SPINE_RECAL_S` (R103). -/
def State.spineRecalS (s : State) : Nat := s.tsu.cfgField 28 2

/-- `FAST_IDLE_US` (R94). -/
def State.fastIdleUs (s : State) : Nat := s.tsu.cfgField 30 2

/-- `CROSS_MARGIN_NS` (R107). -/
def State.crossMarginNs (s : State) : Nat := s.tsu.cfgField 32 1

/-- `EXPEL_PER_HOUR` (R379). -/
def State.expelPerHour (s : State) : Part → Nat
  | .tsu => s.tsu.cfgField 33 1
  | .phi => s.phi.cfgField 107 1

/-- `TRANSIENT_WARN` (R362). -/
def State.transientWarn (s : State) : Part → Nat
  | .tsu => s.tsu.cfgField 34 2
  | .phi => s.phi.cfgField 122 2

/-- `THROTTLE_DEFER_US` (R178). -/
def State.throttleDeferUs (s : State) : Nat := s.tsu.cfgField 36 4

/-- `PEND_TIMEOUT_US` (R213). -/
def State.pendTimeoutUs (s : State) : Nat := s.tsu.cfgField 40 4

/-- `WB_TIMEOUT_US` (R245). -/
def State.wbTimeoutUs (s : State) : Nat := s.tsu.cfgField 44 4

/-- `STALL_US` (R371). -/
def State.stallUs (s : State) : Part → Nat
  | .tsu => s.tsu.cfgField 48 4
  | .phi => s.phi.cfgField 124 4

/-- `HB_TIMEOUT_MS` (R311). -/
def State.hbTimeoutMs (s : State) : Part → Nat
  | .tsu => s.tsu.cfgField 52 4
  | .phi => s.phi.cfgField 128 4

/-- `STATE_PERIOD_US` (R303). -/
def State.statePeriodUs (s : State) : Part → Nat
  | .tsu => s.tsu.cfgField 56 4
  | .phi => s.phi.cfgField 132 4

/-- `MTR_ACK_MS` (R272). -/
def State.mtrAckMs (s : State) : Nat := s.tsu.cfgField 60 2

/-- `SPARE_FLOOR` of a unit kind (R379). -/
def State.spareFloor (s : State) : Part → Nat → Nat
  | .tsu, k => s.tsu.cfgField (62 + k) 1
  | .phi, k => s.phi.cfgField (112 + k) 1

/-- `TRACE_WINDOW` in s (R18). -/
def State.traceWindowS (s : State) : Nat := s.phi.cfgField 96 4

/-- `XCHECK_LIMIT` in ns (R63). -/
def State.xcheckLimitNs (s : State) : Nat := s.phi.cfgField 100 4

/-- `POLL_US` (R290). -/
def State.pollUs (s : State) : Nat := s.phi.cfgField 104 2

/-- `TOTALS_EXP` (R335). -/
def State.totalsExp (s : State) : Nat := s.phi.cfgField 106 1

/-- `TOTALS_GRACE_MS` (R335). -/
def State.totalsGraceMs (s : State) : Nat := s.phi.cfgField 108 4

/-- A configuration is in force (R408). -/
def PartCore.configured (c : PartCore) : Bool := c.cfg.inForce.isSome

/-- The main life-cycle state is `SERVICE`, in which basins are refused with `FENCED` (R417). -/
def PartCore.inService (c : PartCore) : Bool := c.cfg.lcState == 3

/-- The main life-cycle state is `RETIRED` (R417). -/
def PartCore.retired (c : PartCore) : Bool := c.cfg.lcState == 4

end Sys2Proof.Machine
end

