-- ==== Sys2Proof/Machine/Ops.lean ====
section
/-!
DEFINITION. The operations that every family of commands shares: access to a part, HT and instants, the output log, free
values and performance counters.
-/

namespace Sys2Proof.Machine

/-- The outcome that every meaning of this model gives: a next state. -/
abbrev Result := Host.Outcome State Fault Refusal

/-- The common state of a part. -/
def State.part (s : State) : Part → PartCore
  | .tsu => s.tsu
  | .phi => s.phi

/-- Replaces the common state of a part. -/
def State.setPart (s : State) : Part → PartCore → State
  | .tsu, c => { s with tsu := c }
  | .phi, c => { s with phi := c }

/-- Changes the common state of a part. -/
def State.upd (s : State) (p : Part) (f : PartCore → PartCore) : State := s.setPart p (f (s.part p))

/-- `HT_NS` of a part: the whole nanoseconds of the accumulator (R10, R12). -/
def TimeSt.ns (t : TimeSt) : W64 := t.acc.extractLsb' 48 64

/-- HT of a part as 80 bits: `HT_NS` and the top 16 bits of the fraction (R10, R12). -/
def TimeSt.ht (t : TimeSt) : Ht80 := t.acc.extractLsb' 32 80

/-- `HT_NS` of a part now. -/
def State.ns (s : State) (p : Part) : W64 := (s.part p).time.ns

/-- HT of a part now. -/
def State.ht (s : State) (p : Part) : Ht80 := (s.part p).time.ht

/-- The difference of two instants as a signed number of ns (R13). -/
def nsDiff (a b : W64) : Int := (a - b).toInt

/-- Instant `a` is later than instant `b` (R13). -/
def later (a b : W64) : Bool := nsDiff a b > 0

/-- Instant `t` has been reached at `now` (R13). -/
def reached (now t : W64) : Bool := nsDiff now t ≥ 0

/-- An instant moved by a signed number of ns (R13). -/
def nsAdd (t : W64) (d : Int) : W64 := t + BitVec.ofInt 64 d

/-- Microseconds in ns. -/
def us (n : Nat) : Int := 1000 * (n : Int)

/-- Milliseconds in ns. -/
def ms (n : Nat) : Int := 1000000 * (n : Int)

/-- Seconds in ns. -/
def sec (n : Nat) : Int := 1000000000 * (n : Int)

/-- `d` ns have passed at `now` since instant `t`. -/
def elapsed (now t : W64) (d : Int) : Bool := nsDiff now t ≥ d

/-- A condition that must hold for `d` ns without a break has held that long (R24, R58). -/
def heldFor (now : W64) (since : Option W64) (d : Int) : Bool :=
  match since with
  | some t => elapsed now t d
  | none => false

/-- Keeps the instant since which a condition has held without a break. -/
def sinceWhen (now : W64) (since : Option W64) (holds : Bool) : Option W64 :=
  if holds then (match since with | some t => some t | none => some now) else none

/-- The short stamp of an instant (R20). -/
def shortStamp (t : W64) : W32 := t.setWidth 32

/-- The expansion of a short stamp by a receiver whose `HT_NS` is `h` (R21). -/
def expandStamp (h : W64) (st : W32) : W64 := h + BitVec.ofInt 64 (st - shortStamp h).toInt

/-- An expanded stamp lies within 1 s of the receiver's HT (R22). -/
def stampNear (h t : W64) : Bool := (nsDiff t h).natAbs ≤ 1000000000

/-- A part in these states expands short stamps (R22). -/
def TimeSt.expands (t : TimeSt) : Bool :=
  match t.state with
  | .locked | .holdover | .degraded => true
  | _ => false

/-- The 10 bytes of a stored HT: `HT_FRAC` in bytes 0 and 1, `HT_NS` in bytes 2 to 9 (R11). -/
def htBytes (h : Ht80) : List Byte := leOf 10 h

/-- A step number is later than another, the steps compared modulo 2^48 as instants are (log entry 12). -/
def stepLater (a b : StepNo) : Bool := (a - b).toInt > 0

/-- A step number is at or after another (log entry 12). -/
def stepFrom (a b : StepNo) : Bool := (a - b).toInt ≥ 0

/-- Puts something out. -/
def State.emit (s : State) (o : Out) : State := { s with out := s.out ++ [o] }

/-- The vector control word of an MSI-X vector (`MSI-X table`): masked after reset, as PCI Express defines it (PRESUMED, log
entry 22). -/
def State.msixCtrl (s : State) (v : Nat) : W32 := tabGet 1 s.hub.msix (4 * v + 3)

/-- Raises an interrupt (R298, R364): a host die interrupt of the TSU, or an MSI-X vector of the Phidor, which is kept in the
PBA while the vector is masked (R314). -/
def State.raiseIrq (s : State) (p : Part) (v : Nat) : State :=
  match p with
  | .tsu => s.emit (.irq .tsu v)
  | .phi =>
    if (s.msixCtrl v).getLsbD 0 then { s with hub.pba := v :: s.hub.pba.filter (· != v) } else s.emit (.irq .phi v)

/-- Writes bytes to host memory as one ordered write; an empty string writes nothing. -/
def State.dma (s : State) (p : Part) (addr : Nat) (data : List Byte) : State :=
  if data.isEmpty then s else s.emit (.dma p addr data)

/-- Writes a record in two ordered writes: the bytes from `k` on first and bytes 0 to k - 1 after them (R297, R308,
R364, R399). -/
def State.dmaOrdered (s : State) (p : Part) (addr k : Nat) (data : List Byte) : State :=
  (s.dma p (addr + k) (data.drop k)).dma p addr (data.take k)

/-- Takes the next free value (log entry 5). -/
def State.takeFree (s : State) : BitVec 256 × State :=
  (Config.freeValue s.freeNext, { s with freeNext := s.freeNext + 1 })

/-- One performance counter advanced by `n` in a cycle; a wrap sets its sticky bit (R394). -/
def Counter.add (c : Counter) (n cyc : Nat) : Counter :=
  let wraps := decide (c.value.toNat + n ≥ 2 ^ 64)
  { c with value := c.value + BitVec.ofNat 64 n, wrap := c.wrap || wraps, wrapCyc := if wraps then some cyc else c.wrapCyc }

/-- Counts `n` events at an instance, the counters kept in ascending event and instance order (R394, R399). -/
def countIn (cyc : Nat) : List Counter → Nat → Nat → Nat → List Counter
  | [], e, i, n => [Counter.add { event := e, inst := i, value := 0, wrap := false } n cyc]
  | c :: cs, e, i, n =>
    if c.event = e ∧ c.inst = i then c.add n cyc :: cs
    else if e < c.event ∨ (e = c.event ∧ i < c.inst) then
      Counter.add { event := e, inst := i, value := 0, wrap := false } n cyc :: c :: cs
    else c :: countIn cyc cs e i n

/-- Counts `n` events of a part at an instance (R394 to R396). -/
def State.count (s : State) (p : Part) (event inst n : Nat) : State :=
  s.upd p fun c => { c with cnt.counters := countIn s.cyc c.cnt.counters event inst n }

/-- The value of a counter. -/
def PartCore.counter (c : PartCore) (event inst : Nat) : Nat :=
  match c.cnt.counters.find? (fun x => x.event == event && x.inst == inst) with
  | some x => x.value.toNat
  | none => 0

/-- An engine or unit takes a request from its queue (R371). -/
def State.take (s : State) (p : Part) (n : Nat) : State :=
  s.upd p fun c => { c with took := tabSet c.took n c.time.ns }

/-- Does nothing: what a command does whose event has not come about in this state (log entry 4). -/
def nothing (s : State) : Result := .next s

/-- Applies an effect when its condition holds, and nothing otherwise (log entry 4). -/
def whenever (c : Bool) (s t : State) : Result := .next (if c then t else s)

/-- An access is naturally aligned and of 4 or 8 bytes (R423). -/
def accessOk (off len : Nat) : Bool := (len == 4 || len == 8) && off % len == 0

/-- Changes the state of the Phidor alone. -/
def State.hubUpd (s : State) (f : HubSt → HubSt) : State := { s with hub := f s.hub }

/-- The package of a pair that serves its reads (R321, R323): the one in the even place, or in the odd place while the even one is empty,
being filled or held suspect. -/
def State.readPlace (s : State) (pair : Nat) : Option Nat :=
  match s.hub.pairs[pair]? with
  | none => none
  | some m =>
    let suspect (x : Nat) : Bool := s.phi.units.any (fun u => u.kind == 6 && u.index == x && u.state == .suspect)
    match m.a with
    | some x => if suspect x && m.b.isSome then m.b else m.a
    | none => m.b

/-- Beats of 64 bytes are read from a package (R396). DESIGN CHOICE (log 87): the width of a beat is stated nowhere. -/
def State.beats (s : State) (pkg n : Nat) : State := s.count .phi 0x1501 pkg n

/-- Beats are read from a pair (R321, R396). -/
def State.readPair (s : State) (pair n : Nat) : State :=
  match s.readPlace pair with
  | some x => s.beats x n
  | none => s

/-- Hardware sets a W1C bit of a part: noted for the cycle (R7). -/
def State.noteSet (s : State) (p : Part) (b : W1c) : State :=
  s.upd p fun c => { c with cycs.sets := (b, s.cyc) :: c.cycs.sets.filter (fun x => x.2 == s.cyc) }

/-- A W1C bit after a write of 1 to it or of 0: hardware that has set it in the same cycle leaves it set (R6, R7). -/
def State.afterW1c (s : State) (p : Part) (b : W1c) (v one : Bool) : Bool :=
  v && (!one || (s.part p).cycs.sets.contains (b, s.cyc))

/-- An access breaks R423: `ACC_ERR`. -/
def State.accessError (s : State) (p : Part) : State := (s.upd p fun c => { c with cfg.accErr := true }).noteSet p .accErr

/-- The reset domain of a register of the TSU: 0 TSU, 1 DIE, 2 AON, from the captions of the register maps. -/
def tsuDomain (off : Nat) : Nat :=
  if 0x0340 ≤ off ∧ off < 0x0360 then 2
  else if off < 0x0208 ∨ (0x0900 ≤ off ∧ off < 0x0908) ∨ (0x0D00 ≤ off ∧ off < 0x0E00) ∨ 0x1800 ≤ off then 1
  else 0

/-- A write to a TSU register is lost to a reset of its domain in the same cycle (R8, R437). -/
def State.writeLost (s : State) (off : Nat) : Bool := s.tsu.cycs.dredged.any (fun d => d.1 == s.cyc && tsuDomain off ≤ d.2)

/-- The CRC-32C of a journal record, over its number and the change that it carries (R347). -/
def jrecCrc (seq : Nat) (body : List Byte) : W32 := crc32c (leBytes 8 seq ++ body)

/-- A journal record counts: its CRC passes (R347, R359). -/
def JRec.ok (r : JRec) : Bool := r.crc == jrecCrc r.seq r.body

/-- Firmware commits one journal record (R347). -/
def State.journalRec (s : State) (body : List Byte) : State :=
  let n := s.hub.fw.jseq + 1
  { s with hub.fw.jseq := n, hub.fw.journal := s.hub.fw.journal ++ [⟨n, body, jrecCrc n body⟩] }

/-- The records that a replay applies (R347): in order of their numbers, up to a torn one. They have been applied already, and replaying
them leaves the state unchanged. -/
def FwSt.replayed (f : FwSt) : List JRec := f.journal.takeWhile JRec.ok

/-- A checkpoint takes in the journal (R347). -/
def State.compact (s : State) : State :=
  { s with hub.fw.journal := [], hub.fw.checkpoint := s.hub.fw.jseq, hub.fw.checkNs := s.ns .phi }

/-- The firmware cores that can write (R338, R339): those of the complex while firmware is `RUNNING`, every core in service otherwise. -/
def FwSt.writers (f : FwSt) : List Nat :=
  (if f.state = .running then (f.roleCore.take 7).eraseDups else List.range 8).filter (fun c => !f.coresOut.contains c)

/-- `ROLE` of a log entry (R356): 0xFF in the complex, and the core's fixed role otherwise. -/
def FwSt.roleOf (f : FwSt) (core : Nat) : Nat :=
  if f.state = .running then 0xFF else (f.roleCore.findIdx? (· == core)).getD core

/-- Firmware writes one entry of its log (R356): to the history up to `LEVEL` 3, to the host ring up to `FW_LOG_LEVEL`, bytes
8 to 63 first. -/
def State.fwEntry (s : State) (core level kind role code arg0 : Nat) (args : List Nat) : State :=
  let f := s.hub.fw
  let bytes := leOf 8 f.fseq ++ leOf 8 (s.ns .phi) ++ leBytes 1 (core % 8 + 8 * (level % 8) + 64 * kind) ++ leBytes 1 role
    ++ leBytes 2 code ++ leBytes 4 arg0 ++ args.flatMap (leBytes 8) ++ zeros 8
  let hist := if level ≤ 3 then (if f.history.length < 2 ^ 29 then f.history else f.history.drop 1) ++ [bytes] else f.history
  let s := { s with hub.fw.fseq := f.fseq + 1, hub.fw.history := hist }
  if f.logBase = 0 ∨ level > f.logLevel then s
  else s.dmaOrdered .phi (f.logBase.toNat + 64 * (f.fseq.toNat - 1) % 2 ^ f.logLog2) 8 bytes

/-- An enabled trace point writes its entry (R357). Which core of those that can write does so, and the level, are not stated: free values (log
entry 5). -/
def State.trace (s : State) (point arg0 arg1 arg2 : Nat) : State :=
  if s.hub.fw.traceEn.getLsbD point then
    let (v, s) := s.takeFree
    let l := s.hub.fw.writers
    let core := l.getD (v.toNat / 64 % l.length) 0
    s.fwEntry core (v.toNat / 8 % 5) 1 (s.hub.fw.roleOf core) point arg0 [arg1, arg2, 0, 0]
  else s

/-- The trace points of window traps (R357): which of the 128 points an access has is not stated, a free value (log
entry 5). -/
def State.traceTrap (s : State) (off value : Nat) (write : Bool) : State :=
  if (List.range 128).any (fun i => s.hub.fw.traceEn.getLsbD (640 + i)) then
    let (v, s) := s.takeFree
    s.trace (640 + v.toNat % 128) off value (nb write)
  else s

/-- A register of reset domain FW (R349), whose value does not survive a restart. -/
def fwDomain (off : Nat) : Bool := (0x2080 ≤ off && off < 0x2100) || (0x4000 ≤ off && off < 0x4028)

/-- Firmware applies a write to the window (R345, R347, R357, R423). -/
def State.fwApply (s : State) (off : Nat) (data : List Byte) (k : State → State) : State :=
  let s := s.traceTrap off (leNat data) true
  if accessOk off data.length then k (if fwDomain off then s else s.journalRec ([2] ++ leBytes 4 off ++ data)) else s.accessError .phi

/-- Firmware takes a trapped access as it comes (R345): it runs, gets to it in this cycle, and no earlier write waits. -/
def FwSt.prompt (f : FwSt) : Bool := f.state == .running && !f.busy && f.trapQueue.isEmpty && f.trapReads.isEmpty

/-- A write of software to a register window: the TSU's takes effect at once, unless a reset of the same cycle wins (R437); the Phidor's passes the trap queue, is applied
while firmware runs and gets to it, waits otherwise, and is lost when the queue is full, the complex is halted or the chip is in reset (R345,
R346, R369, R423). `line` is the content of the doorbell line that a nudge makes the part read. -/
def State.viaWindow (s : State) (p : Part) (off : Nat) (data : List Byte) (k : State → State) (line : List Byte := []) :
    Result :=
  match p with
  | .tsu =>
    if accessOk off data.length then .next (if s.writeLost off then s else k s) else .next (s.accessError .tsu)
  | .phi =>
    if s.phi.cfg.startStep ≤ 1 then nothing s
    else
      let s := s.count .phi 0x1603 0 1
      if s.hub.fw.state = .halted then .next s
      else if s.hub.fw.prompt then .next (s.fwApply off data k)
      else
        if s.hub.fw.trapQueue.length < 256 then
          .next { s with hub.fw.trapQueue := s.hub.fw.trapQueue ++ [⟨off, data, line⟩] }
        else .next ({ s with hub.fw.trapOvf := true }.noteSet .phi .trapOvf)

/-- The default of a port that has not been used: port A is served by channel A and port B by channel B
(`PORT_STATUS`); a Phidor port by the channel at its lane position (R40), and the spare tail of a bundle, numbered 528 to 561 here,
by the spare channel (R68). -/
def freshPort (p : Part) (port : Nat) : Port :=
  match p with
  | .tsu => { channel := port }
  | .phi => { channel := if port < 512 then port % 16 else if port < 528 then (port - 512) % 8 else if port < 560 then 16 else 8 }

/-- A port of a part. -/
def State.port (s : State) (p : Part) (i : Nat) : Port := tabGet (freshPort p i) (s.part p).ports i

/-- Changes a port of a part. -/
def State.updPort (s : State) (p : Part) (i : Nat) (f : Port → Port) : State :=
  s.upd p fun c => { c with ports := tabMod (freshPort p i) c.ports i f }

/-- The ports that a part has (R1). -/
def portCount : Part → Nat
  | .tsu => 2
  | .phi => 528

/-- A port that exists and, on a Phidor, is enabled (R1, R406). -/
def State.portExists (s : State) (p : Part) (i : Nat) : Bool :=
  match p with
  | .tsu => i < 2
  | .phi => s.portEn i

/-- The ports of a part that are `UP`. -/
def State.upPorts (s : State) (p : Part) : List Nat :=
  ((s.part p).ports.filter (fun e => e.2.lstate == .up)).map (·.1)

/-- The ports that lead towards the lighthouse: both of a TSU, the uplink of a Phidor that is not a lighthouse. -/
def State.upwardPorts (s : State) (p : Part) : List Nat :=
  match p with
  | .tsu => [0, 1]
  | .phi => if s.lighthouse then [] else [s.uplink]

/-- The ports of a Phidor that lead down, away from the lighthouse and not over the sister link. -/
def State.downPorts (s : State) : List Nat :=
  (s.upPorts .phi).filter (fun i => i != s.uplink && i != s.sister)

/-- The `UP` bit of a frame's envelope (R43): the frame travels towards the lighthouse. -/
def State.towards (s : State) (p : Part) (port : Nat) : Bool :=
  match p with
  | .tsu => true
  | .phi => if s.lighthouse then port == s.sister && s.childPort .phi port else port == s.uplink

/-- The plane that a part puts in a frame sent on a port (R43): a TSU's port A belongs to plane A and port B to plane B. -/
def State.sendPlane (s : State) (p : Part) (port : Nat) : Plane :=
  match p with
  | .tsu => bit1 (port == 1)
  | .phi => s.phiPlane

/-- A frame of this part for a port; `LSEQ`, `LACK` and `RETX` are filled in when it is sent (R43). -/
def State.mkFrame (s : State) (p : Part) (port : Nat) (basin : BitVec 12) (gen : W16) (pl : Payload) : Frame :=
  { plane := s.sendPlane p port, up := s.towards p port, retx := false, lseq := 0, lack := 0,
    basin := basin, gen := gen, pl := pl }

/-- A frame is of the beacon family: `LINK_IDENT`, `LINK_CTRL`, `BEACON_REQ`, `BEACON_RESP`, `BEACON_FU` and
`TIME_INFO` (R41). -/
def beaconFamily : Payload → Bool
  | .linkIdent _ | .linkCtrl _ | .beaconReq _ | .beaconResp _ | .beaconFu _ | .timeInfo _ => true
  | _ => false

/-- Whether a part may send a frame with this payload (R41, R411, R417): a TSU without a configuration, a Phidor without
a configuration and without a boot configuration, and a retired part send idle blocks only; a Phidor without a
configuration in force sends the beacon family only. -/
def State.maySend (s : State) (p : Part) (pl : Payload) : Bool :=
  if (s.part p).cfg.lcState == 4 then false
  else match p with
    | .tsu => s.tsu.configured
    | .phi => s.phi.configured || (s.hub.storage.bootCfg.isSome && beaconFamily pl)

/-- Sends an unreliable frame at once, carrying the last in-order `LSEQ` received (R43, R47). An end that has turned its
pairs sends nothing before it has block lock again (R55). -/
def State.sendNow (s : State) (p : Part) (port : Nat) (pl : Payload) : State :=
  if s.maySend p pl && !(s.port p port).waitLock then
    let f := { s.mkFrame p port 0 0 pl with lack := (s.port p port).rxNext - 1 }
    let s := s.updPort p port fun q => { q with ackOwed := none }
    let s := s.count p (if p = .tsu then 0x0103 else 0x1103) port 1
    s.emit (.frame p port f)
  else s

/-- Queues a reliable frame on a port: taken only by a port that is `UP` and not draining (R47, R383). -/
def State.queueFrame (s : State) (p : Part) (port : Nat) (basin : BitVec 12) (gen : W16) (pl : Payload) : State :=
  let q := s.port p port
  if q.lstate == .up && q.admin == .enabled && s.maySend p pl then
    s.updPort p port fun q => { q with queue := q.queue ++ [s.mkFrame p port basin gen pl] }
  else s

/-- Queues a reliable frame on each of several ports. -/
def State.queueAll (s : State) (p : Part) (ports : List Nat) (basin : BitVec 12) (gen : W16) (pl : Payload) : State :=
  ports.foldl (fun s i => s.queueFrame p i basin gen pl) s

end Sys2Proof.Machine
end

