-- ==== Sys2Proof/Machine/Faults.lean ====
section
/-!
DEFINITION. Fault records and notes (R363 to R366), the retry rule's counts (R360 to R362), unit states, and the health
governor (R378 to R380).
-/

namespace Sys2Proof.Machine

/-- The fault causes of R366. -/
inductive Cause where
  | refClockLost | htParity | stampRange | lighthouseDisagree
  | laneFault | linkFailed | planeMismatch | topology | dieDuplicate | calFailed | asymJump | laneCable
  | calSource | tdcCalFailed | beaconJitter | tdcDrift | regionClockRange | spinePll | spineParity | spineCalFailed
  | crossingSlip | fastWakeLate
  | commitMissed | launchRefused | strobeWithheld | tideFault | memberReset
  | gateTimeout | gateUseAhead | gateContextFull | tallyWindow | signalRefused | flagOrphan
  | wbMismatch | wbContextFull | wbResidue | wbPlaneDiff | wbResultBad | wbTimeout
  | meterSelfTest | meterStrap | meterAdc | meterStore
  | ringIndex | cmdTimeout | driverGone
  | memPackage | memPairLost | recordFormat
  | fwImageBad | fwWatchdog | fwCore | fwHandoverFailed | fwHalted | thermHigh | thermTrip | supplyRange
  | engineStall | engineReset | resetHung | governorHold | transientRate
  deriving DecidableEq, Repr

/-- The code of a fault cause (R366). -/
def Cause.code : Cause → Nat
  | .refClockLost => 0x0101 | .htParity => 0x0102 | .stampRange => 0x0103 | .lighthouseDisagree => 0x0104
  | .laneFault => 0x0201 | .linkFailed => 0x0202 | .planeMismatch => 0x0203 | .topology => 0x0204
  | .dieDuplicate => 0x0205 | .calFailed => 0x0206 | .asymJump => 0x0207 | .laneCable => 0x0208
  | .calSource => 0x0301 | .tdcCalFailed => 0x0302 | .beaconJitter => 0x0303 | .tdcDrift => 0x0304
  | .regionClockRange => 0x0305 | .spinePll => 0x0306 | .spineParity => 0x0307 | .spineCalFailed => 0x0308
  | .crossingSlip => 0x0309 | .fastWakeLate => 0x030A
  | .commitMissed => 0x0401 | .launchRefused => 0x0402 | .strobeWithheld => 0x0403 | .tideFault => 0x0404
  | .memberReset => 0x0405
  | .gateTimeout => 0x0501 | .gateUseAhead => 0x0502 | .gateContextFull => 0x0503 | .tallyWindow => 0x0504
  | .signalRefused => 0x0505 | .flagOrphan => 0x0506
  | .wbMismatch => 0x0601 | .wbContextFull => 0x0602 | .wbResidue => 0x0603 | .wbPlaneDiff => 0x0604
  | .wbResultBad => 0x0605 | .wbTimeout => 0x0606
  | .meterSelfTest => 0x0701 | .meterStrap => 0x0702 | .meterAdc => 0x0703 | .meterStore => 0x0704
  | .ringIndex => 0x0801 | .cmdTimeout => 0x0802 | .driverGone => 0x0803
  | .memPackage => 0x0901 | .memPairLost => 0x0902 | .recordFormat => 0x0903
  | .fwImageBad => 0x0A01 | .fwWatchdog => 0x0A02 | .fwCore => 0x0A03 | .fwHandoverFailed => 0x0A04
  | .fwHalted => 0x0A05 | .thermHigh => 0x0A06 | .thermTrip => 0x0A07 | .supplyRange => 0x0A08
  | .engineStall => 0x0B01 | .engineReset => 0x0B02 | .resetHung => 0x0B03 | .governorHold => 0x0B04
  | .transientRate => 0x0B05

/-- The code of a cause as a 16-bit field. -/
def Cause.w (c : Cause) : W16 := BitVec.ofNat 16 c.code

/-- The class of a cause at a part: 0 event, 1 lasting fault, 2 governor hold, 3 transient rate (R363, R366). -/
def Cause.cls (p : Part) : Cause → Nat
  | .refClockLost | .htParity | .laneFault | .linkFailed | .calFailed | .laneCable | .calSource | .tdcCalFailed
  | .beaconJitter | .tdcDrift | .spinePll | .spineParity | .spineCalFailed | .wbResidue | .meterSelfTest | .meterStore
  | .memPackage | .memPairLost | .fwImageBad | .fwCore | .fwHalted | .thermTrip | .supplyRange => 1
  | .resetHung => (match p with | .tsu => 0 | .phi => 1)
  | .governorHold => 2
  | .transientRate => 3
  | _ => 0

/-- The class of a cause code taken from a note of a part. -/
def classOfCode (phi : Bool) (code : Nat) : Nat :=
  if code ∈ [0x0101, 0x0102, 0x0201, 0x0202, 0x0206, 0x0208, 0x0301, 0x0302, 0x0303, 0x0304, 0x0306, 0x0307, 0x0308,
      0x0603, 0x0701, 0x0704, 0x0901, 0x0902, 0x0A01, 0x0A03, 0x0A05, 0x0A07, 0x0A08] then 1
  else if code = 0x0B03 then (if phi then 1 else 0)
  else if code = 0x0B04 then 2
  else if code = 0x0B05 then 3
  else 0

/-- What a fault record says (R363), before it is numbered and written. -/
structure FaultRec where
  ht : Ht80
  cause : Nat
  cls : Nat
  remote : Bool
  originPhi : Bool
  noted : Bool
  origin : W16
  detail : W32
  ext : List Byte
  deriving DecidableEq, Repr

/-- Bytes 8 to 63 of a fault record (R363). -/
def FaultRec.tail (r : FaultRec) : List Byte :=
  htBytes r.ht ++ leBytes 2 r.cause
    ++ [BitVec.ofNat 8 (r.cls + (if r.remote then 4 else 0) + (if r.originPhi then 8 else 0) + (if r.noted then 16 else 0)), 0]
    ++ leOf 2 r.origin ++ leOf 4 r.detail ++ zeros 4 ++ padTo 32 r.ext

/-- The second of HT in which an instant falls (R364). -/
def secondOf (t : W64) : Nat := t.toNat / 1000000000

/-- Begins the per-second counts anew in a new second of HT (R364, R365). -/
def FaultSt.turn (f : FaultSt) (now : W64) : FaultSt :=
  if f.sec = secondOf now then f else { f with sec := secondOf now, perSec := [], noted := [] }

/-- The word of `FLT_CNT` in which a cause code is counted: 16 g + n (R366, `FLT_CNT`). -/
def fltWord (code : Nat) : Nat := 16 * (code / 256 % 16) + code % 16

/-- Counts a cause in its per-cause counter, saturating (R364). -/
def FaultSt.tally (f : FaultSt) (code : Nat) : FaultSt :=
  { f with cnt := tabMod 0 f.cnt (fltWord code) (fun n => satNat 32 (n + 1)) }

/-- A class 0 record of this cause is held back by `FLT_RATE` (R364). -/
def FaultSt.limited (f : FaultSt) (cls code : Nat) : Bool := cls == 0 && tabGet 0 f.perSec code ≥ f.rate

/-- Writes a record to the fault ring, or only counts it (R363, R364): bytes 8 to 63 first and bytes 0 to 7 after them;
a record held back by `FLT_RATE`, or formed while `FLT_BASE` is 0, takes no number. -/
def State.writeFault (s : State) (p : Part) (r : FaultRec) : State :=
  let f := ((s.part p).flt.turn (s.ns p)).tally r.cause
  if f.limited r.cls r.cause then s.upd p fun c => { c with flt := f }
  else
    if f.base = 0 then s.upd p fun c => { c with flt := f }
    else
      let f := { f with perSec := tabMod 0 f.perSec r.cause (· + 1) }
      let addr := f.base.toNat + 64 * ((f.seqNext.toNat - 1) % 2 ^ f.log2)
      let s1 := (s.dma p (addr + 8) r.tail).dma p addr (leOf 8 f.seqNext)
      let s2 := s1.upd p fun c => { c with flt := { f with seqNext := f.seqNext + 1 } }
      if r.cls ≠ 0 ∧ f.irqEn then s2.raiseIrq p f.vector else s2

/-- Writes the `RESET_HUNG` record of step 4 that the always-on domain keeps, as the first record after the die reset (R372).
While `FLT_BASE` is 0 it stays kept. -/
def State.writeSaved (s : State) : State :=
  match s.tsu.flt.saved with
  | none => s
  | some (detail, ext, ht) =>
    if s.tsu.flt.base = 0 then s
    else
      (s.upd .tsu fun c => { c with flt.saved := none }).writeFault .tsu
        { ht := ht, cause := Cause.resetHung.code, cls := 0, remote := false, originPhi := false, noted := false,
          origin := BitVec.ofNat 16 (s.tsu.cfgField 16 2), detail := BitVec.ofNat 32 detail, ext := ext }

/-- The identity that a part puts in records and notes: die number or Phidor number. -/
def State.selfId (s : State) : Part → W16
  | .tsu => s.dieNum
  | .phi => s.phiNum

/-- The ports up which a fault note goes (R365): those towards the lighthouse that are `UP` and take frames. -/
def State.notePorts (s : State) (p : Part) : List Nat :=
  (s.upwardPorts p).filter (fun i => (s.port p i).lstate == .up && (s.port p i).admin == .enabled)

/-- A note of a cause goes up (R365): a port is `UP`, and no note of the cause has gone up in this second of HT, `MEMBER_RESET` apart. -/
def State.noteGoes (s : State) (p : Part) (code : Nat) : Bool :=
  !(s.notePorts p).isEmpty && (code == Cause.memberReset.code || !(((s.part p).flt.turn (s.ns p)).noted.contains code))

/-- Sends one fault note upward for a record, at most one for each cause in each second of HT, `MEMBER_RESET` apart; the
others are counted (R365). -/
def State.noteUp (s : State) (p : Part) (code : Nat) (detail : W32) : State :=
  let f := (s.part p).flt.turn (s.ns p)
  let s := s.upd p fun c => { c with flt := f }
  if (s.notePorts p).isEmpty then s
  else if code ≠ Cause.memberReset.code ∧ code ∈ f.noted then
    let s := s.upd p fun c => { c with flt.noteDrop := c.flt.noteDrop + 1 }
    s.count p (match p with | .tsu => 0x0805 | .phi => 0x1105) 0 1
  else
    let s := s.upd p fun c => { c with flt.noted := code :: c.flt.noted }
    s.queueAll p (s.notePorts p) 0 0
      (.faultNote { phi := (match p with | .tsu => false | .phi => true), id := s.selfId p, cause := BitVec.ofNat 16 code,
                    detail := detail, at_ := shortStamp (s.ns p) })

/-- Records a fault of a part with a class given, and sends the note that R365 asks for. -/
def State.recordAs (s : State) (p : Part) (cause : Cause) (cls : Nat) (detail : W32) (ext : List Byte) : State :=
  let noted := cls == 1 || cls == 2 || cause == .memberReset
  let s := s.writeFault p
    { ht := s.ht p, cause := cause.code, cls := cls, remote := false,
      originPhi := (match p with | .tsu => false | .phi => true), noted := noted && s.noteGoes p cause.code,
      origin := s.selfId p, detail := detail, ext := ext }
  if noted then s.noteUp p cause.code detail else s

/-- Records a fault of a part (R363 to R366). -/
def State.record (s : State) (p : Part) (cause : Cause) (detail : Nat) (ext : List Byte := []) : State :=
  s.recordAs p cause (cause.cls p) (BitVec.ofNat 32 detail) ext

/-- The kinds of units and how many of each are in service and spare: part, kind (the spares table of chapter 13). -/
def unitCount : Part → Nat → Nat
  | .tsu, 0 => 3
  | .tsu, 1 => 18
  | .tsu, 2 => 2
  | .tsu, 3 => 2
  | .tsu, 4 => 6
  | .tsu, 8 => 2
  | .phi, 0 => 562
  | .phi, 1 => 5
  | .phi, 2 => 34
  | .phi, 3 => 2
  | .phi, 5 => 352
  | .phi, 6 => 24
  | .phi, 7 => 8
  | .phi, 8 => 528
  | .phi, 9 => 8
  | _, _ => 0

/-- A unit's index as `DETAIL` and `UNIT_INDEX` code it (R366, R381): a channel by its code under R69, a source by its
number, everything else from 0. -/
def unitValid (p : Part) (kind i : Nat) : Bool :=
  match p, kind with
  | .tsu, 0 => i < 3
  | .tsu, 1 => 16 ≤ i && i < 34
  | .phi, 0 => i < 562
  | .phi, 1 => 576 ≤ i && i < 581
  | _, _ => i < unitCount p kind

/-- A unit that is a spare before any swap: channel S, each bundle's last channel, `M17`, `AUX4`, `CS1`, `SOSC1`, the 32
spare lanes, the 4 spare packages and core 7 (the spares table of chapter 13). -/
def spareUnit (p : Part) (kind i : Nat) : Bool :=
  match p, kind with
  | .tsu, 0 => i == 2
  | .tsu, 1 => i == 33
  | .tsu, 2 => i == 1
  | .phi, 0 => if i < 544 then i % 17 == 16 else (i - 544) % 9 == 8
  | .phi, 1 => i == 580
  | _, 3 => i == 1
  | .phi, 5 => i ≥ 320
  | .phi, 6 => i ≥ 20
  | .phi, 7 => i == 7
  | _, _ => false

/-- A unit as the part holds it; a unit not yet listed is in service, or a free spare. -/
def State.unit (s : State) (p : Part) (kind i : Nat) : UnitSt :=
  match (s.part p).units.find? (fun u => u.kind == kind && u.index == i) with
  | some u => u
  | none => { kind := kind, index := i, state := if spareUnit p kind i then .freeSpare else .inService }

/-- Puts a unit back into an ascending list. -/
def putUnit : List UnitSt → UnitSt → List UnitSt
  | [], u => [u]
  | v :: vs, u =>
    if v.kind = u.kind ∧ v.index = u.index then u :: vs
    else if u.kind < v.kind ∨ (u.kind = v.kind ∧ u.index < v.index) then u :: v :: vs
    else v :: putUnit vs u

/-- Changes a unit. -/
def State.updUnit (s : State) (p : Part) (kind i : Nat) (f : UnitSt → UnitSt) : State :=
  s.upd p fun c => { c with units := putUnit c.units (f (s.unit p kind i)) }

/-- Sets the state of a unit. -/
def State.setUnit (s : State) (p : Part) (kind i : Nat) (st : UState) : State :=
  s.updUnit p kind i fun u => { u with state := st }

/-- The window of R362 in which an instant falls: 60 s of HT each. -/
def windowOf (t : W64) : Nat := t.toNat / 60000000000

/-- Counts one transient fault against a unit, saturating (R360, R362). The unit's count at the start of the window is
kept. -/
def State.transient (s : State) (p : Part) (kind i : Nat) : State :=
  let w := windowOf (s.ns p)
  s.updUnit p kind i fun u =>
    let u := if u.win = w then u else { u with win := w, winBase := u.transient, rateNoted := false }
    { u with transient := satNat 32 (u.transient + 1) }

/-- The free spares that can replace a unit of a kind: a bundle's own spare for a mooring channel, the partner for a
calibration source, any free spare of the kind otherwise (R66, R67, R89, and the spares table). -/
def State.freeSpares (s : State) (p : Part) (kind : Nat) : Nat :=
  if p = .phi ∧ kind = 2 then ((List.range 34).filter (fun j => (s.unit p 2 j).state == .inService)).length else
  ((List.range (if kind = 1 then 581 else unitCount p kind)).filter
    (fun j => unitValid p kind j && spareUnit p kind j && (s.unit p kind j).state == .freeSpare)).length
    + ((s.part p).units.filter (fun u => u.kind == kind && u.state == .freeSpare && !spareUnit p kind u.index)).length

/-- The lowest-numbered free spare of a kind. -/
def State.freeUnit (s : State) (p : Part) (kind : Nat) : Option Nat :=
  (List.range 581).find? (fun j => unitValid p kind j && (s.unit p kind j).state == .freeSpare)

/-- The expulsions granted or forced in the preceding 3,600 s of HT (R379). -/
def State.recentExpulsions (s : State) (p : Part) : List W64 :=
  (s.part p).gov.granted.filter (fun t => !elapsed (s.ns p) t (sec 3600))

/-- The governor grants an expulsion of a unit of this kind (R379): fewer than `EXPEL_PER_HOUR` in the window, and enough free
spares of the kind after it, which takes one where one is free. -/
def State.governorGrants (s : State) (p : Part) (kind : Nat) : Bool :=
  (s.recentExpulsions p).length < s.expelPerHour p && s.freeSpares p kind - 1 ≥ s.spareFloor p kind

/-- Counts an expulsion, granted or forced, in the governor's window (R379, R382). -/
def State.countExpulsion (s : State) (p : Part) : State :=
  s.upd p fun c => { c with gov.granted := s.recentExpulsions p ++ [s.ns p] }

/-- Asks the governor for the expulsion of a unit with a lasting fault (R378, R379): `true` when it is granted and counted; otherwise the
unit becomes suspect and the hold is recorded once. A unit already suspect is not decided again (R380). -/
def State.askGovernor (s : State) (p : Part) (kind i : Nat) : Bool × State :=
  if (s.unit p kind i).state == .suspect then (false, s)
  else if s.governorGrants p kind then (true, s.countExpulsion p)
  else
    let s := s.setUnit p kind i .suspect
    (false, s.record p .governorHold (kind + 256 * i))

/-- A lasting fault of a unit in service waits for the governor: for the end of the always-on cycle, in which the faults are decided in
ascending unit kind and index (R380), and at a Phidor also for firmware to be `RUNNING`, while the unit serves on (R340). A unit already
suspect, and one that has left service, are not decided again. -/
def State.holdFault (s : State) (p : Part) (kind i : Nat) : State :=
  if (s.unit p kind i).state == .inService && !(s.part p).gov.held.contains ⟨kind, i⟩ then
    s.upd p fun c => { c with gov.held := c.gov.held ++ [⟨kind, i⟩] }
  else s

/-- Counts a cause in the part's per-cause counters without a record (R364). -/
def State.countCause (s : State) (p : Part) (cause : Cause) : State := s.upd p fun c => { c with flt := c.flt.tally cause.code }

/-- Records a lasting fault of a unit, unless the unit is suspect, when it is only counted (R364, R379). -/
def State.recordLasting (s : State) (p : Part) (kind i : Nat) (cause : Cause) (detail : Nat) (ext : List Byte := []) : State :=
  if (s.unit p kind i).state == .suspect then s.countCause p cause else s.record p cause detail ext

end Sys2Proof.Machine
end

