-- ==== Sys2Proof/Machine/RingOps.lean ====
section
/-!
DEFINITION. Descriptors, their start and their completion records (R291 to R300).
-/

namespace Sys2Proof.Machine

/-- The status codes of R299. -/
inductive Status where
  | ok | retry | timeout | aborted | cfgRefused | conflict | noSpace | badDesc | fenced | timeNotReady | genStale | parity
  | ledgerFull | meterSealed | unsupported | pending
  deriving DecidableEq, Repr

/-- The code of a status (R299). -/
def Status.code : Status → Nat
  | .ok => 0x00 | .retry => 0x01 | .timeout => 0x02 | .aborted => 0x03 | .cfgRefused => 0x04 | .conflict => 0x05
  | .noSpace => 0x06 | .badDesc => 0x07 | .fenced => 0x08 | .timeNotReady => 0x09 | .genStale => 0x0A | .parity => 0x0B
  | .ledgerFull => 0x0C | .meterSealed => 0x0D | .unsupported => 0x0E | .pending => 0x0F

/-- A status code as a byte. -/
def Status.b (x : Status) : Byte := BitVec.ofNat 8 x.code

/-- `OPCODE` of a descriptor (R291). -/
def Desc.opcode (d : Desc) : Nat := (byteAt d.bytes 0).toNat

/-- `IRQ` of a descriptor (R291). -/
def Desc.irq (d : Desc) : Bool := (byteAt d.bytes 1).getLsbD 0

/-- `FENCE` of a descriptor (R291). -/
def Desc.fence (d : Desc) : Bool := (byteAt d.bytes 1).getLsbD 1

/-- `TIMEOUT_MS` of a descriptor (R291). -/
def Desc.timeoutMs (d : Desc) : Nat := field d.bytes 2 2

/-- `TAG` of a descriptor (R291). -/
def Desc.tag (d : Desc) : W32 := BitVec.ofNat 32 (field d.bytes 4 4)

/-- `DSEQ` of a descriptor (R291). -/
def Desc.dseq (d : Desc) : W64 := BitVec.ofNat 64 (field d.bytes 8 8)

/-- A payload field: payload byte number and length (payload byte 0 is descriptor byte 16). -/
def Desc.pl (d : Desc) (off n : Nat) : Nat := field d.bytes (16 + off) n

/-- A bit of a payload byte. -/
def Desc.plBit (d : Desc) (off bit : Nat) : Bool := (byteAt d.bytes (16 + off)).getLsbD bit

/-- A bit range of a payload byte or word. -/
def Desc.plBits (d : Desc) (off n lo w : Nat) : Nat := d.pl off n / 2 ^ lo % 2 ^ w

/-- A ring of a part. -/
def State.ring (s : State) (p : Part) (i : Nat) : Ring := tabGet {} (s.part p).rings i

/-- Changes a ring of a part. -/
def State.updRing (s : State) (p : Part) (i : Nat) (f : Ring → Ring) : State :=
  s.upd p fun c => { c with rings := tabMod {} c.rings i f }

/-- The rings that a part has (R284). -/
def ringCount : Part → Nat
  | .tsu => 64
  | .phi => 4096

/-- Bytes 0 to 31 of completion record `j` on a ring of size `2 ^ n` (R297). -/
def Cpl.bytes (c : Cpl) (j : W32) (n : Nat) : List Byte :=
  [c.status, BitVec.ofNat 8 (1 - j.toNat / 2 ^ n % 2)] ++ leOf 2 c.cause ++ leOf 4 c.tag ++ leOf 4 c.descIdx ++ zeros 4
    ++ leOf 8 c.dseq ++ leOf 8 c.result

/-- Raises a ring's interrupt, or keeps it for the end of `HOLDOFF_US` (R298). -/
def State.ringIrq (s : State) (p : Part) (i : Nat) : State :=
  let r := s.ring p i
  if !r.entry.irqEn then s
  else
    let free := match r.lastIrqNs with
      | none => true
      | some t => elapsed (s.ns p) t (us r.entry.holdoffUs)
    if free then
      (s.updRing p i fun r => { r with lastIrqNs := some (s.ns p), irqPend := false }).raiseIrq p r.entry.vector
    else s.updRing p i fun r => { r with irqPend := true }

/-- Writes the next completion of a ring: bytes 8 to 31 first and bytes 0 to 7 after them (R297). -/
def State.writeCpl (s : State) (p : Part) (i : Nat) (c : Cpl) : State :=
  let r := s.ring p i
  let n := r.entry.sizeLog2
  let addr := r.entry.cplBase + 32 * (r.cplProd.toNat % 2 ^ n)
  let s := s.dmaOrdered p addr 8 (c.bytes r.cplProd n)
  let s := s.updRing p i fun r => { r with cplProd := r.cplProd + 1 }
  let s := s.count p (match p with | .tsu => 0x0701 | .phi => 0x1601) i 1
  if c.irq then s.ringIrq p i else s

/-- A completion slot is free (R298). -/
def Ring.cplRoom (r : Ring) : Bool := (r.cplProd - r.cplCons).toNat < 2 ^ r.entry.sizeLog2

/-- Writes held completions in order while slots are free (R298). -/
def State.flushCpl (s : State) (p : Part) (i : Nat) : List Cpl → State
  | [] => s.updRing p i fun r => { r with held := [] }
  | c :: cs =>
    if (s.ring p i).cplRoom then (s.writeCpl p i c).flushCpl p i cs
    else s.updRing p i fun r => { r with held := c :: cs }

/-- Adds finished completions behind those held, and writes what fits (R297, R298). A ring that is `DISABLED` discards
them (R316). -/
def State.addCpl (s : State) (p : Part) (i : Nat) (cs : List Cpl) : State :=
  if (s.ring p i).rstate == .disabled then s
  else s.flushCpl p i ((s.ring p i).held ++ cs)

/-- The descriptor of a ring with a free-running index, fetched and not completed. -/
def State.desc? (s : State) (p : Part) (i idx : Nat) : Option Desc :=
  (s.ring p i).inflight.find? (fun d => d.idx.toNat == idx)

/-- The trace point of a ring command (R357). -/
def State.traceCmd (s : State) (p : Part) (i : Nat) (d : Desc) (last : Bool) (result : Nat) : State :=
  match p with
  | .tsu => s
  | .phi => s.trace (128 + d.opcode) (i + (if last then 2 ^ 31 else 0)) d.dseq.toNat result

/-- Completes a descriptor: its one completion record (R297). Firmware commits a command with one journal record first (R347). -/
def State.finish (s : State) (p : Part) (i idx : Nat) (st : Status) (cause : W16) (result : W64) : State :=
  match s.desc? p i idx with
  | none => s
  | some d =>
    let s := if p == .phi && s.hub.fwCommits then (s.traceCmd p i d true (st.code + 65536 * cause.toNat)).journalRec
        ([1] ++ leBytes 2 i ++ leBytes 4 idx ++ [st.b] ++ leOf 2 cause ++ leOf 8 result) else s
    let s := s.updRing p i fun r => { r with inflight := r.inflight.filter (fun x => x.idx.toNat != idx) }
    s.addCpl p i [{ status := st.b, cause := cause, tag := d.tag, descIdx := d.idx, dseq := d.dseq, result := result,
                    irq := d.irq }]

/-- Completes a descriptor that a state refers to, if it refers to one. -/
def State.finishOpt (s : State) (p : Part) (r : Option (Nat × Nat)) (st : Status) (cause : W16) (result : W64) : State :=
  match r with
  | some (i, idx) => s.finish p i idx st cause result
  | none => s

/-- Commands that do not hold back later descriptors while they wait: `LINK_RECAL`, `TDC_MEASURE`, `BASIN_DESTROY` and a
waiting `SYNC_OP` (R296). -/
def longCommand (opcode : Nat) : Bool := opcode ∈ [0x04, 0x06, 0x15, 0x24]

/-- The descriptors of a ring fetched before one with a given index and not completed, oldest first. -/
def Ring.earlier (r : Ring) (idx : Nat) : List Desc := r.inflight.takeWhile (fun d => d.idx.toNat != idx)

/-- A fetched descriptor may start: every earlier one has started, and only commands that do not hold back later ones are
still open; with `FENCE`, none is (R296). -/
def Ring.mayStart (r : Ring) (d : Desc) : Bool :=
  let e := r.earlier d.idx.toNat
  !d.started && e.all (fun x => x.started && longCommand x.opcode) && (!d.fence || e.isEmpty)

/-- The part starts commands now: a Phidor's commands wait while its firmware does not run (R346), a TSU's while its ring
engine is in reset (R370) or its state memories are dredged (R403). -/
def State.executes (s : State) (p : Part) : Bool :=
  match p with
  | .tsu => (tabGet {} s.tsu.engines 0 : EngineSt).step == 0 && s.tsu.cfg.startStep ≥ 3
  | .phi => s.hub.fwRuns

/-- A command that goes on has had its effect, so that its `RESULT` is 1 where a reset or a restart ends it (R349, R368). -/
def State.markApplied (s : State) (p : Part) (i idx : Nat) : State :=
  s.updRing p i fun r => { r with inflight := r.inflight.map fun d => if d.idx.toNat = idx then { d with applied := true } else d }

/-- Starts a descriptor (R296, R300). -/
def State.startDesc (s : State) (p : Part) (i idx : Nat) : State :=
  s.updRing p i fun r => { r with inflight := r.inflight.map fun d =>
    if d.idx.toNat = idx then { d with started := true, startNs := s.ns p } else d }

/-- The object that a command acts on, by kind and number (R301): the time, a port, a channel, a basin, a core set, a die gate, a proxy, the
objects of a core, the binding of a context, the meter, the part's configuration, or a unit. -/
def Desc.object (d : Desc) : Option (Nat × Nat) :=
  let op := d.opcode
  if op = 0x03 ∨ op = 0x05 then some (1, 0)
  else if op = 0x04 then some (2, d.pl 0 2)
  else if op = 0x06 then some (3, d.pl 0 2)
  else if (0x10 ≤ op ∧ op ≤ 0x17) ∨ op = 0x20 then some (4, d.plBits 0 2 0 12)
  else if op = 0x29 then some (4, d.plBits 4 2 0 12)
  else if op = 0x21 then some (5, d.plBits 0 1 0 6)
  else if op = 0x22 then some (6, d.pl 0 1)
  else if op = 0x23 then some (7, d.plBits 0 2 0 10)
  else if op = 0x24 then
    let sop := d.pl 0 1
    if sop < 0x10 then some (8, d.pl 2 2 / 48) else if sop < 0x20 then some (8, d.pl 2 2 / 16)
    else if sop < 0x28 then some (6, d.pl 2 2) else some (7, d.pl 2 2)
  else if op = 0x25 ∨ op = 0x26 then some (8, d.pl 0 2)
  else if op = 0x30 then some (9, 8 * d.pl 0 2 + d.plBits 2 1 0 3)
  else if 0x31 ≤ op ∧ op ≤ 0x33 then some (10, 0)
  else if 0x40 ≤ op ∧ op ≤ 0x42 then some (11, 0)
  else if op = 0x43 then some (12, d.pl 0 1 + 256 * d.pl 4 4)
  else none

/-- Two objects are one for the order of commands: the same one, and the meter's state and the part's life cycle (R301, R422). -/
def sameObject (a b : Nat × Nat) : Bool := a == b || (a.1 + b.1 == 21 && (a.1 == 10 || b.1 == 10))

/-- A command of another ring on the same object, which comes after this one by `DSEQ` and ring, has started in this cycle: this one then
starts in a later cycle (R301). -/
def State.overtaken (s : State) (p : Part) (i : Nat) (d : Desc) : Bool :=
  (s.part p).cycs.ran.any fun r => r.cyc == s.cyc && r.ring != i && d.object.any (sameObject r.obj)
    && (later r.dseq d.dseq || (r.dseq == d.dseq && i < r.ring))

/-- A command that acts on an object has started in this cycle (R301). -/
def State.noteRan (s : State) (p : Part) (i : Nat) (d : Desc) : State :=
  match d.object with
  | some o => s.upd p fun c =>
      { c with cycs.ran := { cyc := s.cyc, ring := i, dseq := d.dseq, obj := o } :: c.cycs.ran.filter (fun r => r.cyc == s.cyc) }
  | none => s

/-- The engine of the TSU that runs a command (R294, R370; DEDUCED, log entry 26). -/
def engineOf (opcode : Nat) : Nat :=
  if opcode = 0x04 ∨ opcode = 0x06 then 4
  else if opcode = 0x20 ∨ opcode = 0x21 then 2
  else if 0x22 ≤ opcode ∧ opcode ≤ 0x28 then 1
  else if opcode = 0x29 then 3
  else if 0x30 ≤ opcode ∧ opcode ≤ 0x33 then 5
  else 0

/-- A command is dispatched: the ring engine and the engine that runs it each take a request (R371). -/
def State.dispatch (s : State) (p : Part) (d : Desc) : State :=
  match p with
  | .tsu => (s.take .tsu 0).take .tsu (engineOf d.opcode)
  | .phi => s

/-- Runs a descriptor's command: it must be fetched, able to start, of this opcode and of the variant that the row is for, and no later
command on its object may have started in this cycle; otherwise nothing happens (log entry 4). -/
def State.runDesc (s : State) (p : Part) (i idx opcode : Nat) (variant : Desc → Bool) (k : Desc → State → State) :
    Result :=
  match s.desc? p i idx with
  | none => nothing s
  | some d =>
    if (s.ring p i).mayStart d && s.executes p && d.opcode == opcode && variant d && !s.overtaken p i d then
      .next (k d (((s.traceCmd p i d false 0).startDesc p i idx).dispatch p d |>.noteRan p i d))
    else nothing s

/-- Any descriptor of the opcode belongs to the row. -/
def anyVariant : Desc → Bool := fun _ => true

end Sys2Proof.Machine
end

