-- ==== Sys2Proof/Machine/DieOps.lean ====
section
/-!
DEFINITION. What the TSU's commands share: regions and their event FIFOs (R100), mailbox slots (R162), synchronisation
objects and waits (R185 to R206), weighbridge requests (R226), digests (R390 to R392), and the application of an `ABORT`
(R168, R206, R246, R391).
-/

namespace Sys2Proof.Machine

/-- Changes the state of the TSU alone. -/
def State.dieUpd (s : State) (f : DieSt → DieSt) : State := { s with die := f s.die }

/-- Changes the synchronisation objects. -/
def State.syncUpd (s : State) (f : SyncSt → SyncSt) : State := s.dieUpd fun d => { d with sync := f d.sync }

/-- A free 32-bit value (log entry 5). -/
def State.freeW32 (s : State) : W32 × State := (s.takeFree.1.setWidth 32, s.takeFree.2)

/-- The breakwater of a port of the TSU is closed (R369): its engine is in reset, or the TSU is before the end of its
dredge. -/
def State.portClosed (s : State) (engine : Nat) : Bool :=
  (tabGet {} s.tsu.engines engine : EngineSt).step != 0 || s.tsu.cfg.startStep < 3

/-- A core enabled by fuses (`ID_CORE_EN`). -/
def State.coreEnabled (s : State) (c : Nat) : Bool := c < 192 && s.die.coreEn.getLsbD c

/-- The clock region of a core (log entry 14). -/
def State.regionOf (s : State) (c : Nat) : Nat := s.die.coreRegion.getD c 0

/-- A region's crossing. -/
def State.region (s : State) (r : Nat) : RegionSt := tabGet {} s.die.spine.regions r

/-- Changes a region's crossing. -/
def State.updRegion (s : State) (r : Nat) (f : RegionSt → RegionSt) : State :=
  s.dieUpd fun d => { d with spine.regions := tabMod {} d.spine.regions r f }

/-- The cores of a core mask. -/
def coresOf (m : BitVec 192) : List Nat := (List.range 192).filter (fun c => m.getLsbD c)

/-- The regions that hold a core of a mask. -/
def State.regionsOf (s : State) (m : BitVec 192) : List Nat :=
  (List.range 16).filter (fun r => (coresOf m).any (fun c => s.regionOf c == r))

/-- Instant `a` of the accumulator is later than instant `b` (R13). -/
def accLater (a b : BitVec 112) : Bool := (a - b).toInt > 0

/-- Entries at their source whose spine cycle has come are written, in order, while fewer than 32 are unconsumed (R100). What is
written while the region is off does not slip (R101). -/
def RegionSt.refill (g : RegionSt) (acc : BitVec 112) : RegionSt :=
  let k := min (g.waiting.takeWhile (fun e => !accLater e.wAcc acc)).length (32 - g.fifo.length)
  { g with fifo := g.fifo ++ (g.waiting.take k).map (fun e => { e with exempt := e.exempt || g.off }), waiting := g.waiting.drop k }

/-- An entry at its place in the order of writes. -/
def placeEntry (l : List FifoEntry) (e : FifoEntry) : List FifoEntry :=
  l.takeWhile (fun x => !accLater x.wAcc e.wAcc) ++ e :: l.dropWhile (fun x => !accLater x.wAcc e.wAcc)

/-- The length of a spine cycle as an accumulator value: 1 ns in fast mode, 4 ns in slow mode (R97). -/
def State.spineCycle (s : State) : Nat := if s.tsu.clk.fast then 2 ^ 48 else 4 * 2 ^ 48

/-- The spine cycle in which an instant falls, counted from an always-on edge (R90, R100). -/
def spineOf (len : Nat) (edge a : BitVec 112) : Int := (a - edge).toInt / len

/-- Two instants fall in one spine cycle, as counted from an always-on edge. -/
def sameSpine (len : Nat) (edge a b : BitVec 112) : Bool := spineOf len edge a == spineOf len edge b

/-- Entries held at their source, each in a spine cycle after that of the one before it (R100). -/
def spread (len : Nat) (edge : BitVec 112) (prev : BitVec 112) : List FifoEntry → List FifoEntry
  | [] => []
  | e :: es =>
    let at_ := if spineOf len edge e.wAcc ≤ spineOf len edge prev then prev + BitVec.ofNat 112 len else e.wAcc
    { e with wAcc := at_ } :: spread len edge at_ es

/-- Gives a strobe to a region's event FIFO, in one entry with wakes that wait for the same spine cycle (R100). -/
def State.pushEntry (s : State) (r : Nat) (e : FifoEntry) : State :=
  let mine (x : FifoEntry) : Bool := x.bell.isNone && sameSpine s.spineCycle s.tsu.time.acc x.wAcc e.wAcc
  s.updRegion r fun g =>
    let e' : FifoEntry := { e with wakes := e.wakes ++ (g.waiting.filter mine).flatMap (·.wakes) }
    { g with waiting := placeEntry (g.waiting.filter (fun x => !mine x)) e' }.refill s.tsu.time.acc

/-- Wakes formed together go into the entry of a strobe of the same spine cycle, or into an entry of their own in the first spine cycle
from an instant on that has none (R100). `n` bounds the search. -/
def RegionSt.writeWakes (g : RegionSt) (len : Nat) (edge : BitVec 112) (ws : List WakeRef) : Nat → BitVec 112 → RegionSt
  | 0, at_ => { g with waiting := placeEntry g.waiting { wAcc := at_, bell := none, launch := false, edges := [], wakes := ws } }
  | n + 1, at_ =>
    match (g.fifo ++ g.waiting).find? (fun e => sameSpine len edge e.wAcc at_) with
    | none => { g with waiting := placeEntry g.waiting { wAcc := at_, bell := none, launch := false, edges := [], wakes := ws } }
    | some x =>
      let join (l : List FifoEntry) : List FifoEntry := l.map fun e => if e == x then { e with wakes := e.wakes ++ ws } else e
      if x.bell.isSome && x.wakes.isEmpty then { g with fifo := join g.fifo, waiting := join g.waiting }
      else g.writeWakes len edge ws n (x.wAcc + BitVec.ofNat 112 len)

/-- Writes the wakes that one command forms to the event FIFOs of their cores' regions, one entry a region (R100, R194). -/
def State.wakes (s : State) (ws : List WakeRef) : State :=
  if ws.isEmpty then s
  else
    let s := s.count .tsu 0x0502 0 ws.length
    (List.range 16).foldl (fun s r =>
      match ws.filter (fun w => s.regionOf w.core == r) with
      | [] => s
      | mine => s.updRegion r fun g =>
          (g.writeWakes s.spineCycle s.tsu.time.acc mine (g.fifo.length + g.waiting.length) s.tsu.time.acc).refill s.tsu.time.acc) s

/-- A mailbox slot of a core (R162). -/
def State.slot (s : State) (c i : Nat) : Slot := tabGet {} s.die.slots (4 * c + i)

/-- Writes a mailbox slot. -/
def State.setSlot (s : State) (c i : Nat) (x : Slot) : State :=
  s.dieUpd fun d => { d with slots := tabSet d.slots (4 * c + i) x }

/-- Changes every mailbox slot that meets a condition. -/
def State.mapSlots (s : State) (p : Slot → Bool) (f : Slot → Slot) : State :=
  s.dieUpd fun d => { d with slots := d.slots.map (fun e => if p e.2 then (e.1, f e.2) else e) }

/-- A slot belongs to a launch of a basin, generation and step. -/
def Slot.ofStep (x : Slot) (basin gen : Nat) (step : StepNo) : Bool :=
  x.state != .empty && x.basin == basin && x.gen == gen && x.step == step

/-- Some slot of a launch is not `EMPTY`; those of an earlier attempt at the step, at another L, are not its own (R390). -/
def State.slotsOpen (s : State) (l : Launch) : Bool :=
  s.die.slots.any (fun e => e.2.ofStep l.basin l.gen l.step && e.2.lNs == l.lNs)

/-- A basin entry that holds a generation (R118). -/
def State.basin? (s : State) (b : Nat) : Option BasinSt := tabGet? s.die.basins b

/-- Changes a basin entry. -/
def State.updBasin (s : State) (b : Nat) (f : BasinSt → BasinSt) : State :=
  s.dieUpd fun d => { d with basins := tabAdj d.basins b f }

/-- The TSU holds a basin in a generation (R158). -/
def State.holds (s : State) (b g : Nat) : Bool :=
  match s.basin? b with
  | some x => x.gen == g
  | none => false

/-- The basin is being purged (R451). -/
def State.purging (s : State) (b : Nat) : Bool :=
  match s.basin? b with
  | some x => x.purging
  | none => false

/-- A frame of a pair that the TSU does not hold is discarded and counted (R158). -/
def State.genDrop (s : State) : State := s.count .tsu 0x0406 0 1

/-- An `ABORT` with `LAST_STEP` below a step was applied to the basin less than `d` ns ago (R171, R206, R246). -/
def State.abortWithin (s : State) (b : Nat) (step : StepNo) (d : Int) : Bool :=
  match s.basin? b with
  | some x => x.applied.any (fun a => stepLater step a.1 && !elapsed (s.ns .tsu) a.2 d)
  | none => false

/-- Disarms a launch: its `ARMED` slots become `EMPTY` and it is forgotten (R166, R168, R173). -/
def State.disarm (s : State) (l : Launch) : State :=
  let s := s.mapSlots (fun x => x.state == .armed && x.ofStep l.basin l.gen l.step) (fun x => { x with state := .empty })
  s.dieUpd fun d => { d with launches := d.launches.filter (fun x => !(x == l)) }

/-- The response to a sync request (R184). -/
def syncResponse (st : Status) (v : W32) : List Byte := [st.b] ++ zeros 3 ++ leOf 4 v

/-- Ends waits with an answer each: by a wake of the context, or by the host's response and completion (R194, R208). `ws` holds the wakes
formed so far, which are written together. -/
def State.endWaits (s : State) (st : Status) (cause : W16) (ws : List WakeRef) : List (Nat × W32) → State
  | [] => s.wakes ws
  | (k, v) :: r =>
    match tabGet? s.die.sync.waiters k with
    | none => s.endWaits st cause ws r
    | some w =>
      let s := s.syncUpd fun y => { y with waiters := tabDel y.waiters k }
      let s := if st = .ok then s.count .tsu 0x0501 0 1 else s
      match w.cmd with
      | some (ring, idx, addr) => ((s.dma .tsu addr (syncResponse st v)).finish .tsu ring idx st cause 0).endWaits st cause ws r
      | none => s.endWaits st cause (ws ++ [{ core := k / 8, ctx := k % 8, status := st.b, value := v }]) r

/-- The place of a wait among those that end in one cycle (R297): the contexts first, then the host's by ring and, in a ring, by
`DESC_INDEX` from that of the oldest descriptor in execution on. -/
def State.waitPlace (s : State) (k : Nat) : Nat :=
  match (tabGet? s.die.sync.waiters k).bind (·.cmd) with
  | some (ring, idx, _) =>
    let first := match (s.ring .tsu ring).inflight.head? with
      | some d => d.idx
      | none => 0
    2 ^ 32 * (ring + 1) + (BitVec.ofNat 32 idx - first).toNat
  | none => 0

/-- A wait at its place among others. -/
def State.insertWait (s : State) (e : Nat × W32) : List (Nat × W32) → List (Nat × W32)
  | [] => [e]
  | x :: xs => if s.waitPlace e.1 < s.waitPlace x.1 then e :: x :: xs else x :: s.insertWait e xs

/-- Ends waits in the order of R297. -/
def State.endTogether (s : State) (st : Status) (cause : W16) (l : List (Nat × W32)) : State :=
  s.endWaits st cause [] (l.foldl (fun r e => s.insertWait e r) [])

/-- Ends waits that have been satisfied, each with its value. -/
def State.satisfy (s : State) (l : List (Nat × W32)) : State := s.endTogether .ok 0 l

/-- Ends waits with a status other than `OK`; the spec states no `VALUE` there, which is a free value (log entry 5). -/
def State.failWaits (s : State) (st : Status) (cause : W16) (ks : List Nat) : State :=
  let l := ks.zipIdx.map (fun k => (k.1, (Config.freeValue (s.freeNext + k.2)).setWidth 32))
  { s with freeNext := s.freeNext + ks.length }.endTogether st cause l

/-- The waiter entries on an object, contexts in ascending order and the host's after them (R193). -/
def State.waitersOn (s : State) (sops : List Nat) (index : Nat) : List (Nat × Waiter) :=
  s.die.sync.waiters.filter (fun e => e.2.sop ∈ sops && e.2.index == index)

/-- A flag. -/
def State.flag (s : State) (i : Nat) : FlagObj := tabGet {} s.die.sync.flags i

/-- Changes a flag. -/
def State.updFlag (s : State) (i : Nat) (f : FlagObj → FlagObj) : State :=
  s.syncUpd fun y => { y with flags := tabMod {} y.flags i f }

/-- A tally. -/
def State.tally (s : State) (i : Nat) : TallyObj := tabGet {} s.die.sync.tallies i

/-- Changes a tally. -/
def State.updTally (s : State) (i : Nat) (f : TallyObj → TallyObj) : State :=
  s.syncUpd fun y => { y with tallies := tabMod {} y.tallies i f }

/-- A die gate. -/
def State.gate (s : State) (i : Nat) : DieGate := tabGet {} s.die.sync.gates i

/-- Changes a die gate. -/
def State.updGate (s : State) (i : Nat) (f : DieGate → DieGate) : State :=
  s.syncUpd fun y => { y with gates := tabMod {} y.gates i f }

/-- A hall gate proxy. -/
def State.proxy (s : State) (i : Nat) : Proxy := tabGet {} s.die.sync.proxies i

/-- Changes a proxy. -/
def State.updProxy (s : State) (i : Nat) (f : Proxy → Proxy) : State :=
  s.syncUpd fun y => { y with proxies := tabMod {} y.proxies i f }

/-- One operation more on an object, saturating (R217). -/
def opsUp (n : Nat) : Nat := satNat 32 (n + 1)

/-- A sticky bit set (R217). -/
def stick (b : Byte) (i : Nat) : Byte := b ||| BitVec.ofNat 8 (2 ^ i)

/-- Ends one wait with a status other than `OK`. -/
def State.failWait (s : State) (k : Nat) (st : Status) (cause : W16) : State := s.failWaits st cause [k]

/-- The value of a flag before a cycle (R193). -/
def FlagObj.before (f : FlagObj) (cyc : Nat) : Bool := if f.cyc = some cyc then f.was else f.value

/-- The waits that consume a flag, contexts in ascending order and the host's after them (R193). -/
def State.takers (s : State) (i : Nat) : List (Nat × Waiter) := (s.waitersOn [0x04] i).filter (fun e => e.2.consume)

/-- Completes the waits on a flag that is set and do not consume it (R185). Those that do are resolved as the cycle ends, together with
the tests of the cycle (R193). -/
def State.serveFlag (s : State) (i : Nat) : State :=
  if (s.flag i).value then
    s.satisfy (((s.waitersOn [0x04] i).filter (fun e => !e.2.consume)).map (fun e => (e.1, 1)))
  else s

/-- A flag is consumed (R193): what comes to it after that in the same always-on cycle falls in a later TSU logic cycle (log entry 35). -/
def State.consumeFlag (s : State) (i : Nat) : State :=
  s.updFlag i fun f => { f with value := false, lastNs := s.ns .tsu, cyc := none, setCyc := none }

/-- As a cycle ends, the lowest context whose wait consumes a flag that is set does so, the host last (R185, R193). -/
def State.serveTakers (s : State) (i : Nat) : State :=
  match s.takers i with
  | [] => s
  | e :: _ => if (s.flag i).value then (s.satisfy [(e.1, 1)]).consumeFlag i else s

/-- The flags on which consuming waits are open. -/
def State.takenFlags (s : State) : List Nat :=
  ((s.die.sync.waiters.filter (fun e => e.2.sop == 0x04 && e.2.consume)).map (·.2.index)).eraseDups

/-- Sets a flag (R185); `SET_AGAIN` only if it was set before the cycle (R193). -/
def State.setFlag (s : State) (i : Nat) : State :=
  let s := s.updFlag i fun f =>
    { f with value := true, cyc := some s.cyc, was := f.before s.cyc, setCyc := some s.cyc, ops := opsUp f.ops,
             sticky := if f.before s.cyc then stick f.sticky 0 else f.sticky,
             lastNs := if f.value then f.lastNs else s.ns .tsu }
  s.serveFlag i

/-- Clears a flag (R185), unless it has been set in the same cycle (R193). -/
def State.clearFlag (s : State) (i : Nat) : State :=
  s.updFlag i fun f =>
    if f.setCyc = some s.cyc then { f with ops := opsUp f.ops }
    else { f with value := false, cyc := some s.cyc, was := f.before s.cyc, ops := opsUp f.ops,
                  lastNs := if f.value then s.ns .tsu else f.lastNs }

/-- The wait condition of R187 and of the gate waits: (s32)(value - n) is not negative. -/
def notBefore (v n : W32) : Bool := (v - n).toInt ≥ 0

/-- A wait of this cycle completes on a tally with operand n (R189, R217); what `LAST_WAIT` was before the cycle is kept. -/
def TallyObj.waited (t : TallyObj) (n : W32) (cyc : Nat) (now : W64) : TallyObj :=
  { t with lastWait := n, waitCyc := some cyc, waitWas := if t.waitCyc = some cyc then t.waitWas else t.lastWait,
           lastNs := if t.lastWait = n then t.lastNs else now }

/-- Completes the satisfied waits on a tally; `LAST_WAIT` takes the operand of each (R187, R189). -/
def State.serveTally (s : State) (i : Nat) : State :=
  let v := (s.tally i).value
  let ws := (s.waitersOn [0x12] i).filter (fun e => notBefore v e.2.operand)
  match ws.getLast? with
  | some e => (s.satisfy (ws.map (fun e => (e.1, v)))).updTally i fun t => t.waited e.2.operand s.cyc (s.ns .tsu)
  | none => s

/-- The check of `WINDOW` after the adds of a cycle, against the wait that was the latest before it (R189, R193). -/
def State.checkWindow (s : State) (i : Nat) : State :=
  let t := s.tally i
  let last := if t.waitCyc = some s.cyc then t.waitWas else t.lastWait
  if t.window ≠ 0 ∧ (t.value - last).toNat > t.window then
    (s.updTally i fun t => { t with sticky := stick t.sticky 2 }).record .tsu .tallyWindow i
  else s

/-- Adds to a tally (R185). `WINDOW` and the waits on it see the value after all adds of the cycle (R193). -/
def State.addTally (s : State) (i : Nat) (v : W32) : State :=
  s.updTally i fun t => { t with value := t.value + v, addCyc := some s.cyc, ops := opsUp t.ops, lastNs := s.ns .tsu }

/-- What the adds of a cycle to a tally lead to (R189, R193). -/
def State.settleTally (s : State) (i : Nat) : State :=
  if (s.tally i).addCyc = some s.cyc then
    ((s.checkWindow i).serveTally i).updTally i fun t => { t with addCyc := none }
  else s

/-- The tallies to which this cycle has added. -/
def State.addedTallies (s : State) : List Nat :=
  (s.die.sync.tallies.filter (fun e => e.2.addCyc == some s.cyc)).map (·.1)

/-- The condition of a flag or tally wait holds, so that it ends with this cycle (R185, R193). -/
def State.waitHolds (s : State) (k : Nat) (x : Waiter) : Bool :=
  if x.sop = 0x04 then (s.flag x.index).value && (s.takers x.index).head?.map (·.1) == some k
  else x.sop == 0x12 && notBefore (s.tally x.index).value x.operand

/-- Completes the waits on a die gate whose condition holds (R191): with the use opened, or `RELEASED`. -/
def State.serveGate (s : State) (g : Nat) : State :=
  let rel := (s.gate g).released
  s.satisfy (((s.waitersOn [0x21, 0x22] g).filter (fun e => notBefore rel e.2.operand)).map
    (fun e => (e.1, if e.2.sop = 0x21 then e.2.operand else rel)))

/-- The waits on a proxy that a value of `RELEASED` satisfies (R202). -/
def State.proxyWaits (s : State) (p : Nat) (rel : W32) : List (Nat × Waiter) :=
  (s.waitersOn [0x28, 0x29] p).filter (fun e => notBefore rel e.2.operand)

/-- Completes waits on a proxy with `OK`: with the use released, or `RELEASED` (R185). -/
def State.endProxyWaits (s : State) (rel : W32) (ws : List (Nat × Waiter)) : State :=
  s.satisfy (ws.map (fun e => (e.1, if e.2.sop = 0x28 then e.2.operand else rel)))

/-- The use of a proxy that is open: the one after the last released. -/
def Proxy.openUse (p : Proxy) : W32 := p.released + 1

/-- The lowest participant of a mask that has not arrived; 0xFF when none is missing (R366). -/
def missing (mask arrived : BitVec 193) : Nat :=
  match (List.range 193).find? (fun i => mask.getLsbD i && !arrived.getLsbD i) with
  | some i => i
  | none => 0xFF

/-- Records `GATE_TIMEOUT` for a gate: its number, whether it is a hall gate, and the lowest missing participant
(R366). -/
def State.recordGate (s : State) (gate : Nat) (hall : Bool) (miss : Nat) : State :=
  s.record .tsu .gateTimeout (gate + (if hall then 4096 else 0) + 65536 * miss)

/-- Cancels the open use of a proxy (R206): its waits end with `ABORTED` and its local arrivals are cleared. A release already applied and
not yet at its bell stays, and sets `RELEASED` there. -/
def State.cancelProxy (s : State) (p : Nat) (cause : W16) : State :=
  let x := s.proxy p
  let u := x.openUse
  let ws := (s.waitersOn [0x28, 0x29] p).filter (fun e => e.2.operand == u)
  let s := s.failWaits .aborted cause (ws.map (·.1))
  s.updProxy p fun x =>
    { x with arrived := 0, sentNs := none, sentUse := none, heldFrame := false, cancelled := some u, cancelCause := cause,
             lastNs := s.ns .tsu, sticky := if x.arrived ≠ 0 ∨ !ws.isEmpty then stick x.sticky 5 else x.sticky }

/-- The proxies bound to a basin and generation. -/
def State.proxiesOf (s : State) (b g : Nat) : List Nat :=
  (s.die.sync.proxies.filter (fun e => e.2.bound && e.2.basin == b && e.2.gen == g)).map (·.1)

/-- Sends a proxy's `GATE_ARRIVE` up both ports (R198). -/
def State.sendArrive (s : State) (p : Nat) : State :=
  let x := s.proxy p
  let u := x.openUse
  let s := s.updProxy p fun x => { x with sentNs := some (s.ns .tsu), sentUse := some u, heldFrame := false }
  s.queueAll .tsu [0, 1] (BitVec.ofNat 12 x.basin) (BitVec.ofNat 16 x.gen)
    (.gateArrive { gate := BitVec.ofNat 12 x.gate, use := u, count := 1, relBell := 0, origin := s.dieNum, agg := false })

/-- An `ABORT` was applied to the basin less than `d` ns ago (R206). -/
def State.anyAbortWithin (s : State) (b : Nat) (d : Int) : Bool :=
  match s.basin? b with
  | some x => x.applied.any (fun a => !elapsed (s.ns .tsu) a.2 d)
  | none => false

/-- Counts a local arrival at a proxy; the arrival that completes the mask sends `GATE_ARRIVE`, or holds it for 60 us
after an abort (R197, R198, R206). The frame is sent once per use, except after an abort, which forgets the use sent. -/
def State.arriveProxy (s : State) (p who : Nat) : State :=
  let s := s.updProxy p fun x =>
    { x with arrived := x.arrived ||| (1#193 <<< who), ops := opsUp x.ops, lastNs := s.ns .tsu }
  let x := s.proxy p
  if x.arrived &&& x.mask = x.mask ∧ x.sentUse ≠ some x.openUse then
    if s.anyAbortWithin x.basin (us 60) then s.updProxy p fun x => { x with heldFrame := true } else s.sendArrive p
  else s

/-- The bytes of a completion record of the weighbridge (R226). -/
def wbRecord (o : WbOp) (st : Status) (cause : W16) : List Byte :=
  [st.b, BitVec.ofNat 8 ((if o.sent then 1 else 0) + (if o.ready then 2 else 0) + (if o.inexact then 4 else 0)
      + (if o.ovf then 8 else 0) + (if o.alt then 16 else 0) + (if o.refetch then 32 else 0))]
    ++ leOf 2 cause ++ leOf 4 o.opid ++ leOf 6 o.step ++ zeros 2

/-- Writes the completion record of an operation (R226). -/
def State.writeWb (s : State) (o : WbOp) (st : Status) (cause : W16) : State := s.emit (.dieWrite o.cpl (wbRecord o st cause))

/-- An open operation of a basin, generation and number. -/
def State.wbOp? (s : State) (b g : Nat) (opid : W32) : Option WbOp :=
  s.die.wbOps.find? (fun o => o.basin == b && o.gen == g && o.opid == opid)

/-- Replaces an open operation. -/
def State.setWb (s : State) (o : WbOp) : State :=
  s.dieUpd fun d => { d with wbOps := d.wbOps.map fun x =>
    if x.basin = o.basin ∧ x.gen = o.gen ∧ x.opid = o.opid then o else x }

/-- A queued frame is a contribution chunk of an operation. -/
def isWbData (b g : Nat) (opid : W32) (f : Frame) : Bool :=
  match f.pl with
  | .wbData w => f.basin.toNat == b && f.gen.toNat == g && w.opid == opid
  | _ => false

/-- Ends an open operation without `OK` (R226, R246, R451): the record, the flag, and no further sending. -/
def State.endWb (s : State) (o : WbOp) (st : Status) (cause : W16) : State :=
  let s := s.dieUpd fun d =>
    { d with wbOps := d.wbOps.filter (fun x => !(x.basin == o.basin && x.gen == o.gen && x.opid == o.opid)),
             wbHolds := d.wbHolds.filter (fun x => !(x.basin == o.basin && x.gen == o.gen && x.opid == o.opid)) }
  let s := s.upd .tsu fun c =>
    { c with ports := c.ports.map fun e => (e.1, { e.2 with queue := e.2.queue.filter (fun f => !isWbData o.basin o.gen o.opid f) }) }
  let s := s.writeWb o st cause
  if o.fen then s.setFlag o.flag else s

/-- Ends every open operation that meets a condition (R246, R451). -/
def State.endWbs (s : State) (st : Status) (cause : W16) : List WbOp → State
  | [] => s
  | o :: os => (s.endWb o st cause).endWbs st cause os

/-- Sets `SENT` for each operation whose chunks have all left on both ports (R226). -/
def State.wbSent (s : State) : State :=
  let done := s.die.wbOps.filter (fun o => !o.sent
    && !s.die.wbHolds.any (fun h => h.basin == o.basin && h.gen == o.gen && h.opid == o.opid)
    && !s.tsu.ports.any (fun e => e.2.queue.any (isWbData o.basin o.gen o.opid)))
  done.foldl (fun s o => (s.setWb { o with sent := true }).writeWb { o with sent := true } .pending 0) s

/-- The digest of a step in a chain; before the first step of the die, 32 zero bytes (R390). -/
def Chain.head (c : Chain) : List Byte :=
  match c.formed.getLast? with
  | some d => d.value
  | none => zeros 32

/-- Writes an entry to the digest ring (R392): bytes 8 to 63 first and bytes 0 to 7 after them. -/
def State.writeDigest (s : State) (b g : Nat) (step : StepNo) (cores : Nat) (rollback : Bool) (v : List Byte) : State :=
  let d := s.die.dig
  if d.base = 0 then s
  else
    let addr := d.base.toNat + 64 * ((d.seqNext.toNat - 1) % 2 ^ d.log2)
    let bytes := leOf 8 d.seqNext ++ leOf 8 (s.ns .tsu) ++ leBytes 2 b ++ leBytes 2 g ++ leOf 6 step ++ leBytes 2 cores
      ++ leBytes 1 (if rollback then 1 else 0) ++ zeros 3 ++ padTo 32 v
    (s.dmaOrdered .tsu addr 8 bytes).dieUpd fun d => { d with dig.seqNext := d.dig.seqNext + 1 }

/-- What an `ABORT` does to the digest chain of its basin (R391). -/
def State.rollDigests (s : State) (b g : Nat) (j : StepNo) : State :=
  match tabGet? s.die.dig.chains b with
  | none => s
  | some c =>
    let keep := c.formed.filter (fun d => !stepLater d.step j)
    let c' : Chain := { c with formed := keep }
    let s := s.dieUpd fun d => { d with dig.chains := tabSet d.dig.chains b c' }
    if keep.length = c.formed.length then s
    else s.writeDigest b g j (match keep.getLast? with | some d => d.cores | none => 0) true c'.head

/-- The cores that appear in a core-set entry owned by a basin (R168). -/
def State.ownedCores (s : State) (b : Nat) : List Nat :=
  coresOf ((s.die.coresets.filter (fun e => e.2.valid && e.2.owner == b)).foldl (fun m e => m ||| e.2.mask) 0)

/-- Writes an abort notice to a core (R162, R168). -/
def State.notify (s : State) (b g : Nat) (j : StepNo) (c : Nat) : State :=
  let n : Notice := tabGet {} s.die.notices c
  s.dieUpd fun d => { d with notices := tabSet d.notices c { basin := b, gen := g, lastStep := j, seq := n.seq + 1 } }

/-- An `ABORT` records the hall gate that timed out for each proxy whose open use lacks a local arrival (R204). -/
def State.gateAbort (s : State) (b g : Nat) (f : LaunchPl) : State :=
  if f.cause = Cause.gateTimeout.w then
    (s.proxiesOf b g).foldl (fun s p =>
      let x := s.proxy p
      if x.gate = f.entry.toNat % 4096 ∧ x.arrived &&& x.mask ≠ x.mask then
        s.recordGate x.gate true (missing x.mask x.arrived)
      else s) s
  else s

/-- The descriptors accepted in this cycle whose submissions an `ABORT` has ended complete with `ABORTED` (R247). -/
def State.abortJudged (s : State) : State :=
  let open_ (x : Nat × Nat × Nat × Nat × W32) : Bool := (s.wbOp? x.2.2.1 x.2.2.2.1 x.2.2.2.2).isSome
  (s.die.wbJudged.filter (fun x => !open_ x)).foldl (fun s x => s.finish .tsu x.1 x.2.1 .aborted 0 0)
    (s.dieUpd fun d => { d with wbJudged := d.wbJudged.filter open_ })

/-- Applies an `ABORT` with `LAST_STEP` = j at the TSU (R168, R206, R246, R391). One at or above a `LAST_STEP` applied in
the last 100 us changes nothing. -/
def State.applyAbort (s : State) (b g : Nat) (f : LaunchPl) : State :=
  let j := f.lastStep
  let now := s.ns .tsu
  match s.basin? b with
  | none => s
  | some x =>
    let recent := x.applied.filter (fun a => !elapsed now a.2 (us 100))
    if recent.any (fun a => stepFrom j a.1) then s
    else
      let s := s.count .tsu 0x0405 0 1
      let s := s.gateAbort b g f
      let gone := s.die.launches.filter (fun l => l.basin == b && l.gen == g && l.phase == .armed && stepLater l.step j)
      let s := gone.foldl (fun s l => s.disarm l) s
      let s := s.dieUpd fun d =>
        { d with launches := d.launches.map (fun l =>
                   if l.basin = b ∧ l.gen = g ∧ stepLater l.step j then { l with aborted := true } else l),
                 fetches := d.fetches.filter (fun l => !(l.basin == b && l.gen == g && stepLater l.step j)),
                 dig.engines := d.dig.engines.filter (fun e => !(e.basin == b && e.gen == g && stepLater e.step j)) }
      let s := s.mapSlots (fun y => y.basin == b && y.gen == g && stepLater y.step j
        && (y.state == .started || y.state == .armed)) (fun y => { y with state := .aborted })
      let cores := s.ownedCores b
      let s := (cores.foldl (fun s c => s.notify b g j c) s).wakes
        (cores.map (fun c => { core := c, ctx := 8, status := 0, value := 0 }))
      let s := s.updBasin b fun x =>
        { x with applied := recent ++ [(j, now)], aborts := satNat 32 (x.aborts + 1), lastRollback := j,
                 lastCause := f.cause, lastOrigin := f.origin,
                 committed := x.committed.filter (fun n => !stepLater n j),
                 undone := x.undone ++ (x.strobed.map (·.1)).filter (fun n => stepLater n j) }
      let s := s.upd .tsu fun c => { c with
        keys := c.keys.filter (fun k =>
          !(k.basin == b && k.gen == g && (k.kind == 0 || k.kind == 1) && stepLater k.step j)) }
      let s := (s.proxiesOf b g).foldl (fun s p => s.cancelProxy p f.cause) s
      let s := s.endWbs .aborted f.cause
        (s.die.wbOps.filter (fun o => o.basin == b && o.gen == g && stepLater o.step j))
      s.abortJudged.rollDigests b g j

/-- Keeps the key of a frame that a part acts on (R172). -/
def State.addKey (s : State) (p : Part) (basin gen : Nat) (step : StepNo) (kind : Nat) (bell : W32) (untilNs : W64) : State :=
  let k : FrameKey := { basin := basin, gen := gen, step := step, kind := kind, bells := [bell], untilNs := untilNs }
  s.upd p fun c => { c with
    keys := k :: c.keys.filter (fun k => !(k.basin == basin && k.gen == gen && k.step == step && k.kind == kind)) }

/-- Keeps the key of a `GATE_RELEASE` for 100 us (R202). -/
def State.addRelKey (s : State) (p : Part) (b g gate : Nat) (use bell : W32) : State :=
  let k : RelKey := { basin := b, gen := g, gate := gate, use := use, bell := bell, untilNs := nsAdd (s.ns p) (us 100) }
  s.upd p fun c => { c with relKeys := k :: c.relKeys.filter (fun x => !reached (s.ns p) x.untilNs) }

/-- The key of a frame, while it is kept (R172). -/
def State.key? (s : State) (p : Part) (basin gen : Nat) (step : StepNo) (kind : Nat) : Option FrameKey :=
  (s.part p).keys.find? (fun k => k.basin == basin && k.gen == gen && k.step == step && k.kind == kind
    && !reached (s.ns p) k.untilNs)

/-- Starts the abort wave at the TSU (R166, R245, R452): the launch of the step is disarmed if it is armed, the `ABORT` is
applied here and sent on both ports. -/
def State.startAbort (s : State) (b g : Nat) (step : StepNo) (bell : W32) (entry : BitVec 24) (st : Status) (cause : W16) :
    State :=
  let f : LaunchPl := { step := step, bell := bell, entry := entry, status := st.b, origin := s.dieNum, agg := false,
                        cause := cause, count := 0, lastStep := step - 1 }
  let s := (s.die.launches.filter (fun l => l.basin == b && l.gen == g && l.step == step && l.phase == .armed)).foldl
    (fun s l => s.disarm l) s
  let s := s.addKey .tsu b g step 2 bell (nsAdd (s.ns .tsu) (us 100))
  (s.applyAbort b g f).queueAll .tsu [0, 1] (BitVec.ofNat 12 b) (BitVec.ofNat 16 g) (.abort f)

/-- `EXT` of the launch causes (R366): step, generation, L. -/
def launchExt (step : StepNo) (g : Nat) (l : W64) : List Byte := leOf 6 step ++ leBytes 2 g ++ leOf 8 l

/-- Starts the abort wave for an armed launch and records its cause (R166). -/
def State.abortLaunch (s : State) (l : Launch) (st : Status) (cause : Cause) : State :=
  (s.record .tsu cause l.basin (launchExt l.step l.gen l.lNs)).startAbort l.basin l.gen l.step l.bell l.entry st cause.w

/-- Ends the open work of a basin and begins its purge (R451). A strobed launch stays until its slots are `EMPTY`, and forms no digest. -/
def State.purge (s : State) (b : Nat) (reset : Bool) : State :=
  match s.basin? b with
  | none => s
  | some x =>
    let g := x.gen
    let cause : W16 := if reset then Cause.memberReset.w else 0
    let s := (s.proxiesOf b g).foldl (fun s p =>
      let ws := (s.waitersOn [0x28, 0x29] p).map (·.1)
      let s := s.failWaits .aborted cause ws
      s.updProxy p fun y => { sticky := y.sticky, ops := y.ops, lastNs := s.ns .tsu }) s
    let s := s.endWbs .aborted cause (s.die.wbOps.filter (fun o => o.basin == b))
    let s := (s.die.launches.filter (fun l => l.basin == b && l.gen == g)).foldl (fun s l =>
      if l.phase == .strobed then
        if s.slotsOpen l then
          s.dieUpd fun d => { d with launches := d.launches.map (fun y => if y == l then { y with aborted := true } else y) }
        else s.dieUpd fun d => { d with launches := d.launches.filter (fun y => !(y == l)) }
      else s.disarm l) s
    let s := s.dieUpd fun d =>
      { d with attaches := tabDel d.attaches b, fetches := d.fetches.filter (fun y => y.basin != b),
               dig.chains := tabDel d.dig.chains b,
               dig.engines := d.dig.engines.filter (fun e => e.basin != b) }
    s.updBasin b fun x => { x with purging := true, purgeReset := reset }

/-- Keeps an item at a breakwater that drains, in order, `depth` deep; a further one is discarded and counted (R369). -/
def State.holdItem (s : State) (engine depth : Nat) (item : List Byte) : State :=
  let e : EngineSt := tabGet {} s.tsu.engines engine
  if e.heldItems.length < depth then
    s.upd .tsu fun c => { c with engines := tabMod {} c.engines engine fun e => { e with heldItems := e.heldItems ++ [item] } }
  else s.count .tsu 0x0804 0 1

end Sys2Proof.Machine
end

