-- ==== Sys2Proof/Machine/FrameBytes.lean ====
section
/-!
DEFINITION. The 48 bytes of a mooring frame (R42 to R46) and the receiver's checks of them (R44, R45).
-/

namespace Sys2Proof.Machine

/-- `FTYPE` of a payload (R45). -/
def ftypeOf : Payload → Nat
  | .linkIdent _ => 0x01 | .linkCtrl _ => 0x02 | .beaconReq _ => 0x03 | .beaconResp _ => 0x04 | .beaconFu _ => 0x05
  | .timeInfo _ => 0x06 | .announce _ => 0x08 | .ack _ => 0x09 | .commit _ => 0x0A | .abort _ => 0x0B
  | .gateArrive _ => 0x0C | .gateRelease _ => 0x0D | .wbData _ => 0x10 | .wbResult _ => 0x11 | .wbAck _ => 0x12
  | .member _ => 0x14 | .record _ => 0x15 | .recordAck _ => 0x16 | .latch _ => 0x17 | .faultNote _ => 0x18

/-- The frame types of R45 that are sent unreliably. -/
def unreliableTypes : List Nat := [0x01, 0x02, 0x03, 0x04, 0x05]

/-- The frame types of R45 that are sent reliably. -/
def reliableTypes : List Nat :=
  [0x06, 0x08, 0x09, 0x0A, 0x0B, 0x0C, 0x0D, 0x10, 0x11, 0x12, 0x14, 0x15, 0x16, 0x17, 0x18]

/-- A payload is sent reliably (R45). -/
def reliable (pl : Payload) : Bool := ftypeOf pl ∈ reliableTypes

/-- One byte holding a number. -/
def b1 (n : Nat) : List Byte := [BitVec.ofNat 8 n]

/-- The layout shared by `ANNOUNCE`, `ACK`, `COMMIT` and `ABORT` (R46). -/
def launchBytes (p : LaunchPl) : List Byte :=
  leOf 6 p.step ++ leOf 4 p.bell ++ leOf 3 p.entry ++ [p.status] ++ leOf 2 p.origin ++ b1 (nb p.agg) ++ zeros 1
    ++ leOf 2 p.cause ++ leOf 4 p.count ++ leOf 6 p.lastStep ++ zeros 2

/-- The layout shared by `GATE_ARRIVE` and `GATE_RELEASE` (R46). -/
def gateBytes (p : GatePl) : List Byte :=
  leOf 2 p.gate ++ leOf 4 p.use ++ leOf 4 p.count ++ leOf 4 p.relBell ++ leOf 2 p.origin ++ b1 (nb p.agg) ++ zeros 15

/-- The layout shared by `WB_DATA` and `WB_RESULT` (R46). -/
def wbBytes (p : WbPl) : List Byte :=
  leOf 4 p.opid ++ leOf 2 p.chunk ++ [p.fmt] ++ b1 (nb p.last + 2 * nb p.acc + 4 * nb p.inexact + 8 * nb p.ovf)
    ++ padTo 24 p.data

/-- Payload bytes 8 to 39 of a frame (R46). -/
def payloadBytes : Payload → List Byte
  | .linkIdent p => b1 (nb p.phi) ++ [p.tier] ++ leOf 2 p.id ++ leOf 2 p.port ++ [p.channel] ++ zeros 1 ++ leOf 4 p.calId
      ++ zeros 20
  | .linkCtrl p => [p.code, p.arg] ++ zeros 30
  | .beaconReq p => leOf 2 p.xid ++ b1 (nb p.swap) ++ zeros 1 ++ leOf 4 p.lastTheta ++ leOf 4 p.lastDelay ++ leOf 4 p.asym
      ++ zeros 16
  | .beaconResp p => leOf 2 p.xid ++ b1 (nb p.swap) ++ zeros 29
  | .beaconFu p => leOf 2 p.xid ++ b1 (nb p.swap + 2 * nb p.valid) ++ b1 p.pstate.toNat ++ leOf 10 p.t2 ++ leOf 10 p.t3
      ++ [p.ptier] ++ zeros 7
  | .timeInfo p => b1 (p.trace.toNat + 4 * nb p.leap61 + 8 * nb p.leap59 + 16 * p.masterPlane.toNat) ++ [p.tier]
      ++ leOf 2 p.taiUtc ++ leOf 8 p.epochS ++ leOf 4 p.epochNs ++ leOf 4 p.ppsOffset ++ zeros 12
  | .announce p => launchBytes p
  | .ack p => launchBytes p
  | .commit p => launchBytes p
  | .abort p => launchBytes p
  | .gateArrive p => gateBytes p
  | .gateRelease p => gateBytes p
  | .wbData p => wbBytes p
  | .wbResult p => wbBytes p
  | .wbAck p => leOf 4 p.opid ++ zeros 4 ++ leOf 2 p.origin ++ [p.status] ++ zeros 21
  | .record p => leOf 8 p.rseq ++ leOf 2 p.chunk ++ b1 (nb p.last) ++ zeros 1 ++ padTo 20 p.data
  | .recordAck p => leOf 8 p.rseq ++ [p.status] ++ zeros 23
  | .member p => leOf 2 p.die ++ [p.action] ++ b1 (nb p.tear) ++ leOf 6 p.step ++ zeros 22
  | .latch p => leOf 4 p.at_ ++ leOf 4 p.latchId ++ zeros 24
  | .faultNote p => b1 (nb p.phi) ++ zeros 1 ++ leOf 2 p.id ++ leOf 2 p.cause ++ leOf 4 p.detail ++ leOf 4 p.at_
      ++ zeros 18

/-- Bytes 0 to 39 of a frame: envelope and payload (R43). -/
def headBytes (f : Frame) : List Byte :=
  b1 (ftypeOf f.pl) ++ b1 (f.plane.toNat + 2 * nb f.up + 4 * nb (reliable f.pl) + 8 * nb f.retx)
    ++ [f.lseq, f.lack] ++ leOf 2 f.basin ++ leOf 2 f.gen ++ payloadBytes f.pl

/-- Bytes 0 to 45 of a frame: the head, the parity bits of its bytes, and a reserved byte (R43, R44). -/
def bodyBytes (f : Frame) : List Byte := headBytes f ++ leBytes 5 (bpar (headBytes f)) ++ zeros 1

/-- The 48 bytes of a frame (R42, R43). -/
def frameBytes (f : Frame) : List Byte := bodyBytes f ++ leOf 2 (crc16 (bodyBytes f))

/-- One 64b/66b block of a lane direction, descrambled (R39): its sync header, with the first bit lowest, and its 8 bytes, byte 0
lowest. -/
abbrev Block66 := BitVec 2 × BitVec 64

/-- The sync header of a data block (IEEE 802.3 Clause 49; PRESUMED, log entry 65). -/
def syncData : BitVec 2 := 2

/-- The sync header of a control block (IEEE 802.3 Clause 49; PRESUMED, log entry 65). -/
def syncCtrl : BitVec 2 := 1

/-- The 8 bytes of a block as one word. -/
def blockWord (bs : List Byte) : BitVec 64 := BitVec.ofNat 64 (leNat (bs.take 8))

/-- The idle block: the control block 0x1E with eight idle characters (R39). -/
def idleBlock : Block66 := (syncCtrl, 0x1E)

/-- The blocks of a frame's 48 bytes (R42): the start block 0x78, five data blocks, and the terminate block 0x99. -/
def frameBlocks (bs : List Byte) : List Block66 :=
  (syncCtrl, blockWord (0x78 :: bs.take 7))
    :: (List.range 5).map (fun i => (syncData, blockWord ((bs.drop (7 + 8 * i)).take 8)))
    ++ [(syncCtrl, blockWord [0x99, byteAt bs 47])]

/-- The frame bytes that a block carries, and none where the receiver takes it as a block error (R39): an invalid sync header, or a
block type other than the four. -/
def blockBytes (b : Block66) : Option (List Byte) :=
  let bytes := leOf 8 b.2
  if b.1 = syncData then some bytes
  else if b.1 = syncCtrl then
    if byteAt bytes 0 = 0x78 then some (bytes.drop 1)
    else if byteAt bytes 0 = 0x99 then some [byteAt bytes 1]
    else if byteAt bytes 0 = 0x1E then some []
    else none
  else none

/-- The scrambler of R39, 1 + x^39 + x^58, over the 64 payload bits of a block after the 58 bits sent before it, the oldest
lowest. -/
def scramble (before : BitVec 58) (d : BitVec 64) : BitVec 64 :=
  ((List.range 64).foldl (fun (x : BitVec 122) i =>
    x ||| ((BitVec.ofBool (d.getLsbD i ^^ x.getLsbD (19 + i) ^^ x.getLsbD i)).setWidth 122 <<< (58 + i)))
    (before.setWidth 122)).extractLsb' 58 64

/-- The self-synchronising descrambler of R39 over the 64 payload bits of a block as received after the 58 bits before it. -/
def descramble (before : BitVec 58) (r : BitVec 64) : BitVec 64 :=
  let x : BitVec 122 := r ++ before
  r ^^^ x.extractLsb' 19 64 ^^^ x.extractLsb' 0 64

/-- Descrambles blocks as received, in order; sync headers are not scrambled (R39). -/
def descrambleAll : BitVec 58 → List Block66 → List Block66
  | _, [] => []
  | h, b :: bs => (b.1, descramble h b.2) :: descrambleAll (b.2.extractLsb' 6 58) bs

/-- What a receiver finds in a frame's bytes (R44, R45). -/
inductive FrameCheck where
  | corrupt
  | wrongRel
  | unknown
  | good
  deriving DecidableEq, Repr

/-- The receiver's checks, in order: `CRC16`, then `BPAR`, then the type, `REL` and `VER` (R44, R45). Where both `REL` and `VER` are wrong
R45 gives the frame two ways to be discarded and no order: `REL` decides, and only a block error is counted (DESIGN CHOICE, log
entry 83). -/
def checkFrame (bs : List Byte) : FrameCheck :=
  let ft := (byteAt bs 0).toNat % 64
  let rel := (byteAt bs 1).getLsbD 2
  if bs.length ≠ 48 ∨ field bs 46 2 ≠ (crc16 (bs.take 46)).toNat then .corrupt
  else if field bs 40 5 ≠ bpar bs then .corrupt
  else if ft ∉ unreliableTypes ++ reliableTypes then .unknown
  else if rel ≠ decide (ft ∈ reliableTypes) then .wrongRel
  else if (byteAt bs 0).toNat / 64 ≠ 0 then .unknown
  else .good

end Sys2Proof.Machine
end

