-- ==== Sys2Proof/Machine/TimeOps.lean ====
section
/-!
DEFINITION. Hall Time: how the accumulator advances (R12), slews, holds and steps (R27 to R30), the discipline loop's
arithmetic (R51, R52), and the transitions of the time state and the plane choice (R25, R53, R58, R59, R453).
Offsets and corrections are integers in units of 2^-48 ns unless a name says otherwise.
-/

namespace Sys2Proof.Machine

/-- One ns in units of 2^-48 ns. -/
def u48 : Int := 2 ^ 48

/-- The nominal increment of one always-on cycle, 8 ns (R12). -/
def nominalInc : Int := 8 * u48

/-- The slew that the next always-on cycle applies: never more than what remains (R12, R29). -/
def TimeSt.slewNow (t : TimeSt) : Int := satInt (t.slewAdj.natAbs) t.slewLeft

/-- INC of R12, clamped to 0 to 2 x 8 x 2^48 - 1; while a hold counts down it is zero (R27). -/
def TimeSt.inc (t : TimeSt) : Int :=
  if t.holdLeft > 0 then 0
  else
    let v := nominalInc + t.rateAdj.toInt + t.slewNow
    if v < 0 then 0 else if v > 2 * nominalInc - 1 then 2 * nominalInc - 1 else v

/-- The progress of the parent's HT in one always-on cycle, by which a hold counts down (log entry 10). -/
def TimeSt.freeInc (t : TimeSt) : Nat := (nominalInc + t.rateAdj.toInt).toNat

/-- One always-on cycle of a part (R12, R27): the accumulator advances by INC and the slew's remainder falls, or a running
hold counts down and, when it ends within the cycle, HT resumes at the parent's HT. A part in `FAULT` holds its
accumulator (R25). -/
def TimeSt.tick (t : TimeSt) : TimeSt :=
  if t.state == .fault then t
  else if t.holdLeft > t.freeInc then { t with holdLeft := t.holdLeft - t.freeInc, cycles := t.cycles + 1 }
  else if t.holdLeft > 0 then
    { t with acc := t.acc + BitVec.ofNat 112 (t.freeInc - t.holdLeft), holdLeft := 0, cycles := t.cycles + 1 }
  else
    { t with acc := t.acc + BitVec.ofInt 112 t.inc, slewLeft := t.slewLeft - t.slewNow, cycles := t.cycles + 1 }

/-- An HT value as an accumulator value. -/
def accOfHt (h : Ht80) : BitVec 112 := (h.setWidth 112) <<< 32

/-- Marks a change that the state page shows within 10 us (R303). -/
def State.pageChange (s : State) (p : Part) : State :=
  s.upd p fun c => { c with page.changeNs := some (match c.page.changeNs with | some t => t | none => s.ns p) }

/-- Changes the time of a part. -/
def State.updTime (s : State) (p : Part) (f : TimeSt → TimeSt) : State := s.upd p fun c => { c with time := f c.time }

/-- Enters a time state (R25, R36): the entry instant is kept, and the conditions that must hold without a break begin
anew. The 100 ms window runs from the first entry to `HOLDOVER` (R26); `HOLDOVER` freezes the rate and takes the slew to
zero; in `LOCKED` a slew that goes on keeps to its limit (R29). R27 does not say whether a hold under way ends when `ACQUIRING` returns
to `FREE`: it goes on, and HT stays held in `FREE` until it has counted down (DESIGN CHOICE, log entry 82). -/
def State.enter (s : State) (p : Part) (st : TimeState) : State :=
  if (s.part p).time.state == st then s
  else
    let s := s.updTime p fun t =>
      let t := { t with state := st, entryNs := t.ns, lockSince := none, devSince := none,
                        acqDone := false, acqCount := 0, everLocked := t.everLocked || st == .locked }
      match st with
      | .holdover => { t with holdoverNs := t.ns, slewAdj := 0, slewLeft := 0 }
      | .free | .fault => { t with slewAdj := 0, slewLeft := 0 }
      | .acquiring => { t with acqCyc := some s.cyc }
      | .locked => { t with slewAdj := satInt (nominalInc / 100000).toNat t.slewAdj }
      | .degraded => t
    s.pageChange p

/-- The part is a lighthouse. -/
def State.isLighthouse (s : State) : Part → Bool
  | .tsu => false
  | .phi => s.lighthouse

/-- The largest slew of one always-on cycle: 1 ps per 100 ns in `LOCKED` and at a lighthouse, where it is the 10 ppm of
R18, and 1 ps per 10 ns otherwise (R29). -/
def slewLimit (lighthouse : Bool) (st : TimeState) : Nat :=
  if lighthouse then (nominalInc / 100000).toNat
  else match st with
    | .locked => (nominalInc / 100000).toNat
    | _ => (nominalInc / 10000).toNat

/-- Slews a correction: the new correction replaces the amount that remains (R29, R30). The part slews at the limit
(log entry 11). -/
def State.slew (s : State) (p : Part) (corr : Int) : State :=
  let lim := slewLimit (s.isLighthouse p) (s.part p).time.state
  let s := s.updTime p fun t => { t with slewLeft := -corr, slewAdj := satInt lim (-corr) }
  if (s.part p).time.slewAdj = 0 then s else s.pageChange p

/-- The one forward step, or the one hold, of R27 and R19 by a correction: behind, HT steps forward by it; ahead, it holds
for it. R19 does not say what becomes of a hold still under way when a lighthouse in `FREE` then steps forward to its source: the step
ends it (DESIGN CHOICE, log entry 82). -/
def State.stepOrHold (s : State) (p : Part) (corr : Int) : State :=
  s.updTime p fun t =>
    if corr ≤ 0 then
      { t with acc := t.acc + BitVec.ofInt 112 (-corr), holdLeft := 0, holding := false, acqDone := true, slewAdj := 0, slewLeft := 0 }
    else { t with holdLeft := corr.toNat, holding := true, acqDone := true, slewAdj := 0, slewLeft := 0 }

/-- The integer square root: the largest integer whose square does not exceed the argument (R82). `n` halves the search. -/
def isqrtBits : Nat → Nat → Nat → Nat
  | 0, _, r => r
  | n + 1, v, r => isqrtBits n v (if (r + 2 ^ n) * (r + 2 ^ n) ≤ v then r + 2 ^ n else r)

/-- The integer square root of an argument below 2^400 (R82). -/
def isqrt (v : Nat) : Nat := isqrtBits 200 v 0

/-- θ' of a held exchange (R52): θ referred to the HT that the part will have once the slew in force completes. -/
def Held.referred (h : Held) (t : TimeSt) : Int :=
  h.theta * 2 ^ 32 + ((t.acc - h.acc).toInt - (t.cycles - h.cycles : Nat) * (nominalInc + h.rate.toInt)) + t.slewLeft

/-- The sum of a list of integers. -/
def sumInt (l : List Int) : Int := l.foldl (· + ·) 0

/-- The mean of θ' over 16 exchanges (R52). -/
def meanOf (l : List Int) : Int := (sumInt l).tdiv l.length

/-- 256 times the variance of 16 values, divisor 16 (R52). -/
def var256Of (l : List Int) : Nat := (16 * sumInt (l.map (fun x => x * x)) - sumInt l * sumInt l).toNat

/-- The change of `RATE_ADJ` for the least-squares slope of θ' against t4, with gain 1 / `gDen` (R52):
-g x s x 8 x 2^48, truncated toward zero (R4). -/
def rateChange (gDen : Nat) (pts : List (Int × Int)) : Int :=
  let n : Int := pts.length
  let st := sumInt (pts.map (·.1))
  let sx := sumInt (pts.map (·.2))
  let num := n * sumInt (pts.map (fun p => p.1 * p.2)) - st * sx
  let den := n * sumInt (pts.map (fun p => p.1 * p.1)) - st * st
  if den = 0 then 0 else (-(num * 8 * 2 ^ 16)).tdiv (den * gDen)

/-- `RATE_ADJ` changed by an amount, kept within its 40 bits (log entry 11). -/
def TimeSt.adjustRate (t : TimeSt) (d : Int) : TimeSt :=
  let v := t.rateAdj.toInt + d
  { t with rateAdj := BitVec.ofInt 40 (if v > 2 ^ 39 - 1 then 2 ^ 39 - 1 else if v < -(2 ^ 39) then -(2 ^ 39) else v) }

/-- An offset in 2^-48 ns as fs, rounded to nearest (R51). -/
def toFs (x : Int) : Int := (2 * x * 1000000 + u48) / (2 * u48)

/-- A magnitude of at most `ps` picoseconds. -/
def withinPs (x : Int) (ps : Nat) : Bool := x.natAbs * 1000 ≤ ps * 2 ^ 48

/-- A deviation estimate of at most `ps` picoseconds RMS, from 256 times the variance. -/
def sigmaWithinPs (v256 ps : Nat) : Bool := v256 * 1000000 ≤ 256 * (ps * 2 ^ 48) * (ps * 2 ^ 48)

/-- The deviation estimate in units of 10 fs, saturating (R36). -/
def sigma10fs (v256 : Nat) : W16 := BitVec.ofNat 16 (satNat 16 (isqrt v256 * 100000 / (16 * 2 ^ 48)))

/-- The port that a TSU's plane selection names, or the port on which a Phidor is a child. -/
def State.selPort (s : State) : Part → Nat
  | .tsu => s.tsu.time.planeSel.toNat
  | .phi => if s.lighthouse then s.sister else s.uplink

/-- Shows a correction and a deviation estimate as those of the part (R36). -/
def State.showOffset (s : State) (p : Part) (c : Int) (v : Nat) : State :=
  s.updTime p fun t => { t with offsetFs := sInt 32 (satInt (2 ^ 31 - 1) (toFs c)), sigma10fs := sigma10fs v }

/-- The correction and the deviation estimate formed on a port (R52): kept with the port, and shown when it is the
selected one. A lighthouse shows its offset from its external reference instead (R36). -/
def State.formCorrection (s : State) (p : Part) (port : Nat) : State :=
  let q := s.port p port
  let t := (s.part p).time
  let l := (q.held.take 16).map (fun h => h.referred t)
  if l.length < 16 then s
  else
    let c := meanOf l
    let v := var256Of l
    let s := s.updPort p port fun q => { q with theta := c, var256 := v, formed := true }
    if port = s.selPort p ∧ !s.isLighthouse p then s.showOffset p c v else s

/-- The other port of a TSU. -/
def otherPort (port : Nat) : Nat := 1 - port

/-- The conditions of `STANDBY_OK` hold now on the standby port (R58). A port that calibrates does not meet them (R57). -/
def State.standbyConditions (s : State) : Bool :=
  let q := s.port .tsu (otherPort s.tsu.time.planeSel.toNat)
  q.lstate == .up && q.valid && q.calib.isNone && q.formed && sigmaWithinPs q.var256 3 && withinPs q.theta 50

/-- Updates `STANDBY_OK`: set after 1 ms without a break, cleared at once (R58). -/
def State.evalStandby (s : State) : State :=
  let ok := s.standbyConditions
  s.updTime .tsu fun t =>
    let since := sinceWhen t.ns t.standbySince ok
    { t with standbySince := since, standbyOk := ok && heldFor t.ns since (ms 1) }

/-- The plane selected before the always-on cycle under way (R60, R66). -/
def State.planeBefore (s : State) : Plane :=
  match s.tsu.time.selWas with
  | some (c, p) => if c = s.cyc then p else s.tsu.time.planeSel
  | none => s.tsu.time.planeSel

/-- Selects a plane without a step (R59, R453): the conditions that belong to the plane begin anew, and the standby flag
with them. -/
def State.selectPlane (s : State) (port : Nat) : State :=
  s.updTime .tsu fun t => { t with planeSel := BitVec.ofNat 1 port, standbyOk := false, standbySince := none,
                                   lockSince := none, devSince := none,
                                   selWas := some (s.cyc, s.planeBefore) }

/-- The lock criterion of R24 on a correction: 10 ps or less, with a deviation estimate of 3 ps RMS or less, for 1 ms. The instant
since which it holds is kept, and `LOCKED` entered. -/
def State.lockRun (s : State) (p : Part) (q : Port) : State :=
  let now := s.ns p
  let since := sinceWhen now (s.part p).time.lockSince (withinPs q.theta 10 && sigmaWithinPs q.var256 3)
  let s := s.updTime p fun t => { t with lockSince := since }
  if heldFor now since (ms 1) then s.enter p .locked else s

/-- The transitions of R25 on a correction of the selected port (R24 to R27). -/
def State.judgeCorrection (s : State) (p : Part) (port : Nat) : State :=
  let q := s.port p port
  let c := q.theta
  let big := !withinPs c 1000000
  let t := (s.part p).time
  let now := t.ns
  match t.state with
  | .free | .fault => s
  | .acquiring =>
    if !t.acqDone || t.holdLeft > 0 then s else if big then s.enter p .free else s.lockRun p q
  | .locked =>
    if big then s.enter p .free
    else
      let dev := sinceWhen now t.devSince (!sigmaWithinPs q.var256 4)
      let s := s.updTime p fun t => { t with devSince := dev }
      if !withinPs c 50 || heldFor now dev (ms 1) then s.enter p .degraded else s
  | .degraded => if big then s.enter p .free else s.lockRun p q
  | .holdover =>
    if big then s.enter p .free
    else
      if heldFor now q.goodSince (ms 1) then s.enter p (if withinPs c 50 then .locked else .degraded) else s

/-- What a correction does to HT in the state that the part has entered (R27 to R30): the one step or hold of `ACQUIRING`, on 16
exchanges accepted after the entry, none while a hold counts down; a slew in `LOCKED`, `DEGRADED`, and `ACQUIRING` after it. -/
def State.applyCorrection (s : State) (p : Part) (port : Nat) : State :=
  let c := (s.port p port).theta
  let t := (s.part p).time
  match t.state with
  | .acquiring =>
    if t.holdLeft > 0 then s
    else if t.acqDone then s.slew p c
    else if t.acqCount ≥ 16 then s.stepOrHold p c else s
  | .locked | .degraded => s.slew p c
  | _ => s

/-- The θ of a port that has just been selected becomes the correction, with the transition of R25 that it brings, and is slewed (R25, R36,
R59, R453). -/
def State.takePort (s : State) (port : Nat) : State :=
  let q := s.port .tsu port
  if q.formed then ((s.showOffset .tsu q.theta q.var256).judgeCorrection .tsu port).applyCorrection .tsu port else s

/-- `PLANE_SEL` moves to a plane with valid beacons, without a step (R25, R453): in `ACQUIRING` before the step or hold 16 exchanges on
the new plane are awaited, and otherwise its θ is the correction. In `HOLDOVER` the port counts the time for which its beacons have been
valid itself. -/
def State.movePlane (s : State) (port : Nat) : State :=
  let t := s.tsu.time
  let s := s.selectPlane port
  match t.state with
  | .acquiring => if t.acqDone then s.takePort port else s.updTime .tsu fun t => { t with acqCount := 0 }
  | .holdover | .degraded => s.takePort port
  | _ => s

/-- The beacons of both planes are lost: `PLANE_SEL` is as it was before the always-on cycle (R25, R60, R453). -/
def State.backPlane (s : State) : State :=
  let was := s.planeBefore
  s.updTime .tsu fun t => { t with planeSel := was }

/-- The beacon exponent in service on a port (R50): 14 from `CAL_START` to `CAL_END`, `BEACON_EXP` otherwise. -/
def State.portExp (s : State) (p : Part) (port : Nat) : Nat := if (s.port p port).calRun then 14 else s.beaconExp p

/-- The child sends `CAL_END` and its end returns to normal direction, waiting for block lock where that turns the pairs (R55). -/
def State.sendCalEnd (s : State) (p : Part) (port : Nat) : State :=
  (s.sendNow p port (.linkCtrl { code := 0x04, arg := 0 })).updPort p port fun q =>
    { q with calRun := false, waitLock := q.swapped, swapped := false }

/-- Abandons the calibration of a port (R60): `CAL_END` is sent at once, or, where the port waits for block lock after a turn, as
soon as it may send again. A periodic calibration that was due falls due again `ASYM_RECAL_S` seconds later, its next due time (DEDUCED,
log entry 82). -/
def State.abandonCal (s : State) (p : Part) (port : Nat) : State :=
  let s := s.updPort p port fun q =>
    { q with calib := none, exch := none,
             asymNs := if elapsed (s.ns p) q.asymNs (sec s.asymRecalS) then s.ns p else q.asymNs }
  if (s.port p port).waitLock then s else s.sendCalEnd p port

/-- What follows the loss of a port's beacons (R25, R59, R60, R62, R453). In `DEGRADED`, and in `ACQUIRING` on the other plane, the 1 ms
of the lock criterion runs on over a time without corrections unless `PLANE_SEL` moves, of which R24 says nothing; and R453 lets HT run
free in `DEGRADED` when both planes are lost without saying whether a slew in force goes on: it does, until it has removed its amount
(DESIGN CHOICE, log entry 62). -/
def State.afterLoss (s : State) (p : Part) (port : Nat) : State :=
  match p with
  | .phi =>
    if s.lighthouse then
      if port = s.sister ∧ !s.master then
        s.updTime .phi fun t => { t with slewAdj := 0, slewLeft := 0, trace := .holdover }
      else s
    else if port = s.uplink then
      match s.phi.time.state with
      | .locked => s.enter .phi .holdover
      | .acquiring => s.enter .phi .free
      | _ => s
    else s
  | .tsu =>
    if port ≠ s.tsu.time.planeSel.toNat then s.evalStandby
    else
      let o := otherPort port
      let q := s.port .tsu o
      match s.tsu.time.state with
      | .locked =>
        if s.tsu.time.standbyOk then (s.selectPlane o).takePort o
        else if q.lstate == .up && q.calib.isSome then ((s.enter .tsu .holdover).selectPlane o).abandonCal .tsu o
        else if q.valid then (s.enter .tsu .holdover).selectPlane o
        else (s.enter .tsu .holdover).backPlane
      | .acquiring => if q.valid then s.movePlane o else (s.enter .tsu .free).backPlane
      | .holdover | .degraded => if q.valid then s.movePlane o else s.backPlane
      | _ => s

/-- A port's beacons count as lost (R53). -/
def State.beaconsLost (s : State) (p : Part) (port : Nat) : State :=
  let was := (s.port p port).valid
  let s := s.updPort p port fun q => { q with valid := false, consec := 0, goodSince := none }
  if was then
    let s := if s.isLighthouse p && port == s.sister && !s.master
      then { s with hub.lh.traceLostNs := s.ns .phi } else s
    s.afterLoss p port
  else s

/-- The trace state of a code; the reserved code reads as `UNTRACEABLE`. -/
def traceOf (c : BitVec 2) : TraceState :=
  if c = 1 then .traceable else if c = 2 then .holdover else .untraceable

/-- What follows when a port's beacons are valid (R25, R62, R453): a part in `FREE` enters `ACQUIRING`, and the TSU takes the plane
of that port when the selected plane's beacons are not valid; with both planes valid in one cycle `PLANE_PREF` decides. In
`ACQUIRING`, `HOLDOVER` and `DEGRADED` a TSU whose selected plane is lost takes the other plane too when it becomes valid only later (DEDUCED,
log entry 62). A lighthouse follows R17 instead; the follower reports the master's trace state again. -/
def State.onValid (s : State) (p : Part) (port : Nat) : State :=
  if s.isLighthouse p then
    match (s.port .phi port).infoRx with
    | some f => if s.master then s else s.updTime .phi fun t => { t with trace := traceOf f.trace }
    | none => s
  else
    match p with
    | .phi => if (s.phi.time.state == .free) && port == s.uplink then s.enter .phi .acquiring else s
    | .tsu =>
      let sel := s.tsu.time.planeSel.toNat
      let other := port != sel && !(s.port .tsu sel).valid
      match s.tsu.time.state with
      | .free => (if other then s.selectPlane port else s).enter .tsu .acquiring
      | .acquiring =>
        if s.tsu.time.acqCyc = some s.cyc ∧ (s.port .tsu (otherPort port)).valid then s.selectPlane s.planePref.toNat
        else if other then s.movePlane port else s
      | .holdover | .degraded => if other then s.movePlane port else s
      | _ => s

/-- A port's beacons count as valid (R53). -/
def State.beaconsValid (s : State) (p : Part) (port : Nat) : State :=
  (s.updPort p port fun q => { q with valid := true }).onValid p port

/-- The frequency correction of R52 on the selected port: gain 1 in `ACQUIRING`, 1/4 in `LOCKED` and `DEGRADED`, none in
`FREE` and `HOLDOVER`. -/
def State.steerRate (s : State) (p : Part) (port : Nat) : State :=
  let t := (s.part p).time
  let pts := (s.port p port).held.take 16 |>.map (fun h => (h.t4, h.referred t))
  match t.state with
  | .acquiring => s.updTime p fun t => t.adjustRate (rateChange 1 pts)
  | .locked | .degraded => s.updTime p fun t => t.adjustRate (rateChange 4 pts)
  | _ => s

/-- A correction of the selected port: the transition of R25 first (R33), then the frequency correction of R52 and the slew, step or
hold. -/
def State.onCorrection (s : State) (p : Part) (port : Nat) : State :=
  ((s.judgeCorrection p port).steerRate p port).applyCorrection p port

/-- The bytes of a time status block (R36), with the plane that supplies time. A lighthouse's `OFFSET_FS` and `SIGMA_10FS` read zero
while it is `UNTRACEABLE`. -/
def TimeSt.block (t : TimeSt) (lighthouse : Bool) (plane : Plane) : List Byte :=
  let blank := lighthouse && t.trace == .untraceable
  htBytes t.ht
    ++ [BitVec.ofNat 8 (t.state.code + 8 * plane.toNat + (if t.standbyOk then 16 else 0)
          + (if t.slewAdj = 0 then 0 else 32)),
        BitVec.ofNat 8 (t.trace.code + (if t.leap61 then 4 else 0) + (if t.leap59 then 8 else 0))]
    ++ leOf 8 t.entryNs ++ leOf 4 (if blank then 0 else t.offsetFs) ++ leOf 2 (if blank then 0 else t.sigma10fs)
    ++ leOf 2 t.taiUtcS ++ leOf 8 t.epoch.s ++ leOf 4 t.epoch.ns
    ++ leBytes 4 (satNat 32 (t.holdLeft / 2 ^ 48)) ++ zeros 4

/-- The plane that supplies a part's time: that of `PLANE_SEL` at a TSU, its own at a Phidor (R36). A follower lighthouse takes its time
from the master of the other plane, and R36 does not say which plane it shows: its own, which it supplies (DESIGN CHOICE, log entry 82). -/
def State.timePlane (s : State) : Part → Plane
  | .tsu => s.tsu.time.planeSel
  | .phi => s.phiPlane

/-- The time status block of a part (R36). -/
def State.timeBlock (s : State) (p : Part) : List Byte := (s.part p).time.block (s.isLighthouse p) (s.timePlane p)

/-- TAI of an HT value as a count of 2^-16 ns since the IEEE 1588 epoch (R16). -/
def taiOf (e : Epoch) (h : Ht80) : Nat := (e.s.toNat * 1000000000 + e.ns.toNat) * 65536 + h.toNat

/-- The HT that R16 assigns to a TAI second, as a count of 2^-16 ns. -/
def htOfTaiSecond (e : Epoch) (s : Nat) : Int :=
  ((s : Int) * 1000000000 - ((e.s.toNat * 1000000000 + e.ns.toNat : Nat) : Int)) * 65536

/-- The payload of the `TIME_INFO` that a Phidor sends (R46, R62, R64). -/
def State.infoOf (s : State) (pps : W32) : InfoPl :=
  let t := s.phi.time
  { trace := BitVec.ofNat 2 t.trace.code, leap61 := t.leap61, leap59 := t.leap59, masterPlane := t.masterPlane,
    tier := BitVec.ofNat 8 s.tier, taiUtc := t.taiUtcS, epochS := t.epoch.s, epochNs := t.epoch.ns, ppsOffset := pps }

end Sys2Proof.Machine
end

