-- ==== Sys2Proof/Machine/LinkOps.lean ====
section
/-!
DEFINITION. The mooring ports: link states, reception of a frame's envelope, lane retry, the spare procedure, and the
class order of transmission (R40, R47, R48, R66 to R68, R175).
-/

namespace Sys2Proof.Machine

/-- The code of the channel that serves a port (R69). -/
def chanCode (p : Part) (port ch : Nat) : Nat :=
  match p with
  | .tsu => ch
  | .phi =>
    if port < 512 then 17 * (port / 16) + ch else if port < 528 then 544 + 9 * ((port - 512) / 8) + ch
    else if port < 560 then 17 * (port - 528) + ch else 544 + 9 * (port - 560) + ch

/-- The code of the channel that serves a port now. -/
def State.portChan (s : State) (p : Part) (port : Nat) : Nat := chanCode p port (s.port p port).channel

/-- The number of the spare channel that can serve a port: S, or the last channel of the bundle (R66, R67). -/
def spareChannel (p : Part) (port : Nat) : Nat :=
  match p with
  | .tsu => 2
  | .phi => if port < 512 || (528 ≤ port && port < 560) then 16 else 8

/-- The ports of the bundle to which a spare tail belongs (R67, R68). -/
def tailBundle (port : Nat) : List Nat :=
  if port < 528 then []
  else if port < 560 then (List.range 16).map (fun i => 16 * (port - 528) + i)
  else (List.range 8).map (fun i => 512 + 8 * (port - 560) + i)

/-- The ports that a spare tail may serve (R68): those of its bundle left `DOWN` by a fault of the cable, whose last peer is known
and which no `DISABLE` keeps down (R383), while the spare channel is free. -/
def State.tailPorts (s : State) (p : Part) (port : Nat) : List Nat :=
  if (s.unit p 0 (chanCode p port (spareChannel p port))).state == .freeSpare then
    (tailBundle port).filter (fun i => s.portExists p i && (s.port p i).cableFault && (s.port p i).lastPeer.isSome
      && (s.port p i).admin == .enabled)
  else []

/-- The ports of a part train: the TSU from the end of its start-up step 4, the Phidor from step 2 under a boot
configuration or a configuration in force; a retired part sends idle blocks only (R411, R412, R414, R417). -/
def State.portsTrain (s : State) (p : Part) : Bool :=
  (s.part p).cfg.lcState != 4 &&
  match p with
  | .tsu => s.tsu.configured && s.tsu.cfg.startStep ≥ 5
  | .phi => (s.phi.configured || s.hub.storage.bootCfg.isSome) && s.phi.cfg.startStep ≥ 2

/-- A port in `DOWN`: everything of the link it held is gone; its channel, its administrative state, its attempt counts and
the asymmetry it last accepted stay (R40, R48). -/
def Port.fall (q : Port) (now : W64) : Port :=
  { q with lstate := .down, entryNs := now, blockLock := false, headersOk := false, waitLock := false, swapped := false,
           identHeld := none, identSentNs := none, peer := none, txSeq := 0, rxNext := 0, rxAny := false, replay := [],
           ackOwed := none, queue := [], wbOpen := [], rrLast := 0, sinceC3 := 0, rxRetry := false, beaconFail := false, exch := none,
           answer := none, held := [], consec := 0, formed := false, calib := none, calRun := false, rxRun := false, infoLast := none }

/-- Changes the ledger. -/
def State.ledUpd (s : State) (f : LedgerSt → LedgerSt) : State := s.hubUpd fun h => { h with led := f h.led }

/-- The length of a ledger entry with a body of `n` bytes: the header and the body, in whole lines of 64 bytes (R308). -/
def entryLen (n : Nat) : Nat := (32 + n + 63) / 64 * 64

/-- The bytes of ledger staging in use: a slot for each port in reassembly, and the entries held (R329, R333). -/
def State.stagingUsed (s : State) : Nat :=
  41216 * s.hub.transfers.length + (s.hub.led.waiting.map (fun e => entryLen e.2.length)).sum

/-- The bytes of ledger staging: 64 GB for each of its pairs in service (R321, R326). -/
def State.stagingSize (s : State) : Nat :=
  64000000000 * (((s.hub.pairs.drop 2).take 6).filter (fun p => !p.lost)).length

/-- `LEDGER_FULL` for every transfer from 95 % of staging until it falls below 90 % (R333). -/
def State.evalStaging (s : State) : State :=
  let used := s.stagingUsed
  let size := s.stagingSize
  s.ledUpd fun l => { l with stagingFull := if l.stagingFull then used * 10 ≥ size * 9 else used * 20 ≥ size * 19 }

/-- A port goes `DOWN`: its beacons count as lost (R40, R53), a host recalibration in progress
on it ends, and a Phidor discards a partial transfer of it (R329). -/
def State.portDown (s : State) (p : Part) (port : Nat) : State :=
  let r := (s.port p port).recalRing
  let s := s.updPort p port fun q => { q.fall (s.ns p) with recalRing := none }
  let s := match p with
    | .tsu => s
    | .phi => ({ s with hub.transfers := tabDel s.hub.transfers port }).evalStaging
  let s := s.beaconsLost p port
  s.finishOpt p r .aborted Cause.calFailed.w 0

/-- A port enters a link state. -/
def State.setLink (s : State) (p : Part) (port : Nat) (st : LState) : State :=
  s.updPort p port fun q => { q with lstate := st, entryNs := s.ns p }

/-- The lasting fault has recurred on the spare channel before `UP` (R68): the spare is freed, the original channel
returns to the pool, `LANE_CABLE` is recorded and the port stays `DOWN`. -/
def State.laneCable (s : State) (p : Part) (port : Nat) : State :=
  let spare := s.portChan p port
  let now := (s.port p port).channel
  let orig := if now = (freshPort p port).channel then spareChannel p port else (freshPort p port).channel
  let s := s.setUnit p 0 spare .freeSpare
  let s := s.setUnit p 0 (chanCode p port orig) .inService
  let s := s.updPort p port fun q => { q with channel := orig, cableFault := true, spareTry := false }
  (s.portDown p port).record p .laneCable port

/-- The free channel that can take over a port: the spare, or the port's own channel once it has been returned (R66, R67,
R382). -/
def State.spareFor (s : State) (p : Part) (port : Nat) : Option Nat :=
  [spareChannel p port, (freshPort p port).channel].find? fun c =>
    c != (s.port p port).channel && (s.unit p 0 (chanCode p port c)).state == .freeSpare

/-- Puts a free channel in the place of the channel that serves a port (R66, R67). -/
def State.swapChannel (s : State) (p : Part) (port : Nat) : State :=
  match s.spareFor p port with
  | none => s
  | some c =>
    let s := s.setUnit p 0 (s.portChan p port) .expelled
    let s := s.setUnit p 0 (chanCode p port c) .inService
    let old := s.portChan p port
    s.updPort p port fun q => { q with swapCyc := some (s.cyc, old), channel := c, spareTry := true, fails := 0, linkFailed := false }

/-- What a lasting fault of the channel that serves a port leads to (R48, R66 to R68): the port goes `DOWN`; on a spare channel before
`UP` the fault lies in the cable; otherwise the governor decides on the channel, which until then trains again. A fault of a cycle in which
an expulsion took the channel out is that of the channel that left (R385). -/
def State.channelFault (s : State) (p : Part) (port : Nat) (cause : Cause) : State :=
  let ch := s.portChan p port
  let q := s.port p port
  match q.swapCyc.filter (fun x => x.1 == s.cyc) with
  | some x => s.record p cause x.2
  | none =>
  let s := s.recordLasting p 0 ch cause ch
  if q.spareTry && q.lstate != .up then s.laneCable p port else (s.portDown p port).holdFault p 0 ch

/-- A training attempt has failed (R40): `DOWN`, one attempt more; the third in a row is the lasting fault `LINK_FAILED`,
or on a spare channel `LANE_CABLE` (R68). -/
def State.trainFail (s : State) (p : Part) (port : Nat) : State :=
  let q := s.port p port
  let n := satNat 8 (q.fails + 1)
  let s := s.portDown p port
  let s := s.updPort p port fun q => { q with fails := n, retryNs := s.ns p, linkFailed := n ≥ 3 }
  if n = 3 && (port < 528 : Bool) then
    if q.spareTry then s.laneCable p port else s.record p .linkFailed port
  else s

/-- Frames that the peer's `LACK` covers leave the replay buffer (R47). -/
def ackReplay (lack : Byte) (l : List Sent) : List Sent :=
  if l.any (fun x => x.frame.lseq == lack) then (l.dropWhile (fun x => x.frame.lseq != lack)).drop 1 else l

/-- A frame has been received intact: it is counted, and its `LACK` frees replay slots (R47). -/
def State.rxCount (s : State) (p : Part) (port : Nat) (e : Env) : State :=
  let s := s.count p (match p with | .tsu => 0x0102 | .phi => 0x1102) port 1
  s.updPort p port fun q => { q with replay := ackReplay e.lack q.replay }

/-- A port receives frames now: it has reached `IDENT` and does not wait for block lock after a turn (R40, R55). -/
def Port.receives (q : Port) : Bool :=
  !q.waitLock && match q.lstate with
    | .ident | .cal | .up => true
    | _ => false

/-- A retransmission, or the exchange after one that failed, has arrived intact (R48): one transient fault of the channel; the TSU
counts it in `LANE_RETRY` too. -/
def State.retried (s : State) (p : Part) (port : Nat) : State :=
  let s := s.transient p 0 (s.portChan p port)
  match p with
  | .tsu => s.count .tsu 0x0105 (s.portChan p port) 1
  | .phi => s

/-- A beacon exchange goes on intact: after one whose frame failed it counts as the retry that succeeded (R48). -/
def State.beaconIntact (s : State) (p : Part) (port : Nat) : State :=
  if (s.port p port).beaconFail then (s.retried p port).updPort p port fun q => { q with beaconFail := false } else s

/-- Reception of a reliable frame (R47, R48): in order on an `UP` port it is taken and an acknowledgement is owed, and a
retransmission that arrives intact counts one transient fault, one for a run of them; an old copy is acknowledged again; one after a gap is
discarded. -/
def State.rxReliable (s : State) (p : Part) (port : Nat) (e : Env) : Bool × State :=
  let q := s.port p port
  if q.lstate != .up || q.waitLock then (false, s)
  else
    let s := s.rxCount p port e
    let d := (e.lseq - q.rxNext).toNat
    let owed := some (match q.ackOwed with | some t => t | none => s.ns p)
    if d = 0 || 128 ≤ d then
      let s := if e.retx && !q.rxRun then s.retried p port else s
      (d = 0, s.updPort p port fun q =>
        if d = 0 then { q with rxNext := q.rxNext + 1, rxAny := true, rxRetry := q.rxRetry && !e.retx, rxRun := e.retx,
                               ackOwed := owed }
        else { q with rxRun := e.retx, ackOwed := owed })
    else (false, s)

/-- Runs what a reliable frame brings when it is taken in order. -/
def State.onReliable (s : State) (p : Part) (port : Nat) (e : Env) (k : State → State) : Result :=
  match s.rxReliable p port e with
  | (true, s) => .next (k s)
  | (false, s) => .next s

/-- An engine of the TSU or a hardware unit of the Phidor is in reset or held out of service (R369, R370, R373). -/
def State.engineShut (s : State) (p : Part) (n : Nat) : Bool :=
  let e : EngineSt := tabGet {} (s.part p).engines n
  e.step != 0 || e.outOfService

/-- The Phidor's port cluster or uplink block that a port belongs to is in reset or out of service: its ports are `DOWN`
(R373). -/
def State.clusterShut (s : State) (p : Part) (port : Nat) : Bool :=
  p == .phi && s.engineShut .phi (if port < 512 then port / 128 else if 528 ≤ port && port < 560 then (port - 528) / 8 else 4)

/-- The TSU's `MEASURE` engine is in reset (R370). -/
def State.measureShut (s : State) (p : Part) : Bool := p == .tsu && s.engineShut .tsu 4

/-- A measurement request is held while the `MEASURE` engine is in reset, 64 deep; a further one is discarded and counted (R369), its command
completing with `RETRY` (DESIGN CHOICE, log entry 91). -/
def State.holdMeasure (s : State) (ring idx : Nat) : State :=
  let e : EngineSt := tabGet {} s.tsu.engines 4
  if e.heldItems.length < 64 then s.holdItem 4 64 (leBytes 2 ring ++ leBytes 4 idx)
  else (s.holdItem 4 64 []).finish .tsu ring idx .retry Cause.engineReset.w 0

/-- A frame at the breakwater of an engine or unit in reset is discarded; the TSU counts it in `BW_REFUSED` (R369). -/
def State.bwRefused (s : State) : Part → State
  | .tsu => s.count .tsu 0x0804 0 1
  | .phi => s

/-- Runs what a reliable frame for an engine or unit brings, unless its breakwater is closed (R369). -/
def State.onEngine (s : State) (p : Part) (n port : Nat) (e : Env) (k : State → State) : Result :=
  s.onReliable p port e fun s => if s.engineShut p n then s.bwRefused p else k (s.take p n)

/-- Runs what an unreliable frame brings when the port receives. -/
def State.onPlain (s : State) (p : Part) (port : Nat) (e : Env) (k : State → State) : Result :=
  if (s.port p port).receives then .next (k (s.rxCount p port e)) else nothing s

/-- A part holds a basin and generation as torn down: a sequencing Phidor holds a basin in `DESTROYING` so, every other
part for 1 s after the last frame of one for which it carried a teardown (R175). -/
def State.tornDown (s : State) (p : Part) (basin gen : Nat) : Bool :=
  (s.part p).torn.any (fun t => t.basin == basin && t.gen == gen && !elapsed (s.ns p) t.lastNs (sec 1)) ||
  (p == .phi && s.hub.tearing.contains (basin, gen))

/-- A frame belongs to a basin (R43, R45). -/
def hasBasin (pl : Payload) : Bool :=
  match pl with
  | .announce _ | .ack _ | .commit _ | .abort _ | .gateArrive _ | .gateRelease _ | .wbData _ | .wbResult _ | .wbAck _
  | .member _ => true
  | _ => false

/-- The class of a queued reliable frame (R175). -/
def State.frameClass (s : State) (p : Part) (f : Frame) : Nat :=
  if hasBasin f.pl && s.tornDown p f.basin.toNat f.gen.toNat then 3
  else match f.pl with
    | .abort _ => 0
    | .announce _ | .ack _ | .commit _ | .gateArrive _ | .gateRelease _ => 1
    | _ => 2

/-- The frame is a `MEMBER` frame. -/
def isMember (pl : Payload) : Bool :=
  match pl with
  | .member _ => true
  | _ => false

/-- The first class 1 frame that overtakes no earlier queued `MEMBER` frame of its basin and generation (R175): its
position in the queue. -/
def State.firstClass1 (s : State) (p : Part) : List Frame → List Frame → Nat → Option Nat
  | [], _, _ => none
  | f :: fs, before, i =>
    if s.frameClass p f = 1 ∧ !before.any (fun m => isMember m.pl && m.basin == f.basin && m.gen == f.gen) then some i
    else s.firstClass1 p fs (f :: before) (i + 1)

/-- The round-robin participant of a class 2 frame: its basin, or 4,096 for the frames without one (R175). -/
def participant (f : Frame) : Nat := if hasBasin f.pl then f.basin.toNat else 4096

/-- Whether a basin may take one more of a credited resource (R327): from its reserve, or from the common pool. `holders`
lists the basin of each unit in use, `counted` the counted basins with their reserve. -/
def creditFree (total : Nat) (counted : List (Nat × Nat)) (holders : List Nat) (b : Nat) : Bool :=
  let mine (x : Nat) : Nat := (holders.filter (· == x)).length
  let reserve (x : Nat) : Nat := ((counted.find? (fun c => c.1 == x)).map (·.2)).getD 0
  let pool := total - (counted.map (·.2)).foldl (· + ·) 0
  let used := (holders.eraseDups.map (fun x => mine x - reserve x)).foldl (· + ·) 0
  mine b < reserve b || used < pool

/-- The basins counted at this Phidor, each with its reserve of a resource; that of one being torn down is zero (R327). -/
def State.counted (s : State) (reserve : Nat) : List (Nat × Nat) :=
  let held := s.hub.paths.map (fun p => (p.basin, p.gen)) ++ s.hub.seqs.map (fun e => (e.1, e.2.gen))
  ((held.filter (fun p => !s.hub.tearing.contains p)).map (·.1)).eraseDups.map (fun b => (b, reserve))

/-- The class 2 frames that have a place in a lane direction of a Phidor (R327): 256, one reserved for each counted basin, and 32 for no
basin more; a further one waits at its source port. -/
def State.admitted (s : State) (p : Part) (l : List (Frame × Nat)) : List (Frame × Nat) :=
  match p with
  | .tsu => l
  | .phi =>
    l.foldl (fun (acc : List (Frame × Nat)) e =>
      let who := acc.map (fun x => participant x.1)
      let b := participant e.1
      if (b == 4096 || (who.filter (· == b)).length < 32) && creditFree 256 (s.counted 1) who b then acc ++ [e] else acc) []

/-- The class 2 frame whose turn it is: the next participant after the one served last (R175, R327). -/
def State.nextClass2 (s : State) (p : Part) (q : Port) : Option Nat :=
  let c2 := s.admitted p (q.queue.zipIdx.filter (fun e => s.frameClass p e.1 == 2))
  let dist (f : Frame) : Nat := (participant f + 4097 * 2 - q.rrLast - 1) % 4097
  match c2 with
  | [] => none
  | e :: es => some (es.foldl (fun (b : Frame × Nat) x => if dist x.1 < dist b.1 then x else b) e).2

/-- The operation and chunk of a `WB_DATA` frame. -/
def wbKey (f : Frame) : Option (Nat × Nat × W32 × Nat) :=
  match f.pl with
  | .wbData w => some (f.basin.toNat, f.gen.toNat, w.opid, w.chunk.toNat)
  | _ => none

/-- A frame is of a home chunk of an operation on a plane (R228). -/
def homeOf (p : Plane) (k : Nat × Nat × W32 × Nat) (f : Frame) : Bool :=
  match wbKey f with
  | some x => x.1 == k.1 && x.2.1 == k.2.1 && x.2.2.1 == k.2.2.1 && x.2.2.2 % 2 == p.toNat
  | none => false

/-- The frame that goes in the turn of the queued frame at `i` at a Phidor: before a standby partial or chunk of an operation is begun,
its ready home ones go (R230, R232). The frames of a partial that has been begun are ended first (R231). -/
def State.homeTurn (s : State) (p : Part) (q : Port) (i : Nat) : Nat :=
  match p, (q.queue[i]?).bind wbKey with
  | .phi, some k =>
    if k.2.2.2 % 2 = s.phiPlane.toNat ∨ q.wbOpen.contains k then i
    else (q.queue.findIdx? (homeOf s.phiPlane k)).getD i
  | _, _ => i

/-- The partials begun and not ended on a lane, after a frame of `WB_DATA` has gone (R231). -/
def wbBegun (l : List (Nat × Nat × W32 × Nat)) (f : Frame) : List (Nat × Nat × W32 × Nat) :=
  match f.pl, wbKey f with
  | .wbData w, some k => if w.acc && !w.last then (if l.contains k then l else k :: l) else l.filter (· != k)
  | _, _ => l

/-- The queued frame that a lane direction sends next, with its class (R175): classes 0 and 1 first, then class 2, then
class 3, which has at least 1 frame in 16 while any is queued; classes 2 and 3 leave 8 of the 32 replay slots free. -/
def State.pickFrame (s : State) (p : Part) (port : Nat) : Option (Nat × Nat) :=
  let q := s.port p port
  let find (c : Nat) := (q.queue.findIdx? (fun f => s.frameClass p f == c)).map (fun i => (i, c))
  let room := q.replay.length < 24
  let c3 := if room then find 3 else none
  if q.replay.length ≥ 32 then none
  else if q.sinceC3 ≥ 15 && c3.isSome then c3
  else
    match find 0 with
    | some x => some x
    | none =>
      match s.firstClass1 p q.queue [] 0 with
      | some i => some (i, 1)
      | none =>
        if room then
          match s.nextClass2 p q with
          | some i => some (s.homeTurn p q i, 2)
          | none => c3
        else none

/-- Puts a reliable frame on the lane for the first time: numbered, carrying `LACK`, kept in the replay buffer (R47). -/
def State.putFrame (s : State) (p : Part) (port i cls : Nat) (f : Frame) : State :=
  let q := s.port p port
  let g := { f with lseq := q.txSeq, lack := q.rxNext - 1, retx := false }
  let more := (q.queue.eraseIdx i).any (fun x => s.frameClass p x == 3)
  let s := s.updPort p port fun q =>
    { q with queue := q.queue.eraseIdx i, txSeq := q.txSeq + 1, ackOwed := none, lastTxNs := s.ns p,
             replay := q.replay ++ [{ frame := g, sentNs := s.ns p, retx := false }],
             wbOpen := wbBegun q.wbOpen f,
             rrLast := if cls = 2 then participant f else q.rrLast,
             sinceC3 := if cls = 3 then 0 else if more then q.sinceC3 + 1 else 0 }
  let s := s.upd p fun c => { c with torn := c.torn.map fun t =>
    if t.basin = f.basin.toNat ∧ t.gen = f.gen.toNat ∧ !elapsed (s.ns p) t.lastNs (sec 1) then { t with lastNs := s.ns p } else t }
  (s.count p (match p with | .tsu => 0x0103 | .phi => 0x1103) port 1).emit (.frame p port g)

/-- Retransmits once, with `RETX` set, the frames of a list, oldest first (R47). -/
def State.resendAll (s : State) (p : Part) (port : Nat) : List Sent → State
  | [] => s
  | x :: xs =>
    let g := { x.frame with retx := true, lack := (s.port p port).rxNext - 1 }
    let s := s.count p (match p with | .tsu => 0x0103 | .phi => 0x1103) port 1
    let s := s.count p (match p with | .tsu => 0x0104 | .phi => 0x1104) port 1
    (s.emit (.frame p port g)).resendAll p port xs

/-- Retransmits every unacknowledged frame from one on (R47), or, when one of them has been retransmitted before, takes the lane as having
a lasting fault (R48). R361 charges that to the receiving channel: a second `NAK` to that of the peer, which records it, so that here the
port only goes `DOWN`; a second time-out, where no `LACK` comes in, to the channel of this port (DEDUCED, log entry 84). -/
def State.retransmit (s : State) (p : Part) (port : Nat) (nak : Bool) (keep resend : List Sent) : State :=
  if resend.isEmpty then s
  else if resend.any (·.retx) then (if nak then s.portDown p port else s.channelFault p port .laneFault)
  else
    let s := s.resendAll p port resend
    let again := resend.map (fun x => { x with retx := true, sentNs := s.ns p })
    s.updPort p port fun q => { q with lastTxNs := s.ns p, ackOwed := none, replay := keep ++ again }

/-- A part that sends or forwards a `MEMBER` frame with `TEAR` holds its basin and generation as torn down (R175). -/
def State.holdTorn (s : State) (p : Part) (basin gen : Nat) : State :=
  s.upd p fun c => { c with torn :=
    { basin := basin, gen := gen, lastNs := s.ns p } :: c.torn.filter (fun t => !(t.basin == basin && t.gen == gen)) }

end Sys2Proof.Machine
end

