-- ==== Sys2Proof/Machine/TdcOps.lean ====
section
/-!
DEFINITION. The time-to-digital converters: channels, conversion of an edge to an HT stamp (R72 to R77), and the statistics
of R82 and R83.
-/

namespace Sys2Proof.Machine

/-- A channel code is one of R69. -/
def chanExists (p : Part) (ch : Nat) : Bool :=
  match p with
  | .tsu => ch < 3 || (16 ≤ ch && ch < 34)
  | .phi => ch < 581 && !(562 ≤ ch && ch < 576)

/-- A channel is a vernier channel (R69). -/
def isVernier (p : Part) (ch : Nat) : Bool :=
  match p with
  | .tsu => ch < 3
  | .phi => 544 ≤ ch && ch < 562

/-- A channel is a mooring channel (R69). -/
def isMooring (p : Part) (ch : Nat) : Bool :=
  match p with
  | .tsu => ch < 3
  | .phi => ch < 562

/-- A TDC channel of a part. -/
def State.chan (s : State) (p : Part) (ch : Nat) : Chan := tabGet {} (s.part p).tdc.chans ch

/-- Changes a TDC channel. -/
def State.updChan (s : State) (p : Part) (ch : Nat) (f : Chan → Chan) : State :=
  s.upd p fun c => { c with tdc.chans := tabMod {} c.tdc.chans ch f }

/-- The bin table of an input of a channel; one never accepted is the nominal table (R80). -/
def Chan.table (c : Chan) (input : Nat) : BinTable := tabGet {} c.tables input

/-- `STATE` of a bin table at an instant (R80): an accepted one is 2 once it is older than `TDC_RECAL_S`, here `per`, unless that is 0. -/
def BinTable.stateAt (t : BinTable) (per : Nat) (now : W64) : Nat :=
  if t.state = 1 ∧ per ≠ 0 ∧ elapsed now t.calNs (sec per) then 2 else t.state

/-- A vernier core of a channel. -/
def Chan.core (c : Chan) (i : Nat) : VCore := tabGet {} c.cores i

/-- Every input or core that the channel stamps with holds accepted tables or constants (R40, R79, R81). -/
def State.tdcReady (s : State) (p : Part) (ch : Nat) : Bool :=
  let c := s.chan p ch
  if isVernier p ch then (List.range 3).all (fun i => (c.core i).state != 0)
  else (List.range 9).all (fun i => (c.table i).state != 0)

/-- The fast logic of a part runs, so that its channels convert (R70, R111). -/
def State.fastRuns (s : State) (p : Part) : Bool :=
  match p with
  | .tsu => s.tsu.clk.running
  | .phi => !s.phi.clk.soscDead

/-- The local time of a multiphase conversion in 2^-16 ns (R73). -/
def tauMulti (centre : List Nat) (coarse bin : Nat) : Int := (coarse * 16384 + centre.getD bin 0 : Nat)

/-- The local time of a vernier conversion in 2^-16 ns (R74). -/
def tauVernier (lsb : Nat) (ofs : Int) (c n : Nat) : Int :=
  (c * 65536 : Nat) - ((n * lsb : Nat) + ofs) / 65536

/-- The HT stamp of a local time, from the counter and the increment of edge E, in 2^-16 ns (R76): rounded to nearest. -/
def stampOf (cap : Capture) (tau : Int) : Int :=
  ((cap.acc.extractLsb' 32 80).toNat : Int) + (tau * cap.inc + 4 * 2 ^ 48).tdiv (8 * 2 ^ 48)

/-- The counter and the increment of the always-on cycle in which an edge falls (R76). -/
def State.capture (s : State) (p : Part) : Capture := { acc := (s.part p).time.acc, inc := (s.part p).time.inc }

/-- A part's flag for the production constants: true for the Phidor. -/
def isPhi : Part → Bool
  | .tsu => false
  | .phi => true

/-- The channel that does the duty of a channel outside the bundles (R89): itself, or `M17` or `AUX4` when it has left service and that
spare has taken its place; none when its function has stopped. -/
def State.tdcFor (s : State) (p : Part) (ch : Nat) : Option Nat :=
  let spare := match p with
    | .tsu => 33
    | .phi => 580
  let serves (st : UState) : Bool := st == .inService || st == .suspect
  let st := (s.unit p 1 ch).state
  if serves st then some ch
  else if (st == .expelled || st == .freeSpare) && serves (s.unit p 1 spare).state then some spare
  else none

/-- A vernier core is busy in an always-on cycle with a conversion and its reset (R70, R75). -/
def VCore.busy (k : VCore) (cyc : Nat) : Bool :=
  match k.busyUntil with
  | some t => cyc < t
  | none => false

/-- A rotation that waits takes place when both cores that were armed before were idle in the cycle before (R75). -/
def Chan.rotateBoth (c : Chan) (i j cyc : Nat) : Chan :=
  if !(c.core i).busy (cyc - 1) && !(c.core j).busy (cyc - 1) then { c with calCore := i, rotWait := false, rotCyc := none }
  else { c with rotCyc := none }

/-- The rotation of R75 as it stands in an always-on cycle. That of the cycle in which a core finished takes place at the end of that cycle
with the first other core that was idle, unless a marker reached one of the two in it; one that waits takes place when both were idle in
the cycle before this one, with the first after the core that finished. The spec says neither which of two idle cores is taken nor which
core calibrates at reset, where it is core 2 (DESIGN CHOICE, log entry 69). -/
def Chan.rotateDue (c : Chan) (cyc : Nat) : Chan :=
  let i := (c.rotFrom + 1) % 3
  let j := (c.rotFrom + 2) % 3
  if !c.rotWait then c
  else match c.rotCyc with
    | some n =>
      if cyc ≤ n then c
      else
        let taken := [i, j].any (fun x => (c.core x).busyUntil == some (n + 513))
        match [i, j].find? (fun x => !(c.core x).busy n) with
        | some x => if taken then c.rotateBoth i j cyc else { c with calCore := x, rotWait := false, rotCyc := none }
        | none => c.rotateBoth i j cyc
    | none => c.rotateBoth i j cyc

/-- A vernier core of a channel is armed and idle (R75). -/
def State.armedIdle (s : State) (p : Part) (ch core : Nat) : Bool :=
  core < 3 && core != ((s.chan p ch).rotateDue s.cyc).calCore && !((s.chan p ch).core core).busy s.cyc

/-- A vernier core takes an edge: it is busy for 4,096 ns of conversion and 8 ns of reset, 513 always-on cycles (R70, R74). -/
def State.coreTakes (s : State) (p : Part) (ch core : Nat) : State :=
  s.updChan p ch fun c =>
    let c := c.rotateDue s.cyc
    { c with cores := tabMod {} c.cores core (fun k => { k with busyUntil := some (s.cyc + 513) }) }

/-- The pair on which a port's frames of a direction run now, X or, where this holds, Y (R54): pair X carries frames upstream, and both
directions are turned while the pairs are swapped. -/
def State.pairY (s : State) (p : Part) (port : Nat) (transmit : Bool) : Bool :=
  (s.port p port).swapped != (transmit != s.towards p port)

/-- Starts the conversion of a marker on a port's channel (R71, R72, R75): a multiphase channel takes it on its input; an
armed vernier core takes it when it is idle, and a busy core leaves it unconverted and counted. Answers whether the
conversion runs. -/
def State.startConv (s : State) (p : Part) (ch input core : Nat) (use : StampUse) (pairY : Bool) : Bool × State :=
  let c := s.chan p ch
  let cap := s.capture p
  if isVernier p ch then
    let k := c.core core
    if !s.fastRuns p then (false, s)
    else if !s.armedIdle p ch core then
      (false, match p with
        | .tsu => s.count .tsu 0x0202 ch 1
        | .phi => s)
    else
      let cv : Conv := { use := use, input := core, cyc := s.cyc, cap := cap, centre := [], tabState := k.state, lsb := k.lsb,
                         ofs := k.ofs, pairY := pairY }
      (true, (s.updChan p ch fun c => { c with convs := c.convs ++ [cv] }).coreTakes p ch core)
  else if !s.fastRuns p then (false, s)
  else
    let t := c.table input
    let cv : Conv := { use := use, input := input, cyc := s.cyc, cap := cap, centre := t.centre, tabState := t.stateAt (s.tdcRecalS p) (s.ns p), lsb := 0, ofs := 0,
                       pairY := pairY }
    (true, s.updChan p ch fun c => { c with convs := c.convs ++ [cv] })

/-- The receive marker of a beacon frame that belongs to no exchange of the port is converted all the same (R71). -/
def State.strayMarker (s : State) (p : Part) (port core : Nat) : State :=
  (s.startConv p (s.portChan p port) 2 core .stray (s.pairY p port false)).2

/-- The raw values of a vernier conversion that has not failed (R74): the detector latched within the 4,096 periods, after edge 1
to 8. R74 does not say whether the count reaches 4,096 at the last of them: a latch shows a count below 4,096 (DESIGN CHOICE, log
entry 83). -/
def vernierGood (c n : Nat) : Bool := 1 ≤ c && c ≤ 8 && n < 4096

/-- The bin tables of a channel at an edge E (R77): a set that ceased only after E was in force there. -/
def Chan.tablesAt (c : Chan) (acc : BitVec 112) : Tab BinTable :=
  c.old.foldl (fun cur e => if (acc - e.1).toInt < 0 then e.2 else cur) c.tables

/-- The table of an input at an edge (R77, R80). -/
def Chan.tableAt (c : Chan) (input : Nat) (e : RawEdge) : BinTable := tabGet {} (c.tablesAt e.acc) input

/-- The stamp of a raw edge at an input, in 2^-16 ns (R73, R76). -/
def Chan.edgeStamp (c : Chan) (input : Nat) (e : RawEdge) : Int :=
  stampOf { acc := e.acc, inc := e.inc } (tauMulti (c.tableAt input e).centre e.coarse e.bin)

/-- Changes the bin tables of a channel (R77, R79); the set that ceases is kept with the instant for the stamps of a running
measurement. -/
def State.setTables (s : State) (p : Part) (ch : Nat) (f : Tab BinTable → Tab BinTable) : State :=
  s.updChan p ch fun c => { c with tables := f c.tables, old :=
    if c.meas.isSome || (p == .tsu && 16 ≤ ch) then ((s.part p).time.acc, c.tables) :: c.old else [] }

/-- The 80-byte layout of a bin table at an instant (R80). -/
def BinTable.bytes (t : BinTable) (per : Nat) (now : W64) : List Byte :=
  (padTo 32 (t.centre.flatMap (leBytes 2)) ++ padTo 32 (t.widthFs.flatMap (leBytes 2))) ++ leBytes 4 t.hits
    ++ b1 (t.stateAt per now % 4) ++ b1 t.source ++ leBytes 2 t.dnlMax ++ leOf 8 t.calNs

/-- The exact statistics of R82 over a list of samples: mean, deviation, least and greatest. Of no samples, where the formulas divide
by 0 and the spec is silent, all four are zero (DESIGN CHOICE, log entry 69). -/
def statsOf (xs : List Int) : Int × Int × Int × Int :=
  match xs with
  | [] => (0, 0, 0, 0)
  | x :: r =>
    let n : Int := xs.length
    let s1 := sumInt xs
    let s2 := sumInt (xs.map (fun y => y * y))
    (s1.tdiv n, (isqrt ((n * s2 - s1 * s1).tdiv (n * n)).toNat : Int), r.foldl min x, r.foldl max x)

/-- A sample is in range (R82). -/
def inRange (x : Int) : Bool := x.natAbs < 2 ^ 47

/-- The 48-byte result record of a measurement (R83). -/
def resultRecord (st : Int × Int × Int × Int) (count m mode status : Nat) (above stale : Bool) (t0 : W64) : List Byte :=
  leOf 8 (sInt 64 st.1) ++ leOf 8 (sInt 64 st.2.1) ++ leOf 8 (sInt 64 st.2.2.1) ++ leOf 8 (sInt 64 st.2.2.2)
    ++ leBytes 4 count ++ b1 (m + 32 * mode) ++ b1 status ++ b1 (nb above + 2 * nb stale) ++ zeros 1 ++ leOf 8 t0

end Sys2Proof.Machine
end

