-- ==== Sys2Proof/Machine/Health.lean ====
section
/-!
DEFINITION. Channel health (R88) and the replacement of TDC channels and calibration sources by their spares (R89).
-/

namespace Sys2Proof.Machine

/-- The port that a mooring channel serves, if it serves one. -/
def State.portOf (s : State) (p : Part) (ch : Nat) : Option Nat :=
  match p with
  | .tsu => (List.range 2).find? (fun i => s.portChan .tsu i == ch)
  | .phi =>
    let ports := if ch < 544 then (List.range 16).map (fun i => 16 * (ch / 17) + i)
      else (List.range 8).map (fun i => 512 + 8 * ((ch - 544) / 9) + i)
    ports.find? (fun i => s.portChan .phi i == ch)

/-- The unit kind of a channel: 0 mooring, 1 TDC channel (the spares table). -/
def chanKind (p : Part) (ch : Nat) : Nat := if isMooring p ch then 0 else 1

/-- The spare of a channel that serves no mooring port (R89). -/
def auxSpare (p : Part) : Nat :=
  match p with
  | .tsu => 33
  | .phi => 580

/-- A free TDC channel takes the place of one that serves no mooring port (R89). -/
def State.expelTdc (s : State) (p : Part) (ch : Nat) : State :=
  let s := match s.freeUnit p 1 with
    | some x => s.setUnit p 1 x .inService
    | none => s
  s.setUnit p 1 ch .expelled

/-- The region whose watch a channel of the TSU serves: its own, or for `M17` that of the channel it has replaced (R89). -/
def State.watchOf (s : State) (ch : Nat) : Option Nat :=
  (List.range 16).find? (fun r => s.tdcFor .tsu (16 + r) == some ch)

/-- A channel outside the bundles has failed for good: its function stops, with `M0` to `M15`, or with `M17` in the place of one, that
region's watch, and with the spine's channel its calibration (R89, R103). -/
def State.tdcStop (s : State) (p : Part) (ch : Nat) : State :=
  let watch := if p = .tsu then s.watchOf ch else none
  let s := (s.setUnit p 1 ch .failed).updChan p ch fun c => { c with failed := true }
  let s := match watch with
    | some r => { s with die.spine.watches := tabMod {} s.die.spine.watches r (fun w => { w with running := false, failed := true }) }
    | none => s
  if p = .tsu ∧ (s.tdcFor .tsu 32).isNone then { s with die.spine.calRun := false } else s

/-- A `RETURN` of a channel places it in the free spares once its fresh calibration is accepted (R382), if a command still waits for
that. -/
def State.returnDone (s : State) (p : Part) (ch : Nat) : State :=
  let l := (s.chan p ch).ret.filter (fun x => (s.desc? p x.1 x.2).isSome)
  if l.isEmpty || !s.tdcReady p ch then s
  else
    let s := (s.updChan p ch fun c => { c with ret := [] }).setUnit p (chanKind p ch) ch .freeSpare
    l.foldl (fun s x => s.finish p x.1 x.2 .ok 0 0) s

/-- A lasting fault of a TDC channel (R88, R89): recorded, and acted on through the spare of its kind. One that fails its calibration for
a `RETURN` has failed, and the command is left to its time limit (log entry 50). -/
def State.chanFault (s : State) (p : Part) (ch : Nat) (cause : Cause) : State :=
  if !(s.chan p ch).ret.isEmpty then
    ((s.recordLasting p (chanKind p ch) ch cause ch).setUnit p (chanKind p ch) ch .failed).updChan p ch fun c => { c with ret := [] }
  else if isMooring p ch then
    match s.portOf p ch with
    | some port => s.channelFault p port cause
    | none => (s.recordLasting p 0 ch cause ch).setUnit p 0 ch .failed
  else (s.recordLasting p 1 ch cause ch).holdFault p 1 ch

/-- The score of a metric: the smaller of 255 and 128 x metric / threshold (R88). -/
def metricScore (value thr : Nat) : Nat := min 255 (128 * value / thr)

/-- The score of a channel: the largest over its metrics (R88). -/
def Chan.score (c : Chan) : Nat := c.metrics.foldl (fun m e => max m e.2.score) 0

/-- The level of a channel: 0 none, 1 `WARN`, 2 `FAIL_ONCE` (R88, R362). -/
def Chan.level (c : Chan) : Nat :=
  if c.metrics.any (fun e => e.2.failOnce) then 2 else if c.score ≥ 64 || c.warnFloor then 1 else 0

/-- Evaluates one metric of a channel against its fail threshold, both in 10^-18 s (R88); the value kept is in units of
10 fs. At or above the threshold once counts a transient fault, twice in a row is a lasting fault. DESIGN CHOICE (log 86): where the
channel serves on after that fault as suspect, its level follows the score and the next crossing counts as a first one. -/
def State.evalMetric (s : State) (p : Part) (ch metric value thr : Nat) (cause : Cause) : State :=
  let was := (tabGet {} (s.chan p ch).metrics metric : Metric).failOnce
  let above := value ≥ thr
  let s := s.updChan p ch fun c =>
    { c with metrics := tabSet c.metrics metric { value := value / 10000, failOnce := above && !was, score := metricScore value thr } }
  if above && was then s.chanFault p ch cause
  else if above then s.transient p (chanKind p ch) ch
  else s

/-- A channel's own calibration source (R69): `CS0` of the TSU; on the Phidor that of its bundle, `UB0`'s for `AUX0` to `AUX4`. -/
def ownSource (p : Part) (ch : Nat) : Nat :=
  match p with
  | .tsu => 0
  | .phi => if ch < 544 then ch / 17 else if ch < 562 then 32 + (ch - 544) / 9 else 32

/-- The calibration source of a channel (R69): TSU `CS0` or `CS1`; on the Phidor one source for each bundle, that of `UB0`
feeding `AUX0` to `AUX4` too. -/
def State.sourceOf (s : State) (p : Part) (ch : Nat) : Nat :=
  match p with
  | .tsu => if (s.unit .tsu 2 1).state == .inService || (s.unit .tsu 2 1).state == .suspect then 1 else 0
  | .phi =>
    let own := ownSource .phi ch
    if s.phi.tdc.srcFailed.contains own then (if own < 32 then own ^^^ 1 else 65 - own) else own

/-- The spare or partner of a source (R89). -/
def partnerSource (p : Part) (src : Nat) : Nat :=
  match p with
  | .tsu => 1 - src
  | .phi => if src < 32 then src ^^^ 1 else 65 - src

/-- The source that would take over from a calibration source is free to do so: the TSU's other source as a spare, a bundle's
partner in service (R89). -/
def State.sourceSpare (s : State) (p : Part) (src : Nat) : Bool :=
  let st := (s.unit p 2 (partnerSource p src)).state
  match p with
  | .tsu => st == .freeSpare
  | .phi => st == .inService || st == .freeSpare

/-- A calibration source leaves service and its spare or partner takes over (R89). -/
def State.expelSource (s : State) (p : Part) (src : Nat) : State :=
  let s := s.setUnit p 2 src .expelled
  let s := match p with
    | .tsu => s.setUnit p 2 (partnerSource p src) .inService
    | .phi => s
  s.upd p fun c => { c with tdc.srcFailed := src :: c.tdc.srcFailed.filter (· != src) }

/-- A calibration source has a lasting fault (R79, R89): recorded; with the governor's grant the spare or partner takes over
and the failed source is out. -/
def State.sourceFault (s : State) (p : Part) (src : Nat) : State :=
  (s.recordLasting p 2 src .calSource src).holdFault p 2 src

/-- A calibration source has failed without another to take over: runs on it are refused (R89). -/
def State.sourceStop (s : State) (p : Part) (src : Nat) : State :=
  (s.setUnit p 2 src .failed).upd p fun c => { c with tdc.srcFailed := src :: c.tdc.srcFailed.filter (· != src) }

end Sys2Proof.Machine
end

