-- ==== Sys2Proof/Machine/WbNum.lean ====
section
/-!
DEFINITION. Weighbridge formats and chunks (R220 to R223, R228, R229): element sizes, elements per chunk, numbers of chunks,
residues of chunks.
-/

namespace Sys2Proof.Machine

/-- Element bytes of a format; 0 for a reserved code (R221). -/
def fmtBytes : Nat → Nat
  | 1 => 8 | 2 => 4 | 3 => 2 | 4 => 2 | 5 => 1 | 6 => 1 | 8 => 4 | 9 => 8 | _ => 0

/-- Elements per plain chunk (R221). -/
def plainPer (fmt : Nat) : Nat := if fmtBytes fmt = 0 then 0 else 24 / fmtBytes fmt

/-- Elements per gathered chunk (R221). -/
def gatheredPer (fmt : Nat) : Nat := if fmtBytes fmt = 0 then 0 else 20 / fmtBytes fmt

/-- The operation is gathered (R222). -/
def gathered (wbop : Nat) : Bool := wbop ∈ [7, 8, 9]

/-- The combinations of R222. -/
def comboOk (wbop fmt : Nat) : Bool :=
  match wbop with
  | 1 | 2 | 3 => fmt ∈ [1, 2, 3, 4, 5, 6, 8, 9]
  | 4 | 5 | 6 => fmt ∈ [8, 9]
  | 7 | 8 => fmt ∈ [2, 3, 4, 5, 6, 8, 9]
  | 9 => fmt == 8
  | _ => false

/-- Elements per contribution chunk of an operation. -/
def perChunk (wbop fmt : Nat) : Nat := if gathered wbop then gatheredPer fmt else plainPer fmt

/-- A quotient rounded up. -/
def ceilDiv (a b : Nat) : Nat := if b = 0 then 0 else (a + b - 1) / b

/-- Chunks of a contribution (R228). -/
def contribChunks (wbop fmt len : Nat) : Nat := ceilDiv len (perChunk wbop fmt)

/-- The format of an operation's result (R222, R238). -/
def resultFmt (wbop fmt : Nat) : Nat := if wbop = 9 then 9 else fmt

/-- Elements of an operation's result (R222). -/
def resultLen (wbop len : Nat) : Nat := if wbop = 9 then 2 * len else len

/-- Data chunks of an operation's result. -/
def resultChunks (wbop fmt len : Nat) : Nat :=
  ceilDiv (resultLen wbop len) (perChunk wbop (resultFmt wbop fmt))

/-- Bytes of the result area that a result chunk fills. -/
def resultStep (wbop fmt : Nat) : Nat := perChunk wbop (resultFmt wbop fmt) * fmtBytes (resultFmt wbop fmt)

/-- The `FMT` byte of an operation's frames (R223). -/
def fmtByte (wbop fmt : Nat) : Byte := BitVec.ofNat 8 (16 * wbop + fmt)

/-- `DATA` of contribution chunk `c` (R229): the elements, behind the sender's die number in a gathered chunk. -/
def contribData (wbop fmt len die : Nat) (data : List Byte) (c : Nat) : List Byte :=
  let n := perChunk wbop fmt * fmtBytes fmt
  let all := data.take (len * fmtBytes fmt)
  if gathered wbop then leBytes 2 die ++ zeros 2 ++ padTo 20 (slice all (c * n) n) else padTo 24 (slice all (c * n) n)

/-- The residue of a data chunk: the sum of its element bytes modulo 255 (R240). -/
def chunkResidue (bs : List Byte) : Nat := (bs.foldl (fun a b => a + b.toNat) 0) % 255

/-- The operation is `SUM` in `FP64` (R237). -/
def fp64Sum (wbop fmt : Nat) : Bool := wbop == 1 && fmt == 1

/-- Chunks of a port in the order sent: those homed on the port's plane first, ascending, then the others; an `FP64` `SUM`
has no standby (R228). -/
def chunkOrder (n plane : Nat) (standby : Bool) : List Nat :=
  let home := (List.range n).filter (fun c => c % 2 == plane)
  if standby then home ++ (List.range n).filter (fun c => c % 2 != plane) else home

/-- The data chunk that byte `i` of residue chunk `k` of parity `p` covers (R240). -/
def residueCovers (per k p i : Nat) : Nat := p + 2 * (per * k + i)

end Sys2Proof.Machine
end

