-- ==== Sys2Proof/Machine/WbOps.lean ====
section
/-!
DEFINITION. The copies of a weighbridge result at the TSU, and what follows when a chunk cannot be verified from them (R243, R245).
-/

namespace Sys2Proof.Machine

/-- The plane that a chunk may come from (R228, R237). -/
def WbOp.mayCome (o : WbOp) (c : Nat) (p : Plane) : Bool := !fp64Sum o.wbop o.fmt || c % 2 == p.toNat

/-- A chunk of an operation is verified. -/
def WbOp.verified (o : WbOp) (c : Nat) : Bool :=
  match tabGet? o.copies c with
  | some x => x.verified
  | none => false

/-- The data chunks of an operation's result. -/
def WbOp.chunks (o : WbOp) : Nat := resultChunks o.wbop o.fmt o.len

/-- A plane has nothing good for a chunk: its copy failed its checks, or it sent `FAILED` (R243, R245). -/
def WbOp.dead (o : WbOp) (c : Nat) (p : Plane) : Bool :=
  !o.mayCome c p || o.bad.contains (c, p) || o.failed.any (fun x => x.1 == c && x.2.1 == p)

/-- A chunk that no plane can give a good copy of, one copy at least having failed its checks where none was re-fetched
yet (R243, R245). -/
def WbOp.lost (o : WbOp) (c : Nat) : Bool :=
  !o.verified c && o.dead c 0 && o.dead c 1 && (o.refetch || o.bad.any (fun x => x.1 == c))

/-- The cause of the abort of a lost chunk (R245). -/
def WbOp.lostCause (o : WbOp) (c : Nat) : W16 :=
  match o.failed.find? (fun x => x.1 == c) with
  | some x => x.2.2
  | none => Cause.wbResultBad.w

/-- Ends an operation and starts the abort wave for its step (R245). -/
def State.abortWb (s : State) (o : WbOp) (st : Status) (cause : W16) : State :=
  let s := s.endWb o (if st = .timeout then .timeout else .aborted) cause
  s.startAbort o.basin o.gen o.step o.bell 0 st cause

/-- Sends a `WB_ACK` up both ports (R241, R243). -/
def State.sendWbAck (s : State) (o : WbOp) (st : Status) : State :=
  s.queueAll .tsu [0, 1] (BitVec.ofNat 12 o.basin) (BitVec.ofNat 16 o.gen)
    (.wbAck { opid := o.opid, origin := s.dieNum, status := st.b })

/-- Asks for a re-fetch, or aborts, where a chunk cannot be verified from the copies received (R243, R245). After the re-fetch a plane's
copy must fail again, while a plane that has sent `FAILED` has sent it. -/
def State.checkLost (s : State) (o : WbOp) : State :=
  match (List.range o.chunks).find? o.lost with
  | none => s
  | some c =>
    if o.refetch then s.abortWb o .parity (o.lostCause c)
    else
      let o := { o with refetch := true, bad := [] }
      (((s.setWb o).count .tsu 0x0603 0 1).writeWb o .pending 0).sendWbAck o .parity

/-- A copy of a data chunk of a result has failed `CRC16` or `BPAR` (R241, R243): what it is of is read from its bytes as received
(DEDUCED, log entry 23). -/
def State.copyFailed (s : State) (bytes : List Byte) : State :=
  let c := field bytes 12 2
  match s.wbOp? (field bytes 4 2 % 4096) (field bytes 6 2) (BitVec.ofNat 32 (field bytes 8 4)) with
  | none => s
  | some o =>
    if field bytes 0 1 % 64 ≠ 0x11 ∨ field bytes 14 1 / 16 = 15 ∨ c ≥ o.chunks ∨ o.verified c then s
    else
      let o := { o with bad := (c, BitVec.ofNat 1 (field bytes 1 1)) :: o.bad }
      (s.setWb o).checkLost o

end Sys2Proof.Machine
end

