-- ==== Sys2Proof/Machine/Links.lean ====
section
/-!
DEFINITION. The commands of the mooring links: link training (R40, R41), frame checks and lane retry (R44 to R48), and
transmission (R42, R175).
-/

namespace Sys2Proof.Machine

/-- A port in `BLOCK_LOCK` with its 64 headers seen enters `IDENT` once its channel holds accepted tables (R40). -/
def State.tryIdent (s : State) (p : Part) (port : Nat) : State :=
  let q := s.port p port
  if q.lstate == .blockLock && q.headersOk && s.tdcReady p (s.portChan p port) then s.setLink p port .ident else s

/-- A port reaches `UP` (R40): its failed attempts are forgotten, and a TSU sends the `MEMBER_RESET` note it owes (R376). -/
def State.portUp (s : State) (p : Part) (port : Nat) : State :=
  let owed := (s.port p port).noteOwed
  let s := (s.setLink p port .up).updPort p port fun q =>
    { q with fails := 0, linkFailed := false, spareTry := false, noteOwed := none, lastPeer := q.peer, lastAcceptNs := s.ns p }
  match owed with
  | some detail => s.queueFrame p port 0 0
      (.faultNote { phi := isPhi p, id := s.selfId p, cause := Cause.memberReset.w, detail := BitVec.ofNat 32 detail,
                    at_ := shortStamp (s.ns p) })
  | none => s

/-- SIGNAL_DETECTED (R40); the spare tail of a bundle trains while it may serve a port (R68). -/
def execSignalDetected (p : Part) (port : Nat) (s : State) : Result :=
  let q := s.port p port
  whenever ((s.portExists p port || !(s.tailPorts p port).isEmpty) && s.portsTrain p && !s.clusterShut p port && q.lstate == .down && q.admin == .enabled && !q.cableFault
      && !q.linkFailed) s (s.setLink p port .signal)

/-- CLOCK_RECOVERY_LOCK (R40). -/
def execClockRecoveryLock (p : Part) (port : Nat) (s : State) : Result :=
  whenever ((s.port p port).lstate == .signal) s (s.setLink p port .blockLock)

/-- BLOCK_LOCK_ACQUIRED (R39, R40): 64 valid headers have been seen. -/
def execBlockLockAcquired (p : Part) (port : Nat) (s : State) : Result :=
  whenever ((s.port p port).lstate == .blockLock) s
    ((s.updPort p port fun q => { q with blockLock := true, headersOk := true }).tryIdent p port)

/-- The `LINK_IDENT` payload of a port (R46). A spare tail names the lowest port that it may serve (DEDUCED, log entry 66). -/
def State.identOf (s : State) (p : Part) (port : Nat) : IdentPl :=
  { phi := isPhi p, tier := (match p with | .tsu => 0 | .phi => BitVec.ofNat 8 s.tier), id := s.selfId p,
    port := BitVec.ofNat 16 ((s.tailPorts p port).headD port), channel := BitVec.ofNat 8 (s.port p port).channel,
    calId := Config.calId (isPhi p) (s.portChan p port) }

/-- LINK_IDENT_SEND (R40): every 10 us in `IDENT`. -/
def execLinkIdentSend (p : Part) (port : Nat) (s : State) : Result :=
  let q := s.port p port
  let due : Bool := match q.identSentNs with
    | none => true
    | some t => elapsed (s.ns p) t (us 10)
  whenever (q.lstate == .ident && due) s
    ((s.sendNow p port (.linkIdent (s.identOf p port))).updPort p port fun q => { q with identSentNs := some (s.ns p) })

/-- The plane that a port expects of its peer (R41). -/
def State.expectedPlane (s : State) (p : Part) (port : Nat) : Plane :=
  match p with
  | .tsu => bit1 (port == 1)
  | .phi => if s.lighthouse && port == s.sister then s.phiPlane + 1 else s.phiPlane

/-- The peer's part, port kind and tier obey R38, and a die lies within the Phidor's subtree (R406). -/
def State.topologyOk (s : State) (p : Part) (port : Nat) (f : IdentPl) : Bool :=
  match p with
  | .tsu => f.phi && f.port.toNat < 512 && f.tier == 1
  | .phi =>
    let uPeer := f.phi && 512 ≤ f.port.toNat && f.port.toNat < 528
    if port < 512 then
      !f.phi && s.tier == 1 && f.port.toNat < 2 && s.dieLo ≤ f.id.toNat && f.id.toNat ≤ s.dieHi
    else if s.lighthouse && port == s.sister then uPeer && f.tier.toNat == s.tier
    else if port == s.uplink then uPeer && f.tier.toNat == s.tier + 1
    else uPeer && f.tier.toNat + 1 == s.tier

/-- A Phidor sees a die number that is already `UP` on another of its ports (R41). -/
def State.dieTwice (s : State) (p : Part) (port : Nat) (f : IdentPl) : Bool :=
  p == .phi && !f.phi && s.phi.ports.any (fun e =>
    e.1 != port && e.2.lstate == .up && (match e.2.peer with | some x => !x.phi && x.id == f.id | none => false))

/-- The port that a link serves whose peer names itself so (R68): the port itself, or for a spare tail the port of the bundle left
`DOWN` by a fault of the cable whose last peer this was. -/
def State.identPort (s : State) (p : Part) (port : Nat) (f : IdentPl) : Option Nat :=
  if port < 528 then some port
  else (s.tailPorts p port).find? fun i =>
    match (s.port p i).lastPeer with
    | some x => x.phi == f.phi && x.id == f.id
    | none => false

/-- A spare tail serves its port through the original port number (R68): the port goes on from `CAL` on the spare channel. -/
def State.tailTake (s : State) (p : Part) (tail port : Nat) (f : IdentPl) : State :=
  let c := spareChannel p tail
  let s := (s.setUnit p 0 (chanCode p port c) .inService).updPort p tail fun q => q.fall (s.ns p)
  (s.updPort p port fun q =>
    { q with channel := c, cableFault := false, fails := 0, linkFailed := false, blockLock := true, headersOk := true,
             peer := some f }).setLink p port .cal

/-- LINK_IDENT_RECEIVE (R40, R41, R68): the checks refuse the link with a fault; two identical valid frames take the port to
`CAL`. A peer that no port of the bundle knows stays unserved on a spare tail. -/
def execLinkIdentReceive (p : Part) (tail : Nat) (e : Env) (f : IdentPl) (s : State) : Result :=
  match s.identPort p tail f with
  | none => nothing s
  | some port =>
  if (s.port p tail).lstate != .ident then nothing s
  else if tail ≠ port then
    if e.plane ≠ s.expectedPlane p port then .next ((s.record p .planeMismatch port).trainFail p tail)
    else if !s.topologyOk p port f then .next ((s.record p .topology port).trainFail p tail)
    else if s.dieTwice p port f then .next ((s.record p .dieDuplicate (port + 65536 * f.id.toNat)).trainFail p tail)
    else if (s.port p tail).identHeld = some f then .next (s.tailTake p tail port f)
    else .next (s.updPort p tail fun q => { q with identHeld := some f })
  else
    let s := s.rxCount p port e
    if e.plane ≠ s.expectedPlane p port then .next ((s.record p .planeMismatch port).trainFail p port)
    else if !s.topologyOk p port f then .next ((s.record p .topology port).trainFail p port)
    else if s.dieTwice p port f then
      .next ((s.record p .dieDuplicate (port + 65536 * f.id.toNat)).trainFail p port)
    else if (s.port p port).identHeld = some f then
      .next ((s.updPort p port fun q => { q with peer := some f }).setLink p port .cal)
    else .next (s.updPort p port fun q => { q with identHeld := some f })

/-- The time limit of a link state, in ns (R40). -/
def Port.limit (q : Port) : Option Int :=
  match q.lstate with
  | .signal => some (ms 1)
  | .blockLock => some (if q.headersOk then ms 150 else ms 1)
  | .ident => some (ms 1)
  | .cal => some (ms 200)
  | _ => none

/-- LINK_TRAIN_TIMEOUT (R40): the state's time limit has passed. -/
def execLinkTrainTimeout (p : Part) (port : Nat) (s : State) : Result :=
  let q := s.port p port
  match q.limit with
  | some d => whenever (elapsed (s.ns p) q.entryNs d) s (s.trainFail p port)
  | none => nothing s

/-- LINK_RETRY_TIMER (R40): after `LINK_FAILED` training is tried again every 10 s. -/
def execLinkRetryTimer (p : Part) (port : Nat) (s : State) : Result :=
  let q := s.port p port
  whenever (q.lstate == .down && q.linkFailed && elapsed (s.ns p) q.retryNs (sec 10)) s
    (s.updPort p port fun q => { q with linkFailed := false })

/-- BLOCK_LOCK_LOST (R40): an `UP` port returns to `DOWN`; a second loss within 1 s of the first is a lasting fault of the
channel. A port that has just turned its pairs waits for block lock and loses nothing (R55). -/
def execBlockLockLost (p : Part) (port : Nat) (s : State) : Result :=
  let q := s.port p port
  if q.lstate != .up || q.waitLock then nothing s
  else
    let second : Bool := match q.lossNs with
      | some t => !later (s.ns p) (nsAdd t (sec 1))
      | none => false
    if second then .next ((s.updPort p port fun q => { q with lossNs := none }).channelFault p port .laneFault)
    else .next ((s.updPort p port fun q => { q with lossNs := some (s.ns p) }).portDown p port)

/-- A frame fails `CRC16` or `BPAR` (R44, R47, R48): it is answered with a `NAK`, and its type, `REL` and `RETX` are taken from its
bytes as received (DEDUCED, log entry 23). A retransmission that fails after a `NAK`, and a beacon frame that fails after one of an
earlier exchange, are the lasting fault of the channel. A chunk of a result that a TSU discards so is a failed copy (R243). -/
def State.corruptFrame (s : State) (p : Part) (port : Nat) (bytes : List Byte) : State :=
  let q := s.port p port
  let beacon := (byteAt bytes 0).toNat % 64 ∈ [3, 4, 5]
  let retx := (byteAt bytes 1).getLsbD 2 && (byteAt bytes 1).getLsbD 3
  let same := q.exch.any (·.rxError)
  if (!beacon && retx && q.rxRetry) || (beacon && q.beaconFail && !same) then s.channelFault p port .laneFault
  else
    let s := s.updPort p port fun q =>
      if beacon then { q with beaconFail := true, exch := q.exch.map (fun x => { x with rxError := true }) }
      else { q with rxRetry := true }
    let s := if p == .tsu then s.copyFailed bytes else s
    s.sendNow p port (.linkCtrl { code := 0x02, arg := q.rxNext })

/-- The bytes that each received block carries, none for one with an invalid sync header or of another type (R39). -/
def rxParts (before : BitVec 58) (blocks : List Block66) : List (Option (List Byte)) :=
  (descrambleAll before blocks).map blockBytes

/-- How many of the received blocks are block errors (R39). -/
def rxBad (before : BitVec 58) (blocks : List Block66) : Nat := ((rxParts before blocks).filter (·.isNone)).length

/-- The bytes of a frame whose blocks are all good (R39). -/
def rxBytes (before : BitVec 58) (blocks : List Block66) : List Byte := (rxParts before blocks).flatMap (·.getD [])

/-- The start block of a frame received with an error makes a marker all the same when its first byte has the `FTYPE` of `BEACON_REQ` or
`BEACON_RESP` (R71). It goes to an armed idle core where there is one; which of two it is the spec does not say, and the lower one takes
it (DESIGN CHOICE, log entry 83). -/
def State.badMarker (s : State) (p : Part) (port : Nat) (block : Option (List Byte)) : State :=
  let ch := s.portChan p port
  match block with
  | some b =>
    if b.length = 7 ∧ (byteAt b 0).toNat % 64 ∈ [3, 4] then
      s.strayMarker p port (((List.range 3).find? (s.armedIdle p ch)).getD 0)
    else s
  | none => s

/-- FRAME_RECEIVE_ERROR (R39, R44, R45, R47, R48): the blocks of a frame as received, after the 58 bits before them. An invalid sync
header or another block type is a block error, counted, with the frame discarded; the checks of R44 and R45 on the frame's bytes
follow. -/
def execFrameReceiveError (p : Part) (port : Nat) (rx : RxBlocks) (s : State) : Result :=
  let q := s.port p port
  if !q.receives then nothing s
  else
    let bad := rxBad rx.before rx.blocks
    let t := s.badMarker p port ((rxParts rx.before rx.blocks).headD none)
    if 0 < bad then .next (t.updPort p port fun q => { q with blockErrors := q.blockErrors + bad })
    else match checkFrame (rxBytes rx.before rx.blocks) with
    | .good => nothing s
    | .unknown => .next (t.updPort p port fun q => { q with unknownFrames := q.unknownFrames + 1 })
    | .wrongRel => .next (t.updPort p port fun q => { q with blockErrors := q.blockErrors + 1 })
    | .corrupt => .next (t.corruptFrame p port (rxBytes rx.before rx.blocks))

/-- LINK_CTRL_ACK (R47). -/
def execLinkCtrlAck (p : Part) (port : Nat) (e : Env) (s : State) : Result := s.onPlain p port e id

/-- LINK_CTRL_NAK (R47, R48): every unacknowledged frame from the named `LSEQ` on is retransmitted once. -/
def execLinkCtrlNak (p : Part) (port : Nat) (e : Env) (arg : Byte) (s : State) : Result :=
  s.onPlain p port e fun s =>
    let l := (s.port p port).replay
    s.retransmit p port true (l.takeWhile (fun x => x.frame.lseq != arg)) (l.dropWhile (fun x => x.frame.lseq != arg))

/-- LINK_ACK_TIMER (R47): no frame carried the acknowledgement within 1 us. -/
def execLinkAckTimer (p : Part) (port : Nat) (s : State) : Result :=
  match (s.port p port).ackOwed with
  | some t => whenever (elapsed (s.ns p) t (us 1)) s (s.sendNow p port (.linkCtrl { code := 0x01, arg := 0 }))
  | none => nothing s

/-- RETX_TIMEOUT (R47, R48, R55): `LACK` has not advanced within 4 us of a transmission. After a turn an end sends no frame before it has
block lock. -/
def execRetxTimeout (p : Part) (port : Nat) (s : State) : Result :=
  let q := s.port p port
  match q.replay with
  | [] => nothing s
  | x :: _ => whenever (!q.waitLock && elapsed (s.ns p) x.sentNs (us 4)) s (s.retransmit p port false [] q.replay)

/-- LANE_TRANSMIT (R42, R47, R175): the lane direction sends its next queued reliable frame in class order. -/
def execLaneTransmit (p : Part) (port : Nat) (s : State) : Result :=
  let q := s.port p port
  if q.lstate != .up || q.waitLock then nothing s
  else
    match s.pickFrame p port with
    | none => nothing s
    | some (i, cls) =>
      match q.queue[i]? with
      | some f => .next (s.putFrame p port i cls f).wbSent
      | none => nothing s

/-- LINK_CTRL_RETRAIN (R46): the frame is received; the spec gives it a code and no further effect (log entry 13). -/
def execLinkCtrlRetrain (p : Part) (port : Nat) (e : Env) (s : State) : Result := s.onPlain p port e id

/-- BLOCK_LOCK_AFTER_TURN (R55): after a turn the receiver regains block lock and the end may send again. -/
def execBlockLockAfterTurn (p : Part) (port : Nat) (s : State) : Result :=
  whenever ((s.port p port).waitLock) s (s.updPort p port fun q => { q with waitLock := false })

end Sys2Proof.Machine
end

