-- ==== Sys2Proof/Machine/Time.lean ====
section
/-!
DEFINITION. The commands of Hall Time and of the lighthouse's own time (R10 to R37, R61 to R65, R416, R442).
-/

namespace Sys2Proof.Machine

/-- The always-on supply of the TSU starts (R14, R367, R376, R412): every TSU state is cleared, the meter section apart,
HT is zero and the state is `FREE`. `MEMBER_RESET` with `DETAIL` 3 is recorded, which `FLT_BASE` 0 lets only be counted,
and a note is owed on each port. The fuses of the life cycle stay. -/
def State.tsuPowerOn (s : State) : State :=
  let cfg : CfgSt := { image := tsuResetImage, lcState := s.tsu.cfg.lcState, lcRows := s.tsu.cfg.lcRows, startStep := 2 }
  let s := { s with tsu := { cfg := cfg, cycs := { dredged := some (s.cyc, 2) } }, die := {} }
  let s := { s with meter.htRestart := true, meter.gridFrom := 0 }
  let s := s.writeFault .tsu { ht := 0, cause := Cause.memberReset.code, cls := 0, remote := false, originPhi := false,
                               noted := false, origin := s.dieNum, detail := 3, ext := leBytes 4 0 }
  (s.updPort .tsu 0 fun q => { q with noteOwed := some 3 }).updPort .tsu 1 fun q => { q with noteOwed := some 3 }

/-- AON_POWER_ON. -/
def execAonPowerOn (s : State) : Result := .next s.tsuPowerOn

/-- REF_CLOCK_LOST (R25): the accumulator is held and the part enters `FAULT`. -/
def execRefClockLost (p : Part) (s : State) : Result :=
  whenever (s.part p).time.refClk s <|
    ((s.updTime p fun t => { t with refClk := false }).enter p .fault).record p .refClockLost 0

/-- HT_PARITY (R25): a lasting parity fault of the accumulator. -/
def execHtParity (p : Part) (s : State) : Result :=
  whenever (s.part p).time.parityGood s <|
    ((s.updTime p fun t => { t with parityGood := false }).enter p .fault).record p .htParity 0

/-- HOLDOVER_WINDOW_EXPIRY (R25, R26): 100 ms after the first entry to `HOLDOVER`. -/
def execHoldoverWindowExpiry (p : Part) (s : State) : Result :=
  let t := (s.part p).time
  whenever (t.state == .holdover && elapsed t.ns t.holdoverNs (ms 100)) s (s.enter p .degraded)

/-- HT_HOLD_END (R27): the hold has counted down and HT runs again at the parent's HT. -/
def execHtHoldEnd (p : Part) (s : State) : Result :=
  let t := (s.part p).time
  whenever (t.holding && t.holdLeft == 0) s (s.updTime p fun t => { t with holding := false })

/-- SLEW_COMPLETE (R29): the slew has removed the whole amount; `SLEW_ADJ` is zero again and `SLEWING` clears. -/
def execSlewComplete (p : Part) (s : State) : Result :=
  let t := (s.part p).time
  whenever (t.slewAdj != 0 && t.slewLeft == 0) s (s.updTime p fun t => { t with slewAdj := 0 })

/-- PLANE_REVERT (R59): while `LOCKED` and with `REVERT` set, the preferred plane's port has met the standby conditions for
1 s, and the TSU returns to it without a step. -/
def execPlaneRevert (s : State) : Result :=
  let t := s.tsu.time
  let pref := s.planePref.toNat
  whenever (s.revert && t.state == .locked && t.planeSel.toNat != pref && s.standbyConditions
      && heldFor t.ns t.standbySince (sec 1)) s
    ((s.selectPlane pref).takePort pref)

/-- BEACON_LOSS (R53): the port is not `UP`, no exchange has been accepted for four beacon periods, or the parent's state is
neither `LOCKED` nor `HOLDOVER`. -/
def execBeaconLoss (p : Part) (port : Nat) (s : State) : Result :=
  let q := s.port p port
  let lost := q.lstate != .up || elapsed (s.ns p) q.lastAcceptNs (4 * 2 ^ s.portExp p port)
    || !(q.lastPstate == 2 || q.lastPstate == 3)
  whenever (s.exchPort p port && q.valid && lost) s (s.beaconsLost p port)

/-- The lighthouse takes HT from a source that differs from its own HT by a correction, and enters `LOCKED` (R19, R27). Its offset from
TAI changes by the correction. -/
def State.obtain (s : State) (corr : Int) (tr : TraceState) : State :=
  let s := (s.stepOrHold .phi corr).enter .phi .locked
  { s with hub.lh.ppsOffset := s.hub.lh.ppsOffset - corr / 2 ^ 32 }.updTime .phi fun t => { t with trace := tr }

/-- The correction that takes the Phidor's HT to a saved HT plus 1 s (R13, R19). -/
def State.savedLead (s : State) (h : Ht80) : Int :=
  (s.phi.time.acc - (accOfHt h + BitVec.ofInt 112 (1000000000 * u48))).toInt

/-- A lighthouse's epoch in force changes; its offsets from TAI are referred to the new one (R15, R16, R61). -/
def State.useEpoch (s : State) (e : Epoch) : State :=
  let d := htOfTaiSecond s.phi.time.epoch 0 - htOfTaiSecond e 0
  { s with hub.lh.ppsOffset := s.hub.lh.ppsOffset + d,
           hub.lh.ppsHeld := s.hub.lh.ppsHeld.map (fun (h : Held) => { h with theta := h.theta + d }) }.updTime .phi
    fun t => { t with epoch := e }

/-- A lighthouse takes an epoch and writes it to module storage (R15, R19). -/
def State.takeEpoch (s : State) (e : Epoch) : State := { s.useEpoch e with hub.storage.epoch := some e }

/-- The conditions of R61 beside the presence of the inputs: the IEEE 1588 port is slave and traceable, and its second
agrees with the 1PPS edge. -/
def LighthouseSt.ptpGood (l : LighthouseSt) : Bool :=
  l.ptpSlave && l.ptpTimeTraceable && l.ptpFreqTraceable && l.ptpAgree

/-- Whether the reference is valid is judged anew (R17, R18, R61): a `LOCKED` master lighthouse is `TRACEABLE` with a valid one; one
that was `TRACEABLE` freezes its rate and enters `TRACE_HOLDOVER` without. -/
def State.judgeRef (s : State) : State :=
  let good := s.lighthouse && s.hub.lh.refInputs && s.hub.lh.ptpGood
  let s := { s with hub.lh.refValid := good }
  if !s.master then s
  else if good then
    if s.phi.time.state == .locked then s.updTime .phi fun t => { t with trace := .traceable } else s
  else if s.phi.time.trace == .traceable then
    { s with hub.lh.traceLostNs := s.ns .phi, hub.lh.ppsHeld := [] }.updTime .phi fun t =>
      { t with trace := .holdover, slewAdj := 0, slewLeft := 0 }
  else s

/-- A lighthouse obtains HT from the other one over the sister link (R15, R19), with its epoch and TAI-UTC offset, which it stores. A
master's exchanges on the sister port end with it. -/
def State.obtainSister (s : State) (f : InfoPl) : State :=
  let s := s.obtain (s.port .phi s.sister).theta (traceOf f.trace)
  let s := (s.takeEpoch ⟨f.epochS, f.epochNs⟩).updTime .phi fun t => { t with taiUtcS := f.taiUtc }
  if s.master then
    (s.updPort .phi s.sister fun q => { q with valid := false, consec := 0, held := [], formed := false, exch := none }).judgeRef
  else s

/-- LIGHTHOUSE_OBTAIN_HT (R19): the first available of the other lighthouse, a traceable reference with a stored epoch, and
the saved HT plus 1 s with a stored epoch. With none, the lighthouse stays `FREE`; it waits for the `TIME_INFO` of the other lighthouse,
whose epoch it takes along (R15). -/
def execLighthouseObtainHt (s : State) : Result :=
  if !(s.lighthouse && s.phi.time.state == .free) then nothing s
  else
    let q := s.port .phi s.sister
    if q.lstate == .up && q.valid && q.formed && q.lastPstate == 2 then
      match q.infoRx with
      | some f => .next (s.obtainSister f)
      | none => nothing s
    else
      match s.hub.storage.epoch with
      | none => nothing s
      | some e =>
        if s.hub.lh.refValid && s.hub.lh.ppsKnown then
          let s := s.useEpoch e
          .next (s.obtain (s.hub.lh.ppsOffset * 2 ^ 32) .traceable)
        else
          match s.hub.storage.savedHt with
          | none => nothing s
          | some h => .next ((s.useEpoch e).obtain (s.savedLead h) .untraceable)

/-- TRACE_WINDOW_EXPIRY (R18). -/
def execTraceWindowExpiry (s : State) : Result :=
  let t := s.phi.time
  whenever (s.lighthouse && t.trace == .holdover && elapsed t.ns s.hub.lh.traceLostNs (sec s.traceWindowS)) s
    (s.updTime .phi fun t => { t with trace := .untraceable })

/-- REFERENCE_LOST (R17, R18, R450): the 10 MHz or 1PPS input is gone; a traceable master lighthouse freezes its rate and enters
`TRACE_HOLDOVER`. A 1PPS edge of the cycle is not used. -/
def execReferenceLost (s : State) : Result :=
  whenever s.lighthouse s
    ({ s with hub.lh.refInputs := false, hub.lh.ppsHeld := [], hub.lh.edge := none, hub.lh.lostCyc := some s.cyc }.judgeRef)

/-- REFERENCE_VALID (R18, R61): the inputs are present; where the conditions of R61 hold, a `LOCKED` master lighthouse returns
to `TRACEABLE` and steers by rate and slew alone. -/
def execReferenceValid (s : State) : Result :=
  whenever s.lighthouse s ({ s with hub.lh.refInputs := true }.judgeRef)

/-- A lighthouse's offset from its external reference is formed and shown (R36, R52, R61); a `LOCKED` master with a valid reference
steers by it, with the slew limited to 10 ppm and no step (R18). -/
def State.ppsDiscipline (s : State) (h : Held) : State :=
  let s := { s with hub.lh.ppsHeld := (h :: s.hub.lh.ppsHeld).take 16 }
  let t := s.phi.time
  let l := s.hub.lh.ppsHeld.map (fun (x : Held) => x.referred t)
  if l.length < 16 then s
  else
    let s := s.showOffset .phi (meanOf l) (var256Of l)
    if !(s.master && s.hub.lh.refValid && t.state == .locked) then s
    else
      let s := s.updTime .phi fun t => t.adjustRate (rateChange 4 (s.hub.lh.ppsHeld.map (fun x => (x.t4, x.referred t))))
      s.slew .phi (meanOf l)

/-- PPS_EDGE (R61, R74 to R76): the edge is stamped by an armed, idle vernier core of the reserved `U` port's channel, and its stamp used at the
end of the cycle (R450). A busy or calibrating core does not convert it, and a failed conversion gives no stamp. -/
def execPpsEdge (chan core c n : Nat) (s : State) : Result :=
  if !(s.lighthouse && isVernier .phi chan && s.fastRuns .phi && s.armedIdle .phi chan core) then nothing s
  else
    let k := (s.chan .phi chan).core core
    let stamp := stampOf (s.capture .phi) (tauVernier k.lsb k.ofs c n) - Config.chanConst true chan false false
    let s := s.coreTakes .phi chan core
    if !vernierGood c n || k.state == 0 then .next s
    else .next { s with hub.lh.edge := some stamp }

/-- The 1PPS edge of a cycle is labelled with its TAI second by the PTP second, and its offset from TAI computed (R61), unless the reference
failed in that cycle (R450). -/
def State.endEdge (s : State) : State :=
  match s.hub.lh.edge with
  | none => s
  | some stamp =>
    let s := { s with hub.lh.edge := none }
    if s.hub.lh.lostCyc = some s.cyc then s
    else
      let l := s.hub.lh
      -- the PTP time of the edge, in 2^-16 ns, and the whole second nearest to it
      let second : Int := 1000000000 * 65536
      let ptp : Int := (l.ptpSecond.toNat : Int) * second + (stamp - (l.ptpStamp.toNat : Int))
      let label := (2 * ptp + second) / (2 * second)
      let agree := (ptp - label * second).natAbs ≤ 100 * 65536
      let off := stamp - htOfTaiSecond s.phi.time.epoch label.toNat
      let s := { s with hub.lh.ppsOffset := off, hub.lh.ppsKnown := true, hub.lh.ppsNew := true, hub.lh.ptpAgree := agree }.judgeRef
      let t := s.phi.time
      s.ppsDiscipline { theta := off, delay := 0, t4 := stamp, acc := t.acc, cycles := t.cycles, rate := t.rateAdj }

/-- PPS_OFFSET_SEND (R63): the follower lighthouse sends its 1PPS offset, in ps, upstream in `TIME_INFO`, once for each edge that it has
measured, which comes each second. -/
def execPpsOffsetSend (s : State) : Result :=
  whenever (s.lighthouse && !s.master && s.hub.lh.ppsNew) s
    ({ s with hub.lh.ppsNew := false }.queueFrame .phi s.sister 0 0
      (.timeInfo (s.infoOf (sInt 32 (satInt (2 ^ 31 - 1) ((s.hub.lh.ppsOffset * 1000).tdiv 65536))))))

/-- The delay asymmetry of a management port for a mean path delay, in 2^-16 ns (R65): `constantAsymmetry`, and the part that
`scaledDelayCoefficient` makes of the delay (IEEE 1588-2019; PRESUMED, log entry 64). -/
def ptpAsymmetry (port : Nat) (mean : Int) : Int :=
  let a := Config.scaledDelayCoefficient port
  Config.constantAsymmetry port + (if a + 2 ^ 63 = 0 then 0 else (mean * a).tdiv (a + 2 ^ 63))

/-- The TAI mapping from a Sync message received at a stamp and sent at a PTP time (R65): the HT stamp of that whole second. -/
def State.ptpMap (s : State) (port : Nat) (stamp : Int) (seconds : W64) (ns : Nat) (corr : Int) : State :=
  let l := s.hub.lh
  let sent : Int := (ns * 65536 : Nat) + corr
  { s with hub.lh.ptpSecond := seconds,
           hub.lh.ptpStamp := BitVec.ofInt 80 (stamp - sent - l.ptpDelay - ptpAsymmetry port l.ptpDelay),
           hub.lh.ptpDown := some (stamp - sent - (seconds.toNat : Int) * (1000000000 * 65536)) }

/-- What a message brings to the ordinary clock (R65): the port's state and the time properties of an Announce, the mapping of a Sync
with its Follow_Up, and the mean path delay of a Delay Request-Response exchange. The master takes the UTC offset and the leap flags. -/
def State.ptpTake (s : State) (port : Nat) (stamp : Int) (b : PtpBody) : State :=
  match b with
  | .announce slave tt ft utc l61 l59 =>
    let s := { s with hub.lh.ptpSlave := slave, hub.lh.ptpTimeTraceable := tt, hub.lh.ptpFreqTraceable := ft }.judgeRef
    if s.master then s.updTime .phi fun t => { t with taiUtcS := utc, leap61 := l61, leap59 := l59 } else s
  | .sync two seq sec ns corr =>
    if two then { s with hub.lh.ptpSync := some (seq, stamp - corr) } else s.ptpMap port stamp sec ns corr
  | .followUp seq sec ns corr =>
    match s.hub.lh.ptpSync with
    | some (q, st) =>
      if q = seq then { s with hub.lh.ptpSync := none }.ptpMap port st sec ns corr else s
    | none => s
  | .delayReq seq => { s with hub.lh.ptpReq := some (seq, stamp) }.emit (.ptp port (.delayReq seq))
  | .delayResp seq sec ns corr =>
    match s.hub.lh.ptpReq, s.hub.lh.ptpDown with
    | some (q, st), some down =>
      if q = seq then
        let rcvd : Int := (sec.toNat : Int) * (1000000000 * 65536) + (ns * 65536 : Nat) - corr
        { s with hub.lh.ptpReq := none, hub.lh.ptpDelay := (down + (rcvd - st)).tdiv 2 }
      else s
    | _, _ => s
  | .l1Sync tx rx => { s with hub.lh.ptpL1Tx := tx, hub.lh.ptpL1Rx := rx }.emit (.ptp port (.l1Sync true true))

/-- A message is an event message, which is stamped at the ball (R65, R72). -/
def ptpEvent : PtpBody → Bool
  | .sync .. | .delayReq _ => true
  | _ => false

/-- PTP_MESSAGE (R65, R72, R73, R89): an event message is stamped by `AUX0` or `AUX1`, or by `AUX4` in its place, and what the message
brings is taken. Only the port in use is heard, in the configured domain and transport and by multicast; with the stamping channel gone
an event message is lost. -/
def execPtpMessage (port coarse bin : Nat) (m : PtpMsg) (s : State) : Result :=
  if !(s.lighthouse && port == s.hub.lh.ptpPort && port < 2 && m.domain == s.ptpDomain && m.udp == s.ptpUdp && m.multicast) then
    nothing s
  else if !ptpEvent m.body then .next (s.ptpTake port 0 m.body)
  else
    match s.tdcFor .phi (576 + port) with
    | none => nothing s
    | some ch =>
      let t := (s.chan .phi ch).table 1
      let raw := stampOf (s.capture .phi) (tauMulti t.centre coarse bin)
      let transmit : Bool := match m.body with
        | .delayReq _ => true
        | _ => false
      let k := Config.chanConst true ch transmit false
      whenever (s.fastRuns .phi) s (s.ptpTake port (if transmit then raw + k else raw - k) m.body)

/-- LEAP_SECOND (R16): at the end of the announced UTC day the offset changes by one second; HT does not. A day with a positive leap
second ends one second after the old offset shows the next midnight, one with a negative one second before it. -/
def execLeapSecond (s : State) : Result :=
  let t := s.phi.time
  let utc : Int := (taiOf t.epoch t.ht / (65536 * 1000000000) : Nat) - t.taiUtcS.toInt
  let sod := utc % 86400
  if !s.master then nothing s
  else if t.leap61 && sod == 1 then
    .next (s.updTime .phi fun t => { t with taiUtcS := t.taiUtcS + 1, leap61 := false })
  else if t.leap59 && sod == 86399 then
    .next (s.updTime .phi fun t => { t with taiUtcS := t.taiUtcS - 1, leap59 := false })
  else nothing s

/-- HT_EPOCH with `CLEAR` = 0 (R15, R19, R295). -/
def execHtEpoch (ring idx : Nat) (s : State) : Result :=
  s.runDesc .phi ring idx 0x03 (fun d => !d.plBit 12 0) fun d s =>
    let e : Epoch := ⟨BitVec.ofNat 64 (d.pl 0 8), BitVec.ofNat 32 (d.pl 8 4)⟩
    if e.ns.toNat > 999999999 then s.finish .phi ring idx .badDesc 0 0
    else if !s.master then s.finish .phi ring idx .unsupported 0 0
    else if s.phi.time.state != .free then s.finish .phi ring idx .conflict 0 0
    else
      let s := { s.takeEpoch e with hub.storage.savedHt := none }
      let s := if s.hub.lh.refValid && s.hub.lh.ppsKnown then s.obtain (s.hub.lh.ppsOffset * 2 ^ 32) .traceable
        else (s.enter .phi .locked).updTime .phi fun t => { t with trace := .untraceable }
      s.finish .phi ring idx .ok 0 0

/-- HT_EPOCH with `CLEAR` = 1 (R15, R295): module storage is erased; the epoch and HT in force do not change. -/
def execHtEpochClear (ring idx : Nat) (s : State) : Result :=
  s.runDesc .phi ring idx 0x03 (fun d => d.plBit 12 0) fun _ s =>
    if !s.lighthouse then s.finish .phi ring idx .unsupported 0 0
    else ({ s with hub.storage.epoch := none, hub.storage.savedHt := none }).finish .phi ring idx .ok 0 0

/-- An HT value is not below another (R13). -/
def htNotBelow (a b : Ht80) : Bool :=
  let d := nsDiff (a.extractLsb' 16 64) (b.extractLsb' 16 64)
  decide (d > 0) || (d == 0 && b.extractLsb' 0 16 ≤ a.extractLsb' 0 16)

/-- The value of `HT_LOAD` is applied (R28): in `FREE`, when it is not below HT; otherwise `HT_LOAD_REJ` is set. -/
def State.htLoad (s : State) (word : W32) : State :=
  let t := s.tsu.time
  let v : Ht80 := ((word.setWidth 80) <<< 64) ||| t.htLoadLow.setWidth 80
  if t.state == .free && htNotBelow v t.ht then s.updTime .tsu fun t => { t with acc := accOfHt v }
  else (s.updTime .tsu fun t => { t with htLoadRej := true }).noteSet .tsu .htLoadRej

/-- HT_LOAD (R28): the write of the highest word applies the words held. -/
def execHtLoad (word : W32) (s : State) : Result := .next (if s.writeLost 0x0348 then s else s.htLoad word)

/-- A latch of the time status block under R37. -/
def State.htSnap (s : State) (p : Part) : State :=
  s.updTime p fun t => { t with snap := s.timeBlock p, snapValid := true, snapCyc := some s.cyc }

/-- HT_SNAP_GO (R37): a write of `GO`: `VALID` is cleared, a time status block is latched, and `VALID` is set. -/
def execHtSnapGo (p : Part) (s : State) : Result :=
  s.viaWindow p (match p with | .tsu => 0x0300 | .phi => 0x1100) (leBytes 4 1) fun s => s.htSnap p

/-- HT_SAVE_TIMER (R416): once per second a `LOCKED` lighthouse writes its HT to module storage. -/
def execHtSaveTimer (s : State) : Result :=
  whenever (s.lighthouse && s.phi.time.state == .locked
      && (s.hub.storage.savedHt.isNone || elapsed (s.ns .phi) s.hub.storage.savedNs (sec 1))) s
    { s with hub.storage.savedHt := some (s.ht .phi), hub.storage.savedNs := s.ns .phi }

/-- MANAGEMENT_PORT_FAULT (R65): port 1 takes over when port 0 is faulty; no port becomes master. -/
def execManagementPortFault (s : State) : Result :=
  whenever (s.lighthouse && s.hub.lh.ptpPort == 0) s
    (let l := s.hub.lh
     { s with hub.lh := { l with ptpFault0 := true, ptpPort := 1, ptpSlave := false, ptpSync := none, ptpReq := none,
                                 ptpDown := none } }.judgeRef)

/-- An output edge is stamped in loopback by its channel, or by `AUX4` in its place (R72, R89). -/
def State.loopback (s : State) (ch : Nat) : State :=
  match s.tdcFor .phi ch with
  | some c => (s.startConv .phi c 1 0 .output false).2
  | none => s

/-- An output edge that falls at each multiple of a period of TAI lies in this always-on cycle: a `LOCKED` or `HOLDOVER` Phidor drives it
(R442). Answers how far the cycle's start is past it, in 2^-16 ns. -/
def State.outputEdge (s : State) (period : Nat) : Option Nat :=
  let t := s.phi.time
  let above := taiOf t.epoch t.ht % (period * 65536)
  if (t.state == .locked || t.state == .holdover) && (above : Int) * 2 ^ 32 < t.inc then some above else none

/-- The edges of the 10 MHz output, 100 ns apart and aligned to the 1PPS output, are stamped in loopback by `AUX3` (R72, log entry 86). An
earlier edge's conversion has ended by then. -/
def State.tenMhzEdge (s : State) : State :=
  match s.outputEdge 100, s.tdcFor .phi 579 with
  | some _, some c =>
    (s.updChan .phi c fun x => { x with convs := x.convs.filter (fun v => !(v.use == .output && v.cyc + 2 ≤ s.cyc)) }).loopback 579
  | _, _ => s

/-- PPS_OUT_EDGE (R72, R442): in the always-on cycle that holds an instant at which TAI is a whole second, a `LOCKED` or
`HOLDOVER` Phidor drives the output edge, which `AUX2` stamps in loopback. -/
def execPpsOutEdge (s : State) : Result :=
  match s.outputEdge 1000000000 with
  | some above => .next ((s.emit (.ppsOut (s.ns .phi - BitVec.ofNat 64 (above / 65536)))).loopback 578)
  | none => nothing s

end Sys2Proof.Machine
end

