-- ==== Sys2Proof/Machine/Beacons.lean ====
section
/-!
DEFINITION. The beacon exchange, its discipline, asymmetry calibration, and `TIME_INFO` (R49 to R64).
-/

namespace Sys2Proof.Machine

/-- 2^-16 ns as fs, rounded to nearest (R51). -/
def countFs (x : Int) : Int := toFs (x * 2 ^ 32)

/-- The phase of a child port's exchanges in its period (R50). -/
def beaconPhase (p : Part) (port e : Nat) : Nat :=
  match p with
  | .tsu => if port = 1 then 2 ^ (e - 1) else 0
  | .phi => 0

/-- A port exchanges beacons: `UP`, or in `CAL` (R40, R55). -/
def Port.exchanges (q : Port) : Bool :=
  !q.waitLock && (q.lstate == .up || q.lstate == .cal)

/-- The payload of a `BEACON_REQ` (R46). -/
def Port.reqOf (q : Port) (xid : W16) : ReqPl :=
  { xid := xid, swap := q.swapped, lastTheta := sInt 32 (satInt (2 ^ 31 - 1) (countFs q.lastTheta)),
    lastDelay := BitVec.ofNat 32 (satNat 32 (countFs q.lastDelay).toNat),
    asym := sInt 32 (satInt (2 ^ 31 - 1) (countFs q.asym)) }

/-- The fast logic was ready 200 ns before an instant t1 (R96). -/
def State.readyBefore (s : State) (p : Part) (t1 : W64) : Bool :=
  s.fastRuns p && (match p with
    | .tsu => elapsed t1 s.tsu.clk.runSinceNs 200
    | .phi => true)

/-- BEACON_REQ_SEND (R50, R71, R96): at the scheduled HT the child sends `BEACON_REQ` and its transmit marker is converted
to t1; with the fast logic not ready 200 ns before t1 it sends nothing; a marker that reaches a busy core fails the exchange (R75). -/
def execBeaconReqSend (p : Part) (port core : Nat) (s : State) : Result :=
  let q := s.port p port
  let e := s.portExp p port
  let above := (s.ns p - BitVec.ofNat 64 (beaconPhase p port e)).toNat % 2 ^ e
  let due := above < 16 && (q.xid == 0 || elapsed (s.ns p) q.lastReqNs (2 ^ (e - 1)))
  if !(s.exchPort p port && q.exchanges && q.exch.isNone && due) then nothing s
  else if !s.readyBefore p (s.ns p - BitVec.ofNat 64 above) then .next (s.updPort p port fun q => { q with lastReqNs := s.ns p })
  else
    let xid := q.xid + 1
    let s := s.sendNow p port (.beaconReq (q.reqOf xid))
    let s := s.updPort p port fun q => { q with xid := xid, lastReqNs := s.ns p }
    let (ok, s) := s.startConv p (s.portChan p port) 1 core (.t1 port) (s.pairY p port true)
    .next (if ok then s.updPort p port fun q =>
      { q with exch := some { xid := xid, swap := q.swapped, startNs := s.ns p, t1 := none, t2 := none, t3 := none,
                              t4 := none, t4Acc := 0, t4Cycles := 0, t4Rate := 0, fu := none, rxError := false } }
      else s)

/-- BEACON_REQ_RECEIVE (R48, R50, R71): the parent's receive marker is converted to t2; that of a frame that belongs to no exchange, in
`IDENT` too, is converted all the same. -/
def execBeaconReqReceive (p : Part) (port core : Nat) (e : Env) (f : ReqPl) (s : State) : Result :=
  if !(s.port p port).receives then nothing s
  else
    let s := (s.rxCount p port e).beaconIntact p port
    if !((s.port p port).exchanges && s.parentPort p port) then .next (s.strayMarker p port core)
    else
      let (ok, s) := s.startConv p (s.portChan p port) 2 core (.t2 port) (s.pairY p port false)
      .next (s.updPort p port fun q =>
        { q with answer := some { xid := f.xid, swap := f.swap, recvNs := s.ns p, sentNs := none, t2 := none, t3 := none,
                                  failed := !ok } })

/-- BEACON_RESP_SEND (R50, R71): between 1 us and 2 us after t2 the parent sends `BEACON_RESP` and converts its transmit
marker to t3. -/
def execBeaconRespSend (p : Part) (port core : Nat) (s : State) : Result :=
  let q := s.port p port
  match q.answer with
  | none => nothing s
  | some a =>
    if a.sentNs.isSome || !q.exchanges || !elapsed (s.ns p) a.recvNs (us 1) || elapsed (s.ns p) a.recvNs (us 2 + 1) then
      nothing s
    else
      let s := s.sendNow p port (.beaconResp { xid := a.xid, swap := a.swap })
      let (ok, s) := s.startConv p (s.portChan p port) 1 core (.t3 port) (s.pairY p port true)
      .next (s.updPort p port fun q =>
        { q with answer := q.answer.map (fun a => { a with sentNs := some (s.ns p), failed := a.failed || !ok }) })

/-- BEACON_RESP_RECEIVE (R50, R71): the child's receive marker is converted to t4; a busy core makes it abandon the
exchange (R75). -/
def execBeaconRespReceive (p : Part) (port core : Nat) (e : Env) (f : RespPl) (s : State) : Result :=
  let q := s.port p port
  if !q.receives then nothing s
  else
    let s := s.rxCount p port e
    if s.measureShut p then .next (s.bwRefused p)
    else
    match q.exch with
    | none => .next (s.strayMarker p port core)
    | some x =>
      if !q.exchanges ∨ x.xid ≠ f.xid ∨ x.swap ≠ f.swap then .next (s.strayMarker p port core)
      else
        let (ok, s) := s.startConv p (s.portChan p port) 2 core (.t4 port) (s.pairY p port false)
        let t := (s.part p).time
        .next (s.updPort p port fun q =>
          { q with exch := if ok then some { x with t4Acc := t.acc, t4Cycles := t.cycles, t4Rate := t.rateAdj } else none })

/-- BEACON_FU_SEND (R50, R75): once its stamps are converted, and no later than 8 us after t3, the parent sends `BEACON_FU`
with `VALID` = 1 when both converted with accepted tables. -/
def execBeaconFuSend (p : Part) (port : Nat) (s : State) : Result :=
  let q := s.port p port
  match q.answer with
  | none => nothing s
  | some a =>
    match a.sentNs with
    | none => nothing s
    | some t =>
      let ready := a.failed || (a.t2.isSome && a.t3.isSome)
      if !ready || elapsed (s.ns p) t (us 8 + 1) || !q.exchanges then nothing s
      else
        let valid := !a.failed
        let s := s.sendNow p port (.beaconFu
          { xid := a.xid, swap := a.swap, valid := valid, pstate := BitVec.ofNat 3 (s.part p).time.state.code,
            t2 := a.t2.getD 0, t3 := a.t3.getD 0, ptier := BitVec.ofNat 8 (match p with | .tsu => 0 | .phi => s.tier) })
        let s := if valid && isPhi p then s.count .phi 0x1101 port 1 else s
        .next (s.updPort p port fun q => { q with answer := none })

/-- The follower lighthouse acts on a correction of the sister link while `LOCKED` (R17, R18, R62): the frequency correction of R52
with gain 1/4, and a slew. -/
def State.followMaster (s : State) (port : Nat) : State :=
  let q := s.port .phi port
  let t := s.phi.time
  if s.master || t.state != .locked then s
  else
    let pts := q.held.take 16 |>.map (fun x => (x.t4, x.referred t))
    (s.updTime .phi fun t => t.adjustRate (rateChange 4 pts)).slew .phi q.theta

/-- The jitter metric of a port (R88): the RMS over 1,024 values of θ minus the correction in force at its acceptance. -/
def State.jitterHealth (s : State) (p : Part) (ch : Nat) (jit : List Int) : State :=
  if jit.length < 1024 then s
  else
    let rms := isqrt ((sumInt (jit.map (fun x => x * x))).tdiv 1024).toNat
    s.evalMetric p ch 0 (rms * 1000000000 / 2 ^ 48) (match p with | .tsu => 16000000 | .phi => 8000000) .beaconJitter

/-- The state that follows when a port has accepted one more exchange (R25, R53): on an `UP` port four in a row from a parent in
`LOCKED` or `HOLDOVER` make the beacons valid, and a part in `FREE` with valid beacons enters `ACQUIRING`. -/
def State.countValid (s : State) (p : Part) (port : Nat) : State :=
  let q := s.port p port
  if !q.valid && q.lstate == .up && q.consec ≥ 4 then s.beaconsValid p port
  else if q.valid && (s.part p).time.state == .free then s.onValid p port
  else s

/-- The state that follows when a port has given one more θ (R25, R27, R53): in `ACQUIRING` those of the selected plane after the entry
are counted. -/
def State.countAccept (s : State) (p : Part) (port : Nat) : State :=
  let q := s.port p port
  if (!q.valid && q.lstate == .up && q.consec ≥ 4) || (q.valid && (s.part p).time.state == .free) then s.countValid p port
  else if (s.part p).time.state == .acquiring && port == s.selPort p then
    s.updTime p fun t => { t with acqCount := t.acqCount + 1 }
  else s

/-- The port keeps the instant since which its beacons have been valid with a deviation estimate of 3 ps RMS or less (R25). -/
def State.noteGood (s : State) (p : Part) (port : Nat) : State :=
  s.updPort p port fun q =>
    { q with goodSince := sinceWhen (s.ns p) q.goodSince (q.valid && q.formed && sigmaWithinPs q.var256 3) }

/-- An exchange as item 2 of R52 has judged it: one rejected ends the row of R53; one accepted is counted, and goes on in the row if the
parent is in `LOCKED` or `HOLDOVER`. -/
def State.judgeExchange (s : State) (p : Part) (port : Nat) (off : Bool) : State :=
  if off then s.updPort p port fun q => { q with consec := 0 }
  else
    let s := s.updPort p port fun q =>
      { q with consec := if q.lastPstate == 2 || q.lastPstate == 3 then q.consec + 1 else 0, lastAcceptNs := s.ns p }
    if p = .tsu then s.count .tsu 0x0101 port 1 else s

/-- The child keeps an accepted θ on a port and acts on it (R52, R53, R58): the correction and deviation are formed, the beacons
counted, and the selected port steers. The exchanges accepted before a first correction exists are left out of the 1,024 of the jitter
metric, of which R88 says nothing (DESIGN CHOICE, log entry 67). -/
def State.acceptTheta (s : State) (p : Part) (port : Nat) (h : Held) : State :=
  let q := s.port p port
  let jit := if q.formed then (h.theta * 2 ^ 32 - q.theta) :: q.jitter else q.jitter
  let s := s.updPort p port fun q =>
    { q with held := (h :: q.held).take 64, jitter := if jit.length ≥ 1024 then [] else jit }
  let ch := s.portChan p port
  let s := s.updChan p ch fun c => { c with meas := c.meas.map fun m =>
    if m.mode = 2 then { m with samples := m.samples ++ [h.theta], stale := m.stale || h.stale,
                                t0Ns := if m.samples.isEmpty then h.startNs else m.t0Ns } else m }
  let s := ((s.formCorrection p port).countAccept p port).noteGood p port
  let q := s.port p port
  let s :=
    if port ≠ s.selPort p ∨ !q.formed ∨ !q.valid then s
    else if s.isLighthouse p then s.followMaster port
    else s.onCorrection p port
  let s := if p = .tsu then s.evalStandby else s
  s.jitterHealth p ch jit

/-- A mean delay that differs by more than 20 ps from the mean of the last 64 (R52). -/
def delayOff (held : List Held) (d : Int) : Bool :=
  held.length ≥ 64 && (64 * d - sumInt ((held.take 64).map (·.delay))).natAbs * 1000 > 20 * 65536 * 64

/-- One exchange of a quad taken into a calibration (R55): in the order normal, swapped, swapped, normal. A full quad gives
A_q, and one θ in which A cancels for the discipline loop, which item 2 of R52 rejects when it rejects an exchange of the quad (DEDUCED,
log entry 68). Each exchange of a quad is judged for R53 by its own delay. -/
def State.quadExchange (s : State) (p : Part) (port : Nat) (cal : Calib) (x : Exchange) (xv d t4 : Int) : State :=
  let want := cal.cur.length == 1 || cal.cur.length == 2
  if x.swap ≠ want ∨ cal.quads ≥ 1024 then s
  else
    let rej := delayOff (s.port p port).held d
    let off := cal.off || rej
    let s := s.judgeExchange p port rej
    match cal.cur with
    | [n1, s1, s2] =>
      let aq := ((s1 + s2) - (n1 + xv)).tdiv 4
      let th := (n1 + s1 + s2 + xv).tdiv 8
      let s := s.updPort p port fun q =>
        { q with calib := some { cal with quads := cal.quads + 1, cur := [], sumA := cal.sumA + aq,
                                          sumSq := cal.sumSq + aq * aq, off := false, stale := false } }
      if off then s.countValid p port
      else s.acceptTheta p port
        { theta := th, delay := d, t4 := t4, acc := x.t4Acc, cycles := x.t4Cycles, rate := x.t4Rate, startNs := x.startNs,
          stale := cal.stale || x.stale }
    | cur => (s.updPort p port fun q =>
      { q with calib := some { cal with cur := cur ++ [xv], off := off, stale := cal.stale || x.stale } }).countValid p port

/-- The child computes θ and d of an exchange whose four stamps it has (R51), and applies the discipline of R52. -/
def State.completeExchange (s : State) (p : Part) (port : Nat) (x : Exchange) (f : FuPl) (t1 t4 : Ht80) : State :=
  let q := s.port p port
  let s := (s.updPort p port fun q => { q with exch := none }).beaconIntact p port
  let a1 : Int := t1.toNat
  let a2 : Int := f.t2.toNat
  let a3 : Int := f.t3.toNat
  let a4 : Int := t4.toNat
  let xv := (a4 - a3) - (a2 - a1)
  let d := ((a2 - a1) + (a4 - a3)).tdiv 2
  let th := if x.swap then (xv - q.asym).tdiv 2 else (xv + q.asym).tdiv 2
  if !f.valid then s.updPort p port fun q => { q with consec := 0 }
  else
    let s := s.updPort p port fun q => { q with lastTheta := th, lastDelay := d }
    match (s.port p port).calib with
    | some cal => s.quadExchange p port cal x xv d a4
    | none =>
      if q.lstate != .up then s
      else if delayOff q.held d then s.judgeExchange p port true
      else (s.judgeExchange p port false).acceptTheta p port
        { theta := th, delay := d, t4 := a4, acc := x.t4Acc, cycles := x.t4Cycles, rate := x.t4Rate, startNs := x.startNs,
          stale := x.stale }

/-- Completes the exchange in progress when its stamps and its `BEACON_FU` are all there. -/
def State.tryExchange (s : State) (p : Part) (port : Nat) : State :=
  match (s.port p port).exch with
  | some x =>
    match x.t1, x.t4, x.fu with
    | some t1, some t4, some f => s.completeExchange p port x f t1 t4
    | _, _, _ => s
  | none => s

/-- The parent's time state as its latest `BEACON_FU` reports it: one that is neither `LOCKED` nor `HOLDOVER` loses the beacons (R53). -/
def State.takePstate (s : State) (p : Part) (port : Nat) (st : BitVec 3) : State :=
  let s := s.updPort p port fun q => { q with lastPstate := st }
  if !(st == 2 || st == 3) && (s.port p port).valid then s.beaconsLost p port else s

/-- BEACON_FU_RECEIVE (R50 to R53): the parent's state, θ and d, the discipline, and the transitions that follow. The state counts also
where the exchange of the frame is gone. -/
def execBeaconFuReceive (p : Part) (port : Nat) (e : Env) (f : FuPl) (s : State) : Result :=
  let q := s.port p port
  if !(q.exchanges && s.exchPort p port) then nothing s
  else
    let s := s.rxCount p port e
    if s.measureShut p then .next (s.bwRefused p)
    else
    let s := s.takePstate p port f.pstate
    match q.exch with
    | none => .next s
    | some x =>
      if x.xid ≠ f.xid ∨ x.swap ≠ f.swap then .next s
      else .next ((s.updPort p port fun q => { q with exch := some { x with fu := some f } }).tryExchange p port)

/-- BEACON_EXCHANGE_ABANDON (R48, R50): no `BEACON_FU` by t1 + 16 us; an exchange that fails after one whose frame failed is
a lasting fault of the channel. -/
def execBeaconExchangeAbandon (p : Part) (port : Nat) (s : State) : Result :=
  let q := s.port p port
  match q.exch with
  | none => nothing s
  | some x =>
    if !elapsed (s.ns p) x.startNs (us 16) then nothing s
    else
      let s := s.updPort p port fun q => { q with exch := none, consec := 0 }
      if q.beaconFail && !x.rxError then .next (s.channelFault p port .laneFault) else .next s

/-- Begins a calibration of a child port (R55): `CAL_START` is sent and the beacon period becomes 2^14 ns. -/
def State.startCalib (s : State) (p : Part) (port attempt : Nat) : State :=
  let s := s.sendNow p port (.linkCtrl { code := 0x03, arg := 0 })
  let up := (s.port p port).lstate == .up
  let s := s.updPort p port fun q =>
    { q with calRun := true, exch := none,
             calib := some { quads := 0, cur := [], sumA := 0, sumSq := 0, attempt := attempt, recal := up } }
  if p = .tsu then s.evalStandby else s

/-- A TSU calibrates one port at a time (R57, R413). -/
def State.calibFree (s : State) (p : Part) (port : Nat) : Bool :=
  match p with
  | .tsu => (s.port .tsu (otherPort port)).calib.isNone
  | .phi => true

/-- LINK_CTRL_CAL_START (R55): the child begins the calibration of a port in `CAL`, or the parent receives the frame and
follows. -/
def execLinkCtrlCalStart (p : Part) (port : Nat) (rx : Option Env) (s : State) : Result :=
  let q := s.port p port
  match rx with
  | some e => s.onPlain p port e fun s =>
      if s.childPort p port then s else s.updPort p port fun q => { q with calRun := true }
  | none =>
    whenever (s.childPort p port && q.lstate == .cal && q.calib.isNone && s.calibFree p port) s (s.startCalib p port 1)

/-- LINK_CTRL_TURN (R55): the child sends `TURN` and both ends reverse both pairs, each then waiting for block lock. -/
def execLinkCtrlTurn (p : Part) (port : Nat) (rx : Option Env) (swapped : Bool) (s : State) : Result :=
  let q := s.port p port
  match rx with
  | some e => s.onPlain p port e fun s =>
      if s.childPort p port || q.swapped == swapped then s
      else s.updPort p port fun q => { q with swapped := swapped, waitLock := true }
  | none =>
    whenever (s.childPort p port && q.calib.isSome && !q.waitLock && q.exch.isNone && q.swapped != swapped) s
      ((s.sendNow p port (.linkCtrl { code := 0x05, arg := if swapped then 1 else 0 })).updPort p port fun q =>
        { q with swapped := swapped, waitLock := true })

/-- LINK_CTRL_CAL_END (R55, R60): the child sends `CAL_END` once its calibration has ended, and both ends return to normal
direction; a parent in `CAL` is then `UP`. -/
def execLinkCtrlCalEnd (p : Part) (port : Nat) (rx : Option Env) (s : State) : Result :=
  let q := s.port p port
  match rx with
  | some e => s.onPlain p port e fun s =>
      if s.childPort p port then s
      else
        let s := s.updPort p port fun q => { q with waitLock := q.swapped, swapped := false, calRun := false }
        if q.lstate == .cal then s.portUp p port else s
  | none =>
    whenever (s.childPort p port && q.exchanges && q.calib.isNone && q.calRun) s (s.sendCalEnd p port)

/-- ASYM_CAL_COMPLETE (R55, R56): after 1,024 quads A is their mean; a spread of 8 ps RMS or less with |A| of 1 ns or less
is accepted, a first rejection is repeated, a second is the lasting fault `CAL_FAILED`. -/
def execAsymCalComplete (p : Part) (port : Nat) (s : State) : Result :=
  let q := s.port p port
  match q.calib with
  | none => nothing s
  | some cal =>
    if cal.quads < 1024 then nothing s
    else
      let a := cal.sumA.tdiv 1024
      let spread := (1024 * cal.sumSq - cal.sumA * cal.sumA) * 1000000
      let ok := spread ≤ (8 * 65536 * 1024) * (8 * 65536 * 1024) && a.natAbs ≤ 65536
      let ch := s.portChan p port
      if ok then
        let s := if cal.attempt > 1 then s.transient p 0 ch else s
        let s := s.updPort p port fun q =>
          { q with asym := a, asymBy := tabSet q.asymBy ch a, asymNs := s.ns p, calib := none, recalRing := none }
        let s := match tabGet? q.asymBy ch with
          | none => s
          | some old =>
            let diff := a - old
            let s := if diff.natAbs * 1000 > 20 * 65536 then
                s.record p .asymJump (port + 65536 * (sInt 16 ((diff * 1000).tdiv 65536)).toNat)
              else s
            s.evalMetric p ch 1 (diff.natAbs * 1000000000 / 65536) 20000000 .tdcDrift
        let s := if (s.port p port).lstate == .cal then s.portUp p port else s
        let s := s.finishOpt p q.recalRing .ok 0 0
        .next (if p = .tsu then s.evalStandby else s)
      else if cal.attempt < 2 then .next (s.startCalib p port 2)
      else .next (s.channelFault p port .calFailed)

/-- ASYM_RECAL_TIMER (R57): every `ASYM_RECAL_S` seconds a port in service is calibrated again, one at a time and only while
the other port is `UP`. -/
def execAsymRecalTimer (port : Nat) (s : State) : Result :=
  let q := s.port .tsu port
  let o := s.port .tsu (otherPort port)
  whenever (port < 2 && s.asymRecalS != 0 && q.lstate == .up && q.calib.isNone && !q.waitLock
      && elapsed (s.ns .tsu) q.asymNs (sec s.asymRecalS) && o.lstate == .up && o.calib.isNone) s
    (s.startCalib .tsu port 1)

/-- Judges a `LINK_RECAL` and starts the calibration (R295). -/
def State.linkRecal (s : State) (p : Part) (ring idx : Nat) (d : Desc) : State :=
  let port := d.pl 0 2
  let q := s.port p port
  let valid : Bool := match p with
    | .tsu => port < 2
    | .phi => 512 ≤ port && port < 528
  if !valid then s.finish p ring idx .badDesc 0 0
  else if !s.childPort p port then s.finish p ring idx .unsupported 0 0
  else if q.lstate != .up || q.calib.isSome || !s.calibFree p port
      || (p == .tsu && (s.port .tsu (otherPort port)).lstate != .up) then s.finish p ring idx .conflict 0 0
  else (s.startCalib p port 1).updPort p port fun q => { q with recalRing := some (ring, idx) }

/-- LINK_RECAL (R295, R369): the host has a child port calibrated; the command completes when the calibration ends. -/
def execLinkRecal (p : Part) (ring idx : Nat) (s : State) : Result :=
  s.runDesc p ring idx 0x04 anyVariant fun d s =>
    if s.measureShut p then s.holdMeasure ring idx else s.linkRecal p ring idx d

/-- TIME_INFO_SEND (R64): an `UP` port of a Phidor sends `TIME_INFO` downstream at link-up, on a change of its fields, and
otherwise every 2^20 ns. -/
def execTimeInfoSend (port : Nat) (s : State) : Result :=
  let q := s.port .phi port
  let f := s.infoOf 0
  let due := q.infoLast != some f || elapsed (s.ns .phi) q.infoSentNs (2 ^ 20)
  whenever (q.lstate == .up && !s.towards .phi port && due) s
    ((s.queueFrame .phi port 0 0 (.timeInfo f)).updPort .phi port fun q =>
      { q with infoLast := some f, infoSentNs := s.ns .phi })

/-- The master compares the two 1PPS offsets (R63): more than `XCHECK_LIMIT` apart for 10 s without a break is recorded. -/
def State.crossCheck (s : State) : State :=
  let l := s.hub.lh
  if !(l.ppsKnown && l.followerKnown) then s
  else
    let diffPs := (l.ppsOffset * 1000).tdiv 65536 - l.followerPs
    let apart := diffPs.natAbs > s.xcheckLimitNs * 1000
    let since := sinceWhen (s.ns .phi) l.disagreeSince apart
    let hit := apart && heldFor (s.ns .phi) since (sec 10)
    let s := { s with hub.lh.disagreeSince := since, hub.lh.disagreed := hit }
    if hit && !l.disagreed then s.record .phi .lighthouseDisagree (sInt 32 (diffPs.tdiv 1000)).toNat else s

/-- A follower lighthouse takes the master's epoch from `TIME_INFO` (R15): that of a `LOCKED` master, which has one in force, and only
where it differs from its own in force, so that an epoch erased by `HT_EPOCH` is not written back (DEDUCED, log entry 82). -/
def State.masterEpoch (s : State) (f : InfoPl) : State :=
  let e : Epoch := ⟨f.epochS, f.epochNs⟩
  if (s.port .phi s.sister).lastPstate == 2 && s.phi.time.epoch != e then s.takeEpoch e else s

/-- TIME_INFO_RECEIVE (R15, R17, R62 to R64): the trace state, TAI-UTC offset, leap flags and epoch are taken over; a
follower lighthouse stores the epoch; the master takes the follower's 1PPS offset; a master that hears the other lighthouse
name itself master becomes the follower. A `LOCKED` follower whose sister link's beacons are lost keeps its own trace state (R62). -/
def execTimeInfoReceive (p : Part) (port : Nat) (e : Env) (f : InfoPl) (s : State) : Result :=
  s.onReliable p port e fun s =>
    let take (s : State) : State := s.updTime p fun t =>
      { t with trace := traceOf f.trace, leap61 := f.leap61, leap59 := f.leap59, taiUtcS := f.taiUtc,
               epoch := ⟨f.epochS, f.epochNs⟩, masterPlane := f.masterPlane }
    match p with
    | .tsu =>
      let sel := s.tsu.time.planeSel.toNat
      if port = sel ∨ !(s.port .tsu sel).valid then take s else s
    | .phi =>
      let s := s.updPort .phi port fun q => { q with infoRx := some f }
      if s.lighthouse then
        if port ≠ s.sister then s
        else if s.master then
          if f.masterPlane = e.plane ∧ e.plane ≠ s.phiPlane then s.updTime .phi fun t => { t with masterPlane := f.masterPlane }
          else ({ s with hub.lh.followerPs := f.ppsOffset.toInt, hub.lh.followerKnown := true }).crossCheck
        else
          let own := s.phi.time.trace
          let kept := s.phi.time.state == .locked && !(s.port .phi port).valid
          let own' := s.phi.time.epoch
          let s := ((take s).updTime .phi fun t => { t with epoch := own' }).masterEpoch f
          if kept then s.updTime .phi fun t => { t with trace := own } else s
      else if port = s.uplink then take s else s

/-- LIGHTHOUSE_MASTER (R64, R295): the follower becomes master on its own plane, disciplined to its own reference (R61). -/
def execLighthouseMaster (ring idx : Nat) (s : State) : Result :=
  s.runDesc .phi ring idx 0x05 anyVariant fun d s =>
    if !s.lighthouse then s.finish .phi ring idx .unsupported 0 0
    else if s.master then s.finish .phi ring idx .conflict 0 0
    else if bit1 (d.plBit 0 0) ≠ s.phiPlane then s.finish .phi ring idx .badDesc 0 0
    else ((s.updTime .phi fun t => { t with masterPlane := s.phiPlane }).judgeRef).finish .phi ring idx .ok 0 0

end Sys2Proof.Machine
end

