-- ==== Sys2Proof/Machine/Tdc.lean ====
section
/-!
DEFINITION. The commands of the time-to-digital converters: conversions, calibrations, host measurements and the region
watch (R69 to R89).
-/

namespace Sys2Proof.Machine

/-- The calibrating core of a vernier channel has finished: it is armed, and the rotation of this always-on cycle is open until the cycle
ends, since a marker may still reach an armed core in it (R75). -/
def State.rotate (s : State) (p : Part) (ch : Nat) : State :=
  s.updChan p ch fun c => { c with calCore := 3, rotWait := true, rotFrom := c.calCore, rotCyc := some s.cyc }

/-- A stamp has been converted, or its conversion has failed: it goes to the exchange that it belongs to (R50, R75). -/
def State.putStamp (s : State) (p : Part) (use : StampUse) (st : Option Ht80) : State :=
  match use with
  | .t1 port =>
    match st with
    | some v => (s.updPort p port fun q => { q with exch := q.exch.map (fun x => { x with t1 := some v }) }).tryExchange p port
    | none => s.updPort p port fun q => { q with exch := none, consec := 0 }
  | .t4 port =>
    match st with
    | some v => (s.updPort p port fun q => { q with exch := q.exch.map (fun x => { x with t4 := some v }) }).tryExchange p port
    | none => s.updPort p port fun q => { q with exch := none, consec := 0 }
  | .t2 port => s.updPort p port fun q => { q with answer := q.answer.map fun a =>
      match st with
      | some v => { a with t2 := some v }
      | none => { a with failed := true } }
  | .t3 port => s.updPort p port fun q => { q with answer := q.answer.map fun a =>
      match st with
      | some v => { a with t3 := some v }
      | none => { a with failed := true } }
  | .output | .stray => s

/-- A stamp is a transmit stamp (R49). -/
def StampUse.transmit : StampUse → Bool
  | .t1 _ | .t3 _ | .output => true
  | _ => false

/-- The exchange of a conversion's port used a table or constants with `STATE` other than 1 (R83). -/
def State.staleStamp (s : State) (p : Part) (cv : Conv) : State :=
  match cv.use with
  | .t1 port | .t4 port =>
    if cv.tabState = 1 then s
    else s.updPort p port fun q => { q with exch := q.exch.map (fun x => { x with stale := true }) }
  | _ => s

/-- The always-on cycles that a conversion takes (R70, R74): 4,096 ns of a vernier core, 12 ns of a multiphase input. -/
def convCycles (p : Part) (ch : Nat) : Nat := if isVernier p ch then 512 else 2

/-- TDC_CONVERSION_DONE (R49, R70, R73 to R77): the oldest conversion of an input or core ends, after its conversion time. Its local
time comes from the constants in force at its edge E; the channel constant is added to a transmit stamp and subtracted from a receive
stamp; a mooring input never calibrated gives no stamp (R79), any other one stamps with its nominal table (R80). -/
def execTdcConversionDone (p : Part) (chan input a b : Nat) (ok : Bool) (s : State) : Result :=
  let c := s.chan p chan
  match c.convs.find? (fun x => x.input == input) with
  | none => nothing s
  | some cv =>
    if s.cyc < cv.cyc + convCycles p chan then nothing s
    else
      let s := s.updChan p chan fun c => { c with convs := c.convs.erase cv }
      let s := if p = .tsu then s.count .tsu 0x0201 chan 1 else s
      let inRangeRaw := if isVernier p chan then vernierGood a b else a < 32 && b < 16
      let tau := if isVernier p chan then tauVernier cv.lsb cv.ofs a b else tauMulti cv.centre a b
      let k := Config.chanConst (isPhi p) chan cv.use.transmit cv.pairY
      let stamp := if cv.use.transmit then stampOf cv.cap tau + k else stampOf cv.cap tau - k
      .next ((s.staleStamp p cv).putStamp p cv.use
        (if ok && inRangeRaw && (cv.tabState != 0 || !isMooring p chan) then some (BitVec.ofInt 80 stamp) else none))

/-- A bin table from the hits of a code-density run, and whether it is accepted (R78). -/
def densityTable (h : List Nat) (source : Nat) (now : W64) : BinTable × Bool :=
  let widths : List Nat := h.map (fun (x : Nat) => (x * 250000 + 2 ^ 19) / 2 ^ 20)
  let centres := (h.foldl (fun (acc : List Nat × Nat) x => (acc.1 ++ [(2 * acc.2 + x + 64) / 128], acc.2 + x)) ([], 0)).1
  let dnl : Nat := widths.foldl (fun (m w : Nat) => max m ((w : Int) - 15625).natAbs) 0
  let ok := h.length == 16 && h.foldl (· + ·) 0 == 2 ^ 20 && dnl ≤ 11625 && h.all (fun x => x > 0)
  ({ centre := centres, widthFs := widths, hits := 2 ^ 20, state := 1, source := source, dnlMax := dnl, calNs := now }, ok)

/-- A measurement in `CODE_DENSITY` mode on the channel takes the figures of a run (R84). -/
def State.densityFigures (s : State) (p : Part) (ch : Nat) (fig : Int × Int × Int × Int × Nat) : State :=
  s.updChan p ch fun c =>
    { c with meas := c.meas.map (fun m => if m.mode = 3 then { m with figures := some fig } else m) }

/-- A channel's port enters `IDENT` if it waits only for the tables (R40). -/
def State.identAfterCal (s : State) (p : Part) (ch : Nat) : State :=
  if isMooring p ch then
    match s.portOf p ch with
    | some port => s.tryIdent p port
    | none => s
  else s

/-- The `DNL_MAX_FS` metric of each input after an accepted run (R88); metric 16 + i belongs to input i. -/
def State.dnlHealth (s : State) (p : Part) (ch : Nat) : List (Nat × BinTable) → State
  | [] => s
  | (i, t) :: r => (s.evalMetric p ch (16 + i) (t.dnlMax * 1000) 7812000 .tdcDrift).dnlHealth p ch r

/-- The tables after a run (R78 to R80): an input whose run is accepted takes its new table; one whose run is rejected keeps the old one
with `STATE` 3, and a table never accepted keeps `STATE` 0, of which R80 says nothing (DESIGN CHOICE, log entry 69). -/
def runTables (old : Tab BinTable) (runs : List ((BinTable × Bool) × Nat)) : Tab BinTable :=
  runs.map fun r =>
    let t : BinTable := tabGet {} old r.2
    (r.2, if r.1.2 then r.1.1 else if t.state = 0 then t else { t with state := 3 })

/-- A run of a channel has ended for good, at the temperature of its end (R79); one that the host asked for does not count towards the
schedule (R84). The calibration in force is as old as the last run accepted (R88). -/
def State.endRun (s : State) (p : Part) (ch : Nat) (accepted : Bool) : State :=
  let temp := (s.part p).tdc.temp
  s.updChan p ch fun c =>
    { c with calRun := false, attempt := 0, altSource := false, hostRun := false, calTemp := temp,
             lastCalNs := if accepted then s.ns p else c.lastCalNs, schedNs := if c.hostRun then c.schedNs else s.ns p }

/-- No source is left for the runs of a channel (R89). -/
def State.noSource (s : State) (p : Part) (ch : Nat) : Bool := (s.part p).tdc.srcFailed.contains (s.sourceOf p ch)

/-- A run of a channel is refused with `TDC_CAL_FAILED`, since no source is left; the tables in force stay (R89). The schedule goes on. -/
def State.refuseRun (s : State) (p : Part) (ch : Nat) : State :=
  (s.recordLasting p (chanKind p ch) ch .tdcCalFailed ch).updChan p ch fun c =>
    { c with calRun := false, attempt := 0, altSource := false, hostRun := false,
             schedNs := if c.hostRun then c.schedNs else s.ns p }

/-- A run of a multiphase channel starts, or is refused (R79, R89). -/
def State.startRun (s : State) (p : Part) (ch : Nat) : State :=
  if s.noSource p ch then s.refuseRun p ch
  else s.updChan p ch fun c => { c with calRun := true, hostRun := false, attempt := 0, altSource := false }

/-- CODE_DENSITY_RUN_COMPLETE (R78, R79, R84, R88): a run of the nine inputs of a channel ends. Each accepted table replaces the old one
of its input; a run that is rejected at an input is repeated with the same source, then with the spare or partner source: accepted there,
the source has the lasting fault `CAL_SOURCE`; rejected there, the channel has `TDC_CAL_FAILED`. With no source left, the run is refused
with it and the tables in force stay (R89). The figures for the host pool the bins of all nine inputs with `COUNT` 2^20, which the spec
leaves open (DESIGN CHOICE, log entry 69). -/
def execCodeDensityRunComplete (p : Part) (chan : Nat) (hists : List (List Nat)) (s : State) : Result :=
  let c := s.chan p chan
  if !(chanExists p chan && !isVernier p chan && s.fastRuns p && hists.length == 9
      && (c.calRun || (List.range 9).any (fun i => (c.table i).state == 0))) then nothing s
  else if s.noSource p chan then .next (s.refuseRun p chan)
  else
    let src := s.sourceOf p chan
    let used := if c.altSource then partnerSource p src else src
    let runs := (hists.map (fun h => densityTable h (nb (used != ownSource p chan)) (s.ns p))).zipIdx
    let fig := statsOf ((hists.flatMap id).map (fun h => ((h / 64 : Nat) : Int)))
    let s := if p = .tsu then s.count .tsu 0x0201 chan ((hists.flatMap id).foldl (· + ·) 0) else s
    let s := s.densityFigures p chan (fig.1, fig.2.1, fig.2.2.1, fig.2.2.2, 2 ^ 20)
    let s := s.setTables p chan fun old => runTables old runs
    let good : Tab BinTable := (runs.filter (fun r => r.1.2)).map (fun r => (r.2, r.1.1))
    if runs.all (fun r => r.1.2) then
      let s := if c.attempt = 1 then s.transient p (chanKind p chan) chan else s
      let s := s.endRun p chan true
      let s := if c.altSource then s.sourceFault p src else s
      .next (((s.dnlHealth p chan good).identAfterCal p chan).returnDone p chan)
    else
      let s := s.dnlHealth p chan good
      if c.attempt = 0 then .next (s.updChan p chan fun c => { c with attempt := 1, calRun := true })
      else if !c.altSource && !(s.part p).tdc.srcFailed.contains (partnerSource p src) then
        .next (s.updChan p chan fun c => { c with attempt := 2, altSource := true, calRun := true })
      else .next ((s.endRun p chan false).chanFault p chan .tdcCalFailed)

/-- The least-squares fit of R81 to the sums of 256 period counts at p = 0 to 3: `LSB`, `OFS` and `FIT_RES` in
2^-32 ns. -/
def vernierFit (sums : List Nat) : Int × Int × Nat :=
  let xs : List Int := sums.map (fun (n : Nat) => (n : Int))
  let ys : List Int := (List.range sums.length).map (fun (i : Nat) => ((i : Int) * 2 ^ 30))
  let sx := sumInt xs
  let sy := sumInt ys
  let sxy := sumInt ((xs.zip ys).map (fun p => p.1 * p.2))
  let sxx := sumInt (xs.map (fun x => x * x))
  let den := 4 * sxx - sx * sx
  let lsb := if den = 0 then 0 else (256 * (4 * sxy - sx * sy)).tdiv den
  let ofs := (256 * sy - lsb * sx).tdiv 1024
  let res := ((xs.zip ys).map (fun p => ((256 * p.2 - lsb * p.1 - 256 * ofs).tdiv 256).natAbs)).foldl max 0
  (lsb, ofs, res)

/-- VERNIER_CAL_COMPLETE (R75, R81, R88): a core's fit is accepted when `LSB` lies between 0.2192 ps and 0.2692 ps and
`FIT_RES` is 1 ps or less; a second rejection is the lasting fault `TDC_CAL_FAILED`. The calibrating core of the rotation
becomes armed and an idle armed core takes its place. -/
def execVernierCalComplete (p : Part) (chan core : Nat) (sums : List Nat) (s : State) : Result :=
  let s := s.updChan p chan fun c => c.rotateDue s.cyc
  let c := s.chan p chan
  let k := c.core core
  if !(chanExists p chan && isVernier p chan && s.fastRuns p && core < 3 && sums.length == 4
      && (core == c.calCore || k.state == 0)) then nothing s
  else
    let s := if p = .tsu then s.count .tsu 0x0201 chan 1024 else s
    let (lsb, ofs, res) := vernierFit sums
    let ok := lsb * 10000000 ≥ 2192 * 2 ^ 32 && lsb * 10000000 ≤ 2692 * 2 ^ 32 && res * 1000 ≤ 2 ^ 32
    let s := s.densityFigures p chan (lsb, 0, ofs, (res : Int), 1024)
    if ok then
      let s := if k.attempt = 1 then s.transient p 0 chan else s
      let k' : VCore := { k with lsb := lsb.toNat, ofs := ofs, fitRes := res, state := 1, calNs := s.ns p, attempt := 0 }
      let s := s.updChan p chan fun c => { c with cores := tabSet c.cores core k', lastCalNs := s.ns p }
      let s := if core = c.calCore then s.rotate p chan else s
      let s := s.evalMetric p chan (32 + core) ((lsb * 1000000000).tdiv (2 ^ 32) - 244200).natAbs 12500 .tdcDrift
      let s := if k.state = 0 then s
        else s.evalMetric p chan (40 + core) (((ofs - k.ofs) * 1000000000).tdiv (2 ^ 32)).natAbs 2000000 .tdcDrift
      .next ((s.identAfterCal p chan).returnDone p chan)
    else
      let k' : VCore := { k with attempt := k.attempt + 1, state := if k.state = 0 then 0 else 3 }
      let s := s.updChan p chan fun c => { c with cores := tabSet c.cores core k' }
      if k.attempt = 0 then .next s
      else .next ((s.updChan p chan fun c => { c with cores := tabAdj c.cores core (fun k => { k with attempt := 0 }) }).chanFault
        p chan .tdcCalFailed)

/-- TDC_RECAL_TIMER (R79): every `TDC_RECAL_S` seconds a channel starts a run. -/
def execTdcRecalTimer (p : Part) (chan : Nat) (s : State) : Result :=
  let c := s.chan p chan
  whenever (chanExists p chan && !isVernier p chan && s.tdcRecalS p != 0 && !c.calRun
      && elapsed (s.ns p) c.schedNs (sec (s.tdcRecalS p))) s (s.startRun p chan)

/-- The fields of a `TDC_MEASURE` payload that a check of R85 finds reserved or out of range. `GATE` 0, `PRESCALE` 7, and `START_IN` and
`STOP_IN` outside their range are checked in the mode that uses them only, which R85 leaves open (DESIGN CHOICE, log entry 69). -/
def measureBad (p : Part) (d : Desc) : Bool :=
  let mode := d.plBits 2 1 0 3
  let startIn := d.plBits 4 1 0 4
  let stopIn := d.plBits 4 1 4 4
  mode ≥ 4 || d.plBits 3 1 0 5 > 20 || !chanExists p (d.pl 0 2)
    || (mode == 0 && (startIn > 8 || stopIn == 0 || stopIn > 8))
    || (mode == 1 && (d.pl 6 2 == 0 || d.plBits 5 1 0 3 == 7))
    || d.pl 8 4 == 0 || d.pl 8 4 > 100000000 || d.pl 12 8 % 64 != 0

/-- The mode is not allowed on the channel (R85). -/
def State.measureUnsupported (s : State) (p : Part) (ch mode : Nat) : Bool :=
  let served := if isMooring p ch then s.portOf p ch else none
  let portUp := match served with
    | some port => (s.port p port).lstate != .down
    | none => false
  ((mode == 0 || mode == 1) && (isVernier p ch || portUp)) || (mode == 2 && served.isNone)
    || (mode == 1 && ((p == .tsu && ch == 32) || (p == .phi && ch ≥ 576)))

/-- A region's watch is enabled. -/
def State.watchOn (s : State) (r : Nat) : Bool := (tabGet {} s.die.spine.watches r : WatchSt).en

/-- Wakes the fast logic of the TSU (R91, R92). A stop decided in the same always-on cycle is cancelled, and the time of R94 without a
condition begins anew, of which R94 says nothing (DESIGN CHOICE, log entry 72). -/
def State.wakeFast (s : State) : State :=
  let k := s.tsu.clk
  if k.soscDead then s
  else
    let s := s.upd .tsu fun c => { c with clk.wakeCyc := some s.cyc }
    if k.running || k.starting then s
    else if k.stopCyc = some s.cyc then
      s.upd .tsu fun c => { c with clk.running := true, clk.fast := true, clk.pllLock := true, clk.stopCyc := none, clk.idleSince := none }
    else s.upd .tsu fun c => { c with clk.starting := true, clk.startNs := c.time.ns, clk.idleSince := none }

/-- The channel that the spine calibration uses, `M16` or `M17` in its place, serves (R103). -/
def State.spineChan (s : State) : Bool := (s.tdcFor .tsu 32).isSome

/-- That channel holds accepted bin tables (R103). -/
def State.spineChanReady (s : State) : Bool :=
  match s.tdcFor .tsu 32 with
  | some ch => s.tdcReady .tsu ch
  | none => false

/-- TEMPERATURE_MOVE (R79, R103): the temperature in hundredths of a degree; every channel and the spine whose last run lies
more than 4 degrees away start a calibration. -/
def execTemperatureMove (p : Part) (centi : Int) (s : State) : Result :=
  let s := s.upd p fun c => { c with tdc.temp := centi }
  let moved := (s.part p).tdc.chans.filter (fun e => !isVernier p e.1 && (centi - e.2.calTemp).natAbs > 400)
  let s := moved.foldl (fun s e => s.startRun p e.1) s
  match p with
  | .tsu =>
    if (centi - s.die.spine.calTemp).natAbs > 400 && s.spineChan then .next { s with die.spine.calRun := true } else .next s
  | .phi => .next s

/-- A unit in a state is held out of service for its fault (R85, R378). -/
def outOfUse : UState → Bool
  | .expelled | .failed => true
  | _ => false

/-- Judges a `TDC_MEASURE` and starts the measurement (R84, R85). R89 refuses a `CODE_DENSITY` run that no source can serve with the cause
`TDC_CAL_FAILED` and names no status: `ABORTED` (DESIGN CHOICE, log entry 83). -/
def State.measure (s : State) (p : Part) (ring idx : Nat) (d : Desc) : State :=
  let ch := d.pl 0 2
  let mode := d.plBits 2 1 0 3
  let c := s.chan p ch
  if measureBad p d then s.finish p ring idx .badDesc 0 0
  else if s.measureUnsupported p ch mode then s.finish p ring idx .unsupported 0 0
  else if mode == 1 && p == .tsu && 16 ≤ ch && ch < 32 && s.watchOn (ch - 16) then s.finish p ring idx .conflict 0 0
  else if c.meas.isSome then s.finish p ring idx .conflict 0 0
  else if c.failed || outOfUse (s.unit p (chanKind p ch) ch).state then s.finish p ring idx .fenced 0 0
  else if mode == 3 && !isVernier p ch && s.noSource p ch then
    -- a run that no source can serve is refused with `TDC_CAL_FAILED` (R89)
    (s.recordLasting p (chanKind p ch) ch .tdcCalFailed ch).finish p ring idx .aborted Cause.tdcCalFailed.w 0
  else
    let s := s.updChan p ch fun c =>
      { c with meas := some { ring := ring, idx := idx, mode := mode, m := d.plBits 3 1 0 5, gate := d.pl 6 2,
                              prescale := d.plBits 5 1 0 3, startIn := d.plBits 4 1 0 4,
                              stopIn := d.plBits 4 1 4 4, timeoutUs := d.pl 8 4, addr := d.pl 12 8, startNs := s.ns p,
                              t0Ns := s.ns p, samples := [], stale := false, figures := none, cyc := s.cyc },
               old := if 16 ≤ ch && p == .tsu then c.old else [],
               calRun := c.calRun || (mode == 3 && !isVernier p ch),
               hostRun := if mode == 3 && !c.calRun then true else c.hostRun }
    match p with
    | .tsu => s.wakeFast
    | .phi => s

/-- A `TDC_MEASURE` is judged, or held while the `MEASURE` engine of the TSU is in reset (R369). -/
def State.askMeasure (s : State) (p : Part) (ring idx : Nat) (d : Desc) : State :=
  if s.measureShut p then s.holdMeasure ring idx else s.measure p ring idx d

/-- TDC_MEASURE_INTERVAL (R84, R85): `MODE` 0; a reserved `MODE` is answered here too. -/
def execTdcMeasureInterval (p : Part) (ring idx : Nat) (s : State) : Result :=
  s.runDesc p ring idx 0x06 (fun d => d.plBits 2 1 0 3 == 0 || d.plBits 2 1 0 3 ≥ 4) fun d s => s.askMeasure p ring idx d

/-- TDC_MEASURE_FREQUENCY (R84 to R86). -/
def execTdcMeasureFrequency (p : Part) (ring idx : Nat) (s : State) : Result :=
  s.runDesc p ring idx 0x06 (fun d => d.plBits 2 1 0 3 == 1) fun d s => s.askMeasure p ring idx d

/-- TDC_MEASURE_BEACON (R84, R85). -/
def execTdcMeasureBeacon (p : Part) (ring idx : Nat) (s : State) : Result :=
  s.runDesc p ring idx 0x06 (fun d => d.plBits 2 1 0 3 == 2) fun d s => s.askMeasure p ring idx d

/-- TDC_MEASURE_CODE_DENSITY (R84, R85): the channel runs a calibration at once. -/
def execTdcMeasureCodeDensity (p : Part) (ring idx : Nat) (s : State) : Result :=
  s.runDesc p ring idx 0x06 (fun d => d.plBits 2 1 0 3 == 3) fun d s => s.askMeasure p ring idx d

/-- The input of a sample's edges: `START_IN` and `STOP_IN` in `INTERVAL` mode; stop 0, input 1, in `FREQUENCY` mode, for which R84
names none (DESIGN CHOICE, log entry 69). -/
def Meas.inputOf (m : Meas) (i : Nat) : Nat := if m.mode = 0 then (if i = 0 then m.startIn else m.stopIn) else 1

/-- The stamps of a sample's edges (R76, R84). -/
def Chan.stamps (c : Chan) (input : Nat → Nat) (es : List RawEdge) : List Int :=
  es.zipIdx.map (fun e => c.edgeStamp (input e.2) e.1)

/-- The sample of an interval: the stamp of its last edge minus that of its first (R84). -/
def sampleOf (st : List Int) : Int := st.getLastD 0 - st.headD 0

/-- No two successive edges of a sample lie closer than 1 ns (R86). -/
def apart : List Int → Bool
  | a :: b :: r => 65536 ≤ b - a && apart (b :: r)
  | _ => true

/-- A sample is taken (R82, R86): in range, and in `FREQUENCY` mode with no two edges that came closer than 1 ns. -/
def takesSample (freq : Bool) (st : List Int) : Bool := inRange (sampleOf st) && (!freq || apart st)

/-- The edges of a sample come in order. -/
def rising : List Int → Bool
  | a :: b :: r => a ≤ b && rising (b :: r)
  | _ => true

/-- The edges of the samples come as R84 has them: in `INTERVAL` mode a start edge and a later stop edge, the start being the last before
that stop, so that the next sample has the same start or one that is not before this stop; in `FREQUENCY` mode `GATE` + 1 edges each, and the
next sample starts after the last edge of this one. -/
def samplesFit (freq : Bool) (gate : Nat) : List (List Int) → Bool
  | [] => true
  | x :: r =>
    rising x && x.length == (if freq then gate + 1 else 2) &&
    (match r with
     | y :: _ => if freq then x.getLastD 0 < y.headD 0 else x.getLastD 0 < y.getLastD 0 && (y.headD 0 == x.headD 0 || x.getLastD 0 ≤ y.headD 0)
     | [] => true) && samplesFit freq gate r

/-- An edge can have been converted (R70, R76, R96): from an instant on and not after now, with an increment of R12, codes of R73, and the
fast logic running. -/
def State.edgeReal (s : State) (p : Part) (from_ : W64) (e : RawEdge) : Bool :=
  let t := e.acc.extractLsb' 48 64
  let k := (s.part p).clk
  !later from_ t && ((s.part p).time.acc - e.acc).toInt ≥ 0 && 0 ≤ e.inc && e.inc ≤ 2 * nominalInc - 1 && e.coarse < 32 && e.bin < 16
    && (p == .phi || !later k.runSinceNs t) && (s.fastRuns p || !later t k.stopNs)

/-- The raw edges of a measurement's samples can have come so (R70, R84). -/
def State.edgesReal (s : State) (p : Part) (ch : Nat) (input : Nat → Nat) (freq : Bool) (gate : Nat) (from_ : W64)
    (xs : List (List RawEdge)) : Bool :=
  xs.all (fun x => x.all (s.edgeReal p from_)) && samplesFit freq gate (xs.map ((s.chan p ch).stamps input))

/-- A multiphase conversion is counted for each edge of the samples; a start that two intervals share is one edge (R395). -/
def edgeCount (starts : List RawEdge) (ends : List (List RawEdge)) : Nat :=
  (starts.zip (starts.drop 1)).foldl (fun n e => if e.1 == e.2 then n else n + 1) (min 1 starts.length)
    + (ends.map (·.length)).foldl (· + ·) 0

/-- A sample used a table with `STATE` other than 1 (R83), 2 by its age included (R80). `per` is `TDC_RECAL_S`. -/
def Chan.staleSample (c : Chan) (per : Nat) (input : Nat → Nat) (es : List RawEdge) : Bool :=
  es.zipIdx.any (fun e => (c.tableAt (input e.2) e.1).stateAt per (e.1.acc.extractLsb' 48 64) != 1)

/-- The samples of a measurement: the start edge of each with the edges after it. -/
def edgesOf (starts : List RawEdge) (ends : List (List RawEdge)) : List (List RawEdge) := starts.zipWith List.cons ends

/-- What a list of samples as raw edges comes to: the samples taken, whether one was not taken, whether one used a stale table, and
the start of the first one taken (R82, R83). With none taken R83 names no instant for `T0_NS`: it is that of the start of the measurement,
as for a `CODE_DENSITY` run, which takes no samples (DESIGN CHOICE, log entry 69). -/
def Chan.reduce (c : Chan) (per : Nat) (input : Nat → Nat) (freq : Bool) (n : Nat) (t0 : W64) (xs : List (List RawEdge)) :
    List Int × Bool × Bool × W64 :=
  let good := (xs.filter (fun e => takesSample freq (c.stamps input e))).take n
  let start := match good with
    | e :: _ => BitVec.ofInt 64 ((c.stamps input e).headD 0 / 65536)
    | [] => t0
  (good.map (fun e => sampleOf (c.stamps input e)), xs.any (fun e => !takesSample freq (c.stamps input e)),
   good.any (c.staleSample per input), start)

/-- What a running measurement has taken (R82 to R84): in `BEACON` mode θ of the exchanges accepted, in `CODE_DENSITY` mode no samples,
otherwise the samples given. -/
def State.measSamples (s : State) (p : Part) (ch : Nat) (m : Meas) (n : Nat) (xs : List (List RawEdge)) :
    List Int × Bool × Bool × W64 :=
  if m.mode = 2 then
    let good := (m.samples.filter inRange).take n
    (good, m.samples.any (fun x => !inRange x), m.stale, m.t0Ns)
  else if m.mode = 3 then ([], false, false, m.startNs)
  else (s.chan p ch).reduce (s.tdcRecalS p) m.inputOf (m.mode == 1) n m.startNs xs

/-- The raw edges that come with the end of a measurement can be its own: any in the modes that take none from the inputs. -/
def State.measEdges (s : State) (p : Part) (ch : Nat) (m : Meas) (xs : List (List RawEdge)) : Bool :=
  m.mode == 2 || m.mode == 3 || s.edgesReal p ch m.inputOf (m.mode == 1) m.gate m.startNs xs

/-- The conversions of a host measurement's edges are counted (R395). -/
def State.measCount (s : State) (p : Part) (ch : Nat) (m : Meas) (starts : List RawEdge) (ends : List (List RawEdge)) : State :=
  if p = .tsu ∧ m.mode < 2 then s.count .tsu 0x0201 ch (edgeCount starts ends) else s

/-- TDC_MEASURE_COMPLETE (R82, R83): N samples have been taken; the record is written and the command completes. -/
def execTdcMeasureComplete (p : Part) (chan : Nat) (starts : List RawEdge) (ends : List (List RawEdge)) (s : State) : Result :=
  match (s.chan p chan).meas with
  | none => nothing s
  | some m =>
    let n := 2 ^ m.m
    let (good, above, stale, t0) := s.measSamples p chan m n (edgesOf starts ends)
    let s' := (s.measCount p chan m starts ends).updChan p chan fun c => { c with meas := none }
    if m.mode = 3 then
      match m.figures with
      | none => nothing s
      | some (a, b, c, d, k) =>
        .next ((s'.dma p m.addr (resultRecord (a, b, c, d) k m.m m.mode Status.ok.code false false m.startNs)).finish
          p m.ring m.idx .ok 0 0)
    else if good.length < n || !s.measEdges p chan m (edgesOf starts ends) then nothing s
    else
      .next ((s'.dma p m.addr (resultRecord (statsOf good) n m.m m.mode Status.ok.code above stale t0)).finish
        p m.ring m.idx .ok 0 0)

/-- TDC_MEASURE_TIMEOUT (R84): the record is written with `TIMEOUT` over the samples taken. -/
def execTdcMeasureTimeout (p : Part) (chan : Nat) (starts : List RawEdge) (ends : List (List RawEdge)) (s : State) : Result :=
  match (s.chan p chan).meas with
  | none => nothing s
  | some m =>
    if !elapsed (s.ns p) m.startNs (us m.timeoutUs) || !s.measEdges p chan m (edgesOf starts ends) then nothing s
    else
      let (good, above, stale, t0) := s.measSamples p chan m (2 ^ m.m - 1) (edgesOf starts ends)
      let s' := (s.measCount p chan m starts ends).updChan p chan fun c => { c with meas := none }
      .next ((s'.dma p m.addr (resultRecord (statsOf good) good.length m.m m.mode Status.timeout.code above stale t0)).finish
        p m.ring m.idx .timeout Cause.cmdTimeout.w 0)

/-- REGION_WATCH_RESULT (R87, R89, R431): a set of N samples of an enabled watch ends, on the region's channel or on `M17` in its place:
the record goes to the region's slot of the state page, a `MEAN` outside the band is recorded, and the settings written meanwhile take
effect for the next set. -/
def execRegionWatchResult (region : Nat) (starts : List RawEdge) (ends : List (List RawEdge)) (s : State) : Result :=
  let w : WatchSt := tabGet {} s.die.spine.watches region
  let n := 2 ^ w.curM
  match s.tdcFor .tsu (16 + region) with
  | none => nothing s
  | some ch =>
    let (good, above, stale, t0) := (s.chan .tsu ch).reduce (s.tdcRecalS .tsu) (fun _ => 1) true n (s.ns .tsu) (edgesOf starts ends)
    if !(region < 16 && w.en && w.running) || good.length < n
        || !s.edgesReal .tsu ch (fun _ => 1) true w.curGate s.tsu.clk.runSinceNs (edgesOf starts ends) then nothing s
    else
      let st := statsOf good
      let w' : WatchSt := { w with result := resultRecord st n w.curM 1 Status.ok.code above stale t0, curPrescale := w.prescale,
                                   curM := w.m, curGate := w.gate, curLo := w.lo, curHi := w.hi }
      let s := { s with die.spine.watches := tabSet s.die.spine.watches region w' }
      let s := s.updChan .tsu ch fun c => { c with old := if c.meas.isSome then c.old else [] }
      let s := s.count .tsu 0x0201 ch (edgeCount starts ends)
      if st.1 < w.curLo.toInt ∨ st.1 > w.curHi.toInt then .next (s.record .tsu .regionClockRange region) else .next s

end Sys2Proof.Machine
end

