-- ==== Sys2Proof/Machine/Clocking.lean ====
section
/-!
DEFINITION. The commands of die clocking and the time spine: the fast logic (R91 to R97), the spine and its calibration
(R98 to R104), and the region crossings (R100 to R110).
-/

namespace Sys2Proof.Machine

/-- The next instant t1 of a port's exchanges after now (R50). -/
def State.nextT1 (s : State) (port : Nat) : W64 :=
  let e := s.portExp .tsu port
  let above := (s.ns .tsu - BitVec.ofNat 64 (beaconPhase .tsu port e)).toNat % 2 ^ e
  nsAdd (s.ns .tsu) ((2 ^ e - above : Nat) : Int)

/-- A launch is armed, or its strobes are settled and not yet driven (R93). -/
def State.armedLaunches (s : State) : List Launch := s.die.launches.filter (fun l => l.phase != .strobed)

/-- The instants that the wake scheduler holds (R91): t1 of each exchange, the strobe instant of every armed launch, the
latch instants, and the due times of the periodic calibrations. -/
def State.timedWakes (s : State) : List W64 :=
  let ports := [0, 1].filter (fun i => (s.port .tsu i).exchanges)
  let due (last : W64) (per : Nat) : List W64 := if per = 0 then [] else [nsAdd last (sec per)]
  ports.map (fun i => s.nextT1 i) ++ s.armedLaunches.map (·.lNs) ++ s.tsu.cnt.pending.map (·.atNs)
    ++ (s.tsu.tdc.chans.filter (fun e => !isVernier .tsu e.1)).flatMap (fun e => due e.2.schedNs (s.tdcRecalS .tsu))
    ++ due s.die.spine.calNs s.spineRecalS

/-- A TDC channel of the TSU that serves still lacks the tables or constants of its first runs, which begin at step 5 of the start
(R79, R81, R413). -/
def State.firstRuns (s : State) : Bool :=
  s.tsu.cfg.startStep ≥ 5 && ([0, 1, 2] ++ (List.range 18).map (· + 16)).any (fun ch =>
    !s.tdcReady .tsu ch && !(s.chan .tsu ch).failed && !outOfUse (s.unit .tsu (chanKind .tsu ch) ch).state)

/-- A condition of R93, R95 or R413 keeps the fast logic of the TSU running. An exchange counts until its t4 stamp is there, and the
conversion of a stamp counts as such. R93 names host measurements and not the region watch of R87: an enabled watch does not keep the fast
logic running, and measures while it runs (DESIGN CHOICE, log entry 83). -/
def State.keepRunning (s : State) : Bool :=
  !s.armedLaunches.isEmpty
  || s.die.sync.proxies.any (fun e => e.2.bound && e.2.arrived != 0)
  || s.tsu.tdc.chans.any (fun e => !e.2.convs.isEmpty || e.2.meas.isSome || e.2.calRun)
  || (s.die.spine.calRun && s.spineChan)
  || s.firstRuns
  || s.tsu.ports.any (fun e => e.2.exch.any (fun x => x.t4.isNone))
  || s.tsu.clk.fastForce
  || s.timedWakes.any (fun t => later t (s.ns .tsu) && nsDiff t (s.ns .tsu) < us 11)
  || (s.timedWakes.filter (fun t => later t (s.ns .tsu))).length > 32
  || (s.tsu.cfg.startStep ≥ 5 && !s.tsu.time.everLocked)

/-- FAST_WAKE_REQUEST (R91, R95). -/
def execFastWakeRequest (s : State) : Result := .next s.wakeFast

/-- SPINE_PLL_LOCK (R92, R97): the spine goes to fast mode. -/
def execSpinePllLock (p : Part) (s : State) : Result :=
  if (s.part p).clk.starting then
    let s := s.upd p fun c =>
      { c with clk.starting := false, clk.running := true, clk.pllLock := true, clk.fast := true, clk.pllFails := 0,
               clk.runSinceNs := c.time.ns, clk.idleSince := none }
    match p with
    | .tsu => .next (s.count .tsu 0x0304 0 1)
    | .phi => .next s
  else nothing s

/-- SPINE_PLL_LOCK_TIMEOUT (R96, R112): a first failure counts one transient fault and the PLL starts again; a second in a
row is the lasting fault of the oscillator, and the move to the other one is the governor's to grant; until then the PLL starts again on
the same one. -/
def execSpinePllLockTimeout (p : Part) (s : State) : Result :=
  let k := (s.part p).clk
  if !(k.starting && elapsed (s.ns p) k.startNs 2500) then nothing s
  else
    let again (s : State) (n : Nat) : State :=
      s.upd p fun c => { c with clk.startNs := c.time.ns, clk.pllFails := n }
    if k.pllFails = 0 then .next (again (s.transient p 3 k.sosc) 1)
    else
      .next ((again (s.recordLasting p 3 k.sosc .spinePll k.sosc) 0).holdFault p 3 k.sosc)

/-- FAST_IDLE_EXPIRY (R94): a wake request of the same always-on cycle cancels the stop, before it or after (`wakeFast`). -/
def execFastIdleExpiry (s : State) : Result :=
  let k := s.tsu.clk
  if !(k.running && !s.keepRunning && heldFor (s.ns .tsu) k.idleSince (us s.fastIdleUs)) then nothing s
  else if k.wakeCyc = some s.cyc then .next (s.upd .tsu fun c => { c with clk.idleSince := none })
  else
    .next (s.upd .tsu fun c => { c with clk.running := false, clk.fast := false, clk.pllLock := false, clk.idleSince := none,
                                        clk.stopCyc := some s.cyc, clk.stopNs := c.time.ns })

/-- `FAST_FORCE` is written (R91, R93). -/
def State.fastForce (s : State) (v : Bool) : State :=
  let s := s.upd .tsu fun c => { c with clk.fastForce := v }
  if v then s.wakeFast else s

/-- FAST_FORCE_WRITE (R91, R93). -/
def execFastForceWrite (v : Bool) (s : State) : Result := .next (if s.writeLost 0x0804 then s else s.fastForce v)

/-- SPINE_PARITY (R98): the crossing counts one transient fault and goes on from its own count; an error in the next HT word
as well is a lasting fault. R98 says nothing of a third error in a row: after the fault the row is forgotten, and the third counts as a first
one (DESIGN CHOICE, log entry 83). -/
def execSpineParity (region : Nat) (s : State) : Result :=
  if 16 ≤ region then nothing s
  else
    let c := s.tsu.time.cycles
    match (s.region region).parityAt with
    | some k =>
      if c ≤ k + 1 then .next ((s.updRegion region fun g => { g with parityAt := none }).record .tsu .spineParity region)
      else .next (s.updRegion region fun g => { g with parityAt := some c, parityErrs := satNat 32 (g.parityErrs + 1) })
    | none => .next (s.updRegion region fun g => { g with parityAt := some c, parityErrs := satNat 32 (g.parityErrs + 1) })

/-- CORE_HT_READ (R99, R411): in fast mode at most 2 ns behind, in slow mode a multiple of 4 ns at most 8 ns behind; which
value of that range is left open, and is a free value (log entry 5). Reads of a region never decrease; a TSU without a
configuration reads zero. -/
def execCoreHtRead (region core : Nat) (s : State) : Result :=
  if !s.tsu.configured then .next (s.emit (.htRead region core 0))
  else
    let f := s.takeFree.1.toNat
    let now := s.ns .tsu
    let v := if s.tsu.clk.fast then nsAdd now (-((f % 3 : Nat) : Int))
             else nsAdd now (-((now.toNat % 4 + 4 * (f % (if now.toNat % 4 = 0 then 3 else 2)) : Nat) : Int))
    let s := s.takeFree.2
    let last := (s.region region).htLast
    let v := if later last v then last else v
    .next ((s.updRegion region fun g => { g with htLast := v }).emit (.htRead region core v))

/-- A core's wait ends as its region consumes an entry (R202): the answer and the wake reach the core at once. -/
def State.endWaitHere (s : State) (k : Nat) (v : W32) : State :=
  ((s.syncUpd fun y => { y with waiters := tabDel y.waiters k }).count .tsu 0x0501 0 1).emit
    (.wake { core := k / 8, ctx := k % 8, status := Status.ok.b, value := v })

/-- A region consumes a gate edge: the waits of its cores on the use complete (R202). -/
def State.consumeEdge (s : State) (r : Nat) (e : Nat × W32) : State :=
  ((s.proxyWaits e.1 e.2).filter (fun w => w.1 < 2048 && s.regionOf (w.1 / 8) == r)).foldl
    (fun s w => s.endWaitHere w.1 (if w.2.sop = 0x28 then w.2.operand else e.2)) s

/-- The slots of a region that a strobe of bell L starts: those `ARMED` with `L_NS` = L (R162). -/
def State.slotsAt (s : State) (r : Nat) (l : W64) : List SlotRef :=
  (s.die.slots.filter (fun e => e.2.state == .armed && e.2.lNs == l && s.regionOf (e.1 / 4) == r)).map
    (fun e => { core := e.1 / 4, slot := e.1 % 4 })

/-- The slack of R109 at a strobe of bell L, rounded down: none before a previous launch, zero on an overrun. A later strobe whose previous
strobe into the region started no slot has no previous launch either, of which R109 says nothing: it is treated as the first strobe is
(DESIGN CHOICE, log entry 73). -/
def RegionSt.slackAt (g : RegionSt) (l : W64) : Option Nat :=
  if !g.prevAny then none
  else if !g.prevSlots.isEmpty then some 0
  else match g.prevDone with
    | some t => some ((((l.setWidth 112) <<< 48) - t).toInt / 2 ^ 48).toNat
    | none => none

/-- Updates of a slipway strobe into a region (R109): slack, least slack, stretch count of the slot. -/
def State.strobeSlack (s : State) (r : Nat) (l : W64) (started : List SlotRef) : State :=
  let sl := (s.region r).slackAt l
  let s := s.updRegion r fun g =>
    { g with slackNs := (match sl with | some n => BitVec.ofNat 32 (min n 0xFFFFFFFF) | none => 0xFFFFFFFF#32),
             slackMinNs := (match sl with
               | some n => BitVec.ofNat 32 (min n g.slackMinNs.toNat)
               | none => g.slackMinNs),
             stretchShown := g.stretchSlot, stretchSlot := 0, prevSlots := started, prevAny := !started.isEmpty,
             prevDone := none }
  match sl with
  | some 0 => s.count .tsu 0x0404 r 1
  | _ => s

/-- A region consumes a slipway strobe of bell L (R108, R109, R162): the anchor is set, the slots start, and their cores are
woken. -/
def State.consumeStrobe (s : State) (r : Nat) (l : W64) : State :=
  let st := s.slotsAt r l
  let s := s.strobeSlack r l st
  let s := s.updRegion r fun g => { g with cycZeroNs := s.ns .tsu, cycKnown := true }
  let s := s.dieUpd fun d => { d with spine.regionCycs := d.spine.regionCycs.set r 0 }
  let s := st.foldl (fun s x => s.setSlot x.core x.slot { s.slot x.core x.slot with state := .started }) s
  (st.map (·.core)).eraseDups.foldl (fun s c => s.emit (.wake { core := c, ctx := 8, status := 0, value := 0 })) s

/-- The oldest entry leaves the FIFO (R100). Where the FIFO was full, the first entry held at its source is written in the first spine cycle
from now on that holds no other write, and those after it keep their order. `len` is the length of a spine cycle. -/
def RegionSt.dropFirst (g : RegionSt) (acc : BitVec 112) (len : Nat) : RegionSt :=
  let rest := g.fifo.drop 1
  match g.waiting with
  | w :: ws =>
    if accLater w.wAcc acc ∨ g.fifo.length < 32 then { g with fifo := rest }
    else
      let at_ := match rest.getLast? with
        | some l => if accLater acc l.wAcc then acc else l.wAcc + BitVec.ofNat 112 len
        | none => acc
      { g with fifo := rest, waiting := { w with wAcc := at_ } :: spread len acc at_ ws }.refill acc
  | [] => { g with fifo := rest }

/-- REGION_FIFO_CONSUME (R100, R107 to R109, R162, R202): the oldest entry, its strobe before its wakes. -/
def execRegionFifoConsume (region : Nat) (s : State) : Result :=
  let acc := s.tsu.time.acc
  let g := (s.region region).refill acc
  match g.fifo with
  | [] => nothing s
  | e :: _ =>
    if g.off then nothing s
    else
      let s := s.updRegion region fun _ => g.dropFirst acc s.spineCycle
      let s := if e.slipped && !e.exempt then s.updRegion region fun g =>
          { g with lastSlipNs := ((acc - e.wAcc).toNat + (2 ^ 48 - 1)) / 2 ^ 48, slipCnt := satNat 32 (g.slipCnt + 1) } else s
      let s := match e.bell with
        | some l => if e.launch then s.consumeStrobe region l else s
        | none => s
      let s := e.edges.foldl (fun s x => s.consumeEdge region x) s
      .next (e.wakes.foldl (fun s w => s.emit (.wake w)) s)

/-- An entry is past its margin, unconsumed and not yet recorded (R101, R107). -/
def State.pastMargin (s : State) (e : FifoEntry) : Bool :=
  !e.slipped && !e.exempt && (s.tsu.time.acc - e.wAcc).toInt ≥ (s.crossMarginNs : Int) * 2 ^ 48

/-- The kind of an entry: 1 strobe, 2 wake, 3 both (R366). -/
def FifoEntry.kind (e : FifoEntry) : Nat := (if e.bell.isSome then 1 else 0) + (if e.wakes.isEmpty then 0 else 2)

/-- CROSSING_SLIP (R107). -/
def execCrossingSlip (region : Nat) (s : State) : Result :=
  let g := (s.region region).refill s.tsu.time.acc
  if g.off then nothing s
  else
    match g.fifo.find? s.pastMargin with
    | none => nothing s
    | some e =>
      let i := g.fifo.findIdx s.pastMargin
      let s := s.updRegion region fun _ => { g with fifo := listAdj g.fifo i (fun e => { e with slipped := true }) }
      .next ((s.count .tsu 0x0302 region 1).record .tsu .crossingSlip (region + 16 * e.kind))

/-- REGION_POWER_CHANGE (R101): entries in the FIFO while the region is off, written before or meanwhile, stay in order and do not slip;
those written after power-up do. -/
def execRegionPowerChange (region : Nat) (off : Bool) (s : State) : Result :=
  .next (s.updRegion region fun g =>
    let g := g.refill s.tsu.time.acc
    { g with off := off, fifo := g.fifo.map (fun e => { e with exempt := true }) })

/-- STRETCH_EVENT (R105). -/
def execStretchEvent (region count : Nat) (s : State) : Result :=
  let n := count % 16
  .next ((s.updRegion region fun g =>
    { g with stretchCnt := g.stretchCnt + BitVec.ofNat 64 n, stretchSlot := satNat 32 (g.stretchSlot + n) }).count
      .tsu 0x0301 region n)

/-- The values of a run (R102, R4): strobe delay, tap delay, step, the step truncated toward zero. -/
def calValues (c : RegionCal) : Int × Int × Int :=
  let ret : Int := (Config.retFuse c.region : Nat)
  (c.mean0 - ret, c.meanTap - ret, (c.mean255 - c.mean0).tdiv 255)

/-- The acceptance of R102, in fs. -/
def calAccept (c : RegionCal) : Bool :=
  let (d0, sp, step) := calValues c
  let d128 := c.mean128 - (Config.retFuse c.region : Nat)
  c.sigma0 ≤ 12000 && c.sigma128 ≤ 12000 && c.sigma255 ≤ 12000 && c.sigmaTap ≤ 12000
    && (d0 - (Config.strobeFuse c.region : Nat)).natAbs ≤ 100000 && (sp - (Config.spineFuse c.region : Nat)).natAbs ≤ 100000
    && 4500 ≤ step && step ≤ 5500 && (d128 - (d0 + 128 * step)).natAbs ≤ 3000

/-- No launch that is armed, or whose strobes are being driven, has its strobe instant within the next 1 us (R103). -/
def State.calMayApply (s : State) : Bool :=
  !s.die.launches.any (fun l => nsDiff l.lNs (s.ns .tsu) ≥ 0 && nsDiff l.lNs (s.ns .tsu) ≤ 1000)

/-- Accepted values that wait take effect (R103). -/
def RegionSt.applyCal (g : RegionSt) : RegionSt :=
  match g.calNext with
  | some (a, b, c) => { g with strobeDlyFs := a, spineDlyFs := b, stepFs := c, calOk := true, calFuse := false, calNext := none }
  | none => g

/-- Accepted values that wait take effect in every region, when no strobe is near (R103). -/
def State.applyCals (s : State) : State :=
  if s.calMayApply then
    s.dieUpd fun d => { d with spine.regions := d.spine.regions.map (fun e => (e.1, e.2.applyCal)) }
  else s

/-- One region's calibration result (R103, R360): one accepted on its repeat counts a transient fault of the channel that measured it. -/
def State.takeCal (s : State) (c : RegionCal) : State :=
  let g := s.region c.region
  if calAccept c then
    let s := if g.calAttempt = 1 then s.transient .tsu 1 ((s.tdcFor .tsu 32).getD 32) else s
    s.updRegion c.region fun g => { g with calNext := some (calValues c), calAttempt := 0 }
  else if g.calAttempt = 0 then s.updRegion c.region fun g => { g with calAttempt := 1 }
  else
    let s := s.updRegion c.region fun g =>
      if g.calOk then { g with calAttempt := 0 }
      else { g with calAttempt := 0, calOk := true, calFuse := true, strobeDlyFs := (Config.strobeFuse c.region : Nat),
                    spineDlyFs := (Config.spineFuse c.region : Nat), stepFs := 5000 }
    s.record .tsu .spineCalFailed c.region

/-- The regions that a run of the spine calibration measures (R103): those that were rejected once, or all 16. -/
def State.calRegions (s : State) : List Nat :=
  let again := (List.range 16).filter (fun r => (s.region r).calAttempt == 1)
  if again.isEmpty then List.range 16 else again

/-- SPINE_CAL_RUN_COMPLETE (R102, R103): each region's values are accepted, measured again once, or failed. A run measures all 16 regions,
and a repeat those that were rejected, in ascending order. -/
def execSpineCalRunComplete (runs : List RegionCal) (s : State) : Result :=
  if !(s.die.spine.calRun && s.tsu.clk.running && s.spineChanReady && runs.map (·.region) == s.calRegions) then nothing s
  else
    let s := s.count .tsu 0x0201 ((s.tdcFor .tsu 32).getD 32) (2048 * runs.length)
    let s := runs.foldl (fun s c => s.takeCal c) s
    let again := s.die.spine.regions.any (fun e => e.2.calAttempt == 1)
    let s := s.dieUpd fun d =>
      { d with spine.calRun := again, spine.calNs := if again then d.spine.calNs else s.ns .tsu,
               spine.calTemp := if again then d.spine.calTemp else s.tsu.tdc.temp }
    .next s.applyCals

/-- SPINE_RECAL_TIMER (R103). -/
def execSpineRecalTimer (s : State) : Result :=
  whenever (s.spineRecalS != 0 && !s.die.spine.calRun && s.spineChan
      && elapsed (s.ns .tsu) s.die.spine.calNs (sec s.spineRecalS)) s (s.dieUpd fun d => { d with spine.calRun := true })

end Sys2Proof.Machine
end

