-- ==== Sys2Proof/Machine/CfgCheck.lean ====
section
/-!
DEFINITION. The checks of a configuration block (R404 to R407), and what a write to a configuration register may change
(R427, R429).
-/

namespace Sys2Proof.Machine

/-- A number within a range. -/
def within (lo hi v : Nat) : Bool := lo ≤ v && v ≤ hi

/-- The fields of a TSU block body, each with its byte offset and whether its value is within its range or, for a reserved
field, zero (R405, and the ranges that the chapters of R405's cross-references give). -/
def tsuFields (b : List Byte) : List (Nat × Bool) :=
  let w (off n : Nat) : Nat := field b off n
  ([(18, w 18 1 < 32), (19, w 19 1 == 0), (20, w 21 1 == 0), (22, within 14 20 (w 22 1)), (23, w 23 1 < 8),
   (30, within 1 1000 (w 30 2)), (32, within 4 255 (w 32 1)), (34, 1 ≤ w 34 2), (36, within 1 10000 (w 36 4)),
   (40, within 1 1000000 (w 40 4)), (44, within 10 100000000 (w 44 4)), (48, within 10 100000 (w 48 4)),
   (52, w 52 4 == 0 || within 10 60000 (w 52 4)), (56, within 10 100000 (w 56 4)), (60, within 1 60000 (w 60 2))] : List (Nat × Bool))
  ++ (List.range 10).map (fun k => (62 + k, decide (w (62 + k) 1 ≤ 4))) ++ [(72, (slice b 72 52).all (· == 0))]

/-- The fields of a Phidor block body, as for the TSU (R406): `UPLINK` may be 0xFFFF for a lighthouse only, and `SISTER` is a `U` port for a
lighthouse and 0xFFFF otherwise. -/
def phiFields (b : List Byte) : List (Nat × Bool) :=
  let w (off n : Nat) : Nat := field b off n
  let light := (byteAt b 16).getLsbD 1
  ([(16, w 16 1 < 8), (17, within 1 3 (w 17 1)), (20, within 512 527 (w 20 2) || (light && w 20 2 == 0xFFFF)),
    (22, if light then within 512 527 (w 22 2) else w 22 2 == 0xFFFF), (95, within 14 20 (w 95 1)),
   (96, within 1 86400 (w 96 4)), (100, within 10 10000 (w 100 4)), (104, within 1 1000 (w 104 2)),
   (106, within 30 40 (w 106 1)), (108, within 100 60000 (w 108 4))] : List (Nat × Bool))
  ++ (List.range 10).map (fun k => (112 + k, decide (w (112 + k) 1 ≤ 4)))
  ++ ([(122, 1 ≤ w 122 2), (124, within 10 100000 (w 124 4)), (128, w 128 4 == 0 || within 10 60000 (w 128 4)),
      (132, within 10 100000 (w 132 4)), (136, (slice b 136 116).all (· == 0))] : List (Nat × Bool))

/-- The offset of the first field that fails check 0x05 of R407 in a block's body. -/
def badField (p : Part) (b : List Byte) : Option Nat :=
  let fields : List (Nat × Bool) := match p with
    | .tsu => tsuFields b
    | .phi => phiFields b
  (fields.find? (fun e => !e.2)).map (·.1)

/-- Check 0x06 of R407: `REGIONS` and `CORES` equal the fused counts. -/
def countsOk (p : Part) (b : List Byte) : Bool :=
  match p with
  | .tsu => field b 18 1 == Config.regionCount && field b 20 1 == Config.coreCount
  | .phi => true

/-- Check 0x07 of R407: `CROSS_MARGIN_NS` at least 12. -/
def marginOk (p : Part) (b : List Byte) : Bool :=
  match p with
  | .tsu => 12 ≤ field b 32 1
  | .phi => true

/-- A port's bit in `PORT_EN` of a block (R406). -/
def blockPort (b : List Byte) (i : Nat) : Bool := (byteAt b (28 + i / 8)).getLsbD (i % 8)

/-- Check 0x08 of R407: the lighthouse, its ports and the tier agree. -/
def topologyOk (p : Part) (b : List Byte) : Bool :=
  match p with
  | .tsu => true
  | .phi =>
    let up := field b 20 2
    let sis := field b 22 2
    let named (v : Nat) : Bool := v == 0xFFFF || blockPort b v
    ((byteAt b 16).getLsbD 1 == (up == 0xFFFF && sis != 0xFFFF)) && named up && named sis
      && (if field b 17 1 = 1 then (List.range 16).all (fun j => !blockPort b (512 + j) || 512 + j == up)
          else (List.range 512).all (fun i => !blockPort b i))

/-- Check 0x09 of R407: `DIE_LO` is not above `DIE_HI`. -/
def diesOk (p : Part) (b : List Byte) : Bool :=
  match p with
  | .tsu => true
  | .phi => field b 24 2 ≤ field b 26 2

/-- The length of a part's block (R404). -/
def blockLen : Part → Nat
  | .tsu => 128
  | .phi => 256

/-- The first check of R407 that a block fails, with the offset that code 0x05 reports. `len` is the command's length. -/
def blockRefused (p : Part) (len : Nat) (b : List Byte) : Option (Nat × Nat) :=
  let part := byteAt b 5 &&& 1
  let want := if part = 0 then 128 else 256
  if field b 0 4 ≠ 0x54484346 ∨ field b 4 1 ≠ 1 then some (0x01, 0)
  else if field b 6 2 ≠ want ∨ len ≠ want then some (0x02, 0)
  else if (crc32c (b.take (want - 4))).toNat ≠ field b (want - 4) 4 then some (0x03, 0)
  else if (part = 0) ≠ (p = .tsu) then some (0x04, 0)
  else if field b 5 1 ≥ 2 then some (0x05, 5)
  else if field b 12 4 ≠ 0 then some (0x05, 12)
  else
    match badField p b with
    | some off => some (0x05, off)
    | none =>
      if !countsOk p b then some (0x06, 0)
      else if !marginOk p b then some (0x07, 0)
      else if !topologyOk p b then some (0x08, 0)
      else if !diesOk p b then some (0x09, 0)
      else none

/-- The bits of a byte of the configuration registers that software may write (R429, `CFG_IMAGE`). -/
def cfgMask (p : Part) (b : Nat) : Byte :=
  match p with
  | .tsu =>
    if b < 16 || b == 19 || b == 21 || b ≥ 72 then 0
    else if b == 18 || b == 22 then 0x1F
    else if b == 23 then 0x07
    else 0xFF
  | .phi => if b == 95 then 0x1F else if 96 ≤ b && b < 136 then 0xFF else 0

/-- The image of the configuration registers after a write of bytes at a block offset: what software may not write keeps its
value (R6, R429). -/
def cfgWritten (p : Part) (img : List Byte) (off : Nat) (data : List Byte) : List Byte :=
  splice img off (data.zipIdx.map fun e =>
    let m := cfgMask p (off + e.2)
    (byteAt img (off + e.2) &&& ~~~m) ||| (e.1 &&& m))

/-- A written image passes checks 0x05 to 0x07 (R427). -/
def cfgWriteOk (p : Part) (img : List Byte) : Bool := (badField p img).isNone && countsOk p img && marginOk p img

end Sys2Proof.Machine
end

