-- ==== Sys2Proof/Machine/HubNum.lean ====
section
/-!
DEFINITION. The arithmetic of the weighbridge at a Phidor (R221, R231, R235 to R238): the value of an element, exact
accumulators, their slots, the one rounding, and the results of every operation.
-/

namespace Sys2Proof.Machine

/-- Exponent and fraction bits of a floating-point format; none for an integer format (R221). -/
def floatBits : Nat → Option (Nat × Nat)
  | 1 => some (11, 52)
  | 2 => some (8, 23)
  | 3 => some (5, 10)
  | 4 => some (8, 7)
  | 5 => some (4, 3)
  | 6 => some (5, 2)
  | _ => none

/-- The canonical NaN of a format (R236). -/
def canonNan : Nat → Nat
  | 1 => 0x7FF8000000000000
  | 2 => 0x7FC00000
  | 3 => 0x7E00
  | 4 => 0x7FC0
  | 5 => 0x7F
  | _ => 0x7E

/-- Infinity of a format that has one, without its sign; for `E4M3` the pattern of NaN (R221). -/
def infPattern (fmt eb mb : Nat) : Nat := if fmt = 5 then 0x7F else (2 ^ eb - 1) * 2 ^ mb

/-- The value of an element: a finite one in units of the format's smallest subnormal, with its sign (R221, R235). -/
inductive Val where
  | nan
  | inf (neg : Bool)
  | fin (neg : Bool) (mag : Nat)
  deriving DecidableEq, Repr

/-- The value of a floating-point pattern. -/
def floatVal (fmt eb mb raw : Nat) : Val :=
  let neg := raw / 2 ^ (eb + mb) % 2 == 1
  let e := raw / 2 ^ mb % 2 ^ eb
  let m := raw % 2 ^ mb
  if fmt = 5 then
    if e = 15 ∧ m = 7 then .nan else .fin neg (if e = 0 then m else (2 ^ mb + m) * 2 ^ (e - 1))
  else if e = 2 ^ eb - 1 then (if m = 0 then .inf neg else .nan)
  else .fin neg (if e = 0 then m else (2 ^ mb + m) * 2 ^ (e - 1))

/-- A two's complement number of `w` bits. -/
def signedOf (w raw : Nat) : Int :=
  let r := raw % 2 ^ w
  if r ≥ 2 ^ (w - 1) then (r : Int) - 2 ^ w else r

/-- The accumulator that one element starts (R235). -/
def accOf (fmt raw : Nat) : Acc :=
  match floatBits fmt with
  | none => { a := signedOf (8 * fmtBytes fmt) raw, nz := false }
  | some (eb, mb) =>
    match floatVal fmt eb mb raw with
    | .nan => { n := true, nz := false }
    | .inf neg => { pi := !neg, mi := neg, nz := false }
    | .fin neg mag => { a := if neg then -(mag : Int) else mag, nz := neg && mag == 0 }

/-- Two accumulators merged (R235). -/
def Acc.merge (x y : Acc) : Acc :=
  { a := x.a + y.a, n := x.n || y.n, pi := x.pi || y.pi, mi := x.mi || y.mi, nz := x.nz && y.nz }

/-- A merge of several accumulators. -/
def mergeAll : List Acc → Acc
  | [] => {}
  | [x] => x
  | x :: xs => x.merge (mergeAll xs)

/-- The number of bits of a number. -/
def bitLen (n : Nat) : Nat := if n = 0 then 0 else n.log2 + 1

/-- A result element: its pattern, and whether rounding changed it or it overflowed (R236). -/
structure Elem where
  raw : Nat
  inexact : Bool := false
  ovf : Bool := false
  deriving DecidableEq, Repr

/-- A magnitude in units of the smallest subnormal rounded to nearest even to a format (R236). -/
def roundMag (fmt eb mb n : Nat) : Elem :=
  let sh := bitLen n - (mb + 1)
  let k := n / 2 ^ sh
  let rem := n % 2 ^ sh
  let up := decide (2 * rem > 2 ^ sh) || (decide (2 * rem = 2 ^ sh) && k % 2 == 1)
  let k := if sh > 0 && up then k + 1 else k
  let raw := sh * 2 ^ mb + k
  let inf := infPattern fmt eb mb
  if raw ≥ inf then ⟨inf, true, true⟩ else ⟨raw, rem != 0, false⟩

/-- An accumulated value rounded or saturated to its format (R236). -/
def Acc.result (x : Acc) (fmt : Nat) : Elem :=
  match floatBits fmt with
  | none =>
    let w := 8 * fmtBytes fmt
    let hi : Int := 2 ^ (w - 1) - 1
    let lo : Int := -2 ^ (w - 1)
    if x.a > hi then ⟨2 ^ (w - 1) - 1, false, true⟩
    else if x.a < lo then ⟨2 ^ (w - 1), false, true⟩
    else ⟨(x.a % 2 ^ w).toNat, false, false⟩
  | some (eb, mb) =>
    let sgn := 2 ^ (eb + mb)
    if x.n || (x.pi && x.mi) then ⟨canonNan fmt, false, false⟩
    else if x.pi then ⟨infPattern fmt eb mb, false, false⟩
    else if x.mi then ⟨sgn + infPattern fmt eb mb, false, false⟩
    else if x.a = 0 then ⟨if x.nz then sgn else 0, false, false⟩
    else
      let r := roundMag fmt eb mb x.a.natAbs
      if r.raw = canonNan fmt ∨ x.a > 0 then r else { r with raw := sgn + r.raw }

/-- A step of the trailing zeros of a number. -/
def trailing : Nat → Nat → Nat
  | 0, _ => 0
  | f + 1, n => if n % 2 = 0 then 1 + trailing f (n / 2) else 0

/-- A slot of `P` and `W` (R231). -/
def slotOf (p : Nat) (w : Int) : List Byte := leBytes 8 (p + 512 * (w % 2 ^ 55).toNat)

/-- The slots of an accumulator (R231): the short form where the value fits it, the full form otherwise. -/
def Acc.slots (x : Acc) : List Byte :=
  if x.n || (x.pi && x.mi) then slotOf 511 0
  else if x.pi then slotOf 511 1
  else if x.mi then slotOf 511 2
  else if x.a = 0 then slotOf (if x.nz then 510 else 0) 0
  else
    let p := bitLen x.a.natAbs - 54
    if p ≤ 265 ∧ x.a % 2 ^ p = 0 then slotOf p (x.a / 2 ^ p)
    else slotOf 509 0 ++ leBytes 40 (x.a % 2 ^ 320).toNat

/-- What a slot with a reserved `P`, or a special slot with a reserved `W`, reads as (R231): the spec states nothing, so that it is
a free value of the slot's contents (log entry 19). -/
def reservedAcc (p : Nat) (w : Int) : Acc :=
  let v := Config.reservedSlot p w
  { a := signedOf 320 (v.toNat % 2 ^ 320), nz := v.getLsbD 320, n := v.getLsbD 321, pi := v.getLsbD 322, mi := v.getLsbD 323 }

/-- The accumulators of `n` elements read from slots (R231). -/
def readSlots : Nat → List Byte → List Acc
  | 0, _ => []
  | n + 1, bs =>
    let p := field bs 0 8 % 512
    let w := signedOf 55 (field bs 0 8 / 512)
    if p = 509 then { a := signedOf 320 (field bs 8 40), nz := false } :: readSlots n (bs.drop 48)
    else if p = 510 then { a := 0, nz := true } :: readSlots n (bs.drop 8)
    else if p = 511 then
      (if w = 1 then { pi := true, nz := false } else if w = 2 then { mi := true, nz := false }
        else if w = 0 then { n := true, nz := false } else reservedAcc p w : Acc) :: readSlots n (bs.drop 8)
    else (if p ≤ 265 then { a := w * 2 ^ p, nz := false } else reservedAcc p w : Acc) :: readSlots n (bs.drop 8)

/-- The patterns of `n` elements of a format. -/
def patterns (fmt n : Nat) (bs : List Byte) : List Nat :=
  (List.range n).map (fun i => field bs (i * fmtBytes fmt) (fmtBytes fmt))

/-- The bytes of elements of a format. -/
def elemBytes (fmt : Nat) (xs : List Nat) : List Byte := xs.flatMap (leBytes (fmtBytes fmt))

/-- The order of a floating-point pattern that is no NaN, -0 below +0 (R236). -/
def floatKey (eb mb raw : Nat) : Int :=
  let m := raw % 2 ^ (eb + mb)
  if raw / 2 ^ (eb + mb) % 2 = 1 then -(m : Int) - 1 else m

/-- A floating-point pattern is a NaN. -/
def isNan (fmt raw : Nat) : Bool :=
  match floatBits fmt with
  | some (eb, mb) => floatVal fmt eb mb raw == .nan
  | none => false

/-- The larger of two elements, or the smaller (R236). -/
def pickElem (fmt : Nat) (big : Bool) (x y : Nat) : Nat :=
  match floatBits fmt with
  | none =>
    let w := 8 * fmtBytes fmt
    if decide (signedOf w x < signedOf w y) = big then y else x
  | some (eb, mb) =>
    if isNan fmt x || isNan fmt y then canonNan fmt
    else if decide (floatKey eb mb x < floatKey eb mb y) = big then y else x

/-- The sum of two `FP64` patterns under IEEE 754 round-to-nearest-even (R237). -/
def addFp64 (x y : Nat) : Nat :=
  match floatVal 1 11 52 x, floatVal 1 11 52 y with
  | .nan, _ => canonNan 1
  | _, .nan => canonNan 1
  | .inf a, .inf b => if a = b then (if a then 2 ^ 63 else 0) + infPattern 1 11 52 else canonNan 1
  | .inf a, _ => (if a then 2 ^ 63 else 0) + infPattern 1 11 52
  | _, .inf b => (if b then 2 ^ 63 else 0) + infPattern 1 11 52
  | .fin _ _, .fin _ _ => (((accOf 1 x).merge (accOf 1 y)).result 1).raw

/-- Two elements of a plain operation other than an accumulated `SUM` combined (R236, R237). -/
def combine (wbop fmt x y : Nat) : Nat :=
  match wbop with
  | 1 => addFp64 x y
  | 2 => pickElem fmt true x y
  | 3 => pickElem fmt false x y
  | 4 => x &&& y
  | 5 => x ||| y
  | _ => x ^^^ y

/-- A NaN as it is delivered: canonical (R236, R237). -/
def canonical (fmt raw : Nat) : Nat := if isNan fmt raw then canonNan fmt else raw

/-- The inputs of one element combined in order, from the first on. -/
def combineAll (wbop fmt : Nat) : List Nat → Nat
  | [] => 0
  | x :: xs => xs.foldl (combine wbop fmt) (canonical fmt x)

/-- `n` lists of inputs turned into the inputs of each of `n` elements. -/
def columns {α : Type} (d : α) (n : Nat) (rows : List (List α)) : List (List α) :=
  (List.range n).map (fun i => rows.map (fun r => r.getD i d))

/-- What each rank receives of one element of a SCAN (R236): an empty prefix is +0. -/
def scanElem (inc : Bool) (fmt : Nat) (xs : List Nat) : List Elem :=
  let accs := xs.map (accOf fmt)
  (List.range xs.length).map fun r =>
    let part := accs.take (if inc then r + 1 else r)
    if part.isEmpty then ⟨0, false, false⟩ else (mergeAll part).result fmt

/-- The offsets and the total of one element of a `MANIFEST` (R238). -/
def manifestElem (xs : List Nat) : List Nat × Nat :=
  ((List.range xs.length).map (fun r => (xs.take r).foldl (· + ·) 0), xs.foldl (· + ·) 0)

/-- The flags and value of a predicate latched from a pattern (R136). -/
def predOf (fmt raw : Nat) : Pred :=
  match floatBits fmt with
  | none =>
    let v := signedOf (8 * fmtBytes fmt) raw
    { value := BitVec.ofInt 64 v, fmt := fmt, valid := true, neg := v < 0, zero := v == 0 }
  | some (eb, mb) =>
    let v := floatVal fmt eb mb raw
    { value := BitVec.ofNat 64 raw, fmt := fmt, valid := true, nan := v == .nan,
      inf := (match v with | .inf _ => true | _ => false), neg := raw / 2 ^ (eb + mb) % 2 == 1,
      zero := (match v with | .fin _ 0 => true | _ => false) }

/-- The converted value of a predicate or immediate as a rational in units of 2^-1074, or an infinity or NaN (R137): exact
from a floating-point format, rounded to nearest even from an integer. -/
def toFp64 (fmt raw : Nat) : Val :=
  match floatBits fmt with
  | some (eb, mb) =>
    match floatVal fmt eb mb raw with
    | .fin neg mag =>
      let q := if fmt = 1 then 1074 else 2 ^ (eb - 1) - 2 + mb
      .fin neg (mag * 2 ^ (1074 - q))
    | v => v
  | none =>
    let v := signedOf 64 raw
    let r := roundMag 1 11 52 (v.natAbs * 2 ^ 1074)
    match floatVal 1 11 52 r.raw with
    | .fin _ mag => .fin (v < 0) mag
    | x => x

/-- A value is less than another; false if either is NaN (R137). -/
def Val.lt : Val → Val → Bool
  | .nan, _ => false
  | _, .nan => false
  | .inf a, .inf b => a && !b
  | .inf a, .fin _ _ => a
  | .fin _ _, .inf b => !b
  | .fin a m, .fin b n => (if a then -(m : Int) else m) < (if b then -(n : Int) else n)

/-- The test of a `BRANCH` (R137). -/
def branchTest (test : Nat) (p : Pred) (imm : W64) : Bool :=
  let v := toFp64 p.fmt p.value.toNat
  let i := floatVal 1 11 52 imm.toNat
  match test with
  | 0 => true
  | 1 => p.nan || p.inf
  | 2 => !(p.nan || p.inf)
  | 3 => p.zero
  | 4 => !p.zero
  | 5 => p.value.toInt < imm.toInt
  | 6 => p.value.toInt ≥ imm.toInt
  | 7 => p.value == imm
  | 8 => p.value != imm
  | 9 => v.lt i
  | 10 => v != .nan && i != .nan && !v.lt i
  | 11 => p.value &&& imm != 0
  | _ => p.value &&& imm == 0

end Sys2Proof.Machine
end

