-- ==== Sys2Proof/Machine/HubOps.lean ====
section
/-!
DEFINITION. What the Phidor's commands share: basins and their sequencers (R115 to R150), the members on the path of a basin
(R141), the propagation and application of an `ABORT` (R144, R167, R206, R246), settling (R131), parking, and slot
accounting (R400).
-/

namespace Sys2Proof.Machine

/-- A basin that this Phidor sequences. -/
def State.seq? (s : State) (b : Nat) : Option Seq := tabGet? s.hub.seqs b

/-- Changes a sequenced basin. -/
def State.updSeq (s : State) (b : Nat) (f : Seq → Seq) : State :=
  s.hubUpd fun h => { h with seqs := tabAdj h.seqs b f }

/-- This Phidor sequences a basin in a generation. -/
def State.sequences (s : State) (b g : Nat) : Bool :=
  match s.seq? b with
  | some q => q.gen == g
  | none => false

/-- A membership is in force at a step (R119, R141). -/
def PathMember.at (m : PathMember) (step : StepNo) : Bool :=
  stepFrom step m.join && (match m.leave with | some l => stepLater l step | none => true)

/-- The memberships that this Phidor knows of a basin and generation. -/
def State.pathMembers (s : State) (b g : Nat) : List PathMember :=
  match s.hub.paths.find? (fun p => p.basin == b && p.gen == g) with
  | some p => p.members
  | none => []

/-- Changes the memberships known of a basin and generation. -/
def State.updPath (s : State) (b g : Nat) (f : List PathMember → List PathMember) : State :=
  s.hubUpd fun h =>
    if h.paths.any (fun p => p.basin == b && p.gen == g) then
      { h with paths := h.paths.map (fun p => if p.basin = b ∧ p.gen = g then { p with members := f p.members } else p) }
    else { h with paths := h.paths ++ [{ basin := b, gen := g, members := f [] }] }

/-- The ports that lead to a member of a basin (R153, R167). -/
def State.memberPorts (s : State) (b g : Nat) : List Nat := ((s.pathMembers b g).map (·.port)).eraseDups

/-- The ports that lead to a member in force at a step. -/
def State.portsAt (s : State) (b g : Nat) (step : StepNo) : List Nat :=
  (((s.pathMembers b g).filter (fun m => m.at step)).map (·.port)).eraseDups

/-- The members below this Phidor in force at a step (R155, R199). -/
def State.membersBelow (s : State) (b g : Nat) (step : StepNo) : Nat :=
  ((s.pathMembers b g).filter (fun m => m.at step)).length

/-- The ports towards a die: the port on which it is the peer, the port from which its frames have come, or every port down
where neither is known (log entry 16). -/
def State.routeDie (s : State) (die : Nat) : List Nat :=
  match s.phi.ports.find? (fun e => e.2.lstate == .up && (match e.2.peer with
      | some x => !x.phi && x.id.toNat == die
      | none => false)) with
  | some e => [e.1]
  | none =>
    match tabGet? s.hub.routes die with
    | some p => [p]
    | none => s.downPorts

/-- Remembers the port from which a die's frames come, here and in the memberships known of it. -/
def State.learnRoute (s : State) (die port : Nat) : State :=
  if port = s.uplink ∨ port = s.sister then s
  else s.hubUpd fun h =>
    { h with routes := tabSet h.routes die port,
             paths := h.paths.map fun p =>
               { p with members := p.members.map (fun m => if m.die = die then { m with port := port } else m) } }

/-- Queues a frame of a basin on ports. -/
def State.sendBasin (s : State) (ports : List Nat) (b g : Nat) (pl : Payload) : State :=
  s.queueAll .phi ports (BitVec.ofNat 12 b) (BitVec.ofNat 16 g) pl

/-- Sends a `MEMBER` join or leave to a die and notes the membership (R141). -/
def State.sendMemberTo (s : State) (b g action : Nat) (tear : Bool) (step : StepNo) (die : Nat) : State :=
  let ports := s.routeDie die
  let s := s.updPath b g fun l =>
    if action = 0 then
      l.filter (fun m => m.die != die) ++ (ports.take 1).map (fun p => { die := die, port := p, join := step, leave := none })
    else l.map (fun m => if m.die = die then { m with leave := some step } else m)
  s.sendBasin ports b g (.member { die := BitVec.ofNat 16 die, action := BitVec.ofNat 8 action, tear := tear, step := step })

/-- A tide entry (R126); one not written is a `NOP` (R121). -/
def Seq.entry (q : Seq) (i : Nat) : List Byte := tabGet (zeros 32) q.table i

/-- The opcode at an entry; past the last entry an `END` (R129). -/
def Seq.opAt (q : Seq) (i : Nat) : Nat := if i ≥ q.entries then 0x0C else field (q.entry i) 0 1

/-- The current step (R132): before the first launch `FIRST_STEP` - 1, which `BASIN_START` sets. -/
def Seq.current (q : Seq) : StepNo := q.lastIssued

/-- The number that the next step takes (R130). -/
def Seq.nextStep (q : Seq) : StepNo := q.lastIssued + 1

/-- The bell period in ns (R113). -/
def Seq.bp (q : Seq) : Nat := 2 ^ q.k

/-- The first multiple of `a` ns at or after an instant (R130). -/
def roundUp (t : W64) (a : Nat) : W64 := BitVec.ofNat 64 ((t.toNat + a - 1) / a * a)

/-- `OPID` of a reduction (R132). -/
def opidOf (step : StepNo) (tag : Nat) : W32 := BitVec.ofNat 32 (step.toNat % 2 ^ 24 * 256 + tag)

/-- The sequencer takes entries: the basin runs, no park has stopped it, and it is not `DETACHED` (R148). -/
def Seq.runs (q : Seq) : Bool := q.state == .running || q.state == .waiting

/-- The sequencer may execute its entry now: it runs, has not stopped, and no abort wave is in progress (R129, R144). -/
def Seq.live (q : Seq) : Bool := q.runs && !q.halted && !q.ending && q.waveNs.isNone && q.role != .detached

/-- Completes a pending patch that is discarded with `ABORTED` (R123). -/
def State.dropPatch (s : State) (b : Nat) : State :=
  match s.seq? b with
  | none => s
  | some q =>
    match q.patch with
    | none => s
    | some p => (s.updSeq b fun q => { q with patch := none }).finish .phi p.ring p.idx .aborted 0 0

/-- The reasons that record `TIDE_FAULT` (R150). -/
def tideFaultReason (r : Nat) : Bool := 4 ≤ r && r ≤ 9

/-- Records `TIDE_FAULT` of a basin with its reason (R366). -/
def State.tideFault (s : State) (b reason : Nat) : State := s.record .phi .tideFault (b + 65536 * reason)

/-- The destruction of a basin that does not run begins (R125): leaves with `TEAR` to every member, `DESTROYING`. The change is in the journal,
so that the commands that ask for it have been applied (R347, R349). -/
def State.tearDown (s : State) (b : Nat) : State :=
  match s.seq? b with
  | none => s
  | some q =>
    let s := (s.dropPatch b).updSeq b fun q =>
      { q with state := .destroying, issued := [], parkReq := none, halted := false, ending := false, waitNs := none,
               waveNs := none, goNs := none, joinNs := none, joinWait := [], tear := false }
    let s := s.hubUpd fun h => { h with tearing := h.tearing ++ [(b, q.gen)] }
    let joining := match q.change with
      | some c => c.1
      | none => []
    let s := ((q.members ++ joining).eraseDups).foldl (fun s d => s.sendMemberTo b q.gen 1 true q.nextStep d) s
    let s := if s.hub.fwCommits then s.journalRec ([4] ++ leBytes 2 b ++ leBytes 2 q.gen) else s
    q.destroy.foldl (fun s r => s.markApplied .phi r.1 r.2) s

/-- A `BASIN_DESTROY` that waited for the basin to stop goes on (R125). -/
def State.tearIfDue (s : State) (b : Nat) : State :=
  if (s.seq? b).any (·.tear) then s.tearDown b else s

/-- The basin enters `PARKED` (R123, R150); of a table lost with its pair nothing is left to execute (R324). -/
def State.enterParked (s : State) (b : Nat) (r : Nat × Nat) : State :=
  ((s.dropPatch b).updSeq b fun q =>
    { q with state := .parked, reason := r.1, reasonArg := r.2, waitNs := none, parkReq := none, halted := false,
             firm := false, hostPark := false, table := if q.tableLost then [] else q.table, joinNs := none, waveNs := none, goNs := none, parkAt := some (s.ns .phi) }).tearIfDue b

/-- The basin enters `ENDED` (R123, R150). -/
def State.enterEnded (s : State) (b : Nat) : State :=
  ((s.dropPatch b).updSeq b fun q => { q with state := .ended, ending := false, waitNs := none }).tearIfDue b

/-- A basin ends, or parks, once every issued step has settled and the sequencer has stopped: at a wait, at a `LAUNCH`, or
because the park stops it where it is (R125, R150); one that is `DETACHED` issues and executes nothing more (R148). -/
def State.rest (s : State) (b : Nat) : State :=
  match s.seq? b with
  | none => s
  | some q =>
    if !q.issued.isEmpty || !q.runs then s
    else if q.ending then s.enterEnded b
    else
      match q.parkReq with
      | some r =>
        if q.halted || q.state == .waiting || q.opAt q.pc == 0x01 || q.role == .detached then s.enterParked b r else s
      | none => s

/-- Stops the sequencer of a basin for a park with a reason: `PARKED` follows once every issued step has settled (R150). -/
def State.park (s : State) (b reason arg : Nat) : State :=
  match s.seq? b with
  | none => s
  | some q =>
    if !q.runs || q.halted then s
    else
      let s := if tideFaultReason reason then s.tideFault b reason else s
      (s.updSeq b fun q => { q with parkReq := some (reason, arg), halted := true, waitNs := none, ending := false,
                                    joinNs := none }).rest b

/-- A park that a rollback behind it does not undo (R142, R144, R325, R377). It takes the place of one that an entry asked for. -/
def State.parkFirm (s : State) (b reason arg : Nat) : State :=
  match s.seq? b with
  | none => s
  | some q =>
    if q.halted && q.firm then s.rest b
    else (s.updSeq b fun q => { q with halted := false, firm := true }).park b reason arg

/-- Bells of a basin counted in a class, at the basin's instance (R396, R400). -/
def State.bells (s : State) (b event n : Nat) : State := if n = 0 then s else s.count .phi event b n

/-- The counter of a gap's bells (R400). -/
def WaitClass.event : WaitClass → Nat
  | .back => 0x1204
  | .wasted => 0x1202
  | _ => 0x1203

/-- Bells of a settled step: its slot is retired, its gap goes to the class of the last wait (R400); those of a step that settles again are
counted. -/
def State.retireBells (s : State) (b : Nat) (i : Issued) : State :=
  if i.counted then s
  else ((s.bells b 0x1201 i.stride).bells b i.cls.event i.gap).count .phi 0x1205 b 1

/-- An issued step is settled: it has committed and its reductions have released (R131). -/
def Issued.settled (i : Issued) : Bool := i.committed && i.ops.isEmpty

/-- The issued steps of a basin that have not settled (R131). -/
def Seq.depth (q : Seq) : Nat := (q.issued.filter (fun i => !i.settled)).length

/-- A wait of the `LAUNCH` at the program counter has ended now (R131, R176). -/
def Seq.go (q : Seq) (now : W64) : Seq := if q.opAt q.pc = 0x01 then { q with goNs := some now } else q

/-- Takes settled steps from the issued ones in order (R131), so that the last settled step is one that no `ABORT` may undo (R151). The
count of aborts that name one step ends once a later step settles (R144). -/
def State.settle (s : State) (b : Nat) : Nat → State
  | 0 => s
  | n + 1 =>
    match s.seq? b with
    | none => s
    | some q =>
      match q.issued with
      | [] => s
      | i :: is =>
        if i.settled then
          let s := (s.retireBells b i).updSeq b fun q =>
            let same := q.abortJ.any (fun j => !stepLater i.step j)
            { q with issued := is, lastSettled := i.step, done := some { i with counted := true }, abortJ := if same then q.abortJ else none,
                     abortRun := if same then q.abortRun else 0 }
          s.settle b n
        else s

/-- A reduction that is executed for the current step after that step has settled opens it again (R131, R146): its release settles it. -/
def Seq.reopen (q : Seq) : Seq :=
  match q.done with
  | some i =>
    if q.issuedAny && i.step == q.lastIssued && q.issued.isEmpty then
      { q with issued := [i], lastSettled := i.step - 1, done := none }
    else q
  | none => q

/-- Settles what can settle, and lets the basin end or park. When the last of the steps settles, the wait of a membership change ends
(R130, R141). -/
def State.settleAll (s : State) (b : Nat) : State :=
  let open' := (s.seq? b).any (fun q => !q.issued.isEmpty)
  ((s.settle b (((s.seq? b).map (·.issued.length)).getD 0 + 1)).updSeq b fun q =>
    if open' && q.issued.isEmpty && !q.changes.isEmpty then q.go (s.ns .phi) else q).rest b

/-- Changes an issued step; when that frees room for another, the wait of R131 ends now. -/
def State.freeRoom (s : State) (b : Nat) (f : Seq → Seq) : State :=
  s.updSeq b fun q =>
    let q' := f q
    if q.depth ≥ 16 ∧ q'.depth < 16 then q'.go (s.ns .phi) else q'

/-- The step of an operation number lies above j, by its low 24 bits (R246). -/
def opAbove (opid : W32) (j : StepNo) : Bool :=
  ((opid >>> 8).setWidth 24 - j.setWidth 24 : BitVec 24).toInt > 0

/-- What an `ABORT` with `LAST_STEP` = j does at every Phidor (R172, R206, R246): counts of open gate uses, contexts of the
cancelled steps' operations and aggregations, and their keys, are discarded, and the discard windows begin: of 34 us for the frames of
those operations, and at an intermediate Phidor of 100 us for those whose context it frees (R230; log entry 77). -/
def State.phiAbort (s : State) (b g : Nat) (j : StepNo) : State :=
  let above (c : OpCtx) : Bool := c.basin == b && c.gen == g && opAbove c.opid j
  let now := s.ns .phi
  let freed := if s.sequences b g then [] else
    (s.hub.ops.filter above).map fun c => ({ basin := b, gen := g, opid := c.opid, atNs := now } : FreedOp)
  let s := s.hubUpd fun h =>
    { h with gates := h.gates.map (fun c => if c.basin = b ∧ c.gen = g then
                 { c with counts := [], firstNs := none, first := false, full := false, fullNs := none } else c),
             acks := h.acks.filter (fun c => !(c.basin == b && c.gen == g && stepLater c.step j)),
             ops := h.ops.filter (fun c => !above c),
             freed := freed ++ h.freed.filter (fun x => !elapsed now x.atNs (us 100)),
             gatherSeen := h.gatherSeen.filter (fun x => !(x.1 == b && x.2.1 == g && opAbove x.2.2 j)),
             marksDue := h.marksDue.filter (fun m => !(m.basin == b && m.gen == g && stepLater m.step j)),
             seen := h.seen.filter (fun x => !(x.basin == b && x.gen == g && stepLater x.step j)),
             discards := { basin := b, gen := g, lastStep := j, atNs := s.ns .phi }
               :: h.discards.filter (fun d => !elapsed (s.ns .phi) d.atNs (us 100)) }
  s.upd .phi fun c => { c with
    keys := c.keys.filter (fun k =>
      !(k.basin == b && k.gen == g && (k.kind == 0 || k.kind == 1) && stepLater k.step j)) }

/-- The reason with which a cause parks a basin at once (R325, R377). -/
def parkCause (cause : W16) : Option Nat :=
  if cause = Cause.memPairLost.w then some 12 else if cause = Cause.memberReset.w then some 13 else none

/-- The bells that a cancelled step owned before `x`, of its gap and its slot (R400; log entry 17). -/
def Issued.wasted (i : Issued) (bp : Nat) (x : W64) : Nat :=
  if i.counted then 0
  else if reached x i.l then i.gap + min i.stride ((x - i.l).toNat / bp)
  else if reached x i.gapFrom then min i.gap ((x - i.gapFrom).toNat / bp)
  else 0

/-- The membership change that a list of staged changes makes (R119, R140): the joining dies in ascending order and the
leaving dies. -/
def Seq.changeOf (q : Seq) : List Nat × List Nat :=
  let dies (add : Bool) := (q.changes.filter (fun c => c.add == add)).flatMap (fun c => tabGet [] q.lists c.list)
  ((dies true).mergeSort (· ≤ ·), dies false)

/-- Sends leaves of a step to dies (R141, R142). -/
def State.leaveAll (s : State) (b g : Nat) (step : StepNo) (dies : List Nat) : State :=
  dies.foldl (fun s d => s.sendMemberTo b g 1 false step d) s

/-- The membership change that an `ABORT` undoes (R142): that of the first cancelled step, or the one staged here for a step
that the other plane has issued; with the dies to which leaves are still owed. -/
def Seq.undone (q : Seq) (f : LaunchPl) (gone : List Issued) : Option (List Nat × List Nat × List Nat) :=
  match gone with
  | i :: _ => i.change.map (fun c => (c.1, c.2, c.1))
  | [] =>
    if f.step = q.nextStep ∧ f.bell ≠ 0 then
      match q.change with
      | some c => some (c.1, c.2, c.1)
      | none => if q.changes.isEmpty then none else some (q.changeOf.1, q.changeOf.2, q.changeOf.1 ++ q.changeOf.2)
    else none

/-- The park under way was asked for by an entry, so that going back behind that entry undoes it (R144). -/
def Seq.entryPark (q : Seq) : Bool := !q.firm && q.parkReq.any (fun r => [1, 4, 5, 6, 7, 9, 11].contains r.1)

/-- The snapshot of the first cancelled step restored (R144, R145), the bells up to `x` counted. -/
def Seq.restore (q : Seq) (p : Snap) (j : StepNo) (x : W64) : Seq :=
  { q with pc := p.pc, parkReq := if q.entryPark then (if q.hostPark then some (2, 0) else none) else q.parkReq,
           halted := q.halted && !q.entryPark, done := none, lctr := p.lctr, preds := p.preds, marks := p.marks, changes := p.changes, change := none,
           members := p.members, issuedAny := p.issuedAny, lastIssued := p.lastIssued, lastL := p.lastL,
           prevStride := p.prevStride, issued := q.issued.filter (fun i => !stepLater i.step j),
           bells := q.bells.filter (fun e => !stepLater e.1 j), sinceLaunch := 0, ending := false, bellsTo := some x,
           parkedNs := 0, winLeft := some 16 }

/-- The steps that an `ABORT` cancels keep their bells for 100 us, with those of the learned `ACK`s, which are forgotten; the bells that they
waste are counted (R146, R149). -/
def State.cancelSteps (s : State) (b : Nat) (q : Seq) (f : LaunchPl) (gone : List Issued) : State :=
  let now := s.ns .phi
  let keepTo := nsAdd now (us 100)
  let pairs := gone.flatMap (fun i => (shortStamp i.l :: i.sentBells).map fun l => (i.step, l, keepTo))
    ++ (q.learned.filter (fun x => stepLater x.step f.lastStep)).map (fun x => (x.step, x.bell, keepTo))
    ++ [(f.step, f.bell, keepTo)]
  let s := s.updSeq b fun q =>
    { q with cancelled := q.cancelled.filter (fun c => !reached now c.2.2) ++ pairs,
             learned := q.learned.filter (fun x => !stepLater x.step f.lastStep) }
  s.bells b 0x1202 ((gone.map (fun i => i.wasted q.bp (roundUp now q.bp))).foldl (· + ·) 0)

/-- The sequencer goes back to where it stood before the first cancelled step (R145, R146). -/
def State.rewind (s : State) (b : Nat) (q : Seq) (j : StepNo) (gone : List Issued) : State :=
  match gone with
  | [] => s
  | i :: _ =>
    let x := roundUp (s.ns .phi) q.bp
    let last := (gone.getLast?.map (fun (i : Issued) => nsAdd i.l ((i.stride * q.bp : Nat) : Int))).getD x
    let x := if later i.gapFrom x then i.gapFrom else if later x last then last else x
    s.updSeq b fun q => q.restore i.snap j x

/-- The membership change that a cancelled step would have made is undone: its joiners leave (R142). -/
def State.undoChange (s : State) (b : Nat) (q : Seq) (f : LaunchPl) (gone : List Issued) : State :=
  match q.undone f gone with
  | some c =>
    (s.leaveAll b q.gen (if gone.isEmpty then q.nextStep else f.lastStep + 1) c.2.2).updSeq b fun q =>
      { q with members := q.members.filter (fun d => !c.2.1.contains d), change := none, changes := [],
               joinWait := q.joinWait.filter (fun d => !c.1.contains d) }
  | none => s

/-- After an `ABORT` the sequencer parks, or issues the cancelled steps again once the wave has passed (R142, R144, R169, R325, R377). -/
def State.parkAborted (s : State) (b : Nat) (q : Seq) (f : LaunchPl) (gone : List Issued) : State :=
  match parkCause f.cause with
  | some r => s.parkFirm b r 0
  | none =>
    if q.state == .parked then s
    else if (q.undone f gone).isSome then s.parkFirm b 4 q.pc
    else if (s.seq? b).any (·.halted) || (q.ending && gone.isEmpty) then s.rest b
    else
      let run := if q.abortJ = some f.lastStep then q.abortRun + 1 else 1
      let s := s.updSeq b fun q => { q with abortJ := some f.lastStep, abortRun := run, waitNs := none, joinNs := none }
      if q.onAbort || run ≥ q.retryMax then s.parkFirm b 3 q.pc
      else if gone.isEmpty && q.waveNs.isSome then s
      else s.updSeq b fun q => { q with waveNs := some (nsAdd (s.ns .phi) (us 20)), rewait := true }

/-- What an `ABORT` does to the sequencer of its basin (R142, R144 to R146, R149, R169, R325, R377; log entry 18). One that is `DETACHED`
sends nothing and issues nothing again (R148). -/
def State.seqAbort (s : State) (b : Nat) (f : LaunchPl) : State :=
  match s.seq? b with
  | none => s
  | some q =>
    let s := s.updSeq b fun q => { q with aborts := satNat 32 (q.aborts + 1) }
    if !(q.runs || q.state == .parked) then s
    else
      let gone := q.issued.filter (fun i => stepLater i.step f.lastStep)
      let s := (s.cancelSteps b q f gone).rewind b q f.lastStep gone
      if q.role == .detached then
        match parkCause f.cause with
        | some r => s.parkFirm b r 0
        | none => s.rest b
      else (s.undoChange b q f gone).parkAborted b q f gone

/-- No `ABORT` names a `LAST_STEP` below the last settled step, once a step has settled (R151). -/
def Seq.maySend (q : Seq) (j : StepNo) : Bool := !(stepLater q.lastSettled j && q.lastSettled != q.firstStep - 1)

/-- Sends an `ABORT` from this sequencing Phidor down its plane and applies it here (R157, R204, R325, R377). One below the
last settled step is not sent (R151), nor one from a `DETACHED` sequencer (R148). -/
def State.phiStartAbort (s : State) (b g : Nat) (f : LaunchPl) : State :=
  match s.seq? b with
  | none => s
  | some q =>
    if !q.maySend f.lastStep || q.role == .detached then s
    else
      let s := s.addKey .phi b g f.step 2 f.bell (nsAdd (s.ns .phi) (us 100))
      let s := s.sendBasin (s.memberPorts b g) b g (.abort f)
      (s.phiAbort b g f.lastStep).seqAbort b f

/-- The short stamp of the L of an issued step, settled or not, 0 for a step not issued (R452). -/
def Seq.bellOf (q : Seq) (step : StepNo) : W32 :=
  match q.bells.find? (fun x => x.1 == step) with
  | some x => shortStamp x.2.1
  | none => 0

/-- An `ABORT` that this Phidor starts for a step of a reduction (R233, R324). -/
def abortPl (q : Seq) (step : StepNo) (st : Status) (cause : W16) : LaunchPl :=
  { step := step, bell := q.bellOf step, entry := 0, status := st.b, origin := 0, agg := false, cause := cause, count := 0,
    lastStep := step - 1 }

end Sys2Proof.Machine
end

