-- ==== Sys2Proof/Machine/HubWb.lean ====
section
/-!
DEFINITION. The weighbridge at a Phidor: operation contexts (R230, R327), partials (R231), gathered
operations (R232), the sequencing Phidor's results and residue chunks (R236 to R240), and closing (R136, R242).
-/

namespace Sys2Proof.Machine

/-- An operation context. -/
def State.op? (s : State) (b g : Nat) (opid : W32) : Option OpCtx :=
  s.hub.ops.find? (fun o => o.basin == b && o.gen == g && o.opid == opid)

/-- Two contexts are of one operation. -/
def OpCtx.same (o x : OpCtx) : Bool := x.basin == o.basin && x.gen == o.gen && x.opid == o.opid

/-- Puts an operation context in its place. -/
def State.setOp (s : State) (o : OpCtx) : State :=
  s.hubUpd fun h =>
    { h with ops := if h.ops.any o.same then h.ops.map (fun x => if o.same x then o else x) else h.ops ++ [o] }

/-- Frees an operation context; for 100 us frames of its key are discarded (R230). -/
def State.freeOp (s : State) (b g : Nat) (opid : W32) : State :=
  let now := s.ns .phi
  s.hubUpd fun h =>
    { h with ops := h.ops.filter (fun x => !(x.basin == b && x.gen == g && x.opid == opid)),
             gatherSeen := h.gatherSeen.filter (· != (b, g, opid)),
             freed := { basin := b, gen := g, opid := opid, atNs := now }
               :: h.freed.filter (fun x => !elapsed now x.atNs (us 100)) }

/-- A contribution frame is discarded: within 34 us of an `ABORT` that cancelled its step (R246), or within 100 us of the
end of its context (R230). -/
def State.wbDiscards (s : State) (b g : Nat) (opid : W32) : Bool :=
  let now := s.ns .phi
  s.hub.discards.any (fun d => d.basin == b && d.gen == g && opAbove opid d.lastStep && !elapsed now d.atNs (us 34))
    || s.hub.freed.any (fun x => x.basin == b && x.gen == g && x.opid == opid && !elapsed now x.atNs (us 100))

/-- The latest step that this Phidor knows of a basin: the last it issued, the last it saw announced, or the first join. -/
def State.latestStep (s : State) (b g : Nat) : StepNo :=
  match s.seq? b with
  | some q => q.lastIssued
  | none =>
    match s.hub.seen.find? (fun x => x.basin == b && x.gen == g) with
    | some x => x.step
    | none => (((s.pathMembers b g).head?).map (·.join)).getD 0

/-- The step of an operation number: the one nearest to the latest step known with the same low 24 bits (R132, R246). -/
def State.stepOfOp (s : State) (b g : Nat) (opid : W32) : StepNo :=
  let r := s.latestStep b g
  let d : BitVec 24 := (opid >>> 8).setWidth 24 - r.setWidth 24
  r + BitVec.ofInt 48 d.toInt

/-- `WBOP` of a context. -/
def OpCtx.wbop (o : OpCtx) : Nat := o.fmt.toNat / 16

/-- Element format of a context. -/
def OpCtx.efmt (o : OpCtx) : Nat := o.fmt.toNat % 16

/-- Data chunks of an operation that the sequencing Phidor has opened. -/
def OpCtx.chunks (o : OpCtx) : Nat := contribChunks o.wbop o.efmt o.len

/-- The chunks that this plane reduces: all, or for `FP64` `SUM` its home chunks (R237). -/
def State.wbTarget (s : State) (o : OpCtx) : List Nat :=
  (List.range o.chunks).filter (fun c => !fp64Sum o.wbop o.efmt || c % 2 == s.phiPlane.toNat)

/-- Records a weighbridge fault of an operation (R366). -/
def State.wbFault (s : State) (o : OpCtx) (c : Cause) : State :=
  s.record .phi c o.opid.toNat (leBytes 2 o.basin ++ leBytes 2 o.gen ++ leOf 6 o.step)

/-- A frame taken into a context: a plain chunk or partial of its port, a gathered chunk of its die; the frames of one
accumulator partial are joined (R230, R231). A copy of what is held changes nothing but the formats and last chunks seen (R233). -/
def OpCtx.take (o : OpCtx) (port : Nat) (f : WbPl) : OpCtx :=
  let o := { o with fmts := if o.fmts.contains f.fmt then o.fmts else o.fmts ++ [f.fmt],
                    ends := if f.last && !f.acc && !o.ends.contains f.chunk.toNat then o.ends ++ [f.chunk.toNat] else o.ends }
  let g := gathered (f.fmt.toNat / 16)
  let die := if g then field f.data 0 2 else 0
  let hit (x : Input) : Bool := x.chunk == f.chunk.toNat && (if g then x.die == die else x.port == port)
  if o.inputs.any hit then
    { o with inputs := o.inputs.map fun x =>
        if hit x ∧ !x.whole then { x with data := x.data ++ f.data, whole := f.last } else x }
  else
    { o with inputs := o.inputs ++ [{ port := port, die := die, chunk := f.chunk.toNat, fmt := f.fmt, acc := f.acc,
                                      last := f.last && !f.acc, whole := !f.acc || f.last, data := f.data }] }

/-- The inputs of a chunk in ascending port order. -/
def OpCtx.inputsOf (o : OpCtx) (c : Nat) : List Input :=
  (o.inputs.filter (fun x => x.chunk == c && x.whole)).mergeSort (fun x y => x.port ≤ y.port)

/-- A plain chunk is complete: held whole from every port of the operation's step (R230). -/
def State.wbComplete (s : State) (o : OpCtx) (c : Nat) : Bool :=
  let ports := s.portsAt o.basin o.gen o.step
  !ports.isEmpty && ports.all (fun p => o.inputs.any (fun x => x.chunk == c && x.port == p && x.whole))

/-- An accumulated operation (R230, R231). -/
def accumulated (wbop fmt : Nat) : Bool := wbop == 1 && fmt != 1

/-- The accumulators of an input's chunk. -/
def Input.accs (x : Input) (fmt : Nat) : List Acc :=
  let n := plainPer fmt
  if x.acc then readSlots n x.data else (patterns fmt n x.data).map (accOf fmt)

/-- The merged accumulators of a chunk. -/
def OpCtx.merged (o : OpCtx) (c : Nat) : List Acc :=
  (columns {} (plainPer o.efmt) ((o.inputsOf c).map (fun x => x.accs o.efmt))).map mergeAll

/-- The combined elements of a chunk of a plain operation that is not accumulated. -/
def OpCtx.combined (o : OpCtx) (c : Nat) : List Nat :=
  let n := plainPer o.efmt
  (columns 0 n ((o.inputsOf c).map (fun x => patterns o.efmt n x.data))).map (combineAll o.wbop o.efmt)

/-- Counts the element additions of a chunk (R396). A Phidor that has not opened the operation does not know its length, and adds the padding
of a last chunk as elements (log entry 87). -/
def State.countAdds (s : State) (o : OpCtx) (c : Nat) : State :=
  let n := plainPer o.efmt
  if o.wbop = 1 then s.count .phi 0x1301 0 ((o.inputsOf c).length * (if o.opened then min n (o.len - c * n) else n)) else s

/-- A byte string in pieces of 24 bytes. -/
def pieces : Nat → List Byte → List (List Byte)
  | 0, _ => []
  | n + 1, bs => if bs.length ≤ 24 then [padTo 24 bs] else bs.take 24 :: pieces n (bs.drop 24)

/-- A `WB_DATA` frame sent up. -/
def State.sendData (s : State) (o : OpCtx) (c : Nat) (last acc : Bool) (data : List Byte) : State :=
  s.sendBasin [s.uplink] o.basin o.gen
    (.wbData { opid := o.opid, chunk := BitVec.ofNat 16 c, fmt := o.fmt, last := last, acc := acc, inexact := false,
               ovf := false, data := data })

/-- The frames of an accumulator partial, the last with `LAST` (R231). -/
def State.sendSlots (s : State) (o : OpCtx) (c : Nat) : List (List Byte) → State
  | [] => s
  | [x] => s.sendData o c true true x
  | x :: xs => (s.sendData o c false true x).sendSlots o c xs

/-- Sends the partial of a complete chunk up the uplink (R230). -/
def State.sendPartial (s : State) (o : OpCtx) (c : Nat) : State :=
  let s := (s.countAdds o c).setOp { o with sent := c :: o.sent }
  if accumulated o.wbop o.efmt then
    let bs := (o.merged c).flatMap Acc.slots
    s.sendSlots o c (pieces (bs.length + 1) bs)
  else s.sendData o c ((o.inputsOf c).any (·.last)) false (padTo 24 (elemBytes o.efmt (o.combined c)))

/-- A `WB_RESULT` frame sent down ports; a `DETACHED` sequencer sends none (R148). -/
def State.sendResult (s : State) (o : OpCtx) (ports : List Nat) (c : Nat) (fmt : Byte) (last ix ov : Bool) (data : List Byte) :
    State :=
  if (s.seq? o.basin).any (·.role == .detached) then s
  else s.sendBasin ports o.basin o.gen
    (.wbResult { opid := o.opid, chunk := BitVec.ofNat 16 c, fmt := fmt, last := last, acc := false, inexact := ix, ovf := ov,
                 data := padTo 24 data })

/-- The ports down which the result of a member, or of every member, goes (R232). -/
def State.resultPorts (s : State) (o : OpCtx) : Option Nat → List Nat
  | none => s.portsAt o.basin o.gen o.step
  | some d => (((s.pathMembers o.basin o.gen).filter (fun m => m.die == d)).map (·.port)).take 1

/-- `DATA` of a `FAILED` control chunk (R223). -/
def failedData (cause : Cause) (first count : Nat) : List Byte :=
  padTo 24 (leBytes 2 cause.code ++ zeros 2 ++ leBytes 4 first ++ leBytes 4 count)

/-- Sends `FAILED` for chunks (R223, R233, R243). -/
def State.sendFailed (s : State) (o : OpCtx) (ports : List Nat) (cause : Cause) (first count : Nat) : State :=
  (s.sendResult o ports 0 0xFF false false false (failedData cause first count)).count .phi 0x1303 0 1

/-- Data chunks of an operation's result (R222). -/
def OpCtx.results (o : OpCtx) : Nat := resultChunks o.wbop o.efmt o.len

/-- A whole operation fails on this plane (R233). -/
def State.failOp (s : State) (o : OpCtx) : State :=
  if o.dead then s
  else
    let s := (s.wbFault o .wbMismatch).setOp { o with failed := List.range o.results, dead := true }
    s.sendFailed o (s.resultPorts o none) .wbMismatch 0 0xFFFFFFFF

/-- The residue bytes of residue chunk `k` of parity `p` over the kept chunks of one member (R240). -/
def residueBytes (kept : List Kept) (n per k p off : Nat) : List Byte :=
  ((List.range per).map (residueCovers per k p)).filterMap fun c =>
    if c < n then (kept.find? (fun x => x.chunk == c)).map (fun x => BitVec.ofNat 8 (chunkResidue (x.data.drop off))) else none

/-- The chunks that a residue chunk covers. -/
def covered (n per k p : Nat) : List Nat := ((List.range per).map (residueCovers per k p)).filter (· < n)

/-- Sends residue chunk `k` of parity `p`, once every chunk it covers has been sent (R240). -/
def State.sendResidueChunk (s : State) (o : OpCtx) (die : Option Nat) (sent : List Kept) (n k p : Nat) : State :=
  let per := if die.isSome then 20 else 24
  if (covered n per k p).all (fun x => sent.any (fun y => y.chunk == x)) then
    let head := match die with
      | some d => leBytes 2 d ++ zeros 2
      | none => []
    s.sendResult o (s.resultPorts o die) (n + 2 * k + p) 0xFD false false false
      (head ++ residueBytes sent n per k p head.length)
  else s

/-- Sends the residue chunk that covers chunk `c`, once every chunk it covers is kept (R240). -/
def State.sendResidue (s : State) (o : OpCtx) (die : Option Nat) (kept : List Kept) (n c : Nat) : State :=
  s.sendResidueChunk o die kept n (c / 2 / (if die.isSome then 20 else 24)) (c % 2)

/-- The result elements of a complete plain chunk (R236, R237). -/
def OpCtx.plainResult (o : OpCtx) (c : Nat) : List Elem :=
  let e := plainPer o.efmt
  let n := min e (o.len - c * e)
  if accumulated o.wbop o.efmt then ((o.merged c).take n).map (fun a => a.result o.efmt)
  else ((o.combined c).take n).map (fun r => ⟨r, false, false⟩)

/-- Releases a complete chunk of a plain operation at the sequencing Phidor: retained, sent down with its residue chunk
(R240, R242). -/
def State.releasePlain (s : State) (o : OpCtx) (c : Nat) : State :=
  let r := o.plainResult c
  let k : Kept := { die := none, chunk := c, data := padTo 24 (elemBytes o.efmt (r.map (·.raw))),
                    inexact := r.any (·.inexact), ovf := r.any (·.ovf) }
  let o := { o with sent := c :: o.sent, kept := o.kept ++ [k] }
  let o := { o with state := if (s.wbTarget o).all o.sent.contains then .released else .releasing }
  let s := (s.countAdds o c).setOp o
  let s := s.sendResult o (s.resultPorts o none) c o.fmt (c + 1 == o.chunks) k.inexact k.ovf k.data
  s.sendResidue o none o.kept o.chunks c

/-- What a member of the operation's step has contributed (R229). -/
def OpCtx.rowOf (o : OpCtx) (die : Nat) : List Nat :=
  let per := gatheredPer o.efmt
  let bytes := (List.range o.chunks).flatMap fun c =>
    match o.inputs.find? (fun x => x.die == die && x.chunk == c) with
    | some x => slice x.data 4 (per * fmtBytes o.efmt)
    | none => zeros (per * fmtBytes o.efmt)
  patterns o.efmt o.len bytes

/-- The results of a gathered operation by rank (R236, R238). -/
def OpCtx.gatheredResults (o : OpCtx) : List (List Elem) :=
  let cols := columns 0 o.len (o.ranks.map o.rowOf)
  if o.wbop = 9 then
    let ms := cols.map manifestElem
    (List.range o.ranks.length).map fun r =>
      ms.map (fun m => (⟨m.1.getD r 0, false, false⟩ : Elem)) ++ ms.map (fun m => ⟨m.2, false, false⟩)
  else
    let es := cols.map (scanElem (o.wbop == 7) o.efmt)
    (List.range o.ranks.length).map (fun r => es.map (fun e => e.getD r ⟨0, false, false⟩))

/-- The result chunks of one member of a gathered operation. -/
def OpCtx.memberChunks (o : OpCtx) (die : Nat) (res : List Elem) : List Kept :=
  let rf := resultFmt o.wbop o.efmt
  let per := gatheredPer rf
  (List.range (resultChunks o.wbop o.efmt o.len)).map fun c =>
    let xs := (res.drop (c * per)).take per
    { die := some die, chunk := c, data := leBytes 2 die ++ zeros 2 ++ padTo 20 (elemBytes rf (xs.map (·.raw))),
      inexact := xs.any (·.inexact), ovf := xs.any (·.ovf) }

/-- Sends the kept chunks of one member, or of every member, each with its residue chunk after the last it covers. -/
def State.sendKept (s : State) (o : OpCtx) (die : Option Nat) (n : Nat) (sent : List Kept) : List Kept → State
  | [] => s
  | k :: ks =>
    let s := s.sendResult o (s.resultPorts o die) k.chunk o.fmt (k.chunk + 1 == n) k.inexact k.ovf k.data
    let sent := sent ++ [k]
    (s.sendResidue o die sent n k.chunk).sendKept o die n sent ks

/-- Home chunks before the others (R228, R232). -/
def State.homeFirst (s : State) (l : List Kept) : List Kept :=
  l.filter (fun k => k.chunk % 2 == s.phiPlane.toNat) ++ l.filter (fun k => k.chunk % 2 != s.phiPlane.toNat)

/-- Releases a gathered operation when every member's contribution is complete (R232, R236, R238): every result chunk that has not
failed (R239, R240). -/
def State.releaseGathered (s : State) (o : OpCtx) : State :=
  let all := (o.ranks.zip o.gatheredResults).map (fun x => (o.memberChunks x.1 x.2).filter (fun k => !o.failed.contains k.chunk))
  let o := { o with kept := all.flatten, state := .released,
                    sent := (List.range o.results).filter (fun c => !o.failed.contains c) }
  let s := s.count .phi 0x1301 0 (o.ranks.length * o.len)
  all.foldl (fun s ks => s.sendKept o (ks.head?.bind (·.die)) o.results [] (s.homeFirst ks)) (s.setOp o)

/-- Every member has given every chunk of a gathered operation. -/
def OpCtx.gatherComplete (o : OpCtx) : Bool :=
  o.ranks.all (fun d => (List.range o.chunks).all (fun c => o.inputs.any (fun x => x.die == d && x.chunk == c)))

/-- The contributions contradict the `REDUCE` entry (R233): another format, a chunk beyond the last, or another last chunk. -/
def OpCtx.wrong (o : OpCtx) : Bool :=
  o.fmts.any (· != o.fmt) || o.inputs.any (fun x => x.chunk ≥ o.chunks) || o.ends.any (fun c => c + 1 != o.chunks)

/-- What an opened operation can do with its inputs: fail, or release what is complete (R233, R236). -/
def State.wbAdvance (s : State) (b g : Nat) (opid : W32) : State :=
  match s.op? b g opid with
  | none => s
  | some o =>
    if !o.opened || o.dead then s
    else if o.wrong then s.failOp o
    else if gathered o.wbop then
      if o.state == .collecting && o.gatherComplete then s.releaseGathered o else s
    else
      ((s.wbTarget o).filter (fun c => !o.sent.contains c && !o.failed.contains c && s.wbComplete o c)).foldl
        (fun s c => match s.op? b g opid with | some o => s.releasePlain o c | none => s) s

/-- A check of a lane (R239), or the rounding check, coded 0xFFFF (R240), has failed twice: the lasting fault `WB_RESIDUE`. A
lane is replaced by a spare lane under the health governor. -/
def State.laneFault (s : State) (o : OpCtx) (lane : Nat) : State :=
  let ext := leBytes 2 o.basin ++ leBytes 2 o.gen ++ leOf 6 o.step
  if lane = 0xFFFF then s.record .phi .wbResidue lane ext
  else (s.recordLasting .phi 5 lane .wbResidue lane ext).holdFault .phi 5 lane

/-- `FAILED` is sent down for the chunks of an opened operation that a lane has lost (R239). -/
def State.failChunks (s : State) (o : OpCtx) : List Nat → State
  | [] => s
  | c :: cs => (s.sendFailed o (s.resultPorts o none) .wbResidue c 1).failChunks o cs

/-- A chunk fails on this plane unless its partial or result has gone (R239, R240, R247): an intermediate Phidor discards it, a sequencing
one sends `FAILED`, once the operation is open. -/
def State.failChunk (s : State) (x : Nat × Nat × W32 × Nat) : State :=
  match s.op? x.1 x.2.1 x.2.2.1 with
  | none => s
  | some o =>
    if o.sent.contains x.2.2.2 || o.failed.contains x.2.2.2 then s
    else
      let o := { o with failed := o.failed ++ [x.2.2.2] }
      let s := s.setOp o
      if o.opened then s.failChunks o [x.2.2.2] else s

/-- A check that has failed (R239, R240): a transient fault of the lane where its repeat succeeds; the lasting fault otherwise, which fails
the chunks it affects of every operation. -/
def State.laneCheck (s : State) (o : OpCtx) (c : LaneCheck) : State :=
  if 352 ≤ c.lane ∧ c.lane ≠ 0xFFFF then s
  else if c.again then c.hit.foldl State.failChunk (s.laneFault o c.lane)
  else if c.lane < 352 then s.transient .phi 5 c.lane
  else s

/-- What an intermediate Phidor can send of a plain operation: the partial of a chunk that is complete and has not failed (R230). -/
def State.passUp (s : State) (b g : Nat) (opid : W32) (c : Nat) : State :=
  match s.op? b g opid with
  | some o =>
    if !gathered o.wbop && !o.sent.contains c && !o.failed.contains c && s.wbComplete o c then s.sendPartial o c else s
  | none => s

/-- A contribution frame taken at a Phidor (R230, R232, R233), with a check that fails while it is (R239, R240). -/
def State.wbData (s : State) (port b g : Nat) (f : WbPl) (check : Option LaneCheck) : State :=
  if s.wbDiscards b g f.opid || !(s.memberPorts b g).contains port then s
  else
    let seq := s.sequences b g
    let up (s : State) : State := if gathered (f.fmt.toNat / 16) && !seq then s.sendBasin [s.uplink] b g (.wbData f) else s
    let fresh : OpCtx := { basin := b, gen := g, opid := f.opid, fmt := f.fmt, step := s.stepOfOp b g f.opid }
    let held := (s.op? b g f.opid).isSome
    let o := (s.op? b g f.opid).getD fresh
    let checked (s : State) : State := match check with
      | some c => s.laneCheck o c
      | none => s
    if !held && !creditFree 8192 (s.counted 1) (s.hub.ops.map (·.basin)) b then checked (up (s.wbFault fresh .wbContextFull))
    else if !seq && f.fmt != o.fmt then checked (s.wbFault o .wbMismatch)
    else
      let s := checked (up (s.setOp (o.take port f)))
      if seq then s.wbAdvance b g f.opid else s.passUp b g f.opid f.chunk.toNat

/-- The retained element that an operation's predicate takes, unless both its mirror copies have failed (R136, R242): of the last rank of a SCAN, of the totals of a
`MANIFEST`. -/
def OpCtx.predElem (o : OpCtx) : Option Nat :=
  let rf := resultFmt o.wbop o.efmt
  let per := perChunk o.wbop rf
  let i := if o.wbop = 9 then o.len + o.psel else o.psel
  let who := if gathered o.wbop then o.ranks.getLast? else none
  let off := if gathered o.wbop then 4 else 0
  (o.kept.find? (fun k => k.die == who && k.chunk == i / per && !k.bad)).map fun k =>
    field k.data (off + i % per * fmtBytes rf) (fmtBytes rf)

/-- A predicate register latched by an operation, here and in the snapshots that await it (R136, R144). -/
def Seq.latch (q : Seq) (preg : Nat) (opid : W32) (v : Pred) : Seq :=
  let snapPred (p : Pred) : Pred := if p.await = some opid then v else p
  { q with preds := listAdj q.preds preg (fun p => { v with await := if p.await = some opid then none else p.await }),
           issued := q.issued.map fun i => { i with snap := { i.snap with preds := i.snap.preds.map snapPred } } }

/-- Closes an operation at the sequencing Phidor (R131, R136, R242). -/
def State.closeOp (s : State) (o : OpCtx) : State :=
  let s := s.sendResult o (s.resultPorts o none) 0 0xFE false false false []
  let s := (s.freeOp o.basin o.gen o.opid).count .phi 0x1302 0 1
  let s := s.freeRoom o.basin fun q =>
    { q with issued := q.issued.map fun i => { i with ops := i.ops.filter (· != o.opid) } }
  let s :=
    if o.pen && !fp64Sum o.wbop o.efmt then
      match o.predElem with
      | some raw => s.updSeq o.basin fun q => q.latch o.preg o.opid (predOf (resultFmt o.wbop o.efmt) raw)
      | none => (s.tideFault o.basin 8).updSeq o.basin fun q => { q with role := .detached, reason := 8 }
    else s
  s.settleAll o.basin

/-- The operations whose acknowledgement count has been full in the cycle close, at its end (R242, R247). -/
def State.closeFull (s : State) : State :=
  (s.hub.ops.filter (fun o => o.opened && o.full)).foldl (fun s o => s.closeOp o) s

/-- Opens the operation of a `REDUCE` (R132, R233): its entry's fields, the members of its step, and the contributions that
came before it. -/
def State.openOp (s : State) (b : Nat) (q : Seq) (wbop fmt len : Nat) (opid : W32) (pen : Bool) (preg psel : Nat) : State :=
  let step := q.current
  let base : OpCtx := (s.op? b q.gen opid).getD { basin := b, gen := q.gen, opid := opid, fmt := fmtByte wbop fmt }
  let o := { base with fmt := fmtByte wbop fmt, opened := true, step := step, len := len, pen := pen, preg := preg,
                       psel := psel, openNs := s.ns .phi, ranks := q.members }
  if (s.op? b q.gen opid).isNone && !creditFree 8192 (s.counted 1) (s.hub.ops.map (·.basin)) b then
    s.wbFault o .wbContextFull
  else ((s.setOp o).failChunks o o.failed).wbAdvance b q.gen opid

end Sys2Proof.Machine
end

