-- ==== Sys2Proof/Machine/Tide.lean ====
section
/-!
DEFINITION. Basins and their tide tables: the basin commands (R115 to R125) and what the sequencer does at each entry (R126
to R150).
-/

namespace Sys2Proof.Machine

/-- The bytes of an operand as a list of die numbers, as many as a command asks for. -/
def takeDies (dies : List Nat) (n : Nat) : List Nat := (List.range n).map (fun i => dies.getD i 0 % 65536)

/-- A basin command finds a slot of the command credit (R327): no basin holds more than 4 open, 64 in all with one reserved
for each counted basin, and one in `DESTROYING` comes after every other basin's waiting request. Open ones are destructions that have not
timed out (R300) and pending patches; every other basin command completes as it starts. -/
def State.basinRoom (s : State) (b : Nat) : Bool :=
  let waits (r : Ring) (d : Desc) : Bool := 0x10 ≤ d.opcode && d.opcode ≤ 0x17 && d.plBits 0 2 0 12 != b && r.mayStart d
  let behind := s.hub.tearing.any (·.1 == b) && s.phi.rings.any (fun e => e.2.inflight.any (waits e.2))
  let open_ (q : Seq) : Nat := (q.destroy.filter (fun r => (s.desc? .phi r.1 r.2).isSome)).length + (if q.patch.isSome then 1 else 0)
  let holders := s.hub.seqs.flatMap (fun e => List.replicate (open_ e.2) e.1)
  !behind && (holders.filter (· == b)).length < 4 && creditFree 64 (s.counted 1) holders b

/-- Runs a basin command for which there is credit (R296, R327). -/
def State.runBasin (s : State) (ring idx opcode : Nat) (k : Desc → State → State) : Result :=
  match s.desc? .phi ring idx with
  | none => nothing s
  | some d =>
    if s.basinRoom (d.plBits 0 2 0 12) then s.runDesc .phi ring idx opcode anyVariant k else nothing s

/-- Runs a basin command that names a held basin of its generation (R125). -/
def State.runHeld (s : State) (ring idx opcode : Nat) (k : Desc → Nat → Seq → State → State) : Result :=
  s.runBasin ring idx opcode fun d s =>
    let b := d.plBits 0 2 0 12
    match s.seq? b with
    | none => s.finish .phi ring idx .badDesc 0 0
    | some q => if q.gen ≠ d.pl 2 2 then s.finish .phi ring idx .genStale 0 0 else k d b q s

/-- Tide-table units that a table needs (R321): 64 MiB each. -/
def unitsFor (entries : Nat) : Nat := ceilDiv entries 2097152

/-- The memory pair that has room for a table (R321, log entry 20): the lower one first, of those that are not lost. -/
def State.pairFor (s : State) (entries : Nat) : Option Nat :=
  (List.range 2).find? (fun p => (s.hub.pairs[p]?).any (!·.lost) && s.hub.freeUnits.getD p 0 ≥ unitsFor entries)

/-- The fields of `BASIN_CREATE` are in range and its member list is one of dies below this Phidor (R120, R121). -/
def State.createOk (s : State) (d : Desc) (members : List Nat) : Bool :=
  let k := d.plBits 4 1 0 5
  let lead := d.pl 6 1
  let lim := d.pl 28 4
  (k == 0 || (6 ≤ k && k ≤ 20)) && (lead == 0 || 8 ≤ lead) && 1 ≤ d.pl 8 4 && d.pl 8 4 ≤ 65536 && 1 ≤ d.pl 12 4
    && d.pl 12 4 ≤ 16777216 && d.pl 16 8 % 64 == 0 && 1 ≤ d.pl 24 4 && d.pl 24 4 ≤ 100000000
    && (lim == 0 || (20 ≤ lim && lim ≤ 100000)) && members.eraseDups.length == members.length
    && members.all (fun m => s.dieLo ≤ m && m ≤ s.dieHi)

/-- BASIN_CREATE (R116, R120, R121, R318); `dies` is the member list read from `LIST_ADDR`. -/
def execBasinCreate (ring idx : Nat) (dies : List Nat) (s : State) : Result :=
  s.runBasin ring idx 0x10 fun d s =>
    let b := d.plBits 0 2 0 12
    let g := d.pl 2 2
    let members := takeDies dies (if d.pl 8 4 ≤ 65536 then d.pl 8 4 else 0)
    let entries := d.pl 12 4
    let held := s.seq? b
    let destroying := held.any (fun q => q.state == .destroying)
    if s.phi.inService then s.finish .phi ring idx .fenced 0 0
    else if !s.createOk d members then s.finish .phi ring idx .badDesc 0 0
    else if held.isSome && !destroying then s.finish .phi ring idx .conflict 0 0
    else if g = 0 ∨ destroying ∨ tabGet? s.hub.lastGen b = some g then s.finish .phi ring idx .genStale 0 0
    else
      match s.pairFor entries with
      | none => s.finish .phi ring idx .noSpace 0 0
      | some pair =>
        if s.hub.seqs.length ≥ 256 then s.finish .phi ring idx .noSpace 0 0
        else
          let k := d.plBits 4 1 0 5
          let retry := d.plBits 5 1 4 4
          let q : Seq :=
            { gen := g, k := if k = 0 then 10 else k, onAbort := d.plBit 5 1, retryMax := if retry = 0 then 3 else retry,
              annLeadUs := if d.pl 6 1 = 0 then 12 else d.pl 6 1, waitUs := d.pl 24 4,
              leadTimeoutUs := if d.pl 28 4 = 0 then 200 else d.pl 28 4, entries := entries, pair := pair,
              slot := ((List.range 256).find? (fun i => !s.hub.seqs.any (fun e => e.2.slot == i))).getD 0,
              members := members, ever := members,
              role := if bit1 (d.plBit 5 0) == s.phiPlane then .leader else .follower }
          let s := s.hubUpd fun h =>
            { h with seqs := tabSet h.seqs b q, lastGen := tabSet h.lastGen b g,
                     freeUnits := listAdj h.freeUnits pair (fun n => n - unitsFor entries) }
          let s := s.upd .phi fun c => { c with cnt.counters := c.cnt.counters.filter (fun x =>
            !(0x1201 ≤ x.event && x.event ≤ 0x1205 && x.inst == b)) }
          (s).finish .phi ring idx .ok 0 0

/-- A tide entry that R128 rejects. -/
def entryBad (q : Seq) (e : List Byte) : Bool :=
  let op := field e 0 1
  let align := field e 7 1 % 32
  let len := field e 6 2 % 8192
  op > 12
    || ((op == 4 || op == 6) && field e 8 3 ≥ q.entries)
    || (op == 1 && (field e 4 2 == 0 || align > 24 || q.k + align > 30))
    || (op == 2 && (len == 0 || len > 4096 || field e 10 2 % 4096 ≥ len))
    || (op == 4 && field e 5 1 % 32 > 12)

/-- The entries of a load as 32-byte strings with their indices. -/
def entriesOf (first : Nat) (data : List Byte) (n : Nat) : List (Nat × List Byte) :=
  (List.range n).map (fun i => (first + i, slice data (32 * i) 32))

/-- Writes entries into a table. -/
def Seq.write (q : Seq) (es : List (Nat × List Byte)) : Seq :=
  { q with table := es.foldl (fun t e => if e.2 = zeros 32 then tabDel t e.1 else tabSet t e.1 e.2) q.table }

/-- TIDE_LOAD (R122, R123); `data` is what `SRC_ADDR` gives. -/
def execTideLoad (ring idx : Nat) (data : List Byte) (s : State) : Result :=
  s.runBasin ring idx 0x11 fun d s =>
    let b := d.plBits 0 2 0 12
    let first := d.plBits 4 4 0 24
    let n := d.pl 8 4
    let patch := d.plBit 26 0
    match s.seq? b with
    | none => s.finish .phi ring idx .badDesc 0 0
    | some q =>
      if d.plBits 26 1 1 7 ≠ 0 ∨ d.pl 27 1 ≠ 0 ∨ n = 0 ∨ n > 16777216 ∨ d.pl 12 8 % 64 ≠ 0 ∨ first + n > q.entries then
        s.finish .phi ring idx .badDesc 0 0
      else if q.gen ≠ d.pl 2 2 then s.finish .phi ring idx .genStale 0 0
      else
        let atStep : StepNo := BitVec.ofNat 48 (d.pl 20 6)
        let allowed :=
          if patch then q.runs && n ≤ 65536 && q.patch.isNone && stepLater atStep q.lastIssued
          else q.state == .loading || q.state == .parked
        if !allowed then s.finish .phi ring idx .conflict 0 0
        else
          let bytes := padTo (32 * n) data
          if crc32c bytes ≠ BitVec.ofNat 32 (d.pl 28 4) then s.finish .phi ring idx .badDesc 0 0
          else if patch then
            s.updSeq b fun q => { q with patch := some { ring := ring, idx := idx, first := first, data := bytes, atStep := atStep } }
          else
            (s.updSeq b fun q => { q.write (entriesOf first bytes n) with
                reload := if q.tableLost || q.reason = 12 then q.reload ++ [(first, n)] else q.reload }).finish .phi ring idx .ok 0 0

/-- The index of the first entry that R128 rejects. -/
def Seq.firstBad (q : Seq) : Option Nat := (q.table.find? (fun e => entryBad q e.2)).map (·.1)

/-- CRC-32C over the whole table (R124). -/
def Seq.crc (q : Seq) : W32 := crc32c ((List.range q.entries).flatMap q.entry)

/-- Sends the joins of a step and waits for their confirmations, beside those still open (R124, R141, R176). -/
def State.joinAll (s : State) (b g : Nat) (step : StepNo) (dies : List Nat) : State :=
  let s := dies.foldl (fun s d => s.sendMemberTo b g 0 false step d) s
  s.updSeq b fun q =>
    { q with joinWait := q.joinWait.filter (fun d => !dies.contains d) ++ dies,
             joinNs := if dies.isEmpty then q.joinNs else some (s.ns .phi),
             ever := (q.ever ++ dies).eraseDups, purged := q.purged.filter (fun d => !dies.contains d) }

/-- BASIN_START (R124). While the sequencer block is in reset or out of service it completes with `FENCED` (R299, R373). `LAST_ISSUED` and `LAST_SETTLED` read `FIRST_STEP` - 1 before any step is issued or settled, of which R150 says
nothing (DESIGN CHOICE, log entry 75). -/
def execBasinStart (ring idx : Nat) (s : State) : Result :=
  s.runHeld ring idx 0x12 fun d b q s =>
    let start := d.plBits 12 4 0 24
    let at_ : W64 := BitVec.ofNat 64 (d.pl 16 8)
    let first : StepNo := BitVec.ofNat 48 (d.pl 4 6)
    if q.state ≠ .loading then s.finish .phi ring idx .conflict 0 0
    else if s.engineShut .phi 5 then s.finish .phi ring idx .fenced 0 0
    else if d.pl 10 2 ≠ 0 ∨ start ≥ q.entries then s.finish .phi ring idx .badDesc 0 0
    else if q.crc ≠ BitVec.ofNat 32 (d.pl 24 4) then s.finish .phi ring idx .conflict 0 0
    else
      match q.firstBad with
      | some i => ((s.updSeq b fun q => { q with reasonArg := i })).finish .phi ring idx .badDesc 0 0
      | none =>
        if at_.toNat % q.bp ≠ 0 then s.finish .phi ring idx .badDesc 0 0
        else
          let s := s.updSeq b fun q =>
            { q with state := .running, firstStep := first, lastIssued := first - 1, lastSettled := first - 1, pc := start,
                     floor := at_, winLeft := some 16, tableLost := false, reload := [] }
          let s := s.readPair q.pair (ceilDiv q.entries 2)
          (((s.joinAll b q.gen first q.members))).finish .phi ring idx .ok 0 0

/-- BASIN_PARK (R125). -/
def execBasinPark (ring idx : Nat) (s : State) : Result :=
  s.runHeld ring idx 0x13 fun _ b q s =>
    match q.state with
    | .running | .waiting =>
      let s := s.finish .phi ring idx .ok 0 0
      let s := s.updSeq b fun q => { q with hostPark := true }
      if q.parkReq.isSome then s
      else (s.updSeq b fun q => { q with parkReq := some (2, 0) }).rest b
    | .parked => s.finish .phi ring idx .ok 0 0
    | _ => s.finish .phi ring idx .conflict 0 0

/-- Ranges of entries cover the whole table. -/
def coversTable (n : Nat) (ranges : List (Nat × Nat)) : Bool :=
  ((ranges.mergeSort (fun a b => a.1 ≤ b.1)).foldl (fun (r : Nat) x => if x.1 ≤ r then max r (x.1 + x.2) else r) 0) ≥ n

/-- The time, in whole bells, for which a basin has been `PARKED` behind the last slot (R400). -/
def Seq.parkedSince (q : Seq) (now : W64) : Nat :=
  match q.parkAt, q.bellsTo with
  | some t, some e =>
    let a := roundUp (if later e t then e else t) q.bp
    let z := roundUp now q.bp
    if later z a then (z - a).toNat else 0
  | _, _ => 0

/-- BASIN_RESUME (R125, R299, R325, R373). `REASON` and `REASON_ARG` return to 0 (R150), the count of consecutive aborts at one step begins anew (R144),
and so does that of entries since the last `LAUNCH` (R129): of none of the three does the spec speak here (DESIGN CHOICE, log entry 75). -/
def execBasinResume (ring idx : Nat) (s : State) : Result :=
  s.runHeld ring idx 0x14 fun _ b q s =>
    if q.state ≠ .parked then s.finish .phi ring idx .conflict 0 0
    else if s.engineShut .phi 5 then s.finish .phi ring idx .fenced 0 0
    else if (q.tableLost || q.reason = 12) && !coversTable q.entries q.reload then s.finish .phi ring idx .conflict 0 0
    else
      match (if q.tableLost || q.reason = 12 then q.firstBad else none) with
      | some i => ((s.updSeq b fun q => { q with reasonArg := i })).finish .phi ring idx .badDesc 0 0
      | none =>
        let now := s.ns .phi
        let s := s.updSeq b fun q =>
          { q with state := .running, reason := 0, reasonArg := 0, tableLost := false, reload := [], waitNs := none,
                   rewait := true, cls := .none, sinceLaunch := 0, abortJ := none, abortRun := 0,
                   parkedNs := q.parkedNs + q.parkedSince now, fetched := false,
                   parkAt := none, joinNs := if q.joinWait.isEmpty then none else some now, winLeft := some 16 }
        (s).finish .phi ring idx .ok 0 0

/-- A destruction is complete when every die that was a member has confirmed its purge and a `BASIN_DESTROY` waits for it
(R125, R300): slot and contexts are freed, the tide-table units are dredged (R318, R328). -/
def State.finishDestroy (s : State) (b : Nat) : State :=
  match s.seq? b with
  | none => s
  | some q =>
    let waiting := q.destroy.filter (fun r => (s.desc? .phi r.1 r.2).isSome)
    if q.state != .destroying || waiting.isEmpty || !q.ever.all q.purged.contains then s
    else
      let s := waiting.foldl (fun s r => s.finish .phi r.1 r.2 .ok 0 0) s
      (s.hubUpd fun h =>
        { h with seqs := tabDel h.seqs b, tearing := h.tearing.filter (· != (b, q.gen)),
                 dredging := h.dredging ++ [(q.pair, unitsFor q.entries)],
                 paths := h.paths.filter (fun p => !(p.basin == b && p.gen == q.gen)),
                 gates := h.gates.filter (fun c => !(c.basin == b && c.gen == q.gen)),
                 acks := h.acks.filter (fun c => !(c.basin == b && c.gen == q.gen)),
                 ops := h.ops.filter (fun c => !(c.basin == b && c.gen == q.gen)) })

/-- BASIN_DESTROY (R125): a basin that runs parks first, its issued steps running to their end or abort; then leaves with `TEAR` go to every
member, `DESTROYING`; a repeated one sends no frame. -/
def execBasinDestroy (ring idx : Nat) (s : State) : Result :=
  s.runHeld ring idx 0x15 fun _ b q s =>
    let s := s.updSeq b fun q => { q with destroy := q.destroy ++ [(ring, idx)] }
    if q.state = .destroying then (s.markApplied .phi ring idx).finishDestroy b
    else if q.runs then
      (s.updSeq b fun q =>
        { q with tear := true, hostPark := true, parkReq := match q.parkReq with | some r => some r | none => some (2, 0) }).rest b
    else s.tearDown b

/-- BASIN_LEAD (R125, R149). -/
def execBasinLead (ring idx : Nat) (s : State) : Result :=
  s.runHeld ring idx 0x16 fun d b _ s =>
    let mine := bit1 (d.plBit 4 0) == s.phiPlane
    let s := s.updSeq b fun q =>
      if q.role = .detached then q
      else { q with role := if mine then .leader else .follower, goNs := if mine && q.role = .leader then q.goNs else none }
    (s).finish .phi ring idx .ok 0 0

/-- MEMBER_LIST (R125); `dies` is the list read from `ADDR`. -/
def execMemberList (ring idx : Nat) (dies : List Nat) (s : State) : Result :=
  s.runHeld ring idx 0x17 fun d b q s =>
    let l := d.pl 4 1
    let n := d.pl 8 4
    if n = 0 ∨ n > 65536 ∨ d.pl 12 8 % 64 ≠ 0 then s.finish .phi ring idx .badDesc 0 0
    else if q.issued.any (fun i => i.lists.contains l) then s.finish .phi ring idx .conflict 0 0
    else (s.updSeq b fun q => { q with lists := tabSet q.lists l (takeDies dies n) }).finish .phi ring idx .ok 0 0

/-- The sequencer takes an entry of this opcode now: it runs, the entry is in its window, and the limit of R129 is not
passed (R129, R319). -/
def Seq.takes (q : Seq) (op : Nat) : Bool := q.live && q.winLeft != some 0 && q.opAt q.pc == op

/-- Stops a sequencer that has lost its table where the next entry is a `LAUNCH` or is not in its window (R325). -/
def State.stopLost (s : State) (b : Nat) : State :=
  match s.seq? b with
  | none => s
  | some q =>
    if !q.tableLost || q.halted || !q.runs then s
    else if q.opAt q.pc = 0x01 then s.park b 12 0
    else if q.winLeft = some 0 then
      let s := s.phiStartAbort b q.gen
        { step := q.lastSettled + 1, bell := q.bellOf (q.lastSettled + 1), entry := 0, status := Status.aborted.b, origin := 0,
          agg := false, cause := Cause.memPairLost.w, count := 0, lastStep := q.lastSettled }
      s.park b 12 0
    else s

/-- The entries left in the window after a jump (R319): of the 256 behind the current entry those from the target on, or the first 16 at a
target outside them. -/
def Seq.jumpLeft (q : Seq) (next : Nat) : Option Nat :=
  let held := match q.winLeft with
    | some n => q.pc + n
    | none => q.pc + 257
  if next = q.pc + 1 then q.winLeft.map (· - 1)
  else if q.pc ≤ next && next + 16 ≤ held then some (held - next)
  else some 16

/-- The entry at the program counter has executed and `next` follows (R126, R129, R319). -/
def State.advance (s : State) (b : Nat) (next : Nat) (jump : Bool) : State :=
  match s.seq? b with
  | none => s
  | some q =>
    let brk := (byteAt (q.entry q.pc) 1).getLsbD 0
    let launch := q.opAt q.pc == 0x01
    let s := s.updSeq b fun q =>
      { q with pc := next, waitNs := none, goNs := none, rewait := false, state := if q.state = .waiting then .running else q.state,
               winLeft := if jump then q.jumpLeft next else q.winLeft.map (· - 1),
               sinceLaunch := if launch then 0 else q.sinceLaunch + 1 }
    if brk then s.park b 11 0 else (s.stopLost b).rest b

/-- The sequencer waits at its entry (R126, R150): it stops there if a park is asked for and every issued step has
settled. -/
def State.waitAt (s : State) (b : Nat) (cls : WaitClass) : State :=
  match s.seq? b with
  | none => s
  | some _ =>
    let s := s.updSeq b fun q =>
      { q with state := .waiting, waitNs := some (match q.waitNs with | some t => t | none => s.ns .phi),
               cls := if cls = .none then q.cls else cls, fetched := q.fetched && cls = .none }
    s.rest b

/-- Runs the entry at the program counter if it is of this opcode; the 257th entry in a row that is no `LAUNCH` parks the
basin with reason 5 instead (R129). -/
def State.tide (s : State) (b op : Nat) (k : Seq → List Byte → State → State) : Result :=
  match s.seq? b with
  | none => nothing s
  | some q =>
    if !q.takes op then nothing s
    else if op ≠ 0x01 ∧ q.sinceLaunch ≥ 256 then .next (s.park b 5 q.pc)
    else .next (k q (q.entry q.pc) s)

/-- TIDE_NOP (R126). -/
def execTideNop (basin : Nat) (s : State) : Result := s.tide basin 0x00 fun q _ s => s.advance basin (q.pc + 1) false

/-- Applies a pending patch whose step is about to be issued (R123, R128). -/
def State.applyPatch (s : State) (b : Nat) (p : Patch) : State :=
  match s.seq? b with
  | none => s
  | some q =>
    let es := entriesOf p.first p.data (p.data.length / 32)
    let s := s.updSeq b fun q => { q with patch := none }
    match es.find? (fun e => entryBad q e.2) with
    | some e => (s.finish .phi p.ring p.idx .badDesc 0 0).park b 7 e.1
    | none => (s.updSeq b fun q => q.write es).finish .phi p.ring p.idx .ok 0 0

/-- A combined membership change is allowed (R140). -/
def State.changeOk (s : State) (q : Seq) (c : List Nat × List Nat) : Bool :=
  let n := q.members.length + c.1.length - c.2.length
  c.1.all (fun d => !q.members.contains d && s.dieLo ≤ d && d ≤ s.dieHi) && c.2.all q.members.contains
    && c.1.eraseDups.length == c.1.length && c.2.eraseDups.length == c.2.length && 0 < n && n ≤ 65536

/-- A hall gate use of the basin is open (R207). -/
def State.gateOpen (s : State) (b g : Nat) : Bool :=
  s.hub.gates.any (fun c => c.basin == b && c.gen == g && !c.counts.isEmpty)

/-- The members after a membership change (R119). -/
def changedMembers (members : List Nat) (c : List Nat × List Nat) : List Nat :=
  members.filter (fun d => !c.2.contains d) ++ c.1

/-- The launch bell that the leader chooses (R130). -/
def Seq.chooseL (q : Seq) (now : W64) (align : Nat) : W64 :=
  let t := nsAdd now (us q.annLeadUs)
  let prev := nsAdd q.lastL ((q.prevStride * q.bp : Nat) : Int)
  let t := if q.issuedAny && later prev t then prev else t
  let t := if later q.floor t then q.floor else t
  roundUp t (q.bp * 2 ^ align)

/-- The class of the gap of a step issued now (R400): that of the last wait, where a fetch wait counts, as pipeline depth, only when it delays
the `ANNOUNCE` (R319), which then neither the slot before nor the floor does. -/
def Seq.gapClass (q : Seq) (now : W64) : WaitClass :=
  let t := nsAdd now (us q.annLeadUs)
  let prev := nsAdd q.lastL ((q.prevStride * q.bp : Nat) : Int)
  if q.fetched && !(q.issuedAny && reached prev t) && !reached q.floor t then .front else q.cls

/-- The wave frame of an issued step from a sequencing Phidor (R46, R154). -/
def wavePl (i : Issued) : LaunchPl :=
  { step := i.step, bell := shortStamp i.l, entry := BitVec.ofNat 24 i.entry, status := 0, origin := 0, agg := false,
    cause := 0, count := 0, lastStep := 0 }

/-- Sends the `ANNOUNCE` of an issued step down the plane (R130, R147, R154). -/
def State.sendAnnounce (s : State) (b g : Nat) (i : Issued) : State :=
  s.sendBasin (s.portsAt b g i.step) b g (.announce (wavePl i))

/-- The total of the `OK` acknowledgements of a key (R155). -/
def State.ackTotal (s : State) (b g : Nat) (step : StepNo) (bell : W32) : Nat :=
  match s.hub.acks.find? (fun c => c.basin == b && c.gen == g && c.step == step && c.bell == bell) with
  | some c => (c.counts.map (·.2)).foldl (· + ·) 0
  | none => 0

/-- The commit cutoff of a step at this Phidor (R156). -/
def State.cutoff (s : State) (l : W64) : W64 := nsAdd l (-(2800 + 400 * (s.tier : Int)))

/-- Changes an issued step. -/
def State.updIssued (s : State) (b : Nat) (step : StepNo) (f : Issued → Issued) : State :=
  s.updSeq b fun q => { q with issued := q.issued.map (fun i => if i.step = step then f i else i) }

/-- Sends `COMMIT` for an issued step whose count is full, no later than its cutoff (R156). -/
def State.tryCommit (s : State) (b : Nat) (step : StepNo) : State :=
  match s.seq? b with
  | none => s
  | some q =>
    match q.issued.find? (fun i => i.step == step) with
    | none => s
    | some i =>
      if !i.commitSent && !i.cut && q.role != .detached && s.ackTotal b q.gen step (shortStamp i.l) == i.members.length
          && reached (s.cutoff i.l) (s.ns .phi) then
        (s.updIssued b step fun i => { i with commitSent := true }).sendBasin (s.portsAt b q.gen step) b q.gen
          (.commit (wavePl i))
      else s

/-- Issues the next step at bell L (R130, R134, R140 to R143, R147, R400). -/
def State.issue (s : State) (b : Nat) (q : Seq) (e : List Byte) (l : W64) : State :=
  let step := q.nextStep
  let stride := field e 4 2
  let gapFrom := q.bellsTo.getD l
  let members := match q.change with
    | some c => changedMembers q.members c
    | none => q.members
  let snap : Snap :=
    { pc := q.pc, lctr := q.lctr, preds := q.preds, marks := q.marks, changes := q.changes, members := q.members,
      issuedAny := q.issuedAny, lastIssued := q.lastIssued, lastL := q.lastL, prevStride := q.prevStride }
  let i : Issued :=
    { step := step, l := l, stride := stride, entry := q.pc, members := members, snap := snap,
      announced := q.role != .leader, commitSent := false, cut := false, committed := false, ops := [],
      change := q.change, lists := q.changes.map (·.list), gapFrom := gapFrom,
      gap := ((nsDiff l gapFrom - (q.parkedNs : Int)) / (q.bp : Int)).toNat,
      cls := q.gapClass (q.goNs.getD (s.ns .phi)) }
  let s := s.updSeq b fun q =>
    { q with issuedAny := true, lastIssued := step, lastL := l, prevStride := stride, members := members, change := none,
             changes := [], marks := [], issued := q.issued ++ [i], cls := .none, fetched := false, parkedNs := 0,
             bellsTo := some (nsAdd l ((stride * q.bp : Nat) : Int)), bells := (step, l, members.length) :: q.bells,
             learned := q.learned.filter (fun x => stepLater x.step step) }
  let s := s.hubUpd fun h =>
    { h with marksDue := h.marksDue ++ q.marks.map (fun m => { mark := m, basin := b, gen := q.gen, step := step, l := l }) }
  let s := if q.role != .leader && reached (nsAdd l (-8000)) (s.ns .phi) then s.sendAnnounce b q.gen i else s
  (s.advance b (q.pc + 1) false).tryCommit b step

/-- A follower that has learned another step or entry than its own stops (R148). -/
def State.detach (s : State) (b : Nat) : State :=
  ((s.tideFault b 8).updSeq b fun q => { q with role := .detached, reason := 8 })

/-- The follower's part of a `LAUNCH` (R147, R148): issue what was learned, or wait for it. -/
def State.followLaunch (s : State) (b : Nat) (q : Seq) (e : List Byte) : State :=
  match q.learned.find? (fun x => x.step == q.nextStep) with
  | some x => if x.entry.toNat = q.pc then s.issue b q e x.lNs else s.detach b
  | none => if q.learned.isEmpty then s.waitAt b .none else s.detach b

/-- What a `LAUNCH` does once depth and membership allow it: now_ns of R130 is the instant at which its last wait ended (R131, R169, R176),
or that of reaching it. -/
def State.doLaunch (s : State) (b : Nat) : State :=
  match s.seq? b with
  | none => s
  | some q =>
    let e := q.entry q.pc
    match q.role with
    | .leader => s.issue b q e (q.chooseL (q.goNs.getD (s.ns .phi)) (field e 7 1 % 32))
    | _ => s.followLaunch b q e

/-- The sequencer waits at a `LAUNCH` for depth or membership (R131, R141, R176); this is no standing ready (R149). -/
def State.waitFront (s : State) (b : Nat) : State :=
  (s.waitAt b .front).updSeq b fun q => if q.state = .waiting then { q with waitNs := none } else q

/-- The membership part of a `LAUNCH` (R140, R141, R176, R207): earlier steps settle, the frames are sent once, and every
joining die confirms. -/
def State.memberLaunch (s : State) (b : Nat) (q : Seq) : State :=
  if q.changes.isEmpty then (if q.joinWait.isEmpty then s.doLaunch b else s.waitFront b)
  else if !q.issued.isEmpty then s.waitFront b
  else
    match q.change with
    | some _ =>
      if !q.joinWait.isEmpty then s.waitFront b
      else if s.gateOpen b q.gen then s.park b 4 q.pc
      else s.doLaunch b
    | none =>
      let c := q.changeOf
      if !s.changeOk q c || s.gateOpen b q.gen then s.park b 4 q.pc
      else
        let s := s.joinAll b q.gen q.nextStep c.1
        let s := (s.leaveAll b q.gen q.nextStep c.2).updSeq b fun q => { q with change := some c }
        if (s.seq? b).any (·.joinWait.isEmpty) then s.doLaunch b else s.waitFront b

/-- TIDE_LAUNCH (R123, R125, R130, R131, R141, R147, R325). -/
def execTideLaunch (basin : Nat) (s : State) : Result :=
  s.tide basin 0x01 fun q _ s =>
    if q.tableLost then s.park basin 12 0
    else if q.parkReq.isSome then s.rest basin
    else if q.issuedAny && q.lastIssued == BitVec.allOnes 48 then s.park basin 9 q.pc
    else
      match q.patch with
      | some p =>
        if p.atStep = q.nextStep then s.applyPatch basin p
        else if q.depth ≥ 16 then s.waitFront basin
        else s.memberLaunch basin q
      | none => if q.depth ≥ 16 then s.waitFront basin else s.memberLaunch basin q

/-- ANNOUNCE_SEND (R130, R154): at L - `ANN_LEAD_US` the leader's `ANNOUNCE` goes down its plane. -/
def execAnnounceSend (basin : Nat) (step : StepNo) (s : State) : Result :=
  match s.seq? basin with
  | none => nothing s
  | some q =>
    match q.issued.find? (fun i => i.step == step) with
    | none => nothing s
    | some i =>
      if i.announced || q.role == .detached || !reached (s.ns .phi) (nsAdd i.l (-us q.annLeadUs)) then nothing s
      else .next ((s.updIssued basin step fun i => { i with announced := true }).sendAnnounce basin q.gen i)

/-- TIDE_REDUCE (R132, R146, R233). -/
def execTideReduce (basin : Nat) (s : State) : Result :=
  s.tide basin 0x02 fun q e s =>
    let wbop := field e 4 1
    let fmt := field e 5 1
    let len := field e 6 2 % 8192
    let opid := opidOf q.current (field e 8 1)
    let preg := field e 9 1 % 16
    let pen := (byteAt e 9).getLsbD 7
    if (s.op? basin q.gen opid).any (·.opened) then s.park basin 6 q.pc
    else
      let s := s.updSeq basin fun q =>
        { q with preds := if pen then listAdj q.preds preg (fun p => { p with valid := false, await := some opid }) else q.preds }
      if !comboOk wbop fmt || (gathered wbop && q.members.length * len > 16777216) then
        let s := s.record .phi .wbMismatch opid.toNat (leBytes 2 basin ++ leBytes 2 q.gen ++ leOf 6 q.current)
        let s := s.updSeq basin Seq.reopen
        if ((s.seq? basin).getD q).maySend (q.current - 1) then
          s.phiStartAbort basin q.gen (abortPl q q.current .badDesc Cause.wbMismatch.w)
        else s.advance basin (q.pc + 1) false
      else
        let s := (s.updSeq basin Seq.reopen).updIssued basin q.current fun i => { i with ops := i.ops ++ [opid] }
        (s.openOp basin q wbop fmt len opid pen preg (field e 10 2 % 4096)).advance basin (q.pc + 1) false

/-- The instant after which a `GATE_WAIT` takes a release (R133): the current step's L; before the first launch, its own
execution. -/
def Seq.gateAfter (q : Seq) (now : W64) : W64 :=
  if q.issuedAny then q.lastL else q.waitNs.getD now

/-- The release bells that a `GATE_WAIT` of a gate takes, in the order of the releases (R133): those after the current step's L, or before
the first launch those of releases that come after the entry began to wait. A bell is held as its short stamp, and is the one nearest to
the instant at which the release was seen (log entry 76). -/
def State.gateHits (s : State) (b : Nat) (q : Seq) (gate : Nat) : List W64 :=
  let after := q.gateAfter (s.ns .phi)
  let rels := (s.hub.gates.filter (fun c => c.basin == b && c.gen == q.gen && c.gate == gate)).flatMap (·.releases)
  if q.issuedAny then (rels.map (fun r => expandStamp r.2 r.1)).filter (fun rb => later rb after)
  else (rels.filter (fun r => q.waitNs.isSome && reached r.2 after)).map (fun r => expandStamp r.2 r.1)

/-- TIDE_GATE_WAIT (R133): floor_ns of R130 takes the release bell. -/
def execTideGateWait (basin : Nat) (s : State) : Result :=
  s.tide basin 0x03 fun q e s =>
    match s.gateHits basin q (field e 4 2 % 4096) with
    | [] => s.waitAt basin .back
    | rb :: _ => (s.updSeq basin fun q => { q with floor := rb }).advance basin (q.pc + 1) false

/-- The arrivals of the open use of a gate at this Phidor. -/
def GateCtx.total (c : GateCtx) : Nat := (c.counts.map (·.2)).foldl (· + ·) 0

/-- `EXT` of a gate timeout at a Phidor (R366). -/
def gateExt (b g : Nat) (use : W32) (n : Nat) : List Byte := leBytes 2 b ++ leBytes 2 g ++ leOf 4 use ++ leBytes 4 n

/-- The gate timeout of R204: recorded, and an `ABORT` down the plane. DESIGN CHOICE (log 86): its `BELL` is the stamp of L that R452 names,
also where L lies more than the 1 s of R20 back. -/
def State.gateTimedOut (s : State) (b : Nat) (q : Seq) (gate : Nat) (step : StepNo) : State :=
  let c := s.hub.gates.find? (fun c => c.basin == b && c.gen == q.gen && c.gate == gate)
  let n := match c with
    | some c => c.total
    | none => 0
  let use : W32 := match c with
    | some c => c.released + 1
    | none => 0
  let s := s.record .phi .gateTimeout (gate + 4096 + 65536 * 0xFF) (gateExt b q.gen use n)
  let last := if stepLater (step - 1) q.lastSettled then step - 1 else q.lastSettled
  s.phiStartAbort b q.gen
    { step := step, bell := q.bellOf step, entry := BitVec.ofNat 24 gate, status := Status.timeout.b, origin := 0, agg := true,
      cause := Cause.gateTimeout.w, count := BitVec.ofNat 32 n, lastStep := last }

/-- GATE_WAIT_TIMEOUT (R133, R204): no such release is there, and the limit runs from L, or from the execution of an entry executed again. -/
def execGateWaitTimeout (basin : Nat) (s : State) : Result :=
  match s.seq? basin with
  | none => nothing s
  | some q =>
    let e := q.entry q.pc
    let lim := if field e 8 4 = 0 then q.waitUs else field e 8 4
    match q.waitNs with
    | none => nothing s
    | some w =>
      let from_ := if q.rewait || !q.issuedAny then w else q.lastL
      if q.live && q.state == .waiting && q.opAt q.pc == 0x03 && elapsed (s.ns .phi) from_ (us lim)
          && (s.gateHits basin q (field e 4 2 % 4096)).isEmpty then
        .next (s.gateTimedOut basin q (field e 4 2 % 4096) q.current)
      else nothing s

/-- TIDE_BRANCH (R137). -/
def execTideBranch (basin : Nat) (s : State) : Result :=
  s.tide basin 0x04 fun q e s =>
    let test := field e 5 1 % 32
    let p := q.preds.getD (field e 4 1 % 16) {}
    if test = 0 then s.advance basin (field e 8 3) true
    else if !p.valid then s.waitAt basin .back
    else if branchTest test p (BitVec.ofNat 64 (field e 16 8)) then s.advance basin (field e 8 3) true
    else s.advance basin (q.pc + 1) false

/-- BRANCH_WAIT_TIMEOUT (R138). -/
def execBranchWaitTimeout (basin : Nat) (s : State) : Result :=
  match s.seq? basin with
  | none => nothing s
  | some q =>
    let e := q.entry q.pc
    let lim := if field e 12 4 = 0 then q.waitUs else field e 12 4
    match q.waitNs with
    | none => nothing s
    | some w =>
      whenever (q.live && q.state == .waiting && q.opAt q.pc == 0x04 && elapsed (s.ns .phi) w (us lim)
        && !(q.preds.getD (field e 4 1 % 16) {}).valid) s (s.park basin 7 q.pc)

/-- TIDE_LOOP_SET (R139). -/
def execTideLoopSet (basin : Nat) (s : State) : Result :=
  s.tide basin 0x05 fun q e s =>
    (s.updSeq basin fun q => { q with lctr := listAdj q.lctr (field e 4 1 % 8) (fun _ => field e 8 4) }).advance basin
      (q.pc + 1) false

/-- TIDE_LOOP_BACK (R139). -/
def execTideLoopBack (basin : Nat) (s : State) : Result :=
  s.tide basin 0x06 fun q e s =>
    let n := field e 4 1 % 8
    let v := q.lctr.getD n 0
    let s := s.updSeq basin fun q => { q with lctr := listAdj q.lctr n (fun v => if v ≤ 1 then 0 else v - 1) }
    if v ≤ 1 then s.advance basin (q.pc + 1) false else s.advance basin (field e 8 3) true

/-- TIDE_METER_MARK (R134). -/
def execTideMeterMark (basin : Nat) (s : State) : Result :=
  s.tide basin 0x07 fun q e s =>
    (s.updSeq basin fun q => { q with marks := q.marks ++ [BitVec.ofNat 32 (field e 8 4)] }).advance basin (q.pc + 1) false

/-- Stages a membership change (R140). -/
def State.stage (s : State) (b : Nat) (c : Change) : State := s.updSeq b fun q => { q with changes := q.changes ++ [c] }

/-- TIDE_MEMBER_ADD (R140). -/
def execTideMemberAdd (basin : Nat) (s : State) : Result :=
  s.tide basin 0x08 fun q e s => (s.stage basin { add := true, list := field e 4 1 }).advance basin (q.pc + 1) false

/-- TIDE_MEMBER_DEL (R140). -/
def execTideMemberDel (basin : Nat) (s : State) : Result :=
  s.tide basin 0x09 fun q e s => (s.stage basin { add := false, list := field e 4 1 }).advance basin (q.pc + 1) false

/-- TIDE_PRED_SET (R136). -/
def execTidePredSet (basin : Nat) (s : State) : Result :=
  s.tide basin 0x0A fun q e s =>
    (s.updSeq basin fun q =>
      { q with preds := listAdj q.preds (field e 4 1 % 16) (fun _ => predOf 9 (field e 8 8)) }).advance basin (q.pc + 1) false

/-- TIDE_PARK (R125, R127, R150): parks behind the entry with reason 1 and its argument. -/
def execTidePark (basin : Nat) (s : State) : Result :=
  s.tide basin 0x0B fun _ e s =>
    (s.updSeq basin fun q => { q with pc := q.pc + 1, winLeft := q.winLeft.map (· - 1), waitNs := none,
                                      sinceLaunch := q.sinceLaunch + 1 }).park basin 1 (field e 8 4)

/-- TIDE_END (R129, R150). -/
def execTideEnd (basin : Nat) (s : State) : Result :=
  s.tide basin 0x0C fun _ _ s => (s.updSeq basin fun q => { q with ending := true, waitNs := none }).rest basin

/-- TIDE_FETCH_DONE (R319): the missing entries, 256 of 32 bytes, are in the window; that a fetch wait has ended is kept for R400. -/
def execTideFetchDone (basin : Nat) (s : State) : Result :=
  match s.seq? basin with
  | none => nothing s
  | some q =>
    if q.winLeft.isNone || q.tableLost then nothing s
    else .next ((s.updSeq basin fun q =>
      let q' := if q.winLeft = some 0 then q.go (s.ns .phi) else q
      { q' with winLeft := none, fetched := q.fetched || q.winLeft = some 0 }).readPair q.pair 128)

/-- A step that this TSU strobed at L counts as committed at L + 20 us, unless an `ABORT` has undone it (R151, R154). -/
def State.tsuCommit (s : State) (b : Nat) (step : StepNo) : State :=
  s.updBasin b fun x =>
    if x.strobed.any (fun y => y.1 == step && reached (s.ns .tsu) (nsAdd y.2 (us 20))) && !x.undone.contains step
        && !x.committed.contains step then
      { x with committed := x.committed ++ [step] }
    else x

/-- STEP_COMMIT_TIMER (R131, R151): the step counts as committed at L + 20 us, at the TSU and at a sequencing Phidor, each by its own HT. -/
def execStepCommitTimer (basin : Nat) (step : StepNo) (s : State) : Result :=
  let s := s.tsuCommit basin step
  match s.seq? basin with
  | none => nothing s
  | some q =>
    if q.issued.any (fun i => i.step == step && !i.committed && reached (s.ns .phi) (nsAdd i.l (us 20))) then
      let commit (i : Issued) : Issued := if i.step = step then { i with committed := true } else i
      .next ((s.freeRoom basin fun q => { q with issued := q.issued.map commit }).settleAll basin)
    else nothing s

/-- MEMBER_CONFIRM_TIMEOUT (R176). -/
def execMemberConfirmTimeout (basin : Nat) (s : State) : Result :=
  match s.seq? basin with
  | none => nothing s
  | some q =>
    match q.joinNs with
    | none => nothing s
    | some t => whenever (!q.joinWait.isEmpty && elapsed (s.ns .phi) t (us q.waitUs)) s (s.park basin 4 q.pc)

/-- LEAD_TIMEOUT (R149): a follower that has stood ready at a `LAUNCH` for `LEAD_TIMEOUT_US` with no `ACK`
of that step leads. -/
def execLeadTimeout (basin : Nat) (s : State) : Result :=
  match s.seq? basin with
  | none => nothing s
  | some q =>
    match q.waitNs with
    | none => nothing s
    | some w =>
      if q.live && q.role == .follower && q.state == .waiting && q.opAt q.pc == 0x01
          && !q.learned.any (fun x => x.step == q.nextStep) && elapsed (s.ns .phi) w (us q.leadTimeoutUs) then
        .next ((s.updSeq basin fun q => { q with role := .leader, waitNs := none, goNs := none }))
      else nothing s

/-- ABORT_WAVE_COMPLETE (R144, R169): the sequencer goes on at its restored entry; now_ns of R130 is the instant of completion. -/
def execAbortWaveComplete (basin : Nat) (s : State) : Result :=
  match s.seq? basin with
  | none => nothing s
  | some q =>
    match q.waveNs with
    | none => nothing s
    | some t =>
      if !reached (s.ns .phi) t then nothing s
      else
        let joinNs := if q.joinWait.isEmpty then none else some (s.ns .phi)
        .next ((s.updSeq basin fun q =>
          { q.go t with waveNs := none, cls := .wasted, fetched := false, rewait := true, waitNs := none, joinNs := joinNs }).rest basin)

end Sys2Proof.Machine
end

