-- ==== Sys2Proof/Machine/Wave.lean ====
section
/-!
DEFINITION. The launch wave at a Phidor (R141, R147 to R157, R167, R172, R176).
-/

namespace Sys2Proof.Machine

/-- Until when a Phidor keeps the key of an `ANNOUNCE` or `COMMIT` (R172): 20 us past its L. DESIGN CHOICE (log 85): a Phidor whose HT is
no valid reference expands no stamp (R22) and keeps the key as long as L could lie ahead (R20), 1 s + 20 us from receipt. -/
def State.keyEnd (s : State) (bell : W32) : W64 :=
  let now := s.ns .phi
  nsAdd (if s.phi.time.expands then expandStamp now bell else nsAdd now (sec 1)) (us 20)

/-- Forwards an `ANNOUNCE` or `COMMIT` that is not a copy (R153, R172): the first of its key, or the first with its `BELL`. -/
def State.forwardOnce (s : State) (kind b g : Nat) (f : LaunchPl) (ports : List Nat) (pl : Payload) : State :=
  match s.key? .phi b g f.step kind with
  | none =>
    (s.addKey .phi b g f.step kind f.bell (s.keyEnd f.bell)).sendBasin ports b g pl
  | some k =>
    if k.bells.contains f.bell then s
    else
      (s.upd .phi fun c => { c with keys := c.keys.map (fun x => if x == k then { x with bells := f.bell :: x.bells } else x)
        }).sendBasin ports b g pl

/-- Remembers an announced step with its L: of the steps whose L has passed, only the latest is of use (R199). DESIGN CHOICE (log 85): a
Phidor whose HT is no valid reference expands no stamp (R22) and takes the step's L as passed. -/
def State.noteStep (s : State) (b g : Nat) (f : LaunchPl) : State :=
  let now := s.ns .phi
  let x : SeenStep :=
    { basin := b, gen := g, step := f.step, l := if s.phi.time.expands then expandStamp now f.bell else now }
  s.hubUpd fun h =>
    let mine (y : SeenStep) : Bool := y.basin == b && y.gen == g
    let old := h.seen.filter (fun y => mine y && y.step != f.step)
    { h with seen := x :: (old.filter (fun y => later y.l now) ++ (old.filter (fun y => !later y.l now)).take 1)
        ++ h.seen.filter (fun y => !mine y) }

/-- ANNOUNCE_FORWARD (R153, R172). -/
def execAnnounceForward (port : Nat) (e : Env) (f : LaunchPl) (s : State) : Result :=
  s.onReliable .phi port e fun s =>
    let b := e.basin.toNat
    let g := e.gen.toNat
    if s.sequences b g then s
    else (s.forwardOnce 0 b g f (s.portsAt b g f.step) (.announce f)).noteStep b g f

/-- COMMIT_FORWARD (R153, R172). -/
def execCommitForward (port : Nat) (e : Env) (f : LaunchPl) (s : State) : Result :=
  s.onReliable .phi port e fun s =>
    let b := e.basin.toNat
    let g := e.gen.toNat
    if s.sequences b g then s else s.forwardOnce 1 b g f (s.portsAt b g f.step) (.commit f)

/-- The aggregation of an `OK` acknowledgement (R155): the largest `COUNT` of the port is kept under the raw `BELL`, in every time state
(R22). DESIGN CHOICE (log 85): the counts of a key are forgotten 2 s after its first acknowledgement. -/
def State.countAck (s : State) (port b g : Nat) (f : LaunchPl) : State :=
  let now := s.ns .phi
  let hit (c : AckCtx) : Bool := c.basin == b && c.gen == g && c.step == f.step && c.bell == f.bell
  s.hubUpd fun h =>
    let live := h.acks.filter (fun c => hit c || !elapsed now c.sinceNs (sec 2))
    let l := if live.any hit then live else live ++ [{ basin := b, gen := g, step := f.step, bell := f.bell, sinceNs := now }]
    { h with acks := l.map fun c =>
        if hit c then { c with counts := tabMod 0 c.counts port (fun n => max n f.count.toNat) } else c }

/-- Sends an aggregated acknowledgement up (R155). -/
def State.sendAggregate (s : State) (b g : Nat) (f : LaunchPl) (total : Nat) : State :=
  s.sendBasin [s.uplink] b g (.ack { f with agg := true, count := BitVec.ofNat 32 total, origin := 0 })

/-- Forwards the aggregate on the first acknowledgement of a key and when it is full (R155). -/
def State.forwardAck (s : State) (b g : Nat) (f : LaunchPl) : State :=
  let total := s.ackTotal b g f.step f.bell
  let full := total ≥ s.membersBelow b g f.step
  let hit (c : AckCtx) : Bool := c.basin == b && c.gen == g && c.step == f.step && c.bell == f.bell
  match s.hub.acks.find? hit with
  | none => s
  | some c =>
    let s := s.hubUpd fun h =>
      { h with acks := h.acks.map (fun x => if hit x then { x with first := true, full := x.full || full } else x) }
    if !c.first || (full && !c.full) then s.sendAggregate b g f total else s

/-- An issue that a rollback has cancelled and whose acknowledgements are ignored for 100 us (R149). -/
def Seq.dead (q : Seq) (now : W64) (step : StepNo) (bell : W32) : Bool :=
  q.cancelled.any (fun c => c.1 == step && c.2.1 == bell && !reached now c.2.2)

/-- A step that this sequencer issued and that has settled or been rolled back. -/
def Seq.past (q : Seq) (step : StepNo) : Bool := q.issuedAny && !stepLater step q.lastIssued && !q.issued.any (fun i => i.step == step)

/-- An overtaken leader adopts the learned bell of a step it had issued (R149), to which its marks move (R134), and sends its `ANNOUNCE` as
a follower. -/
def State.adopt (s : State) (b : Nat) (step : StepNo) (l : W64) : State :=
  let s := s.updSeq b fun q =>
    { q with role := .follower, lastL := if q.lastIssued = step then l else q.lastL,
             bells := q.bells.map (fun x => if x.1 = step then (x.1, l, x.2.2) else x) }
  let s := s.hubUpd fun h => { h with marksDue := h.marksDue.map (fun m =>
    if m.basin = b ∧ m.step = step ∧ s.sequences b m.gen then { m with l := l } else m) }
  let s := s.updIssued b step fun i =>
    { i with l := l, announced := true, sentBells := shortStamp i.l :: i.sentBells }
  match s.seq? b with
  | none => s
  | some q =>
    match q.issued.find? (fun i => i.step == step) with
    | some i => if reached (nsAdd l (-8000)) (s.ns .phi) then s.sendAnnounce b q.gen i else s
    | none => s

/-- What an acknowledgement teaches the sequencer of its basin (R147 to R149): `l` is its expanded bell. -/
def State.learnAck (s : State) (b : Nat) (q : Seq) (f : LaunchPl) (l : W64) : State :=
  if q.past f.step then s
  else
    match q.issued.find? (fun i => i.step == f.step) with
    | some i =>
      if shortStamp i.l ≠ f.bell ∧ q.role = .leader then
        (if f.entry.toNat = i.entry then s.adopt b f.step l else s.detach b)
      else s
    | none =>
      let s := s.updSeq b fun q =>
        { q with learned := if q.learned.any (fun x => x.step == f.step) then q.learned
                   else { step := f.step, bell := f.bell, lNs := l, entry := f.entry } :: q.learned,
                 role := if q.role = .leader then .follower else q.role }
      s

/-- What a refusal leads to at the sequencing Phidor (R149, R157). -/
def State.onRefusal (s : State) (b : Nat) (q : Seq) (f : LaunchPl) (l : W64) : State :=
  if q.past f.step then s
  else
    let hit := q.issued.any (fun i => i.step == f.step && shortStamp i.l == f.bell)
    let s := if !hit && q.role == .leader then s.updSeq b fun q => { q with role := .follower } else s
    let s := s.record .phi .launchRefused b (launchExt f.step q.gen l)
    s.phiStartAbort b q.gen
      { f with agg := false, cause := Cause.launchRefused.w, count := 0, lastStep := f.step - 1 }

/-- ACK_RECEIVE (R22, R147 to R149, R155 to R157). -/
def execAckReceive (port : Nat) (e : Env) (f : LaunchPl) (s : State) : Result :=
  s.onReliable .phi port e fun s =>
    let b := e.basin.toNat
    let g := e.gen.toNat
    let ok := f.status == Status.ok.b
    let s := if ok then s.countAck port b g f else s
    match s.seq? b with
    | none => if ok then s.forwardAck b g f else s.sendBasin [s.uplink] b g (.ack f)
    | some q =>
      if q.gen ≠ g then (if ok then s.forwardAck b g f else s.sendBasin [s.uplink] b g (.ack f))
      else
        let l := expandStamp (s.ns .phi) f.bell
        if !s.phi.time.expands then s
        else if !stampNear (s.ns .phi) l then s.record .phi .stampRange port
        else if q.role = .detached ∨ !(q.runs || q.state == .parked) ∨ q.dead (s.ns .phi) f.step f.bell then s
        else if ok then (s.learnAck b q f l).tryCommit b f.step
        else s.onRefusal b q f l

/-- COMMIT_CUTOFF (R156, R157): a sequencer that reaches its cutoff without a full count sends nothing for the step. -/
def execCommitCutoff (basin : Nat) (step : StepNo) (s : State) : Result :=
  match s.seq? basin with
  | none => nothing s
  | some q =>
    whenever (q.issued.any (fun i => i.step == step && !i.commitSent && later (s.ns .phi) (s.cutoff i.l))) s
      (s.updIssued basin step fun i => { i with cut := true })

/-- The ports on which a frame that travels both ways goes on (R167, R202): from a member port to the other member ports
and up, from the uplink to every member port. A sequencing Phidor sends nothing up. -/
def State.spreadPorts (s : State) (port b g : Nat) : List Nat :=
  if port = s.uplink then s.memberPorts b g
  else (s.memberPorts b g).filter (· != port) ++ (if s.sequences b g then [] else [s.uplink])

/-- ABORT_FORWARD (R167, R172, R206, R246, R144 to R146). -/
def execAbortForward (port : Nat) (e : Env) (f : LaunchPl) (s : State) : Result :=
  s.onReliable .phi port e fun s =>
    let b := e.basin.toNat
    let g := e.gen.toNat
    match s.key? .phi b g f.step 2 with
    | some _ => s
    | none =>
      let s := s.addKey .phi b g f.step 2 f.bell (nsAdd (s.ns .phi) (us 100))
      let s := (s.sendBasin (s.spreadPorts port b g) b g (.abort f)).phiAbort b g f.lastStep
      if s.sequences b g then s.seqAbort b f else s

/-- A join confirmation at the sequencing Phidor (R176): the wait of a `LAUNCH` ends with the last one. -/
def State.joinConfirmed (s : State) (b die : Nat) (step : StepNo) : State :=
  s.updSeq b fun q =>
    if step = q.nextStep ∧ q.joinWait.contains die then
      let left := q.joinWait.filter (· != die)
      { (if left.isEmpty then q.go (s.ns .phi) else q) with joinWait := left, joinNs := if left.isEmpty then none else q.joinNs }
    else q

/-- A purge confirmation at the sequencing Phidor (R118, R125). -/
def State.purgeConfirmed (s : State) (b die : Nat) : State :=
  (s.updSeq b fun q => { q with purged := if q.purged.contains die then q.purged else q.purged ++ [die] }).finishDestroy b

/-- MEMBER_FORWARD (R118, R125, R141, R175, R176): down, the membership is noted and the frame goes on towards its die; up, a
confirmation is counted at the sequencing Phidor and forwarded by every other. -/
def execMemberForward (port : Nat) (e : Env) (f : MemberPl) (s : State) : Result :=
  s.onReliable .phi port e fun s =>
    let b := e.basin.toNat
    let g := e.gen.toNat
    let die := f.die.toNat
    let torn (s : State) : State := if f.tear && !s.sequences b g then s.holdTorn .phi b g else s
    if port = s.uplink then
      if f.action.toNat < 2 then (torn s).sendMemberTo b g f.action.toNat f.tear f.step die
      else s
    else
      let s := s.learnRoute die port
      let s := if f.action = 2 then s.updPath b g (fun l => l.filter (fun m => m.die != die)) else s
      if s.sequences b g then
        if f.action = 0 then s.joinConfirmed b die f.step
        else if f.action = 2 then s.purgeConfirmed b die
        else s
      else (torn s).sendBasin [s.uplink] b g (.member f)

end Sys2Proof.Machine
end

