-- ==== Sys2Proof/Machine/HallGates.lean ====
section
/-!
DEFINITION. Hall gates at a Phidor (R199 to R204, R206).
-/

namespace Sys2Proof.Machine

/-- A counting context. -/
def State.gateCtx? (s : State) (b g gate : Nat) : Option GateCtx :=
  s.hub.gates.find? (fun c => c.basin == b && c.gen == g && c.gate == gate)

/-- Changes a counting context. -/
def State.updCtx (s : State) (b g gate : Nat) (f : GateCtx → GateCtx) : State :=
  s.hubUpd fun h => { h with gates := h.gates.map (fun c => if c.basin = b ∧ c.gen = g ∧ c.gate = gate then f c else c) }

/-- The number of members with which a gate's count is compared (R199): those in force for the latest step whose L has
passed; before the first L, those of the first step. -/
def State.gateMembers (s : State) (b g : Nat) : Nat :=
  let now := s.ns .phi
  match s.seq? b with
  | some q =>
    if q.gen = g then
      match q.bells.find? (fun x => reached now x.2.1) with
      | some x => x.2.2
      | none => ((q.bells.getLast?).map (·.2.2)).getD q.members.length
    else 0
  | none =>
    match s.hub.seen.find? (fun x => x.basin == b && x.gen == g && reached now x.l) with
    | some x => s.membersBelow b g x.step
    | none =>
      match (s.hub.seen.filter (fun x => x.basin == b && x.gen == g)).getLast? with
      | some x => s.membersBelow b g x.step
      | none =>
        match (s.pathMembers b g).head? with
        | some m => s.membersBelow b g m.join
        | none => 0

/-- The release bell of a gate (R200, R201): the first bell at or after an instant + t x 400 ns + 300 ns. -/
def State.releaseBell (s : State) (q : Seq) (from_ : W64) : W64 :=
  roundUp (nsAdd from_ (400 * (s.tier : Int) + 300)) q.bp

/-- A release noted at a Phidor: the released count, the open use's counts gone, the short stamp of its bell kept for `GATE_WAIT` (R133,
R199, R200). -/
def GateCtx.release (c : GateCtx) (use : W32) (rb : W32) (now : W64) : GateCtx :=
  { c with released := if (use - c.released).toInt > 0 then use else c.released, counts := [], firstNs := none, first := false,
           full := false, fullNs := none, lastRelNs := some now, releases := c.releases ++ [(rb, now)],
           relSeen := true }

/-- A sequencing Phidor releases the open use of a gate at a release bell (R200, R201). -/
def State.releaseGate (s : State) (b : Nat) (q : Seq) (c : GateCtx) : State :=
  let now := s.ns .phi
  let rb := s.releaseBell q now
  let use := c.released + 1
  let s := s.updCtx b q.gen c.gate fun c => c.release use (shortStamp rb) now
  let s := s.addRelKey .phi b q.gen c.gate use (shortStamp rb)
  s.sendBasin (s.memberPorts b q.gen) b q.gen
    (.gateRelease { gate := BitVec.ofNat 12 c.gate, use := use, count := BitVec.ofNat 32 (s.gateMembers b q.gen),
                    relBell := shortStamp rb, origin := 0, agg := true })

/-- What a full or first count leads to (R199 to R201). -/
def State.gateCounted (s : State) (b g gate : Nat) : State :=
  match s.gateCtx? b g gate with
  | none => s
  | some c =>
    let n := s.gateMembers b g
    let full := n > 0 && c.total ≥ n
    let now := s.ns .phi
    let s := s.updCtx b g gate fun c =>
      { c with first := true, full := c.full || full, fullNs := if c.fullNs.isNone && full then some now else c.fullNs }
    match s.seq? b with
    | some q =>
      if q.gen = g then (if full && q.role == .leader then s.releaseGate b q c else s) else s
    | none =>
      if !c.first || (full && !c.full) then
        s.sendBasin [s.uplink] b g
          (.gateArrive { gate := BitVec.ofNat 12 gate, use := c.released + 1, count := BitVec.ofNat 32 c.total, relBell := 0,
                         origin := 0, agg := true })
      else s

/-- GATE_ARRIVE_RECEIVE (R199, R200, R206, R327). -/
def execGateArriveReceive (port : Nat) (e : Env) (f : GatePl) (s : State) : Result :=
  s.onReliable .phi port e fun s =>
    let b := e.basin.toNat
    let g := e.gen.toNat
    let gate := f.gate.toNat
    let now := s.ns .phi
    let count (s : State) : State :=
      (s.updCtx b g gate fun c =>
        { c with counts := tabMod 0 c.counts port (fun n => max n f.count.toNat),
                 firstNs := match c.firstNs with | some t => some t | none => some now }).gateCounted b g gate
    if s.hub.discards.any (fun d => d.basin == b && d.gen == g && !elapsed now d.atNs (us 34)) then s
    else if !(s.memberPorts b g).contains port then s
    else
      match s.gateCtx? b g gate with
      | none =>
        if !creditFree 65536 (s.counted 8) (s.hub.gates.map (·.basin)) b then s.record .phi .gateContextFull b
        else
          count (s.hubUpd fun h => { h with gates := h.gates ++ [{ basin := b, gen := g, gate := gate, released := f.use - 1 }] })
      | some c =>
        let d := (f.use - c.released).toInt
        if d ≤ 0 then s
        else if d > 1 then s.record .phi .gateUseAhead gate
        else count s

/-- GATE_CONTEXT_FREE (R199): 100 us after the release of its last use, when no arrival is open; a sequencing Phidor keeps
its contexts. -/
def execGateContextFree (basin gen gate : Nat) (s : State) : Result :=
  match s.gateCtx? basin gen gate with
  | none => nothing s
  | some c =>
    match c.lastRelNs with
    | none => nothing s
    | some t =>
      whenever (!s.sequences basin gen && c.counts.isEmpty && elapsed (s.ns .phi) t (us 100)) s
        (s.hubUpd fun h => { h with gates := h.gates.filter (fun x => !(x.basin == basin && x.gen == gen && x.gate == gate)) })

/-- FOLLOWER_RELEASE_TIMER (R201): 4 us after its total became full with no release seen. -/
def execFollowerReleaseTimer (basin gate : Nat) (s : State) : Result :=
  match s.seq? basin with
  | none => nothing s
  | some q =>
    match s.gateCtx? basin q.gen gate with
    | none => nothing s
    | some c =>
      match c.fullNs with
      | none => nothing s
      | some t =>
        whenever (q.role == .follower && elapsed (s.ns .phi) t (us 4)) s (s.releaseGate basin q c)

/-- A release that passes a Phidor (R199): its context follows it; a sequencing Phidor that has counted no arrival for the gate takes a
context for it, which keeps its released count for the life of the generation. -/
def State.noteRelease (s : State) (b g gate : Nat) (use rb : W32) : State :=
  let now := s.ns .phi
  if (s.gateCtx? b g gate).isSome || !s.sequences b g then s.updCtx b g gate fun c => c.release use rb now
  else if !creditFree 65536 (s.counted 8) (s.hub.gates.map (·.basin)) b then s.record .phi .gateContextFull b
  else
    let c : GateCtx := { basin := b, gen := g, gate := gate, released := use - 1 }
    s.hubUpd fun h => { h with gates := h.gates ++ [c.release use rb now] }

/-- GATE_RELEASE_FORWARD (R22, R167, R202): a release that is not a copy propagates as an `ABORT` does; the released count follows
it. -/
def execGateReleaseForward (port : Nat) (e : Env) (f : GatePl) (s : State) : Result :=
  s.onReliable .phi port e fun s =>
    let b := e.basin.toNat
    let g := e.gen.toNat
    let gate := f.gate.toNat
    let now := s.ns .phi
    if s.phi.relKeys.any (fun k => k.basin == b && k.gen == g && k.gate == gate && k.use == f.use && !reached now k.untilNs) then s
    else
      let s := s.addRelKey .phi b g gate f.use f.relBell
      let s := s.noteRelease b g gate f.use f.relBell
      s.sendBasin (s.spreadPorts port b g) b g (.gateRelease f)

/-- The last step whose L preceded an instant (R204); the step before the first where none did. -/
def Seq.stepBefore (q : Seq) (t : W64) : StepNo :=
  match q.bells.find? (fun x => later t x.2.1) with
  | some x => x.1
  | none => q.firstStep - 1

/-- HALL_GATE_TIMEOUT (R204): a use reaches the basin's `WAIT_US` without a full count. -/
def execHallGateTimeout (basin gate : Nat) (s : State) : Result :=
  match s.seq? basin with
  | none => nothing s
  | some q =>
    match s.gateCtx? basin q.gen gate with
    | none => nothing s
    | some c =>
      match c.firstNs with
      | none => nothing s
      | some t =>
        if !c.full && elapsed (s.ns .phi) t (us q.waitUs) then
          .next (s.gateTimedOut basin q gate (q.stepBefore t))
        else nothing s

end Sys2Proof.Machine
end

