-- ==== Sys2Proof/Machine/MeterOps.lean ====
section
/-!
DEFINITION. The sealed meter's operations: intervals and energy (R255 to R261), allocation and records (R264 to R267),
blocks and their delivery (R268 to R274), the logbook (R277, R278), bindings (R262, R263) and the status block (R283).
-/

namespace Sys2Proof.Machine

/-- Changes the meter section. -/
def State.mtr (s : State) (f : MeterSt → MeterSt) : State := { s with meter := f s.meter }

/-- The instant on the meter's own clock, in ns (R251): that clock runs on whatever HT does. -/
def State.mtrNs (s : State) : Nat := 8 * s.cyc

/-- This TSU is the one meter master of its module (R254). -/
def MeterSt.master (m : MeterSt) : Bool := m.strapMaster && m.masters == 1

/-- The section runs: its supply has started and it is not halted (R253). -/
def MeterSt.runs (m : MeterSt) : Bool := !m.down && !m.halted

/-- The section measures (R253, R254). -/
def MeterSt.metering (m : MeterSt) : Bool := m.master && m.runs

/-- The values of the parameters after manufacture (R275). -/
def paramReset (code : Nat) : W64 :=
  if code ∈ [0x01, 0x02, 0x03, 0x04] then Config.meterCal code
  else if code = 0x10 then 27
  else if code = 0x11 then 1000
  else if code = 0x13 then 1024
  else 0

/-- A parameter in force (R275). -/
def MeterSt.param (m : MeterSt) (code : Nat) : W64 := tabGet (paramReset code) m.params code

/-- A parameter as accepted last, in force or not yet (R275). -/
def MeterSt.accepted (m : MeterSt) (code : Nat) : W64 := tabGet (m.param code) m.newParams code

/-- `MTR_EXP` in force: the length of the interval grid is 2^`MTR_EXP` ns (R259). -/
def MeterSt.exp (m : MeterSt) : Nat := (m.param 0x10).toNat

/-- `MTR_ADDR` of this section (R254). -/
def MeterSt.addr (m : MeterSt) : Nat := (m.param 0x06).toNat

/-- An input that the section ignores (R252). -/
def State.mtrReject (s : State) : State := s.mtr fun m => { m with rejects := satNat 32 (m.rejects + 1) }

/-- The entries of the logbook (R274). -/
def logCapacity : Nat := 65536

/-- Fewer than 1,024 logbook entries are free (R278). -/
def MeterSt.logLow (m : MeterSt) : Bool := logCapacity - m.log.length < 1024

/-- The bytes of a logbook entry (R277); `mid` is bytes 16 to 47. -/
def MeterSt.logBytes (m : MeterSt) (type detail : Nat) (mid : List Byte) : List Byte :=
  leBytes 4 m.log.length ++ leBytes 1 type ++ leBytes 1 m.mstate.code ++ leBytes 2 m.sealEpoch ++ leBytes 4 m.evtCnt
    ++ leBytes 4 detail ++ padTo 32 mid
    ++ (match m.log.getLast? with
        | some e => (sha256 e).take 16
        | none => zeros 16)

/-- Writes a logbook entry, or counts it in `LOG_LOST` when the logbook is full (R277, R278). -/
def State.mtrLogAs (s : State) (type detail : Nat) (mid : List Byte) : State :=
  s.mtr fun m =>
    if m.log.length < logCapacity then { m with log := m.log ++ [m.logBytes type detail mid] }
    else { m with logLost := satNat 16 (m.logLost + 1) }

/-- Writes a logbook entry with its HT label and its old and new values (R277). -/
def State.mtrLog (s : State) (type detail old new : Nat) : State :=
  s.mtrLogAs type detail (leOf 8 (s.ns .tsu) ++ leBytes 8 old ++ leBytes 8 new)

/-- The bytes of the store that a block of `n` records takes: the block and its records (R269, R274). -/
def blockRoom (n : Nat) : Nat := 192 + 160 * n

/-- The bytes of one copy of the store (R274). -/
def storeCapacity : Nat := 24 * 1024 * 1024

/-- The reserve of the store for the boundaries of R261: ten blocks, the records of two intervals (log entry 24). -/
def storeReserve : Nat := 10 * blockRoom 256

/-- The bytes of the store in use (R274). -/
def MeterSt.storeUsed (m : MeterSt) : Nat :=
  (m.blocks.map (fun b => blockRoom b.recs.length)).sum + (m.drafts.map (fun d => blockRoom d.recs.length)).sum
    + (if m.openRecs.isEmpty then 0 else blockRoom m.openRecs.length)

/-- The store is above its high-water mark (R274). -/
def MeterSt.storeHigh (m : MeterSt) : Bool := 10 * m.storeUsed > 9 * storeCapacity

/-- The store is full (R261, R274): at 100 %, less the reserve, and while an interval is extended for that until a whole block's worth of
space is free. -/
def MeterSt.storeFull (m : MeterSt) : Bool :=
  m.storeUsed + storeReserve ≥ storeCapacity || (m.extended && m.storeUsed + storeReserve + blockRoom 256 > storeCapacity)

/-- The unacknowledged records held (R283). -/
def MeterSt.storeRecs (m : MeterSt) : Nat :=
  (m.blocks.map (fun b => b.recs.length)).sum + (m.drafts.map (fun d => d.recs.length)).sum + m.openRecs.length

/-- What a record says beside the meter's own registers (R267). -/
structure RecIn where
  kind : Nat
  flags : Nat
  tq : Nat
  startNs : W64
  endNs : W64
  berth : Nat
  basin : Nat
  eInt : Nat
  eExp : Nat
  units : Nat
  total : Nat
  share : Nat
  eCum : Nat
  eWraps : Nat
  us : Nat
  step : StepNo
  digest : List Byte
  deriving DecidableEq, Repr

/-- The 128 bytes of a record (R267). -/
def MeterSt.recBytes (m : MeterSt) (r : RecIn) : List Byte :=
  leBytes 1 1 ++ leBytes 1 r.kind ++ leBytes 1 r.flags ++ leBytes 1 (r.tq + 8 * m.mstate.code) ++ leBytes 4 m.evtCnt
    ++ leBytes 8 m.rseq ++ leOf 8 (m.param 0x05) ++ leOf 8 r.startNs ++ leOf 8 r.endNs ++ leBytes 4 r.berth
    ++ leBytes 2 m.sealEpoch ++ leBytes 2 r.basin ++ leBytes 8 r.eInt ++ leBytes 8 r.eExp ++ leBytes 8 r.units
    ++ leBytes 8 r.total ++ leBytes 8 r.share ++ leBytes 8 r.eCum ++ leBytes 4 r.eWraps ++ leBytes 4 r.us
    ++ leOf 6 r.step ++ zeros 2 ++ padTo 16 r.digest

/-- Takes the open block's records for sealing (R268), as they stand before a change of state. -/
def State.takeDraft (s : State) (powerSeal : Bool) : State :=
  s.mtr fun m =>
    if m.openRecs.isEmpty then m
    else { m with openRecs := [],
                  drafts := m.drafts ++ [{ recs := m.openRecs, first := m.rseq - m.openRecs.length, powerSeal := powerSeal,
                                           mstate := m.mstate, epoch := m.sealEpoch }] }

/-- Writes a record with the next `RSEQ`; the 256th record of a block has it sealed (R266 to R268). -/
def State.writeRec (s : State) (r : RecIn) : State :=
  let now := s.mtrNs
  let s := s.mtr fun m =>
    { m with openRecs := m.openRecs ++ [m.recBytes r], rseq := m.rseq + 1,
             openNs := if m.openRecs.isEmpty then now else m.openNs }
  if s.meter.openRecs.length ≥ 256 then s.takeDraft false else s

/-- Bytes 0 to 127 + 32 C of a block (R269). -/
def MeterSt.blockBytes (m : MeterSt) (d : Draft) (now : W64) : List Byte :=
  leBytes 4 0x4D424C4B ++ leBytes 1 1
    ++ leBytes 1 (nb (d.mstate == .meterOpen) + 2 * nb (d.mstate == .sealBroken) + 4 * nb d.powerSeal + 8 * nb m.logLow)
    ++ leBytes 1 d.mstate.code ++ zeros 1 ++ leBytes 8 m.bseq ++ leOf 8 (m.param 0x05) ++ leBytes 8 d.first
    ++ leBytes 2 d.recs.length ++ leBytes 2 d.epoch ++ leBytes 4 m.evtCnt ++ leOf 8 now ++ leOf 4 Config.romId
    ++ leBytes 4 (m.log.length - 1) ++ zeros 8 ++ padTo 32 m.prevHash
    ++ (match m.log.getLast? with
        | some e => sha256 e
        | none => zeros 32)
    ++ (d.recs.map sha256).flatten

/-- The port on which transfers are sent: that of `MTR_PLANE`, or the other one while that one is not `UP`; a resend
alternates (R272). -/
def State.mtrPort (s : State) (alt : Bool) : Nat :=
  let up (i : Nat) : Bool := (s.port .tsu i).lstate == .up
  let first := if alt then 1 - s.mtrPlane else s.mtrPlane
  if up first || !up (1 - first) then first else 1 - first

/-- The bytes of a transfer cut into 20-byte recordPieces (R272). -/
def recordPieces : Nat → List Byte → List (List Byte)
  | 0, _ => []
  | n + 1, bs => if bs.length ≤ 20 then [padTo 20 bs] else bs.take 20 :: recordPieces n (bs.drop 20)

/-- The `RECORD` frames of a block's transfer (R272). -/
def Block.frames (b : Block) : List RecordPl :=
  let l := recordPieces 2058 (b.bytes ++ b.recs.flatten)
  l.zipIdx.map fun e => { rseq := BitVec.ofNat 64 (b.first + b.recs.length - 1), chunk := BitVec.ofNat 16 e.2,
                          last := e.2 + 1 == l.length, data := e.1 }

/-- Sends a block and its records as one transfer (R272). -/
def State.sendBlock (s : State) (port : Nat) (b : Block) : State :=
  if b.lost then s
  else
    let now := s.mtrNs
    let s := b.frames.foldl (fun s f => s.queueFrame .tsu port 0 0 (.record f)) s
    s.mtr fun m => { m with blocks := m.blocks.map fun x => if x.first = b.first then { x with sentNs := some now } else x }

/-- Sends every unacknowledged block, in block order, from the oldest (R272, R273). -/
def State.sendBlocks (s : State) (port : Nat) : State :=
  let bs := s.meter.blocks
  (bs.foldl (fun s b => s.sendBlock port b) s).mtr fun m => { m with waitUntil := none }

/-- Seals the oldest block that is due: its chain link, its signature, and its transfer, which waits after `LEDGER_FULL`
(R269 to R273). -/
def State.sealBlock (s : State) : State :=
  match s.meter.drafts with
  | [] => s
  | d :: ds =>
    let m := s.meter
    let body := m.blockBytes d (s.ns .tsu)
    let bytes := body ++ (if d.mstate = .meterOpen then zeros 64 else edSign m.key body)
    let b : Block := { first := d.first, bytes := bytes, recs := d.recs }
    let s := s.mtr fun m => { m with drafts := ds, bseq := m.bseq + 1, prevHash := sha256 bytes, blocks := m.blocks ++ [b] }
    match m.waitUntil with
    | some _ => s
    | none => s.sendBlock (s.mtrPort false) b

/-- Seals every block that is due, as a change of state asks for (R268, R279). -/
def State.sealAll (s : State) : State := (List.range s.meter.drafts.length).foldl (fun s _ => s.sealBlock) s

/-- Enters `SEAL_BROKEN` from `METER_SEALED` with the entry for the cause; the open block is sealed as it stood (R268,
R280). -/
def State.breakSeal (s : State) (type detail old new : Nat) : State :=
  if s.meter.mstate = .meterSealed then
    let s := s.takeDraft false
    (s.mtr fun m => { m with mstate := .sealBroken }).mtrLog type detail old new
  else s.mtrLog type detail old new

/-- What reads of the store find (R274): each copy that fails is rewritten from the other and counts a transient fault; both copies of the
records in a range of `RSEQ` failing is the lasting fault. -/
def State.storeFault (s : State) (c : StoreCheck) : State :=
  let s := s.mtr fun m => { m with storeRetries := satNat 32 (m.storeRetries + c.single) }
  match c.both with
  | none => s
  | some (lo, hi) =>
    let s := s.record .tsu .meterStore (lo % 2 ^ 32)
    let s := s.mtr fun m => { m with blocks := m.blocks.map fun b =>
      if b.first ≤ hi ∧ lo < b.first + b.recs.length then { b with lost := true } else b }
    s.breakSeal 0x07 Cause.meterStore.code lo hi

/-- A table of a die is taken for the interval that it names, where that has not passed its cutoff; one that missed the cutoff contributes
nothing (R264). -/
def MeterSt.takeTable (m : MeterSt) (addr : Nat) (t : TableIn) : MeterSt :=
  { m with ended := m.ended.map fun e => if e.no = t.no then { e with tables := tabSet e.tables addr t } else e }

/-- The table that a TSU hands over (R263). -/
def tableOf (no unbound : Nat) (uses : Tab BerthUse) : TableIn :=
  { no := no, unbound := unbound,
    berths := uses.map fun e =>
      { berth := e.1, units := e.2.units, basin := e.2.basin, step := e.2.step, digest := e.2.digest, l := e.2.l } }

/-- The TSU's table of the interval is cut at its boundary (R263): every berth that has units or a step. -/
def State.cutTable (s : State) (no : Nat) : State :=
  s.dieUpd fun d =>
    { d with cutCyc := some s.cyc, cutUses := d.cutUses ++ [(no, d.unbound, d.uses.filter (fun e => e.2.units != 0 || !e.2.digest.isEmpty))], unbound := 0,
             uses := d.uses.map fun e => (e.1, { e.2 with units := 0 }) }

/-- The table cut last takes what comes in the cycle of its boundary (R282, R401): `f` acts on its unbound units and berths. -/
def DieSt.amendCut (d : DieSt) (f : Nat → Tab BerthUse → Nat × Tab BerthUse) : DieSt :=
  match d.cutUses.getLast? with
  | some (no, un, t) => { d with cutUses := d.cutUses.dropLast ++ [(no, (f un t).1, (f un t).2)] }
  | none => d

/-- A boundary has cut a table in this cycle that is still here. -/
def State.cutNow (s : State) : Bool := s.die.cutCyc == some s.cyc && !s.die.cutUses.isEmpty

/-- Units of a report are counted for a berth, 0 for none (R263). -/
def addUnits (berth units un : Nat) (t : Tab BerthUse) : Nat × Tab BerthUse :=
  if berth = 0 then (un + units, t) else (un, tabMod {} t berth fun u => { u with units := u.units + units })

/-- The meter clock's time in ns for a number of its cycles: 1 / 32.768 MHz each (R251). -/
def meterNs (cycles : Nat) : Nat := cycles * 15625 / 512

/-- The legal duration in us, rounded to nearest (R259). -/
def meterUs (cycles : Nat) : Nat := (cycles * 1000 + 16384) / 32768

/-- The units of `acc_imp` and `acc_exp` in 1 nJ (R256). -/
def accPerNj : Nat := 32 * 1000000000

/-- Parameters in force with changes laid over them. -/
def overlay (params changes : Tab W64) : Tab W64 := changes.foldl (fun t e => tabSet t e.1 e.2) params

/-- The parameters accepted take effect at a boundary (R275), but those accepted in the boundary's own cycle, which take effect at the
following one (R282). -/
def MeterSt.takeParams (m : MeterSt) (cyc : Nat) : MeterSt :=
  match m.paramWas with
  | some (c, old) =>
    if c = cyc then { m with params := overlay m.params old } else { m with params := overlay m.params m.newParams, newParams := [], paramWas := none }
  | none => { m with params := overlay m.params m.newParams, newParams := [] }

/-- A parameter change is accepted (R275). -/
def MeterSt.acceptParam (m : MeterSt) (cyc code : Nat) (v : W64) : MeterSt :=
  { m with newParams := tabSet m.newParams code v,
           paramWas := match m.paramWas with
             | some (c, old) => if c = cyc then some (c, old) else some (cyc, m.newParams)
             | none => some (cyc, m.newParams) }

/-- The meter has no running HT (R259): the TSU's time state is `FAULT`, or the HT word, which comes in every always-on cycle (R252), has
stopped. -/
def State.htStopped (s : State) : Bool := s.tsu.time.state == .fault || s.meter.wordCyc != s.cyc

/-- The HT label of an instant (R259): the `HT_NS` received, or without a running HT the last valid word extrapolated by the `since` meter
clock cycles that have passed after it. -/
def State.meterLabel (s : State) (since : Nat) : W64 :=
  if s.htStopped then s.meter.word + BitVec.ofNat 64 (meterNs since) else s.ns .tsu

/-- `TQ` (R259, R267): the TSU's time state, or 5 without a running HT. -/
def State.meterTq (s : State) : Nat := if s.htStopped then 5 else s.tsu.time.state.code

/-- Closes the open interval (R256, R257, R259): its energies are fixed, the registers advance, the parameters accepted take
effect, and the next interval begins. -/
def State.closeInterval (s : State) (cycles since : Nat) (power : Bool) : State :=
  let m := s.meter
  let label := s.meterLabel since
  let eInt := m.accImp / accPerNj
  let eExp := m.accExp / accPerNj
  let cum := m.eCum + eInt
  let wraps := satNat 32 (m.eWraps + cum / 2 ^ 64)
  let ht := nsDiff label m.startNs
  let e : Ended :=
    { no := m.intervalNo, startNs := m.startNs, endNs := label, closedNs := s.mtrNs, us := meterUs cycles,
      eInt := eInt, eExp := eExp, eCum := cum % 2 ^ 64, eWraps := wraps,
      flags := nb m.extended + 2 * nb power + 4 * nb m.adcFault + 8 * nb m.clip + 64 * nb m.htRestart,
      tq := s.meterTq, uBase := (m.param 0x12).toNat, berths := (m.param 0x13).toNat }
  let s := s.cutTable m.intervalNo
  s.mtr fun m => { m.takeParams s.cyc with
    accImp := m.accImp - eInt * accPerNj, accExp := m.accExp - eExp * accPerNj, eCum := cum % 2 ^ 64, eWraps := wraps,
    lastMissed := satNat 16 m.missed, missed := 0, adcFault := false, clip := false, extended := false, htRestart := false,
    ppm := if s.htStopped || m.htRestart || ht ≤ 0 then m.ppm else (((meterNs cycles : Nat) - ht) * 100000000).tdiv ht,
    intervalNo := m.intervalNo + 1, startNs := label, gridFrom := s.ns .tsu, ended := m.ended ++ [e] }

/-- `HT_NS` has reached a multiple of 2^`MTR_EXP` since the last boundary of the grid (R259). -/
def State.gridReached (s : State) : Bool :=
  (s.ns .tsu).toNat / 2 ^ s.meter.exp != s.meter.gridFrom.toNat / 2 ^ s.meter.exp

/-- The tables of an interval merged (R264): units added per berth, the digest of the latest step, by its L, with ties to the lower
position; units of berth 0 count as unbound. -/
def mergeTables (ts : Tab TableIn) : Nat × Tab BerthUse :=
  ts.foldl (fun (acc : Nat × Tab BerthUse) (t : Nat × TableIn) =>
    t.2.berths.foldl (fun (a : Nat × Tab BerthUse) (b : BerthIn) =>
      if b.berth = 0 then (a.1 + b.units, a.2)
      else (a.1, tabMod {} a.2 b.berth fun u =>
        let u := { u with units := u.units + b.units }
        if !b.digest.isEmpty && (u.digest.isEmpty || later b.l u.l) then
          { u with basin := b.basin, step := b.step, digest := b.digest, l := b.l }
        else u)) (acc.1 + t.2.unbound, acc.2)) (0, [])

/-- A berth has precedence over another for a record of its own: more units, or as many and a lower number (R264). -/
def before (a b : Nat × BerthUse) : Bool := a.2.units > b.2.units || (a.2.units == b.2.units && a.1 < b.1)

/-- The berths that keep their own records, and the rest (R264). -/
def keepBerths (limit : Nat) (l : Tab BerthUse) : Tab BerthUse × Tab BerthUse :=
  let h := l.filter (fun e => e.2.units != 0)
  h.partition fun e => (h.filter (fun x => before x e)).length < limit

/-- Writes the `SHARE` records of an interval whose input cutoff has come (R264 to R267). -/
def State.allocate (s : State) (e : Ended) : State :=
  let late := (0 :: s.meter.peers).any (fun a => (tabGet? e.tables a).isNone)
  let (unbound, merged) := mergeTables e.tables
  let (kept, rest) := keepBerths e.berths merged
  let u0 := unbound + (rest.map (·.2.units)).sum + e.uBase * e.us / 1000
  let uT := u0 + (kept.map (·.2.units)).sum
  let share (u : Nat) : Nat := if uT = 0 then 0 else e.eInt * u / uT
  let flags := e.flags + 16 * nb late
  let base : RecIn :=
    { kind := 0, flags := flags, tq := e.tq, startNs := e.startNs, endNs := e.endNs, berth := 0, basin := 0, eInt := e.eInt,
      eExp := e.eExp, units := u0, total := uT, share := e.eInt - (kept.map (fun b => share b.2.units)).sum, eCum := e.eCum,
      eWraps := e.eWraps, us := e.us, step := 0, digest := [] }
  let s := s.writeRec { base with flags := flags + 32 * nb (!rest.isEmpty) }
  kept.foldl (fun s b => s.writeRec
    { base with berth := b.1, basin := b.2.basin, units := b.2.units, share := share b.2.units, step := b.2.step,
                digest := b.2.digest }) s

/-- The intervals that have ended are allocated at once, with the table of this TSU and what tables of others have come (R264, R279; log
entry 88). -/
def State.cutOffNow (s : State) : State :=
  let s := s.die.cutUses.foldl (fun s c => s.mtr fun m => m.takeTable 0 (tableOf c.1 c.2.1 c.2.2)) s
  let s := s.dieUpd fun d => { d with cutUses := [] }
  s.meter.ended.foldl (fun s e => s.allocate e) (s.mtr fun m => { m with ended := [] })

/-- The signed value of a code of 24 bits, least significant byte first (R255). -/
def code24 (bs : List Byte) : Int := (BitVec.ofNat 24 (leNat bs)).toInt

/-- The codes of an ADC frame whose CRC-8 holds and which reports no conversion error (R255). -/
def adcCodes (f : List Byte) : Option (Int × Int) :=
  if f.length = 8 ∧ crc8 (f.take 7) = byteAt f 7 ∧ byteAt f 6 = 0 then some (code24 (slice f 0 3), code24 (slice f 3 3))
  else none

/-- A code at either end of its range (R255). -/
def clipped (c : Int) : Bool := c == 2 ^ 23 - 1 || c == -(2 ^ 23)

/-- Adds a sample's energy (R256). -/
def MeterSt.accumulate (m : MeterSt) (v i : Int) : MeterSt :=
  let uv := v * (m.param 0x01).toNat / 2 ^ 24 + (m.param 0x02).toInt
  let ua := i * (m.param 0x03).toNat / 2 ^ 24 + (m.param 0x04).toInt
  let p := uv * ua
  if p ≥ 0 then { m with accImp := m.accImp + (p * 125).toNat } else { m with accExp := m.accExp + (-p * 125).toNat }

/-- The 64 bytes of the meter status block (R283). -/
def MeterSt.block (m : MeterSt) : List Byte :=
  leBytes 1 (m.mstate.code + 4 * nb m.master + 8 * nb m.halted + 16 * nb m.storeHigh + 32 * nb m.storeFull
      + 64 * nb m.logLow + 128 * nb m.tamperOpen)
    ++ leBytes 1 (m.addr % 8) ++ leBytes 2 m.sealEpoch ++ leBytes 4 m.evtCnt ++ leOf 8 (m.param 0x05) ++ leBytes 8 m.eCum
    ++ leBytes 4 m.eWraps ++ leBytes 4 m.storeRecs ++ leBytes 8 m.rseq ++ leBytes 8 m.ackedRseq ++ leBytes 4 m.log.length
    ++ leOf 4 (sInt 32 (satInt (2 ^ 31 - 1) m.ppm)) ++ leBytes 2 m.lastMissed ++ leBytes 2 m.logLost ++ leBytes 4 m.rejects

/-- The binding of a context that is in force (R262): of those whose instant has been reached the latest, and of two with
one instant the one accepted later. -/
def bindInForce (now : W64) (l : List BerthBind) : Option BerthBind :=
  (l.filter (fun b => reached now b.atNs)).foldl (fun (a : Option BerthBind) b =>
    match a with
    | none => some b
    | some x => if later x.atNs b.atNs then some x else some b) none

/-- The meter status block of the TSU (R283). Of a section that is not the master only `MASTER`, `MTR_ADDR` and `MTR_REJECT_CNT` are its
own; the rest is the master's, a free value here (log entry 80). -/
def State.meterBlock (s : State) : List Byte :=
  let m := s.meter
  let own := m.block
  if m.down || m.strapMaster || m.masters != 1 then own
  else
    let v := leOf 64 (Config.masterStatus s.cyc)
    [byteAt v 0 &&& 0xFB] ++ slice own 1 1 ++ slice v 2 58 ++ slice own 60 4

/-- The berth of the binding in force, 0 for none. -/
def bindingAt (now : W64) (l : List BerthBind) : Nat :=
  match bindInForce now l with
  | some b => b.berth
  | none => 0

/-- The berth to which a context is bound now, 0 for none (R262). -/
def State.berthOf (s : State) (ctx : Nat) : Nat := bindingAt (s.ns .tsu) (tabGet [] s.die.binds ctx)

/-- The berth is bound to a context of this TSU, now or from an instant to come (R262). -/
def State.berthBound (s : State) (berth : Nat) : Bool :=
  s.die.binds.any (fun e => bindingAt (s.ns .tsu) e.2 == berth || e.2.any (fun b => b.berth == berth && later b.atNs (s.ns .tsu)))

/-- A binding was in force before this cycle (R262, R282): one that applies at once in the cycles after that of its command, whether HT
runs or is held. -/
def BerthBind.before (b : BerthBind) (cyc : Nat) (now : W64) : Bool :=
  match b.fromCyc with
  | some c => c != cyc
  | none => later now b.atNs

/-- The berth under which an activity report of a context counts: the one in force before the cycle of the report (R282). -/
def State.reportBerth (s : State) (ctx : Nat) : Nat :=
  bindingAt (s.ns .tsu) ((tabGet [] s.die.binds ctx).filter (fun b => b.before s.cyc (s.ns .tsu)))

/-- The bindings of a context that count in this cycle or can still take effect (R262, R282). -/
def liveBinds (cyc : Nat) (now : W64) (l : List BerthBind) : List BerthBind :=
  (match bindInForce now (l.filter (fun b => b.before cyc now)) with
   | some b => if b.berth = 0 then [] else [b]
   | none => []) ++ l.filter (fun b => !b.before cyc now)

/-- The meter store of the module is above its high-water mark (R262, R274): that of the master, which is another TSU's section where this
one is not (a free value there, log entry 80). -/
def State.meterHigh (s : State) : Bool :=
  if s.meter.strapMaster || s.meter.masters != 1 then s.meter.storeHigh
  else (Config.masterStatus s.cyc).getLsbD 4

/-- A step digest has formed: each berth that a context of one of its cores is bound to takes it, unless it holds that of a step strobed
later (R263; log entry 78). In the cycle of a boundary it counts for the interval that the boundary ends too (R401). -/
def State.berthDigest (s : State) (cores : List Nat) (basin : Nat) (step : StepNo) (l : W64) (digest : List Byte) : State :=
  let berths := ((cores.flatMap fun c => (List.range 8).map fun x => s.berthOf (8 * c + x)).filter (· != 0)).eraseDups
  let note (t : Tab BerthUse) : Tab BerthUse := berths.foldl (fun t b =>
    tabMod {} t b fun u =>
      if !u.digest.isEmpty && later u.l l then u
      else { u with basin := basin, step := step, digest := digest.take 16, l := l }) t
  s.dieUpd fun d =>
    let d := { d with uses := note d.uses }
    if s.cutNow then d.amendCut fun un t => (un, note t) else d

end Sys2Proof.Machine
end

