-- ==== Sys2Proof/Machine/Rings.lean ====
section
/-!
DEFINITION. The rings: the ring base table (R285, R286, R384, R430), doorbells (R287 to R290), descriptor fetch and its
checks (R292, R293, R296), completions held back (R298), and the Phidor's trap queue (R345, R346).
-/

namespace Sys2Proof.Machine

/-- The 32 bytes of a ring entry (R285). -/
def RingEntry.bytes (e : RingEntry) : List Byte :=
  leBytes 8 e.descBase ++ leBytes 8 e.cplBase ++ leBytes 8 e.dbAddr ++ leBytes 1 e.sizeLog2
    ++ leBytes 1 (nb e.en + 2 * nb e.irqEn) ++ leBytes 2 e.vector ++ leBytes 2 e.holdoffUs ++ zeros 2

/-- A ring entry read from its 32 bytes (R285). -/
def ringEntryOf (b : List Byte) : RingEntry :=
  { descBase := field b 0 8, cplBase := field b 8 8, dbAddr := field b 16 8, sizeLog2 := field b 24 1 % 32,
    en := (byteAt b 25).getLsbD 0, irqEn := (byteAt b 25).getLsbD 1, vector := field b 26 2, holdoffUs := field b 28 2 }

/-- The checks of R430 on an entry about to be enabled. -/
def RingEntry.ok (p : Part) (e : RingEntry) : Bool :=
  e.descBase % 4096 == 0 && e.cplBase % 4096 == 0 && e.dbAddr % 64 == 0 && 6 ≤ e.sizeLog2 && e.sizeLog2 ≤ 20
    && e.vector ≤ (match p with | .tsu => 63 | .phi => 2047)

/-- An enable that must start from zero indices (R286): the first, or one that moves or resizes the ring. -/
def Ring.fresh (r : Ring) (e : RingEntry) : Bool :=
  match r.lastEn with
  | none => true
  | some l => l.descBase != e.descBase || l.cplBase != e.cplBase || l.dbAddr != e.dbAddr || l.sizeLog2 != e.sizeLog2

/-- The ring becomes `ENABLED` with an entry (R286, R384). -/
def Ring.enable (r : Ring) (e : RingEntry) : Ring :=
  let r := if r.fresh e then { r with fetched := 0, prod := 0, cplProd := 0, cplCons := 0, badProd := [], badCons := [] } else r
  { r with entry := e, stagedWords := e.bytes, lastEn := some e, rstate := .enabled, pendEn := none, enCyc := none }

/-- The write touches the word that holds `EN` (R430). -/
def touchesEn (off len : Nat) : Bool := off ≤ 25 && 25 < off + len

/-- A Function Level Reset has come in the cycle under way: the values it sets stay (R8, R437). -/
def State.flrNow (s : State) (p : Part) : Bool := (s.part p).cycs.flr == some s.cyc

/-- The bytes of a ring entry with its reserved bits zero (R5, R285). -/
def entryMask (l : List Byte) : List Byte :=
  l.zipIdx.map fun e =>
    if e.2 = 24 then e.1 &&& 0x1F else if e.2 = 25 then e.1 &&& 3 else if 30 ≤ e.2 then 0 else e.1

/-- A write to words of a ring entry, as the part applies it (R286, R384, R430). One that meets the dredge of the ring base table is lost
(R403); a disable in the cycle in which a drain has ended cancels the enable that waited for that (R385). -/
def State.ringWrite (s : State) (p : Part) (i off : Nat) (data : List Byte) : State :=
  let r := s.ring p i
  let staged := entryMask (splice r.stagedWords off data)
  let e := ringEntryOf staged
  let setsEn := touchesEn off data.length && e.en
  let clearsEn := touchesEn off data.length && !e.en
  let rej (s : State) := s.updRing p i fun r => { r with cfgRej := true }
  let drop (s : State) := s.updRing p i fun r => { r with stagedWords := r.entry.bytes }
  if s.flrNow p || (p == .tsu && s.tsu.cfg.startStep < 3) then s
  else match r.rstate with
  | .disabled =>
    if setsEn then
      if e.ok p then (s.updRing p i fun r => r.enable e).pageChange p else rej (drop s)
    else s.updRing p i fun r => { r with stagedWords := staged }
  | .enabled =>
    if clearsEn && r.enCyc == some s.cyc then
      (s.updRing p i fun r => { r with rstate := .disabled, entry := { r.entry with en := false }, enCyc := none,
                                       stagedWords := ({ r.entry with en := false } : RingEntry).bytes }).pageChange p
    else if clearsEn then
      let gone := r.inflight.filter (fun d => !d.started)
      let s := s.updRing p i fun r => { r with rstate := .draining, entry := { r.entry with en := false },
                                               stagedWords := ({ r.entry with en := false } : RingEntry).bytes }
      (gone.foldl (fun s d => s.finish p i d.idx.toNat .fenced 0 0) s).pageChange p
    else rej s
  | .draining =>
    if setsEn then
      if e.ok p then (s.updRing p i fun r => { r with rstate := .drainingPending, pendEn := some e, stagedWords := e.bytes }).pageChange p
      else rej (drop s)
    else s.updRing p i fun r => { r with stagedWords := staged }
  | .drainingPending =>
    if clearsEn then
      (s.updRing p i fun r => { r with rstate := .draining, pendEn := none, stagedWords := r.entry.bytes }).pageChange p
    else rej s

/-- The offset of a byte of a ring's entry in a part's register window (`RING_BASE`). -/
def ringOffset (p : Part) (i off : Nat) : Nat := (match p with | .tsu => 0x1000 | .phi => 0x020000) + 32 * i + off

/-- RING_ENTRY_STAGE (R430): a write to words of a ring entry other than the one with `EN`. -/
def execRingEntryStage (p : Part) (ring off : Nat) (data : List Byte) (s : State) : Result :=
  if ring ≥ ringCount p ∨ off + data.length > 32 ∨ touchesEn off data.length then nothing s
  else s.viaWindow p (ringOffset p ring off) data fun s => s.ringWrite p ring off data

/-- RING_ENABLE (R384, R430): a write that sets `EN`. -/
def execRingEnable (p : Part) (ring off : Nat) (data : List Byte) (s : State) : Result :=
  if ring ≥ ringCount p ∨ off + data.length > 32 ∨ !touchesEn off data.length ∨ !(ringEntryOf (splice (zeros 32) off data)).en
  then nothing s
  else s.viaWindow p (ringOffset p ring off) data fun s => s.ringWrite p ring off data

/-- RING_DISABLE (R286, R384): a write that clears `EN`. -/
def execRingDisable (p : Part) (ring off : Nat) (data : List Byte) (s : State) : Result :=
  if ring ≥ ringCount p ∨ off + data.length > 32 ∨ !touchesEn off data.length ∨ (ringEntryOf (splice (zeros 32) off data)).en
  then nothing s
  else s.viaWindow p (ringOffset p ring off) data fun s => s.ringWrite p ring off data

/-- RING_DRAIN_COMPLETE (R286, R384): a draining ring holds no command in flight and no held completion. -/
def execRingDrainComplete (p : Part) (ring : Nat) (s : State) : Result :=
  let r := s.ring p ring
  if !(r.inflight.isEmpty && r.held.isEmpty) then nothing s
  else
    match r.rstate with
    | .draining => .next ((s.updRing p ring fun r => { r with rstate := .disabled }).pageChange p)
    | .drainingPending =>
      match r.pendEn with
      | some e => .next ((s.updRing p ring fun r => { r.enable e with enCyc := some s.cyc }).pageChange p)
      | none => nothing s
    | _ => nothing s

/-- An index that the part ignores: `RING_INDEX` once for each distinct value (R289). -/
def State.badIndex (s : State) (p : Part) (i : Nat) (seen : List W32) (v : W32) : State :=
  let s := s.updRing p i fun r => { r with idxErr := true }
  if seen.contains v then s else s.record p .ringIndex i

/-- A ring's doorbell line has been read (R287, R289, R298, R301): `CPL_CONS` is taken first and held completions are
written, then `PROD`. -/
def State.doorbell (s : State) (p : Part) (i : Nat) (prod cons : W32) : State :=
  let r := s.ring p i
  if r.rstate == .disabled then s
  else
    let s :=
      if (cons - r.cplCons).toNat ≤ (r.cplProd - r.cplCons).toNat then
        let s := s.updRing p i fun r => { r with cplCons := cons }
        s.flushCpl p i (s.ring p i).held
      else (s.badIndex p i r.badCons cons).updRing p i fun r => { r with badCons := cons :: r.badCons.filter (· != cons) }
    if (prod - r.fetched).toNat ≤ 2 ^ r.entry.sizeLog2 then s.updRing p i fun r => { r with prod := prod }
    else (s.badIndex p i r.badProd prod).updRing p i fun r => { r with badProd := prod :: r.badProd.filter (· != prod) }

/-- The ring engine of the TSU is in reset, and doorbell notices are held (R369), or its state is dredged (R403). -/
def State.ringHeld (s : State) : Part → Bool
  | .tsu => (tabGet {} s.tsu.engines 0 : EngineSt).step != 0 || s.tsu.cfg.startStep < 3
  | .phi => false

/-- A doorbell notice held while the ring engine is in reset (R369): a newer one of a ring takes the place of the one held, since `PROD`
stays in host memory, so that none is lost. -/
def State.holdNotice (s : State) (ring : Nat) (prod cons : W32) : State :=
  (s.upd .tsu fun c => { c with engines := tabMod {} c.engines 0 fun e =>
    { e with heldItems := e.heldItems.filter (fun x => field x 0 2 != ring) } }).holdItem 0 64
      (leBytes 2 ring ++ leOf 4 prod ++ leOf 4 cons)

/-- The part learns of a change of a line that it watches as it comes: the TSU from the line-watch service, the Phidor only with CXL.cache,
whose shared copy of the line the host's write invalidates, so that it reads the line again (R290, R315). -/
def State.watches (s : State) : Part → Bool
  | .tsu => true
  | .phi => s.phi.page.cxlCache

/-- DOORBELL_WRITE (R289, R290, R301, R315, R369): the host has changed a ring's doorbell line. A Phidor without CXL.cache sees that in its
next round of reads. -/
def execDoorbellWrite (p : Part) (ring : Nat) (prod cons : W32) (s : State) : Result :=
  if ring ≥ ringCount p || !s.watches p then nothing s
  else
    let s := match p with
      | .tsu => s.wakeFast
      | .phi => s
    if s.ringHeld p then .next (s.holdNotice ring prod cons)
    else .next (s.doorbell p ring prod cons)

/-- The opcodes of R294. -/
def opcodes : List Nat :=
  [0x01, 0x02, 0x03, 0x04, 0x05, 0x06, 0x07, 0x10, 0x11, 0x12, 0x13, 0x14, 0x15, 0x16, 0x17, 0x18, 0x20, 0x21, 0x22, 0x23,
   0x24, 0x25, 0x26, 0x27, 0x28, 0x29, 0x30, 0x31, 0x32, 0x33, 0x40, 0x41, 0x42, 0x43]

/-- The opcodes that belong only to the other part (R294). -/
def foreign (p : Part) (op : Nat) : Bool :=
  match p with
  | .tsu => op ∈ [0x03, 0x05, 0x07, 0x42] || (0x10 ≤ op && op ≤ 0x18)
  | .phi => (0x20 ≤ op && op ≤ 0x29) || (0x30 ≤ op && op ≤ 0x33)

/-- The status with which the header checks end a descriptor, none when it passes them (R292, R293, R344, R417). -/
def State.headerStatus (s : State) (p : Part) (seqBad : Bool) (op : Nat) : Option (Status × W16) :=
  if seqBad || !opcodes.contains op then some (.badDesc, 0)
  else if foreign p op then some (.unsupported, 0)
  else if (s.part p).retired && op != 0x01 && op != 0x02 then some (.fenced, 0)
  else if !(s.part p).configured && !([0x01, 0x02, 0x40, 0x41].contains op) then some (.cfgRefused, 0)
  else if p == .phi && s.hub.fw.state == .halted then some (.retry, Cause.fwHalted.w)
  else none

/-- The header of a fetched descriptor is checked (R292, R293): one that fails completes. -/
def State.judgeDesc (s : State) (p : Part) (i : Nat) (d : Desc) : State :=
  let seqBad : Bool := match (s.ring p i).lastDseq with
    | none => false
    | some l => !later d.dseq l
  let s := if seqBad then s else s.updRing p i fun r => { r with lastDseq := some d.dseq }
  match s.headerStatus p seqBad d.opcode with
  | none => s.updRing p i fun r => { r with inflight := r.inflight.map fun x => if x.idx = d.idx then { x with judged := true } else x }
  | some (st, cause) =>
    (s.updRing p i fun r => { r with inflight := r.inflight.filter (fun x => x.idx != d.idx) }).addCpl p i
      [{ status := st.b, cause := cause, tag := d.tag, descIdx := d.idx, dseq := d.dseq, result := 0, irq := d.irq }]

/-- Commands wait in their rings, unchecked, while a Phidor has no firmware that runs and is not `HALTED` (R343, R344). -/
def State.ringsWait (s : State) : Part → Bool
  | .tsu => false
  | .phi => !s.hub.fwRuns && s.hub.fw.state != .halted

/-- The headers of the descriptors that waited for firmware are checked, ring by ring in index order (R343, R349). -/
def State.judgeFetched (s : State) (p : Part) : State :=
  (s.part p).rings.foldl (fun s e => (e.2.inflight.filter (fun d => !d.judged)).foldl (fun s d => s.judgeDesc p e.1 d) s) s

/-- One descriptor of a ring has been read (R292, R293, R314): `none` when the read was poisoned or failed, which ends it
with `PARITY` and shows in the error status of a Phidor; the spec states no `TAG` or `DSEQ` for that completion, which are free values (log
entry 5). -/
def State.fetchOne (s : State) (p : Part) (i : Nat) (read : Option (List Byte)) : State :=
  let idx := (s.ring p i).fetched
  let s := s.updRing p i fun r => { r with fetched := r.fetched + 1 }
  match read with
  | none =>
    let (v, s) := s.takeFree
    let s := match p with
      | .tsu => s
      | .phi => s.upd .phi fun c => { c with page.aer := c.page.aer ||| (1#32 <<< (Config.aerBit s.cyc % 32)) }
    s.addCpl p i [{ status := Status.parity.b, cause := 0, tag := v.setWidth 32, descIdx := idx,
                    dseq := (v >>> 32).setWidth 64, result := 0, irq := v.getLsbD 96 }]
  | some bytes =>
    let d : Desc := { idx := idx, bytes := padTo 64 bytes, started := false, startNs := 0, applied := false, judged := false }
    let s := s.updRing p i fun r => { r with inflight := r.inflight ++ [d] }
    if s.ringsWait p then s else s.judgeDesc p i d

/-- The next ring that holds unfetched work, in ascending order from the one after the last served (R296). -/
def State.nextRing (s : State) (p : Part) : Option Nat :=
  let work := ((s.part p).rings.filter (fun e => e.2.rstate == .enabled && e.2.fetched != e.2.prod)).map (·.1)
  match work.find? (fun i => (s.part p).page.rrNext ≤ i) with
  | some i => some i
  | none => work.head?

/-- DESCRIPTOR_FETCH (R296): one visit fetches up to 16 descriptors of the next ring with unfetched work. -/
def execDescriptorFetch (p : Part) (descs : List (Option (List Byte))) (s : State) : Result :=
  if s.ringHeld p then nothing s
  else
    match s.nextRing p with
    | none => nothing s
    | some i =>
      let r := s.ring p i
      let n := min 16 (r.prod - r.fetched).toNat
      let s := (descs.take n).foldl (fun s d => s.fetchOne p i d) s
      .next (s.upd p fun c => { c with page.rrNext := i + 1 })

/-- IRQ_HOLDOFF_EXPIRY (R298). -/
def execIrqHoldoffExpiry (p : Part) (ring : Nat) (s : State) : Result :=
  let r := s.ring p ring
  let free : Bool := match r.lastIrqNs with
    | none => true
    | some t => elapsed (s.ns p) t (us r.entry.holdoffUs)
  whenever (r.irqPend && free) s
    ((s.updRing p ring fun r => { r with lastIrqNs := some (s.ns p), irqPend := false }).raiseIrq p r.entry.vector)

/-- NOP (R295). -/
def execNop (p : Part) (ring idx : Nat) (s : State) : Result :=
  s.runDesc p ring idx 0x01 anyVariant fun _ s => s.finish p ring idx .ok 0 0

end Sys2Proof.Machine
end

