-- ==== Sys2Proof/Machine/Pages.lean ====
section
/-!
DEFINITION. State pages and views (R83, R88, R110, R150, R180, R249, R302 to R307), and the host driver's heartbeat (R311 to
R313).
-/

namespace Sys2Proof.Machine

/-- A ring status entry (R306). -/
def Ring.status (r : Ring) : List Byte :=
  leOf 4 r.fetched ++ leOf 4 r.cplProd ++ leBytes 1 r.rstate.code
    ++ leBytes 1 (nb r.idxErr + 2 * nb (!r.held.isEmpty) + 4 * nb r.cfgRej) ++ leBytes 2 r.inflight.length ++ zeros 4

/-- A region entry (R110). -/
def RegionSt.entry (g : RegionSt) : List Byte :=
  leOf 8 g.stretchCnt ++ leBytes 4 (satNat 32 g.stretchShown) ++ leOf 4 g.slackNs ++ leOf 4 g.slackMinNs
    ++ leBytes 4 (satNat 32 g.slipCnt) ++ leBytes 4 (satNat 32 g.lastSlipNs) ++ leOf 4 (sInt 32 g.strobeDlyFs)
    ++ leOf 4 (sInt 32 g.spineDlyFs)
    ++ leBytes 1 (nb g.calFuse + 2 * nb g.off + 4 * nb (g.fifo.any (·.slipped) || g.waiting.any (·.slipped))) ++ zeros 3

/-- The largest value of the metrics of a channel whose keys lie in a range, in units of 10 fs, saturating. -/
def Chan.metricMax (c : Chan) (lo hi : Nat) : Nat :=
  satNat 16 ((c.metrics.filter (fun e => lo ≤ e.1 && e.1 ≤ hi)).foldl (fun m e => max m e.2.value) 0)

/-- A channel health entry (R88). The spec gives its content and its length; the order is the model's: code, score, level, the
five metrics in the order of R88's table, and the age of the calibration in s (DESIGN CHOICE, log entry 25). -/
def State.healthEntry (s : State) (p : Part) (ch : Nat) : List Byte :=
  let c := s.chan p ch
  leBytes 2 ch ++ leBytes 1 c.score ++ leBytes 1 c.level ++ leBytes 2 (c.metricMax 0 0) ++ leBytes 2 (c.metricMax 1 1)
    ++ leBytes 2 (c.metricMax 16 31) ++ leBytes 2 (c.metricMax 32 34) ++ leBytes 2 (c.metricMax 40 42)
    ++ leBytes 2 (satNat 16 ((nsDiff (s.ns p) c.lastCalNs).toNat / 1000000000))

/-- The channel codes of a part, ascending (R69). -/
def chanCodes : Part → List Nat
  | .tsu => [0, 1, 2] ++ (List.range 18).map (· + 16)
  | .phi => List.range 562 ++ (List.range 5).map (· + 576)

/-- A launch status entry (R180). -/
def State.launchEntry (s : State) (b : Nat) (x : BasinSt) : List Byte :=
  leBytes 2 b ++ leBytes 2 x.gen ++ leOf 6 x.lastArmed ++ leOf 6 x.lastStrobed ++ leOf 6 x.lastRollback ++ leOf 2 x.lastCause
    ++ leBytes 4 x.aborts ++ leOf 2 x.lastOrigin
    ++ leBytes 1 (nb x.purging + 2 * nb (tabGet? s.die.attaches b).isSome) ++ zeros 1

/-- A basin status block (R150). -/
def Seq.block (q : Seq) (b : Nat) : List Byte :=
  leBytes 2 b ++ leBytes 2 q.gen ++ leBytes 1 (q.state.code + 8 * q.role.code) ++ leBytes 1 q.k ++ zeros 2
    ++ leOf 6 q.lastIssued ++ leOf 6 q.lastSettled ++ leBytes 4 q.pc ++ leOf 8 q.lastL
    ++ leBytes 2 (packBits (q.preds.map (·.valid))) ++ leBytes 1 q.reason ++ zeros 1 ++ leBytes 4 q.members.length
    ++ leBytes 4 q.reasonArg ++ leBytes 4 q.aborts

/-- An operation entry (R249). -/
def OpCtx.entry (o : OpCtx) : List Byte :=
  leBytes 2 o.basin ++ leBytes 2 o.gen ++ leOf 4 o.opid ++ [o.fmt] ++ leBytes 1 o.state.code ++ leBytes 2 o.len
    ++ leBytes 4 o.sent.length ++ leBytes 4 o.acks.length ++ leBytes 2 (satNat 16 o.failed.length)
    ++ leBytes 2 (satNat 16 o.refetches) ++ leOf 8 o.openNs

/-- The chunks that count towards an operation's coverage here (R249): of this plane at a sequencing Phidor, and at another of those
up to the highest chunk any port has given; of an `FP64` `SUM` only the home chunks (R237). -/
def State.coverChunks (s : State) (o : OpCtx) : List Nat :=
  let n := if o.opened then o.chunks else o.inputs.foldl (fun m x => max m (x.chunk + 1)) 0
  (List.range n).filter (fun c => !fp64Sum o.wbop o.efmt || c % 2 == s.phiPlane.toNat)

/-- The members of an operation's step below each port: expected and covered (R249). -/
def State.coverage (s : State) (o : OpCtx) : List (Nat × Nat × Nat) :=
  let chunks := s.coverChunks o
  let members := (s.pathMembers o.basin o.gen).filter (fun m => m.at o.step)
  let has (f : Input → Bool) : Bool := chunks.all fun c => o.inputs.any (fun x => x.chunk == c && x.whole && f x)
  (s.portsAt o.basin o.gen o.step).mergeSort (· ≤ ·) |>.map fun p =>
    let below := members.filter (fun m => m.port == p)
    let covered := if gathered o.wbop then (below.filter (fun m => has (fun x => x.die == m.die))).length
      else if has (fun x => x.port == p) then below.length else 0
    (p, below.length, covered)

/-- The shortfall entries of an operation (R306). -/
def State.shortfall (s : State) (o : OpCtx) (index : Nat) : List (List Byte) :=
  ((s.coverage o).filter (fun e => e.2.2 < e.2.1)).map fun e =>
    leBytes 2 index ++ leBytes 2 e.1 ++ leBytes 4 e.2.1 ++ leBytes 4 e.2.2 ++ zeros 4

/-- A hall gate view entry (R306). -/
def State.gateEntry (s : State) (c : GateCtx) : List Byte :=
  leBytes 2 c.basin ++ leBytes 2 c.gen ++ leBytes 2 c.gate ++ leBytes 1 (nb (s.sequences c.basin c.gen)) ++ zeros 1
    ++ leOf 4 c.released ++ leBytes 4 (if c.firstNs.isSome then c.total else 0)
    ++ leOf 8 (match c.firstNs with | some t => t | none => 0)

/-- The counting contexts that the gate view shows, ascending by basin and gate (R306). -/
def State.gateView (s : State) : List GateCtx :=
  (s.hub.gates.filter (fun c => c.firstNs.isSome || c.relSeen || !s.sequences c.basin c.gen)).mergeSort
    (fun a b => a.basin < b.basin || (a.basin == b.basin && a.gate ≤ b.gate))

/-- The shortfall entries of the state page: operations in ascending `OPEN_NS` (R307). An intermediate Phidor's contexts have
no operation entry, and carry the `OP_INDEX` 0xFFFF (log entry 25). -/
def State.shortfalls (s : State) : List (List Byte) :=
  let opened := (s.hub.ops.filter (·.opened)).zipIdx
  let byAge := opened.mergeSort (fun a b => a.1.openNs ≤ b.1.openNs)
  byAge.flatMap (fun e => s.shortfall e.1 e.2) ++ (s.hub.ops.filter (fun o => !o.opened)).flatMap (fun o => s.shortfall o 0xFFFF)

/-- Bytes free in the ledger ring (R310). -/
def LedgerSt.free (l : LedgerSt) : Nat := if l.base = 0 then 0 else 2 ^ l.log2 - (l.prod - l.cons).toNat

/-- `LEDGER_FULL`: room for less than two full transfers (R310). -/
def LedgerSt.full (l : LedgerSt) : Bool := l.free < 82432

/-- Bytes 8 to 63 of a state page header (R302). -/
def State.pageHeader (s : State) (p : Part) (cntA cntB cntC cntD gateOmitted shortOmitted : Nat) : List Byte :=
  let g := (s.part p).page
  let phi : Bool := p == .phi
  let led := s.hub.led
  htBytes (s.ht p) ++ leBytes 1 (nb phi) ++ leBytes 1 1
    ++ leBytes 1 (g.driver.code + 4 * nb (phi && g.parkAtStep) + 8 * nb (phi && led.full))
    ++ leBytes 1 (nb (gateOmitted != 0) + 2 * nb (shortOmitted != 0)) ++ zeros 2 ++ leBytes 4 cntA ++ leBytes 4 cntB
    ++ leBytes 4 cntC ++ leBytes 4 cntD ++ leOf 8 g.hbLastNs ++ leOf 8 (if phi then led.prod else 0)
    ++ leBytes 4 gateOmitted ++ leBytes 4 shortOmitted

/-- The sections of the TSU's state page after the header: offset and bytes (R304). -/
def State.tsuSections (s : State) : List (Nat × List Byte) :=
  [(64, padTo 64 (s.timeBlock .tsu)),
   (128, s.meterBlock),
   (192, ((List.range 64).map (fun i => (s.ring .tsu i).status)).flatten),
   (1216, ((List.range 16).map (fun r => (s.region r).entry)).flatten),
   (1856, ((List.range 16).map (fun r => padTo 48 (tabGet {} s.die.spine.watches r : WatchSt).result)).flatten),
   (2624, padTo 384 ((chanCodes .tsu).map (s.healthEntry .tsu)).flatten),
   (3008, (s.die.basins.map (fun e => s.launchEntry e.1 e.2)).flatten)]

/-- The gate view entries that fit the section: open uses first (R307). -/
def State.gatesShown (s : State) : List GateCtx :=
  let v := s.gateView
  if v.length ≤ 65536 then v
  else (v.filter (·.firstNs.isSome) ++ v.filter (fun c => !c.firstNs.isSome)).take 65536

/-- The sections of the Phidor's state page after the header (R305, R307). -/
def State.phiSections (s : State) : List (Nat × List Byte) :=
  [(64, padTo 64 (s.timeBlock .phi)),
   (128, ((List.range 4096).map (fun i => (s.ring .phi i).status)).flatten),
   (65664, (s.hub.seqs.map (fun e => e.2.block e.1)).flatten),
   (77952, padTo 9088 ((chanCodes .phi).map (s.healthEntry .phi)).flatten),
   (87040, (((s.hub.ops.filter (·.opened)).take 8192).map OpCtx.entry).flatten),
   (349184, (s.shortfalls.take 16384).flatten),
   (611328, (s.gatesShown.map s.gateEntry).flatten)]

/-- The header and the sections of a part's state page. -/
def State.pageBody (s : State) (p : Part) : List Byte × List (Nat × List Byte) :=
  match p with
  | .tsu => (s.pageHeader .tsu s.die.basins.length 0 0 0 0 0, s.tsuSections)
  | .phi =>
    let ops := (s.hub.ops.filter (·.opened)).length
    let sh := s.shortfalls.length
    let gv := s.gateView.length
    (s.pageHeader .phi s.hub.seqs.length (min ops 8192) (min sh 16384) (min gv 65536) (gv - min gv 65536) (sh - min sh 16384),
     s.phiSections)

/-- Writes one state page update: the odd `SEQ`, the header and the sections, the even `SEQ` (R303). -/
def State.writePage (s : State) (p : Part) : State :=
  let addr := (s.part p).page.stateAddr.toNat
  let done (s : State) := s.upd p fun c => { c with page.lastNs := c.time.ns, page.changeNs := none }
  if addr = 0 then done s
  else
    let seq := (s.part p).page.seq
    let (hdr, secs) := s.pageBody p
    let s := (s.dma p addr (leOf 8 (seq + 1))).dma p (addr + 8) hdr
    let s := secs.foldl (fun s e => s.dma p (addr + e.1) e.2) s
    done ((s.dma p addr (leOf 8 (seq + 2))).upd p fun c => { c with page.seq := seq + 2 })

/-- STATE_REFRESH (R295): an update; with one of the same cycle there is no other, and its `SEQ` is returned (R301). -/
def execStateRefresh (p : Part) (ring idx : Nat) (s : State) : Result :=
  s.runDesc p ring idx 0x02 anyVariant fun _ s =>
    let s := if (s.part p).cycs.pageUpd = some s.cyc then s else s.writePage p
    s.finish p ring idx .ok 0 (s.part p).page.seq

/-- STATE_PAGE_UPDATE (R303): every `STATE_PERIOD_US`, or after a change of time state, ring state or `DRIVER_STATE`. -/
def execStatePageUpdate (p : Part) (s : State) : Result :=
  let g := (s.part p).page
  whenever (!s.ringHeld p && (g.changeNs.isSome || elapsed (s.ns p) g.lastNs (us (s.statePeriodUs p)))) s
    ((s.writePage p).upd p fun c => { c with cycs.pageUpd := some s.cyc })

/-- The fields that both kinds of `VIEW_READ` share are in range, and the basin is held (R295). -/
def State.viewOk (s : State) (d : Desc) (max : Nat) : Bool :=
  d.pl 16 8 % 64 == 0 && 1 ≤ d.pl 24 4 && d.pl 24 4 ≤ max && (s.seq? (d.plBits 2 2 0 12)).isSome

/-- The basin of a `VIEW_READ` is held in another generation (R295). -/
def State.viewStale (s : State) (d : Desc) : Bool := !s.sequences (d.plBits 2 2 0 12) (d.pl 4 2)

/-- Writes the entries of a view up to `MAX` and completes (R295). -/
def State.writeView (s : State) (ring idx : Nat) (d : Desc) (l : List (List Byte)) : State :=
  let n := min l.length (d.pl 24 4)
  (s.dma .phi (d.pl 16 8) (l.take n).flatten).finish .phi ring idx .ok 0 (BitVec.ofNat 64 (n + 2 ^ 32 * l.length))

/-- VIEW_READ with `KIND` 0 (R295, R306). -/
def execViewReadGates (ring idx : Nat) (s : State) : Result :=
  s.runDesc .phi ring idx 0x18 (fun d => !d.plBit 0 0) fun d s =>
    if !s.viewOk d 4096 then s.finish .phi ring idx .badDesc 0 0
    else if s.viewStale d then s.finish .phi ring idx .genStale 0 0
    else s.writeView ring idx d ((s.gateView.filter (fun c => c.basin == d.plBits 2 2 0 12)).map s.gateEntry)

/-- VIEW_READ with `KIND` 1 (R295, R306). -/
def execViewReadShortfall (ring idx : Nat) (s : State) : Result :=
  s.runDesc .phi ring idx 0x18 (fun d => d.plBit 0 0) fun d s =>
    if !s.viewOk d 528 then s.finish .phi ring idx .badDesc 0 0
    else if s.viewStale d then s.finish .phi ring idx .genStale 0 0
    else
      match s.op? (d.plBits 2 2 0 12) (d.pl 4 2) (BitVec.ofNat 32 (d.pl 8 4)) with
      | none => s.finish .phi ring idx .conflict 0 0
      | some o => if !o.opened then s.finish .phi ring idx .conflict 0 0 else s.writeView ring idx d (s.shortfall o 0xFFFF)

/-- The heartbeat line has changed (R311, R313). -/
def State.heartbeat (s : State) (p : Part) (v : W64) : State :=
  let g := (s.part p).page
  if g.hbAddr = 0 then s
  else
    let s := if g.driver = .present then s else s.pageChange p
    s.upd p fun c => { c with page.hbCount := v, page.hbLastNs := c.time.ns, page.driver := .present, page.lapse := false }

/-- HEARTBEAT_CHANGE (R290, R311, R313): the host has changed its heartbeat line; a Phidor without CXL.cache sees that in its next round of
reads. -/
def execHeartbeatChange (p : Part) (v : W64) (s : State) : Result := whenever (s.watches p) s (s.heartbeat p v)

/-- Parks every running basin, as `BASIN_PARK` does, with reason 10 (R312). -/
def State.policyPark (s : State) : State :=
  (s.hub.seqs.map (·.1)).foldl (fun s b =>
    match s.seq? b with
    | some q => if q.runs && q.parkReq.isNone then (s.updSeq b fun q => { q with parkReq := some (10, 0) }).rest b else s
    | none => s) s

/-- DRIVER_GONE (R301, R311): no change of `HB_COUNT` for `HB_TIMEOUT_MS`. The lapse counts as the cycle ends, unless the heartbeat changes in
it. A driver that is `ABSENT` has no heartbeat that could lapse (DEDUCED, log entry 79). -/
def execDriverGone (p : Part) (s : State) : Result :=
  let g := (s.part p).page
  whenever (g.driver == .present && s.hbTimeoutMs p != 0 && elapsed (s.ns p) g.hbLastNs (ms (s.hbTimeoutMs p))) s
    (s.upd p fun c => { c with page.lapse := true })

/-- As a cycle ends a heartbeat that has lapsed in it and not changed makes the driver `GONE` (R301, R311, R312). -/
def State.endLapse (s : State) (p : Part) : State :=
  let g := (s.part p).page
  if !g.lapse then s
  else
    let s := s.upd p fun c => { c with page.lapse := false }
    if g.driver != .present then s
    else
      let s := ((s.upd p fun c => { c with page.driver := .gone }).pageChange p).record p .driverGone 0
      if p == .phi && g.parkAtStep then s.policyPark else s

end Sys2Proof.Machine
end

