-- ==== Sys2Proof/Machine/Ledger.lean ====
section
/-!
DEFINITION. The ledger ring (R308 to R310), meter transfers received (R329 to R333), per-berth totals and marks (R134, R334
to R336), polling (R290) and the Function Level Reset (R316).
-/

namespace Sys2Proof.Machine

/-- The bytes left before the end of the ring (R308). -/
def LedgerSt.toEnd (l : LedgerSt) : Nat := 2 ^ l.log2 - l.prod.toNat % 2 ^ l.log2

/-- The padding that an entry needs before it, so that it does not cross the end of the ring (R308). -/
def LedgerSt.padFor (l : LedgerSt) (len : Nat) : Nat := if len ≤ l.toEnd then 0 else l.toEnd

/-- An entry with a body of `n` bytes fits in the space that `LCONS` leaves free (R310). -/
def LedgerSt.fits (l : LedgerSt) (n : Nat) : Bool := entryLen n + l.padFor (entryLen n) ≤ l.free

/-- Puts an entry at `LPROD`: bytes 16 onwards first and bytes 0 to 15 after them (R308). A `PAD` entry is only its header. -/
def State.putEntry (s : State) (kind src len : Nat) (body : List Byte) : State :=
  let l := s.hub.led
  let addr := l.base.toNat + l.prod.toNat % 2 ^ l.log2
  let bytes := leBytes 4 len ++ leBytes 1 kind ++ zeros 3 ++ leOf 8 l.lseq ++ leOf 8 (s.ns .phi) ++ leBytes 2 src ++ zeros 6
    ++ body
  (s.dmaOrdered .phi addr 16 bytes).ledUpd fun l => { l with prod := l.prod + BitVec.ofNat 64 len, lseq := l.lseq + 1 }

/-- Writes an entry that fits, after the `PAD` it may need (R308, R309). -/
def State.writeEntry (s : State) (kind src : Nat) (body : List Byte) : State :=
  let len := entryLen body.length
  let pad := s.hub.led.padFor len
  let s := if pad = 0 then s else s.putEntry 0x04 0 pad []
  s.putEntry kind src len (padTo (len - 32) body)

/-- Writes the `TOTALS` and `MARK` entries held, in order, while they fit (R310). -/
def State.flushLedger (s : State) : List (Nat × List Byte) → State
  | [] => s.ledUpd fun l => { l with waiting := [] }
  | e :: es =>
    if s.hub.led.fits e.2.length then (s.writeEntry e.1 0 e.2).flushLedger es
    else s.ledUpd fun l => { l with waiting := e :: es }

/-- Adds a `TOTALS` or `MARK` entry behind those held (R310, R333). -/
def State.holdEntry (s : State) (kind : Nat) (body : List Byte) : State :=
  (s.flushLedger (s.hub.led.waiting ++ [(kind, body)])).evalStaging

/-- The ledger doorbell line has been read: `LCONS` is taken, and held entries are written as they fit (R301, R310). -/
def State.ledgerDoorbell (s : State) (cons : W64) : State :=
  if s.hub.led.base = 0 then s
  else
    let s := s.ledUpd fun l => { l with cons := cons }
    (s.flushLedger s.hub.led.waiting).evalStaging

/-- LEDGER_DOORBELL (R290, R310): the host has changed the ledger doorbell line; without CXL.cache the Phidor sees that in its next round of
reads. -/
def execLedgerDoorbell (cons : W64) (s : State) : Result := whenever (s.watches .phi) s (s.ledgerDoorbell cons)

/-- POLL_ROUND (R290): every `POLL_US` the Phidor without CXL.cache reads every watched line; `overrun` says that the round took
longer than `POLL_US`. -/
def execPollRound (doorbells : List (Nat × W32 × W32)) (cons hb : W64) (overrun : Bool) (s : State) : Result :=
  let g := s.phi.page
  if g.cxlCache || !elapsed (s.ns .phi) g.pollNs (us s.pollUs) then nothing s
  else
    let s := doorbells.foldl (fun s e => if (s.ring .phi e.1).rstate == .disabled then s else s.doorbell .phi e.1 e.2.1 e.2.2) s
    let s := s.ledgerDoorbell cons
    let s := if hb = g.hbCount then s else s.heartbeat .phi hb
    let s := if overrun then
        (s.count .phi 0x1602 0 1).upd .phi fun c => { c with page.pollLate := c.page.pollLate + 1 } else s
    .next (s.upd .phi fun c => { c with page.pollNs := c.time.ns })

/-- Answers a transfer (R310, R330). -/
def State.recordAck (s : State) (port : Nat) (st : Status) (rseq : W64) : State :=
  let s := if st = .ledgerFull then s.count .phi 0x1402 0 1 else s
  s.queueFrame .phi port 0 0 (.recordAck { rseq := rseq, status := st.b })

/-- Answers `LEDGER_FULL`; the spec states no `RSEQ` there, which is a free value (log entry 5). -/
def State.ackFull (s : State) (port : Nat) : State :=
  let (v, s) := s.takeFree
  s.recordAck port .ledgerFull (v.setWidth 64)

/-- The anchor table entry of a meter (R330). -/
def State.anchor? (s : State) (m : W64) : Option Anchor := s.hub.anchors.find? (fun a => a.meter == m)

/-- Puts an anchor table entry; a full table frees the least recently used one (R330). -/
def State.setAnchor (s : State) (a : Anchor) : State :=
  s.hubUpd fun h =>
    let rest := h.anchors.filter (fun x => x.meter != a.meter)
    let rest := if rest.length < 1024 then rest
      else
        let oldest := rest.foldl (fun (m : Anchor) x => if later m.lastNs x.lastNs then x else m) (rest.headD a)
        rest.filter (fun x => x.meter != oldest.meter)
    { h with anchors := rest ++ [a] }

/-- A berth entry is taken into the cache of 32,768 (R334); one that is not there is read from the berth table in pair 8, and the one used
least recently is written back. -/
def State.cacheBerth (s : State) (berth : Nat) : State :=
  let rest := s.hub.berthCache.filter (· != berth)
  let miss := !s.hub.berthCache.contains berth
  let s := s.hubUpd fun h => { h with berthCache := (berth :: rest).take 32768 }
  if miss then (s.count .phi 0x1403 0 1).readPair 8 1 else s

/-- The totals period that a record's end belongs to (R335): the open one, a closed one not yet emitted, or, for a period
already emitted, the open one, where it counts as late. -/
def State.addRow (s : State) (berth : Nat) (share : Nat) (tEnd : W64) (flags : Nat) : State :=
  let add (t : Tab Row) : Tab Row := tabMod {} t berth fun r =>
    { records := satNat 32 (r.records + 1), share := satNat 64 (r.share + share),
      lastEnd := if r.records = 0 || later tEnd r.lastEnd then tEnd else r.lastEnd, flags := r.flags ||| flags }
  s.hubUpd fun h =>
    let h := { h with berths := tabSet h.berths berth 0 }
    if later tEnd h.period.startNs then { h with period := { h.period with rows := add h.period.rows } }
    else if h.closing.any (fun p => later tEnd p.startNs && !later tEnd p.endNs) then
      { h with closing := h.closing.map fun p =>
          if later tEnd p.startNs && !later tEnd p.endNs then { p with rows := add p.rows } else p }
    else { h with period := { h.period with rows := add h.period.rows, late := satNat 16 (h.period.late + 1) } }

/-- The records of a transfer. -/
def transferRecords (data : List Byte) : List (List Byte) :=
  let c := field data 32 2
  (List.range c).map fun i => slice data (192 + 32 * c + 128 * i) 128

/-- Adds the records of a written transfer to the totals (R334). -/
def State.addRecords (s : State) (data : List Byte) : State :=
  (transferRecords data).foldl (fun s r => (s.cacheBerth (field r 40 4 % 2 ^ 20)).addRow (field r 40 4 % 2 ^ 20) (field r 80 8) (BitVec.ofNat 64 (field r 32 8))
    (field r 2 1)) s

/-- The die that sends on a port, for `SRC` of a `TRANSFER` entry (R308). -/
def State.dieAt (s : State) (port : Nat) : Nat :=
  match (s.port .phi port).peer with
  | some x => x.id.toNat
  | none => 0

/-- A valid transfer is written, unless it does not fit, holds a new berth while `LEDGER_FULL` is set (R310, R332); its
acknowledgement follows the read-back of its last line. -/
def State.writeTransfer (s : State) (port : Nat) (a : Anchor) (e : Nat) (data : List Byte) : State :=
  let newBerth := (transferRecords data).any (fun r => (tabGet? s.hub.berths (field r 40 4 % 2 ^ 20)).isNone)
  if !s.hub.led.fits data.length || (s.hub.led.full && newBerth) then s.ackFull port
  else
    let s := (s.setAnchor { a with held := some e, trigger := none }).writeEntry 0x01 (s.dieAt port) data
    let s := s.count .phi 0x1401 0 1
    let s := s.ledUpd fun l => { l with readback := l.readback ++ [{ port := port, meter := a.meter, rseq := e }] }
    s.addRecords data

/-- A valid transfer is judged by the anchor table (R330, R333). A transfer that follows one written and not yet read back is written behind
it, and its acknowledgement waits; a `RETRY` names the last `RSEQ` that is visible (DEDUCED, log entry 46). -/
def State.judgeTransfer (s : State) (port : Nat) (data : List Byte) : State :=
  let meter := BitVec.ofNat 64 (field data 16 8)
  let f := field data 24 8
  let e := f + field data 32 2 - 1
  let now := s.ns .phi
  if s.hub.led.stagingFull then s.ackFull port
  else
    match s.anchor? meter with
    | none => (s.setAnchor { meter := meter, trigger := some f, lastNs := now }).recordAck port .retry 0
    | some a =>
      let a := { a with lastNs := now }
      let s := s.setAnchor a
      match a.held, a.trigger with
      | none, none => (s.setAnchor { a with trigger := some f }).recordAck port .retry 0
      | none, some t => if f ≤ t then s.writeTransfer port a e data else s
      | some h, _ =>
        if e ≤ h then
          if s.hub.led.readback.any (fun r => r.meter == meter) then
            s.ledUpd fun l => { l with readback := l.readback ++ [{ port := port, meter := meter, rseq := h }] }
          else s.recordAck port .ok (BitVec.ofNat 64 h)
        else if f = h + 1 then s.writeTransfer port a e data
        else s.recordAck port .retry (BitVec.ofNat 64 (a.visible.getD 0))

/-- The content of a reassembled transfer is valid (R329). -/
def transferValid (rseq : W64) (data : List Byte) : Bool :=
  let c := field data 32 2
  let f := field data 24 8
  let len := 192 + 160 * c
  field data 0 4 == 0x4D424C4B && field data 4 1 == 1 && 1 ≤ c && c ≤ 256 && data.length == (len + 19) / 20 * 20
    && (data.drop len).all (· == 0) && rseq.toNat == f + c - 1
    && (transferRecords data).zipIdx.all (fun r => field r.1 8 8 == f + r.2)

/-- RECORD_RECEIVE (R329, R330): a frame of a transfer; an invalid one is discarded and recorded once. Only a tier-1 Phidor
takes `RECORD` frames, on its `P` ports. -/
def execRecordReceive (port : Nat) (e : Env) (f : RecordPl) (s : State) : Result :=
  s.onEngine .phi 7 port e fun s =>
    if s.tier ≠ 1 ∨ port ≥ 512 then s
    else
      let put (s : State) (t : Transfer) : State := s.hubUpd fun h => { h with transfers := tabSet h.transfers port t }
      let fail (s : State) (t : Transfer) : State :=
        let s := if t.bad then s else s.record .phi .recordFormat port
        if f.last then s.hubUpd fun h => { h with transfers := tabDel h.transfers port }
        else put s { t with bad := true, data := [] }
      let fresh : Transfer := { rseq := f.rseq }
      let held := tabGet? s.hub.transfers port
      -- a first chunk while a transfer is held, or another `RSEQ`, ends the one held as invalid
      let s := match held with
        | some t => if (f.chunk = 0 ∨ f.rseq ≠ t.rseq) ∧ !t.bad then s.record .phi .recordFormat port else s
        | none => s
      let t := match held with
        | some t => if f.chunk = 0 ∨ f.rseq ≠ t.rseq then fresh else t
        | none => fresh
      if t.bad ∨ f.chunk.toNat ≠ t.next ∨ t.next ≥ 2058 then (fail s t).evalStaging
      else
        let data := t.data ++ padTo 20 f.data
        if !f.last then (put s { t with next := t.next + 1, data := data }).evalStaging
        else
          let s := s.hubUpd fun h => { h with transfers := tabDel h.transfers port }
          let s := s.evalStaging
          if transferValid f.rseq data then s.judgeTransfer port (data.take (192 + 160 * field data 32 2))
          else s.record .phi .recordFormat port

/-- LEDGER_READBACK_DONE (R310): the last line of the oldest entry written has been read back, and the transfers up to it are
acknowledged; `HELD_RSEQ` takes what is now visible (R330). -/
def execLedgerReadbackDone (s : State) : Result :=
  match s.hub.led.readback with
  | [] => nothing s
  | r :: rs =>
    let s := s.ledUpd fun l => { l with readback := rs }
    let see (a : Anchor) : Anchor := if a.meter = r.meter then { a with visible := some (max r.rseq (a.visible.getD 0)) } else a
    .next ((s.hubUpd fun h => { h with anchors := h.anchors.map see }).recordAck r.port .ok (BitVec.ofNat 64 r.rseq))

/-- ANCHOR_EXPIRY (R330): a meter with no transfer for 1 h. -/
def execAnchorExpiry (meter : W64) (s : State) : Result :=
  match s.anchor? meter with
  | none => nothing s
  | some a =>
    whenever (elapsed (s.ns .phi) a.lastNs (sec 3600)) s
      (s.hubUpd fun h => { h with anchors := h.anchors.filter (fun x => x.meter != meter) })

/-- Closes the open totals period at an instant (R334, R335): berth entries idle for two consecutive periods become free. -/
def State.closePeriod (s : State) (end_ : W64) (mark : Option Nat) : State :=
  s.hubUpd fun h =>
    let idle := h.berths.map fun e => (e.1, if (tabGet? h.period.rows e.1).isSome then 0 else e.2 + 1)
    { h with closing := h.closing ++ [{ h.period with endNs := end_, markBasin := mark }], period := { startNs := end_, gridFrom := end_ },
             berths := idle.filter (fun e => e.2 < 2) }

/-- The next boundary of the grid (R335): the first multiple of 2^`TOTALS_EXP` after the open period's start and after that exponent was set,
or the last one reached, where HT has gone past several in one step. -/
def State.totalsGrid (s : State) : W64 :=
  let n := 2 ^ s.totalsExp
  let p := s.hub.period
  let from_ := if later p.gridFrom p.startNs then p.gridFrom else p.startNs
  let g := BitVec.ofNat 64 ((from_.toNat / n + 1) * n)
  if reached (s.ns .phi) g then BitVec.ofNat 64 ((s.ns .phi).toNat / n * n) else g

/-- TOTALS_PERIOD_CLOSE (R134, R335, R337): the open period closes at the grid boundary or at the L of the next mark, the earlier
first; marks at that L are written to the ledger in entry order. -/
def execTotalsPeriodClose (s : State) : Result :=
  let now := s.ns .phi
  let grid := s.totalsGrid
  let due := s.hub.marksDue.filter (fun m => reached now m.l)
  let first := due.foldl (fun (a : Option MarkDue) m =>
    match a with
    | none => some m
    | some x => if later x.l m.l then some m else some x) none
  match first with
  | some m =>
    if reached now grid && later m.l grid then .next (s.closePeriod grid none)
    else
      let s := if s.lighthouse then s else s.closePeriod m.l (some m.basin)
      let here := due.filter (fun x => x.l == m.l)
      let s := s.hubUpd fun h => { h with marksDue := h.marksDue.filter (fun x => !(x.l == m.l)) }
      .next (here.foldl (fun s x => s.holdEntry 0x03
        (leOf 4 x.mark ++ leBytes 2 x.basin ++ leBytes 2 x.gen ++ leOf 6 x.step ++ zeros 2 ++ leOf 8 x.l)) s)
  | none => whenever (reached now grid) s (s.closePeriod grid none)

/-- The body of a `TOTALS` entry (R336). -/
def Period.body (p : Period) (rows : List (Nat × Row)) (part : Nat) (last : Bool) (lost : Nat) : List Byte :=
  leOf 8 p.startNs ++ leOf 8 p.endNs ++ leBytes 4 rows.length ++ leBytes 2 part
    ++ leBytes 1 (nb last + 2 * nb p.rebuilt + 4 * nb p.markBasin.isSome) ++ zeros 1
    ++ leBytes 2 (match p.markBasin with | some b => b | none => 0) ++ leBytes 2 p.late ++ leBytes 4 (satNat 32 lost)
    ++ (rows.map fun r => leBytes 4 r.1 ++ leBytes 4 r.2.records ++ leBytes 8 r.2.share ++ leOf 8 r.2.lastEnd
          ++ leBytes 1 r.2.flags ++ zeros 7).flatten

/-- Rows cut into entries of up to 1,022 (R336). -/
def rowParts : Nat → List (Nat × Row) → List (List (Nat × Row))
  | 0, _ => []
  | n + 1, l => if l.length ≤ 1022 then [l] else l.take 1022 :: rowParts n (l.drop 1022)

/-- Writes the `TOTALS` entries of a period (R335, R336); the first carries the entries lost with staging. -/
def State.emitPeriod (s : State) (p : Period) : State :=
  let parts := rowParts 1027 p.rows
  let lost := s.hub.led.lost
  let s := s.ledUpd fun l => { l with lost := 0 }
  parts.zipIdx.foldl (fun s e =>
    s.holdEntry 0x02 (p.body e.1 e.2 (e.2 + 1 == parts.length) (if e.2 = 0 then lost else 0))) s

/-- TOTALS_EMIT (R335): `TOTALS_GRACE_MS` after the end of the oldest closed period. A lighthouse emits none. -/
def execTotalsEmit (s : State) : Result :=
  match s.hub.closing with
  | [] => nothing s
  | p :: ps =>
    if elapsed (s.ns .phi) p.endNs (ms s.totalsGraceMs) then
      let s := s.hubUpd fun h => { h with closing := ps }
      .next (if s.lighthouse then s else s.emitPeriod p)
    else nothing s

/-- A ring after a Function Level Reset (R286, R316): `DISABLED`, nothing in flight, nothing held, the staged words gone. -/
def Ring.flr (r : Ring) : Ring :=
  let e := { r.entry with en := false }
  { r with entry := e, stagedWords := e.bytes, lastEn := none, rstate := .disabled, pendEn := none, held := [], inflight := [],
           irqPend := false, enCyc := none }

/-- The commands in execution at a Function Level Reset go on (R316) under numbers of rings that no host uses and that stay `DISABLED`, so
that their completions are discarded; `k` counts the resets before. -/
def ghostRing (k i : Nat) : Nat := if i < 4096 then 4096 * (k + 1) + i else i

/-- The commands in execution of a ring, for the ring that keeps them after a Function Level Reset. -/
def Ring.ghost (r : Ring) : Ring := { inflight := r.inflight.filter (·.started) }

/-- What waits for a command of the Phidor waits for it under its number after a Function Level Reset (R316): recalibrations, measurements,
returns, engine resets, latches and a configuration. -/
def PartCore.toGhosts (c : PartCore) (g : Nat × Nat → Nat × Nat) : PartCore :=
  { c with ports := c.ports.map (fun e => (e.1, { e.2 with recalRing := e.2.recalRing.map g })),
           gov.returns := c.gov.returns.map (fun r => { r with ring := (g (r.ring, r.idx)).1 }),
           engines := c.engines.map (fun e => (e.1, { e.2 with ctls := e.2.ctls.map g })),
           cnt.pending := c.cnt.pending.map (fun x => { x with ring := x.ring.map g }),
           cnt.applying := c.cnt.applying.map (fun x => ({ x.1 with ring := x.1.ring.map g }, x.2)),
           cfg.asked := c.cfg.asked.map (fun x => ((g (x.1, x.2.1)).1, x.2)),
           tdc.chans := c.tdc.chans.map (fun e => (e.1, { e.2 with
             ret := e.2.ret.map g, meas := e.2.meas.map (fun m => { m with ring := (g (m.ring, m.idx)).1 }) })) }

/-- The same for patches, destructions and a handover. -/
def HubSt.toGhosts (h : HubSt) (g : Nat × Nat → Nat × Nat) : HubSt :=
  { h with seqs := h.seqs.map (fun e => (e.1, { e.2 with
             destroy := e.2.destroy.map g, patch := e.2.patch.map (fun x => { x with ring := (g (x.ring, x.idx)).1 }) })),
           fw.handover := h.fw.handover.map (fun x => { x with ring := (g (x.ring, x.idx)).1 }) }

/-- FUNCTION_LEVEL_RESET (R316): every ring `DISABLED`, completions not written discarded, `HB_ADDR` 0 and the driver
`ABSENT`; a write of the same cycle to a ring entry or to `HB_ADDR` is lost (R8, R437). Commands in execution go on without a completion. -/
def execFunctionLevelReset (s : State) : Result :=
  let k := s.phi.page.flrs
  let g (x : Nat × Nat) : Nat × Nat := (ghostRing k x.1, x.2)
  let kept : Tab Ring := (s.phi.rings.filter (fun e => e.2.inflight.any (·.started))).map (fun e => (ghostRing k e.1, e.2.ghost))
  let s := s.upd .phi fun c =>
    { c.toGhosts g with rings := kept.foldl (fun t e => tabSet t e.1 e.2) (c.rings.map (fun e => (e.1, e.2.flr))), page.hbAddr := 0,
                        page.driver := .absent, page.flrs := k + 1, cycs.flr := some s.cyc }
  .next ((s.hubUpd fun h => h.toGhosts g).pageChange .phi)

end Sys2Proof.Machine
end

