-- ==== Sys2Proof/Machine/Memory.lean ====
section
/-!
DEFINITION. The Phidor's memory: parity and the retry rule, spares and resilvering, the loss of a pair and what follows for
each of its regions, rebuilding, and the dredge of tide-table units (R321 to R328).
-/

namespace Sys2Proof.Machine

/-- The lowest-numbered free spare package (R323). -/
def State.spareBelow (s : State) (from_ : Nat) : Option Nat :=
  (List.range 24).find? (fun i => from_ ≤ i && (s.unit .phi 6 i).state == .freeSpare)

/-- The pair that a package serves or is being filled for. -/
def State.pairOf (s : State) (pkg : Nat) : Option Nat :=
  s.hub.pairs.findIdx? (fun p => p.a == some pkg || p.b == some pkg || p.resilver == some pkg)

/-- Changes a memory pair. -/
def State.updPair (s : State) (i : Nat) (f : MemPair → MemPair) : State :=
  s.hubUpd fun h => { h with pairs := listAdj h.pairs i f }

/-- The pair runs on one package: one of its places is empty (R323). -/
def MemPair.single (p : MemPair) : Bool := p.a.isNone || p.b.isNone

/-- The pairs that run on one package: what the health view of R323 counts as unmirrored. The spec gives that view no place in the state page,
a register or a counter (log entry 87). -/
def State.unmirrored (s : State) : Nat := (s.hub.pairs.filter (fun p => p.single && !p.lost)).length

/-- Takes a package out of its place. -/
def MemPair.without (p : MemPair) (pkg : Nat) : MemPair :=
  { p with a := if p.a = some pkg then none else p.a, b := if p.b = some pkg then none else p.b,
           resilver := if p.resilver = some pkg then none else p.resilver }

/-- Brings the lowest-numbered free spare into a pair with an empty place and starts its resilver (R323). -/
def State.bringSpare (s : State) (i : Nat) : State :=
  let p : MemPair := s.hub.pairs.getD i {}
  if p.lost || !p.single || p.resilver.isSome then s
  else
    match s.spareBelow 0 with
    | some x => (s.setUnit .phi 6 x .inService).updPair i fun p => { p with resilver := some x }
    | none => s

/-- Completes every command of a part that is in execution with `RETRY` (R349, R368, R370). -/
def State.retryAll (s : State) (p : Part) (cause : W16) : State :=
  (s.part p).rings.foldl (fun s e =>
    (e.2.inflight.filter (·.started)).foldl (fun s d =>
      s.finish p e.1 d.idx.toNat .retry cause (if d.applied then 1 else 0)) s) s

/-- The patches whose command is no longer in execution are gone (R123, R300, R349). -/
def State.dropDeadPatches (s : State) : State :=
  s.hubUpd fun h => { h with seqs := h.seqs.map fun e =>
    match e.2.patch with
    | some p => if (s.desc? .phi p.ring p.idx).isSome then e else (e.1, { e.2 with patch := none })
    | none => e }

/-- Firmware loses its image with pair 9 (R341, R359): `FW_STATE` becomes `NONE`, but from `HALTED`, which only a chip reset leaves (R350), and the loader is `READY` for another; log and
trace content is gone. -/
def State.fwLost (s : State) : State :=
  let halted := s.hub.fw.state == .halted
  let s := ({ s with hub.fw.state := if halted then .halted else .none }.retryAll .phi Cause.memPairLost.w).dropDeadPatches
  { s with hub.fw.retained := none, hub.fw.loading := none, hub.fw.handover := none,
           hub.fw.history := [], hub.fw.ldrStatus := if s.hub.fw.ldrStatus = 0 then 0 else 1 }

/-- The `ABORT` frames that follow the loss of the retained results: one for each step of a sequenced basin that has an open
operation (R324). -/
def State.abortOpenOps (s : State) : State :=
  (s.hub.seqs.map (·.1)).foldl (fun s b =>
    match s.seq? b with
    | none => s
    | some q =>
      let steps := ((s.hub.ops.filter (fun o => o.basin == b && o.gen == q.gen && o.opened)).map (·.step)).eraseDups
      let steps := steps.mergeSort (fun a c => stepFrom c a)
      steps.foldl (fun s n =>
        match s.seq? b with
        | some q => s.phiStartAbort b q.gen (abortPl q n .parity Cause.memPairLost.w)
        | none => s) s) s

/-- The tables of basins are lost: each sequencer stops at its next `LAUNCH` or at the end of its window (R319, R325); of a basin that does
not run the entries are gone at once, and a parked one must reload them. -/
def State.loseTables (s : State) (hit : List Nat) : State :=
  hit.foldl (fun s b =>
    (s.updSeq b fun q =>
      { q with tableLost := true, reload := [], table := if q.runs then q.table else [],
               reason := if q.state = .parked then 12 else q.reason,
               winLeft := match q.winLeft with | some n => some n | none => some 256 }).stopLost b) s

/-- What lay in a lost pair of ledger staging is gone (R324): the entries held and the transfers in reassembly lie there one behind the
other from the lowest address (R321), and `r` pairs in service lie below the lost one. DEDUCED, log entry 46. -/
def State.dropStaging (s : State) (r : Nat) : State :=
  let lo := 64000000000 * r
  let hit (at_ n : Nat) : Bool := at_ < lo + 64000000000 && lo < at_ + n
  let held := s.hub.led.waiting.foldl (fun (acc : Nat × List (Nat × List Byte)) e =>
    let n := entryLen e.2.length
    (acc.1 + n, if hit acc.1 n then acc.2 else acc.2 ++ [e])) (0, [])
  let kept := s.hub.transfers.zipIdx.filter (fun e => !hit (held.1 + 41216 * e.2) 41216)
  s.hubUpd fun h =>
    { h with transfers := kept.map (·.1),
             led := { h.led with lost := h.led.lost + (h.led.waiting.length - held.2.length), waiting := held.2 } }

/-- What the loss of a pair does to each of its regions (R321, R324, R325). Tide tables lie in pairs 0 and 1, ledger staging in
2 to 7, filled from pair 2 on, retained results and the berth table in 8, firmware and its log in 9. -/
def State.loseRegions (s : State) (i : Nat) : State :=
  if i < 2 then
    let hit := (s.hub.seqs.filter (fun e => e.2.pair == i)).map (·.1)
    s.loseTables hit
  else if i < 8 then s.dropStaging (((s.hub.pairs.drop 2).take (i - 2)).filter (fun p => !p.lost)).length
  else if i = 8 then
    let s := s.abortOpenOps
    s.hubUpd fun h => { h with berths := [], berthCache := [], anchors := [], period := { h.period with rows := [], rebuilt := true },
                               closing := h.closing.map (fun p => { p with rows := [] }),
                               ops := h.ops.map (fun o => { o with kept := [] }) }
  else s.fwLost

/-- The packages with which a lost pair is rebuilt (R326): the two lowest-numbered free spares, or with fewer free those of the highest
staging pair in service, whose content moves down (DEDUCED, log entry 46); a lost staging pair then only makes staging smaller. -/
def State.reserveRebuild (s : State) (pair : Nat) : State :=
  match s.spareBelow 0, (s.spareBelow 0).bind (fun x => s.spareBelow (x + 1)) with
  | some x, some y =>
    ((s.setUnit .phi 6 x .inService).setUnit .phi 6 y .inService).updPair pair fun p => { p with rebuild := some (some x, some y) }
  | _, _ =>
    if 2 ≤ pair ∧ pair < 8 then s
    else
      match [7, 6, 5, 4, 3, 2].find? (fun j => (s.hub.pairs[j]?).any (fun p => !p.lost)) with
      | none => s
      | some j =>
        let q : MemPair := s.hub.pairs.getD j {}
        let a := if q.a.isNone then q.resilver else q.a
        let b := if q.a.isSome && q.b.isNone then q.resilver else q.b
        (s.updPair j fun _ => { lost := true }).updPair pair fun p => { p with rebuild := some (a, b) }

/-- A pair is lost (R324). -/
def State.losePair (s : State) (i : Nat) : State :=
  let p : MemPair := s.hub.pairs.getD i {}
  if p.lost then s
  else
    let s := s.record .phi .memPairLost i
    let gone := [p.a, p.b, p.resilver].filterMap id
    let s := gone.foldl (fun s x => s.setUnit .phi 6 x .failed) s
    ((((s.updPair i fun _ => { lost := true }).loseRegions i).reserveRebuild i).evalStaging)

/-- Expels a package (R322, R323): its place in the pair is empty and the next free spare is brought in. -/
def State.expelPackage (s : State) (pkg : Nat) : State :=
  let s := s.setUnit .phi 6 pkg .expelled
  match s.pairOf pkg with
  | none => s
  | some i => (s.updPair i fun p => p.without pkg).bringSpare i

/-- A package has a lasting fault (R322 to R324): alone in its pair, or the source of its pair's resilver, it takes the pair
with it; otherwise the governor decides. -/
def State.packageFault (s : State) (pkg : Nat) : State :=
  let s := s.recordLasting .phi 6 pkg .memPackage pkg
  match s.pairOf pkg with
  | none => s
  | some i =>
    let p : MemPair := s.hub.pairs.getD i {}
    if p.single && p.resilver != some pkg then s.losePair i
    else s.holdFault .phi 6 pkg

/-- PATROL_READ (R322, R324): a line of a package is read; `first` and `second` say whether the read and its one repeat pass
parity, `both` that its partner has a lasting fault in the same cycle. -/
def execPatrolRead (pkg : Nat) (first second both : Bool) (s : State) : Result :=
  if pkg ≥ 24 ∨ (s.pairOf pkg).isNone then nothing s
  else
    let s := s.beats pkg 1
    let s := if first then s else s.beats pkg 1
    if first then .next s
    else if second then .next ((s.transient .phi 6 pkg).count .phi 0x1502 pkg 1)
    else if both then
      match s.pairOf pkg with
      | some i =>
        let p : MemPair := s.hub.pairs.getD i {}
        let s := ([p.a, p.b].filterMap id).foldl (fun s x => s.recordLasting .phi 6 x .memPackage x) s
        .next (s.losePair i)
      | none => .next s
    else .next (s.packageFault pkg)

/-- RESILVER_COMPLETE (R323): the 64 GB of the partner have been read, and the spare takes the empty place of its pair. -/
def execResilverComplete (pair : Nat) (s : State) : Result :=
  let p : MemPair := s.hub.pairs.getD pair {}
  match p.resilver with
  | none => nothing s
  | some x => .next (((p.a.or p.b).elim s (fun y => s.beats y 1000000000)).updPair pair fun p =>
      { p with a := if p.a.isNone then some x else p.a, b := if p.a.isNone then p.b else (if p.b.isNone then some x else p.b),
               resilver := none })

/-- PAIR_REBUILD_COMPLETE (R326): the packages taken for a lost pair at its loss are dredged and serve it. One for which none were free
then takes those that are free now, unless it is one of staging. -/
def execPairRebuildComplete (pair : Nat) (s : State) : Result :=
  let p : MemPair := s.hub.pairs.getD pair {}
  if pair ≥ 10 ∨ !p.lost then nothing s
  else
    let s := if p.rebuild.isNone && !(2 ≤ pair && pair < 8) then s.reserveRebuild pair else s
    match (s.hub.pairs.getD pair {}).rebuild with
    | none => nothing s
    | some (a, b) => .next (((s.updPair pair fun _ => { a := a, b := b }).bringSpare pair).evalStaging)

/-- TIDE_UNIT_DREDGE_DONE (R328): the oldest dredge of a destroyed basin's units ends and they are free again. -/
def execTideUnitDredgeDone (s : State) : Result :=
  match s.hub.dredging with
  | [] => nothing s
  | (pair, n) :: rest =>
    .next (s.hubUpd fun h => { h with dredging := rest, freeUnits := listAdj h.freeUnits pair (· + n) })

end Sys2Proof.Machine
end

