-- ==== Sys2Proof/Machine/Units.lean ====
section
/-!
DEFINITION. Units and their control: transient rates (R362), fault notes (R365, R377), `UNIT_CTRL` (R381, R382), and ports that
drain (R383, R384).
-/

namespace Sys2Proof.Machine

/-- TRANSIENT_RATE (R362): a unit's transient count has risen by more than `TRANSIENT_WARN` within one window; recorded once for
the window, and a unit with a health entry is at least at `WARN`. -/
def execTransientRate (p : Part) (kind index : Nat) (s : State) : Result :=
  let u := s.unit p kind index
  if u.rateNoted || u.transient - u.winBase ≤ s.transientWarn p then nothing s
  else
    let s := s.updUnit p kind index fun u => { u with rateNoted := true }
    let s := if kind ≤ 1 then s.updChan p index fun c => { c with warnFloor := true } else s
    .next (s.record p .transientRate (kind + 256 * index))

/-- The record that a note leaves in a Phidor's fault ring (R22, R365): its `HT` is the expanded stamp when that lies within 1 s
of a valid own HT, and otherwise the Phidor's own. -/
def State.noteRecord (s : State) (f : NotePl) : FaultRec :=
  let at_ := expandStamp (s.ns .phi) f.at_
  { ht := if s.phi.time.expands && stampNear (s.ns .phi) at_ then at_.setWidth 80 <<< 16 else s.ht .phi,
    cause := f.cause.toNat, cls := classOfCode f.phi f.cause.toNat, remote := true, originPhi := f.phi,
    noted := !(s.notePorts .phi).isEmpty, origin := f.id, detail := f.detail, ext := [] }

/-- A sequencing Phidor learns that a member die was reset (R377): a basin that neither is parked nor parks sends `ABORT` with
its last settled step, parks with reason 13, and the reset is recorded. A `DETACHED` sequencer sends nothing (R148) and parks the same
way. -/
def State.memberReset (s : State) (die : W16) (detail : W32) (b : Nat) : State :=
  match s.seq? b with
  | none => s
  | some q =>
    if !(q.members.contains die.toNat && q.runs && q.parkReq.isNone) then s
    else
      let f : LaunchPl :=
        { step := q.lastSettled + 1, bell := q.bellOf (q.lastSettled + 1), entry := 0, status := Status.aborted.b, origin := die,
          agg := false, cause := Cause.memberReset.w, count := 0, lastStep := q.lastSettled }
      let s := if q.role == .detached then (s.phiAbort b q.gen q.lastSettled).seqAbort b f else s.phiStartAbort b q.gen f
      s.record .phi .memberReset detail.toNat (zeros 4 ++ leOf 2 die)

/-- FAULT_NOTE_RECEIVE (R22, R365, R377): a Phidor writes the note into its own fault ring, forwards it up, and as a sequencer
acts on `MEMBER_RESET`. -/
def execFaultNoteReceive (port : Nat) (e : Env) (f : NotePl) (s : State) : Result :=
  s.onReliable .phi port e fun s =>
    let s := s.writeFault .phi (s.noteRecord f)
    let s := s.queueAll .phi (s.notePorts .phi) 0 0 (.faultNote f)
    if f.cause = Cause.memberReset.w ∧ !f.phi then
      (s.hub.seqs.map (·.1)).foldl (fun s b => s.memberReset f.id f.detail b) s
    else s

/-- A kind that a part does not have (the spares table, R381). -/
def kindAbsent : Part → Nat → Bool
  | .tsu, k => k == 5 || k == 6 || k == 7 || k == 9
  | .phi, k => k == 4

/-- The state of a unit as R382 reports it; a port's follows its administrative state, and a Phidor unit held out of service (R373) has
failed without spare. -/
def State.unitState (s : State) (p : Part) (kind i : Nat) : UState :=
  if kind = 8 then
    match (s.port p i).admin with
    | .enabled => .inService
    | .draining => .draining
    | .drainingPending => .drainingPending
    | .disabled => .disabled
  else if kind = 9 ∧ (tabGet {} (s.part p).engines i : EngineSt).outOfService = true then .failed
  else (s.unit p kind i).state

/-- The spare that an expulsion of this unit brings in is free (R66, R67, R89, R96, and the spares table). -/
def State.hasSpare (s : State) (p : Part) (kind i : Nat) : Bool :=
  match kind with
  | 0 => (match s.portOf p i with | some port => (s.spareFor p port).isSome | none => false)
  | 2 => s.sourceSpare p i
  | 4 | 8 | 9 => false
  | _ => (s.freeUnit p kind).isSome

/-- The part moves to the other oscillator; the one in use is out of service (R96). -/
def State.useOscillator (s : State) (p : Part) (j : Nat) : State :=
  ((s.setUnit p 3 (1 - j) .expelled).setUnit p 3 j .inService).upd p fun c => { c with clk.sosc := j }

/-- Both oscillators have failed: the fast logic stops for good (R96, R112). -/
def State.deadOscillator (s : State) (p : Part) (i : Nat) : State :=
  (s.setUnit p 3 i .failed).upd p fun c =>
    { c with clk.starting := false, clk.running := false, clk.fast := false, clk.pllLock := false, clk.soscDead := true,
             clk.stopNs := c.time.ns }

/-- The oscillator's PLL starts again after a move (R96). -/
def State.restartPll (s : State) (p : Part) : State :=
  s.upd p fun c =>
    if c.clk.running || c.clk.starting then
      { c with clk.running := false, clk.fast := false, clk.pllLock := false, clk.starting := true, clk.startNs := c.time.ns,
               clk.stopNs := c.time.ns, clk.pllFails := 0 }
    else c

/-- Takes a firmware core out of service (R339): core 7 takes its role and its place, if it is free. -/
def State.expelCore (s : State) (core : Nat) : State :=
  let s := s.setUnit .phi 7 core .expelled
  let s := { s with hub.fw.coresOut := s.hub.fw.coresOut ++ [core] }
  match s.freeUnit .phi 7 with
  | some x =>
    let s := s.setUnit .phi 7 x .inService
    { s with hub.fw.roleCore := s.hub.fw.roleCore.map fun c => if c = core then x else c }
  | none => s

/-- Moves a unit out of service as its chapter's swap does (R66, R67, R89, R96, R239, R323, R339, R382). -/
def State.expelUnit (s : State) (p : Part) (kind i : Nat) : State :=
  match kind with
  | 0 => (match s.portOf p i with
    | some port => (s.portDown p port).swapChannel p port
    | none => s.setUnit p 0 i .expelled)
  | 1 => s.expelTdc p i
  | 2 => s.expelSource p i
  | 3 => (s.useOscillator p (1 - i)).restartPll p
  | 5 => (match s.freeUnit p 5 with
    | some x => (s.setUnit p 5 i .expelled).setUnit p 5 x .inService
    | none => s.setUnit p 5 i .expelled)
  | 6 => (match s.pairOf i with
    | some k =>
      let m : MemPair := s.hub.pairs.getD k {}
      if m.single && m.resilver != some i then (s.losePair k).setUnit p 6 i .expelled else s.expelPackage i
    | none => s.setUnit p 6 i .expelled)
  | 7 => s.expelCore i
  | _ => s

/-- A unit with a lasting fault that no spare can replace (R66, R67, R89, R96, R239): it has failed, and what it serves stops. -/
def State.failUnit (s : State) (p : Part) (kind i : Nat) : State :=
  match kind with
  | 0 => (match s.portOf p i with
    | some port => ((s.portDown p port).setUnit p 0 i .failed).updPort p port fun q => { q with cableFault := true }
    | none => s.setUnit p 0 i .failed)
  | 1 => s.tdcStop p i
  | 2 => s.sourceStop p i
  | 3 => s.deadOscillator p i
  | _ => s.setUnit p kind i .failed

/-- The governor decides a lasting fault (R378 to R380). A package alone in its pair takes the pair with it (R324); a package is expelled
without a free spare too (R323). -/
def State.decideHeld (s : State) (p : Part) (h : HeldFault) : State :=
  if (s.unit p h.kind h.index).state != .inService then s
  else if s.hasSpare p h.kind h.index || h.kind == 6 then
    match (if h.kind = 6 then s.pairOf h.index else none) with
    | some k =>
      let m : MemPair := s.hub.pairs.getD k {}
      if m.single && m.resilver != some h.index then s.losePair k
      else
        let (granted, s) := s.askGovernor p 6 h.index
        if granted then s.expelPackage h.index else s
    | none =>
      let (granted, s) := s.askGovernor p h.kind h.index
      if granted then s.expelUnit p h.kind h.index else s
  else s.failUnit p h.kind h.index

/-- The place of a lasting fault among those of one cycle: ascending unit kind and index (R380). Of two mooring channels of a TSU that of
the selected plane's port comes first (R66). -/
def State.heldPlace (s : State) (p : Part) (h : HeldFault) : Nat :=
  if p = .tsu ∧ h.kind = 0 then (if h.index = s.portChan .tsu s.planeBefore.toNat then 0 else 1 + h.index)
  else 1000 * h.kind + h.index

/-- A held fault at its place among others. -/
def State.insertHeld (s : State) (p : Part) (h : HeldFault) : List HeldFault → List HeldFault
  | [] => [h]
  | x :: xs => if s.heldPlace p h < s.heldPlace p x then h :: x :: xs else x :: s.insertHeld p h xs

/-- A decision of the Phidor's governor is in the journal (R347): the unit and its state. -/
def State.noteDecision (s : State) (p : Part) (h : HeldFault) : State :=
  match p with
  | .tsu => s
  | .phi => s.journalRec ([3] ++ leBytes 1 h.kind ++ leBytes 4 h.index ++ leBytes 1 (s.unit .phi h.kind h.index).state.code)

/-- As an always-on cycle ends the governor decides the lasting faults held (R340, R380); that of the Phidor is firmware, and decides none
while it is not `RUNNING`. -/
def State.governAll (s : State) (p : Part) : State :=
  let l := (s.part p).gov.held
  if l.isEmpty || (p == .phi && !s.hub.fwRuns) then s
  else
    let order := l.foldl (fun r h => s.insertHeld p h r) []
    order.foldl (fun s h => (s.decideHeld p h).noteDecision p h) (s.upd p fun c => { c with gov.held := [] })

/-- The fresh calibration of a channel that a `RETURN` asks for begins (R382); the channel is a free spare once it is accepted. -/
def State.recalUnit (s : State) (p : Part) (ch ring idx : Nat) : State :=
  s.updChan p ch fun c =>
    { c with failed := false, warnFloor := false, calRun := !isVernier p ch, attempt := 0, altSource := false, hostRun := false,
             cores := if isVernier p ch then [] else c.cores, ret := c.ret ++ [(ring, idx)] }

/-- The fresh calibration or dredge of a unit other than a channel that a `RETURN` asks for begins (R382). -/
def State.startReturn (s : State) (p : Part) (kind i ring idx : Nat) : State :=
  s.upd p fun c => { c with gov.returns := c.gov.returns ++ [{ kind := kind, index := i, ring := ring, idx := idx, sinceNs := c.time.ns }] }

/-- An expelled unit other than a channel returns to the free spares (R382); a free package goes to the lowest pair that runs on one
(R323). -/
def State.returnUnit (s : State) (p : Part) (kind i : Nat) : State :=
  let s := s.setUnit p kind i .freeSpare
  match kind with
  | 2 => s.upd p fun c => { c with tdc.srcFailed := c.tdc.srcFailed.filter (· != i) }
  | 6 => (List.range 10).foldl (fun s k => s.bringSpare k) s
  | _ => s

/-- The time in ns that a return takes (R382): the free value, in 48 bits, so that every return ends (log entry 86). -/
def UnitReturn.takesNs (r : UnitReturn) (p : Part) : Nat := Config.returnNs (isPhi p) r.kind r.index % 2 ^ 48

/-- Ends the returns whose calibration or dredge is over (R382); one whose command has ended otherwise is dropped, and its unit stays
expelled. -/
def State.endReturns (s : State) (p : Part) : State :=
  let gone (r : UnitReturn) : Bool := elapsed (s.ns p) r.sinceNs (r.takesNs p)
  let l := (s.part p).gov.returns
  if l.isEmpty then s
  else
    let s := s.upd p fun c => { c with gov.returns := l.filter (fun r => !gone r) }
    (l.filter gone).foldl (fun s r =>
      if (s.desc? p r.ring r.idx).isSome && (s.unit p r.kind r.index).state == .expelled then
        (s.returnUnit p r.kind r.index).finish p r.ring r.idx .ok 0 0
      else s) s

/-- `UNIT_KIND`, `ACTION` and `UNIT_INDEX` of a `UNIT_CTRL` descriptor (R381). -/
def Desc.unitCtrl (d : Desc) : Nat × Nat × Nat := (d.pl 0 1, d.pl 1 1, d.pl 4 4)

/-- The first three rows of R382 that refuse a `UNIT_CTRL`. -/
def State.unitRefused (s : State) (p : Part) (kind action i : Nat) : Option Status :=
  let st := s.unitState p kind i
  if action > 6 || kind > 9 || (!kindAbsent p kind && !unitValid p kind i) then some .badDesc
  else if kindAbsent p kind || (action == 4 && kind != 4 && kind != 9) || ((action == 5 || action == 6) && kind != 8)
      || (action == 3 && kind == 7) then some .unsupported
  else if (action == 1 && st != .inService && st != .suspect) || (action == 2 && st != .suspect)
      || (action == 3 && st != .expelled) then some .conflict
  else if action == 1 && !s.hasSpare p kind i then some .noSpace
  else none

/-- Judges a `UNIT_CTRL` by R382 and performs its action. -/
def State.unitCtrl (s : State) (p : Part) (ring idx : Nat) (d : Desc) (k : Nat → Nat → State → State) : State :=
  let (kind, action, i) := d.unitCtrl
  match s.unitRefused p kind action i with
  | some st => s.finish p ring idx st 0 0
  | none => k kind i s

/-- UNIT_QUERY (R382); a reserved `ACTION` is answered here too. -/
def execUnitQuery (p : Part) (ring idx : Nat) (s : State) : Result :=
  s.runDesc p ring idx 0x43 (fun d => d.pl 1 1 == 0 || d.pl 1 1 > 6) fun d s =>
    s.unitCtrl p ring idx d fun kind i s =>
      let score := if kind ≤ 1 then (s.chan p i).score else 0
      s.finish p ring idx .ok 0
        (BitVec.ofNat 64 ((s.unitState p kind i).code + 256 * score + 2 ^ 32 * (s.unit p kind i).transient))

/-- UNIT_EXPEL (R382): bypasses the governor and counts in its window. -/
def execUnitExpel (p : Part) (ring idx : Nat) (s : State) : Result :=
  s.runDesc p ring idx 0x43 (fun d => d.pl 1 1 == 1) fun d s =>
    s.unitCtrl p ring idx d fun kind i s => ((s.countExpulsion p).expelUnit p kind i).finish p ring idx .ok 0 0

/-- UNIT_KEEP (R382). -/
def execUnitKeep (p : Part) (ring idx : Nat) (s : State) : Result :=
  s.runDesc p ring idx 0x43 (fun d => d.pl 1 1 == 2) fun d s =>
    s.unitCtrl p ring idx d fun kind i s =>
      (s.updUnit p kind i fun u => { u with state := .inService }).finish p ring idx .ok 0 0

/-- UNIT_RETURN (R382): the command completes when the unit's fresh calibration or dredge is over. -/
def execUnitReturn (p : Part) (ring idx : Nat) (s : State) : Result :=
  s.runDesc p ring idx 0x43 (fun d => d.pl 1 1 == 3) fun d s =>
    s.unitCtrl p ring idx d fun kind i s =>
      if kind ≤ 1 then s.recalUnit p i ring idx else s.startReturn p kind i ring idx

/-- UNIT_DISABLE of a port (R383 to R385): draining begins; a pending enable is cancelled, in the cycle in which the drain has ended too. -/
def execUnitDisable (p : Part) (ring idx : Nat) (s : State) : Result :=
  s.runDesc p ring idx 0x43 (fun d => d.pl 1 1 == 5) fun d s =>
    s.unitCtrl p ring idx d fun _ i s =>
      (s.updPort p i fun q => match q.admin with
        | .enabled =>
          if q.enCyc = some s.cyc then { q with admin := .disabled, enCyc := none } else { q with admin := .draining, drainNs := s.ns p }
        | .drainingPending => { q with admin := .draining }
        | _ => q).finish p ring idx .ok 0 0

/-- UNIT_ENABLE of a port (R384): a draining port keeps the enable pending; one that is `DOWN` starts training at once, whatever kept it
`DOWN`. -/
def execUnitEnable (p : Part) (ring idx : Nat) (s : State) : Result :=
  s.runDesc p ring idx 0x43 (fun d => d.pl 1 1 == 6) fun d s =>
    s.unitCtrl p ring idx d fun _ i s =>
      (s.updPort p i fun q => match q.admin with
        | .draining => { q with admin := .drainingPending }
        | .disabled => { q with admin := .enabled, linkFailed := false, cableFault := false, fails := 0 }
        | .enabled => if q.lstate == .down then { q with linkFailed := false, cableFault := false, fails := 0 } else q
        | .drainingPending => q).finish p ring idx .ok 0 0

/-- PORT_DRAIN_COMPLETE (R383, R384): the reliable frames queued are sent and acknowledged, or 100 us have passed; the port goes
`DOWN`, and stays there unless an enable is pending. -/
def execPortDrainComplete (p : Part) (port : Nat) (s : State) : Result :=
  let q := s.port p port
  let done := (q.queue.isEmpty && q.replay.isEmpty) || elapsed (s.ns p) q.drainNs (us 100)
  match q.admin with
  | .draining => whenever done s ((s.portDown p port).updPort p port fun q => { q with admin := .disabled })
  | .drainingPending => whenever done s ((s.portDown p port).updPort p port fun q =>
      { q with admin := .enabled, enCyc := some s.cyc, linkFailed := false, cableFault := false, fails := 0 })
  | _ => nothing s

end Sys2Proof.Machine
end

