-- ==== Sys2Proof/Machine/Registers.lean ====
section
/-!
DEFINITION. The set-up register maps (R423 to R437): what every register reads, what a write of one does, and the commands
that reach them.
-/

namespace Sys2Proof.Machine

/-! ### Reads -/

/-- `ID_PART`. -/
def idPart (p : Part) : List Byte :=
  (match p with | .tsu => leBytes 2 0x0A31 | .phi => leBytes 2 0x0D12) ++ [Config.siliconRev (isPhi p), 1]

/-- `ID_UID`. -/
def idUid : Part → List Byte
  | .tsu => leOf 8 Config.uidTsu
  | .phi => leOf 8 Config.uidPhi

/-- `LC_STATUS`: test access is open in `FACTORY` and `SERVICE` (R417). -/
def CfgSt.lcStatus (c : CfgSt) : List Byte :=
  leBytes 1 c.lcState ++ leBytes 1 c.lcRows ++ leBytes 1 (nb (c.lcState == 0 || c.lcState == 3)) ++ zeros 1

/-- `CFG_STATUS`. -/
def State.cfgStatus (s : State) (p : Part) : List Byte :=
  let c := (s.part p).cfg
  leBytes 1 (nb c.inForce.isSome + 2 * nb (p == .phi && s.hub.storage.bootCfg.isSome) + 4 * nb c.wrRej + 8 * nb c.accErr)
    ++ [c.lastReason] ++ leOf 2 c.lastOffset

/-- `PORT_STATUS` of a TSU port. -/
def State.portStatus (s : State) (i : Nat) : List Byte :=
  let q := s.port .tsu i
  leBytes 1 (q.lstate.code + 16 * (q.channel % 4)) ++ leBytes 1 (nb q.calib.isSome + 2 * q.admin.code) ++ leBytes 1 q.fails
    ++ zeros 1 ++ leOf 4 (if s.tsu.cfg.startStep < 4 then 0 else Config.calId false q.channel)
    ++ leOf 4 (sInt 32 ((q.asym * 1000000).tdiv 65536)) ++ zeros 4

/-- `WATCH` of a region. -/
def WatchSt.bytes (w : WatchSt) : List Byte :=
  leBytes 1 (nb w.en + 2 * w.prescale) ++ leBytes 1 w.m ++ leBytes 2 w.gate ++ leBytes 4 (nb w.running + 2 * nb w.failed)
    ++ leOf 8 w.lo ++ leOf 8 w.hi ++ zeros 8

/-- A region's watch. -/
def State.watch (s : State) (r : Nat) : WatchSt := tabGet {} s.die.spine.watches r

/-- `SLIP_STATUS`. -/
def State.slipStatus (s : State) : List Byte :=
  let rs := (List.range 16).map s.region
  leBytes 2 (packBits (rs.map (·.calOk))) ++ leBytes 2 (packBits (rs.map (·.calFuse))) ++ leBytes 4 s.armedLaunches.length

/-- `SYNC_STATUS`. -/
def State.syncStatus (s : State) : List Byte :=
  leBytes 2 s.die.sync.pend.length ++ leBytes 2 (s.die.sync.waiters.filter (fun e => 2048 ≤ e.1)).length

/-- `FLT_CTRL`. -/
def FaultSt.ctrl (f : FaultSt) : List Byte := leBytes 1 f.log2 ++ leBytes 1 (nb f.irqEn) ++ leBytes 2 f.vector

/-- `FLT_CNT`. -/
def FaultSt.counts (f : FaultSt) : List Byte := (List.range 256).flatMap fun i => leBytes 4 (tabGet 0 f.cnt i)

/-- `FW_VERSION` of a firmware image's header (R342). -/
def fwVersion (h : List Byte) : Nat := field h 8 4

/-- `FW_STATUS` (R344). -/
def FwSt.status (f : FwSt) : List Byte :=
  let version := match f.state, f.retained with
    | .none, _ => 0
    | _, some h => fwVersion h
    | _, Option.none => 0
  leBytes 1 (f.state.code + 8 * nb f.trapOvf + 16 * nb f.trapLate)
    ++ leBytes 1 (packBits ((List.range 8).map f.coresOut.contains)) ++ leBytes 2 f.restartCnt ++ leBytes 4 version
    ++ leBytes 3 ((List.range 8).foldl (fun n r => n + f.roleCore.getD r 0 % 8 * 8 ^ r) 0) ++ zeros 5

/-- The registers that the TSU and the Phidor have in one layout: for each offset pair its bytes. -/
def State.commonRegs (s : State) (p : Part) : List (Nat × List Byte) :=
  let c := s.part p
  let o (t f : Nat) : Nat := match p with | .tsu => t | .phi => f
  [(o 0x0000 0x1000, idPart p), (o 0x0008 0x1008, idUid p), (o 0x0100 0x1010, c.cfg.lcStatus),
   (o 0x0200 0x1020, s.cfgStatus p), (o 0x0204 0x1024, leOf 4 c.cfg.serial),
   (o 0x0210 0x1200, slice c.cfg.image 16 (match p with | .tsu => 108 | .phi => 236)),
   (o 0x0300 0x1100, leBytes 4 (2 * nb c.time.snapValid)), (o 0x0304 0x1104, padTo 48 c.time.snap),
   (o 0x0A00 0x2000, leOf 8 c.page.stateAddr), (o 0x0A08 0x2008, leOf 8 c.page.hbAddr),
   (o 0x0C00 0x2040, leBytes 4 (4 * nb c.cnt.latchBusy)), (o 0x0C08 0x2048, leOf 8 c.cnt.cntAddr),
   (o 0x0D00 0x3000, leOf 8 c.flt.base), (o 0x0D08 0x3008, c.flt.ctrl), (o 0x0D0C 0x300C, leBytes 4 c.flt.rate),
   (o 0x0D10 0x3010, leOf 8 c.flt.seqNext), (o 0x1800 0x3400, c.flt.counts)]

/-- The registers of the TSU alone. -/
def State.tsuRegs (s : State) : List (Nat × List Byte) :=
  [(0x0010, leBytes 1 Config.regionCount ++ leBytes 1 Config.coreCount ++ zeros 2), (0x0020, leOf 24 s.die.coreEn),
   (0x0350, leBytes 4 (nb s.tsu.time.htLoadRej)), (0x0358, leOf 5 s.tsu.time.rateAdj ++ zeros 3),
   (0x0400, s.portStatus 0), (0x0410, s.portStatus 1),
   (0x0800, leBytes 4 (nb s.tsu.clk.fast + 2 * nb s.tsu.clk.pllLock + 4 * (s.tsu.clk.sosc % 2) + 8 * nb s.tsu.clk.soscDead)),
   (0x0804, leBytes 4 (nb s.tsu.clk.fastForce)), (0x0880, s.slipStatus), (0x0900, leOf 8 s.die.sync.dumpAddr),
   (0x0908, s.syncStatus),
   (0x0B00, leBytes 4 (nb s.meter.strapMaster + 2 * nb (s.meter.masters != 1) + 16 * (s.meter.addr % 8)) ++ leOf 4 Config.romId),
   (0x0B40, padTo 64 s.meter.mirror), (0x0C04, leOf 4 s.tsu.cnt.localId), (0x0C10, leOf 8 s.die.dig.base),
   (0x0C18, leBytes 4 s.die.dig.log2)]
    ++ (List.range 16).map (fun r => (0x0500 + 32 * r, (s.watch r).bytes))

/-- The registers of the Phidor alone. -/
def State.phiRegs (s : State) : List (Nat × List Byte) :=
  let f := s.hub.fw
  [(0x0000, f.status), (0x0010, leOf 8 f.ldrAddr), (0x0018, leOf 4 f.ldrLen), (0x0020, leBytes 4 f.ldrStatus),
   (0x2010, leOf 8 s.hub.led.base), (0x2018, leOf 8 s.hub.led.db), (0x2020, leBytes 4 s.hub.led.log2),
   (0x2060, leOf 8 f.logBase), (0x2068, leBytes 1 f.logLog2 ++ leBytes 3 f.logLevel), (0x2080, leOf 128 f.traceEn),
   (0x4000, leBytes 4 f.mbxReq), (0x4004, leBytes 1 (nb f.mbxBusy) ++ leBytes 1 f.mbxStatus ++ leBytes 2 (nb f.mbxRej)),
   (0x4008, leOf 8 f.mbxArg), (0x4010, leOf 4 f.mbxCount), (0x4018, leOf 8 f.mbxAddr), (0x4020, leOf 8 f.mbxResult)]

/-- The ring whose base table entry lies at an offset. -/
def ringAt (p : Part) (off : Nat) : Option Nat :=
  if ringOffset p 0 0 ≤ off ∧ off < ringOffset p (ringCount p) 0 then some ((off - ringOffset p 0 0) / 32) else none

/-- The word at an offset of a part's register window, as a read returns it: what is write-only, reserved or not listed reads
as zero (R5, R6, R425), and what is held is not shown (R424); of a ring entry the words last written (R6, R430). -/
def State.readWord (s : State) (p : Part) (off : Nat) : Nat :=
  match ringAt p off with
  | some i => field (s.ring p i).stagedWords (off % 32) 4
  | none =>
    if p = .phi ∧ 0x010000 ≤ off ∧ off < 0x018000 then
      let k := (off - 0x010000) / 4
      (tabGet (if k % 4 = 3 then 1 else 0) s.hub.msix k : W32).toNat
    else if p = .phi ∧ 0x018000 ≤ off ∧ off < 0x018100 then
      packBits ((List.range 32).map fun i => s.hub.pba.contains (8 * (off - 0x018000) + i))
    else
      let own := match p with
        | .tsu => s.tsuRegs
        | .phi => s.phiRegs
      match (s.commonRegs p ++ own).find? (fun e => e.1 ≤ off && off < e.1 + e.2.length) with
      | some e => field e.2 (off - e.1) 4
      | none => 0

/-- The value that an access of 4 or 8 bytes reads (R423). -/
def State.readReg (s : State) (p : Part) (off len : Nat) : W64 :=
  BitVec.ofNat 64 (s.readWord p off + (if len = 8 then 2 ^ 32 * s.readWord p (off + 4) else 0))

/-! ### Writes -/

/-- A write is refused under R427. -/
def State.refuseWrite (s : State) (p : Part) : State := (s.upd p fun c => { c with cfg.wrRej := true }).noteSet p .wrRej

/-- Stores a value when it is in its range, and refuses the write otherwise (R427). -/
def State.accept (s : State) (p : Part) (ok : Bool) (t : State) : State := if ok then t else s.refuseWrite p

/-- The registers of more than 4 bytes that software writes, ring entries, `HT_LOAD` and `CFG_IMAGE` apart: offset and size. -/
def wideRegs : Part → List (Nat × Nat)
  | .tsu => [(0x0900, 8), (0x0A00, 8), (0x0A08, 8), (0x0C08, 8), (0x0C10, 8), (0x0D00, 8)]
      ++ (List.range 16).map (fun r => (0x0500 + 32 * r, 32))
  | .phi => [(0x0000, 16), (0x0010, 8), (0x2000, 8), (0x2008, 8), (0x2010, 8), (0x2018, 8), (0x2048, 8), (0x2060, 8),
      (0x2080, 128), (0x3000, 8), (0x4008, 8), (0x4018, 8)]

/-- The wide register at an offset. -/
def wideAt (p : Part) (off : Nat) : Option (Nat × Nat) := (wideRegs p).find? (fun e => e.1 ≤ off && off < e.1 + e.2)

/-- The word in force that an unwritten word of a wide register keeps; of `FW_STATUS`, whose writable bits are W1C, zero. -/
def State.forceWord (s : State) (p : Part) (off : Nat) : Nat := if p = .phi ∧ off < 0x10 then 0 else s.readWord p off

/-- A wide register's bytes in force with the held words laid over them (R424). -/
def State.wideBytes (s : State) (p : Part) (base len : Nat) : List Byte :=
  (List.range (len / 4)).flatMap fun i =>
    let off := base + 4 * i
    match tabGet? (s.part p).cfg.regHold off with
    | some w => leOf 4 w
    | none => leBytes 4 (s.forceWord p off)

/-- A wide register's bytes in force. -/
def State.wideForce (s : State) (p : Part) (base len : Nat) : List Byte :=
  (List.range (len / 4)).flatMap fun i => leBytes 4 (s.forceWord p (base + 4 * i))

/-- `WATCH` is written (R431). A watch starts when `EN` is set, unless the region's channel has failed (R89); a
`FREQUENCY` measurement that was started on it in the same cycle completes with `CONFLICT` (R437). -/
def State.watchWrite (s : State) (r : Nat) (v : List Byte) : State :=
  let w := s.watch r
  let en := (byteAt v 0).getLsbD 0
  let pre := (byteAt v 0).toNat / 2 % 8
  let m := (byteAt v 1).toNat % 32
  let gate := field v 2 2
  let lo : W64 := BitVec.ofNat 64 (field v 8 8)
  let hi : W64 := BitVec.ofNat 64 (field v 16 8)
  let late := if en && !w.en then (s.chan .tsu (16 + r)).meas.filter (fun m => m.mode == 1 && m.cyc == s.cyc) else none
  let s := match late with
    | some m => (s.updChan .tsu (16 + r) fun c => { c with meas := none }).finish .tsu m.ring m.idx .conflict 0 0
    | none => s
  let busy := en && !w.en && (s.chan .tsu (16 + r)).meas.isSome
  let w : WatchSt := { w with en := en, prescale := pre, m := m, gate := gate, lo := lo, hi := hi }
  let w := if !en then { w with running := false }
    else if w.running then w
    else { w with running := !w.failed, curPrescale := pre, curM := m, curGate := gate, curLo := lo, curHi := hi }
  s.accept .tsu (pre ≤ 6 && m ≤ 20 && 1 ≤ gate && lo.toInt ≤ hi.toInt && !busy)
    { s with die.spine.watches := tabSet s.die.spine.watches r w }

/-- Every `WRAP` bit of a part is cleared (R394) but that of a counter which wraps in the same cycle (R401, R437). -/
def State.wrapClr (s : State) (p : Part) : State :=
  s.upd p fun c => { c with cnt.counters := c.cnt.counters.map fun x =>
    { x with wrap := x.wrap && x.wrapCyc == some s.cyc } }

/-- Every per-cause counter of a part is cleared (R364). -/
def State.fltCntClr (s : State) (p : Part) : State := s.upd p fun c => { c with flt.cnt := [] }

/-- `NOTE_DROP` counts one (R365, R398). -/
def State.noteDropped (s : State) (p : Part) : State :=
  (s.upd p fun c => { c with flt.noteDrop := c.flt.noteDrop + 1 }).count p
    (match p with | .tsu => 0x0805 | .phi => 0x1105) 0 1

/-- `LATCH_NOW` (R433): a local latch waits for the next TSU logic cycle, in which `LATCH_APPLY` copies the counters. -/
def State.latchNow (s : State) : State :=
  let c := s.tsu.cnt
  if c.localId = 0 then s.refuseWrite .tsu
  else if c.pending.length ≥ 4 then s.noteDropped .tsu
  else s.upd .tsu fun k =>
    { k with cnt.latchBusy := true,
             cnt.pending := ⟨k.time.ns, c.localId, 0, none, true, false⟩ :: k.cnt.pending }

/-- `CNT_CTRL` is written: `WRAP_CLR`, and `LATCH_NOW` on the TSU. -/
def State.cntCtrl (s : State) (p : Part) (w : W32) : State :=
  let s := if w.getLsbD 0 then s.wrapClr p else s
  if p = .tsu ∧ w.getLsbD 1 then s.latchNow else s

/-- `FLT_CTRL` is written. -/
def State.fltCtrl (s : State) (p : Part) (w : W32) : State :=
  let log2 := w.toNat % 32
  let vec := w.toNat / 65536 % 2048
  let t := s.upd p fun c => { c with flt.log2 := log2, flt.irqEn := w.getLsbD 8, flt.vector := vec }
  s.accept p (within 6 20 log2 && vec ≤ (match p with | .tsu => 63 | .phi => 2047)) (if w.getLsbD 31 then t.fltCntClr p else t)

/-- The configuration registers take new bytes; a new `TOTALS_EXP` counts from now on (R335). -/
def State.setImage (s : State) (p : Part) (img : List Byte) : State :=
  let was := s.totalsExp
  let s := s.upd p fun c => { c with cfg.image := img }
  if s.totalsExp = was then s else { s with hub.period.gridFrom := s.ns .phi }

/-- A word of the configuration registers is written (R427, R429); in the cycle in which hardware applies the held block again its
values stay (R8). Without a configuration in force only the Phidor's
`BEACON_EXP`, which takes its value from the boot configuration, is open. -/
def State.cfgImageWrite (s : State) (p : Part) (off : Nat) (data : List Byte) : State :=
  let c' := s.part p
  let c := c'.cfg
  let img := cfgWritten p c.image off data
  let open' : Bool := p == .phi && off == 92 && within 14 20 (field img 95 1)
  let ok := if c.inForce.isSome then cfgWriteOk p img else open'
  let s := s.upd p fun c =>
    { c with cycs.cfgWrites := c.cycs.cfgWrites.filter (fun x => x.1 == s.cyc) ++ [(s.cyc, off, data, !ok, c.cfg.wrRej)] }
  s.accept p ok (if c'.cycs.cfgKept = some s.cyc then s else s.setImage p img)

/-- A write to a ledger register (R434): taken while `LEDGER_BASE` is 0, or when it sets `LEDGER_BASE` to 0. -/
def State.ledgerReg (s : State) (off : Nat) (v : Nat) : State :=
  let led := s.hub.led
  let isOpen := led.base == 0
  if off = 0x2010 then
    s.accept .phi (v == 0 || (isOpen && v % 4096 == 0)) (s.ledUpd fun l => { l with base := BitVec.ofNat 64 v })
  else if off = 0x2018 then
    s.accept .phi (isOpen && v % 64 == 0) (s.ledUpd fun l => { l with db := BitVec.ofNat 64 v })
  else s.accept .phi (isOpen && within 20 36 (v % 64)) (s.ledUpd fun l => { l with log2 := v % 64 })

/-- `HB_ADDR` is written (R311): 0 makes the driver `ABSENT`. A Function Level Reset of the same cycle keeps its 0 (R8). -/
def State.hbAddr (s : State) (p : Part) (v : Nat) : State :=
  if s.flrNow p then s
  else
  let s := s.upd p fun c => { c with page.hbAddr := BitVec.ofNat 64 v }
  if v = 0 ∧ (s.part p).page.driver ≠ .absent then (s.upd p fun c => { c with page.driver := .absent }).pageChange p else s

/-- A whole wide register is written. -/
def State.applyWide (s : State) (p : Part) (base : Nat) (v : List Byte) : State :=
  let n := field v 0 8
  let a : W64 := BitVec.ofNat 64 n
  match p with
  | .tsu =>
    if 0x0500 ≤ base ∧ base < 0x0700 then s.watchWrite ((base - 0x0500) / 32) v
    else if base = 0x0900 then s.accept p (n % 64 == 0) (s.syncUpd fun y => { y with dumpAddr := a })
    else if base = 0x0A00 then s.accept p (n % 4096 == 0) (s.upd p fun c => { c with page.stateAddr := a })
    else if base = 0x0A08 then s.accept p (n % 64 == 0) (s.hbAddr p n)
    else if base = 0x0C08 then s.accept p (n % 64 == 0) (s.upd p fun c => { c with cnt.cntAddr := a })
    else if base = 0x0C10 then s.accept p (n % 4096 == 0) (s.dieUpd fun d => { d with dig.base := a })
    else s.accept p (n % 4096 == 0) (s.upd p fun c => { c with flt.base := a }).writeSaved
  | .phi =>
    if base = 0x0000 then
      { s with hub.fw.trapOvf := s.afterW1c .phi .trapOvf s.hub.fw.trapOvf ((byteAt v 0).getLsbD 3),
               hub.fw.trapLate := s.afterW1c .phi .trapLate s.hub.fw.trapLate ((byteAt v 0).getLsbD 4) }
    else if base = 0x0010 then s.accept p (n % 4096 == 0) { s with hub.fw.ldrAddr := a }
    else if base = 0x2000 then s.accept p (n % 4096 == 0) (s.upd p fun c => { c with page.stateAddr := a })
    else if base = 0x2008 then s.accept p (n % 64 == 0) (s.hbAddr p n)
    else if base = 0x2010 ∨ base = 0x2018 then s.ledgerReg base n
    else if base = 0x2048 then s.accept p (n % 64 == 0) (s.upd p fun c => { c with cnt.cntAddr := a })
    else if base = 0x2060 then s.accept p (n % 4096 == 0) { s with hub.fw.logBase := a }
    else if base = 0x2080 then { s with hub.fw.traceEn := BitVec.ofNat 1024 (leNat v) }
    else if base = 0x3000 then s.accept p (n % 4096 == 0) (s.upd p fun c => { c with flt.base := a })
    else if base = 0x4008 then { s with hub.fw.mbxArg := a }
    else s.accept p (n % 64 == 0) { s with hub.fw.mbxAddr := a }

/-- A write of words to a wide register (R424): a word below the highest is held; the highest, and a write of 8 bytes, put the
value in force, the highest with the words held. -/
def State.wideWrite (s : State) (p : Part) (base len off : Nat) (data : List Byte) : State :=
  let top := off + data.length == base + len
  if data.length = 4 ∧ !top then
    s.upd p fun c => { c with cfg.regHold := tabSet c.cfg.regHold off (BitVec.ofNat 32 (leNat data)) }
  else
    let v := splice (if top then s.wideBytes p base len else s.wideForce p base len) (off - base) data
    let s := if top then
        s.upd p fun c => { c with cfg.regHold := c.cfg.regHold.filter (fun e => e.1 < base || base + len ≤ e.1) }
      else s
    s.applyWide p base v

/-- A mailbox request completes (R435): `MBX_RESULT`, then `STATUS`, then `BUSY`. -/
def State.mbxDone (s : State) (st : Status) (result : Nat) : State :=
  { s with hub.fw.mbxResult := BitVec.ofNat 64 result, hub.fw.mbxStatus := st.code, hub.fw.mbxBusy := false }

/-- `MBX_REQ` is written (R435): `GO` starts a request; an undefined one, or one with an argument out of range, completes at
once; `GO` while `BUSY` is ignored, and `REQ` is stored all the same (R6). -/
def State.mbxGo (s : State) (w : W32) : State :=
  let req := w.toNat % 256
  let f := s.hub.fw
  if !w.getLsbD 31 then { s with hub.fw.mbxReq := req }
  else if f.mbxBusy then { s with hub.fw.mbxReq := req, hub.fw.mbxRej := true }.noteSet .phi .mbxRej
  else
    let s := { s with hub.fw.mbxReq := req, hub.fw.mbxRun := req, hub.fw.mbxBusy := true }
    if req = 2 ∨ (req = 1 ∧ within 1 65536 f.mbxCount.toNat) then s else s.mbxDone .badDesc 0

/-- `CFG_STATUS` is written: its two W1C bits (R7). -/
def State.cfgStatusWrite (s : State) (p : Part) (w : W32) : State :=
  s.upd p fun c => { c with cfg.wrRej := s.afterW1c p .wrRej c.cfg.wrRej (w.getLsbD 2),
                            cfg.accErr := s.afterW1c p .accErr c.cfg.accErr (w.getLsbD 3) }

/-- A word of the TSU's registers is written. -/
def State.tsuWord (s : State) (off : Nat) (w : W32) : State :=
  let n := w.toNat
  if off = 0x0200 then
    s.cfgStatusWrite .tsu w
  else if off = 0x0300 then (if w.getLsbD 0 then s.htSnap .tsu else s)
  else if off = 0x0340 then
    s.updTime .tsu fun t => { t with htLoadLow := (t.htLoadLow &&& 0xFFFFFFFF00000000#64) ||| w.setWidth 64 }
  else if off = 0x0344 then
    s.updTime .tsu fun t => { t with htLoadLow := (t.htLoadLow &&& 0x00000000FFFFFFFF#64) ||| (w.setWidth 64 <<< 32) }
  else if off = 0x0348 then s.htLoad w
  else if off = 0x0350 then s.updTime .tsu fun t => { t with htLoadRej := s.afterW1c .tsu .htLoadRej t.htLoadRej (w.getLsbD 0) }
  else if off = 0x0804 then s.fastForce (w.getLsbD 0)
  else if off = 0x0C00 then s.cntCtrl .tsu w
  else if off = 0x0C04 then s.upd .tsu fun c => { c with cnt.localId := w }
  else if off = 0x0C18 then s.accept .tsu (within 6 20 (n % 32)) (s.dieUpd fun d => { d with dig.log2 := n % 32 })
  else if off = 0x0D08 then s.fltCtrl .tsu w
  else if off = 0x0D0C then s.accept .tsu (n % 65536 != 0) (s.upd .tsu fun c => { c with flt.rate := n % 65536 })
  else s

/-- A word of the MSI-X table is written: a vector unmasked with its bit of the PBA set is raised (PRESUMED, log entry 22). -/
def State.msixWord (s : State) (k : Nat) (w : W32) : State :=
  let s := { s with hub.msix := tabSet s.hub.msix k w }
  if k % 4 = 3 ∧ !w.getLsbD 0 ∧ s.hub.pba.contains (k / 4) then
    { s with hub.pba := s.hub.pba.filter (· != k / 4) }.emit (.irq .phi (k / 4))
  else s

/-- A ring's doorbell line has been read on a nudge (R436). -/
def State.nudge (s : State) (i : Nat) (line : List Byte) : State :=
  if (s.ring .phi i).rstate == .enabled then
    s.doorbell .phi i (BitVec.ofNat 32 (field line 0 4)) (BitVec.ofNat 32 (field line 4 4))
  else s

/-- A word of the Phidor's registers is written. `LDR_CTRL.GO` and `CHIP_RESET` have commands of their own. -/
def State.phiWord (s : State) (off : Nat) (w : W32) (line : List Byte) : State :=
  let n := w.toNat
  if off = 0x0018 then { s with hub.fw.ldrLen := w }
  else if off = 0x1020 then
    s.cfgStatusWrite .phi w
  else if off = 0x1100 then (if w.getLsbD 0 then s.htSnap .phi else s)
  else if off = 0x2020 then s.ledgerReg off n
  else if off = 0x2040 then s.cntCtrl .phi w
  else if off = 0x2068 then
    s.accept .phi (within 12 30 (n % 32)) { s with hub.fw.logLog2 := n % 32, hub.fw.logLevel := n / 256 % 8 }
  else if off = 0x3008 then s.fltCtrl .phi w
  else if off = 0x300C then s.accept .phi (n % 65536 != 0) (s.upd .phi fun c => { c with flt.rate := n % 65536 })
  else if off = 0x4000 then s.mbxGo w
  else if off = 0x4004 then { s with hub.fw.mbxRej := s.afterW1c .phi .mbxRej s.hub.fw.mbxRej (w.getLsbD 16) }
  else if off = 0x4010 then { s with hub.fw.mbxCount := w }
  else if 0x010000 ≤ off ∧ off < 0x018000 then s.msixWord ((off - 0x010000) / 4) w
  else if 0x040000 ≤ off ∧ off < 0x044000 then (if line.isEmpty then s else s.nudge ((off - 0x040000) / 4) line)
  else if off = 0x044000 then (if line.isEmpty then s else s.ledgerDoorbell (BitVec.ofNat 64 (field line 0 8)))
  else s

/-- The first byte of the configuration registers in a part's window, and their number (R429). -/
def imageAt : Part → Nat × Nat
  | .tsu => (0x0210, 108)
  | .phi => (0x1200, 236)

/-- A word of a part's registers is written. -/
def State.regWord (s : State) (p : Part) (off : Nat) (data line : List Byte) : State :=
  let (base, len) := imageAt p
  if base ≤ off ∧ off < base + len then s.cfgImageWrite p (16 + off - base) data
  else
    match wideAt p off with
    | some (b, n) => s.wideWrite p b n off data
    | none =>
      match p with
      | .tsu => s.tsuWord off (BitVec.ofNat 32 (leNat data))
      | .phi => s.phiWord off (BitVec.ofNat 32 (leNat data)) line

/-- A naturally aligned write of 4 or 8 bytes takes effect at a part (R423, R424, R430). -/
def State.regWrite (s : State) (p : Part) (off : Nat) (data line : List Byte) : State :=
  match ringAt p off with
  | some i => s.ringWrite p i (off % 32) data
  | none =>
    match wideAt p off with
    | some (b, n) => s.wideWrite p b n off data
    | none =>
      let s := s.regWord p off (data.take 4) line
      if data.length = 8 then s.regWord p (off + 4) (data.drop 4) line else s

/-- The blocks of the Phidor's window that hardware serves and that never trap: FWS, the MSI-X table and the PBA (R345). -/
def hardBlock (off : Nat) : Bool := off < 0x1000 || (0x010000 ≤ off && off < 0x018100)

/-! ### Commands -/

/-- TRAPPED_WRITE (R345, R346, R423 to R430): a register write without a row of its own. The hardware blocks of the Phidor take
it at once, every other register of the Phidor after the trap queue. -/
def execTrappedWrite (p : Part) (off : Nat) (data : List Byte) (s : State) : Result :=
  if p = .phi ∧ hardBlock off then
    if s.phi.cfg.startStep ≤ 1 then nothing s
    else if accessOk off data.length then .next (s.regWrite .phi off data [])
    else .next (s.accessError .phi)
  else s.viaWindow p off data fun s => s.regWrite p off data []

/-- A read of a part's registers is answered, with zero for an access that R423 does not accept. -/
def State.answerRead (s : State) (p : Part) (off len : Nat) : State :=
  if accessOk off len then
    let s := if p = .tsu ∧ off = 0x0B40 then s.mtr fun m => { m with mirror := s.meterBlock } else s
    s.emit (.regRead p (s.readReg p off len))
  else (s.accessError p).emit (.regRead p 0)

/-- TRAPPED_READ (R345, R369, R423): a read of the Phidor's window traps and waits for firmware; the TSU and the hardware
blocks answer at once, and a Phidor in chip reset with all ones. -/
def execTrappedRead (p : Part) (off len : Nat) (s : State) : Result :=
  match p with
  | .tsu => .next (s.answerRead .tsu off len)
  | .phi =>
    if s.phi.cfg.startStep ≤ 1 then .next (s.emit (.regRead .phi (BitVec.ofNat 64 (2 ^ (8 * len) - 1))))
    else if hardBlock off then .next (s.answerRead .phi off len)
    else
      let s := s.count .phi 0x1603 0 1
      if s.hub.fw.prompt then
        .next ((s.traceTrap off (s.readReg .phi off len).toNat false).answerRead .phi off len)
      else .next { s with hub.fw.trapReads := s.hub.fw.trapReads ++ [⟨off, len, s.ns .phi, s.hub.fw.trapQueue.length⟩] }

/-- TRAP_READ_TIMEOUT (R345): 50 us without an answer complete the oldest waiting read with all ones. -/
def execTrapReadTimeout (s : State) : Result :=
  match s.hub.fw.trapReads with
  | [] => nothing s
  | r :: rest =>
    whenever (elapsed (s.ns .phi) r.atNs (us 50)) s
      (({ s with hub.fw.trapReads := rest, hub.fw.trapLate := true }.noteSet .phi .trapLate).emit
        (.regRead .phi (BitVec.ofNat 64 (2 ^ (8 * r.len) - 1))))

/-- WATCH_WRITE (R424, R431): a write of words of `WATCH`[r]. -/
def execWatchWrite (region off : Nat) (data : List Byte) (s : State) : Result :=
  let o := 0x0500 + 32 * region + off
  if 16 ≤ region ∨ 32 < off + data.length then nothing s
  else s.viaWindow .tsu o data fun s => s.regWrite .tsu o data []

/-- LEDGER_REG_WRITE (R424, R434): a write of words of `LEDGER_BASE`, `LEDGER_DB` or `LEDGER_CTRL`. -/
def execLedgerRegWrite (off : Nat) (data : List Byte) (s : State) : Result :=
  if off < 0x2010 ∨ 0x2024 < off + data.length then nothing s
  else s.viaWindow .phi off data fun s => s.regWrite .phi off data []

/-- DB_NUDGE (R436): the operands are what the Phidor reads in the ring's doorbell line. -/
def execDbNudge (ring : Nat) (prod cons : W32) (s : State) : Result :=
  let line := leOf 4 prod ++ leOf 4 cons
  if 4096 ≤ ring then nothing s
  else s.viaWindow .phi (0x040000 + 4 * ring) (zeros 4) (fun s => s.nudge ring line) line

/-- LEDGER_NUDGE (R436): the operand is what the Phidor reads in the ledger doorbell line. -/
def execLedgerNudge (cons : W64) (s : State) : Result :=
  s.viaWindow .phi 0x044000 (zeros 4) (fun s => s.ledgerDoorbell cons) (leOf 8 cons)

/-- The offset of `CNT_CTRL`. -/
def cntCtrlAt : Part → Nat
  | .tsu => 0x0C00
  | .phi => 0x2040

/-- WRAP_CLR (R394). -/
def execWrapClr (p : Part) (s : State) : Result := s.viaWindow p (cntCtrlAt p) (leBytes 4 1) fun s => s.wrapClr p

/-- LATCH_NOW (R433). -/
def execLatchNow (s : State) : Result := s.viaWindow .tsu 0x0C00 (leBytes 4 2) fun s => s.latchNow

/-- FLT_CNT_CLR (R364): a write of `FLT_CTRL` with `FLT_CNT_CLR`, whose other fields are the operand. -/
def execFltCntClr (p : Part) (rest : W32) (s : State) : Result :=
  let w := rest ||| 0x80000000#32
  s.viaWindow p (match p with | .tsu => 0x0D08 | .phi => 0x3008) (leOf 4 w) fun s => s.fltCtrl p w

end Sys2Proof.Machine
end

