-- ==== Sys2Proof/Machine/Counters.lean ====
section
/-!
DEFINITION. Engine digests and the step digest chain (R389 to R393), and the latching of performance counters (R394 to R399, R401).
-/

namespace Sys2Proof.Machine

/-! ### Digests -/

/-- An engine digest message is taken, or discarded as late (R389): taken while a slot of the core for its step is `STARTED`, and in the cycle
of that slot's `DONE` (R401); a later message of one core, engine and step replaces the earlier one. -/
def State.takeDigest (s : State) (msg : List Byte) : State :=
  let core := field msg 0 1
  let engine := field msg 1 1 % 4
  let b := field msg 2 2 % 4096
  let g := field msg 4 2
  let n : StepNo := BitVec.ofNat 48 (field msg 6 6)
  let here := core < 192 && ((List.range 4).any (fun i => (s.slot core i).state == .started && (s.slot core i).ofStep b g n)
    || s.die.dig.doneNow.any (fun x => x.1 == core && x.2.ofStep b g n))
  if here then
    let same (e : EngDigest) : Bool := e.core == core && e.engine == engine && e.basin == b && e.gen == g && e.step == n
    (s.count .tsu 0x0802 0 1).dieUpd fun d => { d with dig.engines := d.dig.engines.filter (fun e => !same e) ++
      [{ core := core, engine := engine, basin := b, gen := g, step := n, value := slice msg 16 32 }] }
  else s.count .tsu 0x0803 0 1

/-- ENGINE_DIGEST (R369, R389): one 48-byte message at the engine digest port. -/
def execEngineDigest (msg : List Byte) (s : State) : Result :=
  if s.tsu.cfg.startStep < 3 then .next (s.count .tsu 0x0804 0 1)
  else if s.engineShut .tsu 5 then .next (s.holdItem 5 256 (padTo 48 msg))
  else .next (s.takeDigest msg)

/-- The step block B_n of R390. -/
def stepBlock (step : StepNo) (m : Nat) (kernel : W32) (arg : W64) : List Byte :=
  leOf 6 step ++ leBytes 2 m ++ leOf 4 kernel ++ zeros 4 ++ leOf 8 arg ++ zeros 8

/-- C_i of R390: the digests of a core's engines 0 to 3, 32 zero bytes for one that delivered none. -/
def State.coreDigests (s : State) (l : Launch) (core : Nat) : List Byte :=
  (List.range 4).flatMap fun e =>
    match s.die.dig.engines.find? (fun x => x.core == core && x.engine == e && x.basin == l.basin && x.gen == l.gen
        && x.step == l.step) with
    | some x => x.value
    | none => zeros 32

/-- The strobed launch of a basin whose digest forms next: the earliest one (R390). -/
def State.nextDigest (s : State) (b : Nat) : Option Launch :=
  (s.die.launches.filter (fun l => l.basin == b && l.phase == .strobed && !l.aborted)).foldl (fun o l =>
    match o with
    | none => some l
    | some x => if stepLater x.step l.step then some l else some x) none

/-- The digest of a basin's next step forms (R390, R392, R393). -/
def State.formDigest (s : State) (basin : Nat) : State :=
  match s.nextDigest basin, tabGet? s.die.dig.chains basin with
  | some l, some c =>
    if s.slotsOpen l then s
    else
      let cores := coresOf l.mask
      let v := sha256 (c.head ++ stepBlock l.step cores.length l.kernel l.arg ++ cores.flatMap (s.coreDigests l))
      let c' : Chain := { c with formed := c.formed ++ [⟨l.step, cores.length, v⟩] }
      let s := s.dieUpd fun d =>
        { d with dig.chains := tabSet d.dig.chains basin c', launches := d.launches.filter (· != l),
                 dig.engines := d.dig.engines.filter (fun e => !(e.basin == l.basin && e.gen == l.gen && e.step == l.step)) }
      (s.writeDigest basin l.gen l.step cores.length false v).berthDigest cores basin l.step l.lNs v
  | _, _ => s

/-- STEP_DIGEST_FORM (R390, R401): once every slot of the step is `EMPTY` after `DONE` and the digest before it has formed. The digest forms
at the end of the cycle, unless an `ABORT` of that cycle has cancelled the step. -/
def execStepDigestForm (basin : Nat) (s : State) : Result :=
  match s.nextDigest basin, tabGet? s.die.dig.chains basin with
  | some l, some _ =>
    if s.slotsOpen l then nothing s
    else .next (s.dieUpd fun d => { d with dig.forming := d.dig.forming.filter (· != basin) ++ [basin] })
  | _, _ => nothing s

/-- The digests of a cycle form at its end (R401). -/
def State.endDigests (s : State) : State :=
  let s := s.die.dig.forming.foldl (fun s b => s.formDigest b) s
  s.dieUpd fun d => { d with dig.forming := [], dig.doneNow := [] }

/-! ### Latches -/

/-- A latch is placed among the pending ones, in the order of their instants (R398). -/
def insertLatch (x : LatchSt) : List LatchSt → List LatchSt
  | [] => [x]
  | y :: ys => if later y.atNs x.atNs then x :: y :: ys else y :: insertLatch x ys

/-- A part holds a latch until its instant; a fifth is discarded and counted (R398). -/
def State.addLatch (s : State) (p : Part) (x : LatchSt) : State :=
  if (s.part p).cnt.pending.length ≥ 4 then s.noteDropped p
  else s.upd p fun c => { c with cnt.pending := insertLatch x c.cnt.pending }

/-- A part remembers a `LATCH_ID` for 2 s, in which it discards copies (R398). -/
def State.sawLatch (s : State) (p : Part) (id : W32) : State :=
  s.upd p fun c => { c with cnt.seen := (id, c.time.ns) :: c.cnt.seen.filter (fun e => !elapsed c.time.ns e.2 (sec 2)) }

/-- The instant at which a part acted on a `LATCH_ID`, within 2 s. -/
def State.latchSeen (s : State) (p : Part) (id : W32) : Option W64 :=
  ((s.part p).cnt.seen.find? (fun e => e.1 == id && !elapsed (s.ns p) e.2 (sec 2))).map (·.2)

/-- A part acts on a `LATCH` for its own snapshot (R22, R398). -/
def State.takeLatch (s : State) (p : Part) (port : Nat) (plane : Plane) (f : LatchPl) : State :=
  if !(s.part p).time.expands then s
  else
    let at_ := expandStamp (s.ns p) f.at_
    if !stampNear (s.ns p) at_ then s.record p .stampRange port
    else s.addLatch p { atNs := at_, latchId := f.latchId, plane := plane, ring := none, own := false,
                        late := later (s.ns p) at_ }

/-- COUNTER_LATCH (R397, R398). -/
def execCounterLatch (ring idx : Nat) (s : State) : Result :=
  s.runDesc .phi ring idx 0x07 anyVariant fun d s =>
    let at_ : W64 := BitVec.ofNat 64 (d.pl 0 8)
    let id : W32 := BitVec.ofNat 32 (d.pl 8 4)
    let t := s.phi.time
    let ahead := nsDiff at_ t.ns
    if id = 0 ∨ ahead < us 20 ∨ ahead > ms 900 then s.finish .phi ring idx .badDesc 0 0
    else if !(t.state == .locked || t.state == .holdover) then s.finish .phi ring idx .timeNotReady 0 0
    else if s.phi.cnt.pending.length ≥ 4 then s.finish .phi ring idx .noSpace 0 0
    else
      let s := if d.plBit 12 0 then
          s.queueAll .phi s.downPorts 0 0 (.latch { at_ := shortStamp at_, latchId := id })
        else s
      (s.sawLatch .phi id).addLatch .phi { atNs := at_, latchId := id, plane := 0, ring := some (ring, idx), own := false,
                                           late := false }

/-- LATCH_RECEIVE (R22, R398, R401): the first `LATCH` of a `LATCH_ID` is forwarded down by a Phidor that takes it from its
uplink, and applied. A copy from the other plane in the same cycle makes the snapshot's `PLANE` 0. -/
def execLatchReceive (p : Part) (port : Nat) (e : Env) (f : LatchPl) (s : State) : Result :=
  s.onReliable p port e fun s =>
    let s := match p with
      | .tsu => s.wakeFast
      | .phi => s
    if p = .phi ∧ port ≠ s.uplink then s
    else
      match s.latchSeen p f.latchId with
      | some t =>
        if t = s.ns p then
          let both (x : LatchSt) : LatchSt := if x.latchId = f.latchId then { x with plane := 0 } else x
          s.upd p fun c => { c with cnt.pending := c.cnt.pending.map both,
                                    cnt.applying := c.cnt.applying.map (fun e => (both e.1, e.2)) }
        else s
      | none =>
        let s := s.sawLatch p f.latchId
        let s := match p with
          | .tsu => s
          | .phi => s.queueAll .phi s.downPorts 0 0 (.latch f)
        s.takeLatch p port (s.sendPlane p port) f

/-- Every instance of each of several events. -/
def keysOf (events insts : List Nat) : List (Nat × Nat) := events.flatMap fun e => insts.map fun i => (e, i)

/-- The 183 counters of the TSU, ascending (R395). -/
def tsuCounters : List (Nat × Nat) :=
  keysOf [0x0101, 0x0102, 0x0103, 0x0104] [0, 1] ++ keysOf [0x0105] [0, 1, 2]
    ++ keysOf [0x0201] ([0, 1, 2] ++ (List.range 18).map (· + 16)) ++ keysOf [0x0202] [0, 1, 2]
    ++ keysOf [0x0301, 0x0302] (List.range 16) ++ keysOf [0x0303, 0x0304, 0x0401, 0x0402] [0]
    ++ keysOf [0x0403, 0x0404] (List.range 16)
    ++ keysOf [0x0405, 0x0406, 0x0407, 0x0408, 0x0501, 0x0502, 0x0503, 0x0504, 0x0601, 0x0602, 0x0603] [0]
    ++ keysOf [0x0701] (List.range 64) ++ keysOf [0x0801, 0x0802, 0x0803, 0x0804, 0x0805] [0]

/-- The counters that the Phidor reports, ascending: those of held basins and of enabled rings only (R396). -/
def State.phiCounters (s : State) : List (Nat × Nat) :=
  let rings := (s.phi.rings.filter (fun e => e.2.rstate == .enabled)).map (·.1)
  keysOf [0x1101, 0x1102, 0x1103, 0x1104] (List.range 528) ++ [(0x1105, 0)]
    ++ keysOf [0x1201, 0x1202, 0x1203, 0x1204, 0x1205] (s.hub.seqs.map (·.1))
    ++ keysOf [0x1301, 0x1302, 0x1303, 0x1401, 0x1402, 0x1403] [0] ++ keysOf [0x1501, 0x1502] (List.range 24)
    ++ keysOf [0x1601] rings ++ [(0x1602, 0), (0x1603, 0)]

/-- A snapshot entry (R399). -/
def Counter.bytes (c : Counter) : List Byte :=
  leBytes 2 c.event ++ leBytes 2 c.inst ++ leBytes 4 (nb c.wrap) ++ leOf 8 c.value

/-- The counters of a part as a latch copies them. -/
def State.copyCounters (s : State) (p : Part) : List Counter :=
  let keys : List (Nat × Nat) := match p with
    | .tsu => tsuCounters
    | .phi => s.phiCounters
  keys.map fun k =>
    match (s.part p).cnt.counters.find? (fun x => x.event == k.1 && x.inst == k.2) with
    | some x => x
    | none => { event := k.1, inst := k.2, value := 0, wrap := false }

/-- The host die's counters as the reader chain shifts them in: up to 1,024, events 0x2000 to 0x7FFF (R395). -/
def hostCounters (chain : List (Nat × Nat × W64)) : List Counter :=
  ((chain.filter (fun (e : Nat × Nat × W64) => 0x2000 ≤ e.1 && e.1 ≤ 0x7FFF)).take 1024).map
    (fun (e : Nat × Nat × W64) => ({ event := e.1, inst := e.2.1, value := e.2.2, wrap := false } : Counter))

/-- A counter is placed among others in ascending event and instance order (R399). -/
def insertCounter (x : Counter) : List Counter → List Counter
  | [] => [x]
  | y :: ys => if x.event < y.event ∨ (x.event = y.event ∧ x.inst < y.inst) then x :: y :: ys else y :: insertCounter x ys

/-- A snapshot of the counters (R399): header, entries, and the CRC-32C over all but its own four bytes. -/
def State.snapshot (s : State) (p : Part) (x : LatchSt) (entries : List Counter) : List Byte :=
  let hdr := leBytes 4 0x434E5453 ++ [1, BitVec.ofNat 8 (nb (isPhi p) + 2 * nb x.late + 4 * x.plane.toNat)]
    ++ leOf 2 (s.selfId p) ++ leOf 4 x.latchId ++ leBytes 4 entries.length ++ htBytes (s.ht p) ++ zeros 6
    ++ leOf 8 x.atNs ++ leOf 8 (s.part p).cnt.sinceNs ++ zeros 12
  let body := entries.flatMap Counter.bytes
  hdr ++ leOf 4 (crc32c (hdr ++ body)) ++ body

/-- LATCH_APPLY (R395, R398, R401, R433): at the instant of the first pending latch the counters are copied as they stand at the end of the
cycle. `chain` holds the host die's counters as the reader chain shifts them in. -/
def execLatchApply (p : Part) (chain : List (Nat × Nat × W64)) (s : State) : Result :=
  match (s.part p).cnt.pending with
  | [] => nothing s
  | x :: rest =>
    if !reached (s.ns p) x.atNs then nothing s
    else
      let x := if x.own then { x with atNs := s.ns p } else x
      let host : List Counter := match p with
        | .tsu => hostCounters chain
        | .phi => []
      .next (s.upd p fun c => { c with cnt.pending := rest, cnt.applying := c.cnt.applying ++ [(x, host)] })

/-- A latch of the cycle that ends: every counter is copied and the snapshot is written to `CNT_ADDR` (R395, R398, R399). -/
def State.applyLatch (s : State) (p : Part) (x : LatchSt) (host : List Counter) : State :=
  let entries := s.copyCounters p ++ host.foldl (fun l c => insertCounter c l) []
  let addr := (s.part p).cnt.cntAddr.toNat
  let s := if addr = 0 then s else s.dmaOrdered p addr 12 (s.snapshot p x entries)
  let s := s.upd p fun c => { c with cnt.latchBusy := c.cnt.pending.any (·.own) }
  s.finishOpt p x.ring .ok 0 (x.latchId.setWidth 64)

/-- The latches of a cycle are applied at its end, so that a snapshot holds what the cycle counted (R401). -/
def State.endLatches (s : State) (p : Part) : State :=
  let s' := (s.part p).cnt.applying.foldl (fun s e => s.applyLatch p e.1 e.2) s
  s'.upd p fun c => { c with cnt.applying := [] }

end Sys2Proof.Machine
end

