-- ==== Sys2Proof/Machine/Launch.lean ====
section
/-!
DEFINITION. The launch wave at the TSU (R154 to R180): judging an `ANNOUNCE`, `COMMIT`, the checks before the bell, the
strobes, the abort wave, mailbox slots, core sets, membership, and requests withheld during ring steps.
-/

namespace Sys2Proof.Machine

/-- The condition of R32 for a launch at L. -/
def State.launchOk (s : State) (l : W64) : Bool :=
  match s.tsu.time.state with
  | .locked => true
  | .holdover => !later l (nsAdd s.tsu.time.holdoverNs (ms 100))
  | _ => false

/-- Every region holds accepted or fuse values (R103). -/
def State.regionsReady (s : State) : Bool := (List.range 16).all (fun r => (s.region r).calOk)

/-- Sends an `ACK` for an `ANNOUNCE` on both ports (R154, R155). -/
def State.sendAck (s : State) (b g : Nat) (step : StepNo) (bell : W32) (entry : BitVec 24) (st : Status) : State :=
  let s := if st = .ok then s.count .tsu 0x0401 0 1 else s.count .tsu 0x0402 0 1
  s.queueAll .tsu [0, 1] (BitVec.ofNat 12 b) (BitVec.ofNat 16 g)
    (.ack { step := step, bell := bell, entry := entry, status := st.b, origin := s.dieNum, agg := false, cause := 0,
            count := 1, lastStep := 0 })

/-- The armed launch of a step. -/
def State.armed? (s : State) (b g : Nat) (step : StepNo) : Option Launch :=
  s.die.launches.find? (fun l => l.basin == b && l.gen == g && l.step == step && l.phase == .armed)

/-- Adds a bell to the key of a frame (R172, R173). -/
def State.addBell (s : State) (p : Part) (k : FrameKey) (bell : W32) : State :=
  s.upd p fun c => { c with keys := c.keys.map (fun x => if x == k then { x with bells := bell :: x.bells } else x) }

/-- Answers a second `BELL` for an armed step (R173): the step is disarmed, the answer is `CONFLICT`. -/
def State.secondBell (s : State) (l : Launch) (bell : W32) (entry : BitVec 24) : State :=
  (s.disarm l).sendAck l.basin l.gen l.step bell entry .conflict

/-- Judges a new `ANNOUNCE` up to its row fetch (R158), its launch bell expanded to L; in `SERVICE` it is refused (R417). -/
def State.judgeAnnounce (s : State) (b g : Nat) (f : LaunchPl) (l : W64) : State :=
  let now := s.ns .tsu
  let ack (st : Status) := s.sendAck b g f.step f.bell f.entry st
  if s.tsu.inService then ack .fenced
  else if !s.holds b g then ack .genStale
  else if !s.launchOk l || !s.regionsReady then ack .timeNotReady
  else if later now (nsAdd l (-3000)) then ack .timeout
  else
    match tabGet? s.die.attaches b with
    | none => ack .badDesc
    | some a =>
      if a.gen ≠ g ∨ f.entry.toNat ≥ a.rows then ack .badDesc
      else s.dieUpd fun d =>
        { d with fetches := d.fetches ++ [{ basin := b, gen := g, step := f.step, bell := f.bell, lNs := l, entry := f.entry,
                                            recvNs := now, recvCyc := s.cyc, fails := 0 }] }

/-- The bell of a frame lies at or before the abort fence of its basin, F + 8 us (R171). -/
def State.fenced (s : State) (b : Nat) (l : W64) : Bool :=
  match s.basin? b with
  | some x => x.applied.any (fun a => !later l (nsAdd a.2 8000))
  | none => false

/-- ANNOUNCE_RECEIVE (R21, R22, R158, R171 to R173). -/
def execAnnounceReceive (port : Nat) (e : Env) (f : LaunchPl) (s : State) : Result :=
  s.onEngine .tsu 2 port e fun s =>
    let s := s.wakeFast
    let b := e.basin.toNat
    let g := e.gen.toNat
    let now := s.ns .tsu
    if (s.basin? b).isNone then s.genDrop
    else if !s.tsu.time.expands then s
    else
      let l := expandStamp now f.bell
      if !stampNear now l then s.record .tsu .stampRange port
      else if s.fenced b l then s
      else
        match s.key? .tsu b g f.step 0 with
        | some k =>
          if f.bell ∈ k.bells then s
          else
            let s := s.addBell .tsu k f.bell
            match s.armed? b g f.step with
            | some x => s.secondBell x f.bell f.entry
            | none => s.judgeAnnounce b g f l
        | none => (s.addKey .tsu b g f.step 0 f.bell (nsAdd l (us 20))).judgeAnnounce b g f l

/-- The first `EMPTY` slot of a core's mailbox (R162). -/
def State.freeSlot (s : State) (c : Nat) : Option Nat := (List.range 4).find? (fun i => (s.slot c i).state == .empty)

/-- Writes the mailbox slots of a launch (R162). -/
def State.armSlots (s : State) (l : Launch) : List Nat → State
  | [] => s
  | c :: cs =>
    match s.freeSlot c with
    | some i => (s.setSlot c i { kernel := l.kernel, basin := l.basin, gen := l.gen, arg := l.arg, step := l.step,
                                 state := .armed, lNs := l.lNs }).armSlots l cs
    | none => s.armSlots l cs

/-- Another basin's armed launch holds the same L on an intersecting core set (R174). -/
def Launch.collides (l x : Launch) : Bool := x.basin != l.basin && x.lNs == l.lNs && x.mask &&& l.mask != 0

/-- Arms a launch and answers `OK` (R158, R162, R174): launches of higher basin IDs at the same L are displaced. -/
def State.arm (s : State) (l : Launch) : State :=
  let s := (s.armedLaunches.filter (fun x => l.collides x && x.basin > l.basin)).foldl
    (fun s x => s.abortLaunch x .conflict .launchRefused) s
  let s := s.dieUpd fun d => { d with launches := d.launches ++ [l] }
  let s := s.armSlots l (coresOf l.mask)
  let s := s.updBasin l.basin fun x => { x with lastArmed := l.step }
  s.sendAck l.basin l.gen l.step l.bell l.entry .ok

/-- The judgment of R158 on a row that the fetch returned. -/
def State.judgeRow (s : State) (x : Fetch) (row : List Byte) : State :=
  let csi := field row 4 1 % 64
  let cs : CoreSet := tabGet ⟨0, 0, false, false⟩ s.die.coresets csi
  let l : Launch := { basin := x.basin, gen := x.gen, step := x.step, bell := x.bell, lNs := x.lNs, entry := x.entry,
                      coreset := csi, mask := cs.mask, ring := cs.ring, kernel := BitVec.ofNat 32 (field row 0 4),
                      arg := BitVec.ofNat 64 (field row 8 8), committed := false, checked := false, phase := .armed,
                      aborted := false }
  let ack (s : State) (st : Status) := s.sendAck x.basin x.gen x.step x.bell x.entry st
  if !(byteAt row 4).getLsbD 7 || !cs.valid || cs.owner ≠ x.basin || !(coresOf cs.mask).all s.coreEnabled then ack s .badDesc
  else if s.armedLaunches.length ≥ 64 || (coresOf cs.mask).any (fun c => (s.freeSlot c).isNone) then ack s .noSpace
  else
    match s.armed? x.basin x.gen x.step with
    | some y => s.secondBell y x.bell x.entry
    | none =>
      if s.armedLaunches.any (fun y => l.collides y && y.basin < l.basin) then ack s .conflict
      else s.arm l

/-- The row fetch of a step. -/
def State.fetch? (s : State) (b : Nat) (step : StepNo) : Option Fetch :=
  s.die.fetches.find? (fun x => x.basin == b && x.step == step)

/-- Forgets a row fetch. -/
def State.dropFetch (s : State) (x : Fetch) : State := s.dieUpd fun d => { d with fetches := d.fetches.erase x }

/-- The row of a lower basin announced in the same cycle for the same L has not come yet (R174). -/
def State.rowWaits (s : State) (x : Fetch) : Bool :=
  s.die.fetches.any (fun y => y.basin < x.basin && y.recvCyc == x.recvCyc && y.lNs == x.lNs)

/-- Judges the rows that waited for those of lower basins of the same cycle and wait no longer, lower basins first (R174). `n` bounds the
search. -/
def State.judgeWaiting (s : State) : Nat → State
  | 0 => s
  | n + 1 =>
    match s.die.fetches.find? (fun x => x.row.isSome && !s.rowWaits x) with
    | none => s
    | some x => ((s.dropFetch x).judgeRow x (x.row.getD [])).judgeWaiting n

/-- A row fetch has ended in what `k` makes of the state without it; rows that waited for it are judged after it. -/
def State.endFetch (s : State) (x : Fetch) (k : State → State) : State :=
  (k (s.dropFetch x)).judgeWaiting s.die.fetches.length

/-- LAUNCH_ROW_FETCHED (R158, R159, R162, R173, R174): a parity failure is fetched again once. -/
def execLaunchRowFetched (basin : Nat) (step : StepNo) (row : List Byte) (parityOk : Bool) (s : State) : Result :=
  match s.fetch? basin step with
  | none => nothing s
  | some x =>
    let ack (st : Status) (s : State) : State := s.sendAck x.basin x.gen x.step x.bell x.entry st
    let put (y : Fetch) : State := s.dieUpd fun d => { d with fetches := d.fetches.map (fun z => if z == x then y else z) }
    if x.row.isSome then nothing s
    else if elapsed (s.ns .tsu) x.recvNs 801 then .next (s.endFetch x (ack .timeout))
    else if parityOk then
      if s.rowWaits x then .next (put { x with row := some row }) else .next (s.endFetch x (fun s => s.judgeRow x row))
    else if x.fails = 0 then .next (put { x with fails := 1 })
    else .next (s.endFetch x (ack .parity))

/-- ROW_FETCH_TIMEOUT (R158). -/
def execRowFetchTimeout (basin : Nat) (step : StepNo) (s : State) : Result :=
  match s.fetch? basin step with
  | none => nothing s
  | some x =>
    whenever (x.row.isNone && elapsed (s.ns .tsu) x.recvNs 800) s
      (s.endFetch x (fun s => s.sendAck x.basin x.gen x.step x.bell x.entry .timeout))

/-- Changes the armed launch of a step. -/
def State.updLaunch (s : State) (l : Launch) (f : Launch → Launch) : State :=
  s.dieUpd fun d => { d with launches := d.launches.map (fun x => if x == l then f x else x) }

/-- COMMIT_RECEIVE (R22, R163, R172): a `COMMIT` with the armed launch's `STEP` and `BELL`, up to L - 2 us. -/
def execCommitReceive (port : Nat) (e : Env) (f : LaunchPl) (s : State) : Result :=
  s.onEngine .tsu 2 port e fun s =>
    let s := s.wakeFast
    let b := e.basin.toNat
    let g := e.gen.toNat
    let now := s.ns .tsu
    if !s.holds b g then s.genDrop
    else if !s.tsu.time.expands then s
    else
      let l := expandStamp now f.bell
      if !stampNear now l then s.record .tsu .stampRange port
      else if (s.key? .tsu b g f.step 1).isSome then s
      else
        let s := s.addKey .tsu b g f.step 1 f.bell (nsAdd l (us 20))
        match s.armed? b g f.step with
        | some x =>
          if x.bell = f.bell ∧ !x.checked ∧ !later now (nsAdd x.lNs (-2000)) then
            s.updLaunch x fun x => { x with committed := true }
          else s
        | none => s

/-- COMMIT_DEADLINE (R163, R166): at L - 2 us. -/
def execCommitDeadline (basin : Nat) (step : StepNo) (s : State) : Result :=
  match s.die.launches.find? (fun l => l.basin == basin && l.step == step && l.phase == .armed) with
  | none => nothing s
  | some l =>
    if !reached (s.ns .tsu) (nsAdd l.lNs (-2000)) then nothing s
    else if l.committed then .next (s.updLaunch l fun l => { l with checked := true })
    else .next (s.abortLaunch l .timeout .commitMissed)

/-- FAST_READY_CHECK (R96, R166): at L - 1 us the fast logic must be ready. -/
def execFastReadyCheck (basin : Nat) (step : StepNo) (s : State) : Result :=
  match s.die.launches.find? (fun l => l.basin == basin && l.step == step && l.phase == .armed) with
  | none => nothing s
  | some l =>
    if !reached (s.ns .tsu) (nsAdd l.lNs (-1000)) || (s.tsu.clk.running && s.tsu.clk.fast) then nothing s
    else .next (s.abortLaunch l .timeout .fastWakeLate)

/-- A launch has been strobed (R180, R225). -/
def State.markStrobed (s : State) (l : Launch) : State :=
  let s := s.updLaunch l fun l => { l with phase := .strobed }
  s.updBasin l.basin fun x =>
    { x with lastStrobed := l.step, strobed := x.strobed.filter (fun y => y.1 != l.step) ++ [(l.step, l.lNs)],
             undone := if l.aborted then (if l.step ∈ x.undone then x.undone else x.undone ++ [l.step])
                       else x.undone.filter (· != l.step) }

/-- The regions that hold a core waiting on a use of a proxy (R202). -/
def State.waitRegions (s : State) (p : Nat) (u : W32) : List Nat :=
  (((s.proxyWaits p u).filter (fun w => w.1 < 2048)).map (fun w => s.regionOf (w.1 / 8))).eraseDups

/-- STROBE_DECISION (R32, R164, R166, R202): at L - 128 ns the committed launches at L are settled, and the gate edges of
the releases applied by then. -/
def execStrobeDecision (bell : W64) (s : State) : Result :=
  if !reached (s.ns .tsu) (nsAdd bell (-128)) then nothing s
  else
    let ls := s.die.launches.filter (fun l => l.phase == .armed && l.committed && l.lNs == bell)
    let s := ls.foldl (fun s l =>
      if s.launchOk bell then
        let s := s.updLaunch l fun l => { l with phase := .decided }
        if l.mask = 0 then s.markStrobed { l with phase := .decided } else s
      else s.abortLaunch l .timeNotReady .strobeWithheld) s
    .next (s.syncUpd fun y => { y with proxies := y.proxies.map (fun e => (e.1, match e.2.pend with
      | some (u, rb) => if rb = bell then { e.2 with pendRegions := some (s.waitRegions e.1 u) } else e.2
      | none => e.2)) })

/-- The gate edges that a region's strobe at a bell carries (R202): the releases at the bell that were settled for the region. -/
def State.edgesAt (s : State) (r : Nat) (bell : W64) : List (Nat × W32) :=
  s.die.sync.proxies.filterMap fun e =>
    match e.2.pend with
    | some (u, rb) => if rb = bell ∧ r ∈ e.2.pendRegions.getD [] then some (e.1, u) else none
    | none => none

/-- The whole spine cycles and the vernier code of a lead (R104): the delay line is fired at a spine cycle, and its code
makes up the rest of the lead, to the nearest code; midway between two codes, of which R104 says nothing, the higher one (DESIGN CHOICE,
log entry 73). -/
def leadSplit (dly step : Int) : Nat × Nat :=
  let cycles := ((dly + 999999) / 1000000).toNat
  let rest := (cycles : Int) * 1000000 - dly
  (cycles, if step ≤ 0 then 0 else ((2 * rest + step) / (2 * step)).toNat)

/-- DELAY_LINE_FIRE (R97, R104, R164, R202): one strobe into a region for a bell, for every settled launch at it and every
settled gate edge; it is written to the region's FIFO at the bell. -/
def execDelayLineFire (region : Nat) (bell : W64) (s : State) : Result :=
  let g := s.region region
  let ls := s.die.launches.filter (fun l => l.phase != .armed && l.lNs == bell && region ∈ s.regionsOf l.mask)
  let es := s.edgesAt region bell
  let split := leadSplit g.strobeDlyFs g.stepFs
  if (ls.isEmpty && es.isEmpty) || !s.tsu.clk.fast || !s.tsu.configured || g.fired == some bell
      || !reached (s.ns .tsu) (nsAdd bell (-(split.1 : Int))) then nothing s
  else
    let s := (s.updRegion region fun g => { g with fired := some bell }).emit (.delayLine region split.1 split.2 bell)
    let s := s.pushEntry region { wAcc := (bell.setWidth 112) <<< 48, bell := some bell, launch := !ls.isEmpty, edges := es, wakes := [] }
    let s := if ls.isEmpty then s else s.count .tsu 0x0403 region 1
    .next ((ls.filter (fun l => l.phase == .decided)).foldl (fun s l => s.markStrobed l) s)

/-- ABORT_RECEIVE (R167, R168, R172): a new `ABORT` is applied and sent once up the other port. -/
def execAbortReceive (port : Nat) (e : Env) (f : LaunchPl) (s : State) : Result :=
  s.onEngine .tsu 2 port e fun s =>
    let b := e.basin.toNat
    let g := e.gen.toNat
    if !s.holds b g then s.genDrop
    else if (s.key? .tsu b g f.step 2).isSome then s
    else
      let s := s.addKey .tsu b g f.step 2 f.bell (nsAdd (s.ns .tsu) (us 100))
      (s.applyAbort b g f).queueFrame .tsu (otherPort port) e.basin e.gen (.abort f)

/-- No step of a ring launch is in flight: none has a slot that is not `EMPTY` (R177, R178). -/
def State.ringFlight (s : State) : Bool :=
  s.die.launches.any (fun l => l.ring && l.phase == .strobed && s.slotsOpen l)

/-- The next digest of a basin that may form (R390): every slot of the step is `EMPTY`, and every earlier step on this die
has formed or ended aborted. -/
def State.digestReady (s : State) (l : Launch) : Bool :=
  l.phase == .strobed && !l.aborted && !s.slotsOpen l
    && s.die.launches.all (fun x => !(x.basin == l.basin && x.gen == l.gen && x.phase == .strobed && stepLater l.step x.step))

/-- SLOT_DONE_WRITE (R109, R162, R178): a `STARTED` or `ABORTED` slot is stamped and becomes `EMPTY`. A digest message of its core and
step that comes in the same cycle is still taken (R401). -/
def execSlotDoneWrite (core slot : Nat) (s : State) : Result :=
  let x := s.slot core slot
  if x.state == .empty || x.state == .armed || slot ≥ 4 then nothing s
  else
    let r := s.regionOf core
    let was := s.ringFlight
    let s := s.setSlot core slot { x with state := .empty }
    let s := if x.state == .started then s.dieUpd fun d => { d with dig.doneNow := (core, x) :: d.dig.doneNow } else s
    let s := s.updRegion r fun g =>
      if { core := core, slot := slot : SlotRef } ∈ g.prevSlots then
        { g with prevSlots := g.prevSlots.filter (fun y => !(y.core == core && y.slot == slot)),
                 prevDone := some s.tsu.time.acc }
      else g
    let s := s.dieUpd fun d => { d with launches := d.launches.filter (fun l =>
      !(l.aborted && l.phase == .strobed && !s.slotsOpen l)) }
    .next (if was && !s.ringFlight then s.dieUpd fun d => { d with ringEnd := some (x.basin, s.ns .tsu) } else s)

/-- BASIN_ATTACH (R159). -/
def execBasinAttach (ring idx : Nat) (s : State) : Result :=
  s.runDesc .tsu ring idx 0x20 anyVariant fun d s =>
    let b := d.pl 0 2 % 4096
    let g := d.pl 2 2
    let rows := d.plBits 4 4 0 25
    if s.tsu.inService then s.finish .tsu ring idx .fenced 0 0
    else if rows = 0 ∨ rows > 16777216 ∨ d.pl 8 8 % 64 ≠ 0 then s.finish .tsu ring idx .badDesc 0 0
    else if (s.basin? b).isSome && !s.holds b g then s.finish .tsu ring idx .genStale 0 0
    else if s.purging b then s.finish .tsu ring idx .fenced 0 0
    else if s.armedLaunches.any (fun l => l.basin == b) || s.die.slots.any (fun e => e.2.basin == b && e.2.state != .empty) then
      s.finish .tsu ring idx .conflict 0 0
    else
      (s.dieUpd fun x => { x with attaches := tabSet x.attaches b { gen := g, rows := rows, addr := BitVec.ofNat 64 (d.pl 8 8) } }).finish
        .tsu ring idx .ok 0 0

/-- CORESET_WRITE (R161). -/
def execCoresetWrite (ring idx : Nat) (s : State) : Result :=
  s.runDesc .tsu ring idx 0x21 anyVariant fun d s =>
    let i := d.plBits 0 1 0 6
    let m : BitVec 192 := BitVec.ofNat 192 (d.pl 8 24)
    if !(coresOf m).all s.coreEnabled then s.finish .tsu ring idx .badDesc 0 0
    else if s.die.launches.any (fun l => l.coreset == i && (l.phase != .strobed || s.slotsOpen l)) then
      s.finish .tsu ring idx .conflict 0 0
    else
      let cs : CoreSet := { mask := m, owner := d.plBits 32 2 0 12, valid := d.plBit 33 7, ring := d.plBit 34 0 }
      (s.dieUpd fun x => { x with coresets := tabSet x.coresets i cs }).finish .tsu ring idx .ok 0 0

/-- SOFT_REQUEST (R178). -/
def execSoftRequest (request : Nat) (s : State) : Result :=
  if s.ringFlight then
    .next (s.dieUpd fun d => { d with soft := d.soft ++ [{ id := request, sinceNs := s.ns .tsu }] })
  else .next (s.emit (.grant request))

/-- The bell period of a basin as the TSU takes it for R178: that of the sequencing Phidor where it is this one, and otherwise a free value
(log entry 74). -/
def State.ringBell (s : State) (b : Nat) : Nat :=
  match tabGet? s.hub.seqs b with
  | some q => 2 ^ q.k
  | none => 2 ^ (6 + Config.tsuBellK b % 15)

/-- The next bell of the basin whose ring step ended last has come (R178). -/
def State.ringBellDue (s : State) : Bool :=
  match s.die.ringEnd with
  | none => true
  | some (b, t) =>
    let bp := s.ringBell b
    reached (s.ns .tsu) (BitVec.ofNat 64 ((t.toNat / bp + 1) * bp))

/-- SOFT_REQUEST_GRANT (R178): no ring step is in flight, and the next bell of the basin whose ring step ended last has
come; the deferred requests are granted. -/
def execSoftRequestGrant (s : State) : Result :=
  if s.ringFlight || !s.ringBellDue then nothing s
  else .next (s.die.soft.foldl (fun s q => s.emit (.grant q.id)) (s.dieUpd fun d => { d with soft := [] }))

/-- THROTTLE_DEFER_TIMEOUT (R178): a request withheld for `THROTTLE_DEFER_US` is granted and counted as late. -/
def execThrottleDeferTimeout (request : Nat) (s : State) : Result :=
  match s.die.soft.find? (fun q => q.id == request) with
  | none => nothing s
  | some q =>
    whenever (elapsed (s.ns .tsu) q.sinceNs (us s.throttleDeferUs)) s
      (((s.dieUpd fun d => { d with soft := d.soft.erase q }).count .tsu 0x0407 0 1).emit (.grant request))

/-- HARD_LIMIT (R179): applied at once, and counted when it falls on a ring step in flight. -/
def execHardLimit (s : State) : Result := .next (if s.ringFlight then s.count .tsu 0x0408 0 1 else s)

/-- A TSU's `MEMBER` frame up both ports: a join's confirmation (R176) or a purge's (R118). -/
def State.sendMember (s : State) (b g : Nat) (action : Nat) (tear : Bool) (step : StepNo) : State :=
  (if tear then s.holdTorn .tsu b g else s).queueAll .tsu [0, 1] (BitVec.ofNat 12 b) (BitVec.ofNat 16 g)
    (.member { die := s.dieNum, action := BitVec.ofNat 8 action, tear := tear, step := step })

/-- MEMBER_RECEIVE (R118, R175, R176): a join is taken, discarded as a copy or refused; a leave starts a purge, or
is confirmed by a purge after a reset that is under way; a leave of a pair not held is confirmed at once (R375). -/
def execMemberReceive (port : Nat) (e : Env) (f : MemberPl) (s : State) : Result :=
  s.onEngine .tsu 2 port e fun s =>
    let b := e.basin.toNat
    let g := e.gen.toNat
    if f.die ≠ s.dieNum then s
    else if f.action = 0 then
      match s.basin? b with
      | none =>
        if s.tsu.inService then s.genDrop else
        let s := s.dieUpd fun d =>
          { d with basins := tabSet d.basins b { gen := g, joinStep := f.step },
                   dig.chains := tabSet d.dig.chains b { gen := g } }
        s.sendMember b g 0 false f.step
      | some x => if x.gen = g ∧ x.joinStep = f.step then s else s.genDrop
    else if f.action = 1 then
      if s.holds b g && !s.purging b then
        (s.purge b false).updBasin b fun x => { x with leaveStep := f.step, leaveTear := f.tear }
      else if s.holds b g then
        s.updBasin b fun x =>
          if x.purgeReset then { x with purgeReset := false, leaveStep := f.step, leaveTear := f.tear } else x
      else s.sendMember b g 2 f.tear f.step
    else s

/-- BASIN_PURGE_COMPLETE (R118, R451): the entry is cleared; a purge on leave is confirmed up both ports, one after a reset
is not (R376). -/
def execBasinPurgeComplete (basin : Nat) (s : State) : Result :=
  match s.basin? basin with
  | none => nothing s
  | some x =>
    if !x.purging then nothing s
    else
      let s := s.dieUpd fun d => { d with basins := tabDel d.basins basin }
      .next (if x.purgeReset then s else s.sendMember basin x.gen 2 x.leaveTear x.leaveStep)

end Sys2Proof.Machine
end

