-- ==== Sys2Proof/Machine/SyncOps.lean ====
section
/-!
DEFINITION. Synchronisation requests (R182 to R206): how one is judged and performed, for a core's context or the host, and
the view entries and dump of R217 to R219.
-/

namespace Sys2Proof.Machine

/-- Who makes a sync request: a context of a core, or the host in a descriptor with its result address (R183, R208). -/
inductive Who where
  | core (c ctx : Nat)
  | host (ring idx addr : Nat)
  deriving DecidableEq, Repr

/-- A sync request (R183). -/
structure SyncReq where
  sop : Nat
  consume : Bool
  index : Nat
  operand : W32
  timeoutUs : Nat
  deriving DecidableEq, Repr

/-- The participant number of a requester (R190). -/
def Who.part : Who → Nat
  | .core c _ => c
  | .host _ _ _ => 192

/-- Answers a request (R184, R208), counting those answered `OK` (R395). -/
def State.respond (s : State) (w : Who) (st : Status) (v : W32) : State :=
  let s := if st = .ok then s.count .tsu 0x0501 0 1 else s
  match w with
  | .core c ctx => s.emit (.answer c ctx st.b v)
  | .host ring idx addr => (s.dma .tsu addr (syncResponse st v)).finish .tsu ring idx st 0 0

/-- Refuses a request; its `VALUE` is a free value (log entry 5). -/
def State.refuse (s : State) (w : Who) (st : Status) : State := s.freeW32.2.respond w st s.freeW32.1

/-- The operations on flags (R185). -/
def flagOps : List Nat := [0x01, 0x02, 0x03, 0x04]

/-- The operations on tallies (R185). -/
def tallyOps : List Nat := [0x10, 0x11, 0x12]

/-- The operations on die gates (R185). -/
def dgOps : List Nat := [0x20, 0x21, 0x22]

/-- The operations on proxies (R185). -/
def hgOps : List Nat := [0x28, 0x29]

/-- The operations that may wait (R183). -/
def waitOps : List Nat := [0x04, 0x12, 0x21, 0x22, 0x28, 0x29]

/-- The core whose objects a flag or tally request names (R181). -/
def SyncReq.core (r : SyncReq) : Nat := if r.sop ∈ flagOps then r.index / 48 else r.index / 16

/-- The first row of R186: reserved or out of range. -/
def State.syncBad (s : State) (r : SyncReq) : Bool :=
  if r.sop ∈ flagOps then r.index ≥ 9216 || !s.coreEnabled r.core || r.timeoutUs > 100000000
  else if r.sop ∈ tallyOps then
    r.index ≥ 3072 || !s.coreEnabled r.core || r.timeoutUs > 100000000
      || (r.sop == 0x10 && (r.operand.toNat == 0 || r.operand.toNat > 65535))
  else if r.sop ∈ dgOps then r.index ≥ 256 || r.timeoutUs > 100000000
  else if r.sop ∈ hgOps then r.index ≥ 1024 || r.timeoutUs > 100000000
  else true

/-- The request is a wait, test or read on a flag or tally (R182). -/
def SyncReq.ownerOnly (r : SyncReq) : Bool := r.sop ∈ [0x03, 0x04, 0x11, 0x12]

/-- A requester may make an owner's request (R182). -/
def Who.owns (w : Who) (r : SyncReq) : Bool :=
  match w with
  | .core c _ => c == r.core
  | .host _ _ _ => true

/-- The participants and the arrivals of the gate or proxy that an arrival names; none where the proxy is not bound. -/
def State.arrivalMasks (s : State) (r : SyncReq) : Option (BitVec 193 × BitVec 193) :=
  if r.sop ∈ [0x20, 0x21] then some ((s.gate r.index).mask, (s.gate r.index).arrived)
  else if r.sop = 0x28 ∧ (s.proxy r.index).bound then some ((s.proxy r.index).mask, (s.proxy r.index).arrived)
  else none

/-- The object set of the core that a flag or tally request names is unloaded (R214). -/
def State.setUnloaded (s : State) (r : SyncReq) : Bool :=
  (r.sop ∈ flagOps || r.sop ∈ tallyOps) && s.die.sync.unloaded.contains r.core

/-- A core holds an `ABORTED` slot of a basin (R206). -/
def State.abortedSlot (s : State) (c b : Nat) : Bool :=
  (List.range 4).any (fun i => (s.slot c i).state == .aborted && (s.slot c i).basin == b)

/-- The lowest free host waiter entry (R181). -/
def State.hostEntry (s : State) : Option Nat :=
  ((List.range 256).map (· + 2048)).find? (fun k => (tabGet? s.die.sync.waiters k).isNone)

/-- The requester is the host. -/
def Who.isHost : Who → Bool
  | .core _ _ => false
  | .host _ _ _ => true

/-- The status of a request, by the table of R186, its first row that matches; the breakwater of R369 comes first. -/
def State.judgeSync (s : State) (w : Who) (r : SyncReq) : Status :=
  if s.portClosed 1 then .fenced
  else if s.syncBad r then .badDesc
  else if w.isHost && r.sop ∈ waitOps && r.timeoutUs == 0 then .badDesc
  else if r.ownerOnly && !w.owns r then .conflict
  else if (match s.arrivalMasks r with
      | some (m, a) => !m.getLsbD w.part || a.getLsbD w.part
      | none => false) then .conflict
  else if s.setUnloaded r then .fenced
  else if r.sop ∈ hgOps && (!(s.proxy r.index).bound || s.purging (s.proxy r.index).basin) then .fenced
  else if r.sop == 0x28 && (match w with
      | .core c _ => s.abortedSlot c (s.proxy r.index).basin
      | .host _ _ _ => false) then .aborted
  else if w.isHost && r.sop ∈ waitOps && s.hostEntry.isNone then .noSpace
  else .ok

/-- Takes a waiter entry for a request (R194): the context's own, which its core is told to deschedule, or a free one of the host's. -/
def State.addWaiter (s : State) (w : Who) (r : SyncReq) (operand : W32) : State :=
  let x : Waiter := { sop := r.sop, consume := r.consume, index := r.index, operand := operand, timeoutUs := r.timeoutUs,
                      startNs := s.ns .tsu, cmd := (match w with
                        | .core _ _ => none
                        | .host ring idx addr => some (ring, idx, addr)) }
  match w with
  | .core c ctx => (s.syncUpd fun y => { y with waiters := tabSet y.waiters (8 * c + ctx % 8) x }).emit (.deschedule c (ctx % 8))
  | .host _ _ _ =>
    match s.hostEntry with
    | some k => s.syncUpd fun y => { y with waiters := tabSet y.waiters k x }
    | none => s

/-- Counts an arrival at a die gate; the last one opens the gate in that cycle (R191). Answers the use arrived for. -/
def State.arriveGate (s : State) (g who : Nat) : W32 × State :=
  let x := s.gate g
  let use := x.released + 1
  let a := x.arrived ||| (1#193 <<< who)
  if a &&& x.mask = x.mask then
    (use, (s.updGate g fun x => { x with released := use, arrived := 0, ops := opsUp x.ops, lastNs := s.ns .tsu }))
  else (use, s.updGate g fun x => { x with arrived := a, ops := opsUp x.ops, lastNs := s.ns .tsu })

/-- The place of a requester among the contexts that contend for a flag: the host comes last (R193). -/
def Who.key : Who → Nat
  | .core c ctx => 8 * c + ctx % 8
  | .host _ _ _ => 2048

/-- A requester may consume a flag that is set: no lower context waits for it in this cycle (R193). -/
def State.mayTake (s : State) (w : Who) (i : Nat) : Bool := !(s.takers i).any (fun e => e.1 < w.key)

/-- Performs an accepted request (R185, R187, R191, R197). -/
def State.doSync (s : State) (w : Who) (r : SyncReq) : State :=
  let i := r.index
  match r.sop with
  | 0x01 => (s.setFlag i).respond w .ok 0
  | 0x02 => (s.clearFlag i).respond w .ok 0
  | 0x03 =>
    let s' := s.updFlag i fun f => { f with ops := opsUp f.ops }
    if (s.flag i).value && (!r.consume || s.mayTake w i) then
      (if r.consume then s'.consumeFlag i else s').respond w .ok 1
    else s'.respond w .ok 0
  | 0x04 =>
    let s' := s.updFlag i fun f => { f with ops := opsUp f.ops }
    if (s.flag i).value && (!r.consume || s.mayTake w i) then
      (if r.consume then s'.consumeFlag i else s').respond w .ok 1
    else s'.addWaiter w r r.operand
  | 0x10 =>
    let s := s.addTally i r.operand
    s.respond w .ok (s.tally i).value
  | 0x11 => (s.updTally i fun t => { t with ops := opsUp t.ops }).respond w .ok (s.tally i).value
  | 0x12 =>
    let v := (s.tally i).value
    let s := s.updTally i fun t => { t with ops := opsUp t.ops }
    if notBefore v r.operand then
      (s.updTally i fun t => t.waited r.operand s.cyc (s.ns .tsu)).respond w .ok v
    else s.addWaiter w r r.operand
  | 0x20 =>
    let (use, s) := s.arriveGate i w.part
    (s.respond w .ok use).serveGate i
  | 0x21 =>
    let (use, s) := s.arriveGate i w.part
    if (s.gate i).released = use then (s.respond w .ok use).serveGate i else s.addWaiter w r use
  | 0x22 =>
    let s := s.updGate i fun x => { x with ops := opsUp x.ops }
    let rel := (s.gate i).released
    if notBefore rel r.operand then s.respond w .ok rel else s.addWaiter w r r.operand
  | 0x28 =>
    let use := (s.proxy i).openUse
    (s.addWaiter w r use).arriveProxy i w.part
  | 0x29 =>
    let s := s.updProxy i fun x => { x with ops := opsUp x.ops }
    let rel := (s.proxy i).released
    if notBefore rel r.operand then s.respond w .ok rel else s.addWaiter w r r.operand
  | _ => s

/-- A second arrival within one use sets the sticky `DOUBLE` (R186, R217). -/
def State.markDouble (s : State) (w : Who) (r : SyncReq) : State :=
  match s.arrivalMasks r with
  | some (_, a) =>
    if a.getLsbD w.part then
      if r.sop = 0x28 then s.updProxy r.index fun x => { x with sticky := stick x.sticky 3 }
      else s.updGate r.index fun x => { x with sticky := stick x.sticky 3 }
    else s
  | none => s

/-- Handles a sync request (R183 to R186). -/
def State.syncRequest (s : State) (w : Who) (r : SyncReq) : State :=
  let s := s.take .tsu 1
  match s.judgeSync w r with
  | .ok => s.doSync w r
  | .conflict => (s.markDouble w r).refuse w .conflict
  | st => s.refuse w st

/-- Sets the sticky `TIMEOUT` of the object of a wait (R217). -/
def State.markTimeout (s : State) (x : Waiter) : State :=
  if x.sop = 0x04 then s.updFlag x.index fun o => { o with sticky := stick o.sticky 4 }
  else if x.sop = 0x12 then s.updTally x.index fun o => { o with sticky := stick o.sticky 4 }
  else if x.sop ∈ dgOps then s.updGate x.index fun o => { o with sticky := stick o.sticky 4 }
  else s.updProxy x.index fun o => { o with sticky := stick o.sticky 4 }

/-- The remaining limit of a wait in us, rounded up; 0 for none (R215). -/
def State.leftUs (s : State) (x : Waiter) : Nat :=
  if x.timeoutUs = 0 then 0
  else max 1 ((us x.timeoutUs - nsDiff (s.ns .tsu) x.startNs + 999) / 1000).toNat

/-- A 32-byte view entry (R217). -/
def viewBytes (kind : Nat) (sticky : Byte) (index value aux aux2 waiters first ops : Nat) (last : W64) : List Byte :=
  leBytes 1 kind ++ [sticky] ++ leBytes 2 index ++ leBytes 4 value ++ leBytes 4 aux ++ leBytes 4 aux2 ++ leBytes 2 waiters
    ++ leBytes 2 first ++ leBytes 4 ops ++ leOf 8 last

/-- The first waiter on an object, 0xFFFF for none (R217). -/
def firstWaiter (ws : List (Nat × Waiter)) : Nat :=
  match ws with
  | e :: _ => e.1
  | [] => 0xFFFF

/-- The number of ones of a participant mask. -/
def bits193 (m : BitVec 193) : Nat := popCount 193 m.toNat

/-- The view entry of an object (R217); `kind` 4 and 5 describe a pending or waiter entry by its entry number. -/
def State.viewEntry (s : State) (kind i : Nat) : List Byte :=
  match kind with
  | 0 =>
    let o := s.flag i
    let ws := s.waitersOn [0x04] i
    viewBytes 0 o.sticky i (if o.value then 1 else 0) o.mode 0 ws.length (firstWaiter ws) o.ops o.lastNs
  | 1 =>
    let o := s.tally i
    let ws := s.waitersOn [0x12] i
    viewBytes 1 o.sticky i o.value.toNat o.lastWait.toNat o.window ws.length (firstWaiter ws) o.ops o.lastNs
  | 2 =>
    let o := s.gate i
    let ws := s.waitersOn [0x21, 0x22] i
    viewBytes 2 o.sticky i (bits193 o.arrived) o.released.toNat (bits193 o.mask) ws.length (firstWaiter ws) o.ops o.lastNs
  | 3 =>
    let o := s.proxy i
    let ws := s.waitersOn [0x28, 0x29] i
    viewBytes 3 o.sticky i (bits193 o.arrived) o.released.toNat (o.basin + 4096 * o.gate) ws.length (firstWaiter ws) o.ops
      o.lastNs
  | 4 =>
    match tabGet? s.die.sync.pend i with
    | some e => viewBytes 4 0 e.index e.written e.pkts (e.sender.toNat + 65536 * e.tag.toNat) e.sop 0xFFFF 0 e.lastNs
    | none => viewBytes 4 0 0 0 0 0 0 0xFFFF 0 0
  | _ =>
    match tabGet? s.die.sync.waiters i with
    | some w => viewBytes 5 0 i w.index w.operand.toNat (s.leftUs w) w.sop 0xFFFF 0 w.startNs
    | none => viewBytes 5 0 i 0 0 0 0 0xFFFF 0 0

/-- The objects that a dump includes (R219): non-zero, with a sticky bit, or with a waiter; every entry in use. -/
def State.dumpItems (s : State) : List (Nat × Nat) :=
  let y := s.die.sync
  let waits (sops : List Nat) (i : Nat) : Bool := !(s.waitersOn sops i).isEmpty
  let idx (sops : List Nat) (keys : List Nat) (live : Nat → Bool) (n : Nat) : List Nat :=
    let all := keys ++ (y.waiters.filter (fun e => e.2.sop ∈ sops)).map (·.2.index)
    (List.range n).filter (fun i => all.contains i && (live i || waits sops i))
  (idx [0x04] (y.flags.map (·.1)) (fun i => (s.flag i).value || (s.flag i).sticky != 0) 9216).map (fun i => (0, i))
    ++ (idx [0x12] (y.tallies.map (·.1)) (fun i => (s.tally i).value != 0 || (s.tally i).sticky != 0) 3072).map (fun i => (1, i))
    ++ (idx [0x21, 0x22] (y.gates.map (·.1)) (fun i => (s.gate i).released != 0 || (s.gate i).arrived != 0
          || (s.gate i).mask != 0 || (s.gate i).sticky != 0) 256).map (fun i => (2, i))
    ++ (idx [0x28, 0x29] (y.proxies.map (·.1)) (fun i => (s.proxy i).bound || (s.proxy i).released != 0
          || (s.proxy i).arrived != 0 || (s.proxy i).sticky != 0) 1024).map (fun i => (3, i))
    ++ (y.pend.map (·.1)).map (fun i => (4, i)) ++ (y.waiters.map (·.1)).map (fun i => (5, i))

/-- The bytes of a post-mortem dump (R219). -/
def State.dumpBytes (s : State) (trigger : Nat) (cause : W16) : List Byte :=
  let items := s.dumpItems
  let seq := s.die.sync.dumpSeq + 1
  let body := items.flatMap (fun e => s.viewEntry e.1 e.2)
  let head := leBytes 4 0x53594E44 ++ leBytes 1 1 ++ leBytes 1 trigger ++ leOf 2 cause ++ htBytes (s.ht .tsu) ++ zeros 2
    ++ leBytes 4 items.length ++ leBytes 4 (64 + 32 * items.length) ++ leOf 4 seq ++ zeros 28
  let crc := crc32c (head ++ body)
  head ++ leOf 4 crc ++ body

/-- Puts out a dump (R219). -/
def State.putDump (s : State) (addr : Nat) (bytes : List Byte) : State :=
  (s.syncUpd fun y => { y with dumpSeq := y.dumpSeq + 1 }).dma .tsu addr bytes

/-- Writes a post-mortem dump (R219). -/
def State.syncDump (s : State) (addr trigger : Nat) (cause : W16) : State := s.putDump addr (s.dumpBytes trigger cause)

/-- Applies a remote signal to its object (R209, R212). -/
def State.applySignal (s : State) (e : PendEntry) : State :=
  if e.sop = 0x01 then s.setFlag e.index else s.addTally e.index e.operand

/-- The lowest free pending-table entry (R212). -/
def State.freePend (s : State) : Option Nat := (List.range 256).find? (fun i => (tabGet? s.die.sync.pend i).isNone)

/-- Places a separate-write signal in the lowest free entry of the pending table (R212). -/
def State.parkSignal (s : State) (e : PendEntry) : State :=
  match s.freePend with
  | some i => (s.syncUpd fun y => { y with pend := tabSet y.pend i e }).count .tsu 0x0503 0 1
  | none => s

/-- Why a remote signal is refused (R210): 1 `SOP` or `INDEX`, 2 unloaded, 0 mode. -/
def State.signalReason (s : State) (e : PendEntry) (sep : Bool) : Option Nat :=
  let r : SyncReq := ⟨e.sop, false, e.index, e.operand, 0⟩
  if !(e.sop ∈ [0x01, 0x10]) || s.syncBad r then some 1
  else if s.setUnloaded r then some 2
  else if (if e.sop = 0x01 then (s.flag e.index).mode else (s.tally e.index).mode) ≠ (if sep then 2 else 1) then some 0
  else none

/-- Refuses a remote signal (R210). -/
def State.refuseSignal (s : State) (e : PendEntry) (reason : Nat) : State :=
  let s := if reason = 1 then s
    else if e.sop = 0x01 then s.updFlag e.index fun o => { o with sticky := stick o.sticky 1 }
    else s.updTally e.index fun o => { o with sticky := stick o.sticky 1 }
  (s.record .tsu .signalRefused e.sender.toNat (leBytes 2 e.index ++ leBytes 1 reason)).emit (.moverAnswer Status.fenced.b)

/-- Accepts a remote signal (R210 to R212): refused, applied at once, or held until its packets are there. -/
def State.acceptSignal (s : State) (e : PendEntry) (sep : Bool) : State :=
  match s.signalReason e sep with
  | some reason => s.refuseSignal e reason
  | none =>
    if !sep || e.written ≥ e.pkts then (s.applySignal e).emit (.moverAnswer Status.ok.b)
    else s.parkSignal { e with sinceNs := s.ns .tsu, lastNs := s.ns .tsu }

/-- Accepts the separate-write signals that waited, in order, as long as an entry is free (R212). -/
def State.acceptSignals (s : State) : List PendEntry → State
  | [] => s.syncUpd fun y => { y with pendFull := [] }
  | e :: es =>
    if s.freePend.isNone then s.syncUpd fun y => { y with pendFull := e :: es }
    else (s.acceptSignal e true).acceptSignals es

/-- Frees a pending-table entry; the signals that waited for one are accepted (R193, R212). -/
def State.freePendAt (s : State) (i : Nat) : State :=
  let s := s.syncUpd fun y => { y with pend := tabDel y.pend i }
  s.acceptSignals s.die.sync.pendFull

end Sys2Proof.Machine
end

