-- ==== Sys2Proof/Machine/ResetOps.lean ====
section
/-!
DEFINITION. What resets share (R367 to R373, R403, R410, R412): the time state at a reset, the reset of the TSU, of the Phidor
chip and of its module, and the reset of one engine or hardware unit.
-/

namespace Sys2Proof.Machine

/-- The time state at a warm, die or chip reset (R17, R25): `FAULT` is left when the reference is present and the parity good, and what
a lighthouse measured of the 1PPS input before HT stood still is gone; `LOCKED` becomes `HOLDOVER` but at a lighthouse; any other state
stays. HT runs on. -/
def State.timeReset (s : State) (p : Part) (refOk parityOk : Bool) : State :=
  let s := s.updTime p fun t => { t with snapValid := false, snap := [], standbyOk := false, standbySince := none }
  let s := match (s.part p).time.state with
    | .fault =>
      if refOk && parityOk then
        let s := match p with
          | .tsu => s
          | .phi => { s with hub.lh.ppsKnown := false, hub.lh.ppsNew := false }
        (s.updTime p fun t => { t with refClk := true, parityGood := true }).enter p .free
      else s
    | .locked => if s.isLighthouse p then s else s.enter p .holdover
    | _ => s
  s.updTime p fun t => { t with acqCount := 0, everLocked := false }

/-! ### The TSU -/

/-- Puts a queued fault note on a port's lane at once (R368). -/
def State.sendNote (s : State) (port : Nat) : State :=
  let q := s.port .tsu port
  let isNote (f : Frame) : Bool := match f.pl with
    | .faultNote n => n.cause == Cause.memberReset.w
    | _ => false
  match q.queue.findIdx? isNote, q.queue.find? isNote with
  | some i, some f => if q.replay.length < 24 then s.putFrame .tsu port i 2 f else s
  | _, _ => s

/-- A reset that dredges basin entries (R376): every held basin is purged, `MEMBER_RESET` is recorded once, one note goes up each
port that is `UP`, and each port owes one when it first reaches `UP` afterwards. -/
def State.tsuMemberReset (s : State) (detail : Nat) : State :=
  let held := s.die.basins.map (·.1)
  let s := held.foldl (fun s b => s.purge b true) s
  let s := s.record .tsu .memberReset detail (leBytes 4 held.length)
  let s := (s.sendNote 0).sendNote 1
  (s.updPort .tsu 0 fun q => { q with noteOwed := some detail }).updPort .tsu 1 fun q => { q with noteOwed := some detail }

/-- Completes every descriptor fetched and not completed with `RETRY`; `RESULT` is 1 when the effect was applied (R368, R420). -/
def State.retryFetched (s : State) (p : Part) (cause : W16) : State :=
  (s.part p).rings.foldl (fun s e =>
    e.2.inflight.foldl (fun s d => s.finish p e.1 d.idx.toNat .retry cause (if d.applied then 1 else 0)) s) s

/-- The TSU's configuration state when its reset begins step 2 of R412: a warm reset holds the block, a die reset does not
(R409). -/
def CfgSt.tsuDredged (c : CfgSt) (now : W64) (die : Bool) : CfgSt :=
  if die then { image := tsuResetImage, lcState := c.lcState, lcRows := c.lcRows, startStep := 2, stepNs := now }
  else { c with image := tsuResetImage, regHold := [], asked := none, startStep := 2, stepNs := now }

/-- Step 6 of R368: the dredge of the TSU (R403). What the meter section has been handed, HT and `FLT_SEQ` stay; a die reset also
resets the registers of domain DIE; a region powered off stays off (R101), and what hardware set in the cycle stays set (R7). Both ports
owe the note of R376. -/
def State.tsuDredge (s : State) (die : Bool) (detail : Nat) : State :=
  let now := s.ns .tsu
  let o := s.tsu
  let flt : FaultSt := if die then { seqNext := o.flt.seqNext, saved := o.flt.saved } else o.flt
  let port (i : Nat) : Port := { freshPort .tsu i with entryNs := now, noteOwed := some detail }
  let core : PartCore :=
    { time := o.time, ports := [(0, port 0), (1, port 1)], tdc := { temp := o.tdc.temp }, flt := flt, cnt := { sinceNs := now },
      cfg := o.cfg.tsuDredged now die, cycs := { sets := o.cycs.sets, dredged := some (s.cyc, nb die) } }
  let sync : SyncSt := { dumpAddr := if die then 0 else s.die.sync.dumpAddr, dumpSeq := s.die.sync.dumpSeq }
  let off (e : Nat × RegionSt) : Bool := e.2.off
  let regions : Tab RegionSt := (s.die.spine.regions.filter off).map fun e => (e.1, { off := true })
  let d : DieSt := { sync := sync, spine := { regions := regions }, uses := s.die.uses, unbound := s.die.unbound, cutUses := s.die.cutUses }
  { s with tsu := core, die := d }

/-- The state of an engine's or unit's reset. -/
def State.engine (s : State) (p : Part) (n : Nat) : EngineSt := tabGet {} (s.part p).engines n

/-- Changes the state of an engine's or unit's reset. -/
def State.updEngine (s : State) (p : Part) (n : Nat) (f : EngineSt → EngineSt) : State :=
  s.upd p fun c => { c with engines := tabMod {} c.engines n f }

/-- Completes the `UNIT_CTRL` commands that wait for an engine or unit (R382). -/
def State.endCtls (s : State) (p : Part) (n : Nat) (st : Status) (cause : W16) : State :=
  let l := (s.engine p n).ctls
  let s := s.updEngine p n fun e => { e with ctls := [] }
  l.foldl (fun s x => s.finish p x.1 x.2 st cause 0) s

/-- The `UNIT_CTRL` commands that wait for an engine whose reset has gone on to a warm reset complete with `ABORTED` (R382). -/
def State.endHung (s : State) : State :=
  (s.tsu.engines.filter (fun e => e.2.step ≥ 3)).foldl (fun s e => s.endCtls .tsu e.1 .aborted Cause.resetHung.w) s

/-- A warm reset or die reset of the TSU (R219, R368): the note, the completions, the dump when `DUMP_ADDR` is not zero, of the objects as they
stood before the reset, and the dredge. The activity units counted so far stay with the meter section. -/
def State.tsuReset (s : State) (die refOk parityOk : Bool) (trigger : Nat) (cause : W16) : State :=
  let detail := if die then 2 else 1
  let dump := s.dumpBytes trigger cause
  let s := ((s.tsuMemberReset detail).endHung).retryFetched .tsu Cause.engineReset.w
  let s := if s.die.sync.dumpAddr = 0 then s else s.putDump s.die.sync.dumpAddr.toNat dump
  (s.timeReset .tsu refOk parityOk).tsuDredge die detail

/-- A configuration block is in force at the TSU and step 5 of its start begins (R405, R412): the fast logic starts, and ports and
spine calibrate. -/
def State.tsuApply (s : State) (b : List Byte) : State :=
  let s := s.upd .tsu fun c =>
    { c with cfg.image := b.take 124, cfg.inForce := some b, cfg.serial := BitVec.ofNat 32 (field b 8 4), cfg.startStep := 5,
             cfg.stepNs := c.time.ns }
  { s.wakeFast with die.spine.calRun := true }

/-! ### The Phidor -/

/-- The configuration registers that hardware applies at a chip reset: of the boot configuration `PLANE`, `LIGHTHOUSE`, `TIER`,
`PHIDOR_NUM`, `UPLINK`, `SISTER`, `DIE_LO`, `DIE_HI`, `PORT_EN` and `BEACON_EXP`, and the reset values of the rest (R410; of `PTP_UDP` see log
entry 92). -/
def bootImage (boot : Option (List Byte)) : List Byte :=
  match boot with
  | none => phiResetImage
  | some b =>
    splice (splice (splice phiResetImage 16 [byteAt b 16 &&& 0x03]) 17 (slice b 17 77)) 95 [byteAt b 95]

/-- The Phidor begins step 1 of R414 with a time, a fault record number and a configuration state given; module storage and what
it says of life cycle are kept. -/
def State.phiStart (s : State) (time : TimeSt) (seq : W64) : State :=
  let c := s.phi.cfg
  let cfg : CfgSt := { image := bootImage s.hub.storage.bootCfg, lcState := c.lcState, lcRows := c.lcRows, startStep := 1,
                       stepNs := time.ns }
  let core : PartCore :=
    { time := time, tdc := { temp := s.phi.tdc.temp }, flt := { seqNext := seq }, cnt := { sinceNs := time.ns }, cfg := cfg,
      clk := { starting := true, startNs := time.ns }, page := { cxlCache := Config.cxlCache s.cyc } }
  let hub : HubSt :=
    { storage := s.hub.storage, lh := { traceLostNs := s.hub.lh.traceLostNs }, period := { startNs := time.ns, gridFrom := time.ns } }
  { s with phi := core, hub := hub }

/-- A Phidor chip reset (R367): all state and every memory package but HT, the time state under R25, `FLT_SEQ` and module storage.
A chip that is held in reset or off stays so. -/
def State.chipReset (s : State) (refOk parityOk : Bool) : State :=
  if s.phi.cfg.startStep = 0 then s
  else
    let s := s.timeReset .phi refOk parityOk
    s.phiStart s.phi.time s.phi.flt.seqNext

/-- The Phidor's supply is gone, or its chip is held in reset until module power-on: nothing but module storage and fuses is
left (R355, R367, R441). -/
def State.modulePowerOff (s : State) : State :=
  let cfg : CfgSt := { image := phiResetImage, lcState := s.phi.cfg.lcState, lcRows := s.phi.cfg.lcRows, startStep := 0 }
  { s with phi := { cfg := cfg }, hub := { storage := s.hub.storage } }

/-! ### One engine or unit -/

/-- The reset of the `SYNC` engine (R370): every wait ends with `ABORTED`, every object set becomes unloaded, pending signals are
discarded, and the member reset of R376 follows. -/
def State.syncReset (s : State) : State :=
  let s := s.failWaits .aborted Cause.engineReset.w (s.die.sync.waiters.map (·.1))
  let s := s.tsuMemberReset 0
  s.syncUpd fun y => { unloaded := coresOf s.die.coreEn, dumpAddr := y.dumpAddr, dumpSeq := y.dumpSeq }

/-- The reset of the `LAUNCH` engine (R370): armed launches are dropped without strobes, every slot becomes `EMPTY`, and basin
entries, launch tables and core sets are dredged; the member reset of R376 goes before. -/
def State.launchReset (s : State) : State :=
  let s := s.tsuMemberReset 0
  s.dieUpd fun d =>
    { d with basins := [], attaches := [], fetches := [], launches := [], coresets := [], slots := [], notices := [],
             soft := [], ringEnd := none }

/-- The reset of the `WB` engine (R245, R370): open operations end with `ABORTED`, and each of their steps is aborted once. -/
def State.wbReset (s : State) : State :=
  let ops := s.die.wbOps
  let s := s.endWbs .aborted Cause.engineReset.w ops
  let steps : List (Nat × Nat × StepNo × W32) := (ops.map (fun o => (o.basin, o.gen, o.step, o.bell))).eraseDups
  steps.foldl (fun s x => s.startAbort x.1 x.2.1 x.2.2.1 x.2.2.2 0 .aborted Cause.engineReset.w) s

/-- A channel after the reset of the `MEASURE` engine (R370): its conversions, its measurement and the progress of its runs are gone; a table
that no run has calibrated yet is calibrated from the beginning. -/
def Chan.measReset (c : Chan) : Chan :=
  let first := c.calRun && c.tables.all (fun t => t.2.state == 0)
  { c with meas := none, convs := [], calRun := first || !c.ret.isEmpty, attempt := 0, altSource := false, hostRun := false }

/-- A port after the reset of the `MEASURE` engine (R370): its exchange is one not accepted (R53), its statistics begin anew, and so does the
calibration of a port that has not come `UP`. -/
def Port.measReset (q : Port) : Port :=
  { q with exch := none, answer := none, consec := if q.exch.isSome then 0 else q.consec, jitter := [],
           calib := q.calib.map fun c => { c with quads := 0, cur := [], sumA := 0, sumSq := 0, attempt := 1 } }

/-- The reset of the `MEASURE` engine (R370): a running `TDC_MEASURE` completes with `RETRY`, as a recalibration that the host has asked for
does (log entry 91); exchanges and conversions in progress are abandoned, and calibrations and statistics dredged. Values in force stay. -/
def State.measureReset (s : State) : State :=
  let running := s.tsu.tdc.chans.filterMap (fun e => e.2.meas)
  let s := running.foldl (fun s m => s.finish .tsu m.ring m.idx .retry Cause.engineReset.w 0) s
  let s := [0, 1].foldl (fun s i =>
    let q := s.port .tsu i
    let s := s.finishOpt .tsu q.recalRing .retry Cause.engineReset.w 0
    let s := s.updPort .tsu i fun q => { q with recalRing := none }
    if q.calib.isSome && q.lstate == .up then s.abandonCal .tsu i else s) s
  let s := s.upd .tsu fun c =>
    { c with tdc.chans := c.tdc.chans.map (fun e => (e.1, e.2.measReset)), ports := c.ports.map (fun e => (e.1, e.2.measReset)) }
  s.dieUpd fun d => { d with spine.calRun := d.spine.calRun && !s.regionsReady }

/-- A frame of a record transfer. -/
def isRecordFrame (f : Frame) : Bool :=
  match f.pl with
  | .record _ => true
  | _ => false

/-- What the reset of an engine or hardware unit does to the work in flight (R370, R373). The `RING` engine's commands complete
when it returns. -/
def State.engineEffect (s : State) : Part → Nat → State
  | .tsu, 1 => s.syncReset
  | .tsu, 2 => s.launchReset
  | .tsu, 3 => s.wbReset
  | .tsu, 4 => s.measureReset
  | .tsu, 5 => s.upd .tsu fun c =>
      { c with ports := c.ports.map (fun e => (e.1, { e.2 with queue := e.2.queue.filter (fun f => !isRecordFrame f) })) }
  | .tsu, _ => s
  | .phi, 4 => ((List.range 16).map (· + 512)).foldl
      (fun s i => if (s.port .phi i).lstate == .down then s else s.portDown .phi i) s
  | .phi, 5 => s.loseTables (s.hub.seqs.map (·.1))
  | .phi, 6 => (s.abortOpenOps).hubUpd fun h => { h with ops := h.ops.map (fun o => { o with kept := [] }) }
  | .phi, 7 => s.hubUpd fun h => { h with transfers := [] }
  | .phi, n => if n < 4 then ((List.range 128).map (· + 128 * n)).foldl
      (fun s i => if (s.port .phi i).lstate == .down then s else s.portDown .phi i) s else s

/-- Starts the reset of an engine or unit (R372, R373): `ENGINE_RESET` is recorded with the trigger's low byte, and step 1 begins.
While steps 3 or 4 are under way the request is dropped; a reset already under way serves it too. -/
def State.engineReset (s : State) (p : Part) (n trigger : Nat) (ctl : Option (Nat × Nat)) : State :=
  let add : List (Nat × Nat) := match ctl with
    | some x => [x]
    | none => []
  if (s.part p).engines.any (fun e => e.2.step ≥ 3) then s
  else if (s.engine p n).step ≠ 0 then s.updEngine p n fun e => { e with ctls := e.ctls ++ add }
  else
    let now := s.ns p
    let s := s.record p .engineReset (n + 256 * trigger)
    let s := s.updEngine p n fun e =>
      { e with step := 1, stepNs := now, beginNs := now, outOfService := false, ctls := e.ctls ++ add, asked := false }
    let s := (s.engine p n).ctls.foldl (fun s x => s.markApplied p x.1 x.2) s
    s.engineEffect p n

/-- As a cycle ends the resets that `UNIT_CTRL` has asked for in it begin, where no stall of the cycle has begun them already (R382, R385). The
trigger has no fault cause, so the low byte that the record shows is a free value (log entry 5). -/
def State.endAsked (s : State) (p : Part) : State :=
  ((s.part p).engines.filter (fun e => e.2.asked)).foldl (fun s e =>
    let (v, s) := s.takeFree
    (s.updEngine p e.1 fun x => { x with asked := false }).engineReset p e.1 (v.toNat % 256) none) s

end Sys2Proof.Machine
end

