-- ==== Sys2Proof/Machine/FwOps.lean ====
section
/-!
DEFINITION. What the firmware commands share: the check of an image (R342, R343), the end of a firmware instance and the return to
`RUNNING` (R345 to R350), and handovers that fail (R354).
-/

namespace Sys2Proof.Machine

/-- The boot ROM accepts an image in a life-cycle state (R342, R343, R417): `len` is the length that the host gives, 128 +
`BODY_LEN`. A retired part loads none. -/
def imageOk (lc len : Nat) (img : List Byte) : Bool :=
  let h := padTo 128 img
  let n := field h 12 4
  let entry := field h 20 4
  lc != 4 && field h 0 4 == 0x46424D48 && field h 4 1 == 1 && within 4096 67108736 n && n % 64 == 0 && len == 128 + n
    && entry < n && entry % 64 == 0 && sha256 (slice img 128 n) == slice h 32 32
    && (lc == 0 || edVerify Config.firmwareKey (h.take 64) (slice h 64 64))

/-- The boot ROM reads an image and checks it (R343, R415); `image` is what it reads, none when a read fails. -/
def State.ldrGo (s : State) (image : Option (List Byte)) : State :=
  let f := s.hub.fw
  match image with
  | none => { s with hub.fw.ldrStatus := 5 }
  | some img =>
    let ok := imageOk s.phi.cfg.lcState f.ldrLen.toNat img
    { s with hub.fw.loading := some (padTo 128 img |>.take 128, ok), hub.fw.ldrStatus := 2,
             hub.fw.state := if ok then .starting else f.state }

/-- Registers of domain FW take their reset values (R349, R353, R367), and a mailbox request in progress completes with `RETRY`
(R435). -/
def State.fwDomainReset (s : State) : State :=
  let s := if s.hub.fw.mbxBusy then s.mbxDone .retry 0 else s
  { s with hub.fw.traceEn := 0, hub.fw.mbxReq := 0, hub.fw.mbxArg := 0, hub.fw.mbxCount := 0, hub.fw.mbxAddr := 0,
           hub.fw.mbxResult := 0,
           phi.cfg.regHold := s.phi.cfg.regHold.filter (fun e =>
             !fwDomain e.1) }

/-- Answers window reads (R345). -/
def State.answerReads (s : State) (l : List TrapRead) : State :=
  l.foldl (fun s r => (s.traceTrap r.off (s.readReg .phi r.off r.len).toNat false).answerRead .phi r.off r.len) s

/-- Applies the queued writes in order, and answers each waiting read after the writes that arrived before it (R345, R346). `k` is
the number of the next write. -/
def State.drainTraps (s : State) (k : Nat) : List TrapWrite → List TrapRead → State
  | [], reads => s.answerReads reads
  | w :: ws, reads =>
    let s := s.answerReads (reads.filter (fun r => r.ahead ≤ k))
    (s.fwApply w.off w.data (fun s => s.regWrite .phi w.off w.data w.line)).drainTraps (k + 1) ws
      (reads.filter (fun r => !(r.ahead ≤ k)))

/-- Firmware takes the trapped accesses that wait (R345, R346). -/
def State.serveTraps (s : State) : State :=
  let f := s.hub.fw
  { s with hub.fw.trapQueue := [], hub.fw.trapReads := [] }.drainTraps 0 f.trapQueue f.trapReads

/-- As a cycle ends firmware that runs and is not busy takes the trapped accesses that wait (R345). -/
def State.endTraps (s : State) : State :=
  let f := s.hub.fw
  if f.state = .running && !f.busy && !(f.trapQueue.isEmpty && f.trapReads.isEmpty) then s.serveTraps else s

/-- `FW_STATE` becomes `RUNNING` (R340, R343, R346, R349): queued writes are applied and reads answered. The commands that waited are checked and
can start, and held faults are decided as the cycle ends. -/
def State.fwResume (s : State) : State :=
  ({ s with hub.fw.state := .running }.serveTraps).judgeFetched .phi

/-- The cores in the complex, or fixed-role cores in service, without a free spare (R338, R339). -/
def State.complexCores (s : State) : List Nat :=
  (List.range 8).filter fun c =>
    let st := (s.unit .phi 7 c).state
    st == .inService || st == .suspect

/-- A mask of cores. -/
def coreMask (l : List Nat) : Nat := packBits ((List.range 8).map l.contains)

/-- The number of consecutive failed restarts that name a core. -/
def State.failsOf (s : State) (core : Nat) : Nat := tabGet 0 s.hub.fw.fails core

/-- Cores that two consecutive failed restarts name (R350): the lasting fault `FW_CORE`, and, when the governor grants it, the core
goes out of service; held as suspect, it keeps serving and its failures are counted from zero. -/
def State.judgeCores (s : State) (named : List Nat) : State :=
  (named.filter (fun c => s.failsOf c ≥ 2)).foldl (fun s c =>
    let s := s.recordLasting .phi 7 c .fwCore c
    let s := { s with hub.fw.fails := tabDel s.hub.fw.fails c }
    let (granted, s) := s.askGovernor .phi 7 c
    if granted then s.expelCore c else s) s

/-- A restart of the firmware begins (R349, R350): commands in execution complete with `RETRY`, registers of domain FW are reset, and
the complex restarts, or is `HALTED` when fewer than four cores are left: queued writes are discarded and every waiting descriptor
completes. A dead image commits no journal record. -/
def State.fwRestart (s : State) (named : List Nat) : State :=
  let s := { s with hub.fw.state := .restarting, phi.hung := s.phi.hung.filter (·.1 < 8) }
  let s := ((s.retryAll .phi Cause.fwWatchdog.w).dropDeadPatches).fwDomainReset
  let s := { s with hub.fw.dogNs := s.ns .phi, hub.fw.dogCores := named, hub.fw.missed := false, hub.fw.handover := none }
  let left := s.complexCores
  if left.length < 4 then
    let s := { s with hub.fw.state := .halted, hub.fw.trapQueue := [] }
    ((s.record .phi .fwHalted (coreMask left)).judgeFetched .phi).retryFetched .phi Cause.fwHalted.w
  else { s with hub.fw.owed := true }

/-- The consecutive failed restarts of the cores that a restart names, those of the others forgotten (R350). -/
def State.countFails (s : State) (named : List Nat) (fails : Nat → Nat) : State :=
  { s with hub.fw.fails := named.foldl (fun t c => tabSet t c (fails c)) [] }

/-- The image of a restart has come to run (R349, R350): the journal is replayed; a restart that missed its 50 ms has failed, whether its image
was retained or had to be loaded again. -/
def State.restartOver (s : State) : State :=
  let f := s.hub.fw
  let now := s.ns .phi
  let s := { s with hub.fw.lastRunNs := some now, hub.fw.owed := false, hub.fw.journal := f.replayed }
  if elapsed now f.dogNs (ms 50 + 1) then
    let s := { s with hub.fw.missed := true }.countFails f.dogCores fun c => s.failsOf c + 1
    if f.dogCores.any (fun c => s.failsOf c ≥ 2) then
      let s := { s with hub.fw.state := .running }.judgeCores f.dogCores
      s.fwRestart f.dogCores
    else s.fwResume
  else s.fwResume

/-- A handover fails before its step 5 (R354): `FW_HANDOVER_FAILED` is recorded, the command completes with `TIMEOUT`, and the old
image restarts, which counts as no failed restart. -/
def State.handoverFails (s : State) (h : Handover) : State :=
  let s := { s.record .phi .fwHandoverFailed 0 with hub.fw.state := .restarting }
  let s := s.finish .phi h.ring h.idx .timeout Cause.fwHandoverFailed.w 0
  { s with hub.fw.handover := none }.fwRestart []

/-- The watchdogs of cores fire (R348 to R350, R354, R359). In the complex they restart the firmware; the standby core restarts alone; during
a handover, in which every core runs a fixed role, the handover fails. A restart that missed its 50 ms has been counted as failed already. The
spec gives the watchdog of a fixed-role core no other effect (log entry 90). -/
def State.fwWatchdog (s : State) (cores : List Nat) : State :=
  let f := s.hub.fw
  match f.state, f.handover with
  | .handover, some h =>
    let named := (List.range 8).filter (fun c => cores.contains c && !f.coresOut.contains c)
    if named.isEmpty then s else (s.record .phi .fwWatchdog (coreMask named)).handoverFails h
  | .running, _ =>
    let named := s.complexCores.filter cores.contains
    if named.isEmpty then s
    else
      let again := match f.lastRunNs with
        | some t => !later (s.ns .phi) (nsAdd t (sec 10))
        | none => false
      let s := s.record .phi .fwWatchdog (coreMask named)
      let s := s.countFails named fun c =>
        if !f.dogCores.contains c then 0 else if f.missed then s.failsOf c else if again then s.failsOf c + 1 else 0
      (s.judgeCores named).fwRestart named
  | _, _ => s

end Sys2Proof.Machine
end

