-- ==== Sys2Proof/Machine/Firmware.lean ====
section
/-!
DEFINITION. The commands of Phidor firmware: loader, watchdogs and restarts, journal, handover, hardware limits and mailbox (R338 to
R358, R415, R435).
-/

namespace Sys2Proof.Machine

/-- LDR_GO (R342, R343, R415, R422): `image` is what the boot ROM reads at `LDR_ADDR`, none when a read fails. `GO` is ignored unless
`LDR_STATUS` is `READY`, `REFUSED` or `DMA_ERROR`, or becomes `READY` in its cycle. -/
def execLdrGo (image : Option (List Byte)) (s : State) : Result :=
  let f := s.hub.fw
  if s.phi.cfg.startStep ≤ 1 then nothing s
  else if f.ldrStatus = 0 then .next { s with hub.fw.goNow := some (s.cyc, image) }
  else if !([1, 4, 5].contains f.ldrStatus) then nothing s
  else .next (s.ldrGo image)

/-- FW_IMAGE_STARTED (R341, R343, R344, R346, R349, R350, R415): a checked image starts and runs, or the image is refused. One loaded after a
restart whose retained image failed its check ends that restart. -/
def execFwImageStarted (s : State) : Result :=
  match s.hub.fw.loading with
  | none => nothing s
  | some (h, ok) =>
    if ok then
      let s := { s with hub.fw.loading := none, hub.fw.retained := some h, hub.fw.ldrStatus := 3 }
      let s := s.fwDomainReset
      .next (if s.hub.fw.owed then s.restartOver else s.fwResume)
    else
      let s := { s with hub.fw.loading := none, hub.fw.ldrStatus := 4, hub.fw.state := .none }
      .next (s.record .phi .fwImageBad 0)

/-- FW_WATCHDOG (R348 to R350, R354, R359): the watchdogs of cores fire, for want of a service write or at an unrecoverable exception. -/
def execFwWatchdog (cores : List Nat) (s : State) : Result := .next (s.fwWatchdog cores)

/-- FW_RESTART_DONE (R343, R346 to R350, R353): the retained image has started and replayed the journal; `hashOk` says whether its
`BODY_HASH` was right. A restart that missed its 50 ms has failed. A handover completes. -/
def execFwRestartDone (hashOk : Bool) (s : State) : Result :=
  let f := s.hub.fw
  match f.state, f.handover with
  | .handover, some h =>
    if !h.stopped then nothing s
    else
      let s := { s with hub.fw.handover := none, hub.fw.retained := some h.header }.fwDomainReset.fwResume
      .next (s.finish .phi h.ring h.idx .ok 0 (BitVec.ofNat 64 (fwVersion h.header)))
  | .restarting, _ =>
    if !hashOk then
      let s := { s with hub.fw.state := .none, hub.fw.retained := none, hub.fw.ldrStatus := 4,
                        hub.fw.restartCnt := satNat 16 (f.restartCnt + 1) }
      .next (s.record .phi .fwImageBad 0)
    else .next { s with hub.fw.restartCnt := satNat 16 (f.restartCnt + 1) }.restartOver
  | _, _ => nothing s

/-- JOURNAL_CHECKPOINT (R347). -/
def execJournalCheckpoint (s : State) : Result :=
  whenever s.hub.fwCommits s s.compact

/-- FW_HANDOVER (R342, R343, R352, R353); `image` is what `IMG_ADDR` gives. -/
def execFwHandover (ring idx : Nat) (image : List Byte) (s : State) : Result :=
  s.runDesc .phi ring idx 0x42 anyVariant fun d s =>
    let len := d.pl 8 4
    let quiesce := d.pl 12 4
    let header := (padTo 128 image).take 128
    let stateVer := match s.hub.fw.retained with
      | some h => field h 16 2
      | none => 0
    if d.pl 0 8 % 4096 ≠ 0 ∨ quiesce > 1000 ∨ !imageOk s.phi.cfg.lcState len image then s.finish .phi ring idx .badDesc 0 0
    else if field header 18 2 > stateVer then s.finish .phi ring idx .unsupported 0 0
    else
      let h : Handover := { ring := ring, idx := idx, header := header, startNs := s.ns .phi,
                            quiesceMs := if quiesce = 0 then 100 else quiesce }
      { s with hub.fw.state := .handover, hub.fw.handover := some h }

/-- The quiescent point is reached (R296, R353): the handover itself apart, the commands in execution are those that do not hold
back their ring. -/
def State.quiescent (s : State) (h : Handover) : Bool :=
  s.phi.rings.all fun e => e.2.inflight.all fun d =>
    !d.started || longCommand d.opcode || (e.1 == h.ring && d.idx.toNat == h.idx)

/-- HANDOVER_QUIESCENT (R347, R353): the old image commits a checkpoint and stops, and the new image starts. -/
def execHandoverQuiescent (s : State) : Result :=
  match s.hub.fw.handover with
  | none => nothing s
  | some h =>
    whenever (s.hub.fw.state == .handover && !h.stopped && s.quiescent h) s
      { s.compact with hub.fw.handover := some { h with stopped := true } }

/-- QUIESCE_TIMEOUT (R354): the old image continues without a restart. -/
def execQuiesceTimeout (s : State) : Result :=
  match s.hub.fw.handover with
  | none => nothing s
  | some h =>
    whenever (s.hub.fw.state == .handover && !h.stopped && elapsed (s.ns .phi) h.startNs (ms h.quiesceMs)) s
      ({ s with hub.fw.handover := none }.fwResume.finish .phi h.ring h.idx .conflict 0 0)

/-- THERM_HIGH (R355): the hottest sensor reaches 100 degrees Celsius. -/
def execThermHigh (celsius : Nat) (s : State) : Result :=
  whenever (celsius ≥ 100 && !s.hub.fw.thermSlow && s.phi.cfg.startStep ≥ 1) s
    ({ s with hub.fw.thermSlow := true }.record .phi .thermHigh celsius)

/-- THERM_HIGH_CLEAR (R355): the hottest sensor falls to 95 degrees Celsius. -/
def execThermHighClear (celsius : Nat) (s : State) : Result :=
  whenever (celsius ≤ 95 && s.hub.fw.thermSlow) s { s with hub.fw.thermSlow := false }

/-- THERM_TRIP (R355, R367): 115 degrees Celsius for 1 ms hold the chip in reset until module power-on. -/
def execThermTrip (celsius : Nat) (s : State) : Result :=
  if celsius < 115 ∨ s.phi.cfg.startStep = 0 then nothing s
  else
    let s := { s with hub.storage.records := s.hub.storage.records ++ [(Cause.thermTrip.w, BitVec.ofNat 32 celsius)],
                      mdl.tripLatched := true, mdl.heldReset := true }
    .next s.modulePowerOff

/-- SUPPLY_RANGE (R355, R367): a rail outside its range resets the chip. -/
def execSupplyRange (rail : Nat) (refOk parityOk : Bool) (s : State) : Result :=
  whenever (s.phi.cfg.startStep ≥ 1) s
    ({ s with hub.storage.records := s.hub.storage.records ++ [(Cause.supplyRange.w, BitVec.ofNat 32 rail)] }.chipReset refOk parityOk)

/-- LOG_FETCH (R358, R435): the history entries from `MBX_ARG` on that still exist. -/
def execLogFetch (s : State) : Result :=
  let f := s.hub.fw
  let first := f.mbxArg.toNat
  let l := f.history.filter (fun e => first ≤ field e 0 8 && field e 0 8 < first + f.mbxCount.toNat)
  whenever (f.mbxBusy && f.mbxRun == 1 && s.hub.fwRuns) s ((s.dma .phi f.mbxAddr.toNat l.flatten).mbxDone .ok l.length)

/-- FW_INFO (R342, R358, R435): the running image's header. -/
def execFwInfo (s : State) : Result :=
  let f := s.hub.fw
  match f.retained with
  | some h => whenever (f.mbxBusy && f.mbxRun == 2 && s.hub.fwRuns) s ((s.dma .phi f.mbxAddr.toNat h).mbxDone .ok 0)
  | none => nothing s

end Sys2Proof.Machine
end

