-- ==== Sys2Proof/Machine/LifeCycle.lean ====
section
/-!
DEFINITION. The commands that load a configuration block and change the life-cycle state (R404 to R411, R417 to R420).
-/

namespace Sys2Proof.Machine

/-- A configuration block is in force at the Phidor (R410): it becomes the boot configuration, and where a field that hardware
applies at chip reset differs from it every port retrains from `DOWN`. -/
def State.phiApply (s : State) (b : List Byte) : State :=
  let now := s.ns .phi
  let up := (s.phi.ports.filter (fun e => e.2.lstate != .down)).map (·.1)
  let s := if bootImage (some b) = bootImage s.hub.storage.bootCfg then s
    else
      let s := up.foldl (fun s i => s.portDown .phi i) s
      s.upd .phi fun c => { c with ports := c.ports.map (fun e => (e.1, { e.2 with fails := 0, linkFailed := false })) }
  let s := (s.setImage .phi (b.take 252)).upd .phi fun c =>
    { c with cfg.inForce := some b, cfg.serial := BitVec.ofNat 32 (field b 8 4), cfg.stepNs := now }
  { s with hub.storage.bootCfg := some b }

/-- The writes of configuration registers of the cycle in which a block is put in force are judged after it (R437): a refusal of one of
them no longer stands, unless another refusal of the cycle does. -/
def State.rejudge (s : State) (p : Part) : State :=
  let ws := (s.part p).cycs.cfgWrites.filter (fun x => x.1 == s.cyc)
  let refused := ws.filter (·.2.2.2.1)
  let all := ((s.part p).cycs.sets.filter (· == (W1c.wrRej, s.cyc))).length
  let s := s.upd p fun c => { c with cycs.cfgWrites := [], cfg.wrRej := c.cfg.wrRej && !(refused.head?.any (fun x => !x.2.2.2.2) && all == refused.length) }
  ws.foldl (fun s x => s.cfgImageWrite p x.2.1 x.2.2.1) s

/-- A block that has passed its checks in the cycle that ends is put in force (R408, R437), unless a warm reset of the cycle has ended its command
(R422). -/
def State.endConfig (s : State) (p : Part) : State :=
  match (s.part p).cfg.asked with
  | none => s
  | some (ring, idx, b) =>
    let s := s.upd p fun c => { c with cfg.asked := none }
    let s := match p with
      | .tsu => (s.tsuApply b).rejudge .tsu
      | .phi => (s.phiApply b).rejudge .phi
    s.finish p ring idx .ok 0 0

/-- The block in force, or the one to be put in force as the cycle ends. -/
def CfgSt.block (c : CfgSt) : Option (List Byte) := c.inForce <|> c.asked.map (·.2.2)

/-- CFG_LOAD (R407, R408, R422, R437); `block` is what `ADDR` gives. A block that passes is put in force as the cycle ends. -/
def execCfgLoad (p : Part) (ring idx : Nat) (block : List Byte) (s : State) : Result :=
  s.runDesc p ring idx 0x40 anyVariant fun d s =>
    let len := d.pl 8 2
    let b := (padTo len block).take len
    let finish (s : State) (st : Status) (r : Nat) : State := s.finish p ring idx st 0 (BitVec.ofNat 64 r)
    if d.pl 0 8 % 64 ≠ 0 then finish s .badDesc 0
    else
      match (s.part p).cfg.block with
      | some x => if x = b then finish s .ok 0 else finish s .conflict 0
      | none =>
        match blockRefused p len b with
        | some (code, off) =>
          finish (s.upd p fun c => { c with cfg.lastReason := BitVec.ofNat 8 code, cfg.lastOffset := BitVec.ofNat 16 off })
            .cfgRefused (code + 65536 * off)
        | none => s.upd p fun c => { c with cfg.asked := some (ring, idx, b) }

/-- A transition of R418; `true` when it asks for a token. -/
def lcTransition : Nat → Nat → Option Bool
  | 0, 1 => some false
  | 1, 2 => some false
  | 2, 3 => some true
  | 3, 2 => some false
  | 4, _ => none
  | _, 4 => some false
  | _, _ => none

/-- The unique identifier of a part from fuses (R419). -/
def uidOf : Part → W64
  | .tsu => Config.uidTsu
  | .phi => Config.uidPhi

/-- A token serves this change of this part (R419). -/
def State.tokenOk (s : State) (p : Part) (target : Nat) (t : List Byte) : Bool :=
  let t := padTo 128 t
  field t 0 8 == (uidOf p).toNat && field t 8 1 % 8 == target && field t 12 4 == (s.part p).cfg.lcRows
    && edVerify Config.serviceKey (t.take 64) (slice t 64 64)

/-- The status with which a change of the life-cycle state is refused (R418, R419). -/
def State.lcRefused (s : State) (p : Part) (target tokenAddr : Nat) (token : List Byte) : Option Status :=
  let c := (s.part p).cfg
  if target > 4 ∨ tokenAddr % 64 ≠ 0 then some .badDesc
  else if c.lcRows ≥ 31 ∧ target ≠ 4 then some .noSpace
  else
    match lcTransition c.lcState target with
    | none => some .conflict
    | some needs =>
      if p = .tsu ∧ target = 4 ∧ s.meter.storeRecs ≠ 0 then some .conflict
      else if needs && !s.tokenOk p target token then some .badDesc
      else none

/-- LC_CHANGE (R417 to R420, R403): commit, completion, and the reset and dredge that follow. `token` is what `TOKEN_ADDR` gives;
`refOk` and `parityOk` are as at a reset. The spec states no `CAUSE` for the Phidor's descriptors: a free value (log entry 5). -/
def execLcChange (p : Part) (ring idx : Nat) (token : List Byte) (refOk parityOk : Bool) (s : State) : Result :=
  s.runDesc p ring idx 0x41 anyVariant fun d s =>
    let target := d.plBits 0 1 0 3
    match s.lcRefused p target (d.pl 8 8) token with
    | some st => s.finish p ring idx st 0 0
    | none =>
      let s := s.endConfig p
      let s := s.upd p fun c => { c with cfg.lcState := target, cfg.lcRows := c.cfg.lcRows + 1 }
      let s := s.finish p ring idx .ok 0 (BitVec.ofNat 64 target)
      match p with
      | .tsu =>
        let (v, s) := s.takeFree
        s.tsuReset true refOk parityOk 1 (v.setWidth 16)
      | .phi =>
        let (v, s) := s.takeFree
        let s := s.retryFetched .phi (v.setWidth 16)
        let s := if target = 4 then { s with hub.storage.bootCfg := none } else s
        s.chipReset refOk parityOk

end Sys2Proof.Machine
end

