-- ==== Sys2Proof/Machine/Meter.lean ====
section
/-!
DEFINITION. The commands of the sealed meter (R250 to R283, R421, R432).
-/

namespace Sys2Proof.Machine

/-- ADC_SAMPLE (R255, R256, R360): the frame of a sample, and the frame read by the one retry when the first fails, which is counted. A sample that
fails twice is replaced by the previous one and counted; the 257th of an interval records `METER_ADC`. -/
def execAdcSample (frame retry : List Byte) (s : State) : Result :=
  if !s.meter.metering then nothing s
  else
    match (match adcCodes frame with | some c => some c | none => adcCodes retry) with
    | some (v, i) =>
      let again := (adcCodes frame).isNone
      .next (s.mtr fun m =>
        { m.accumulate v i with adcRetries := satNat 32 (m.adcRetries + nb again), lastV := v, lastI := i, clip := m.clip || clipped v || clipped i })
    | none =>
      let s := s.mtr fun m => { m.accumulate m.lastV m.lastI with missed := m.missed + 1 }
      if s.meter.missed = 257 then
        let s := s.mtr fun m => { m with adcFault := true }
        .next ((s.record .tsu .meterAdc 257).mtrLog 0x0A Cause.meterAdc.code 0 257)
      else .next s

/-- METER_INTERVAL_CLOSE (R259, R261): the grid boundary in every time state but `FAULT`, and in `FAULT`, or with the HT word stopped, the
meter clock's; `cycles` is the interval's length and `since` what has passed since the last valid HT word, in meter clock cycles. While the store is
full a grid boundary extends the interval. A non-master's TSU only cuts its table. -/
def execMeterIntervalClose (cycles since : Nat) (s : State) : Result :=
  let m := s.meter
  if !m.runs then nothing s
  else if !m.master then
    whenever s.gridReached s
      ((s.cutTable m.intervalNo).mtr fun m => { m.takeParams s.cyc with intervalNo := m.intervalNo + 1, gridFrom := s.ns .tsu })
  else if s.htStopped then
    whenever (meterNs cycles ≥ 2 ^ m.exp) s (s.closeInterval cycles since false)
  else if !s.gridReached then nothing s
  else if m.storeFull then .next (s.mtr fun m => { m with extended := true, gridFrom := s.ns .tsu })
  else .next (s.closeInterval cycles since false)

/-- INTERVAL_TABLE_HANDOFF (R252, R254, R263): without a table, this TSU hands the oldest table cut to its own section; a
non-master section passes it on over the SPI bus. With a table, it is that of the non-master section at an `MTR_ADDR`, for the interval
of the master that it names. Anything else is ignored and counted. -/
def execIntervalTableHandoff (addr : Nat) (table : Option TableIn) (s : State) : Result :=
  if !s.meter.runs then nothing s
  else
    match table with
    | none =>
      match s.die.cutUses with
      | [] => .next s.mtrReject
      | (no, unbound, uses) :: rest =>
        let t := tableOf no unbound uses
        let s := s.dieUpd fun d => { d with cutUses := rest }
        if s.meter.master then .next (s.mtr fun m => m.takeTable 0 t)
        else .next (s.emit (.spi s.meter.addr t))
    | some t =>
      if s.meter.master && 1 ≤ addr && addr ≤ 7 then
        .next (s.mtr fun m => { m.takeTable addr t with peers := if m.peers.contains addr then m.peers else m.peers ++ [addr] })
      else .next s.mtrReject

/-- INPUT_CUTOFF (R264 to R267, R274): 5 ms after its end the oldest ended interval is allocated and its records written.
`check` is what reads of the store find. -/
def execInputCutoff (check : StoreCheck) (s : State) : Result :=
  if !s.meter.metering then nothing s
  else
    let s := s.storeFault check
    match s.meter.ended with
    | [] => .next s
    | e :: es =>
      if e.closedNs + 5000000 ≤ s.mtrNs then
        .next ((s.mtr fun m => { m with ended := es }).allocate e)
      else .next s

/-- A report of activity units is accepted (R263): they go to the berth that its context was bound to before this cycle, or to the unbound
units; in the cycle of a boundary, in the interval that the boundary ends (R282). -/
def State.activity (s : State) (report : W32) : State :=
  let s := (s.take .tsu 5).count .tsu 0x0801 0 1
  let ctx := report.toNat % 2048
  let units := report.toNat / 2048
  let b := s.reportBerth ctx
  s.dieUpd fun d =>
    if s.cutNow then d.amendCut (addUnits b units)
    else { d with unbound := (addUnits b units d.unbound d.uses).1, uses := (addUnits b units d.unbound d.uses).2 }

/-- ACTIVITY_REPORT (R263, R369): held while the record engine is in reset; discarded and counted during a warm reset. -/
def execActivityReport (report : W32) (s : State) : Result :=
  if s.tsu.cfg.startStep < 3 then .next (s.count .tsu 0x0804 0 1)
  else if (tabGet {} s.tsu.engines 5 : EngineSt).step != 0 then .next (s.holdItem 5 256 (leOf 4 report))
  else .next (s.activity report)

/-- BERTH_BIND (R262, R274). -/
def execBerthBind (ring idx : Nat) (s : State) : Result :=
  s.runDesc .tsu ring idx 0x30 anyVariant fun d s =>
    let core := d.pl 0 2
    let berth := d.plBits 4 4 0 20
    let now := s.ns .tsu
    let at_ := BitVec.ofNat 64 (d.pl 8 8)
    if !s.coreEnabled core then s.finish .tsu ring idx .badDesc 0 0
    else if berth ≠ 0 ∧ s.meterHigh ∧ !s.berthBound berth then s.finish .tsu ring idx .ledgerFull 0 0
    else
      let b : BerthBind := if at_ = 0 ∨ !later at_ now then ⟨berth, now, some s.cyc⟩ else ⟨berth, at_, none⟩
      let s := s.dieUpd fun x =>
        { x with binds := tabMod [] x.binds (8 * core + d.plBits 2 1 0 3) fun l => liveBinds s.cyc now l ++ [b] }
      s.finish .tsu ring idx .ok 0 0

/-- POWER_FAIL (R259, R268, R277): the interval ends with `POWER_FAIL`, `POWER_DOWN` is logged and the open block is sealed
with `POWER_SEAL`. -/
def execPowerFail (cycles since : Nat) (s : State) : Result :=
  whenever s.meter.metering s (((s.closeInterval cycles since true).mtrLog 0x08 0 0 0).takeDraft true)

/-- METER_START (R253, R254, R259, R272): the strap is sampled, ROM and parameters are checked; a section that fails halts.
A master logs `POWER_UP`, has records written but not sealed sealed into blocks with `POWER_SEAL`, writes the `POWER` record
of the gap, which says whether HT restarted in it, and sends every unacknowledged block again. -/
def execMeterStart (strapMaster : Bool) (masters : Nat) (romOk paramOk : Bool) (s : State) : Result :=
  let s := s.mtr fun m => { m with down := false, halted := !(romOk && paramOk), strapMaster := strapMaster, masters := masters }
  let s := if masters = 1 then s else s.record .tsu .meterStrap masters
  let s := if romOk then s else s.record .tsu .meterSelfTest 0
  let s := if paramOk then s else s.record .tsu .meterSelfTest 1
  if !s.meter.metering then .next s
  else
    let now := s.meterLabel 0
    let m := s.meter
    let s := s.mtrLog 0x09 0 0 0
    let s := s.mtr fun m => { m with drafts := m.drafts.map fun d => { d with powerSeal := true } }
    let s := (s.takeDraft true).writeRec
      { kind := 1, flags := 128 + 64 * nb m.htRestart, tq := s.meterTq, startNs := m.startNs, endNs := now, berth := 0, basin := 0,
        eInt := 0, eExp := 0, units := 0, total := 0, share := 0, eCum := m.eCum, eWraps := m.eWraps, us := 0, step := 0,
        digest := [] }
    let s := s.mtr fun m => { m with startNs := now, gridFrom := s.ns .tsu, missed := 0, adcFault := false, clip := false,
                                     extended := false, htRestart := false }
    .next (s.sendBlocks (s.mtrPort false))

/-- TAMPER_OPEN (R280, R447): the loop has been open for 1 ms. The entry is written, and a sealed meter's seal breaks. -/
def execTamperOpen (s : State) : Result :=
  let again := s.meter.tamperOpen
  let s := s.mtr fun m => { m with tamperOpen := true }
  if !s.meter.metering || (again && s.meter.mstate != .meterSealed) then .next s
  else .next (s.breakSeal 0x06 0 0 0)

/-- TAMPER_CLOSE (R280). -/
def execTamperClose (s : State) : Result := .next (s.mtr fun m => { m with tamperOpen := false })

/-- BLOCK_SEAL_TIMER (R268): `MTR_BLOCK_MS` after the first record of the open block was written. -/
def execBlockSealTimer (s : State) : Result :=
  whenever (s.meter.metering && !s.meter.openRecs.isEmpty
      && decide (s.meter.openNs + 1000000 * (s.meter.param 0x11).toNat ≤ s.mtrNs)) s (s.takeDraft false)

/-- BLOCK_SEALED (R269 to R274): the oldest block that is due is chained, signed and sent. -/
def execBlockSealed (check : StoreCheck) (s : State) : Result :=
  whenever s.meter.metering s (s.storeFault check).sealBlock

/-- An acknowledgement up to an `RSEQ` covers a block (R272). -/
def Block.covered (b : Block) (rseq : Nat) : Bool := b.first + b.recs.length ≤ rseq + 1

/-- A queued frame is of a block's transfer. -/
def Block.frameOf (b : Block) (f : Frame) : Bool :=
  match f.pl with
  | .record r => r.rseq == BitVec.ofNat 64 (b.first + b.recs.length - 1)
  | _ => false

/-- What has been queued in this cycle of the transfer of a block that an acknowledgement covers is not sent (R282). -/
def State.dropResends (s : State) (rseq : Nat) : State :=
  let now := s.mtrNs
  let l := s.meter.blocks.filter (fun b => b.covered rseq && b.sentNs == some now)
  s.upd .tsu fun c => { c with ports := c.ports.map fun e =>
    (e.1, { e.2 with queue := e.2.queue.filter (fun f => !l.any (·.frameOf f)) }) }

/-- RECORD_ACK_RECEIVE (R252, R273, R274). -/
def execRecordAckReceive (port : Nat) (e : Env) (f : RecAckPl) (check : StoreCheck) (s : State) : Result :=
  s.onEngine .tsu 5 port e fun s =>
    if !s.meter.runs then s
    else if !s.meter.master then s.mtrReject
    else
      let s := s.storeFault check
      let free (s : State) : State := (s.dropResends f.rseq.toNat).mtr fun m =>
        let gone := m.blocks.filter (·.covered f.rseq.toNat)
        { m with blocks := m.blocks.filter (fun b => !b.covered f.rseq.toNat),
                 ackedRseq := match gone.getLast? with
                   | some b => b.first + b.recs.length - 1
                   | none => m.ackedRseq }
      if f.status = Status.ok.b then free s
      else if f.status = Status.retry.b then
        let s := free s
        s.sendBlocks (s.mtrPort false)
      else if f.status = Status.ledgerFull.b then
        s.mtr fun m => { m with waitUntil := some (s.mtrNs + 1000000 * s.mtrAckMs) }
      else s.mtrReject

/-- RECORD_RESEND_TIMER (R272, R273): the oldest unacknowledged block was sent `MTR_ACK_MS` ago, or the wait after
`LEDGER_FULL` has ended; the blocks are sent again, on the ports alternately. -/
def execRecordResendTimer (s : State) : Result :=
  match s.meter.blocks with
  | [] => nothing s
  | b :: _ =>
    let now := s.mtrNs
    let due : Bool := match s.meter.waitUntil with
      | some t => t ≤ now
      | none => match b.sentNs with
        | some t => t + 1000000 * s.mtrAckMs ≤ now
        | none => true
    if s.meter.metering && due then
      let s := s.mtr fun m => { m with altPort := !m.altPort }
      .next (s.sendBlocks (s.mtrPort s.meter.altPort))
    else nothing s

/-- A parameter's value lies in its range (R275). -/
def paramInRange (master : Bool) (code : Nat) (v : W64) : Bool :=
  let n := v.toNat
  match code with
  | 0x01 | 0x03 => 1 ≤ n && n ≤ 2 ^ 31 - 1
  | 0x02 | 0x04 => v.toInt == (v.setWidth 32).toInt
  | 0x05 => n != 0
  | 0x06 => if master then n == 0 else 1 ≤ n && n ≤ 7
  | 0x10 => 20 ≤ n && n ≤ 30
  | 0x11 => 1 ≤ n && n ≤ 60000
  | 0x12 => n < 2 ^ 32
  | 0x13 => 1 ≤ n && n ≤ 1024
  | _ => false

/-- A parameter change is refused, and logged while the logbook has room, counted in `LOG_LOST` after that (R276, R278). -/
def State.refuseParam (s : State) (ring idx code : Nat) (v : W64) (st : Status) : State :=
  (s.mtrLog 0x0B st.code (s.meter.accepted code).toNat v.toNat).finish .tsu ring idx st 0 0

/-- MTR_PARAM (R254, R275, R276, R278). -/
def execMtrParam (ring idx : Nat) (s : State) : Result :=
  s.runDesc .tsu ring idx 0x31 anyVariant fun d s =>
    let code := d.pl 0 1
    let v := BitVec.ofNat 64 (d.pl 8 8)
    let m := s.meter
    let counted := 0x10 ≤ code
    if !m.runs then s
    else if !m.master ∧ code ≠ 0x06 then s.finish .tsu ring idx .unsupported 0 0
    else if !paramInRange m.master code v then s.finish .tsu ring idx .badDesc 0 0
    else if !m.master then
      (s.mtr fun m => m.acceptParam s.cyc code v).finish .tsu ring idx .ok 0 0
    else if m.logLow then s.refuseParam ring idx code v .noSpace
    else if m.mstate = .meterOpen then
      if code = 0x05 ∧ m.accepted 0x05 ≠ 0 then s.refuseParam ring idx code v .conflict
      else
        let s := s.mtrLog 0x02 code (m.accepted code).toNat v.toNat
        (s.mtr fun m => m.acceptParam s.cyc code v).finish .tsu ring idx .ok 0 0
    else if !counted ∨ m.evtCnt = 2 ^ 32 - 1 then s.refuseParam ring idx code v .meterSealed
    else
      let s := s.mtr fun m => { m.acceptParam s.cyc code v with evtCnt := m.evtCnt + 1 }
      (s.mtrLog 0x01 code (m.accepted code).toNat v.toNat).finish .tsu ring idx .ok 0 0

/-- The 32 bytes of a free value (log entry 5): the meter's random source (R271). -/
def freeKey (v : BitVec 256) : List Byte := leOf 32 v

/-- MTR_STATE to `METER_SEALED`, and the reserved values of `TARGET` (R271, R278, R279, R421). The records of the interval that it closes
belong to the block sealed before the new epoch. -/
def execMtrStateSeal (ring idx cycles since : Nat) (s : State) : Result :=
  s.runDesc .tsu ring idx 0x32 (fun d => d.plBits 0 1 0 2 != 0) fun d s =>
    let m := s.meter
    if d.plBits 0 1 0 2 ≠ 1 then s.finish .tsu ring idx .badDesc 0 0
    else if !m.runs then s
    else if !m.master then s.finish .tsu ring idx .unsupported 0 0
    else if m.mstate ≠ .meterOpen ∨ s.tsu.cfg.lcState ≠ 2 ∨ m.tamperOpen ∨ m.param 0x05 = 0 then
      s.finish .tsu ring idx .conflict 0 0
    else if m.sealEpoch = 65535 ∨ m.logLow then s.finish .tsu ring idx .noSpace 0 0
    else
      let s := ((s.closeInterval cycles since false).cutOffNow.takeDraft false).sealAll
      let (v, s) := s.takeFree
      let s := s.mtr fun m =>
        { m with sealEpoch := m.sealEpoch + 1, evtCnt := 0, key := freeKey v, mstate := .meterSealed, bseq := 0 }
      let s := s.mtrLog 0x03 Config.romId.toNat 0 0
      let s := s.mtrLogAs 0x04 0 (edPublic s.meter.key)
      let s := s.mtr fun m => { m with prevHash := match m.log.getLast? with | some e => sha256 e | none => [] }
      s.finish .tsu ring idx .ok 0 0

/-- MTR_STATE to `METER_OPEN` (R270, R281, R421): re-verification. -/
def execMtrStateOpen (ring idx cycles since : Nat) (s : State) : Result :=
  s.runDesc .tsu ring idx 0x32 (fun d => d.plBits 0 1 0 2 == 0) fun _ s =>
    let m := s.meter
    if !m.runs then s
    else if !m.master then s.finish .tsu ring idx .unsupported 0 0
    else if m.mstate = .meterOpen ∨ ¬(s.tsu.cfg.lcState = 2 ∨ s.tsu.cfg.lcState = 3) ∨ m.storeRecs ≠ 0 then
      s.finish .tsu ring idx .conflict 0 0
    else
      let s := s.closeInterval cycles since false
      let s := s.mtr fun m => { m with mstate := .meterOpen, key := [], bseq := 0, prevHash := zeros 32 }
      (s.mtrLog 0x05 0 0 0).finish .tsu ring idx .ok 0 0

/-- MTR_LOG_READ (R295). -/
def execMtrLogRead (ring idx : Nat) (s : State) : Result :=
  s.runDesc .tsu ring idx 0x33 anyVariant fun d s =>
    let n := d.pl 4 4
    if !s.meter.runs then s
    else if !s.meter.master then s.finish .tsu ring idx .unsupported 0 0
    else if n = 0 ∨ n > 65536 ∨ d.pl 8 8 % 64 ≠ 0 then s.finish .tsu ring idx .badDesc 0 0
    else
      let l := (s.meter.log.drop (d.pl 0 4)).take n
      (s.dma .tsu (d.pl 8 8) l.flatten).finish .tsu ring idx .ok 0 (BitVec.ofNat 64 l.length)

/-- MTR_MIRROR_READ (R432): a read of word 0 latches the meter status block and returns its first word. -/
def execMtrMirrorRead (s : State) : Result :=
  let b := s.meterBlock
  .next ((s.mtr fun m => { m with mirror := b }).emit (.regRead .tsu (BitVec.ofNat 64 (field b 0 4))))

end Sys2Proof.Machine
end

