-- ==== Sys2Proof/Machine/Module.lean ====
section
/-!
DEFINITION. The commands of the PDM-52 module: input supply, present pin and SMBus (R440 to R443). Each SMBus command carries
whether its transaction has a good PEC; without one it is refused.
-/

namespace Sys2Proof.Machine

/-- The converters turn off: a reset of domain MOD (R440, R441, R443). -/
def State.convertersOff (s : State) : State :=
  if s.mdl.convOn then { s with mdl.convOn := false, mdl.heldReset := false }.modulePowerOff else s

/-- The converters start when the module is present, its input is in range and `CTRL` does not hold them off (R440, R441). -/
def State.convertersStart (s : State) : State :=
  { s with mdl.convOn := s.mdl.convOn || (s.mdl.present && s.mdl.inRange && !s.mdl.ctrlOff) }

/-- INPUT_UNDERVOLTAGE (R440): the input falls below 38.0 V. -/
def execInputUndervoltage (mv : Nat) (s : State) : Result :=
  whenever (mv < 38000) s { s with mdl.uv := true, mdl.inRange := false, mdl.ovShut := false }.convertersOff

/-- INPUT_OVERVOLTAGE (R440): the input rises above 62.0 V. -/
def execInputOvervoltage (mv : Nat) (s : State) : Result :=
  whenever (mv > 62000) s { s with mdl.ov := true, mdl.inRange := false, mdl.ovShut := true }.convertersOff

/-- INPUT_RECOVERY (R440, R441): the input has been above 39.5 V for 100 ms, and not above 62.0 V; after a shutdown by overvoltage it must be
below 61.0 V. -/
def execInputRecovery (mv : Nat) (s : State) : Result :=
  whenever (39500 < mv && (mv < 61000 || (!s.mdl.ovShut && mv ≤ 62000)) && s.mdl.present) s
    { s with mdl.inRange := true, mdl.ovShut := false }.convertersStart

/-- PRESENT_PIN_BREAK (R441): the module shuts down at once. -/
def execPresentPinBreak (s : State) : Result := .next { s with mdl.present := false, mdl.inRange := false }.convertersOff

/-- PRESENT_PIN_MATE (R441): the converters start once the input has been in range for 100 ms. -/
def execPresentPinMate (s : State) : Result :=
  whenever (!s.mdl.present) s { s with mdl.present := true, mdl.inRange := false }

/-- Answers an SMBus read, refused without PEC (R443). -/
def State.smbusRead (s : State) (pec : Bool) (data : List Byte) : State := if pec then s.emit (.smbus data) else s

/-- A measured value: 0 while the converters have not started (R443). -/
def State.measured (s : State) (v : List Byte) : List Byte := if s.mdl.convOn then v else zeros v.length

/-- SMBUS_STATUS (R443); `overcurrent` is what the input's current sensor latched. -/
def execSmbusStatus (pec overcurrent : Bool) (s : State) : Result :=
  if !pec then nothing s
  else
    let s := { s with mdl.oc := s.mdl.oc || overcurrent }
    let m := s.mdl
    .next (s.emit (.smbus (leBytes 2
      (packBits [m.convOn, m.uv, m.ov, m.oc, m.heldReset, m.tripLatched, m.present]))))

/-- SMBUS_VIN_MV (R443). -/
def execSmbusVinMv (pec : Bool) (mv : W16) (s : State) : Result := .next (s.smbusRead pec (s.measured (leOf 2 mv)))

/-- SMBUS_IIN_MA (R443). -/
def execSmbusIinMa (pec : Bool) (ma : W16) (s : State) : Result := .next (s.smbusRead pec (s.measured (leOf 2 ma)))

/-- SMBUS_PIN_DW (R443). -/
def execSmbusPinDw (pec : Bool) (dw : W16) (s : State) : Result := .next (s.smbusRead pec (s.measured (leOf 2 dw)))

/-- SMBUS_TEMPS (R443): the Phidor's hottest sensor, memory hottest, inlet, converter. -/
def execSmbusTemps (pec : Bool) (phidor memory inlet converter : Byte) (s : State) : Result :=
  .next (s.smbusRead pec (s.measured [phidor, memory, inlet, converter]))

/-- A write of `CTRL` (R443): bit 0 turns the converters off or on, bit 1 clears the latched faults. -/
def State.ctrlWrite (s : State) (off clear : Bool) : State :=
  let s := if clear then { s with mdl.uv := false, mdl.ov := false, mdl.oc := false, mdl.tripLatched := false } else s
  let s := { s with mdl.ctrlOff := off }
  if off then s.convertersOff else s.convertersStart

/-- SMBUS_CONVERTERS_OFF (R443): `CTRL` with bit 0 set; `clear` is bit 1. -/
def execSmbusConvertersOff (pec clear : Bool) (s : State) : Result := whenever pec s (s.ctrlWrite true clear)

/-- SMBUS_CONVERTERS_ON (R443): `CTRL` with bit 0 clear; `clear` is bit 1. -/
def execSmbusConvertersOn (pec clear : Bool) (s : State) : Result := whenever pec s (s.ctrlWrite false clear)

/-- SMBUS_CLEAR_FAULTS (R355, R443): `CTRL` with bit 1 set; `off` is bit 0. -/
def execSmbusClearFaults (pec off : Bool) (s : State) : Result := whenever pec s (s.ctrlWrite off true)

/-- SMBUS_MODULE_ID (R443). -/
def execSmbusModuleId (pec : Bool) (s : State) : Result :=
  .next (s.smbusRead pec (leOf 12 Config.moduleSerial ++ leOf 4 Config.boardRev))

end Sys2Proof.Machine
end

