-- ==== Sys2Proof/Machine/Resets.lean ====
section
/-!
DEFINITION. The commands of resets and start-up (R365 to R373, R382, R403, R412, R414).
-/

namespace Sys2Proof.Machine

/-- ENGINE_STALL (R371): an engine or unit that holds a request has taken none from its queue for `STALL_US`; it is recorded and the reset of
R372 or R373 starts. Since when it takes none is in the state; the request that it holds is one that the model has not seen (log entry 91). -/
def execEngineStall (p : Part) (engine : Nat) (s : State) : Result :=
  whenever (unitValid p (match p with | .tsu => 4 | .phi => 9) engine && (s.engine p engine).step == 0
      && !(s.engine p engine).outOfService && elapsed (s.ns p) (tabGet 0 (s.part p).took engine) (us (s.stallUs p))) s
    ((s.record p .engineStall engine).engineReset p engine 0x01 none)

/-- A step of an engine's or unit's reset has run out of time: step 1 after 50 us, step 2 after 10 us without power and 50 us with
it, step 3 after 10 ms (R372). -/
def EngineSt.late (e : EngineSt) (now : W64) : Bool :=
  match e.step with
  | 1 => elapsed now e.stepNs (us 50)
  | 2 => elapsed now e.stepNs (us 60)
  | 3 => elapsed now e.stepNs (ms 10)
  | _ => false

/-- ENGINE_RESET_STEP_TIMEOUT (R219, R372, R373): a reset has not completed within its step. `RESET_HUNG` is recorded and the next
step taken: power cycle, TSU warm reset, the request for a die reset. The Phidor holds the unit out of service instead. -/
def execEngineResetStepTimeout (p : Part) (engine : Nat) (refOk parityOk : Bool) (s : State) : Result :=
  let e := s.engine p engine
  let now := s.ns p
  let ext := leBytes 4 (nsDiff now e.beginNs / 1000).toNat
  if !e.late now then nothing s
  else if e.step = 1 then
    .next ((s.recordAs p .resetHung 0 (BitVec.ofNat 32 (engine + 256 * 2)) ext).updEngine p engine fun e =>
      { e with step := 2, stepNs := now })
  else
    match p with
    | .tsu =>
      if e.step = 2 then
        let s := s.record .tsu .resetHung (engine + 256 * 3) ext
        let s := s.updEngine .tsu engine fun e => { e with step := 3, stepNs := now }
        let s := s.tsuReset false refOk parityOk 2 Cause.resetHung.w
        .next (s.updEngine .tsu engine fun _ => { step := 3, stepNs := now, beginNs := e.beginNs })
      else
        let s := s.updEngine .tsu engine fun e => { e with step := 4, stepNs := now }
        .next ((s.upd .tsu fun c => { c with flt.saved := some (engine + 256 * 4, ext, c.time.ht) }).emit .dieReset)
    | .phi =>
      let s := s.record .phi .resetHung (engine + 256 * 3) ext
      let s := s.updEngine .phi engine fun e => { e with step := 0, outOfService := true }
      .next (s.endCtls .phi engine .aborted Cause.resetHung.w)

/-- How many of a ring's last fetched descriptors have not started, without a gap. -/
def Ring.unstarted (r : Ring) : Nat :=
  (r.inflight.reverse.zipIdx.takeWhile (fun e => !e.1.started && e.1.idx == r.fetched - 1 - BitVec.ofNat 32 e.2)).length

/-- The descriptors fetched and not started are fetched again (R370). -/
def Ring.refetch (r : Ring) : Ring :=
  let n := r.unstarted
  let keep := r.inflight.take (r.inflight.length - n)
  match r.inflight.drop (r.inflight.length - n) with
  | [] => r
  | d :: _ => { r with inflight := keep, fetched := d.idx, lastDseq := some (d.dseq - 1) }

/-- The `RING` engine returns (R370): commands in execution complete with `RETRY`, and what they had waiting goes with them. -/
def State.ringReturn (s : State) : State :=
  let s := (s.retryAll .tsu Cause.engineReset.w).upd .tsu fun c =>
    { c with rings := c.rings.map (fun e => (e.1, e.2.refetch)),
             tdc.chans := c.tdc.chans.map (fun e => (e.1, { e.2 with meas := none })),
             ports := c.ports.map (fun e => (e.1, { e.2 with recalRing := none })) }
  s.syncUpd fun y => { y with waiters := y.waiters.filter (fun e => e.2.cmd.isNone) }

/-- Delivers an item held at a breakwater (R369): a doorbell notice of the `RING` engine, a measurement request, by its descriptor, of the
`MEASURE` engine, an activity report or an engine digest of the `RECORD` engine. -/
def State.deliver (s : State) (engine : Nat) (item : List Byte) : State :=
  if engine = 0 then
    s.doorbell .tsu (field item 0 2) (BitVec.ofNat 32 (field item 2 4)) (BitVec.ofNat 32 (field item 6 4))
  else if engine = 4 then
    match s.desc? .tsu (field item 0 2) (field item 2 4) with
    | some d =>
      if d.opcode = 0x06 then s.measure .tsu (field item 0 2) (field item 2 4) d
      else s.linkRecal .tsu (field item 0 2) (field item 2 4) d
    | none => s
  else if item.length = 4 then s.activity (BitVec.ofNat 32 (leNat item))
  else s.takeDigest item

/-- ENGINE_RESET_DONE (R369, R370, R382): an engine or unit reports ready in step 1 or 2: its breakwater opens, the `UNIT_CTRL`
commands that wait complete with `OK`, and what was held is delivered in order. -/
def execEngineResetDone (p : Part) (engine : Nat) (s : State) : Result :=
  let e := s.engine p engine
  if e.step ≠ 1 ∧ e.step ≠ 2 then nothing s
  else
    let s := s.endCtls p engine .ok 0
    let s := if p = .tsu ∧ engine = 0 then s.ringReturn else s
    let s := s.updEngine p engine fun _ => {}
    .next (e.heldItems.foldl (fun s x => s.deliver engine x) s)

/-- TSU_WARM_RESET (R219, R365, R368): the host die's reset controller asks for it; `refOk` and `parityOk` say whether the reference
clock is present and the parity of HT good (R25). The fault cause in a dump, where no fault led to the reset, is not stated: a free
value (log entry 5). -/
def execTsuWarmReset (refOk parityOk : Bool) (s : State) : Result :=
  let (v, s) := s.takeFree
  .next (s.tsuReset false refOk parityOk 1 (v.setWidth 16))

/-- DIE_RESET (R219, R367, R368). -/
def execDieReset (refOk parityOk : Bool) (s : State) : Result :=
  let (v, s) := s.takeFree
  .next (s.tsuReset true refOk parityOk 1 (v.setWidth 16))

/-- CHIP_RESET (R111, R320, R341, R367, R369, R410): a write of `KEY`; every other value is ignored, and a write in a reset lost. -/
def execChipReset (key : W32) (refOk parityOk : Bool) (s : State) : Result :=
  whenever (key == 0x43485052#32 && s.phi.cfg.startStep ≥ 2) s (s.chipReset refOk parityOk)

/-- MODULE_POWER_ON (R14, R367, R414): the converters are on and the Phidor has no power yet. -/
def execModulePowerOn (s : State) : Result :=
  whenever (s.mdl.convOn && !s.mdl.heldReset && s.phi.cfg.startStep == 0) s (s.phiStart { epoch := s.hub.storage.epoch.getD ⟨0, 0⟩ } 1)

/-- DREDGE_DONE (R403, R409, R412, R414): the TSU has dredged, read its fuses and waits for a configuration, which it has after a
warm reset when the held block passes its checks again; the Phidor has read its boot configuration and its ports train, and then
its packages are dredged and the loader is `READY` for a `GO` of the cycle too (R422). -/
def execDredgeDone (p : Part) (s : State) : Result :=
  let step := (s.part p).cfg.startStep
  let now := s.ns p
  match p with
  | .tsu =>
    if step ≠ 2 then nothing s
    else
      let s := s.upd .tsu fun c => { c with engines := [], cfg.startStep := 4, cfg.stepNs := now }
      match s.tsu.cfg.inForce with
      | some b =>
        if (blockRefused .tsu 128 b).isNone then .next { s.tsuApply b with tsu.cycs.cfgKept := some s.cyc }
        else .next (s.upd .tsu fun c => { c with cfg.inForce := none })
      | none => .next s
  | .phi =>
    if step = 1 then .next (s.upd .phi fun c => { c with cfg.startStep := 2, cfg.stepNs := now })
    else if step = 2 then
      let s := { s with phi.cfg.startStep := 3, phi.cfg.stepNs := now, hub.fw.ldrStatus := 1 }
      .next (match s.hub.fw.goNow with
        | some (cyc, image) => if cyc = s.cyc then s.ldrGo image else s
        | none => s)
    else nothing s

/-- UNIT_ENGINE_RESET (R372, R373, R382, R385): the reset begins as the cycle ends, since a stall of the cycle is its trigger. One asked for
while a TSU engine's reset stands at step 3 or 4 is dropped. -/
def execUnitEngineReset (p : Part) (ring idx : Nat) (s : State) : Result :=
  s.runDesc p ring idx 0x43 (fun d => d.pl 1 1 == 4) fun d s =>
    s.unitCtrl p ring idx d fun _ i s =>
      if (s.part p).engines.any (fun e => e.2.step ≥ 3) then s
      else s.updEngine p i fun e => { e with ctls := e.ctls ++ [(ring, idx)], asked := e.step == 0 }

end Sys2Proof.Machine
end

