-- ==== Sys2Proof/Machine/Sync.lean ====
section
/-!
DEFINITION. The commands on flags, tallies and gates (R181 to R219).
-/

namespace Sys2Proof.Machine

/-- FLAG_SET (R185). -/
def execFlagSet (core ctx index : Nat) (s : State) : Result :=
  .next (s.syncRequest (.core core ctx) ⟨0x01, false, index, 0, 0⟩)

/-- FLAG_CLEAR (R185). -/
def execFlagClear (core ctx index : Nat) (s : State) : Result :=
  .next (s.syncRequest (.core core ctx) ⟨0x02, false, index, 0, 0⟩)

/-- FLAG_TEST (R185). -/
def execFlagTest (core ctx index : Nat) (consume : Bool) (s : State) : Result :=
  .next (s.syncRequest (.core core ctx) ⟨0x03, consume, index, 0, 0⟩)

/-- FLAG_WAIT (R185, R194). -/
def execFlagWait (core ctx index : Nat) (consume : Bool) (timeoutUs : Nat) (s : State) : Result :=
  .next (s.syncRequest (.core core ctx) ⟨0x04, consume, index, 0, timeoutUs⟩)

/-- TALLY_ADD (R185, R189). -/
def execTallyAdd (core ctx index : Nat) (operand : W32) (s : State) : Result :=
  .next (s.syncRequest (.core core ctx) ⟨0x10, false, index, operand, 0⟩)

/-- TALLY_READ (R185). -/
def execTallyRead (core ctx index : Nat) (s : State) : Result :=
  .next (s.syncRequest (.core core ctx) ⟨0x11, false, index, 0, 0⟩)

/-- TALLY_WAIT (R185, R187). -/
def execTallyWait (core ctx index : Nat) (operand : W32) (timeoutUs : Nat) (s : State) : Result :=
  .next (s.syncRequest (.core core ctx) ⟨0x12, false, index, operand, timeoutUs⟩)

/-- DG_ARRIVE (R191). -/
def execDgArrive (core ctx gate : Nat) (s : State) : Result :=
  .next (s.syncRequest (.core core ctx) ⟨0x20, false, gate, 0, 0⟩)

/-- DG_ARRIVE_WAIT (R191). -/
def execDgArriveWait (core ctx gate timeoutUs : Nat) (s : State) : Result :=
  .next (s.syncRequest (.core core ctx) ⟨0x21, false, gate, 0, timeoutUs⟩)

/-- DG_WAIT (R185). -/
def execDgWait (core ctx gate : Nat) (operand : W32) (timeoutUs : Nat) (s : State) : Result :=
  .next (s.syncRequest (.core core ctx) ⟨0x22, false, gate, operand, timeoutUs⟩)

/-- HG_ARRIVE_WAIT (R197, R198, R206). -/
def execHgArriveWait (core ctx proxy timeoutUs : Nat) (s : State) : Result :=
  .next (s.syncRequest (.core core ctx) ⟨0x28, false, proxy, 0, timeoutUs⟩)

/-- HG_WAIT (R185). -/
def execHgWait (core ctx proxy : Nat) (operand : W32) (timeoutUs : Nat) (s : State) : Result :=
  .next (s.syncRequest (.core core ctx) ⟨0x29, false, proxy, operand, timeoutUs⟩)

/-- SYNC_WAIT_TIMEOUT (R192, R195): a wait reaches its own limit; no fault is recorded and arrivals stay counted. A die
gate's limit governs where it comes no later; a wait whose condition holds ends with this cycle. -/
def execSyncWaitTimeout (waiter : Nat) (s : State) : Result :=
  match tabGet? s.die.sync.waiters waiter with
  | none => nothing s
  | some x =>
    let gl := if x.sop ∈ dgOps then (s.gate x.index).timeoutUs else 0
    if x.timeoutUs = 0 ∨ !elapsed (s.ns .tsu) x.startNs (us x.timeoutUs) ∨ (gl ≠ 0 ∧ gl ≤ x.timeoutUs)
        ∨ s.waitHolds waiter x then nothing s
    else .next ((s.markTimeout x).failWait waiter .timeout 0)

/-- DG_GATE_TIMEOUT (R192): the gate's limit ends a wait and is recorded. -/
def execDgGateTimeout (waiter : Nat) (s : State) : Result :=
  match tabGet? s.die.sync.waiters waiter with
  | none => nothing s
  | some x =>
    let g := s.gate x.index
    if !(x.sop ∈ dgOps) ∨ g.timeoutUs = 0 ∨ !elapsed (s.ns .tsu) x.startNs (us g.timeoutUs)
        ∨ (x.timeoutUs ≠ 0 ∧ x.timeoutUs < g.timeoutUs) then nothing s
    else .next (((s.markTimeout x).recordGate x.index false (missing g.mask g.arrived)).failWait waiter .timeout
      Cause.gateTimeout.w)

/-- A participant mask as R190 refuses it: empty, or naming a core that is not enabled. -/
def State.badMask (s : State) (m : BitVec 193) : Bool :=
  m == 0 || (List.range 192).any (fun c => m.getLsbD c && !s.coreEnabled c)

/-- GATE_CONFIG (R190). -/
def execGateConfig (ring idx : Nat) (s : State) : Result :=
  s.runDesc .tsu ring idx 0x22 anyVariant fun d s =>
    let g := d.pl 0 1
    let m : BitVec 193 := BitVec.ofNat 193 (d.pl 8 25)
    if s.portClosed 1 then s.finish .tsu ring idx .fenced 0 0
    else if d.pl 4 4 > 100000000 || s.badMask m then s.finish .tsu ring idx .badDesc 0 0
    else if (s.gate g).arrived ≠ 0 ∨ !(s.waitersOn [0x21, 0x22] g).isEmpty then s.finish .tsu ring idx .conflict 0 0
    else
      (s.updGate g fun x => { x with mask := m, timeoutUs := d.pl 4 4, released := 0, arrived := 0, lastNs := s.ns .tsu }).finish
        .tsu ring idx .ok 0 0

/-- A proxy that holds a local arrival or a waiter (R197). -/
def State.proxyBusy (s : State) (p : Nat) : Bool :=
  (s.proxy p).arrived != 0 || !(s.waitersOn [0x28, 0x29] p).isEmpty

/-- PROXY_BIND (R197). -/
def execProxyBind (ring idx : Nat) (s : State) : Result :=
  s.runDesc .tsu ring idx 0x23 (fun d => !d.plBit 41 0) fun d s =>
    let p := d.plBits 0 2 0 10
    let gate := d.plBits 2 2 0 12
    let b := d.plBits 4 2 0 12
    let g := d.pl 6 2
    let m : BitVec 193 := BitVec.ofNat 193 (d.pl 16 25)
    if s.portClosed 1 then s.finish .tsu ring idx .fenced 0 0
    else if d.pl 12 4 = 0 || d.pl 12 4 > 100000000 || s.badMask m then s.finish .tsu ring idx .badDesc 0 0
    else if (s.basin? b).isSome && !s.holds b g then s.finish .tsu ring idx .genStale 0 0
    else if s.purging b then s.finish .tsu ring idx .fenced 0 0
    else if (s.proxy p).bound
        || s.die.sync.proxies.any (fun e => e.2.bound && e.2.basin == b && e.2.gate == gate) then
      s.finish .tsu ring idx .conflict 0 0
    else
      (s.updProxy p fun x =>
        { bound := true, basin := b, gen := g, gate := gate, timeoutUs := d.pl 12 4, mask := m,
          released := BitVec.ofNat 32 (d.pl 8 4), sticky := x.sticky, ops := x.ops, lastNs := s.ns .tsu }).finish
        .tsu ring idx .ok 0 0

/-- PROXY_UNBIND (R197): `PROXY_BIND` with `UNBIND` set. -/
def execProxyUnbind (ring idx : Nat) (s : State) : Result :=
  s.runDesc .tsu ring idx 0x23 (fun d => d.plBit 41 0) fun d s =>
    let p := d.plBits 0 2 0 10
    if s.portClosed 1 then s.finish .tsu ring idx .fenced 0 0
    else if !(s.proxy p).bound then s.finish .tsu ring idx .ok 0 0
    else if s.proxyBusy p then s.finish .tsu ring idx .conflict 0 0
    else (s.updProxy p fun x => { sticky := x.sticky, ops := x.ops, lastNs := s.ns .tsu }).finish .tsu ring idx .ok 0 0

/-- Sets `RELEASED` of a proxy to a use; its local arrivals are gone (R202). -/
def State.setReleased (s : State) (p : Nat) (u : W32) : State :=
  s.updProxy p fun x => { x with released := u, arrived := 0, sentNs := none, sentUse := none, heldFrame := false,
                                 pend := none, pendRegions := none, lastNs := s.ns .tsu }

/-- Applies a new `GATE_RELEASE` to a proxy (R202). -/
def State.applyRelease (s : State) (p gate : Nat) (u : W32) (rb : W64) : State :=
  let x := s.proxy p
  if notBefore x.released u then s
  else if u = x.released + 1 then
    if later (s.ns .tsu) (nsAdd rb (-128)) then
      let s := (s.setReleased p u).updProxy p fun x => { x with sticky := stick x.sticky 6 }
      s.endProxyWaits u (s.proxyWaits p u)
    else s.updProxy p fun x => { x with pend := some (u, rb), pendRegions := none, sentNs := none }
  else
    let s := s.setReleased p u
    (s.endProxyWaits u (s.proxyWaits p u)).record .tsu .gateUseAhead gate

/-- Sets the sticky `BELL_DIFF` of the proxies bound to a gate (R202). -/
def State.markBellDiff (s : State) (b g gate : Nat) : State :=
  ((s.proxiesOf b g).filter (fun p => (s.proxy p).gate == gate)).foldl
    (fun s p => s.updProxy p fun x => { x with sticky := stick x.sticky 7 }) s

/-- The key of a `GATE_RELEASE`, while it is kept (R202). -/
def State.relKey? (s : State) (p : Part) (b g gate : Nat) (use : W32) : Option RelKey :=
  (s.part p).relKeys.find? (fun k => k.basin == b && k.gen == g && k.gate == gate && k.use == use
    && !reached (s.ns p) k.untilNs)

/-- GATE_RELEASE_RECEIVE (R22, R202). -/
def execGateReleaseReceive (port : Nat) (e : Env) (f : GatePl) (s : State) : Result :=
  s.onEngine .tsu 1 port e fun s =>
    let s := s.wakeFast
    let b := e.basin.toNat
    let g := e.gen.toNat
    let gate := f.gate.toNat
    let now := s.ns .tsu
    if !s.holds b g then s.genDrop
    else if !s.tsu.time.expands then s
    else
      let rb := expandStamp now f.relBell
      if !stampNear now rb then s.record .tsu .stampRange port
      else
        match s.relKey? .tsu b g gate f.use with
        | some k => if k.bell = f.relBell then s else s.markBellDiff b g gate
        | none =>
          let s := s.addRelKey .tsu b g gate f.use f.relBell
          let s := s.queueFrame .tsu (otherPort port) e.basin e.gen (.gateRelease f)
          ((s.proxiesOf b g).filter (fun p => (s.proxy p).gate == gate)).foldl (fun s p => s.applyRelease p gate f.use rb) s

/-- GATE_RELEASE_BELL (R202): `RELEASED` takes the use and host waits complete; a core's wait completes with its region's
edge, or here where no edge was settled for its region or driven. -/
def execGateReleaseBell (proxy : Nat) (s : State) : Result :=
  let x := s.proxy proxy
  match x.pend with
  | none => nothing s
  | some (u, rb) =>
    if !reached (s.ns .tsu) rb then nothing s
    else
      let ws := (s.proxyWaits proxy u).filter (fun w =>
        w.1 ≥ 2048 || !(x.pendRegions.getD []).contains (s.regionOf (w.1 / 8))
          || (s.region (s.regionOf (w.1 / 8))).fired != some rb)
      .next ((s.setReleased proxy u).endProxyWaits u ws)

/-- PROXY_BACKSTOP_TIMEOUT (R205). -/
def execProxyBackstopTimeout (proxy : Nat) (s : State) : Result :=
  let x := s.proxy proxy
  match x.sentNs with
  | none => nothing s
  | some t =>
    if !elapsed (s.ns .tsu) t (us (x.timeoutUs + 100)) then nothing s
    else
      let ws := (s.waitersOn [0x28, 0x29] proxy).map (·.1)
      let s := (s.failWaits .timeout Cause.gateTimeout.w ws).updProxy proxy fun x =>
        { x with arrived := 0, sentNs := none, sticky := stick x.sticky 4, lastNs := s.ns .tsu }
      .next (s.recordGate x.gate true 0xFF)

/-- GATE_ARRIVE_HOLD_END (R206). -/
def execGateArriveHoldEnd (proxy : Nat) (s : State) : Result :=
  let x := s.proxy proxy
  whenever (x.heldFrame && !s.anyAbortWithin x.basin (us 60)) s (s.sendArrive proxy)

/-- SYNC_OP (R183, R208). -/
def execSyncOp (ring idx : Nat) (s : State) : Result :=
  s.runDesc .tsu ring idx 0x24 anyVariant fun d s =>
    if d.pl 16 8 % 8 ≠ 0 then s.finish .tsu ring idx .badDesc 0 0
    else s.syncRequest (.host ring idx (d.pl 16 8))
      ⟨d.pl 0 1, d.plBit 1 0, d.pl 2 2, BitVec.ofNat 32 (d.pl 4 4), d.pl 8 4⟩

/-- REMOTE_SIGNAL (R209 to R212): the 16 bytes of the signal, and for a separate write the number of packets that the data
mover has written of the transfer. While all entries are in use a separate-write signal is not accepted, and so not judged. -/
def execRemoteSignal (bytes : List Byte) (written : Nat) (s : State) : Result :=
  let sep := (byteAt bytes 1).getLsbD 0
  let e : PendEntry := { sop := field bytes 0 1, index := field bytes 2 2, operand := BitVec.ofNat 32 (field bytes 4 4),
                         sender := BitVec.ofNat 16 (field bytes 8 2), tag := BitVec.ofNat 16 (field bytes 10 2),
                         pkts := field bytes 12 4, written := written, sinceNs := s.ns .tsu, lastNs := s.ns .tsu }
  if s.portClosed 1 then .next ((s.count .tsu 0x0804 0 1).emit (.moverAnswer Status.fenced.b))
  else if sep && s.freePend.isNone then .next (s.syncUpd fun y => { y with pendFull := y.pendFull ++ [e] })
  else .next (s.acceptSignal e sep)

/-- DATA_MOVER_PACKET_REPORT (R212): the count of a transfer; entries that it completes are applied and freed. -/
def execDataMoverPacketReport (sender tag : W16) (written : Nat) (s : State) : Result :=
  let mine (e : PendEntry) : Bool := e.sender == sender && e.tag == tag
  let s := s.syncUpd fun y =>
    { y with pend := y.pend.map (fun x => if mine x.2 then (x.1, { x.2 with written := written, lastNs := s.ns .tsu }) else x),
             pendFull := y.pendFull.map (fun x => if mine x then { x with written := written } else x) }
  .next ((s.die.sync.pend.filter (fun x => mine x.2 && written ≥ x.2.pkts)).foldl
    (fun s x => (s.applySignal x.2).freePendAt x.1) s)

/-- PEND_TIMEOUT (R213). -/
def execPendTimeout (entry : Nat) (s : State) : Result :=
  match tabGet? s.die.sync.pend entry with
  | none => nothing s
  | some e =>
    if !elapsed (s.ns .tsu) e.sinceNs (us s.pendTimeoutUs) then nothing s
    else
      let s := s.record .tsu .flagOrphan (e.sender.toNat + 65536 * e.tag.toNat)
        (leBytes 2 e.index ++ leBytes 2 (if e.sop = 0x10 then 1 else 0) ++ leBytes 4 e.pkts ++ leBytes 4 e.written)
      let s := if e.sop = 0x01 then s.updFlag e.index fun o => { o with sticky := stick o.sticky 7 }
        else s.updTally e.index fun o => { o with sticky := stick o.sticky 7 }
      .next (s.freePendAt entry)

/-- A wait record of an object-set image (R215). -/
def State.waitRecord (s : State) (core ctx : Nat) : List Byte :=
  match tabGet? s.die.sync.waiters (8 * core + ctx) with
  | none => zeros 16
  | some w =>
    let sop := if w.sop = 0x28 then 0x29 else if w.sop = 0x21 then 0x22 else w.sop
    let index := if w.sop = 0x04 then w.index % 48 else if w.sop = 0x12 then w.index % 16 else w.index
    leBytes 1 sop ++ leBytes 1 (if w.consume then 1 else 0) ++ leBytes 2 index ++ leOf 4 w.operand ++ leBytes 4 (s.leftUs w)
      ++ zeros 4

/-- The object-set image of a core (R215). -/
def State.objectImage (s : State) (core tag : Nat) : List Byte :=
  let flags := (List.range 48).map (fun i => s.flag (48 * core + i))
  let tallies := (List.range 16).map (fun i => s.tally (16 * core + i))
  let modes (l : List Nat) : Nat := l.foldr (fun m acc => m + 4 * acc) 0
  let body := leBytes 1 1 ++ zeros 1 ++ leBytes 2 core ++ leBytes 4 tag ++ leBytes 6 (packBits (flags.map (·.value))) ++ zeros 2
    ++ leBytes 12 (modes (flags.map (·.mode))) ++ leBytes 4 (modes (tallies.map (·.mode)))
    ++ tallies.flatMap (fun t => leOf 4 t.value) ++ tallies.flatMap (fun t => leOf 4 t.lastWait)
    ++ tallies.flatMap (fun t => leBytes 4 t.window) ++ (List.range 8).flatMap (fun i => s.waitRecord core i) ++ zeros 28
  body ++ leOf 4 (crc32c body)

/-- The core whose objects a pending entry targets. -/
def PendEntry.core (e : PendEntry) : Nat := if e.sop = 0x01 then e.index / 48 else e.index / 16

/-- An object takes the contents of another (R214, R216): its count of operations goes on, and its last change is now where its contents
change (R217). -/
def FlagObj.load (o x : FlagObj) (now : W64) : FlagObj :=
  { x with ops := o.ops, lastNs := if o.value = x.value ∧ o.mode = x.mode then o.lastNs else now }

/-- A tally takes the contents of another (R214, R216, R217). -/
def TallyObj.load (o x : TallyObj) (now : W64) : TallyObj :=
  { x with ops := o.ops, lastNs :=
    if o.value = x.value ∧ o.mode = x.mode ∧ o.lastWait = x.lastWait ∧ o.window = x.window then o.lastNs else now }

/-- CTX_SAVE (R193, R214, R215): operations of the same cycle come first, so that a flag that is set goes to the context that consumes it. -/
def execCtxSave (ring idx : Nat) (s : State) : Result :=
  s.runDesc .tsu ring idx 0x25 anyVariant fun d s =>
    let c := d.pl 0 2
    if s.portClosed 1 then s.finish .tsu ring idx .fenced 0 0
    else if !s.coreEnabled c || d.pl 8 8 % 64 ≠ 0 then s.finish .tsu ring idx .badDesc 0 0
    else if s.die.sync.pend.any (fun e => e.2.core == c) || s.die.sync.unloaded.contains c then
      s.finish .tsu ring idx .conflict 0 0
    else
      let s := (List.range 48).foldl (fun s i => s.serveTakers (48 * c + i)) s
      let s := (List.range 16).foldl (fun s i => s.settleTally (16 * c + i)) s
      let img := s.objectImage c (d.pl 4 4)
      let s := s.syncUpd fun y =>
        { y with waiters := y.waiters.filter (fun e => e.1 ≥ 2048 || e.1 / 8 != c),
                 flags := y.flags.map (fun e => if e.1 / 48 = c then (e.1, e.2.load {} (s.ns .tsu)) else e),
                 tallies := y.tallies.map (fun e => if e.1 / 16 = c then (e.1, e.2.load {} (s.ns .tsu)) else e),
                 unloaded := c :: y.unloaded }
      (s.dma .tsu (d.pl 8 8) img).finish .tsu ring idx .ok 0 0

/-- Loads an object-set image into a core (R216). -/
def State.loadImage (s : State) (c : Nat) (img : List Byte) : State :=
  let flag (i : Nat) : FlagObj := { value := (byteAt img (8 + i / 8)).getLsbD (i % 8), mode := field img (16 + i / 4) 1 / 4 ^ (i % 4) % 4 }
  let tally (i : Nat) : TallyObj := { value := BitVec.ofNat 32 (field img (32 + 4 * i) 4),
                                      lastWait := BitVec.ofNat 32 (field img (96 + 4 * i) 4), window := field img (160 + 4 * i) 4,
                                      mode := field img (28 + i / 4) 1 / 4 ^ (i % 4) % 4 }
  let wait (i : Nat) : Waiter :=
    let o := 224 + 16 * i
    let sop := field img o 1
    let idx := field img (o + 2) 2
    { sop := sop, consume := (byteAt img (o + 1)).getLsbD 0,
      index := if sop = 0x04 then 48 * c + idx else if sop = 0x12 then 16 * c + idx else idx,
      operand := BitVec.ofNat 32 (field img (o + 4) 4), timeoutUs := field img (o + 8) 4, startNs := s.ns .tsu, cmd := none }
  s.syncUpd fun y =>
    { y with flags := (List.range 48).foldl (fun t i => tabMod {} t (48 * c + i) (fun o => o.load (flag i) (s.ns .tsu))) y.flags,
             tallies := (List.range 16).foldl (fun t i => tabMod {} t (16 * c + i) (fun o => o.load (tally i) (s.ns .tsu))) y.tallies,
             waiters := (List.range 8).foldl (fun t i => if (wait i).sop = 0 then t else tabSet t (8 * c + i) (wait i)) y.waiters,
             unloaded := y.unloaded.filter (· != c) }

/-- A restored gate wait that is already satisfied, or whose gate use was cancelled, ends (R216). -/
def State.rearm (s : State) (k : Nat) : State :=
  match tabGet? s.die.sync.waiters k with
  | none => s
  | some w =>
    if w.sop ∈ dgOps then s.serveGate w.index
    else if w.sop ∉ hgOps then s
    else
      let x := s.proxy w.index
      if x.cancelled = some w.operand ∧ !notBefore x.released w.operand then s.failWait k .aborted x.cancelCause
      else s.endProxyWaits x.released ((s.proxyWaits w.index x.released).filter (fun e => e.1 == k))

/-- CTX_RESTORE (R185, R216): with the image read from `IMG_ADDR`. Every wait on the flags and tallies loaded is judged, the host's too. -/
def execCtxRestore (ring idx : Nat) (img : List Byte) (s : State) : Result :=
  s.runDesc .tsu ring idx 0x26 anyVariant fun d s =>
    let c := d.pl 0 2
    if s.portClosed 1 then s.finish .tsu ring idx .fenced 0 0
    else if !s.coreEnabled c || d.pl 8 8 % 64 ≠ 0 || field img 380 4 ≠ (crc32c (img.take 380)).toNat || field img 0 1 ≠ 1
        || (List.range 64).any (fun i => field img (16 + i / 4) 1 / 4 ^ (i % 4) % 4 == 3)
        || (List.range 16).any (fun i => field img (160 + 4 * i) 4 ≥ 2 ^ 31) then s.finish .tsu ring idx .badDesc 0 0
    else if !s.die.sync.unloaded.contains c then s.finish .tsu ring idx .conflict 0 0
    else
      let s := s.loadImage c img
      let s := (List.range 48).foldl (fun s i => s.serveFlag (48 * c + i)) s
      let s := (List.range 16).foldl (fun s i => s.serveTally (16 * c + i)) s
      let s := (List.range 8).foldl (fun s i => s.rearm (8 * c + i)) s
      s.finish .tsu ring idx .ok 0 0

/-- Clears the sticky bits of an object (R218). -/
def State.clearSticky (s : State) (kind i : Nat) : State :=
  match kind with
  | 0 => s.updFlag i fun o => { o with sticky := 0 }
  | 1 => s.updTally i fun o => { o with sticky := 0 }
  | 2 => s.updGate i fun o => { o with sticky := 0 }
  | 3 => s.updProxy i fun o => { o with sticky := 0 }
  | _ => s

/-- The index range of a kind holds a range of view entries (R218). -/
def viewRange (kind first count : Nat) : Bool :=
  match kind with
  | 0 => first + count ≤ 9216
  | 1 => first + count ≤ 3072
  | 2 => first + count ≤ 256
  | 3 => first + count ≤ 1024
  | 4 => first + count ≤ 256
  | 5 => first + count ≤ 1536 || (2048 ≤ first && first + count ≤ 2304)
  | _ => false

/-- SYNC_VIEW (R217, R218). -/
def execSyncView (ring idx : Nat) (s : State) : Result :=
  s.runDesc .tsu ring idx 0x27 anyVariant fun d s =>
    let kind := d.plBits 0 1 0 3
    let first := d.pl 2 2
    let count := d.pl 4 2
    if s.portClosed 1 then s.finish .tsu ring idx .fenced 0 0
    else if count = 0 || count > 4096 || d.pl 8 8 % 64 ≠ 0 || !viewRange kind first count then s.finish .tsu ring idx .badDesc 0 0
    else
      let items := (List.range count).map (· + first)
      let s := s.dma .tsu (d.pl 8 8) (items.flatMap (fun i => s.viewEntry kind i))
      let s := if d.plBit 0 7 then items.foldl (fun s i => s.clearSticky kind i) s else s
      s.finish .tsu ring idx .ok 0 0

/-- SYNC_DUMP (R219): the address lies in payload bytes 8 to 15 (log entry 15). -/
def execSyncDump (ring idx : Nat) (s : State) : Result :=
  s.runDesc .tsu ring idx 0x28 anyVariant fun d s =>
    if s.portClosed 1 then s.finish .tsu ring idx .fenced 0 0
    else if d.pl 8 8 % 64 ≠ 0 then s.finish .tsu ring idx .badDesc 0 0
    else (s.syncDump (d.pl 8 8) 0 0).finish .tsu ring idx .ok 0 0

end Sys2Proof.Machine
end

