-- ==== Sys2Proof/Machine/Timeout.lean ====
section
/-!
DEFINITION. Time limits of commands (R294, R300, R374).
-/

namespace Sys2Proof.Machine

/-- The default time limit of an opcode in ms; none where the command's payload carries its own, as that of a `SYNC_OP` that waits does
(R294). -/
def defaultLimit (opcode : Nat) (waits : Bool) : Option Nat :=
  if opcode = 0x06 ∨ (opcode = 0x24 ∧ waits) then none
  else if opcode = 0x11 then some 2000
  else if opcode = 0x12 then some 200
  else if opcode = 0x41 then some 5000
  else if [0x04, 0x15, 0x32, 0x42, 0x43].contains opcode then some 1000
  else if [0x10, 0x17, 0x28, 0x31, 0x33, 0x40].contains opcode then some 100
  else some 10

/-- The time limit of a descriptor in ms: `TIMEOUT_MS`, or the opcode's default when it is 0 (R300). -/
def Desc.limit (d : Desc) : Option Nat :=
  match defaultLimit d.opcode (waitOps.contains (d.pl 0 1)) with
  | none => none
  | some n => some (if d.timeoutMs = 0 then n else d.timeoutMs)

/-- What a command that waits leaves behind goes with it (R300, R398): its patch, its latch, the return of a unit, its place at a
recalibration or an engine reset. A recalibration and a destruction run on, and so does an engine reset, which nothing can undo
(DESIGN CHOICE, log entry 86). -/
def State.forgetCommand (s : State) (p : Part) (ring idx : Nat) : State :=
  let s := s.dropDeadPatches
  s.upd p fun c =>
    { c with gov.returns := c.gov.returns.filter (fun r => !(r.ring == ring && r.idx == idx)),
             tdc.chans := c.tdc.chans.map (fun e => (e.1, { e.2 with ret := e.2.ret.filter (· != (ring, idx)) })),
             cnt.pending := c.cnt.pending.filter (fun x => x.ring != some (ring, idx)),
             ports := c.ports.map (fun e => (e.1, if e.2.recalRing = some (ring, idx) then { e.2 with recalRing := none } else e.2)),
             engines := c.engines.map (fun e => (e.1, { e.2 with ctls := e.2.ctls.filter (· != (ring, idx)) })) }

/-- Records `CMD_TIMEOUT` for a descriptor (R366, R374); `unit` is the engine or unit that ran it. -/
def State.recordTimeout (s : State) (p : Part) (ring : Nat) (d : Desc) (unit : Nat) : State :=
  s.record p .cmdTimeout (ring % 4096 + 2 ^ 24 * d.opcode) (leOf 8 d.dseq ++ leOf 4 d.tag ++ leBytes 1 unit)

/-- An engine, a unit or a firmware core can run a command (R374): the engine of the TSU that R370 gives it; a hardware unit of the Phidor, or a
firmware core in service, which is coded 8 + core (DESIGN CHOICE, log entry 90). -/
def State.canRun (s : State) (p : Part) (op n : Nat) : Bool :=
  match p with
  | .tsu => n == engineOf op
  | .phi => if n < 8 then unitValid .phi 9 n else s.hub.fw.writers.contains (n - 8)

/-- COMMAND_TIMEOUT (R300, R354, R374): a command's time limit passes. It completes with `TIMEOUT` and is cancelled; `hung` names the engine,
unit or firmware core that does not confirm the cancellation. A handover fails as R354 says. What ran a command of the Phidor is not stated
otherwise: a free value (log entry 5). -/
def execCommandTimeout (p : Part) (ring idx : Nat) (hung : Option Nat) (s : State) : Result :=
  match s.desc? p ring idx with
  | none => nothing s
  | some d =>
    match d.limit with
    | none => nothing s
    | some limit =>
      if !(d.started && elapsed (s.ns p) d.startNs (ms limit)) then nothing s
      else
        let (v, s) := s.takeFree
        let s := s.recordTimeout p ring d (match p, hung with
          | .tsu, _ => engineOf d.opcode
          | .phi, some n => n
          | .phi, none => v.toNat % 256)
        match p, d.opcode, s.hub.fw.handover with
        | .phi, 0x42, some h => .next (s.handoverFails h)
        | _, _, _ =>
          let s := (s.finish p ring idx .timeout Cause.cmdTimeout.w 0).forgetCommand p ring idx
          match hung with
          | some n => .next (if s.canRun p d.opcode n then s.upd p fun c => { c with hung := c.hung ++ [(n, c.time.ns)] } else s)
          | none => .next s

/-- As a cycle ends: what has not confirmed a cancellation within 50 us is reset, and the watchdog of a firmware core that has not done so
within 10 ms fires (R374). -/
def State.endCancels (s : State) (p : Part) : State :=
  let gone (x : Nat × W64) : Bool := elapsed (s.ns p) x.2 (if x.1 < 8 then us 50 else ms 10)
  let l := (s.part p).hung
  if l.isEmpty then s
  else
    let s := s.upd p fun c => { c with hung := l.filter (fun x => !gone x) }
    (l.filter gone).foldl (fun s x => if x.1 < 8 then s.engineReset p x.1 0x02 none else s.fwWatchdog [x.1 - 8]) s

end Sys2Proof.Machine
end

