-- ==== Sys2Proof/Machine/WeighPhi.lean ====
section
/-!
DEFINITION. The weighbridge commands of a Phidor (R230, R232, R242, R243).
-/

namespace Sys2Proof.Machine

/-- WB_DATA_RECEIVE (R230 to R237, R239, R240, R246). `check` is a check of a lane, or of the rounding, that failed meanwhile. -/
def execWbDataReceive (port : Nat) (e : Env) (f : WbPl) (check : Option LaneCheck) (s : State) : Result :=
  s.onEngine .phi 6 port e fun s => s.wbData port e.basin.toNat e.gen.toNat f check

/-- The ports down which a passing result frame goes (R232): a gathered data or residue chunk towards the die that its header
names, everything else to every member port. -/
def State.passPorts (s : State) (b g : Nat) (f : WbPl) : List Nat :=
  let code := f.fmt.toNat % 16
  let ctl := f.fmt.toNat / 16 == 15
  let gath :=
    if ctl then code == 0xD && ((s.op? b g f.opid).any (fun o => gathered o.wbop) || s.hub.gatherSeen.contains (b, g, f.opid))
    else gathered (f.fmt.toNat / 16)
  if gath then
    (((s.pathMembers b g).filter (fun m => m.die == field f.data 0 2)).map (·.port)).take 1
  else s.memberPorts b g

/-- A result chunk of a gathered operation of which no context is held here is remembered, so that its residue chunks are known as
gathered too (R232). -/
def State.noteGathered (s : State) (b g : Nat) (f : WbPl) : State :=
  if gathered (f.fmt.toNat / 16) && (s.op? b g f.opid).isNone && !s.hub.gatherSeen.contains (b, g, f.opid) then
    s.hubUpd fun h => { h with gatherSeen := (b, g, f.opid) :: h.gatherSeen }
  else s

/-- WB_RESULT_FORWARD (R230, R232, R242): down the plane; a `CLOSED` frees the context it passes. -/
def execWbResultForward (port : Nat) (e : Env) (f : WbPl) (s : State) : Result :=
  if e.up then nothing s
  else
    s.onEngine .phi 6 port e fun s =>
      let b := e.basin.toNat
      let g := e.gen.toNat
      let ports := s.passPorts b g f
      let s := if f.fmt = 0xFE then s.freeOp b g f.opid else s.noteGathered b g f
      s.sendBasin ports b g (.wbResult f)

/-- RELAYED_CLOSED_RECEIVE (R230, R242): an intermediate Phidor frees its context and forwards it up; the sequencing Phidor
closes on it. -/
def execRelayedClosedReceive (port : Nat) (e : Env) (f : WbPl) (s : State) : Result :=
  if !e.up || f.fmt ≠ 0xFE then nothing s
  else
    s.onEngine .phi 6 port e fun s =>
      let b := e.basin.toNat
      let g := e.gen.toNat
      if s.sequences b g then
        match s.op? b g f.opid with
        | some o => if o.opened then s.closeOp o else s
        | none => s
      else (s.freeOp b g f.opid).sendBasin [s.uplink] b g (.wbResult f)

/-- A `WB_ACK` at a Phidor: forwarded up, or handled at the sequencing Phidor where it holds the operation open. -/
def State.onWbAck (s : State) (port : Nat) (e : Env) (f : WbAckPl) (kind : Bool) (k : OpCtx → State → State) : Result :=
  if !kind then nothing s
  else
    s.onEngine .phi 6 port e fun s =>
      let b := e.basin.toNat
      let g := e.gen.toNat
      if s.sequences b g then
        match s.op? b g f.opid with
        | some o => if o.opened then k o s else s
        | none => s
      else s.sendBasin [s.uplink] b g (.wbAck f)

/-- WB_ACK_OK (R242): with the acknowledgements of every member of its step the operation closes at the end of the cycle, since a
`WB_ACK` `PARITY` of the same cycle keeps it open (R247). -/
def execWbAckOk (port : Nat) (e : Env) (f : WbAckPl) (s : State) : Result :=
  s.onWbAck port e f (f.status == Status.ok.b) fun o s =>
    let o := { o with acks := if o.acks.contains f.origin.toNat then o.acks else o.acks ++ [f.origin.toNat] }
    s.setOp { o with full := o.ranks.all o.acks.contains }

/-- Serves one retained chunk of a re-fetch (R243): from the first mirror copy that passes, or `FAILED`. -/
def State.serveKept (s : State) (o : OpCtx) (n : Nat) (bad : List Nat) (k : Kept) : State :=
  if k.bad || bad.contains k.chunk then s.sendFailed o (s.resultPorts o k.die) .wbResultBad k.chunk 1
  else s.sendResult o (s.resultPorts o k.die) k.chunk o.fmt (k.chunk + 1 == n) k.inexact k.ovf k.data

/-- The residue chunks of a re-fetch (R240, R243), over the retained chunks that it sends. -/
def State.serveResidues (s : State) (o : OpCtx) (die : Option Nat) (sent : List Kept) (n : Nat) : State :=
  let per := if die.isSome then 20 else 24
  ((sent.map (fun k => (k.chunk / 2 / per, k.chunk % 2))).eraseDups).foldl (fun s kp =>
    s.sendResidueChunk o die sent n kp.1 kp.2) s

/-- WB_ACK_PARITY (R243): the retained result is sent again, to every member or to the die that asks; `bad0` and `bad1` are the
chunks whose mirror copies fail their checks. -/
def execWbAckParity (port : Nat) (e : Env) (f : WbAckPl) (bad0 bad1 : List Nat) (s : State) : Result :=
  s.onWbAck port e f (f.status == Status.parity.b) fun o s =>
    let n := resultChunks o.wbop o.efmt o.len
    let die := if gathered o.wbop then some f.origin.toNat else none
    let kept := o.kept.filter (fun k => k.die == die)
    let bad := bad0.filter bad1.contains
    let lost := kept.filter (fun k => !k.bad && bad.contains k.chunk)
    let s := if lost.isEmpty then s else s.wbFault o .wbResultBad
    let o := { o with refetches := o.refetches + 1, acks := o.acks.filter (· != f.origin.toNat), full := false,
                      kept := o.kept.map (fun k => if k.die == die && bad.contains k.chunk then { k with bad := true } else k),
                      failed := (o.failed ++ lost.map (·.chunk)).eraseDups }
    let s := kept.foldl (fun s k => s.serveKept o n bad k) (s.setOp o)
    s.serveResidues o die (kept.filter (fun k => !(k.bad || bad.contains k.chunk))) n

end Sys2Proof.Machine
end

