-- ==== Sys2Proof/Machine/WeighTsu.lean ====
section
/-!
DEFINITION. The weighbridge commands of the TSU (R224 to R229, R241 to R246).
-/

namespace Sys2Proof.Machine

/-- Queues the chunks of a contribution on both ports (R228, R229). -/
def State.sendContrib (s : State) (o : WbOp) : State :=
  let n := contribChunks o.wbop o.fmt o.len
  let frame (c : Nat) : Payload :=
    .wbData { opid := o.opid, chunk := BitVec.ofNat 16 c, fmt := fmtByte o.wbop o.fmt, last := c + 1 == n, acc := false,
              inexact := false, ovf := false, data := contribData o.wbop o.fmt o.len s.dieNum.toNat o.data c }
  [0, 1].foldl (fun s port =>
    (chunkOrder n port (!fp64Sum o.wbop o.fmt)).foldl (fun s c =>
      s.queueFrame .tsu port (BitVec.ofNat 12 o.basin) (BitVec.ofNat 16 o.gen) (frame c)) s) s

/-- An operation from the 48 bytes of a contribution request (R224). -/
def wbRequest (req : List Byte) (data : List Byte) (now : W64) (bell : W32) : WbOp :=
  { wbop := field req 0 1, fmt := field req 1 1 % 16, len := field req 2 2 % 8192, basin := field req 4 2 % 4096,
    gen := field req 6 2, step := BitVec.ofNat 48 (field req 8 6), bell := bell,
    opid := BitVec.ofNat 32 (field req 8 3 * 256 + field req 14 1), fen := (byteAt req 15).getLsbD 0, flag := field req 16 2,
    dst := field req 32 8, cpl := field req 40 8, acceptNs := now, data := data }

/-- The status of a contribution request, by the table of R225; the breakwater of R369 comes first. -/
def State.judgeWb (s : State) (o : WbOp) (src : Nat) : Status :=
  if s.portClosed 3 then .fenced
  else if !comboOk o.wbop o.fmt || o.len = 0 || o.len > 4096 || src % 64 ≠ 0 || o.dst % 64 ≠ 0 || o.cpl % 16 ≠ 0
      || (o.fen && (o.flag ≥ 9216 || !s.coreEnabled (o.flag / 48))) then .badDesc
  else
    match s.basin? o.basin with
    | none => .fenced
    | some x =>
      if x.purging then .fenced
      else if x.gen ≠ o.gen then .genStale
      else if !x.strobed.any (fun y => y.1 == o.step) then .badDesc
      else if o.step ∈ x.undone then .aborted
      else if (s.wbOp? o.basin o.gen o.opid).isSome then .conflict
      else if s.die.wbOps.length ≥ 64 then .noSpace
      else .ok

/-- The L of a strobed step. -/
def State.strobedL (s : State) (b : Nat) (step : StepNo) : W64 :=
  match s.basin? b with
  | some x => (match x.strobed.find? (fun y => y.1 == step) with | some y => y.2 | none => 0)
  | none => 0

/-- Judges a contribution request and, on `OK`, opens the operation and sends its chunks, which wait for 60 us after an
abort of a lower step (R225, R226, R246). -/
def State.submitWb (s : State) (req data : List Byte) : Status × State :=
  let o0 := wbRequest req data (s.ns .tsu) 0
  let o := { o0 with bell := shortStamp (s.strobedL o0.basin o0.step) }
  let st := s.judgeWb o (field req 24 8)
  if st = .ok then
    let s := (s.count .tsu 0x0601 0 1).dieUpd fun d => { d with wbOps := d.wbOps ++ [o] }
    let s := s.writeWb o .pending 0
    if s.abortWithin o.basin o.step (us 60) then
      (st, s.dieUpd fun d =>
        { d with wbHolds := d.wbHolds ++ [{ basin := o.basin, gen := o.gen, step := o.step, opid := o.opid }] })
    else (st, (s.sendContrib o).wbSent)
  else (st, s.writeWb o st 0)

/-- WB_SUBMIT (R224 to R226): from a core, with the 48 bytes of its request, or from the descriptor that carries them; `data`
is the contribution read from `SRC_ADDR`. An accepted descriptor completes at the end of the cycle, since an `ABORT` of the same cycle
comes first (R247). -/
def execWbSubmit (desc : Option (Nat × Nat)) (req data : List Byte) (s : State) : Result :=
  match desc with
  | none => .next ((s.take .tsu 3).submitWb req data).2
  | some (ring, idx) =>
    s.runDesc .tsu ring idx 0x29 anyVariant fun d s =>
      let req := slice d.bytes 16 48
      let o := wbRequest req data 0 0
      let (st, s) := s.submitWb req data
      if st = .ok then s.dieUpd fun d => { d with wbJudged := d.wbJudged ++ [(ring, idx, o.basin, o.gen, o.opid)] }
      else s.finish .tsu ring idx st 0 0

/-- Closes an operation at the TSU (R242): `OK`, and the `CLOSED` is relayed once up the other port. -/
def State.closeWb (s : State) (o : WbOp) (port : Nat) : State :=
  let s := s.dieUpd fun d =>
    { d with wbOps := d.wbOps.filter (fun x => !(x.basin == o.basin && x.gen == o.gen && x.opid == o.opid)) }
  (s.writeWb o .ok 0).queueFrame .tsu (otherPort port) (BitVec.ofNat 12 o.basin) (BitVec.ofNat 16 o.gen)
    (.wbResult { opid := o.opid, chunk := 0, fmt := 0xFE, last := false, acc := false, inexact := false, ovf := false,
                 data := zeros 24 })

/-- The `CLOSED` frames that have come for operations that are ready are applied, at the end of the cycle (R242): an `ABORT` of the same
cycle ends the operation first (R247). -/
def State.closeReady (s : State) : State :=
  s.die.wbOps.foldl (fun s o => match o.ready, o.closedHeld with
    | true, some port => s.closeWb o port
    | _, _ => s) s

/-- The descriptors whose contributions were accepted in this cycle complete (R225). -/
def State.finishJudged (s : State) : State :=
  s.die.wbJudged.foldl (fun s x => s.finish .tsu x.1 x.2.1 .ok 0 0) (s.dieUpd fun d => { d with wbJudged := [] })

/-- Sets `READY` when every chunk is verified (R241): the flag and `WB_ACK` `OK`. -/
def State.checkReady (s : State) (o : WbOp) : State :=
  if o.ready || !(List.range o.chunks).all o.verified then s.checkLost o
  else
    let o := { o with ready := true, inexact := o.copies.any (·.2.inexact), ovf := o.copies.any (·.2.ovf) }
    let s := (s.setWb o).writeWb o .pending 0
    let s := if o.fen then s.setFlag o.flag else s
    s.sendWbAck o .ok

/-- The element bytes of a result chunk's `DATA` (R229, R232). -/
def WbOp.elements (o : WbOp) (data : List Byte) : List Byte := if gathered o.wbop then slice data 4 20 else slice data 0 24

/-- Handles a result frame of an open operation of a held basin. -/
def State.onWb (s : State) (port : Nat) (e : Env) (f : WbPl) (kind : Bool) (k : State → WbOp → State) : Result :=
  if !kind then nothing s
  else
    s.onEngine .tsu 3 port e fun s =>
      let s := s.count .tsu 0x0602 0 1
      if !s.holds e.basin.toNat e.gen.toNat then s.genDrop
      else
        match s.wbOp? e.basin.toNat e.gen.toNat f.opid with
        | some o => k s o
        | none => s

/-- The code in bits [3:0] of a control chunk's `FMT` byte; 0 for a data chunk (R223). -/
def controlCode (f : WbPl) : Nat := if f.fmt.toNat / 16 = 15 then f.fmt.toNat % 16 else 0

/-- Records a difference between the copies of a chunk (R241). -/
def State.planeDiff (s : State) (o : WbOp) : State :=
  s.record .tsu .wbPlaneDiff o.opid.toNat (leBytes 2 o.basin ++ leBytes 2 o.gen ++ leOf 6 o.step)

/-- Writes the copy of a data chunk to the result area and keeps it (R241). -/
def State.writeCopy (s : State) (o : WbOp) (c : Nat) (x : ChunkCopy) : State :=
  let n := resultStep o.wbop o.fmt
  let total := resultLen o.wbop o.len * fmtBytes (resultFmt o.wbop o.fmt)
  (s.setWb { o with copies := tabSet o.copies c x, bad := o.bad.filter (· != (c, x.plane)) }).emit
    (.dieWrite (o.dst + c * n) (x.data.take (min n (total - c * n))))

/-- WB_RESULT_RECEIVE (R241): a data chunk is written unless a verified copy is there; a second copy is compared. Of the copies of both
planes in one cycle the home copy is written and the other compared (R247). -/
def execWbResultReceive (port : Nat) (e : Env) (f : WbPl) (s : State) : Result :=
  s.onWb port e f (f.fmt.toNat / 16 != 15) fun s o =>
    let c := f.chunk.toNat
    let el := o.elements f.data
    if c ≥ o.chunks ∨ !o.mayCome c e.plane ∨ (gathered o.wbop ∧ field f.data 0 2 ≠ s.dieNum.toNat) then s
    else
      let x : ChunkCopy := { plane := e.plane, residue := chunkResidue el, verified := false, inexact := f.inexact,
                             ovf := f.ovf, data := el, cyc := s.cyc }
      match tabGet? o.copies c with
      | none => s.writeCopy o c x
      | some y =>
        let both := y.cyc = s.cyc ∧ y.plane ≠ e.plane
        let s := if (y.verified ∨ both) ∧ y.data ≠ el then s.planeDiff o else s
        if y.verified ∨ (both ∧ e.plane.toNat ≠ c % 2) then s else s.writeCopy o c x

/-- The chunks that a residue chunk covers, each with its residue (R240). -/
def WbOp.residues (o : WbOp) (chunk : Nat) (data : List Byte) : List (Nat × Nat) :=
  let per := if gathered o.wbop then 20 else 24
  let bytes := o.elements data
  let j := chunk - o.chunks
  (List.range per).filterMap fun i =>
    let c := residueCovers per (j / 2) (j % 2) i
    if c < o.chunks then some (c, (byteAt bytes i).toNat) else none

/-- One chunk checked against the residue of its plane (R241). -/
def WbOp.verify (o : WbOp) (plane : Plane) (x : Nat × Nat) : WbOp :=
  match tabGet? o.copies x.1 with
  | none => o
  | some y =>
    if y.verified ∨ y.plane ≠ plane then o
    else if y.residue = x.2 then
      { o with copies := tabSet o.copies x.1 { y with verified := true }, alt := o.alt || plane.toNat != x.1 % 2 }
    else { o with bad := (x.1, plane) :: o.bad }

/-- WB_RESIDUE_CHUNK_RECEIVE (R240, R241, R243). -/
def execWbResidueChunkReceive (port : Nat) (e : Env) (f : WbPl) (s : State) : Result :=
  s.onWb port e f (controlCode f == 0xD) fun s o =>
    if f.chunk.toNat < o.chunks then s
    else
      let o := (o.residues f.chunk.toNat f.data).foldl (fun o x => o.verify e.plane x) o
      (s.setWb o).checkReady o

/-- WB_CLOSED_RECEIVE (R242): applied at the end of the cycle when `READY`, held until then otherwise. -/
def execWbClosedReceive (port : Nat) (e : Env) (f : WbPl) (s : State) : Result :=
  s.onWb port e f (controlCode f == 0xE) fun s o =>
    if o.closedHeld.isSome then s
    else s.setWb { o with closedHeld := some port }

/-- WB_FAILED_RECEIVE (R223, R243, R245). -/
def execWbFailedReceive (port : Nat) (e : Env) (f : WbPl) (s : State) : Result :=
  s.onWb port e f (controlCode f == 0xF) fun s o =>
    let cause : W16 := BitVec.ofNat 16 (field f.data 0 2)
    let first := field f.data 4 4
    let count := field f.data 8 4
    if cause = Cause.wbMismatch.w then s.abortWb o .badDesc cause
    else
      let cs := (List.range o.chunks).filter (fun c => count == 0xFFFFFFFF || (first ≤ c && c < first + count))
      let o := { o with failed := o.failed ++ (cs.filter (fun c => !o.verified c)).map (fun c => (c, e.plane, cause)) }
      (s.setWb o).checkLost o

/-- WB_TIMEOUT (R245): `READY` is still 0 after `WB_TIMEOUT_US`. -/
def execWbTimeout (basin gen : Nat) (opid : W32) (s : State) : Result :=
  match s.wbOp? basin gen opid with
  | none => nothing s
  | some o =>
    if o.ready || !elapsed (s.ns .tsu) o.acceptNs (us s.wbTimeoutUs) then nothing s
    else
      .next ((s.record .tsu .wbTimeout o.opid.toNat (leBytes 2 o.basin ++ leBytes 2 o.gen ++ leOf 6 o.step)).abortWb o
        .timeout Cause.wbTimeout.w)

/-- WB_DATA_HOLD_END (R246): the chunks held after an abort are sent. -/
def execWbDataHoldEnd (basin gen : Nat) (opid : W32) (s : State) : Result :=
  match s.die.wbHolds.find? (fun h => h.basin == basin && h.gen == gen && h.opid == opid), s.wbOp? basin gen opid with
  | some h, some o =>
    if s.abortWithin basin h.step (us 60) then nothing s
    else .next ((s.dieUpd fun d => { d with wbHolds := d.wbHolds.erase h }).sendContrib o).wbSent
  | _, _ => nothing s

end Sys2Proof.Machine
end

