-- ==== Sys2Proof/Machine/Dispatch.lean ====
section
/-!
DEFINITION. One arm per command: each calls the command's own meaning.
-/

namespace Sys2Proof.Machine

def exec (i : Instr) (s : State) : Host.Outcome State Fault Refusal :=
  match i with
  | .aonPowerOn => Sys2Proof.Machine.execAonPowerOn s
  | .refClockLost p => Sys2Proof.Machine.execRefClockLost p s
  | .htParity p => Sys2Proof.Machine.execHtParity p s
  | .holdoverWindowExpiry p => Sys2Proof.Machine.execHoldoverWindowExpiry p s
  | .htHoldEnd p => Sys2Proof.Machine.execHtHoldEnd p s
  | .planeRevert => Sys2Proof.Machine.execPlaneRevert s
  | .beaconLoss p port => Sys2Proof.Machine.execBeaconLoss p port s
  | .lighthouseObtainHt => Sys2Proof.Machine.execLighthouseObtainHt s
  | .traceWindowExpiry => Sys2Proof.Machine.execTraceWindowExpiry s
  | .referenceLost => Sys2Proof.Machine.execReferenceLost s
  | .referenceValid => Sys2Proof.Machine.execReferenceValid s
  | .ppsEdge chan core c n => Sys2Proof.Machine.execPpsEdge chan core c n s
  | .ppsOffsetSend => Sys2Proof.Machine.execPpsOffsetSend s
  | .ptpMessage port coarse bin m => Sys2Proof.Machine.execPtpMessage port coarse bin m s
  | .leapSecond => Sys2Proof.Machine.execLeapSecond s
  | .htEpoch ring idx => Sys2Proof.Machine.execHtEpoch ring idx s
  | .htEpochClear ring idx => Sys2Proof.Machine.execHtEpochClear ring idx s
  | .htLoad word => Sys2Proof.Machine.execHtLoad word s
  | .htSnapGo p => Sys2Proof.Machine.execHtSnapGo p s
  | .htSaveTimer => Sys2Proof.Machine.execHtSaveTimer s
  | .signalDetected p port => Sys2Proof.Machine.execSignalDetected p port s
  | .clockRecoveryLock p port => Sys2Proof.Machine.execClockRecoveryLock p port s
  | .blockLockAcquired p port => Sys2Proof.Machine.execBlockLockAcquired p port s
  | .linkIdentSend p port => Sys2Proof.Machine.execLinkIdentSend p port s
  | .linkIdentReceive p port e f => Sys2Proof.Machine.execLinkIdentReceive p port e f s
  | .linkTrainTimeout p port => Sys2Proof.Machine.execLinkTrainTimeout p port s
  | .linkRetryTimer p port => Sys2Proof.Machine.execLinkRetryTimer p port s
  | .blockLockLost p port => Sys2Proof.Machine.execBlockLockLost p port s
  | .frameReceiveError p port rx => Sys2Proof.Machine.execFrameReceiveError p port rx s
  | .linkCtrlAck p port e => Sys2Proof.Machine.execLinkCtrlAck p port e s
  | .linkCtrlNak p port e arg => Sys2Proof.Machine.execLinkCtrlNak p port e arg s
  | .linkAckTimer p port => Sys2Proof.Machine.execLinkAckTimer p port s
  | .retxTimeout p port => Sys2Proof.Machine.execRetxTimeout p port s
  | .laneTransmit p port => Sys2Proof.Machine.execLaneTransmit p port s
  | .beaconReqSend p port core => Sys2Proof.Machine.execBeaconReqSend p port core s
  | .beaconReqReceive p port core e f => Sys2Proof.Machine.execBeaconReqReceive p port core e f s
  | .beaconRespSend p port core => Sys2Proof.Machine.execBeaconRespSend p port core s
  | .beaconRespReceive p port core e f => Sys2Proof.Machine.execBeaconRespReceive p port core e f s
  | .beaconFuSend p port => Sys2Proof.Machine.execBeaconFuSend p port s
  | .beaconFuReceive p port e f => Sys2Proof.Machine.execBeaconFuReceive p port e f s
  | .beaconExchangeAbandon p port => Sys2Proof.Machine.execBeaconExchangeAbandon p port s
  | .linkCtrlCalStart p port rx => Sys2Proof.Machine.execLinkCtrlCalStart p port rx s
  | .linkCtrlTurn p port rx swapped => Sys2Proof.Machine.execLinkCtrlTurn p port rx swapped s
  | .linkCtrlCalEnd p port rx => Sys2Proof.Machine.execLinkCtrlCalEnd p port rx s
  | .linkCtrlRetrain p port e => Sys2Proof.Machine.execLinkCtrlRetrain p port e s
  | .asymCalComplete p port => Sys2Proof.Machine.execAsymCalComplete p port s
  | .asymRecalTimer port => Sys2Proof.Machine.execAsymRecalTimer port s
  | .linkRecal p ring idx => Sys2Proof.Machine.execLinkRecal p ring idx s
  | .timeInfoSend port => Sys2Proof.Machine.execTimeInfoSend port s
  | .timeInfoReceive p port e f => Sys2Proof.Machine.execTimeInfoReceive p port e f s
  | .lighthouseMaster ring idx => Sys2Proof.Machine.execLighthouseMaster ring idx s
  | .tdcConversionDone p chan input a b ok => Sys2Proof.Machine.execTdcConversionDone p chan input a b ok s
  | .codeDensityRunComplete p chan hists => Sys2Proof.Machine.execCodeDensityRunComplete p chan hists s
  | .vernierCalComplete p chan core sums => Sys2Proof.Machine.execVernierCalComplete p chan core sums s
  | .tdcRecalTimer p chan => Sys2Proof.Machine.execTdcRecalTimer p chan s
  | .temperatureMove p centi => Sys2Proof.Machine.execTemperatureMove p centi s
  | .tdcMeasureInterval p ring idx => Sys2Proof.Machine.execTdcMeasureInterval p ring idx s
  | .tdcMeasureFrequency p ring idx => Sys2Proof.Machine.execTdcMeasureFrequency p ring idx s
  | .tdcMeasureBeacon p ring idx => Sys2Proof.Machine.execTdcMeasureBeacon p ring idx s
  | .tdcMeasureCodeDensity p ring idx => Sys2Proof.Machine.execTdcMeasureCodeDensity p ring idx s
  | .tdcMeasureComplete p chan starts ends => Sys2Proof.Machine.execTdcMeasureComplete p chan starts ends s
  | .tdcMeasureTimeout p chan starts ends => Sys2Proof.Machine.execTdcMeasureTimeout p chan starts ends s
  | .regionWatchResult region starts ends => Sys2Proof.Machine.execRegionWatchResult region starts ends s
  | .fastWakeRequest => Sys2Proof.Machine.execFastWakeRequest s
  | .spinePllLock p => Sys2Proof.Machine.execSpinePllLock p s
  | .spinePllLockTimeout p => Sys2Proof.Machine.execSpinePllLockTimeout p s
  | .fastIdleExpiry => Sys2Proof.Machine.execFastIdleExpiry s
  | .fastForceWrite v => Sys2Proof.Machine.execFastForceWrite v s
  | .spineParity region => Sys2Proof.Machine.execSpineParity region s
  | .coreHtRead region core => Sys2Proof.Machine.execCoreHtRead region core s
  | .regionFifoConsume region => Sys2Proof.Machine.execRegionFifoConsume region s
  | .crossingSlip region => Sys2Proof.Machine.execCrossingSlip region s
  | .regionPowerChange region off => Sys2Proof.Machine.execRegionPowerChange region off s
  | .stretchEvent region count => Sys2Proof.Machine.execStretchEvent region count s
  | .spineCalRunComplete runs => Sys2Proof.Machine.execSpineCalRunComplete runs s
  | .spineRecalTimer => Sys2Proof.Machine.execSpineRecalTimer s
  | .basinCreate ring idx dies => Sys2Proof.Machine.execBasinCreate ring idx dies s
  | .tideLoad ring idx data => Sys2Proof.Machine.execTideLoad ring idx data s
  | .basinStart ring idx => Sys2Proof.Machine.execBasinStart ring idx s
  | .basinPark ring idx => Sys2Proof.Machine.execBasinPark ring idx s
  | .basinResume ring idx => Sys2Proof.Machine.execBasinResume ring idx s
  | .basinDestroy ring idx => Sys2Proof.Machine.execBasinDestroy ring idx s
  | .basinLead ring idx => Sys2Proof.Machine.execBasinLead ring idx s
  | .memberList ring idx dies => Sys2Proof.Machine.execMemberList ring idx dies s
  | .tideNop basin => Sys2Proof.Machine.execTideNop basin s
  | .tideLaunch basin => Sys2Proof.Machine.execTideLaunch basin s
  | .announceSend basin step => Sys2Proof.Machine.execAnnounceSend basin step s
  | .tideReduce basin => Sys2Proof.Machine.execTideReduce basin s
  | .tideGateWait basin => Sys2Proof.Machine.execTideGateWait basin s
  | .gateWaitTimeout basin => Sys2Proof.Machine.execGateWaitTimeout basin s
  | .tideBranch basin => Sys2Proof.Machine.execTideBranch basin s
  | .branchWaitTimeout basin => Sys2Proof.Machine.execBranchWaitTimeout basin s
  | .tideLoopSet basin => Sys2Proof.Machine.execTideLoopSet basin s
  | .tideLoopBack basin => Sys2Proof.Machine.execTideLoopBack basin s
  | .tideMeterMark basin => Sys2Proof.Machine.execTideMeterMark basin s
  | .tideMemberAdd basin => Sys2Proof.Machine.execTideMemberAdd basin s
  | .tideMemberDel basin => Sys2Proof.Machine.execTideMemberDel basin s
  | .tidePredSet basin => Sys2Proof.Machine.execTidePredSet basin s
  | .tidePark basin => Sys2Proof.Machine.execTidePark basin s
  | .tideEnd basin => Sys2Proof.Machine.execTideEnd basin s
  | .tideFetchDone basin => Sys2Proof.Machine.execTideFetchDone basin s
  | .stepCommitTimer basin step => Sys2Proof.Machine.execStepCommitTimer basin step s
  | .memberConfirmTimeout basin => Sys2Proof.Machine.execMemberConfirmTimeout basin s
  | .leadTimeout basin => Sys2Proof.Machine.execLeadTimeout basin s
  | .abortWaveComplete basin => Sys2Proof.Machine.execAbortWaveComplete basin s
  | .announceReceive port e f => Sys2Proof.Machine.execAnnounceReceive port e f s
  | .launchRowFetched basin step row parityOk => Sys2Proof.Machine.execLaunchRowFetched basin step row parityOk s
  | .rowFetchTimeout basin step => Sys2Proof.Machine.execRowFetchTimeout basin step s
  | .announceForward port e f => Sys2Proof.Machine.execAnnounceForward port e f s
  | .ackReceive port e f => Sys2Proof.Machine.execAckReceive port e f s
  | .commitCutoff basin step => Sys2Proof.Machine.execCommitCutoff basin step s
  | .commitReceive port e f => Sys2Proof.Machine.execCommitReceive port e f s
  | .commitForward port e f => Sys2Proof.Machine.execCommitForward port e f s
  | .commitDeadline basin step => Sys2Proof.Machine.execCommitDeadline basin step s
  | .fastReadyCheck basin step => Sys2Proof.Machine.execFastReadyCheck basin step s
  | .strobeDecision bell => Sys2Proof.Machine.execStrobeDecision bell s
  | .delayLineFire region bell => Sys2Proof.Machine.execDelayLineFire region bell s
  | .abortReceive port e f => Sys2Proof.Machine.execAbortReceive port e f s
  | .abortForward port e f => Sys2Proof.Machine.execAbortForward port e f s
  | .slotDoneWrite core slot => Sys2Proof.Machine.execSlotDoneWrite core slot s
  | .basinAttach ring idx => Sys2Proof.Machine.execBasinAttach ring idx s
  | .coresetWrite ring idx => Sys2Proof.Machine.execCoresetWrite ring idx s
  | .softRequest request => Sys2Proof.Machine.execSoftRequest request s
  | .softRequestGrant => Sys2Proof.Machine.execSoftRequestGrant s
  | .throttleDeferTimeout request => Sys2Proof.Machine.execThrottleDeferTimeout request s
  | .hardLimit => Sys2Proof.Machine.execHardLimit s
  | .memberReceive port e f => Sys2Proof.Machine.execMemberReceive port e f s
  | .memberForward port e f => Sys2Proof.Machine.execMemberForward port e f s
  | .basinPurgeComplete basin => Sys2Proof.Machine.execBasinPurgeComplete basin s
  | .flagSet core ctx index => Sys2Proof.Machine.execFlagSet core ctx index s
  | .flagClear core ctx index => Sys2Proof.Machine.execFlagClear core ctx index s
  | .flagTest core ctx index consume => Sys2Proof.Machine.execFlagTest core ctx index consume s
  | .flagWait core ctx index consume timeoutUs => Sys2Proof.Machine.execFlagWait core ctx index consume timeoutUs s
  | .tallyAdd core ctx index operand => Sys2Proof.Machine.execTallyAdd core ctx index operand s
  | .tallyRead core ctx index => Sys2Proof.Machine.execTallyRead core ctx index s
  | .tallyWait core ctx index operand timeoutUs => Sys2Proof.Machine.execTallyWait core ctx index operand timeoutUs s
  | .dgArrive core ctx gate => Sys2Proof.Machine.execDgArrive core ctx gate s
  | .dgArriveWait core ctx gate timeoutUs => Sys2Proof.Machine.execDgArriveWait core ctx gate timeoutUs s
  | .dgWait core ctx gate operand timeoutUs => Sys2Proof.Machine.execDgWait core ctx gate operand timeoutUs s
  | .hgArriveWait core ctx proxy timeoutUs => Sys2Proof.Machine.execHgArriveWait core ctx proxy timeoutUs s
  | .hgWait core ctx proxy operand timeoutUs => Sys2Proof.Machine.execHgWait core ctx proxy operand timeoutUs s
  | .syncWaitTimeout waiter => Sys2Proof.Machine.execSyncWaitTimeout waiter s
  | .dgGateTimeout waiter => Sys2Proof.Machine.execDgGateTimeout waiter s
  | .gateConfig ring idx => Sys2Proof.Machine.execGateConfig ring idx s
  | .proxyBind ring idx => Sys2Proof.Machine.execProxyBind ring idx s
  | .proxyUnbind ring idx => Sys2Proof.Machine.execProxyUnbind ring idx s
  | .gateArriveReceive port e f => Sys2Proof.Machine.execGateArriveReceive port e f s
  | .gateContextFree basin gen gate => Sys2Proof.Machine.execGateContextFree basin gen gate s
  | .followerReleaseTimer basin gate => Sys2Proof.Machine.execFollowerReleaseTimer basin gate s
  | .gateReleaseReceive port e f => Sys2Proof.Machine.execGateReleaseReceive port e f s
  | .gateReleaseForward port e f => Sys2Proof.Machine.execGateReleaseForward port e f s
  | .gateReleaseBell proxy => Sys2Proof.Machine.execGateReleaseBell proxy s
  | .hallGateTimeout basin gate => Sys2Proof.Machine.execHallGateTimeout basin gate s
  | .proxyBackstopTimeout proxy => Sys2Proof.Machine.execProxyBackstopTimeout proxy s
  | .gateArriveHoldEnd proxy => Sys2Proof.Machine.execGateArriveHoldEnd proxy s
  | .syncOp ring idx => Sys2Proof.Machine.execSyncOp ring idx s
  | .remoteSignal bytes written => Sys2Proof.Machine.execRemoteSignal bytes written s
  | .dataMoverPacketReport sender tag written => Sys2Proof.Machine.execDataMoverPacketReport sender tag written s
  | .pendTimeout entry => Sys2Proof.Machine.execPendTimeout entry s
  | .ctxSave ring idx => Sys2Proof.Machine.execCtxSave ring idx s
  | .ctxRestore ring idx img => Sys2Proof.Machine.execCtxRestore ring idx img s
  | .syncView ring idx => Sys2Proof.Machine.execSyncView ring idx s
  | .syncDump ring idx => Sys2Proof.Machine.execSyncDump ring idx s
  | .wbSubmit desc req data => Sys2Proof.Machine.execWbSubmit desc req data s
  | .wbDataReceive port e f check => Sys2Proof.Machine.execWbDataReceive port e f check s
  | .wbResultReceive port e f => Sys2Proof.Machine.execWbResultReceive port e f s
  | .wbResultForward port e f => Sys2Proof.Machine.execWbResultForward port e f s
  | .wbResidueChunkReceive port e f => Sys2Proof.Machine.execWbResidueChunkReceive port e f s
  | .wbClosedReceive port e f => Sys2Proof.Machine.execWbClosedReceive port e f s
  | .wbFailedReceive port e f => Sys2Proof.Machine.execWbFailedReceive port e f s
  | .wbAckOk port e f => Sys2Proof.Machine.execWbAckOk port e f s
  | .wbAckParity port e f bad0 bad1 => Sys2Proof.Machine.execWbAckParity port e f bad0 bad1 s
  | .wbTimeout basin gen opid => Sys2Proof.Machine.execWbTimeout basin gen opid s
  | .wbDataHoldEnd basin gen opid => Sys2Proof.Machine.execWbDataHoldEnd basin gen opid s
  | .adcSample frame retry => Sys2Proof.Machine.execAdcSample frame retry s
  | .meterIntervalClose cycles since => Sys2Proof.Machine.execMeterIntervalClose cycles since s
  | .intervalTableHandoff addr table => Sys2Proof.Machine.execIntervalTableHandoff addr table s
  | .inputCutoff check => Sys2Proof.Machine.execInputCutoff check s
  | .activityReport report => Sys2Proof.Machine.execActivityReport report s
  | .berthBind ring idx => Sys2Proof.Machine.execBerthBind ring idx s
  | .powerFail cycles since => Sys2Proof.Machine.execPowerFail cycles since s
  | .meterStart strapMaster masters romOk paramOk => Sys2Proof.Machine.execMeterStart strapMaster masters romOk paramOk s
  | .tamperOpen => Sys2Proof.Machine.execTamperOpen s
  | .blockSealTimer => Sys2Proof.Machine.execBlockSealTimer s
  | .blockSealed check => Sys2Proof.Machine.execBlockSealed check s
  | .recordAckReceive port e f check => Sys2Proof.Machine.execRecordAckReceive port e f check s
  | .recordResendTimer => Sys2Proof.Machine.execRecordResendTimer s
  | .mtrParam ring idx => Sys2Proof.Machine.execMtrParam ring idx s
  | .mtrStateSeal ring idx cycles since => Sys2Proof.Machine.execMtrStateSeal ring idx cycles since s
  | .mtrStateOpen ring idx cycles since => Sys2Proof.Machine.execMtrStateOpen ring idx cycles since s
  | .mtrLogRead ring idx => Sys2Proof.Machine.execMtrLogRead ring idx s
  | .mtrMirrorRead => Sys2Proof.Machine.execMtrMirrorRead s
  | .ringEntryStage p ring off data => Sys2Proof.Machine.execRingEntryStage p ring off data s
  | .ringEnable p ring off data => Sys2Proof.Machine.execRingEnable p ring off data s
  | .ringDisable p ring off data => Sys2Proof.Machine.execRingDisable p ring off data s
  | .ringDrainComplete p ring => Sys2Proof.Machine.execRingDrainComplete p ring s
  | .doorbellWrite p ring prod cons => Sys2Proof.Machine.execDoorbellWrite p ring prod cons s
  | .pollRound doorbells cons hb overrun => Sys2Proof.Machine.execPollRound doorbells cons hb overrun s
  | .descriptorFetch p descs => Sys2Proof.Machine.execDescriptorFetch p descs s
  | .commandTimeout p ring idx hung => Sys2Proof.Machine.execCommandTimeout p ring idx hung s
  | .irqHoldoffExpiry p ring => Sys2Proof.Machine.execIrqHoldoffExpiry p ring s
  | .nop p ring idx => Sys2Proof.Machine.execNop p ring idx s
  | .stateRefresh p ring idx => Sys2Proof.Machine.execStateRefresh p ring idx s
  | .statePageUpdate p => Sys2Proof.Machine.execStatePageUpdate p s
  | .viewReadGates ring idx => Sys2Proof.Machine.execViewReadGates ring idx s
  | .viewReadShortfall ring idx => Sys2Proof.Machine.execViewReadShortfall ring idx s
  | .heartbeatChange p v => Sys2Proof.Machine.execHeartbeatChange p v s
  | .driverGone p => Sys2Proof.Machine.execDriverGone p s
  | .ledgerDoorbell cons => Sys2Proof.Machine.execLedgerDoorbell cons s
  | .functionLevelReset => Sys2Proof.Machine.execFunctionLevelReset s
  | .patrolRead pkg first second both => Sys2Proof.Machine.execPatrolRead pkg first second both s
  | .resilverComplete pair => Sys2Proof.Machine.execResilverComplete pair s
  | .pairRebuildComplete pair => Sys2Proof.Machine.execPairRebuildComplete pair s
  | .tideUnitDredgeDone => Sys2Proof.Machine.execTideUnitDredgeDone s
  | .recordReceive port e f => Sys2Proof.Machine.execRecordReceive port e f s
  | .ledgerReadbackDone => Sys2Proof.Machine.execLedgerReadbackDone s
  | .anchorExpiry meter => Sys2Proof.Machine.execAnchorExpiry meter s
  | .totalsPeriodClose => Sys2Proof.Machine.execTotalsPeriodClose s
  | .totalsEmit => Sys2Proof.Machine.execTotalsEmit s
  | .ldrGo image => Sys2Proof.Machine.execLdrGo image s
  | .fwImageStarted => Sys2Proof.Machine.execFwImageStarted s
  | .trappedWrite p off data => Sys2Proof.Machine.execTrappedWrite p off data s
  | .trappedRead p off len => Sys2Proof.Machine.execTrappedRead p off len s
  | .trapReadTimeout => Sys2Proof.Machine.execTrapReadTimeout s
  | .fwWatchdog cores => Sys2Proof.Machine.execFwWatchdog cores s
  | .fwRestartDone hashOk => Sys2Proof.Machine.execFwRestartDone hashOk s
  | .journalCheckpoint => Sys2Proof.Machine.execJournalCheckpoint s
  | .fwHandover ring idx image => Sys2Proof.Machine.execFwHandover ring idx image s
  | .handoverQuiescent => Sys2Proof.Machine.execHandoverQuiescent s
  | .quiesceTimeout => Sys2Proof.Machine.execQuiesceTimeout s
  | .thermHigh celsius => Sys2Proof.Machine.execThermHigh celsius s
  | .thermTrip celsius => Sys2Proof.Machine.execThermTrip celsius s
  | .supplyRange rail refOk parityOk => Sys2Proof.Machine.execSupplyRange rail refOk parityOk s
  | .logFetch => Sys2Proof.Machine.execLogFetch s
  | .fwInfo => Sys2Proof.Machine.execFwInfo s
  | .transientRate p kind index => Sys2Proof.Machine.execTransientRate p kind index s
  | .faultNoteReceive port e f => Sys2Proof.Machine.execFaultNoteReceive port e f s
  | .engineStall p engine => Sys2Proof.Machine.execEngineStall p engine s
  | .engineResetStepTimeout p engine refOk parityOk => Sys2Proof.Machine.execEngineResetStepTimeout p engine refOk parityOk s
  | .engineResetDone p engine => Sys2Proof.Machine.execEngineResetDone p engine s
  | .tsuWarmReset refOk parityOk => Sys2Proof.Machine.execTsuWarmReset refOk parityOk s
  | .dieReset refOk parityOk => Sys2Proof.Machine.execDieReset refOk parityOk s
  | .chipReset key refOk parityOk => Sys2Proof.Machine.execChipReset key refOk parityOk s
  | .modulePowerOn => Sys2Proof.Machine.execModulePowerOn s
  | .dredgeDone p => Sys2Proof.Machine.execDredgeDone p s
  | .portDrainComplete p port => Sys2Proof.Machine.execPortDrainComplete p port s
  | .unitQuery p ring idx => Sys2Proof.Machine.execUnitQuery p ring idx s
  | .unitExpel p ring idx => Sys2Proof.Machine.execUnitExpel p ring idx s
  | .unitKeep p ring idx => Sys2Proof.Machine.execUnitKeep p ring idx s
  | .unitReturn p ring idx => Sys2Proof.Machine.execUnitReturn p ring idx s
  | .unitEngineReset p ring idx => Sys2Proof.Machine.execUnitEngineReset p ring idx s
  | .unitDisable p ring idx => Sys2Proof.Machine.execUnitDisable p ring idx s
  | .unitEnable p ring idx => Sys2Proof.Machine.execUnitEnable p ring idx s
  | .engineDigest msg => Sys2Proof.Machine.execEngineDigest msg s
  | .stepDigestForm basin => Sys2Proof.Machine.execStepDigestForm basin s
  | .counterLatch ring idx => Sys2Proof.Machine.execCounterLatch ring idx s
  | .latchReceive p port e f => Sys2Proof.Machine.execLatchReceive p port e f s
  | .latchApply p chain => Sys2Proof.Machine.execLatchApply p chain s
  | .latchNow => Sys2Proof.Machine.execLatchNow s
  | .wrapClr p => Sys2Proof.Machine.execWrapClr p s
  | .fltCntClr p rest => Sys2Proof.Machine.execFltCntClr p rest s
  | .cfgLoad p ring idx block => Sys2Proof.Machine.execCfgLoad p ring idx block s
  | .lcChange p ring idx token refOk parityOk => Sys2Proof.Machine.execLcChange p ring idx token refOk parityOk s
  | .watchWrite region off data => Sys2Proof.Machine.execWatchWrite region off data s
  | .ledgerRegWrite off data => Sys2Proof.Machine.execLedgerRegWrite off data s
  | .dbNudge ring prod cons => Sys2Proof.Machine.execDbNudge ring prod cons s
  | .ledgerNudge cons => Sys2Proof.Machine.execLedgerNudge cons s
  | .inputUndervoltage mv => Sys2Proof.Machine.execInputUndervoltage mv s
  | .inputOvervoltage mv => Sys2Proof.Machine.execInputOvervoltage mv s
  | .inputRecovery mv => Sys2Proof.Machine.execInputRecovery mv s
  | .presentPinBreak => Sys2Proof.Machine.execPresentPinBreak s
  | .presentPinMate => Sys2Proof.Machine.execPresentPinMate s
  | .smbusStatus pec overcurrent => Sys2Proof.Machine.execSmbusStatus pec overcurrent s
  | .smbusVinMv pec mv => Sys2Proof.Machine.execSmbusVinMv pec mv s
  | .smbusIinMa pec ma => Sys2Proof.Machine.execSmbusIinMa pec ma s
  | .smbusPinDw pec dw => Sys2Proof.Machine.execSmbusPinDw pec dw s
  | .smbusTemps pec phidor memory inlet converter => Sys2Proof.Machine.execSmbusTemps pec phidor memory inlet converter s
  | .smbusConvertersOff pec clear => Sys2Proof.Machine.execSmbusConvertersOff pec clear s
  | .smbusConvertersOn pec clear => Sys2Proof.Machine.execSmbusConvertersOn pec clear s
  | .smbusClearFaults pec off => Sys2Proof.Machine.execSmbusClearFaults pec off s
  | .smbusModuleId pec => Sys2Proof.Machine.execSmbusModuleId pec s
  | .slewComplete p => Sys2Proof.Machine.execSlewComplete p s
  | .blockLockAfterTurn p port => Sys2Proof.Machine.execBlockLockAfterTurn p port s
  | .managementPortFault => Sys2Proof.Machine.execManagementPortFault s
  | .ppsOutEdge => Sys2Proof.Machine.execPpsOutEdge s
  | .tamperClose => Sys2Proof.Machine.execTamperClose s
  | .thermHighClear celsius => Sys2Proof.Machine.execThermHighClear celsius s
  | .relayedClosedReceive port e f => Sys2Proof.Machine.execRelayedClosedReceive port e f s

end Sys2Proof.Machine
end

