-- ==== Sys2Proof/Machine/Tick.lean ====
section
/-!
DEFINITION. What time does when no command waits: one always-on cycle (log entry 6).
-/

namespace Sys2Proof.Machine

/-- A transition of the cycle that ends comes before what else the cycle brought (R33): a latch of the time status block, and an update of
the state page under the same `SEQ`, show the new state. -/
def State.showTransition (s : State) (p : Part) : State :=
  if (s.part p).time.entryNs = s.ns p then
    let s := if (s.part p).time.snapCyc = some s.cyc then s.htSnap p else s
    if (s.part p).cycs.pageUpd = some s.cyc && (s.part p).page.changeNs.isSome then
      (s.upd p fun c => { c with page.seq := c.page.seq - 2 }).writePage p
    else s
  else s

/-- The fast logic of the TSU in one always-on cycle (R94): its running time is counted, and the instant since which nothing has
kept it running is kept. -/
def State.tickFast (s : State) : State :=
  if s.tsu.clk.running then
    let idle := sinceWhen (s.ns .tsu) s.tsu.clk.idleSince (!s.keepRunning)
    (s.upd .tsu fun c => { c with clk.idleSince := idle }).count .tsu 0x0303 0 8
  else s

/-- The cycle anchors of the regions that are not off advance by the region cycles of one always-on cycle (R108): at most 26 of them end
in 8 ns, since no region clock is faster than 3.2 GHz. -/
def State.tickRegions (s : State) : State :=
  s.dieUpd fun d => { d with spine.regionCycs := d.spine.regionCycs.zipIdx.map fun e =>
    if (s.region e.2).off then e.1 else e.1 + Config.regionCycles e.2 s.cyc % 27 }

/-- What the end of an always-on cycle resolves: the block that a `CFG_LOAD` puts in force (R422), the 1PPS edge (R450), the flags taken in it, the tallies added to, the contributions judged in it (R193), the
rows that waited for one that an abort or a purge has dropped (R158), a heartbeat that has lapsed (R301), the lasting faults (R380),
the resets asked for and cancellations not confirmed (R374, R385),
the trapped accesses that wait (R345), the returns of units that are over (R382), the digests that form, the counter latches (R401) and a
transition that came with other actions (R33). -/
def State.endCycle (s : State) : State :=
  let s := ((s.endConfig .tsu).endConfig .phi).endEdge
  let s := s.takenFlags.foldl (fun s i => s.serveTakers i) s
  let s := (s.addedTallies.foldl (fun s i => s.settleTally i) s).judgeWaiting s.die.fetches.length
  let s := s.finishJudged.closeReady.closeFull
  let s := (((s.endLapse .tsu).endLapse .phi).governAll .tsu).governAll .phi
  let s := ((((s.endAsked .tsu).endAsked .phi).endCancels .tsu).endCancels .phi).endTraps
  let s := ((s.endReturns .tsu).endReturns .phi).endDigests
  (((s.endLatches .tsu).endLatches .phi).showTransition .tsu).showTransition .phi

/-- The HT word of the cycle goes to the meter section (R252), a valid one while HT runs (R259). -/
def State.meterWord (s : State) : State :=
  if s.tsu.time.state != .fault && Config.htWordComes s.cyc then
    s.mtr fun m => { m with word := s.ns .tsu, wordCyc := s.cyc }
  else s

/-- The next always-on cycle: HT advances in both parts (R10, R12), and the edge of the Phidor's 10 MHz output is stamped (R72). A Phidor
without power stands still. -/
def State.nextCycle (s : State) : State :=
  let s := ({ s with cyc := s.cyc + 1 }.updTime .tsu TimeSt.tick).meterWord
  let s := { s with hub.fw.busy := Config.fwBusy s.cyc }
  if s.phi.cfg.startStep ≥ 1 then (s.updTime .phi TimeSt.tick).tenMhzEdge else s

/-- One always-on cycle of both parts (R10, R12, R72, R94, R103, R212): HT advances, the edge of the 10 MHz output is stamped, the running
time of the fast logic and the cycles with a full pending table are counted, and accepted spine values that wait are applied. -/
def State.tick (s : State) : State :=
  let s := s.endCycle.nextCycle.tickFast.tickRegions
  let s := if s.die.sync.pendFull.isEmpty then s else s.count .tsu 0x0504 0 2
  s.applyCals

end Sys2Proof.Machine
end

