-- ==== Sys2Proof/Safety.lean ====
section
/-!
DEFINITION. What claims about the block are stated with: a command that answers a next state, an event with its condition, what
two states have in common, and a ring command that starts.
-/

namespace Sys2Proof.Machine

/-- The command answers a next state, and that state has the property. -/
def Answers (c : Instr) (s : State) (P : State → Prop) : Prop := ∃ t, exec c s = .next t ∧ P t

/-- An event: under its condition the command answers a next state with the property, and without it nothing changes. -/
def Fires (c : Instr) (s : State) (cond : Prop) (P : State → Prop) : Prop :=
  (cond → Answers c s P) ∧ (¬ cond → exec c s = .next s)

/-- A run is safe when each of its steps answers a next state: no step of the block stops it. -/
def SafeStep (s : State) : Prop := ∃ t, step s = .next t

/-- The two states have the same TSU, host die and meter section. -/
def State.sameTsu (s t : State) : Prop := t.tsu = s.tsu ∧ t.die = s.die ∧ t.meter = s.meter

/-- The two states have the same Phidor and module. -/
def State.samePhi (s t : State) : Prop := t.phi = s.phi ∧ t.hub = s.hub ∧ t.mdl = s.mdl

/-- The two states differ at most in the time of a part. -/
def State.onlyTime (p : Part) (s t : State) : Prop := t = s.setPart p { s.part p with time := (t.part p).time }

/-- The two states differ at most in one port of a part. -/
def State.onlyPorts (p : Part) (s t : State) : Prop := t = s.setPart p { s.part p with ports := (t.part p).ports }

/-- The two states differ at most in the ports and channels of a part and in what it counts. -/
def State.onlyLink (p : Part) (s t : State) : Prop :=
  t = s.setPart p { s.part p with ports := (t.part p).ports, tdc := (t.part p).tdc, cnt := (t.part p).cnt }

/-- A descriptor of a ring is fetched, may start, and its part executes commands: the command that it holds starts now
(R296, R346, R370, R403). No later command on its object has started in this cycle (R301). -/
def State.ready (s : State) (p : Part) (ring idx opcode : Nat) (d : Desc) : Prop :=
  s.desc? p ring idx = some d ∧ (s.ring p ring).mayStart d = true ∧ s.executes p = true ∧ d.opcode = opcode ∧ s.overtaken p ring d = false

/-- The state in which a command's own effect begins: its descriptor is marked as started (R296, R300). -/
def State.begun (s : State) (p : Part) (ring idx : Nat) (d : Desc) : State :=
  (((s.traceCmd p ring d false 0).startDesc p ring idx).dispatch p d).noteRan p ring d

/-- A reliable frame with this envelope is the next in order on an `UP` port that does not wait for block lock, and it is not the first
of a run of retransmissions, which counts a transient fault besides (R47, R48, R55). -/
def State.inOrder (s : State) (p : Part) (port : Nat) (e : Env) : Prop :=
  (s.port p port).lstate = .up ∧ (s.port p port).waitLock = false ∧ e.lseq = (s.port p port).rxNext
    ∧ (e.retx && !(s.port p port).rxRun) = false

/-- The two states differ in the entry of one sequenced basin, which is this in the second, and nowhere else (R117). -/
def State.onlySeq (s t : State) (b : Nat) (q : Seq) : Prop :=
  t.seq? b = some q ∧ (∀ c, c ≠ b → t.seq? c = s.seq? c) ∧ t = { s with hub.seqs := t.hub.seqs }

/-- A sequencer stands at an entry that it takes now: its opcode is this, its basin has all of its table, no park is under way, the
entry has no breakpoint, and the limit of entries in a row that are no `LAUNCH` is not passed (R126, R129, R150, R319, R325). -/
def State.atEntry (s : State) (b op : Nat) (q : Seq) : Prop :=
  s.seq? b = some q ∧ q.takes op = true ∧ q.tableLost = false ∧ q.parkReq = none ∧ (op ≠ 1 → q.sinceLaunch < 256)
    ∧ (byteAt (q.entry q.pc) 1).getLsbD 0 = false

/-- What an executed entry that is no `LAUNCH` does to the sequencer besides its own effect: the next entry follows, the basin
runs, and the window moves (R126, R129, R319). -/
def Seq.stepped (q : Seq) (next : Nat) (jump : Bool) : Seq :=
  { q with pc := next, waitNs := none, goNs := none, rewait := false, state := .running,
           winLeft := if jump then q.jumpLeft next else q.winLeft.map (· - 1), sinceLaunch := q.sinceLaunch + 1 }

/-- Software reaches a part's register window with an access of this offset and length that the part applies at once: a Phidor
is out of reset and its firmware takes the access as it comes (R345, R346, R423), and no reset of the TSU has come in the same cycle (R437). -/
def State.reaches (s : State) (p : Part) (off len : Nat) : Prop :=
  accessOk off len = true ∧ (p = .tsu → s.writeLost off = false)
    ∧ (p = .phi → 2 ≤ s.phi.cfg.startStep ∧ s.hub.fw.prompt = true)

/-- A port of a part carries a queued frame with this payload. -/
def State.queued (s : State) (p : Part) (port : Nat) (pl : Payload) : Prop := ∃ f ∈ (s.port p port).queue, f.pl = pl

/-- A port of a part takes reliable frames with this payload (R47, R383). -/
def State.takesFrames (s : State) (p : Part) (port : Nat) (pl : Payload) : Prop :=
  (s.port p port).lstate = .up ∧ (s.port p port).admin = .enabled ∧ s.maySend p pl = true

/-- Nothing that software or a frame has asked of the always-on cycle under way is left for its end to resolve: a wait that consumes a flag, a
tally added to, an accepted contribution, an operation to close, a row that has waited (R158, R193, R225, R247), an edge of the reference
(R450), a digest (R401), or a trapped access that firmware takes (R345). -/
def State.workResolved (s : State) : Prop :=
  s.takenFlags = [] ∧ s.addedTallies = [] ∧ s.die.wbJudged = [] ∧ (∀ o ∈ s.die.wbOps, o.ready = false ∨ o.closedHeld = none)
    ∧ (∀ o ∈ s.hub.ops, o.opened = false ∨ o.full = false) ∧ (∀ x ∈ s.die.fetches, x.row = none ∨ s.rowWaits x = true)
    ∧ s.hub.lh.edge = none ∧ s.die.dig.forming = []
    ∧ (s.hub.fw.state ≠ .running ∨ s.hub.fw.busy = true ∨ (s.hub.fw.trapQueue = [] ∧ s.hub.fw.trapReads = []))

/-- Nothing of a part is left for the end of the always-on cycle under way to resolve: a configuration block (R422), a heartbeat that has
lapsed (R301), a lasting fault (R380), a reset asked for, a cancellation not confirmed in time or a return that is over (R374, R382, R385),
a counter latch (R401), or a snapshot or page beside a transition (R33). -/
def State.partResolved (s : State) (p : Part) : Prop :=
  (s.part p).cfg.asked = none ∧ (s.part p).page.lapse = false ∧ ((s.part p).gov.held = [] ∨ (p = .phi ∧ s.hub.fwRuns = false))
    ∧ (∀ e ∈ (s.part p).engines, e.2.asked = false)
    ∧ (∀ x ∈ (s.part p).hung, elapsed (s.ns p) x.2 (if x.1 < 8 then us 50 else ms 10) = false)
    ∧ (∀ r ∈ (s.part p).gov.returns, elapsed (s.ns p) r.sinceNs (r.takesNs p) = false)
    ∧ (s.part p).cnt.applying = []
    ∧ ((s.part p).time.entryNs = s.ns p → (s.part p).time.snapCyc ≠ some s.cyc
        ∧ ((s.part p).cycs.pageUpd = some s.cyc → (s.part p).page.changeNs = none))

/-- Nothing of the always-on cycle under way is left for its end to resolve (log entry 35). -/
def State.resolved (s : State) : Prop := s.workResolved ∧ ∀ p, s.partResolved p

/-- The commands by which the accumulator of a part can move: power, a load, by `HT_LOAD` or a write of its highest word, a forward step of
R27 that the last stamp or frame of an exchange brings, or a source of R19. Every other command leaves it as it is; the always-on cycle advances it (R12). -/
def movesHt : Part → Instr → Bool
  | .tsu, .aonPowerOn => true
  | .tsu, .htLoad _ => true
  | .tsu, .trappedWrite .tsu off _ => off == 0x0348
  | .tsu, .tdcConversionDone .tsu _ _ _ _ _ => true
  | .phi, .tdcConversionDone .phi _ _ _ _ _ => true
  | .tsu, .beaconFuReceive .tsu _ _ _ => true
  | .phi, .beaconFuReceive .phi _ _ _ => true
  | .phi, .lighthouseObtainHt => true
  | .phi, .htEpoch _ _ => true
  | .phi, .modulePowerOn => true
  | .phi, .thermTrip _ => true
  | .phi, .inputUndervoltage _ => true
  | .phi, .inputOvervoltage _ => true
  | .phi, .presentPinBreak => true
  | .phi, .smbusConvertersOff _ _ => true
  | .phi, .smbusClearFaults _ _ => true
  | _, _ => false

/-- The transitions of the life-cycle state that R418 allows: the codes of R417 from and to. -/
def lcAllowed (old new : Nat) : Prop :=
  (old, new) ∈ [(0, 1), (1, 2), (2, 3), (3, 2)] ∨ (old ≠ 4 ∧ new = 4)

/-- The life-cycle state of each part is one of R417 and fits its 32 fuse rows: the last row is burnt only by `RETIRED`. -/
def State.lifeCycleOk (s : State) : Prop :=
  ∀ p, (s.part p).cfg.lcState ≤ 4 ∧ ((s.part p).cfg.lcRows ≤ 31 ∨ ((s.part p).cfg.lcRows = 32 ∧ (s.part p).cfg.lcState = 4))

end Sys2Proof.Machine
end

