-- ==== Sys2Proof/Certificates/Slice0/Obligations.lean ====
section
/-!
DEFINITION. The statements about the block, for the provers.
-/

open Sys2Proof Sys2Proof.Machine

/-- Start of the always-on supply, loss of the reference clock and a parity fault of HT (R14, R25): HT, `RATE_ADJ` and the time state
after a power-on; `FAULT` with the accumulator held. -/
def Obligations.TimePowerOnAndFault : Prop :=
  (∀ s : State, Answers .aonPowerOn s fun t =>
    t.tsu.time = {} ∧ t.tsu.rings = [] ∧ t.die = {} ∧ t.tsu.cfg.lcState = s.tsu.cfg.lcState ∧ t.tsu.cfg.lcRows = s.tsu.cfg.lcRows
      ∧ t.meter.eCum = s.meter.eCum ∧ t.meter.params = s.meter.params ∧ s.samePhi t ∧ t.out = s.out ∧ t.pending = s.pending)
  ∧ (∀ (s : State) (p : Part), Fires (.refClockLost p) s ((s.part p).time.refClk = true) fun t =>
    (t.part p).time.state = .fault ∧ (t.part p).time.refClk = false ∧ (t.part p).time.acc = (s.part p).time.acc
      ∧ (t.part p).rings = (s.part p).rings ∧ (t.part p).cfg = (s.part p).cfg ∧ t.die = s.die ∧ t.meter = s.meter ∧ t.mdl = s.mdl)
  ∧ (∀ (s : State) (p : Part), Fires (.htParity p) s ((s.part p).time.parityGood = true) fun t =>
    (t.part p).time.state = .fault ∧ (t.part p).time.parityGood = false ∧ (t.part p).time.acc = (s.part p).time.acc
      ∧ (t.part p).rings = (s.part p).rings ∧ (t.part p).cfg = (s.part p).cfg ∧ t.die = s.die ∧ t.meter = s.meter ∧ t.mdl = s.mdl)

/-- The ends of a holdover window, a hold and a slew, the return to the preferred plane, and the loss of beacons (R25 to R29, R53,
R59). -/
def Obligations.TimeStateChanges : Prop :=
  (∀ (s : State) (p : Part),
    Fires (.holdoverWindowExpiry p) s
      ((s.part p).time.state = .holdover ∧ (s.ns p - (s.part p).time.holdoverNs).toInt ≥ 100000000) fun t =>
    (t.part p).time.state = .degraded ∧ (t.part p).time.acc = (s.part p).time.acc
      ∧ (t.part p).time.rateAdj = (s.part p).time.rateAdj ∧ (t.part p).ports = (s.part p).ports ∧ t.die = s.die ∧ t.hub = s.hub
      ∧ t.meter = s.meter ∧ t.mdl = s.mdl ∧ t.out = s.out)
  ∧ (∀ (s : State) (p : Part),
    Fires (.htHoldEnd p) s ((s.part p).time.holding = true ∧ (s.part p).time.holdLeft = 0) fun t =>
    (t.part p).time = { (s.part p).time with holding := false } ∧ s.onlyTime p t)
  ∧ (∀ (s : State) (p : Part),
    Fires (.slewComplete p) s ((s.part p).time.slewAdj ≠ 0 ∧ (s.part p).time.slewLeft = 0) fun t =>
    (t.part p).time = { (s.part p).time with slewAdj := 0 } ∧ s.onlyTime p t)
  ∧ (∀ s : State, s.revert = true → s.tsu.time.state = .locked → s.tsu.time.planeSel ≠ s.planePref →
      s.standbyConditions = true → heldFor s.tsu.time.ns s.tsu.time.standbySince 1000000000 = true →
    Answers .planeRevert s fun t =>
    t.tsu.time.planeSel = s.planePref ∧ t.tsu.time.state = .locked ∧ t.tsu.time.acc = s.tsu.time.acc
      ∧ t.tsu.time.rateAdj = s.tsu.time.rateAdj ∧ t.tsu.ports = s.tsu.ports ∧ s.samePhi t ∧ t.die = s.die ∧ t.meter = s.meter)
  ∧ (∀ (s : State) (p : Part) (port : Nat), s.exchPort p port = true → (s.port p port).valid = true →
      (s.port p port).lstate ≠ .up → Answers (.beaconLoss p port) s fun t =>
    (t.port p port).valid = false ∧ (t.part p).time.acc = (s.part p).time.acc ∧ (t.part p).time.rateAdj = (s.part p).time.rateAdj
      ∧ t.die = s.die ∧ t.meter = s.meter ∧ t.mdl = s.mdl)

/-- A load of HT (R28), which a start of the always-on supply in the same cycle makes void (R437), a latch of the time status block (R37) and `HT_EPOCH` (R15, R19, R295): an accepted epoch is stored and put in force and
the saved HT is discarded; with `CLEAR` module storage is erased and the epoch in force stays. -/
def Obligations.TimeLoadAndEpoch : Prop :=
  (∀ (s : State) (w : W32), s.writeLost 0x0348 = false → Answers (.htLoad w) s fun t =>
    (s.tsu.time.state = .free → htNotBelow ((w ++ s.tsu.time.htLoadLow).setWidth 80) (s.ht .tsu) = true →
      t.ht .tsu = (w ++ s.tsu.time.htLoadLow).setWidth 80 ∧ t.tsu.time.htLoadRej = s.tsu.time.htLoadRej ∧ s.onlyTime .tsu t)
    ∧ (¬ (s.tsu.time.state = .free ∧ htNotBelow ((w ++ s.tsu.time.htLoadLow).setWidth 80) (s.ht .tsu) = true) →
      t.tsu.time = { s.tsu.time with htLoadRej := true } ∧ t.tsu.cfg = s.tsu.cfg ∧ t.tsu.ports = s.tsu.ports ∧ t.tsu.rings = s.tsu.rings
        ∧ t.die = s.die ∧ t.meter = s.meter ∧ s.samePhi t ∧ t.out = s.out))
  ∧ (∀ (s : State) (w : W32), s.writeLost 0x0348 = true → exec (.htLoad w) s = .next s)
  ∧ (∀ s : State, s.reaches .tsu 0x0300 4 → Answers (.htSnapGo .tsu) s fun t =>
    t.tsu.time.snapValid = true ∧ t.tsu.time.snap = s.timeBlock .tsu ∧ t.tsu.time.acc = s.tsu.time.acc ∧ s.onlyTime .tsu t)
  ∧ (∀ s : State, s.reaches .phi 0x1100 4 → Answers (.htSnapGo .phi) s fun t =>
    t.phi.time.snapValid = true ∧ t.phi.time.snap = s.timeBlock .phi ∧ t.phi.time.acc = s.phi.time.acc
      ∧ s.sameTsu t ∧ t.mdl = s.mdl)
  ∧ (∀ (s : State) (ring idx : Nat) (d : Desc), s.ready .phi ring idx 0x03 d → d.plBit 12 0 = false → d.pl 8 4 ≤ 999999999 →
      s.master = true → s.phi.time.state = .free → s.hub.lh.refValid = false →
    Answers (.htEpoch ring idx) s fun t =>
    t.hub.storage.epoch = some ⟨BitVec.ofNat 64 (d.pl 0 8), BitVec.ofNat 32 (d.pl 8 4)⟩ ∧ t.hub.storage.savedHt = none
      ∧ t.phi.time.epoch = ⟨BitVec.ofNat 64 (d.pl 0 8), BitVec.ofNat 32 (d.pl 8 4)⟩ ∧ t.phi.time.state = .locked
      ∧ t.phi.time.trace = .untraceable ∧ t.phi.time.acc = s.phi.time.acc ∧ t.desc? .phi ring idx = none ∧ s.sameTsu t)
  ∧ (∀ (s : State) (ring idx : Nat) (d : Desc), s.ready .phi ring idx 0x03 d → d.plBit 12 0 = true → s.lighthouse = true →
    Answers (.htEpochClear ring idx) s fun t =>
    t.hub.storage.epoch = none ∧ t.hub.storage.savedHt = none ∧ t.phi.time = s.phi.time ∧ t.desc? .phi ring idx = none ∧ s.sameTsu t)

/-- A lighthouse obtains HT (R19), loses and regains its reference (R17, R18), and saves HT (R416). -/
def Obligations.LighthouseSources : Prop :=
  (∀ (s : State) (e : Epoch) (h : Ht80), s.lighthouse = true → s.phi.time.state = .free → (s.port .phi s.sister).lstate ≠ .up →
      s.hub.storage.epoch = some e → s.hub.lh.refValid = false → s.hub.storage.savedHt = some h →
    Answers .lighthouseObtainHt s fun t =>
    t.phi.time.state = .locked ∧ t.phi.time.trace = .untraceable ∧ t.phi.time.epoch = e ∧ s.sameTsu t ∧ t.hub.storage = s.hub.storage
      ∧ t.mdl = s.mdl
      ∧ ((accOfHt h).toNat + 1000000000 * 2 ^ 48 ≤ 2 ^ 112 - 1 → s.phi.time.acc.toNat ≤ (accOfHt h).toNat + 1000000000 * 2 ^ 48 →
          (accOfHt h).toNat + 1000000000 * 2 ^ 48 < s.phi.time.acc.toNat + 2 ^ 111 →
          t.phi.time.acc.toNat = (accOfHt h).toNat + 1000000000 * 2 ^ 48))
  ∧ (∀ s : State,
    Fires .traceWindowExpiry s (s.lighthouse = true ∧ s.phi.time.trace = .holdover
        ∧ (s.ns .phi - s.hub.lh.traceLostNs).toInt ≥ 1000000000 * (s.traceWindowS : Int)) fun t =>
    t.phi.time = { s.phi.time with trace := .untraceable } ∧ s.onlyTime .phi t)
  ∧ (∀ s : State, s.lighthouse = true → s.master = true → s.phi.time.trace = .traceable → Answers .referenceLost s fun t =>
    t.phi.time = { s.phi.time with trace := .holdover, slewAdj := 0, slewLeft := 0 } ∧ t.hub.lh.refValid = false
      ∧ t.hub.lh.traceLostNs = s.ns .phi ∧ s.sameTsu t ∧ t.mdl = s.mdl ∧ t.out = s.out)
  ∧ (∀ s : State, s.lighthouse = true → s.master = true → s.hub.lh.ptpGood = true → s.phi.time.state = .locked →
    Answers .referenceValid s fun t =>
    t.phi.time = { s.phi.time with trace := .traceable } ∧ t.hub.lh.refValid = true ∧ s.sameTsu t ∧ t.mdl = s.mdl)
  ∧ (∀ s : State,
    Fires .htSaveTimer s (s.lighthouse = true ∧ s.phi.time.state = .locked
        ∧ (s.hub.storage.savedHt = none ∨ (s.ns .phi - s.hub.storage.savedNs).toInt ≥ 1000000000)) fun t =>
    t.hub.storage.savedHt = some (s.ht .phi) ∧ t.hub.storage.epoch = s.hub.storage.epoch ∧ t.phi = s.phi ∧ s.sameTsu t ∧ t.mdl = s.mdl
      ∧ t.out = s.out)
  ∧ (∀ s : State,
    Fires .managementPortFault s (s.lighthouse = true ∧ s.hub.lh.ptpPort = 0) fun t =>
    t.hub.lh.ptpPort = 1 ∧ t.hub.lh.ptpFault0 = true ∧ t.hub.lh.refValid = false ∧ t.phi.time.acc = s.phi.time.acc
      ∧ t.phi.time.state = s.phi.time.state ∧ t.hub.storage = s.hub.storage ∧ s.sameTsu t ∧ t.mdl = s.mdl ∧ t.out = s.out)

/-- What the lighthouse takes from the 1PPS edge and from PTP (R61, R65), what it sends (R63), the leap second (R16) and the 1PPS
output (R442). -/
def Obligations.LighthouseReference : Prop :=
  (∀ (s : State) (chan core c n : Nat), s.lighthouse = true → isVernier .phi chan = true → s.fastRuns .phi = true →
      s.armedIdle .phi chan core = true → vernierGood c n = true → ((s.chan .phi chan).core core).state ≠ 0 →
    Answers (.ppsEdge chan core c n) s fun t =>
    t.hub.lh.edge = some (stampOf (s.capture .phi)
        (tauVernier ((s.chan .phi chan).core core).lsb ((s.chan .phi chan).core core).ofs c n) - Config.chanConst true chan false false)
      ∧ t.phi.time = s.phi.time ∧ s.sameTsu t ∧ t.mdl = s.mdl ∧ t.hub.storage = s.hub.storage ∧ t.out = s.out)
  ∧ (∀ (s : State) (stamp ptp label : Int), s.hub.lh.edge = some stamp →
      ptp = s.hub.lh.ptpSecond.toNat * 65536000000000 + (stamp - s.hub.lh.ptpStamp.toNat) →
      label * 65536000000000 ≤ ptp + 32768000000000 → ptp + 32768000000000 < (label + 1) * 65536000000000 →
    (s.hub.lh.lostCyc ≠ some s.cyc →
      s.endEdge.hub.lh.ppsKnown = true ∧ s.endEdge.hub.lh.ppsOffset = stamp - htOfTaiSecond s.phi.time.epoch label.toNat
        ∧ (s.endEdge.hub.lh.ptpAgree = true ↔ (ptp - label * 65536000000000).natAbs ≤ 6553600)
        ∧ s.endEdge.hub.lh.edge = none ∧ s.endEdge.phi.time.acc = s.phi.time.acc ∧ s.endEdge.phi.time.state = s.phi.time.state
        ∧ s.sameTsu s.endEdge ∧ s.endEdge.hub.storage = s.hub.storage ∧ s.endEdge.out = s.out)
    ∧ (s.hub.lh.lostCyc = some s.cyc → s.endEdge = { s with hub.lh.edge := none }))
  ∧ (∀ s : State, s.lighthouse = true → s.master = false → s.hub.lh.ppsNew = true → (s.port .phi s.sister).lstate = .up →
      (s.port .phi s.sister).admin = .enabled → s.phi.configured = true → s.phi.cfg.lcState ≠ 4 →
    Answers .ppsOffsetSend s fun t =>
    (t.port .phi s.sister).queue.length = (s.port .phi s.sister).queue.length + 1 ∧ t.hub = { s.hub with lh := { s.hub.lh with ppsNew := false } }
      ∧ t.phi = { s.phi with ports := t.phi.ports } ∧ s.sameTsu t ∧ t.mdl = s.mdl ∧ t.out = s.out)
  ∧ (∀ (s : State) (port c b : Nat) (m : PtpMsg) (slave tt ft : Bool) (utc : W16) (l61 l59 : Bool), s.master = true →
      port = s.hub.lh.ptpPort → port < 2 → m.domain = s.ptpDomain → m.udp = s.ptpUdp → m.multicast = true →
      m.body = .announce slave tt ft utc l61 l59 → Answers (.ptpMessage port c b m) s fun t =>
    t.phi.time.taiUtcS = utc ∧ t.phi.time.leap61 = l61 ∧ t.phi.time.leap59 = l59 ∧ t.hub.lh.ptpSlave = slave
      ∧ t.hub.lh.refValid = (s.hub.lh.refInputs && slave && tt && ft && s.hub.lh.ptpAgree)
      ∧ t.phi.time.acc = s.phi.time.acc ∧ t.phi.time.state = s.phi.time.state ∧ s.sameTsu t ∧ t.mdl = s.mdl ∧ t.out = s.out)
  ∧ (∀ s : State, s.master = true → s.phi.time.leap61 = true →
      ((taiOf s.phi.time.epoch (s.ht .phi) / 65536000000000 : Nat) - s.phi.time.taiUtcS.toInt) % 86400 = 1 →
    Answers .leapSecond s fun t =>
    t.phi.time = { s.phi.time with taiUtcS := s.phi.time.taiUtcS + 1, leap61 := false } ∧ s.onlyTime .phi t)
  ∧ (∀ (s : State) (above : Nat), above = taiOf s.phi.time.epoch (s.ht .phi) % 65536000000000 →
      Fires .ppsOutEdge s ((s.phi.time.state = .locked ∨ s.phi.time.state = .holdover) ∧ (above : Int) * 2 ^ 32 < s.phi.time.inc) fun t =>
    t.out = s.out ++ [.ppsOut (s.ns .phi - BitVec.ofNat 64 (above / 65536))] ∧ t.phi.time = s.phi.time ∧ t.phi.ports = s.phi.ports
      ∧ t.phi.rings = s.phi.rings ∧ s.sameTsu t ∧ t.hub = s.hub ∧ t.mdl = s.mdl)

/-- Training of a port (R40, R41): signal, clock recovery, block lock, the retry of a failed link, block lock after a turn (R55); `LINK_IDENT`
is sent every 10 us, and of two identical valid frames in a row the first is held and the second takes the port to `CAL`, on a spare tail
the port of its bundle that knows the peer (R68). -/
def Obligations.LinkTraining : Prop :=
  (∀ (s : State) (p : Part) (port : Nat),
    Fires (.signalDetected p port) s ((s.portExists p port = true ∨ s.tailPorts p port ≠ []) ∧ s.portsTrain p = true ∧ s.clusterShut p port = false
        ∧ (s.port p port).lstate = .down ∧ (s.port p port).admin = .enabled ∧ (s.port p port).cableFault = false
        ∧ (s.port p port).linkFailed = false) fun t =>
    t.port p port = { s.port p port with lstate := .signal, entryNs := s.ns p } ∧ s.onlyPorts p t
      ∧ ∀ j, j ≠ port → t.port p j = s.port p j)
  ∧ (∀ (s : State) (p : Part) (port : Nat),
    Fires (.clockRecoveryLock p port) s ((s.port p port).lstate = .signal) fun t =>
    t.port p port = { s.port p port with lstate := .blockLock, entryNs := s.ns p } ∧ s.onlyPorts p t
      ∧ ∀ j, j ≠ port → t.port p j = s.port p j)
  ∧ (∀ (s : State) (p : Part) (port : Nat),
    Fires (.blockLockAcquired p port) s ((s.port p port).lstate = .blockLock) fun t =>
    (t.port p port).headersOk = true ∧ (t.port p port).blockLock = true
      ∧ (t.port p port).lstate = (if s.tdcReady p (s.portChan p port) then .ident else .blockLock) ∧ s.onlyPorts p t
      ∧ ∀ j, j ≠ port → t.port p j = s.port p j)
  ∧ (∀ (s : State) (p : Part) (port : Nat),
    Fires (.linkRetryTimer p port) s ((s.port p port).lstate = .down ∧ (s.port p port).linkFailed = true
        ∧ (s.ns p - (s.port p port).retryNs).toInt ≥ 10000000000) fun t =>
    t.port p port = { s.port p port with linkFailed := false } ∧ s.onlyPorts p t ∧ ∀ j, j ≠ port → t.port p j = s.port p j)
  ∧ (∀ (s : State) (p : Part) (port : Nat),
    Fires (.blockLockAfterTurn p port) s ((s.port p port).waitLock = true) fun t =>
    t.port p port = { s.port p port with waitLock := false } ∧ s.onlyPorts p t ∧ ∀ j, j ≠ port → t.port p j = s.port p j)
  ∧ (∀ (s : State) (p : Part) (port : Nat), (s.port p port).lstate = .ident →
      ((s.port p port).identSentNs = none ∨ ∃ x, (s.port p port).identSentNs = some x ∧ (s.ns p - x).toInt ≥ 10000) →
      s.maySend p (.linkIdent (s.identOf p port)) = true → (s.port p port).waitLock = false →
    Answers (.linkIdentSend p port) s fun t =>
    (∃ f : Frame, f.pl = .linkIdent (s.identOf p port) ∧ t.out = s.out ++ [.frame p port f])
      ∧ (t.port p port).identSentNs = some (s.ns p) ∧ (t.port p port).lstate = .ident ∧ (t.part p).time = (s.part p).time)
  ∧ (∀ (s : State) (p : Part) (port : Nat) (e : Env) (f : IdentPl), port < 528 → (s.port p port).lstate = .ident →
      e.plane = s.expectedPlane p port → s.topologyOk p port f = true → (s.rxCount p port e).dieTwice p port f = false →
    Answers (.linkIdentReceive p port e f) s fun t =>
    ((s.port p port).identHeld = some f → (t.port p port).lstate = .cal ∧ (t.port p port).peer = some f
        ∧ (t.port p port).entryNs = s.ns p)
    ∧ ((s.port p port).identHeld ≠ some f → (t.port p port).lstate = .ident ∧ (t.port p port).identHeld = some f)
    ∧ t.out = s.out ∧ (t.part p).time = (s.part p).time ∧ (t.part p).rings = (s.part p).rings ∧ t.die = s.die ∧ t.hub = s.hub
    ∧ ∀ j, j ≠ port → t.port p j = s.port p j)
  ∧ (∀ (s : State) (tail port : Nat) (e : Env) (f : IdentPl), 528 ≤ tail → s.identPort .phi tail f = some port → port < 528 →
      (s.port .phi tail).lstate = .ident → e.plane = s.expectedPlane .phi port → s.topologyOk .phi port f = true →
      s.dieTwice .phi port f = false → (s.port .phi tail).identHeld = some f →
    Answers (.linkIdentReceive .phi tail e f) s fun t =>
    (t.port .phi port).lstate = .cal ∧ (t.port .phi port).channel = spareChannel .phi tail ∧ (t.port .phi port).cableFault = false
      ∧ (t.port .phi port).peer = some f ∧ (t.port .phi tail).lstate = .down ∧ t.out = s.out ∧ t.phi.time = s.phi.time
      ∧ t.hub = s.hub ∧ ∀ j, j ≠ port → j ≠ tail → t.port .phi j = s.port .phi j)

/-- Failures of a link (R39, R40, R44, R45, R47, R48): a training state's time limit, loss of block lock of an `UP` port, block errors, frames of
unknown type or with a wrong `REL`, a corrupt frame, which is answered with a `NAK`. -/
def Obligations.LinkErrors : Prop :=
  (∀ (s : State) (p : Part) (port : Nat), (s.port p port).lstate = .signal → (s.ns p - (s.port p port).entryNs).toInt ≥ 1000000 →
      (s.port p port).fails < 2 → (s.port p port).valid = false →
    Answers (.linkTrainTimeout p port) s fun t =>
    (t.port p port).lstate = .down ∧ (t.port p port).fails = (s.port p port).fails + 1 ∧ (t.port p port).linkFailed = false
      ∧ (t.part p).time = (s.part p).time ∧ t.die = s.die ∧ t.meter = s.meter ∧ t.mdl = s.mdl)
  ∧ (∀ (s : State) (p : Part) (port : Nat), (s.port p port).lstate = .up → (s.port p port).waitLock = false →
      (s.port p port).lossNs = none → (s.port p port).valid = false →
    Answers (.blockLockLost p port) s fun t =>
    (t.port p port).lstate = .down ∧ (t.port p port).lossNs = some (s.ns p) ∧ (t.port p port).replay = [] ∧ (t.port p port).queue = []
      ∧ (t.part p).time = (s.part p).time ∧ t.die = s.die ∧ t.meter = s.meter ∧ t.mdl = s.mdl)
  ∧ (∀ (s : State) (p : Part) (port : Nat) (b : BitVec 58) (l : List Block66), (s.port p port).receives = true → 0 < rxBad b l →
    Answers (.frameReceiveError p port ⟨b, l⟩) s fun t =>
    t.port p port = { s.port p port with blockErrors := (s.port p port).blockErrors + rxBad b l } ∧ s.onlyLink p t
      ∧ ∀ j, j ≠ port → t.port p j = s.port p j)
  ∧ (∀ (s : State) (p : Part) (port : Nat) (b : BitVec 58) (l : List Block66), (s.port p port).receives = true → rxBad b l = 0 →
      checkFrame (rxBytes b l) = .unknown →
    Answers (.frameReceiveError p port ⟨b, l⟩) s fun t =>
    t.port p port = { s.port p port with unknownFrames := (s.port p port).unknownFrames + 1 } ∧ s.onlyLink p t
      ∧ ∀ j, j ≠ port → t.port p j = s.port p j)
  ∧ (∀ (s : State) (p : Part) (port : Nat) (b : BitVec 58) (l : List Block66), (s.port p port).receives = true → rxBad b l = 0 →
      checkFrame (rxBytes b l) = .wrongRel →
    Answers (.frameReceiveError p port ⟨b, l⟩) s fun t =>
    t.port p port = { s.port p port with blockErrors := (s.port p port).blockErrors + 1 } ∧ s.onlyLink p t
      ∧ ∀ j, j ≠ port → t.port p j = s.port p j)
  ∧ (∀ (s : State) (p : Part) (port : Nat) (b : BitVec 58) (l : List Block66), (s.port p port).receives = true → rxBad b l = 0 →
      checkFrame (rxBytes b l) = .corrupt → (s.port p port).rxRetry = false → (s.port p port).beaconFail = false →
      (p = .tsu → (byteAt (rxBytes b l) 0).toNat % 64 ≠ 0x11) →
      s.maySend p (.linkCtrl { code := 2, arg := (s.port p port).rxNext }) = true →
    Answers (.frameReceiveError p port ⟨b, l⟩) s fun t =>
    (t.port p port).rxRetry = !((byteAt (rxBytes b l) 0).toNat % 64 == 3 || (byteAt (rxBytes b l) 0).toNat % 64 == 4
          || (byteAt (rxBytes b l) 0).toNat % 64 == 5)
      ∧ (t.port p port).lstate = (s.port p port).lstate
      ∧ (∃ f : Frame, f.pl = .linkCtrl { code := 2, arg := (s.port p port).rxNext } ∧ t.out = s.out ++ [.frame p port f])
      ∧ (t.part p).time = (s.part p).time)

/-- Lane retry (R47): acknowledgement and its timer, `NAK` and the retransmission time-out. -/
def Obligations.LinkRetry : Prop :=
  (∀ (s : State) (p : Part) (port : Nat) (e : Env), (s.port p port).receives = true → Answers (.linkCtrlAck p port e) s fun t =>
    t.port p port = { s.port p port with replay := ackReplay e.lack (s.port p port).replay } ∧ t.out = s.out
      ∧ (t.part p).time = (s.part p).time ∧ t.die = s.die ∧ t.hub = s.hub ∧ ∀ j, j ≠ port → t.port p j = s.port p j)
  ∧ (∀ (s : State) (p : Part) (port : Nat) (e : Env), (s.port p port).receives = true → Answers (.linkCtrlRetrain p port e) s fun t =>
    t.port p port = { s.port p port with replay := ackReplay e.lack (s.port p port).replay } ∧ t.out = s.out
      ∧ (t.part p).time = (s.part p).time ∧ t.die = s.die ∧ t.hub = s.hub ∧ ∀ j, j ≠ port → t.port p j = s.port p j)
  ∧ (∀ (s : State) (p : Part) (port : Nat) (e : Env) (arg : Byte) (x : Sent), (s.port p port).receives = true →
      ackReplay e.lack (s.port p port).replay = [x] → x.frame.lseq = arg → x.retx = false →
    Answers (.linkCtrlNak p port e arg) s fun t =>
    t.out = s.out ++ [.frame p port { x.frame with retx := true, lack := (s.port p port).rxNext - 1 }]
      ∧ (t.port p port).replay = [{ x with retx := true, sentNs := s.ns p }] ∧ (t.port p port).lstate = (s.port p port).lstate
      ∧ (t.part p).time = (s.part p).time ∧ t.die = s.die ∧ t.hub = s.hub)
  ∧ (∀ (s : State) (p : Part) (port : Nat) (x : W64), (s.port p port).ackOwed = some x → (s.ns p - x).toInt ≥ 1000 →
      (s.port p port).waitLock = false → s.maySend p (.linkCtrl { code := 1, arg := 0 }) = true →
    Answers (.linkAckTimer p port) s fun t =>
    (∃ f : Frame, f.pl = .linkCtrl { code := 1, arg := 0 } ∧ f.lack = (s.port p port).rxNext - 1
        ∧ t.out = s.out ++ [.frame p port f])
      ∧ (t.port p port).ackOwed = none ∧ (t.part p).time = (s.part p).time ∧ t.die = s.die ∧ t.hub = s.hub)
  ∧ (∀ (s : State) (p : Part) (port : Nat) (x : Sent) (l : List Sent), (s.port p port).replay = x :: l →
      (s.ns p - x.sentNs).toInt ≥ 4000 → (∀ y ∈ x :: l, y.retx = false) → (s.port p port).waitLock = false →
    Answers (.retxTimeout p port) s fun t =>
    (t.port p port).replay = (x :: l).map (fun y => { y with retx := true, sentNs := s.ns p })
      ∧ t.out.length = s.out.length + (l.length + 1) ∧ (t.part p).time = (s.part p).time ∧ t.die = s.die ∧ t.hub = s.hub)

/-- Transmission (R42, R47, R175): the lane sends the queued frame whose turn it is, numbered and kept for retransmission. -/
def Obligations.LaneTransmission : Prop :=
  ∀ (s : State) (p : Part) (port i cls : Nat) (f : Frame), (s.port p port).lstate = .up → (s.port p port).waitLock = false →
      s.pickFrame p port = some (i, cls) → (s.port p port).queue[i]? = some f →
    Answers (.laneTransmit p port) s fun t =>
    (s.out ++ [.frame p port { f with lseq := (s.port p port).txSeq, lack := (s.port p port).rxNext - 1, retx := false }]) <+: t.out
      ∧ (t.port p port).queue = (s.port p port).queue.eraseIdx i ∧ (t.port p port).txSeq = (s.port p port).txSeq + 1
      ∧ (t.port p port).replay.length = (s.port p port).replay.length + 1 ∧ (t.part p).time = (s.part p).time
      ∧ t.hub = s.hub ∧ t.meter = s.meter ∧ t.mdl = s.mdl

/-- The parent's and the child's part in a beacon exchange (R50, R51, R71, R75): the frames sent, what each end keeps, and an exchange
abandoned. -/
def Obligations.BeaconExchange : Prop :=
  (∀ (s : State) (p : Part) (port core : Nat), s.exchPort p port = true → (s.port p port).exchanges = true →
      (s.port p port).exch = none → s.readyBefore p (s.ns p - BitVec.ofNat 64 ((s.ns p - BitVec.ofNat 64 (beaconPhase p port (s.portExp p port))).toNat % 2 ^ s.portExp p port)) = true →
      (s.part p).configured = true → (s.part p).cfg.lcState ≠ 4 →
      (s.ns p - BitVec.ofNat 64 (beaconPhase p port (s.portExp p port))).toNat % 2 ^ s.portExp p port < 16 →
      (s.port p port).xid = 0 →
    Answers (.beaconReqSend p port core) s fun t =>
    (∃ f : Frame, f.pl = .beaconReq ((s.port p port).reqOf 1) ∧ t.out = s.out ++ [.frame p port f])
      ∧ (t.port p port).xid = 1 ∧ (t.port p port).lastReqNs = s.ns p ∧ (t.part p).time = (s.part p).time ∧ t.die = s.die
      ∧ t.hub = s.hub)
  ∧ (∀ (s : State) (p : Part) (port core : Nat) (e : Env) (f : ReqPl), (s.port p port).exchanges = true → s.parentPort p port = true →
      (s.port p port).beaconFail = false →
    Answers (.beaconReqReceive p port core e f) s fun t =>
    (∃ a : Answer, (t.port p port).answer = some a ∧ a.xid = f.xid ∧ a.swap = f.swap ∧ a.recvNs = s.ns p ∧ a.sentNs = none)
      ∧ t.out = s.out ∧ (t.part p).time = (s.part p).time ∧ t.die = s.die ∧ t.hub = s.hub)
  ∧ (∀ (s : State) (p : Part) (port core : Nat) (a : Answer), (s.port p port).answer = some a → a.sentNs = none →
      (s.port p port).exchanges = true → (s.ns p - a.recvNs).toInt ≥ 1000 → (s.ns p - a.recvNs).toInt ≤ 2000 →
      (s.part p).configured = true → (s.part p).cfg.lcState ≠ 4 →
    Answers (.beaconRespSend p port core) s fun t =>
    (∃ f : Frame, f.pl = .beaconResp { xid := a.xid, swap := a.swap } ∧ t.out = s.out ++ [.frame p port f])
      ∧ (∃ b : Answer, (t.port p port).answer = some b ∧ b.xid = a.xid ∧ b.sentNs = some (s.ns p))
      ∧ (t.part p).time = (s.part p).time ∧ t.die = s.die ∧ t.hub = s.hub)
  ∧ (∀ (s : State) (p : Part) (port core : Nat) (e : Env) (f : RespPl) (x : Exchange), (s.port p port).exchanges = true →
      s.measureShut p = false → (s.port p port).exch = some x → x.xid = f.xid → x.swap = f.swap →
    Answers (.beaconRespReceive p port core e f) s fun t =>
    (t.port p port).exch =
        (if ((s.rxCount p port e).startConv p (s.portChan p port) 2 core (.t4 port) (s.pairY p port false)).1 then
          some { x with t4Acc := (s.part p).time.acc, t4Cycles := (s.part p).time.cycles, t4Rate := (s.part p).time.rateAdj }
        else none)
      ∧ t.out = s.out ∧ (t.part p).time = (s.part p).time ∧ t.die = s.die ∧ t.hub = s.hub)
  ∧ (∀ (s : State) (p : Part) (port : Nat) (a : Answer) (x : W64) (v2 v3 : Ht80), (s.port p port).answer = some a →
      a.sentNs = some x → a.failed = false → a.t2 = some v2 → a.t3 = some v3 → (s.ns p - x).toInt ≤ 8000 →
      (s.port p port).exchanges = true → (s.part p).configured = true → (s.part p).cfg.lcState ≠ 4 →
    Answers (.beaconFuSend p port) s fun t =>
    (∃ f : Frame, ∃ g : FuPl, f.pl = .beaconFu g ∧ g.xid = a.xid ∧ g.valid = true ∧ g.t2 = v2 ∧ g.t3 = v3
        ∧ g.pstate = BitVec.ofNat 3 (s.part p).time.state.code ∧ t.out = s.out ++ [.frame p port f])
      ∧ (t.port p port).answer = none ∧ (t.part p).time = (s.part p).time ∧ t.die = s.die ∧ t.hub = s.hub)
  ∧ (∀ (s : State) (p : Part) (port : Nat) (e : Env) (f : FuPl) (x : Exchange), (s.port p port).exchanges = true →
      s.exchPort p port = true → s.measureShut p = false → (s.port p port).exch = some x → x.xid = f.xid → x.swap = f.swap →
      x.t4 = none → (f.pstate = 2 ∨ f.pstate = 3 ∨ (s.port p port).valid = false) →
    Answers (.beaconFuReceive p port e f) s fun t =>
    (t.port p port).exch = some { x with fu := some f } ∧ (t.port p port).lastPstate = f.pstate ∧ t.out = s.out ∧ (t.part p).time = (s.part p).time ∧ t.die = s.die
      ∧ t.hub = s.hub)
  ∧ (∀ (s : State) (p : Part) (port : Nat) (x : Exchange), (s.port p port).exch = some x → (s.ns p - x.startNs).toInt ≥ 16000 →
      (s.port p port).beaconFail = false →
    Answers (.beaconExchangeAbandon p port) s fun t =>
    t.port p port = { s.port p port with exch := none, consec := 0 } ∧ s.onlyPorts p t ∧ ∀ j, j ≠ port → t.port p j = s.port p j)

/-- θ and the delay of a complete exchange of a calibration in normal direction (R51): the four stamps and `A` as the spec combines
them. -/
def Obligations.BeaconTheta : Prop :=
  ∀ (s : State) (p : Part) (port : Nat) (e : Env) (f : FuPl) (x : Exchange) (t1 t4 : Ht80) (cal : Calib),
      (s.port p port).exchanges = true → s.exchPort p port = true → s.measureShut p = false → (s.port p port).exch = some x →
      (s.port p port).beaconFail = false → x.xid = f.xid → x.swap = f.swap → x.t1 = some t1 → x.t4 = some t4 → f.valid = true → (f.pstate = 2 ∨ f.pstate = 3) →
      x.swap = false → (s.port p port).calib = some cal → cal.cur = [] → cal.quads < 1024 →
    Answers (.beaconFuReceive p port e f) s fun t =>
    (t.port p port).lastTheta
        = (((t4.toNat : Int) - f.t3.toNat) - ((f.t2.toNat : Int) - t1.toNat) + (s.port p port).asym).tdiv 2
      ∧ (t.port p port).lastDelay = (((f.t2.toNat : Int) - t1.toNat) + ((t4.toNat : Int) - f.t3.toNat)).tdiv 2
      ∧ (t.port p port).exch = none ∧ (t.port p port).lastPstate = f.pstate ∧ (t.part p).time.acc = (s.part p).time.acc

/-- Asymmetry calibration (R55 to R57): its frames, its end after 1,024 quads, its timer, and the host's command (R295). -/
def Obligations.AsymmetryCalibration : Prop :=
  (∀ (s : State) (p : Part) (port : Nat), s.childPort p port = true → (s.port p port).lstate = .cal → (s.port p port).calib = none →
      s.calibFree p port = true →
    Answers (.linkCtrlCalStart p port none) s fun t =>
    (∃ c : Calib, (t.port p port).calib = some c ∧ c.quads = 0 ∧ c.attempt = 1) ∧ (t.port p port).calRun = true ∧ t.portExp p port = 14
      ∧ (t.part p).time.acc = (s.part p).time.acc ∧ t.die = s.die ∧ t.hub = s.hub)
  ∧ (∀ (s : State) (p : Part) (port : Nat) (b : Bool), s.childPort p port = true → (s.port p port).calib.isSome = true →
      (s.port p port).waitLock = false → (s.port p port).exch = none → (s.port p port).swapped ≠ b →
      (s.part p).configured = true → (s.part p).cfg.lcState ≠ 4 →
    Answers (.linkCtrlTurn p port none b) s fun t =>
    (∃ f : Frame, f.pl = .linkCtrl { code := 5, arg := if b then 1 else 0 } ∧ t.out = s.out ++ [.frame p port f])
      ∧ (t.port p port).swapped = b ∧ (t.port p port).waitLock = true ∧ (t.part p).time = (s.part p).time)
  ∧ (∀ (s : State) (p : Part) (port : Nat), s.childPort p port = true → (s.port p port).exchanges = true →
      (s.port p port).calib = none → (s.port p port).calRun = true →
      (s.part p).configured = true → (s.part p).cfg.lcState ≠ 4 →
    Answers (.linkCtrlCalEnd p port none) s fun t =>
    (∃ f : Frame, f.pl = .linkCtrl { code := 4, arg := 0 } ∧ t.out = s.out ++ [.frame p port f])
      ∧ (t.port p port).swapped = false ∧ (t.port p port).calRun = false ∧ t.portExp p port = s.beaconExp p
      ∧ (t.port p port).waitLock = (s.port p port).swapped ∧ (t.part p).time = (s.part p).time)
  ∧ (∀ (s : State) (p : Part) (port : Nat) (c : Calib), (s.port p port).calib = some c → c.quads = 1024 → c.attempt = 1 →
      (1024 * c.sumSq - c.sumA * c.sumA) * 1000000 ≤ (8 * 65536 * 1024) * (8 * 65536 * 1024) → (c.sumA.tdiv 1024).natAbs ≤ 65536 →
      tabGet? (s.port p port).asymBy (s.portChan p port) = none → (s.port p port).lstate = .up → (s.port p port).recalRing = none →
    Answers (.asymCalComplete p port) s fun t =>
    (t.port p port).asym = c.sumA.tdiv 1024 ∧ tabGet? (t.port p port).asymBy (s.portChan p port) = some (c.sumA.tdiv 1024) ∧ (t.port p port).calib = none
      ∧ (t.port p port).asymNs = s.ns p ∧ (t.part p).time.acc = (s.part p).time.acc ∧ t.out = s.out ∧ t.die = s.die ∧ t.hub = s.hub)
  ∧ (∀ (s : State) (port : Nat), port < 2 → s.asymRecalS ≠ 0 → (s.port .tsu port).lstate = .up → (s.port .tsu port).calib = none →
      (s.port .tsu port).waitLock = false → (s.ns .tsu - (s.port .tsu port).asymNs).toInt ≥ 1000000000 * (s.asymRecalS : Int) →
      (s.port .tsu (otherPort port)).lstate = .up → (s.port .tsu (otherPort port)).calib = none →
    Answers (.asymRecalTimer port) s fun t =>
    (∃ c : Calib, (t.port .tsu port).calib = some c ∧ c.quads = 0 ∧ c.recal = true) ∧ t.portExp .tsu port = 14
      ∧ t.tsu.time.acc = s.tsu.time.acc ∧ s.samePhi t ∧ t.die = s.die)
  ∧ (∀ (s : State) (p : Part) (ring idx port : Nat) (d : Desc), s.ready p ring idx 0x04 d → d.pl 0 2 = port →
      ((p = .tsu ∧ port < 2 ∧ (s.port .tsu (otherPort port)).lstate = .up) ∨ (p = .phi ∧ 512 ≤ port ∧ port < 528)) →
      s.childPort p port = true → (s.port p port).lstate = .up → (s.port p port).calib = none → s.calibFree p port = true →
      s.measureShut p = false →
    Answers (.linkRecal p ring idx) s fun t =>
    (∃ c : Calib, (t.port p port).calib = some c ∧ c.quads = 0 ∧ c.recal = true) ∧ (t.port p port).recalRing = some (ring, idx)
      ∧ t.portExp p port = 14 ∧ (t.part p).time.acc = (s.part p).time.acc ∧ t.die = s.die ∧ t.meter = s.meter)
  ∧ (∀ (s : State) (ring idx : Nat) (d : Desc), s.ready .tsu ring idx 0x04 d → s.measureShut .tsu = true →
      (s.engine .tsu 4).heldItems.length < 64 → Answers (.linkRecal .tsu ring idx) s fun t =>
    (t.engine .tsu 4).heldItems = (s.engine .tsu 4).heldItems ++ [leBytes 2 ring ++ leBytes 4 idx]
      ∧ (t.desc? .tsu ring idx).isSome = true ∧ t.tsu.ports = s.tsu.ports ∧ t.tsu.time = s.tsu.time ∧ t.die = s.die ∧ s.samePhi t)

/-- `TIME_INFO` (R15, R62, R64) and `LIGHTHOUSE_MASTER` (R295): what is sent, what a TSU takes over, and the change of master. -/
def Obligations.TimeInfoAndMaster : Prop :=
  (∀ (s : State) (port : Nat), (s.port .phi port).lstate = .up → (s.port .phi port).admin = .enabled →
      s.towards .phi port = false → (s.port .phi port).infoLast ≠ some (s.infoOf 0) → s.phi.configured = true → s.phi.cfg.lcState ≠ 4 →
    Answers (.timeInfoSend port) s fun t =>
    (t.port .phi port).queue.map (·.pl) = (s.port .phi port).queue.map (·.pl) ++ [.timeInfo (s.infoOf 0)]
      ∧ (t.port .phi port).infoLast = some (s.infoOf 0) ∧ (t.port .phi port).infoSentNs = s.ns .phi ∧ s.onlyPorts .phi t)
  ∧ (∀ (s : State) (port : Nat) (e : Env) (f : InfoPl), (s.port .tsu port).lstate = .up → (s.port .tsu port).waitLock = false →
      e.lseq = (s.port .tsu port).rxNext → e.retx = false → port = s.tsu.time.planeSel.toNat →
    Answers (.timeInfoReceive .tsu port e f) s fun t =>
    t.tsu.time = { s.tsu.time with trace := traceOf f.trace, leap61 := f.leap61, leap59 := f.leap59, taiUtcS := f.taiUtc,
                                   epoch := ⟨f.epochS, f.epochNs⟩, masterPlane := f.masterPlane }
      ∧ (t.port .tsu port).rxNext = (s.port .tsu port).rxNext + 1 ∧ s.samePhi t ∧ t.die = s.die ∧ t.out = s.out)
  ∧ (∀ (s : State) (ring idx : Nat) (d : Desc), s.ready .phi ring idx 0x05 d → s.lighthouse = true → s.master = false →
      bit1 (d.plBit 0 0) = s.phiPlane →
    Answers (.lighthouseMaster ring idx) s fun t =>
    t.phi.time.masterPlane = s.phiPlane ∧ t.phi.time.acc = s.phi.time.acc ∧ t.phi.time.state = s.phi.time.state
      ∧ (s.hub.lh.refInputs = false → s.phi.time.trace ≠ .traceable → t.phi.time = { s.phi.time with masterPlane := s.phiPlane })
      ∧ t.desc? .phi ring idx = none ∧ s.sameTsu t ∧ t.mdl = s.mdl)

/-- The TDC channels (R73 to R85): a receive stamp reaches its exchange, accepted tables and constants replace the old ones, the calibration
timers; each mode of a host measurement starts with the parameters of its descriptor, and a complete set, or one cut off by its time limit,
is written and completed. -/
def Obligations.TdcChannels : Prop :=
  (∀ (s : State) (p : Part) (chan input a b port : Nat) (cv : Conv) (an : Answer),
      (s.chan p chan).convs.find? (fun x => x.input == input) = some cv → isVernier p chan = false → cv.use = .t2 port →
      cv.cyc + 2 ≤ s.cyc → a < 32 → b < 16 → cv.tabState ≠ 0 → (s.port p port).answer = some an →
    Answers (.tdcConversionDone p chan input a b true) s fun t =>
    (t.port p port).answer = some { an with t2 := some (BitVec.ofInt 80
        (stampOf cv.cap (tauMulti cv.centre a b) - Config.chanConst (isPhi p) chan false cv.pairY)) }
      ∧ (t.chan p chan).convs = (s.chan p chan).convs.erase cv ∧ t.out = s.out ∧ (t.part p).time = (s.part p).time ∧ t.die = s.die
      ∧ t.hub = s.hub)
  ∧ (∀ (s : State) (p : Part) (chan : Nat) (hs : List (List Nat)), chanExists p chan = true → isVernier p chan = false →
      s.fastRuns p = true → hs.length = 9 → (s.chan p chan).calRun = true → (s.chan p chan).altSource = false →
      (s.chan p chan).attempt = 0 → (s.part p).tdc.srcFailed.contains (s.sourceOf p chan) = false →
      (∀ h ∈ hs, (densityTable h (nb (s.sourceOf p chan != ownSource p chan)) (s.ns p)).2 = true
        ∧ (densityTable h (nb (s.sourceOf p chan != ownSource p chan)) (s.ns p)).1.dnlMax < 7812) →
    Answers (.codeDensityRunComplete p chan hs) s fun t =>
    (∀ i h, hs[i]? = some h → (t.chan p chan).table i
        = (densityTable h (nb (s.sourceOf p chan != ownSource p chan)) (s.ns p)).1) ∧ (t.chan p chan).calRun = false
      ∧ (t.chan p chan).lastCalNs = s.ns p ∧ (t.part p).time = (s.part p).time ∧ t.die = s.die)
  ∧ (∀ (s : State) (p : Part) (chan core : Nat) (sums : List Nat), chanExists p chan = true → isVernier p chan = true →
      s.fastRuns p = true → core < 3 → sums.length = 4 → core ≠ ((s.chan p chan).rotateDue s.cyc).calCore → ((s.chan p chan).core core).state = 0 →
      ((s.chan p chan).core core).attempt = 0 →
      2192 * 2 ^ 32 ≤ (vernierFit sums).1 * 10000000 → (vernierFit sums).1 * 10000000 ≤ 2692 * 2 ^ 32 →
      (vernierFit sums).2.2 * 1000 ≤ 2 ^ 32 → (((vernierFit sums).1 * 1000000000).tdiv (2 ^ 32) - 244200).natAbs < 12000 →
    Answers (.vernierCalComplete p chan core sums) s fun t =>
    ((t.chan p chan).core core).lsb = (vernierFit sums).1.toNat ∧ ((t.chan p chan).core core).ofs = (vernierFit sums).2.1
      ∧ ((t.chan p chan).core core).fitRes = (vernierFit sums).2.2 ∧ ((t.chan p chan).core core).state = 1
      ∧ (t.part p).time = (s.part p).time ∧ t.die = s.die)
  ∧ (∀ (s : State) (p : Part) (chan : Nat), chanExists p chan = true → isVernier p chan = false → s.tdcRecalS p ≠ 0 →
      (s.chan p chan).calRun = false → s.noSource p chan = false →
      (s.ns p - (s.chan p chan).schedNs).toInt ≥ 1000000000 * (s.tdcRecalS p : Int) →
    Answers (.tdcRecalTimer p chan) s fun t =>
    (t.chan p chan).calRun = true ∧ (t.chan p chan).attempt = 0 ∧ (t.chan p chan).convs = (s.chan p chan).convs
      ∧ (t.part p).ports = (s.part p).ports ∧ (t.part p).time = (s.part p).time ∧ t.die = s.die ∧ t.hub = s.hub ∧ t.out = s.out)
  ∧ (∀ (s : State) (p : Part) (centi : Int), Answers (.temperatureMove p centi) s fun t =>
    (t.part p).tdc.temp = centi
      ∧ (∀ ch c, tabGet? (s.part p).tdc.chans ch = some c → isVernier p ch = false → (centi - c.calTemp).natAbs > 400 →
          s.noSource p ch = false → (t.chan p ch).calRun = true)
      ∧ (p = .tsu → (centi - s.die.spine.calTemp).natAbs > 400 → s.spineChan = true → t.die.spine.calRun = true)
      ∧ (t.part p).time = (s.part p).time
      ∧ ((s.part p).tdc.srcFailed = [] → (t.part p).ports = (s.part p).ports ∧ t.hub = s.hub ∧ t.out = s.out))
  ∧ (∀ (s : State) (p : Part) (ring idx ch mode : Nat) (d : Desc), s.ready p ring idx 0x06 d → d.pl 0 2 = ch →
      d.plBits 2 1 0 3 = mode → s.measureShut p = false → measureBad p d = false → s.measureUnsupported p ch mode = false →
      ((mode == 1 && p == .tsu && 16 ≤ ch && ch < 32 && s.watchOn (ch - 16)) = false) → (s.chan p ch).meas = none →
      (s.chan p ch).failed = false → outOfUse (s.unit p (chanKind p ch) ch).state = false →
      (mode = 3 → isVernier p ch = false → s.noSource p ch = false) →
    ∀ c : Instr, ((mode = 0 ∧ c = .tdcMeasureInterval p ring idx) ∨ (mode = 1 ∧ c = .tdcMeasureFrequency p ring idx)
      ∨ (mode = 2 ∧ c = .tdcMeasureBeacon p ring idx) ∨ (mode = 3 ∧ c = .tdcMeasureCodeDensity p ring idx)) →
    Answers c s fun t =>
    (∃ m : Meas, (t.chan p ch).meas = some m ∧ m.ring = ring ∧ m.idx = idx ∧ m.mode = mode ∧ m.m = d.plBits 3 1 0 5
        ∧ m.gate = d.pl 6 2 ∧ m.prescale = d.plBits 5 1 0 3 ∧ m.startIn = d.plBits 4 1 0 4
        ∧ m.stopIn = d.plBits 4 1 4 4 ∧ m.timeoutUs = d.pl 8 4 ∧ m.addr = d.pl 12 8 ∧ m.startNs = s.ns p ∧ m.samples = [])
      ∧ (mode = 3 → isVernier p ch = false → (t.chan p ch).calRun = true)
      ∧ (t.part p).time = (s.part p).time ∧ t.die = s.die ∧ t.meter = s.meter)
  ∧ (∀ (s : State) (p : Part) (chan : Nat) (starts : List RawEdge) (ends : List (List RawEdge)) (m : Meas) (d : Desc)
      (g : List Int) (above stale : Bool) (t0 : W64), (s.chan p chan).meas = some m → m.mode ≠ 3 →
      s.measSamples p chan m (2 ^ m.m) (edgesOf starts ends) = (g, above, stale, t0) → g.length = 2 ^ m.m →
      s.measEdges p chan m (edgesOf starts ends) = true → s.desc? p m.ring m.idx = some d →
    Answers (.tdcMeasureComplete p chan starts ends) s fun t =>
    (s.out ++ [.dma p m.addr (resultRecord (statsOf g) (2 ^ m.m) m.m m.mode 0 above stale t0)]) <+: t.out
      ∧ (t.chan p chan).meas = none ∧ t.desc? p m.ring m.idx = none ∧ (t.part p).time = (s.part p).time ∧ t.die = s.die)
  ∧ (∀ (s : State) (p : Part) (chan : Nat) (starts : List RawEdge) (ends : List (List RawEdge)) (m : Meas) (d : Desc)
      (a b lo hi : Int) (k : Nat), (s.chan p chan).meas = some m → m.mode = 3 → m.figures = some (a, b, lo, hi, k) →
      s.desc? p m.ring m.idx = some d →
    Answers (.tdcMeasureComplete p chan starts ends) s fun t =>
    (s.out ++ [.dma p m.addr (resultRecord (a, b, lo, hi) k m.m 3 0 false false m.startNs)]) <+: t.out
      ∧ (t.chan p chan).meas = none ∧ t.desc? p m.ring m.idx = none ∧ (t.part p).time = (s.part p).time ∧ t.die = s.die)
  ∧ (∀ (s : State) (p : Part) (chan : Nat) (starts : List RawEdge) (ends : List (List RawEdge)) (m : Meas) (d : Desc)
      (g : List Int) (above stale : Bool) (t0 : W64), (s.chan p chan).meas = some m →
      (s.ns p - m.startNs).toInt ≥ 1000 * (m.timeoutUs : Int) →
      s.measSamples p chan m (2 ^ m.m - 1) (edgesOf starts ends) = (g, above, stale, t0) →
      s.measEdges p chan m (edgesOf starts ends) = true → s.desc? p m.ring m.idx = some d →
    Answers (.tdcMeasureTimeout p chan starts ends) s fun t =>
    (s.out ++ [.dma p m.addr (resultRecord (statsOf g) g.length m.m m.mode 2 above stale t0)]) <+: t.out
      ∧ (t.chan p chan).meas = none ∧ t.desc? p m.ring m.idx = none ∧ (t.part p).time = (s.part p).time ∧ t.die = s.die)
  ∧ (∀ (s : State) (r ch : Nat) (starts : List RawEdge) (ends : List (List RawEdge)) (w : WatchSt) (g : List Int)
      (above stale : Bool) (t0 : W64), r < 16 → s.tdcFor .tsu (16 + r) = some ch → tabGet {} s.die.spine.watches r = w →
      w.en = true → w.running = true →
      (s.chan .tsu ch).reduce (s.tdcRecalS .tsu) (fun _ => 1) true (2 ^ w.curM) (s.ns .tsu) (edgesOf starts ends) = (g, above, stale, t0) →
      s.edgesReal .tsu ch (fun _ => 1) true w.curGate s.tsu.clk.runSinceNs (edgesOf starts ends) = true → g.length = 2 ^ w.curM →
    Answers (.regionWatchResult r starts ends) s fun t =>
    (tabGet {} t.die.spine.watches r : WatchSt).result = resultRecord (statsOf g) (2 ^ w.curM) w.curM 1 0 above stale t0
      ∧ (tabGet {} t.die.spine.watches r : WatchSt).curGate = w.gate ∧ (tabGet {} t.die.spine.watches r : WatchSt).curLo = w.lo
      ∧ t.tsu.time = s.tsu.time ∧ s.samePhi t)

/-- The fast logic (R91 to R97): it is woken, locks, is kept by `FAST_FORCE` and goes idle; a failed lock starts the PLL again. -/
def Obligations.FastLogic : Prop :=
  (∀ s : State, s.tsu.clk.soscDead = false → s.tsu.clk.running = false → s.tsu.clk.starting = false →
      s.tsu.clk.stopCyc ≠ some s.cyc → Answers .fastWakeRequest s fun t =>
    t.tsu.clk = { s.tsu.clk with starting := true, startNs := s.ns .tsu, idleSince := none, wakeCyc := some s.cyc } ∧ t.tsu.time = s.tsu.time ∧ s.samePhi t
      ∧ t.die = s.die ∧ t.out = s.out)
  ∧ (∀ s : State, s.tsu.clk.soscDead = false → s.tsu.clk.running = false → s.tsu.clk.starting = false →
      s.tsu.clk.stopCyc = some s.cyc → Answers .fastWakeRequest s fun t =>
    t.tsu.clk.running = true ∧ t.tsu.clk.fast = true ∧ t.tsu.clk.starting = false ∧ t.tsu.time = s.tsu.time ∧ s.samePhi t
      ∧ t.die = s.die ∧ t.out = s.out)
  ∧ (∀ (s : State) (p : Part),
    Fires (.spinePllLock p) s ((s.part p).clk.starting = true) fun t =>
    (t.part p).clk.running = true ∧ (t.part p).clk.fast = true ∧ (t.part p).clk.pllLock = true ∧ (t.part p).clk.starting = false
      ∧ (t.part p).clk.runSinceNs = s.ns p ∧ (t.part p).time = (s.part p).time ∧ t.die = s.die ∧ t.hub = s.hub ∧ t.out = s.out)
  ∧ (∀ (s : State) (p : Part), (s.part p).clk.starting = true → (s.ns p - (s.part p).clk.startNs).toInt ≥ 2500 →
      (s.part p).clk.pllFails = 0 → Answers (.spinePllLockTimeout p) s fun t =>
    (t.part p).clk.pllFails = 1 ∧ (t.part p).clk.startNs = s.ns p ∧ (t.part p).clk.starting = true
      ∧ (t.part p).time = (s.part p).time ∧ t.die = s.die ∧ t.hub = s.hub ∧ t.out = s.out)
  ∧ (∀ s : State,
    Fires .fastIdleExpiry s (s.tsu.clk.running = true ∧ s.keepRunning = false
        ∧ ∃ x, s.tsu.clk.idleSince = some x ∧ (s.ns .tsu - x).toInt ≥ 1000 * (s.fastIdleUs : Int)) fun t =>
    t.tsu.clk = (if s.tsu.clk.wakeCyc = some s.cyc then { s.tsu.clk with idleSince := none } else
        { s.tsu.clk with running := false, fast := false, pllLock := false, idleSince := none, stopCyc := some s.cyc,
                         stopNs := s.ns .tsu }) ∧ t.tsu.time = s.tsu.time
      ∧ s.samePhi t ∧ t.die = s.die ∧ t.out = s.out)
  ∧ (∀ (s : State) (v : Bool), s.writeLost 0x0804 = false → Answers (.fastForceWrite v) s fun t =>
    t.tsu.clk.fastForce = v
      ∧ (v = true → s.tsu.clk.soscDead = false → s.tsu.clk.running = false → s.tsu.clk.stopCyc ≠ some s.cyc →
          t.tsu.clk.starting = true)
      ∧ t.tsu.time = s.tsu.time ∧ s.samePhi t ∧ t.die = s.die ∧ t.out = s.out)

/-- The time spine and the region crossings (R98 to R109, R162): parity, reads of HT by cores, power changes, stretch events, the spine
calibration; the oldest entry of a FIFO is consumed with its strobe, and an entry past its margin is a slip. -/
def Obligations.SpineAndRegions : Prop :=
  (∀ (s : State) (r : Nat), r < 16 → (s.region r).parityAt = none → Answers (.spineParity r) s fun t =>
    (t.region r).parityErrs = satNat 32 ((s.region r).parityErrs + 1) ∧ (t.region r).parityAt = some s.tsu.time.cycles
      ∧ t.tsu = s.tsu ∧ s.samePhi t ∧ t.out = s.out)
  ∧ (∀ (s : State) (r c : Nat), s.tsu.configured = true → Answers (.coreHtRead r c) s fun t =>
    (∃ v : W64, t.out = s.out ++ [.htRead r c v] ∧ (t.region r).htLast = v ∧ ((s.region r).htLast - v).toInt ≤ 0)
      ∧ t.tsu = s.tsu ∧ s.samePhi t)
  ∧ (∀ (s : State) (r : Nat) (off : Bool), Answers (.regionPowerChange r off) s fun t =>
    (t.region r).off = off ∧ (t.region r).fifo = ((s.region r).refill s.tsu.time.acc).fifo.map (fun e => { e with exempt := true })
      ∧ (t.region r).waiting = ((s.region r).refill s.tsu.time.acc).waiting
      ∧ t.tsu = s.tsu ∧ s.samePhi t ∧ t.out = s.out)
  ∧ (∀ (s : State) (r n : Nat), n < 16 → Answers (.stretchEvent r n) s fun t =>
    (t.region r).stretchCnt = (s.region r).stretchCnt + BitVec.ofNat 64 n
      ∧ (t.region r).stretchSlot = satNat 32 ((s.region r).stretchSlot + n) ∧ t.tsu.time = s.tsu.time ∧ s.samePhi t ∧ t.out = s.out)
  ∧ (∀ (s : State) (l : List RegionCal), s.die.spine.calRun = true → s.tsu.clk.running = true → s.spineChanReady = true →
      l.map (·.region) = List.range 16 → (∀ c ∈ l, calAccept c = true) → (∀ e ∈ s.die.spine.regions, e.2.calAttempt = 0) →
      s.calMayApply = true →
    Answers (.spineCalRunComplete l) s fun t =>
    (∀ c ∈ l, (t.region c.region).strobeDlyFs = (calValues c).1 ∧ (t.region c.region).spineDlyFs = (calValues c).2.1
        ∧ (t.region c.region).stepFs = (calValues c).2.2 ∧ (t.region c.region).calOk = true)
      ∧ t.die.spine.calRun = false ∧ t.die.spine.calNs = s.ns .tsu ∧ t.tsu.time = s.tsu.time ∧ t.tsu.ports = s.tsu.ports
      ∧ t.tsu.tdc = s.tsu.tdc ∧ s.samePhi t ∧ t.out = s.out)
  ∧ (∀ s : State,
    Fires .spineRecalTimer s (s.spineRecalS ≠ 0 ∧ s.die.spine.calRun = false ∧ s.spineChan = true
        ∧ (s.ns .tsu - s.die.spine.calNs).toInt ≥ 1000000000 * (s.spineRecalS : Int)) fun t =>
    t.die.spine.calRun = true ∧ t.tsu = s.tsu ∧ s.samePhi t ∧ t.out = s.out)
  ∧ (∀ (s : State) (r : Nat) (e : FifoEntry) (es : List FifoEntry), (s.region r).fifo = e :: es → (s.region r).off = false →
      e.bell = none → e.edges = [] → e.slipped = false → (s.region r).waiting = [] →
    Answers (.regionFifoConsume r) s fun t =>
    (t.region r).fifo = es ∧ t.out = s.out ++ e.wakes.map Out.wake ∧ t.tsu = s.tsu ∧ s.samePhi t)
  ∧ (∀ (s : State) (r : Nat) (e : FifoEntry) (l : W64), (s.region r).fifo = [e] → (s.region r).off = false →
      e.bell = some l → e.launch = true → e.edges = [] → e.wakes = [] → e.slipped = false →
      (s.region r).waiting = [] →
    Answers (.regionFifoConsume r) s fun t =>
    (t.region r).fifo = [] ∧ (t.region r).cycZeroNs = s.ns .tsu ∧ (t.region r).cycKnown = true
      ∧ (∀ x ∈ s.slotsAt r l, (t.slot x.core x.slot).state = .started) ∧ t.tsu.time = s.tsu.time ∧ s.samePhi t)
  ∧ (∀ (s : State) (r : Nat) (e : FifoEntry) (es : List FifoEntry), (s.region r).fifo = e :: es → (s.region r).off = false →
      e.slipped = false → e.exempt = false → (s.tsu.time.acc - e.wAcc).toInt ≥ (s.crossMarginNs : Int) * 2 ^ 48 → (s.region r).waiting = [] →
    Answers (.crossingSlip r) s fun t =>
    (t.region r).fifo = { e with slipped := true } :: es ∧ t.tsu.time = s.tsu.time ∧ s.samePhi t)


/-- The launch wave at the TSU up to the commit (R158, R162, R163, R166): a good `ANNOUNCE` starts its row fetch, a good row arms the launch,
`COMMIT` commits it; a fetch too late is dropped, and a launch without its `COMMIT` or without the fast logic is aborted. -/
def Obligations.LaunchArming : Prop :=
  (∀ (s : State) (port b g : Nat) (e : Env) (f : LaunchPl) (l : W64) (a : Attach), s.inOrder .tsu port e → s.engineShut .tsu 2 = false →
      e.basin.toNat = b → e.gen.toNat = g → s.tsu.inService = false → s.holds b g = true →
      s.tsu.time.expands = true → expandStamp (s.ns .tsu) f.bell = l → stampNear (s.ns .tsu) l = true → s.fenced b l = false →
      s.key? .tsu b g f.step 0 = none → s.launchOk l = true → s.regionsReady = true → later (s.ns .tsu) (nsAdd l (-3000)) = false →
      tabGet? s.die.attaches b = some a → a.gen = g → f.entry.toNat < a.rows →
    Answers (.announceReceive port e f) s fun t =>
    t.die.fetches = s.die.fetches ++ [{ basin := b, gen := g, step := f.step, bell := f.bell, lNs := l, entry := f.entry,
                                        recvNs := s.ns .tsu, recvCyc := s.cyc, fails := 0 }]
      ∧ t.die.launches = s.die.launches ∧ t.tsu.time = s.tsu.time ∧ t.out = s.out ∧ s.samePhi t)
  ∧ (∀ (s : State) (b : Nat) (step : StepNo) (row : List Byte) (x : Fetch) (cs : CoreSet), s.fetch? b step = some x →
      (∀ y ∈ s.die.fetches, y.row = none) → s.rowWaits x = false → (s.ns .tsu - x.recvNs).toInt ≤ 800 → (byteAt row 4).getLsbD 7 = true →
      tabGet? s.die.coresets (field row 4 1 % 64) = some cs → cs.valid = true → cs.owner = x.basin →
      (coresOf cs.mask).all s.coreEnabled = true → s.armedLaunches = [] →
      ((coresOf cs.mask).any fun c => (s.freeSlot c).isNone) = false →
    Answers (.launchRowFetched b step row true) s fun t =>
    (∃ l ∈ t.die.launches, l.basin = x.basin ∧ l.gen = x.gen ∧ l.step = x.step ∧ l.lNs = x.lNs ∧ l.mask = cs.mask ∧ l.ring = cs.ring
        ∧ l.kernel = BitVec.ofNat 32 (field row 0 4) ∧ l.arg = BitVec.ofNat 64 (field row 8 8) ∧ l.phase = .armed
        ∧ l.committed = false)
      ∧ t.die.fetches = s.die.fetches.erase x ∧ t.tsu.time = s.tsu.time ∧ t.out = s.out ∧ s.samePhi t)
  ∧ (∀ (s : State) (b : Nat) (step : StepNo) (x : Fetch), s.fetch? b step = some x → (∀ y ∈ s.die.fetches, y.row = none) →
      (s.ns .tsu - x.recvNs).toInt ≥ 800 →
    Answers (.rowFetchTimeout b step) s fun t =>
    t.die.fetches = s.die.fetches.erase x ∧ t.die.launches = s.die.launches ∧ t.tsu.time = s.tsu.time ∧ t.out = s.out ∧ s.samePhi t)
  ∧ (∀ (s : State) (port b g : Nat) (e : Env) (f : LaunchPl) (x : Launch), s.inOrder .tsu port e → s.engineShut .tsu 2 = false →
      e.basin.toNat = b → e.gen.toNat = g → s.holds b g = true → s.tsu.time.expands = true →
      stampNear (s.ns .tsu) (expandStamp (s.ns .tsu) f.bell) = true → s.key? .tsu b g f.step 1 = none →
      s.armed? b g f.step = some x → x.bell = f.bell → x.checked = false → later (s.ns .tsu) (nsAdd x.lNs (-2000)) = false →
    Answers (.commitReceive port e f) s fun t =>
    { x with committed := true } ∈ t.die.launches ∧ t.die.launches.length = s.die.launches.length ∧ t.tsu.time = s.tsu.time
      ∧ t.out = s.out ∧ s.samePhi t)
  ∧ (∀ (s : State) (b : Nat) (step : StepNo) (l : Launch),
      s.die.launches.find? (fun l => l.basin == b && l.step == step && l.phase == .armed) = some l →
      (s.ns .tsu - nsAdd l.lNs (-2000)).toInt ≥ 0 →
    Answers (.commitDeadline b step) s fun t =>
    (l.committed = true → { l with checked := true } ∈ t.die.launches ∧ t.tsu = s.tsu ∧ t.out = s.out)
      ∧ (l.committed = false → ∃ k ∈ t.tsu.keys, k.basin = l.basin ∧ k.gen = l.gen ∧ k.step = l.step ∧ k.kind = 2)
      ∧ t.tsu.time = s.tsu.time ∧ s.samePhi t)
  ∧ (∀ (s : State) (b : Nat) (step : StepNo) (l : Launch),
      s.die.launches.find? (fun l => l.basin == b && l.step == step && l.phase == .armed) = some l →
      (s.ns .tsu - nsAdd l.lNs (-1000)).toInt ≥ 0 → (s.tsu.clk.running = false ∨ s.tsu.clk.fast = false) →
    Answers (.fastReadyCheck b step) s fun t =>
    (∃ k ∈ t.tsu.keys, k.basin = l.basin ∧ k.gen = l.gen ∧ k.step = l.step ∧ k.kind = 2) ∧ t.tsu.time = s.tsu.time ∧ s.samePhi t)

/-- The strobe (R104, R162, R164): a committed launch is settled at the decision point, one strobe goes into its region, a core's
`DONE` empties its slot, an `ABORT` is noted, and the step counts as committed at L + 20 us (R151). -/
def Obligations.LaunchStrobe : Prop :=
  (∀ (s : State) (l : Launch), s.die.launches = [l] → l.phase = .armed → l.committed = true → l.mask ≠ 0 → s.launchOk l.lNs = true →
      (s.ns .tsu - nsAdd l.lNs (-128)).toInt ≥ 0 →
    Answers (.strobeDecision l.lNs) s fun t =>
    t.die.launches = [{ l with phase := .decided }] ∧ t.tsu = s.tsu ∧ t.out = s.out ∧ s.samePhi t)
  ∧ (∀ (s : State) (r : Nat) (l : Launch), s.die.launches = [l] → l.phase = .decided → r ∈ s.regionsOf l.mask →
      s.die.sync.proxies = [] → s.tsu.clk.fast = true → s.tsu.configured = true → (s.region r).fired ≠ some l.lNs →
      (s.ns .tsu - nsAdd l.lNs (-((leadSplit (s.region r).strobeDlyFs (s.region r).stepFs).1 : Int))).toInt ≥ 0 →
    Answers (.delayLineFire r l.lNs) s fun t =>
    t.out = s.out ++ [.delayLine r (leadSplit (s.region r).strobeDlyFs (s.region r).stepFs).1
        (leadSplit (s.region r).strobeDlyFs (s.region r).stepFs).2 l.lNs]
      ∧ t.die.launches = [{ l with phase := .strobed }] ∧ (t.region r).fired = some l.lNs ∧ t.tsu.time = s.tsu.time ∧ s.samePhi t)
  ∧ (∀ (s : State) (core slot : Nat), slot < 4 → ((s.slot core slot).state = .started ∨ (s.slot core slot).state = .aborted) →
    Answers (.slotDoneWrite core slot) s fun t =>
    (t.slot core slot).state = .empty ∧ (∀ k, k ≠ 4 * core + slot → tabGet? t.die.slots k = tabGet? s.die.slots k)
      ∧ t.tsu = s.tsu ∧ t.out = s.out ∧ s.samePhi t)
  ∧ (∀ (s : State) (port : Nat) (e : Env) (f : LaunchPl) (x : BasinSt), s.inOrder .tsu port e → s.engineShut .tsu 2 = false →
      s.basin? e.basin.toNat = some x → x.gen = e.gen.toNat → x.applied = [] →
      s.key? .tsu e.basin.toNat e.gen.toNat f.step 2 = none →
    Answers (.abortReceive port e f) s fun t =>
    (∃ k ∈ t.tsu.keys, k.basin = e.basin.toNat ∧ k.gen = e.gen.toNat ∧ k.step = f.step ∧ k.kind = 2)
      ∧ (∃ y, t.basin? e.basin.toNat = some y ∧ y.lastRollback = f.lastStep ∧ y.lastCause = f.cause ∧ y.lastOrigin = f.origin
          ∧ y.aborts = satNat 32 (x.aborts + 1))
      ∧ t.tsu.time = s.tsu.time ∧ s.samePhi t)
  ∧ (∀ (s : State) (b : Nat) (step : StepNo) (l : W64) (x : BasinSt), s.basin? b = some x → (step, l) ∈ x.strobed →
      (s.ns .tsu - nsAdd l 20000).toInt ≥ 0 → step ∉ x.undone → step ∉ x.committed →
    Answers (.stepCommitTimer b step) s fun t =>
    t.basin? b = some { x with committed := x.committed ++ [step] } ∧ t.tsu = s.tsu ∧ t.phi.time = s.phi.time ∧ t.mdl = s.mdl)

/-- `BASIN_ATTACH`, `CORESET_WRITE` and membership at the TSU (R118, R159, R161, R176, R451); soft requests, withheld while a ring step is in
flight, granted at the next bell after it or when its time is over, and hard limits (R178, R179). -/
def Obligations.LaunchTablesAndThrottling : Prop :=
  (∀ (s : State) (ring idx b : Nat) (d : Desc), s.ready .tsu ring idx 0x20 d → d.pl 0 2 % 4096 = b → s.tsu.inService = false →
      d.plBits 4 4 0 25 ≠ 0 → d.plBits 4 4 0 25 ≤ 16777216 → d.pl 8 8 % 64 = 0 → (s.basin? b = none ∨ s.holds b (d.pl 2 2) = true) →
      s.purging b = false → (s.armedLaunches.any fun l => l.basin == b) = false →
      (s.die.slots.any fun e => e.2.basin == b && e.2.state != .empty) = false →
    Answers (.basinAttach ring idx) s fun t =>
    tabGet? t.die.attaches b = some { gen := d.pl 2 2, rows := d.plBits 4 4 0 25, addr := BitVec.ofNat 64 (d.pl 8 8) }
      ∧ (∀ k, k ≠ b → tabGet? t.die.attaches k = tabGet? s.die.attaches k) ∧ t.desc? .tsu ring idx = none
      ∧ t.tsu.time = s.tsu.time ∧ s.samePhi t)
  ∧ (∀ (s : State) (ring idx i : Nat) (d : Desc), s.ready .tsu ring idx 0x21 d → d.plBits 0 1 0 6 = i →
      (coresOf (BitVec.ofNat 192 (d.pl 8 24))).all s.coreEnabled = true →
      (s.die.launches.any fun l => l.coreset == i && (l.phase != .strobed || s.slotsOpen l)) = false →
    Answers (.coresetWrite ring idx) s fun t =>
    tabGet? t.die.coresets i
        = some { mask := BitVec.ofNat 192 (d.pl 8 24), owner := d.plBits 32 2 0 12, valid := d.plBit 33 7, ring := d.plBit 34 0 }
      ∧ (∀ k, k ≠ i → tabGet? t.die.coresets k = tabGet? s.die.coresets k) ∧ t.desc? .tsu ring idx = none
      ∧ t.tsu.time = s.tsu.time ∧ s.samePhi t)
  ∧ (∀ (s : State) (port : Nat) (e : Env) (f : MemberPl), s.inOrder .tsu port e → s.engineShut .tsu 2 = false → f.die = s.dieNum →
      f.action = 0 → s.basin? e.basin.toNat = none → s.tsu.inService = false →
    Answers (.memberReceive port e f) s fun t =>
    t.basin? e.basin.toNat = some { gen := e.gen.toNat, joinStep := f.step } ∧ t.tsu.time = s.tsu.time ∧ t.out = s.out ∧ s.samePhi t)
  ∧ (∀ (s : State) (b : Nat) (x : BasinSt), s.basin? b = some x → x.purging = true → Answers (.basinPurgeComplete b) s fun t =>
    t.basin? b = none ∧ (∀ k, k ≠ b → t.basin? k = s.basin? k) ∧ t.tsu.time = s.tsu.time ∧ t.out = s.out ∧ s.samePhi t)
  ∧ (∀ (s : State) (q : Nat), Answers (.softRequest q) s fun t =>
    (s.ringFlight = false → t.out = s.out ++ [.grant q] ∧ t.die = s.die)
      ∧ (s.ringFlight = true → t.die.soft = s.die.soft ++ [{ id := q, sinceNs := s.ns .tsu }] ∧ t.out = s.out)
      ∧ t.tsu = s.tsu ∧ s.samePhi t)
  ∧ (∀ s : State, s.ringFlight = false → s.ringBellDue = true → Answers .softRequestGrant s fun t =>
    t.die.soft = [] ∧ t.out = s.out ++ s.die.soft.map (fun q => .grant q.id) ∧ t.tsu = s.tsu ∧ s.samePhi t)
  ∧ (∀ (s : State) (r : Nat) (q : SoftReq), s.die.soft.find? (fun q => q.id == r) = some q →
      (s.ns .tsu - q.sinceNs).toInt ≥ 1000 * (s.throttleDeferUs : Int) → Answers (.throttleDeferTimeout r) s fun t =>
    t.die.soft = s.die.soft.erase q ∧ t.out = s.out ++ [.grant r] ∧ t.tsu.time = s.tsu.time ∧ s.samePhi t)
  ∧ (∀ s : State, Answers .hardLimit s fun t =>
    t = (if s.ringFlight then s.count .tsu 0x0408 0 1 else s) ∧ t.die = s.die ∧ t.out = s.out ∧ t.tsu.time = s.tsu.time)


/-- Requests of a core's context on flags (R181 to R185, R194): set, clear, test and wait; a wait that is not satisfied has its core told to
deschedule the context. -/
def Obligations.FlagRequests : Prop :=
  ∀ (s : State) (core ctx i : Nat), s.portClosed 1 = false → i < 9216 → s.coreEnabled (i / 48) = true →
      s.die.sync.unloaded.contains (i / 48) = false →
  (s.waitersOn [0x04] i = [] → Answers (.flagSet core ctx i) s fun t =>
    (t.flag i).value = true ∧ (t.flag i).sticky = (if (s.flag i).before s.cyc then stick (s.flag i).sticky 0 else (s.flag i).sticky)
      ∧ (∀ j, j ≠ i → t.flag j = s.flag j) ∧ t.out = s.out ++ [.answer core ctx 0 0] ∧ t.tsu.time = s.tsu.time ∧ s.samePhi t)
  ∧ ((s.flag i).setCyc ≠ some s.cyc → Answers (.flagClear core ctx i) s fun t =>
    (t.flag i).value = false ∧ (∀ j, j ≠ i → t.flag j = s.flag j) ∧ t.out = s.out ++ [.answer core ctx 0 0]
      ∧ t.tsu.time = s.tsu.time ∧ s.samePhi t)
  ∧ (∀ consume, core = i / 48 → (consume = true → s.takers i = []) → Answers (.flagTest core ctx i consume) s fun t =>
    t.out = s.out ++ [.answer core ctx 0 (if (s.flag i).value then 1 else 0)] ∧ (t.flag i).value = ((s.flag i).value && !consume)
      ∧ (∀ j, j ≠ i → t.flag j = s.flag j) ∧ t.tsu.time = s.tsu.time ∧ s.samePhi t)
  ∧ (∀ consume lim, core = i / 48 → lim ≤ 100000000 → s.takers i = [] → Answers (.flagWait core ctx i consume lim) s fun t =>
    ((s.flag i).value = true → t.out = s.out ++ [.answer core ctx 0 1] ∧ (t.flag i).value = !consume)
      ∧ ((s.flag i).value = false → t.out = s.out ++ [.deschedule core (ctx % 8)] ∧ (t.flag i).value = false
          ∧ tabGet? t.die.sync.waiters (8 * core + ctx % 8)
              = some { sop := 4, consume := consume, index := i, operand := 0, timeoutUs := lim, startNs := s.ns .tsu, cmd := none })
      ∧ (∀ j, j ≠ i → t.flag j = s.flag j) ∧ t.tsu.time = s.tsu.time ∧ s.samePhi t)

/-- Requests of a core's context on tallies (R185 to R189): add, read and wait. An add ends no wait: the tally is judged with the end of
its cycle (R193). -/
def Obligations.TallyRequests : Prop :=
  ∀ (s : State) (core ctx i : Nat), s.portClosed 1 = false → i < 3072 → s.coreEnabled (i / 16) = true →
      s.die.sync.unloaded.contains (i / 16) = false → (s.tally i).window = 0 →
  (∀ n : W32, 0 < n.toNat → n.toNat ≤ 65535 → Answers (.tallyAdd core ctx i n) s fun t =>
    (t.tally i).value = (s.tally i).value + n ∧ (t.tally i).addCyc = some s.cyc ∧ t.die.sync.waiters = s.die.sync.waiters
      ∧ (∀ j, j ≠ i → t.tally j = s.tally j) ∧ t.out = s.out ++ [.answer core ctx 0 ((s.tally i).value + n)] ∧ t.tsu.time = s.tsu.time ∧ s.samePhi t)
  ∧ (core = i / 16 → Answers (.tallyRead core ctx i) s fun t =>
    (t.tally i).value = (s.tally i).value ∧ (∀ j, j ≠ i → t.tally j = s.tally j)
      ∧ t.out = s.out ++ [.answer core ctx 0 (s.tally i).value] ∧ t.tsu.time = s.tsu.time ∧ s.samePhi t)
  ∧ (∀ (n : W32) (lim : Nat), core = i / 16 → lim ≤ 100000000 → Answers (.tallyWait core ctx i n lim) s fun t =>
    (((s.tally i).value - n).toInt ≥ 0 → t.out = s.out ++ [.answer core ctx 0 (s.tally i).value] ∧ (t.tally i).lastWait = n)
      ∧ (((s.tally i).value - n).toInt < 0 → t.out = s.out ++ [.deschedule core (ctx % 8)] ∧ tabGet? t.die.sync.waiters (8 * core + ctx % 8)
          = some { sop := 0x12, consume := false, index := i, operand := n, timeoutUs := lim, startNs := s.ns .tsu, cmd := none })
      ∧ (t.tally i).value = (s.tally i).value ∧ (∀ j, j ≠ i → t.tally j = s.tally j) ∧ t.tsu.time = s.tsu.time ∧ s.samePhi t)

/-- Requests of a core's context on die gates (R190, R191): an arrival that does not complete the mask is counted, the one that does opens
the gate; waits. -/
def Obligations.DieGateRequests : Prop :=
  ∀ (s : State) (core ctx g : Nat), s.portClosed 1 = false → g < 256 →
  ((s.gate g).mask.getLsbD core = true → (s.gate g).arrived.getLsbD core = false → s.waitersOn [0x21, 0x22] g = [] →
    Answers (.dgArrive core ctx g) s fun t =>
    t.out = s.out ++ [.answer core ctx 0 ((s.gate g).released + 1)]
      ∧ (((s.gate g).arrived ||| 1#193 <<< core) &&& (s.gate g).mask = (s.gate g).mask →
          (t.gate g).released = (s.gate g).released + 1 ∧ (t.gate g).arrived = 0)
      ∧ (((s.gate g).arrived ||| 1#193 <<< core) &&& (s.gate g).mask ≠ (s.gate g).mask →
          (t.gate g).released = (s.gate g).released ∧ (t.gate g).arrived = (s.gate g).arrived ||| 1#193 <<< core)
      ∧ (∀ j, j ≠ g → t.gate j = s.gate j) ∧ t.tsu.time = s.tsu.time ∧ s.samePhi t)
  ∧ (∀ lim, lim ≤ 100000000 → (s.gate g).mask.getLsbD core = true → (s.gate g).arrived.getLsbD core = false →
      ((s.gate g).arrived ||| 1#193 <<< core) &&& (s.gate g).mask ≠ (s.gate g).mask →
    Answers (.dgArriveWait core ctx g lim) s fun t =>
    (t.gate g).arrived = (s.gate g).arrived ||| 1#193 <<< core ∧ tabGet? t.die.sync.waiters (8 * core + ctx % 8)
        = some { sop := 0x21, consume := false, index := g, operand := (s.gate g).released + 1, timeoutUs := lim,
                 startNs := s.ns .tsu, cmd := none }
      ∧ (∀ j, j ≠ g → t.gate j = s.gate j) ∧ t.out = s.out ++ [.deschedule core (ctx % 8)] ∧ t.tsu.time = s.tsu.time ∧ s.samePhi t)
  ∧ (∀ (n : W32) (lim : Nat), lim ≤ 100000000 → Answers (.dgWait core ctx g n lim) s fun t =>
    (((s.gate g).released - n).toInt ≥ 0 → t.out = s.out ++ [.answer core ctx 0 (s.gate g).released])
      ∧ (((s.gate g).released - n).toInt < 0 → t.out = s.out ++ [.deschedule core (ctx % 8)] ∧ tabGet? t.die.sync.waiters (8 * core + ctx % 8)
          = some { sop := 0x22, consume := false, index := g, operand := n, timeoutUs := lim, startNs := s.ns .tsu, cmd := none })
      ∧ (t.gate g).arrived = (s.gate g).arrived ∧ (∀ j, j ≠ g → t.gate j = s.gate j) ∧ t.tsu.time = s.tsu.time ∧ s.samePhi t)

/-- Requests of a core's context on hall gate proxies (R197): an arrival is counted and waits for the open use; a wait. -/
def Obligations.ProxyRequests : Prop :=
  ∀ (s : State) (core ctx q lim : Nat), s.portClosed 1 = false → q < 1024 → lim ≤ 100000000 → (s.proxy q).bound = true →
      s.purging (s.proxy q).basin = false →
  ((s.proxy q).mask.getLsbD core = true → (s.proxy q).arrived.getLsbD core = false →
      s.abortedSlot core (s.proxy q).basin = false → Answers (.hgArriveWait core ctx q lim) s fun t =>
    (t.proxy q).arrived = (s.proxy q).arrived ||| 1#193 <<< core ∧ (t.proxy q).released = (s.proxy q).released
      ∧ tabGet? t.die.sync.waiters (8 * core + ctx % 8)
          = some { sop := 0x28, consume := false, index := q, operand := (s.proxy q).released + 1, timeoutUs := lim,
                   startNs := s.ns .tsu, cmd := none }
      ∧ (∀ j, j ≠ q → t.proxy j = s.proxy j) ∧ t.out = s.out ++ [.deschedule core (ctx % 8)] ∧ t.tsu.time = s.tsu.time ∧ s.samePhi t)
  ∧ (∀ n : W32, Answers (.hgWait core ctx q n lim) s fun t =>
    (((s.proxy q).released - n).toInt ≥ 0 → t.out = s.out ++ [.answer core ctx 0 (s.proxy q).released])
      ∧ (((s.proxy q).released - n).toInt < 0 → t.out = s.out ++ [.deschedule core (ctx % 8)] ∧ tabGet? t.die.sync.waiters (8 * core + ctx % 8)
          = some { sop := 0x29, consume := false, index := q, operand := n, timeoutUs := lim, startNs := s.ns .tsu, cmd := none })
      ∧ (t.proxy q).arrived = (s.proxy q).arrived ∧ (∀ j, j ≠ q → t.proxy j = s.proxy j) ∧ t.tsu.time = s.tsu.time ∧ s.samePhi t)

/-- Limits of waits and of the hold after an abort (R192, R195, R205, R206): arrivals stay counted, the wait ends, a proxy's backstop gives
the use up. -/
def Obligations.SyncTimeouts : Prop :=
  (∀ (s : State) (k : Nat) (x : Waiter), tabGet? s.die.sync.waiters k = some x → x.cmd = none → x.sop ∈ [0x04, 0x12, 0x28, 0x29] →
      x.timeoutUs ≠ 0 → (s.ns .tsu - x.startNs).toInt ≥ 1000 * (x.timeoutUs : Int) → s.waitHolds k x = false →
    Answers (.syncWaitTimeout k) s fun t =>
    tabGet? t.die.sync.waiters k = none ∧ (∀ j, j ≠ k → tabGet? t.die.sync.waiters j = tabGet? s.die.sync.waiters j)
      ∧ t.tsu.flt = s.tsu.flt ∧ t.tsu.time = s.tsu.time ∧ t.out = s.out ∧ s.samePhi t)
  ∧ (∀ (s : State) (k : Nat) (x : Waiter), tabGet? s.die.sync.waiters k = some x → x.cmd = none → x.sop = 0x21 →
      (s.gate x.index).timeoutUs ≠ 0 → x.timeoutUs = 0 →
      (s.ns .tsu - x.startNs).toInt ≥ 1000 * ((s.gate x.index).timeoutUs : Int) → Answers (.dgGateTimeout k) s fun t =>
    tabGet? t.die.sync.waiters k = none ∧ (t.gate x.index).arrived = (s.gate x.index).arrived
      ∧ (t.gate x.index).sticky = stick (s.gate x.index).sticky 4 ∧ t.tsu.time = s.tsu.time ∧ s.samePhi t)
  ∧ (∀ (s : State) (q : Nat) (x : W64), (s.proxy q).sentNs = some x →
      (s.ns .tsu - x).toInt ≥ 1000 * (((s.proxy q).timeoutUs + 100 : Nat) : Int) → s.waitersOn [0x28, 0x29] q = [] →
    Answers (.proxyBackstopTimeout q) s fun t =>
    (t.proxy q).arrived = 0 ∧ (t.proxy q).sentNs = none ∧ (t.proxy q).released = (s.proxy q).released
      ∧ (t.proxy q).sticky = stick (s.proxy q).sticky 4 ∧ t.tsu.time = s.tsu.time ∧ s.samePhi t)
  ∧ (∀ (s : State) (q : Nat),
    Fires (.gateArriveHoldEnd q) s ((s.proxy q).heldFrame = true ∧ s.anyAbortWithin (s.proxy q).basin 60000 = false) fun t =>
    (t.proxy q).heldFrame = false ∧ (t.proxy q).sentNs = some (s.ns .tsu) ∧ (t.proxy q).sentUse = some ((s.proxy q).released + 1)
      ∧ (t.proxy q).arrived = (s.proxy q).arrived ∧ t.tsu.time = s.tsu.time ∧ t.out = s.out ∧ s.samePhi t)

/-- `GATE_CONFIG`, `PROXY_BIND` and `PROXY_UNBIND` (R190, R197). -/
def Obligations.GateConfiguration : Prop :=
  (∀ (s : State) (ring idx g : Nat) (d : Desc), s.ready .tsu ring idx 0x22 d → d.pl 0 1 = g → s.portClosed 1 = false →
      d.pl 4 4 ≤ 100000000 → s.badMask (BitVec.ofNat 193 (d.pl 8 25)) = false → (s.gate g).arrived = 0 →
      s.waitersOn [0x21, 0x22] g = [] → Answers (.gateConfig ring idx) s fun t =>
    (t.gate g).mask = BitVec.ofNat 193 (d.pl 8 25) ∧ (t.gate g).timeoutUs = d.pl 4 4 ∧ (t.gate g).released = 0 ∧ (t.gate g).arrived = 0
      ∧ (∀ j, j ≠ g → t.gate j = s.gate j) ∧ t.desc? .tsu ring idx = none ∧ t.tsu.time = s.tsu.time ∧ s.samePhi t)
  ∧ (∀ (s : State) (ring idx q b : Nat) (d : Desc), s.ready .tsu ring idx 0x23 d → d.plBit 41 0 = false → d.plBits 0 2 0 10 = q →
      d.plBits 4 2 0 12 = b → s.portClosed 1 = false → d.pl 12 4 ≠ 0 → d.pl 12 4 ≤ 100000000 →
      s.badMask (BitVec.ofNat 193 (d.pl 16 25)) = false → (s.basin? b = none ∨ s.holds b (d.pl 6 2) = true) → s.purging b = false →
      (s.proxy q).bound = false →
      (s.die.sync.proxies.any fun e => e.2.bound && e.2.basin == b && e.2.gate == d.plBits 2 2 0 12) = false →
    Answers (.proxyBind ring idx) s fun t =>
    (t.proxy q).bound = true ∧ (t.proxy q).basin = b ∧ (t.proxy q).gen = d.pl 6 2 ∧ (t.proxy q).gate = d.plBits 2 2 0 12
      ∧ (t.proxy q).mask = BitVec.ofNat 193 (d.pl 16 25) ∧ (t.proxy q).released = BitVec.ofNat 32 (d.pl 8 4)
      ∧ (t.proxy q).timeoutUs = d.pl 12 4 ∧ (t.proxy q).arrived = 0 ∧ (∀ j, j ≠ q → t.proxy j = s.proxy j)
      ∧ t.desc? .tsu ring idx = none ∧ t.tsu.time = s.tsu.time ∧ s.samePhi t)
  ∧ (∀ (s : State) (ring idx q : Nat) (d : Desc), s.ready .tsu ring idx 0x23 d → d.plBit 41 0 = true → d.plBits 0 2 0 10 = q →
      s.portClosed 1 = false → s.proxyBusy q = false → Answers (.proxyUnbind ring idx) s fun t =>
    (t.proxy q).bound = false ∧ (∀ j, j ≠ q → t.proxy j = s.proxy j) ∧ t.desc? .tsu ring idx = none ∧ t.tsu.time = s.tsu.time
      ∧ s.samePhi t)

/-- A hall gate's release at the TSU (R202): the release of the open use is applied to the proxy bound to the gate and takes effect at its
bell. -/
def Obligations.GateReleaseAtTsu : Prop :=
  (∀ (s : State) (port q : Nat) (e : Env) (f : GatePl) (rb : W64), s.inOrder .tsu port e → s.engineShut .tsu 1 = false →
      s.holds e.basin.toNat e.gen.toNat = true → s.tsu.time.expands = true → expandStamp (s.ns .tsu) f.relBell = rb →
      stampNear (s.ns .tsu) rb = true → s.relKey? .tsu e.basin.toNat e.gen.toNat f.gate.toNat f.use = none →
      (s.proxiesOf e.basin.toNat e.gen.toNat).filter (fun p => (s.proxy p).gate == f.gate.toNat) = [q] →
      f.use = (s.proxy q).released + 1 → later (s.ns .tsu) (nsAdd rb (-128)) = false →
    Answers (.gateReleaseReceive port e f) s fun t =>
    (t.proxy q).pend = some (f.use, rb) ∧ (t.proxy q).released = (s.proxy q).released ∧ (∀ j, j ≠ q → t.proxy j = s.proxy j)
      ∧ t.out = s.out ∧ t.tsu.time = s.tsu.time ∧ s.samePhi t)
  ∧ (∀ (s : State) (q : Nat) (u : W32) (rb : W64), (s.proxy q).pend = some (u, rb) → (s.ns .tsu - rb).toInt ≥ 0 →
      s.waitersOn [0x28, 0x29] q = [] → Answers (.gateReleaseBell q) s fun t =>
    (t.proxy q).released = u ∧ (t.proxy q).arrived = 0 ∧ (t.proxy q).pend = none ∧ (∀ j, j ≠ q → t.proxy j = s.proxy j)
      ∧ t.out = s.out ∧ t.tsu = s.tsu ∧ s.samePhi t)

/-- The host's `SYNC_OP`, remote signals and the pending table (R208 to R213). -/
def Obligations.RemoteSignals : Prop :=
  (∀ (s : State) (ring idx i : Nat) (d : Desc), s.ready .tsu ring idx 0x24 d → d.pl 16 8 % 8 = 0 → d.pl 0 1 = 1 → d.pl 2 2 = i →
      d.pl 8 4 = 0 → s.portClosed 1 = false → i < 9216 → s.coreEnabled (i / 48) = true →
      s.die.sync.unloaded.contains (i / 48) = false → s.waitersOn [0x04] i = [] → Answers (.syncOp ring idx) s fun t =>
    (t.flag i).value = true ∧ (s.out ++ [.dma .tsu (d.pl 16 8) (syncResponse .ok 0)]) <+: t.out ∧ t.desc? .tsu ring idx = none
      ∧ t.tsu.time = s.tsu.time ∧ s.samePhi t)
  ∧ (∀ (s : State) (bytes : List Byte) (n i : Nat), field bytes 0 1 = 1 → (byteAt bytes 1).getLsbD 0 = false → field bytes 2 2 = i →
      s.portClosed 1 = false → i < 9216 → s.coreEnabled (i / 48) = true → s.die.sync.unloaded.contains (i / 48) = false →
      (s.flag i).mode = 1 → s.waitersOn [0x04] i = [] → Answers (.remoteSignal bytes n) s fun t =>
    (t.flag i).value = true ∧ t.out = s.out ++ [.moverAnswer 0] ∧ t.tsu = s.tsu ∧ s.samePhi t)
  ∧ (∀ (s : State) (bytes : List Byte) (n i k : Nat), field bytes 0 1 = 1 → (byteAt bytes 1).getLsbD 0 = true → field bytes 2 2 = i →
      s.portClosed 1 = false → i < 9216 → s.coreEnabled (i / 48) = true → s.die.sync.unloaded.contains (i / 48) = false →
      (s.flag i).mode = 2 → n < field bytes 12 4 → s.freePend = some k → Answers (.remoteSignal bytes n) s fun t =>
    tabGet? t.die.sync.pend k = some { sop := 1, index := i, operand := BitVec.ofNat 32 (field bytes 4 4),
                                       sender := BitVec.ofNat 16 (field bytes 8 2), tag := BitVec.ofNat 16 (field bytes 10 2), pkts := field bytes 12 4,
                                       written := n, sinceNs := s.ns .tsu, lastNs := s.ns .tsu }
      ∧ t.die.sync.flags = s.die.sync.flags ∧ t.out = s.out ∧ t.tsu.time = s.tsu.time ∧ s.samePhi t)
  ∧ (∀ (s : State) (sender tag : W16) (n i : Nat) (e : PendEntry), s.die.sync.pend = [(i, e)] → e.sender = sender → e.tag = tag →
      n < e.pkts → Answers (.dataMoverPacketReport sender tag n) s fun t =>
    t.die.sync.pend = [(i, { e with written := n, lastNs := s.ns .tsu })] ∧ t.die.sync.flags = s.die.sync.flags ∧ t.out = s.out ∧ t.tsu = s.tsu
      ∧ s.samePhi t)
  ∧ (∀ (s : State) (sender tag : W16) (n i : Nat) (e : PendEntry), s.die.sync.pend = [(i, e)] → s.die.sync.pendFull = [] →
      e.sender = sender → e.tag = tag → e.pkts ≤ n → e.sop = 1 → s.waitersOn [0x04] e.index = [] →
    Answers (.dataMoverPacketReport sender tag n) s fun t =>
    t.die.sync.pend = [] ∧ (t.flag e.index).value = true ∧ t.out = s.out ∧ t.tsu = s.tsu ∧ s.samePhi t)
  ∧ (∀ (s : State) (i : Nat) (e : PendEntry), tabGet? s.die.sync.pend i = some e → e.sop = 1 → s.die.sync.pendFull = [] →
      (s.ns .tsu - e.sinceNs).toInt ≥ 1000 * (s.pendTimeoutUs : Int) → Answers (.pendTimeout i) s fun t =>
    tabGet? t.die.sync.pend i = none ∧ (t.flag e.index).value = (s.flag e.index).value
      ∧ (t.flag e.index).sticky = stick (s.flag e.index).sticky 7 ∧ t.tsu.time = s.tsu.time ∧ s.samePhi t)

/-- Save, restore, view and dump of the synchronisation objects (R214 to R219). -/
def Obligations.SyncContextsAndViews : Prop :=
  (∀ (s : State) (ring idx c : Nat) (d : Desc), s.ready .tsu ring idx 0x25 d → d.pl 0 2 = c → s.portClosed 1 = false →
      s.coreEnabled c = true → d.pl 8 8 % 64 = 0 → (s.die.sync.pend.any fun e => e.2.core == c) = false →
      s.die.sync.unloaded.contains c = false → (∀ i, i < 48 → s.takers (48 * c + i) = []) →
      (∀ i, i < 16 → (s.tally (16 * c + i)).addCyc ≠ some s.cyc) → Answers (.ctxSave ring idx) s fun t =>
    c ∈ t.die.sync.unloaded ∧ (∀ i, i < 48 → (t.flag (48 * c + i)).value = false) ∧ (∀ i, i < 16 → (t.tally (16 * c + i)).value = 0)
      ∧ (s.out ++ [.dma .tsu (d.pl 8 8) (s.objectImage c (d.pl 4 4))]) <+: t.out ∧ t.desc? .tsu ring idx = none
      ∧ t.tsu.time = s.tsu.time ∧ s.samePhi t)
  ∧ (∀ (s : State) (ring idx c : Nat) (d : Desc) (img : List Byte), s.ready .tsu ring idx 0x26 d → d.pl 0 2 = c →
      s.portClosed 1 = false → s.coreEnabled c = true → d.pl 8 8 % 64 = 0 → field img 380 4 = (crc32c (img.take 380)).toNat →
      field img 0 1 = 1 → ((List.range 64).any fun i => field img (16 + i / 4) 1 / 4 ^ (i % 4) % 4 == 3) = false →
      ((List.range 16).any fun i => field img (160 + 4 * i) 4 ≥ 2 ^ 31) = false → s.die.sync.unloaded.contains c = true →
    Answers (.ctxRestore ring idx img) s fun t =>
    t.die.sync.unloaded = s.die.sync.unloaded.filter (· != c) ∧ t.desc? .tsu ring idx = none ∧ t.tsu.time = s.tsu.time ∧ s.samePhi t)
  ∧ (∀ (s : State) (ring idx : Nat) (d : Desc), s.ready .tsu ring idx 0x27 d → s.portClosed 1 = false → d.pl 4 2 ≠ 0 →
      d.pl 4 2 ≤ 4096 → d.pl 8 8 % 64 = 0 → viewRange (d.plBits 0 1 0 3) (d.pl 2 2) (d.pl 4 2) = true → d.plBit 0 7 = false →
    Answers (.syncView ring idx) s fun t =>
    (s.out ++ [.dma .tsu (d.pl 8 8) ((List.range (d.pl 4 2)).flatMap (fun i => s.viewEntry (d.plBits 0 1 0 3) (i + d.pl 2 2)))])
        <+: t.out
      ∧ t.die = s.die ∧ t.desc? .tsu ring idx = none ∧ t.tsu.time = s.tsu.time ∧ s.samePhi t)
  ∧ (∀ (s : State) (ring idx : Nat) (d : Desc), s.ready .tsu ring idx 0x28 d → s.portClosed 1 = false → d.pl 8 8 % 64 = 0 →
    Answers (.syncDump ring idx) s fun t =>
    t.die.sync.dumpSeq = s.die.sync.dumpSeq + 1 ∧ t.die.sync.flags = s.die.sync.flags ∧ t.die.sync.pend = s.die.sync.pend
      ∧ (∃ data, (s.out ++ [.dma .tsu (d.pl 8 8) data]) <+: t.out) ∧ t.desc? .tsu ring idx = none ∧ t.tsu.time = s.tsu.time
      ∧ s.samePhi t)

/-- `WB_SUBMIT` and what comes back to it at the TSU (R224 to R226, R241 to R243, R245): an accepted request opens the operation and writes
its `PENDING` record, a refused one writes its status and changes nothing else; a result chunk is written to the result area; the last
verification sets `READY`; `CLOSED` is kept, and as the cycle ends a ready operation with it ends with `OK`. -/
def Obligations.WeighbridgeAtTsu : Prop :=
  (∀ (s : State) (req data : List Byte) (o : WbOp),
      o = { wbRequest req data (s.ns .tsu) 0 with
              bell := shortStamp (s.strobedL (field req 4 2 % 4096) (BitVec.ofNat 48 (field req 8 6))) } →
    (s.judgeWb o (field req 24 8) = .ok → s.abortWithin o.basin o.step 60000 = false → Answers (.wbSubmit none req data) s fun t =>
      (∃ x, t.wbOp? o.basin o.gen o.opid = some x ∧ x.data = data ∧ x.acceptNs = s.ns .tsu ∧ x.ready = false)
        ∧ t.die.wbOps.length = s.die.wbOps.length + 1 ∧ s.out ++ [.dieWrite o.cpl (wbRecord o .pending 0)] <+: t.out
        ∧ t.die.sync = s.die.sync ∧ t.tsu.time = s.tsu.time ∧ s.samePhi t)
    ∧ (∀ st, s.judgeWb o (field req 24 8) = st → st ≠ .ok → exec (.wbSubmit none req data) s
        = .next { s.take .tsu 3 with out := s.out ++ [.dieWrite o.cpl (wbRecord o st 0)] }))
  ∧ (∀ (s : State) (port : Nat) (e : Env) (f : WbPl) (o : WbOp), s.inOrder .tsu port e → s.engineShut .tsu 3 = false →
      s.holds e.basin.toNat e.gen.toNat = true → s.wbOp? e.basin.toNat e.gen.toNat f.opid = some o →
    (f.fmt.toNat / 16 ≠ 15 → gathered o.wbop = false → f.chunk.toNat < o.chunks → o.mayCome f.chunk.toNat e.plane = true →
        o.verified f.chunk.toNat = false → (∀ y, tabGet? o.copies f.chunk.toNat = some y → y.cyc ≠ s.cyc) →
        Answers (.wbResultReceive port e f) s fun t =>
      t.out = s.out ++ [.dieWrite (o.dst + f.chunk.toNat * resultStep o.wbop o.fmt) ((slice f.data 0 24).take
            (min (resultStep o.wbop o.fmt)
              (resultLen o.wbop o.len * fmtBytes (resultFmt o.wbop o.fmt) - f.chunk.toNat * resultStep o.wbop o.fmt)))]
        ∧ t.die.sync = s.die.sync ∧ t.tsu.time = s.tsu.time ∧ s.samePhi t)
    ∧ (f.fmt = 0xFD → o.ready = false → o.fen = false → o.chunks ≤ f.chunk.toNat →
        (List.range o.chunks).all ((o.residues f.chunk.toNat f.data).foldl (fun o x => o.verify e.plane x) o).verified = true →
        Answers (.wbResidueChunkReceive port e f) s fun t =>
      ∃ x, t.wbOp? e.basin.toNat e.gen.toNat f.opid = some x ∧ x.ready = true
        ∧ t.out = s.out ++ [.dieWrite o.cpl (wbRecord x .pending 0)] ∧ t.die.sync = s.die.sync ∧ t.tsu.time = s.tsu.time ∧ s.samePhi t)
    ∧ (f.fmt = 0xFE → o.closedHeld = none → Answers (.wbClosedReceive port e f) s fun t =>
      t.wbOp? e.basin.toNat e.gen.toNat f.opid = some { o with closedHeld := some port } ∧ t.out = s.out
        ∧ t.die.sync = s.die.sync ∧ t.tsu.time = s.tsu.time ∧ s.samePhi t)
    ∧ (∀ x : WbOp, f.fmt = 0xFF → field f.data 0 2 ≠ Cause.wbMismatch.code → field f.data 8 4 = 0xFFFFFFFF →
        x = { o with failed := o.failed ++ ((List.range o.chunks).filter (fun c => !o.verified c)).map
                       (fun c => (c, e.plane, BitVec.ofNat 16 (field f.data 0 2))) } →
        (∀ c, c < o.chunks → x.lost c = false) → Answers (.wbFailedReceive port e f) s fun t =>
      t.wbOp? e.basin.toNat e.gen.toNat f.opid = some x ∧ t.out = s.out ∧ t.die.sync = s.die.sync ∧ t.tsu.time = s.tsu.time
        ∧ s.samePhi t))
  ∧ (∀ (s : State) (o : WbOp) (port : Nat), s.pending = [] → s.die.wbOps = [o] → o.ready = true → o.closedHeld = some port →
    ∃ t, step s = .next t ∧ t.die.wbOps = [] ∧ .dieWrite o.cpl (wbRecord o .ok 0) ∈ t.out)
  ∧ (∀ (s : State) (b g : Nat) (opid : W32) (o : WbOp), s.wbOp? b g opid = some o → o.ready = false →
      (s.ns .tsu - o.acceptNs).toInt ≥ 1000 * (s.wbTimeoutUs : Int) → Answers (.wbTimeout b g opid) s fun t =>
    t.wbOp? b g opid = none ∧ .dieWrite o.cpl (wbRecord o .timeout Cause.wbTimeout.w) ∈ t.out ∧ t.tsu.time = s.tsu.time ∧ s.samePhi t)
  ∧ (∀ (s : State) (b g : Nat) (opid : W32) (h : WbHold) (o : WbOp),
      s.die.wbHolds.find? (fun h => h.basin == b && h.gen == g && h.opid == opid) = some h → s.wbOp? b g opid = some o →
      s.abortWithin b h.step 60000 = false → Answers (.wbDataHoldEnd b g opid) s fun t =>
    t.die.wbHolds = s.die.wbHolds.erase h ∧ t.die.sync = s.die.sync ∧ t.tsu.time = s.tsu.time ∧ s.samePhi t)

/-- The weighbridge at a Phidor (R230, R232, R242, R243): the first chunk of an operation opens its context, a result frame goes down to
every member, `CLOSED` frees the context, acknowledgements are collected and, once all have come, close the operation as the cycle ends, and a re-fetch is served. -/
def Obligations.WeighbridgeAtPhidor : Prop :=
  (∀ (s : State) (port b g : Nat) (e : Env) (f : WbPl), s.inOrder .phi port e → s.engineShut .phi 6 = false → e.basin.toNat = b →
      e.gen.toNat = g → s.sequences b g = false →
    (s.wbDiscards b g f.opid = false → (s.memberPorts b g).contains port = true → s.op? b g f.opid = none →
        creditFree 8192 (s.counted 1) (s.hub.ops.map (·.basin)) b = true → f.fmt.toNat / 16 < 7 →
        Answers (.wbDataReceive port e f none) s fun t =>
      (∃ x, t.op? b g f.opid = some x ∧ x.inputs = [Input.mk port 0 f.chunk.toNat f.fmt f.acc
          (f.last && !f.acc) (!f.acc || f.last) f.data])
        ∧ t.hub.seqs = s.hub.seqs ∧ t.out = s.out ∧ t.phi.time = s.phi.time ∧ t.mdl = s.mdl ∧ s.sameTsu t)
    ∧ (e.up = false → f.fmt.toNat / 16 < 7 → Answers (.wbResultForward port e f) s fun t =>
      (∀ i ∈ s.memberPorts b g, s.takesFrames .phi i (.wbResult f) → t.queued .phi i (.wbResult f)) ∧ t.hub = s.hub ∧ t.out = s.out
        ∧ t.phi.time = s.phi.time ∧ t.mdl = s.mdl ∧ s.sameTsu t)
    ∧ (e.up = false → f.fmt = 0xFE → Answers (.wbResultForward port e f) s fun t =>
      (∀ i ∈ s.memberPorts b g, s.takesFrames .phi i (.wbResult f) → t.queued .phi i (.wbResult f)) ∧ t.op? b g f.opid = none
        ∧ t.hub.seqs = s.hub.seqs ∧ t.out = s.out ∧ t.phi.time = s.phi.time ∧ t.mdl = s.mdl ∧ s.sameTsu t)
    ∧ (e.up = true → f.fmt = 0xFE → Answers (.relayedClosedReceive port e f) s fun t =>
      (s.takesFrames .phi s.uplink (.wbResult f) → t.queued .phi s.uplink (.wbResult f)) ∧ t.op? b g f.opid = none
        ∧ t.hub.seqs = s.hub.seqs ∧ t.out = s.out ∧ t.phi.time = s.phi.time ∧ t.mdl = s.mdl ∧ s.sameTsu t))
  ∧ (∀ (s : State) (port b g : Nat) (e : Env) (f : WbAckPl) (o : OpCtx), s.inOrder .phi port e → s.engineShut .phi 6 = false →
      e.basin.toNat = b → e.gen.toNat = g → s.sequences b g = true → s.op? b g f.opid = some o → o.opened = true →
    (f.status = 0x00 → Answers (.wbAckOk port e f) s fun t =>
      (∃ x, t.op? b g f.opid = some x ∧ f.origin.toNat ∈ x.acks ∧ (∀ d ∈ o.acks, d ∈ x.acks)
          ∧ x.full = o.ranks.all (o.acks ++ [f.origin.toNat]).contains) ∧ t.hub.seqs = s.hub.seqs
        ∧ t.out = s.out ∧ t.phi.time = s.phi.time ∧ t.mdl = s.mdl ∧ s.sameTsu t)
    ∧ (f.status = 0x0B → gathered o.wbop = false → Answers (.wbAckParity port e f [] []) s fun t =>
      (∃ x, t.op? b g f.opid = some x ∧ x.refetches = o.refetches + 1 ∧ x.acks = o.acks.filter (· != f.origin.toNat) ∧ x.kept = o.kept ∧ x.full = false)
        ∧ t.hub.seqs = s.hub.seqs ∧ t.out = s.out ∧ t.phi.time = s.phi.time ∧ t.mdl = s.mdl ∧ s.sameTsu t))
  ∧ (∀ (s : State) (o : OpCtx), s.pending = [] → s.hub.ops = [o] → o.opened = true → o.full = true →
    ∃ t, step s = .next t ∧ t.op? o.basin o.gen o.opid = none)

/-- Creation, loading and start of a basin (R116, R120 to R124): `BASIN_CREATE`, `TIDE_LOAD`, a patch that waits for its step, `BASIN_START`
and `MEMBER_LIST`. -/
def Obligations.BasinLoading : Prop :=
  (∀ (s : State) (ring idx b pair : Nat) (dies : List Nat) (d : Desc), s.ready .phi ring idx 0x10 d → s.basinRoom b = true →
      d.plBits 0 2 0 12 = b → s.phi.inService = false → d.pl 8 4 ≤ 65536 → s.createOk d (takeDies dies (d.pl 8 4)) = true →
      s.seq? b = none → d.pl 2 2 ≠ 0 → tabGet? s.hub.lastGen b ≠ some (d.pl 2 2) → s.pairFor (d.pl 12 4) = some pair →
      s.hub.seqs.length < 256 → Answers (.basinCreate ring idx dies) s fun t =>
    (∃ q, t.seq? b = some q ∧ q.gen = d.pl 2 2 ∧ q.members = takeDies dies (d.pl 8 4) ∧ q.entries = d.pl 12 4 ∧ q.state = .loading
        ∧ q.k = (if d.plBits 4 1 0 5 = 0 then 10 else d.plBits 4 1 0 5) ∧ q.table = [] ∧ q.pair = pair ∧ q.lastL = 0
        ∧ q.preds = List.replicate 16 {} ∧ q.lctr = List.replicate 8 0)
      ∧ (∀ c, c ≠ b → t.seq? c = s.seq? c) ∧ t.desc? .phi ring idx = none ∧ t.phi.time = s.phi.time ∧ t.mdl = s.mdl ∧ s.sameTsu t)
  ∧ (∀ (s : State) (ring idx b first n : Nat) (data : List Byte) (d : Desc) (q : Seq), s.ready .phi ring idx 0x11 d →
      s.basinRoom b = true → d.plBits 0 2 0 12 = b → d.plBits 4 4 0 24 = first → d.pl 8 4 = n → s.seq? b = some q →
      d.plBits 26 1 1 7 = 0 → d.pl 27 1 = 0 → n ≠ 0 → n ≤ 16777216 → d.pl 12 8 % 64 = 0 → first + n ≤ q.entries →
      q.gen = d.pl 2 2 → crc32c (padTo (32 * n) data) = BitVec.ofNat 32 (d.pl 28 4) →
    (d.plBit 26 0 = false → q.state = .loading ∨ q.state = .parked → Answers (.tideLoad ring idx data) s fun t =>
      (∃ x, t.seq? b = some x ∧ (∀ i, i < n → x.entry (first + i) = slice (padTo (32 * n) data) (32 * i) 32)
          ∧ (∀ i, (i < first ∨ first + n ≤ i) → x.entry i = q.entry i) ∧ x.state = q.state ∧ x.pc = q.pc)
        ∧ (∀ c, c ≠ b → t.seq? c = s.seq? c) ∧ t.desc? .phi ring idx = none ∧ t.phi.time = s.phi.time ∧ t.mdl = s.mdl ∧ s.sameTsu t)
    ∧ (d.plBit 26 0 = true → q.runs = true → n ≤ 65536 → q.patch = none → stepLater (BitVec.ofNat 48 (d.pl 20 6)) q.lastIssued = true →
        Answers (.tideLoad ring idx data) s fun t =>
      t.seq? b = some { q with patch := some ⟨ring, idx, first, padTo (32 * n) data, BitVec.ofNat 48 (d.pl 20 6)⟩ }
        ∧ (∀ c, c ≠ b → t.seq? c = s.seq? c) ∧ (t.desc? .phi ring idx).isSome = true ∧ t.phi.time = s.phi.time ∧ t.mdl = s.mdl
        ∧ s.sameTsu t))
  ∧ (∀ (s : State) (ring idx b : Nat) (d : Desc) (q : Seq), s.ready .phi ring idx 0x12 d → s.basinRoom b = true →
      d.plBits 0 2 0 12 = b → s.seq? b = some q → q.gen = d.pl 2 2 → q.state = .loading → d.pl 10 2 = 0 →
      d.plBits 12 4 0 24 < q.entries → q.crc = BitVec.ofNat 32 (d.pl 24 4) → q.firstBad = none →
      (BitVec.ofNat 64 (d.pl 16 8)).toNat % 2 ^ q.k = 0 → s.engineShut .phi 5 = false → Answers (.basinStart ring idx) s fun t =>
    (∃ x, t.seq? b = some x ∧ x.state = .running ∧ x.pc = d.plBits 12 4 0 24 ∧ x.firstStep = BitVec.ofNat 48 (d.pl 4 6)
        ∧ x.lastIssued = BitVec.ofNat 48 (d.pl 4 6) - 1 ∧ x.floor = BitVec.ofNat 64 (d.pl 16 8)
        ∧ x.joinWait = q.joinWait.filter (fun m => !q.members.contains m) ++ q.members
        ∧ x.table = q.table)
      ∧ (∀ c, c ≠ b → t.seq? c = s.seq? c) ∧ t.desc? .phi ring idx = none ∧ t.phi.time = s.phi.time ∧ t.mdl = s.mdl ∧ s.sameTsu t)
  ∧ (∀ (s : State) (ring idx b : Nat) (dies : List Nat) (d : Desc) (q : Seq), s.ready .phi ring idx 0x17 d → s.basinRoom b = true →
      d.plBits 0 2 0 12 = b → s.seq? b = some q → q.gen = d.pl 2 2 → 0 < d.pl 8 4 → d.pl 8 4 ≤ 65536 → d.pl 12 8 % 64 = 0 →
      (∀ i ∈ q.issued, d.pl 4 1 ∉ i.lists) → Answers (.memberList ring idx dies) s fun t =>
    t.seq? b = some { q with lists := tabSet q.lists (d.pl 4 1) (takeDies dies (d.pl 8 4)) } ∧ (∀ c, c ≠ b → t.seq? c = s.seq? c)
      ∧ t.desc? .phi ring idx = none ∧ t.phi.time = s.phi.time ∧ t.mdl = s.mdl ∧ s.sameTsu t)

/-- `BASIN_PARK`, `BASIN_RESUME`, `BASIN_DESTROY` and `BASIN_LEAD` (R123, R125, R149, R150). -/
def Obligations.BasinControl : Prop :=
  ∀ (s : State) (ring idx b op : Nat) (d : Desc) (q : Seq), s.ready .phi ring idx op d → s.basinRoom b = true →
      d.plBits 0 2 0 12 = b → s.seq? b = some q → q.gen = d.pl 2 2 →
  (op = 0x13 → q.state = .running → q.parkReq = none → q.issued ≠ [] → Answers (.basinPark ring idx) s fun t =>
    t.seq? b = some { q with parkReq := some (2, 0), hostPark := true } ∧ (∀ c, c ≠ b → t.seq? c = s.seq? c) ∧ t.desc? .phi ring idx = none
      ∧ t.phi.time = s.phi.time ∧ t.mdl = s.mdl ∧ s.sameTsu t)
  ∧ (op = 0x13 → q.state = .waiting → q.parkReq = none → q.issued = [] → q.ending = false → q.tear = false →
      Answers (.basinPark ring idx) s fun t =>
    (∃ x, t.seq? b = some x ∧ x.state = .parked ∧ x.reason = 2 ∧ x.patch = none ∧ x.pc = q.pc)
      ∧ (∀ c, c ≠ b → t.seq? c = s.seq? c) ∧ t.desc? .phi ring idx = none ∧ t.phi.time = s.phi.time ∧ t.mdl = s.mdl ∧ s.sameTsu t)
  ∧ (op = 0x14 → q.state = .parked → s.engineShut .phi 5 = true → Answers (.basinResume ring idx) s fun t =>
    t.seq? b = some q ∧ (∀ c, c ≠ b → t.seq? c = s.seq? c) ∧ t.desc? .phi ring idx = none ∧ t.phi.time = s.phi.time ∧ t.mdl = s.mdl
      ∧ s.sameTsu t)
  ∧ (op = 0x14 → q.state = .parked → q.tableLost = false → q.reason ≠ 12 → s.engineShut .phi 5 = false → Answers (.basinResume ring idx) s fun t =>
    (∃ x, t.seq? b = some x ∧ x.state = .running ∧ x.reason = 0 ∧ x.pc = q.pc ∧ x.preds = q.preds ∧ x.lctr = q.lctr)
      ∧ (∀ c, c ≠ b → t.seq? c = s.seq? c) ∧ t.desc? .phi ring idx = none ∧ t.phi.time = s.phi.time ∧ t.mdl = s.mdl ∧ s.sameTsu t)
  ∧ (op = 0x15 → q.state ≠ .destroying → q.runs = false → Answers (.basinDestroy ring idx) s fun t =>
    (∃ x, t.seq? b = some x ∧ x.state = .destroying ∧ x.issued = [] ∧ x.patch = none ∧ x.destroy = q.destroy ++ [(ring, idx)])
      ∧ (b, q.gen) ∈ t.hub.tearing ∧ (∀ c, c ≠ b → t.seq? c = s.seq? c) ∧ t.phi.time = s.phi.time ∧ t.mdl = s.mdl ∧ s.sameTsu t)
  ∧ (op = 0x15 → q.runs = true → q.issued ≠ [] → Answers (.basinDestroy ring idx) s fun t =>
    t.seq? b = some { q with destroy := q.destroy ++ [(ring, idx)], tear := true, hostPark := true,
                             parkReq := some (q.parkReq.getD (2, 0)) }
      ∧ t.hub.tearing = s.hub.tearing ∧ (∀ c, c ≠ b → t.seq? c = s.seq? c) ∧ t.phi.time = s.phi.time ∧ t.mdl = s.mdl ∧ s.sameTsu t)
  ∧ (op = 0x15 → q.state = .waiting → q.parkReq = none → q.issued = [] → q.ending = false → Answers (.basinDestroy ring idx) s fun t =>
    (∃ x, t.seq? b = some x ∧ x.state = .destroying ∧ x.destroy = q.destroy ++ [(ring, idx)]) ∧ (b, q.gen) ∈ t.hub.tearing
      ∧ (∀ c, c ≠ b → t.seq? c = s.seq? c) ∧ t.phi.time = s.phi.time ∧ t.mdl = s.mdl ∧ s.sameTsu t)
  ∧ (op = 0x15 → q.state = .destroying → q.ever.all q.purged.contains = false → Answers (.basinDestroy ring idx) s fun t =>
    t.seq? b = some { q with destroy := q.destroy ++ [(ring, idx)] } ∧ t.hub.tearing = s.hub.tearing
      ∧ (∀ c, c ≠ b → t.seq? c = s.seq? c) ∧ t.phi.time = s.phi.time ∧ t.mdl = s.mdl ∧ s.sameTsu t)
  ∧ (op = 0x15 → q.state = .destroying → q.ever.all q.purged.contains = true → Answers (.basinDestroy ring idx) s fun t =>
    t.seq? b = none ∧ (b, q.gen) ∉ t.hub.tearing ∧ (∀ c, c ≠ b → t.seq? c = s.seq? c) ∧ t.desc? .phi ring idx = none
      ∧ t.phi.time = s.phi.time ∧ t.mdl = s.mdl ∧ s.sameTsu t)
  ∧ (op = 0x16 → q.role ≠ .detached → Answers (.basinLead ring idx) s fun t =>
    t.seq? b = some { q with role := if bit1 (d.plBit 4 0) == s.phiPlane then .leader else .follower,
                             goNs := if bit1 (d.plBit 4 0) == s.phiPlane && q.role = .leader then q.goNs else none }
      ∧ (∀ c, c ≠ b → t.seq? c = s.seq? c) ∧ t.desc? .phi ring idx = none ∧ t.phi.time = s.phi.time ∧ t.mdl = s.mdl ∧ s.sameTsu t)

/-- The tide entries that work on the sequencer alone (R126, R134, R136, R137, R139, R140): each changes what its opcode says in its basin,
and the next entry follows. -/
def Obligations.TideEntries : Prop :=
  ∀ (s : State) (b op : Nat) (q : Seq) (e : List Byte), s.atEntry b op q → q.entry q.pc = e →
  (op = 0x00 → Answers (.tideNop b) s fun t => s.onlySeq t b (q.stepped (q.pc + 1) false))
  ∧ (op = 0x04 → field e 5 1 % 32 = 0 → Answers (.tideBranch b) s fun t => s.onlySeq t b (q.stepped (field e 8 3) true))
  ∧ (∀ p, op = 0x04 → field e 5 1 % 32 ≠ 0 → q.preds.getD (field e 4 1 % 16) {} = p →
      (p.valid = true → Answers (.tideBranch b) s fun t =>
        s.onlySeq t b (if branchTest (field e 5 1 % 32) p (BitVec.ofNat 64 (field e 16 8)) then q.stepped (field e 8 3) true
          else q.stepped (q.pc + 1) false))
      ∧ (p.valid = false → Answers (.tideBranch b) s fun t =>
        s.onlySeq t b { q with state := .waiting, waitNs := some (q.waitNs.getD (s.ns .phi)), cls := .back,
                               fetched := false }))
  ∧ (op = 0x05 → Answers (.tideLoopSet b) s fun t =>
      s.onlySeq t b { q.stepped (q.pc + 1) false with lctr := listAdj q.lctr (field e 4 1 % 8) (fun _ => field e 8 4) })
  ∧ (op = 0x06 → q.lctr.getD (field e 4 1 % 8) 0 ≤ 1 → Answers (.tideLoopBack b) s fun t =>
      s.onlySeq t b { q.stepped (q.pc + 1) false with lctr := listAdj q.lctr (field e 4 1 % 8) (fun v => if v ≤ 1 then 0 else v - 1) })
  ∧ (op = 0x06 → 1 < q.lctr.getD (field e 4 1 % 8) 0 → Answers (.tideLoopBack b) s fun t =>
      s.onlySeq t b { q.stepped (field e 8 3) true with lctr := listAdj q.lctr (field e 4 1 % 8) (fun v => if v ≤ 1 then 0 else v - 1) })
  ∧ (op = 0x07 → Answers (.tideMeterMark b) s fun t =>
      s.onlySeq t b { q.stepped (q.pc + 1) false with marks := q.marks ++ [BitVec.ofNat 32 (field e 8 4)] })
  ∧ (op = 0x08 → Answers (.tideMemberAdd b) s fun t =>
      s.onlySeq t b { q.stepped (q.pc + 1) false with changes := q.changes ++ [⟨true, field e 4 1⟩] })
  ∧ (op = 0x09 → Answers (.tideMemberDel b) s fun t =>
      s.onlySeq t b { q.stepped (q.pc + 1) false with changes := q.changes ++ [⟨false, field e 4 1⟩] })
  ∧ (op = 0x0A → Answers (.tidePredSet b) s fun t =>
      s.onlySeq t b { q.stepped (q.pc + 1) false with preds := listAdj q.preds (field e 4 1 % 16) (fun _ => predOf 9 (field e 8 8)) })

/-- The tide entries that act outside the sequencer or stop it (R130, R132, R133, R150): `LAUNCH` at the leader issues the next step at the
bell that R130 chooses, `REDUCE` opens its operation, `GATE_WAIT` takes a release or waits, `PARK` and `END`. -/
def Obligations.TideSteps : Prop :=
  ∀ (s : State) (b op : Nat) (q : Seq) (e : List Byte), s.atEntry b op q → q.entry q.pc = e →
  (op = 0x01 → q.role = .leader → q.patch = none → q.depth < 16 → q.changes = [] → q.joinWait = [] →
      (q.issuedAny && q.lastIssued == BitVec.allOnes 48) = false → Answers (.tideLaunch b) s fun t =>
    (∃ x, t.seq? b = some x ∧ x.lastIssued = q.lastIssued + 1 ∧ x.lastL = q.chooseL (q.goNs.getD (s.ns .phi)) (field e 7 1 % 32) ∧ x.pc = q.pc + 1
        ∧ x.issued.map (·.step) = q.issued.map (·.step) ++ [q.lastIssued + 1] ∧ x.sinceLaunch = 0 ∧ x.preds = q.preds
        ∧ x.lctr = q.lctr ∧ x.state = .running)
      ∧ (∀ c, c ≠ b → t.seq? c = s.seq? c) ∧ t.out = s.out ∧ t.phi.time = s.phi.time ∧ t.mdl = s.mdl ∧ s.sameTsu t)
  ∧ (∀ opid, op = 0x02 → opid = opidOf q.lastIssued (field e 8 1) → s.op? b q.gen opid = none →
      comboOk (field e 4 1) (field e 5 1) = true →
      (gathered (field e 4 1) && q.members.length * (field e 6 2 % 8192) > 16777216) = false → q.members ≠ [] → 0 < field e 6 2 % 8192 →
      creditFree 8192 (s.counted 1) (s.hub.ops.map (·.basin)) b = true → Answers (.tideReduce b) s fun t =>
    (∃ o, t.op? b q.gen opid = some o ∧ o.opened = true ∧ o.fmt = fmtByte (field e 4 1) (field e 5 1) ∧ o.step = q.lastIssued
        ∧ o.len = field e 6 2 % 8192 ∧ o.ranks = q.members ∧ o.openNs = s.ns .phi ∧ o.inputs = [])
      ∧ (∃ x, t.seq? b = some x ∧ x.pc = q.pc + 1 ∧ x.lctr = q.lctr
          ∧ x.issued = q.reopen.issued.map (fun i => if i.step = q.lastIssued then { i with ops := i.ops ++ [opid] } else i))
      ∧ (∀ c, c ≠ b → t.seq? c = s.seq? c) ∧ t.out = s.out ∧ t.phi = s.phi ∧ t.mdl = s.mdl ∧ s.sameTsu t)
  ∧ (∀ rb rs, op = 0x03 → s.gateHits b q (field e 4 2 % 4096) = rb :: rs → Answers (.tideGateWait b) s fun t =>
      s.onlySeq t b { q.stepped (q.pc + 1) false with floor := rb })
  ∧ (op = 0x03 → s.gateHits b q (field e 4 2 % 4096) = [] → Answers (.tideGateWait b) s fun t =>
      s.onlySeq t b { q with state := .waiting, waitNs := some (q.waitNs.getD (s.ns .phi)), cls := .back,
                             fetched := false })
  ∧ (op = 0x0B → q.tear = false → Answers (.tidePark b) s fun t =>
    (∃ x, t.seq? b = some x ∧ x.pc = q.pc + 1 ∧ x.preds = q.preds ∧ x.lctr = q.lctr
        ∧ (q.issued = [] → x.state = .parked ∧ x.reason = 1 ∧ x.reasonArg = field e 8 4)
        ∧ (q.issued ≠ [] → x.halted = true ∧ x.parkReq = some (1, field e 8 4) ∧ x.issued = q.issued))
      ∧ (∀ c, c ≠ b → t.seq? c = s.seq? c) ∧ t.phi.time = s.phi.time ∧ t.mdl = s.mdl ∧ s.sameTsu t)
  ∧ (op = 0x0C → q.tear = false → Answers (.tideEnd b) s fun t =>
    (∃ x, t.seq? b = some x ∧ x.pc = q.pc ∧ (q.issued = [] → x.state = .ended) ∧ (q.issued ≠ [] → x.ending = true ∧ x.issued = q.issued))
      ∧ (∀ c, c ≠ b → t.seq? c = s.seq? c) ∧ t.phi.time = s.phi.time ∧ t.mdl = s.mdl ∧ s.sameTsu t)

/-- The timers of the sequencer (R130, R131, R133, R138, R144, R149, R150, R176, R204, R319). -/
def Obligations.SequencerTimers : Prop :=
  ∀ (s : State) (b : Nat) (q : Seq), s.seq? b = some q →
  (∀ step i, q.issued.find? (fun i => i.step == step) = some i → i.announced = false → q.role ≠ .detached →
      (s.ns .phi - nsAdd i.l (-(1000 * (q.annLeadUs : Int)))).toInt ≥ 0 → Answers (.announceSend b step) s fun t =>
    (∀ p ∈ s.portsAt b q.gen step, s.takesFrames .phi p (.announce (wavePl i)) → t.queued .phi p (.announce (wavePl i)))
      ∧ t.seq? b = some { q with issued := q.issued.map (fun i => if i.step = step then { i with announced := true } else i) }
      ∧ (∀ c, c ≠ b → t.seq? c = s.seq? c) ∧ t.out = s.out ∧ t.phi.time = s.phi.time ∧ t.mdl = s.mdl ∧ s.sameTsu t)
  ∧ (∀ w, q.live = true → q.state = .waiting → q.opAt q.pc = 0x03 → q.waitNs = some w → q.issuedAny = true → q.rewait = false →
      s.gateHits b q (field (q.entry q.pc) 4 2 % 4096) = [] →
      (s.ns .phi - q.lastL).toInt ≥ 1000 * ((if field (q.entry q.pc) 8 4 = 0 then q.waitUs else field (q.entry q.pc) 8 4 : Nat) : Int) →
      Answers (.gateWaitTimeout b) s fun t =>
    (∃ x, t.seq? b = some x ∧ x.aborts = satNat 32 (q.aborts + 1))
      ∧ (∀ c ∈ t.hub.gates, c.basin = b → c.gen = q.gen → c.counts = []) ∧ t.phi.time = s.phi.time ∧ t.mdl = s.mdl ∧ s.sameTsu t)
  ∧ (∀ w, q.live = true → q.tear = false → q.state = .waiting → q.opAt q.pc = 0x04 → q.waitNs = some w →
      (s.ns .phi - w).toInt ≥ 1000 * ((if field (q.entry q.pc) 12 4 = 0 then q.waitUs else field (q.entry q.pc) 12 4 : Nat) : Int) →
      (q.preds.getD (field (q.entry q.pc) 4 1 % 16) {}).valid = false → Answers (.branchWaitTimeout b) s fun t =>
    (∃ x, t.seq? b = some x ∧ x.pc = q.pc ∧ (q.issued = [] → x.state = .parked ∧ x.reason = 7 ∧ x.reasonArg = q.pc)
        ∧ (q.issued ≠ [] → x.halted = true ∧ x.parkReq = some (7, q.pc)))
      ∧ (∀ c, c ≠ b → t.seq? c = s.seq? c) ∧ t.phi.time = s.phi.time ∧ t.mdl = s.mdl ∧ s.sameTsu t)
  ∧ (Fires (.tideFetchDone b) s (q.winLeft ≠ none ∧ q.tableLost = false) fun t =>
      t.seq? b = some { (if q.winLeft = some 0 then q.go (s.ns .phi) else q) with
          winLeft := none, fetched := q.fetched || q.winLeft == some 0 }
        ∧ (∀ c, c ≠ b → t.seq? c = s.seq? c) ∧ t.out = s.out ∧ t.phi.time = s.phi.time ∧ t.mdl = s.mdl ∧ s.sameTsu t)
  ∧ (∀ i, q.issued = [i] → i.committed = false → i.ops = [] → q.parkReq = none → q.ending = false → q.changes = [] →
      (s.ns .phi - nsAdd i.l 20000).toInt ≥ 0 → Answers (.stepCommitTimer b i.step) s fun t =>
    t.seq? b = some { q with issued := [], lastSettled := i.step, done := some { i with committed := true, counted := true },
                             abortJ := if q.abortJ.any (fun j => !stepLater i.step j) then q.abortJ else none,
                             abortRun := if q.abortJ.any (fun j => !stepLater i.step j) then q.abortRun else 0 }
      ∧ (∀ c, c ≠ b → t.seq? c = s.seq? c) ∧ t.out = s.out ∧ t.phi.time = s.phi.time ∧ t.mdl = s.mdl ∧ t.tsu = s.tsu)
  ∧ (∀ x, q.joinNs = some x → q.joinWait ≠ [] → q.runs = true → q.halted = false → q.tear = false →
      (s.ns .phi - x).toInt ≥ 1000 * (q.waitUs : Int) → Answers (.memberConfirmTimeout b) s fun t =>
    (∃ x, t.seq? b = some x ∧ x.pc = q.pc ∧ (q.issued = [] → x.state = .parked ∧ x.reason = 4)
        ∧ (q.issued ≠ [] → x.halted = true ∧ x.parkReq = some (4, q.pc)))
      ∧ (∀ c, c ≠ b → t.seq? c = s.seq? c) ∧ t.phi.time = s.phi.time ∧ t.mdl = s.mdl ∧ s.sameTsu t)
  ∧ (∀ w, q.waitNs = some w → Fires (.leadTimeout b) s (q.live = true ∧ q.role = .follower ∧ q.state = .waiting ∧ q.opAt q.pc = 0x01
        ∧ (∀ x ∈ q.learned, x.step ≠ q.nextStep) ∧ (s.ns .phi - w).toInt ≥ 1000 * (q.leadTimeoutUs : Int)) fun t =>
      s.onlySeq t b { q with role := .leader, waitNs := none, goNs := none })
  ∧ (∀ x, q.waveNs = some x → q.parkReq = none → q.ending = false → Fires (.abortWaveComplete b) s ((s.ns .phi - x).toInt ≥ 0) fun t =>
      s.onlySeq t b { q.go x with waveNs := none, cls := .wasted, fetched := false, rewait := true, waitNs := none,
                                     joinNs := if q.joinWait.isEmpty then none else some (s.ns .phi) })

/-- The six commands of the launch wave at a Phidor. Every `ANNOUNCE`, `COMMIT`, `ACK`, `ABORT` and `MEMBER` that comes in order completes,
whatever the state and the frame (R47), and changes no time, no TSU and no module. Below a sequencing Phidor an `ANNOUNCE` or `COMMIT` that is no copy
goes on to the members of its step, a copy nowhere (R153, R172); the L noted of an `ANNOUNCE` is its expanded stamp, or the instant of receipt in a
time state that expands none (the model's choice, log entry 85); an `ABORT` that is no copy goes on (R167), ends the counts of the basin's open gate uses
(R206) and is counted by its sequencer (R150). The first `ACK` of a key goes up as an aggregate; with a full count the leader sends `COMMIT` by its cutoff (R155, R156). A
sequencer that passes its cutoff sends none (R156). A join is noted and goes down, a purge confirmation removes the die and goes up (R118, R141). -/
def Obligations.WaveAtPhidor : Prop :=
  (∀ (s : State) (port : Nat) (e : Env) (f : LaunchPl) (m : MemberPl), s.inOrder .phi port e →
    Answers (.announceForward port e f) s (fun t => t.phi.time = s.phi.time ∧ t.mdl = s.mdl ∧ s.sameTsu t)
    ∧ Answers (.commitForward port e f) s (fun t => t.phi.time = s.phi.time ∧ t.mdl = s.mdl ∧ s.sameTsu t)
    ∧ Answers (.ackReceive port e f) s (fun t => t.phi.time = s.phi.time ∧ t.mdl = s.mdl ∧ s.sameTsu t)
    ∧ Answers (.abortForward port e f) s (fun t => t.phi.time = s.phi.time ∧ t.mdl = s.mdl ∧ s.sameTsu t)
    ∧ Answers (.memberForward port e m) s (fun t => t.phi.time = s.phi.time ∧ t.mdl = s.mdl ∧ s.sameTsu t))
  ∧ (∀ (s : State) (port b g : Nat) (e : Env) (f : LaunchPl), s.inOrder .phi port e → e.basin.toNat = b → e.gen.toNat = g →
    (s.sequences b g = false → s.key? .phi b g f.step 0 = none → Answers (.announceForward port e f) s fun t =>
      (∀ p ∈ s.portsAt b g f.step, s.takesFrames .phi p (.announce f) → t.queued .phi p (.announce f))
        ∧ t.hub.seen.head? = some ⟨b, g, f.step, if s.phi.time.expands then expandStamp (s.ns .phi) f.bell else s.ns .phi⟩
        ∧ t.hub.seqs = s.hub.seqs ∧ t.out = s.out
        ∧ t.phi.time = s.phi.time ∧ t.mdl = s.mdl ∧ s.sameTsu t)
    ∧ (s.sequences b g = false → s.key? .phi b g f.step 1 = none → Answers (.commitForward port e f) s fun t =>
      (∀ p ∈ s.portsAt b g f.step, s.takesFrames .phi p (.commit f) → t.queued .phi p (.commit f))
        ∧ t.hub = s.hub ∧ t.out = s.out ∧ t.phi.time = s.phi.time ∧ t.mdl = s.mdl ∧ s.sameTsu t)
    ∧ (∀ k, s.sequences b g = false → s.key? .phi b g f.step 1 = some k → k.bells.contains f.bell = true →
        Answers (.commitForward port e f) s fun t =>
      (∀ p, (t.port .phi p).queue = (s.port .phi p).queue) ∧ t.phi.keys = s.phi.keys ∧ t.hub = s.hub ∧ t.out = s.out
        ∧ t.phi.time = s.phi.time ∧ t.mdl = s.mdl ∧ s.sameTsu t)
    ∧ (s.key? .phi b g f.step 2 = none → Answers (.abortForward port e f) s fun t =>
      (s.sequences b g = false → ∀ p ∈ s.spreadPorts port b g, s.takesFrames .phi p (.abort f) → t.queued .phi p (.abort f))
        ∧ (∀ c ∈ t.hub.gates, c.basin = b → c.gen = g → c.counts = [])
        ∧ (∀ q, s.seq? b = some q → q.gen = g → ∃ x, t.seq? b = some x ∧ x.aborts = satNat 32 (q.aborts + 1))
        ∧ t.phi.time = s.phi.time ∧ t.mdl = s.mdl ∧ s.sameTsu t))
  ∧ (∀ (s : State) (port b g : Nat) (e : Env) (f : LaunchPl), s.inOrder .phi port e → e.basin.toNat = b → e.gen.toNat = g →
      f.status = 0 → (∀ c ∈ s.hub.acks, ¬(c.basin = b ∧ c.gen = g ∧ c.step = f.step ∧ c.bell = f.bell)) →
    (s.seq? b = none → Answers (.ackReceive port e f) s fun t =>
      (s.takesFrames .phi s.uplink (.ack f) → t.queued .phi s.uplink (.ack { f with agg := true, origin := 0 }))
        ∧ t.hub.seqs = s.hub.seqs ∧ t.out = s.out ∧ t.phi.time = s.phi.time ∧ t.mdl = s.mdl ∧ s.sameTsu t)
    ∧ (∀ q i, s.seq? b = some q → q.gen = g → q.role = .leader → q.runs = true → s.phi.time.expands = true →
        stampNear (s.ns .phi) (expandStamp (s.ns .phi) f.bell) = true → q.dead (s.ns .phi) f.step f.bell = false →
        q.issued.find? (fun i => i.step == f.step) = some i → shortStamp i.l = f.bell → i.commitSent = false → i.cut = false →
        f.count.toNat = i.members.length → (s.cutoff i.l - s.ns .phi).toInt ≥ 0 → Answers (.ackReceive port e f) s fun t =>
      (∀ p ∈ s.portsAt b g f.step, s.takesFrames .phi p (.commit (wavePl i)) → t.queued .phi p (.commit (wavePl i)))
        ∧ t.seq? b = some { q with issued := q.issued.map (fun i => if i.step = f.step then { i with commitSent := true } else i) }
        ∧ (∀ c, c ≠ b → t.seq? c = s.seq? c) ∧ t.out = s.out ∧ t.phi.time = s.phi.time ∧ t.mdl = s.mdl ∧ s.sameTsu t))
  ∧ (∀ (s : State) (b : Nat) (q : Seq) (step : StepNo), s.seq? b = some q → Fires (.commitCutoff b step) s
      (q.issued.any (fun i => i.step == step && !i.commitSent && later (s.ns .phi) (s.cutoff i.l)) = true) fun t =>
    s.onlySeq t b { q with issued := q.issued.map (fun i => if i.step = step then { i with cut := true } else i) })
  ∧ (∀ (s : State) (port b g p : Nat) (e : Env) (f : MemberPl), s.inOrder .phi port e → e.basin.toNat = b → e.gen.toNat = g →
      f.tear = false → f.action = 0 → port = s.uplink → s.routeDie f.die.toNat = [p] → Answers (.memberForward port e f) s fun t =>
    ⟨f.die.toNat, p, f.step, none⟩ ∈ t.pathMembers b g ∧ (s.takesFrames .phi p (.member f) → t.queued .phi p (.member f))
      ∧ t.hub.seqs = s.hub.seqs ∧ t.out = s.out ∧ t.phi.time = s.phi.time ∧ t.mdl = s.mdl ∧ s.sameTsu t)
  ∧ (∀ (s : State) (port b g : Nat) (e : Env) (f : MemberPl), s.inOrder .phi port e → e.basin.toNat = b → e.gen.toNat = g →
      f.tear = false → f.action = 2 → port ≠ s.uplink → s.sequences b g = false → Answers (.memberForward port e f) s fun t =>
    (∀ m ∈ t.pathMembers b g, m.die ≠ f.die.toNat) ∧ (s.takesFrames .phi s.uplink (.member f) → t.queued .phi s.uplink (.member f))
      ∧ t.hub.seqs = s.hub.seqs ∧ t.out = s.out ∧ t.phi.time = s.phi.time ∧ t.mdl = s.mdl ∧ s.sameTsu t)

/-- Hall gates at a Phidor (R199 to R204): the first arrival is forwarded, a full count at the leader releases the use at a bell, a
follower takes over after 4 us, releases go on and are kept, a use without a full count times out, contexts are freed. -/
def Obligations.HallGates : Prop :=
  (∀ (s : State) (port b g : Nat) (e : Env) (f : GatePl), s.inOrder .phi port e → e.basin.toNat = b → e.gen.toNat = g →
      (∀ d ∈ s.hub.discards, ¬(d.basin = b ∧ d.gen = g)) → (s.memberPorts b g).contains port = true →
    (s.seq? b = none → s.gateCtx? b g f.gate.toNat = none → creditFree 65536 (s.counted 8) (s.hub.gates.map (·.basin)) b = true →
        Answers (.gateArriveReceive port e f) s fun t =>
      (∃ c, t.gateCtx? b g f.gate.toNat = some c ∧ c.counts = [(port, f.count.toNat)] ∧ c.released = f.use - 1 ∧ c.first = true)
        ∧ (∀ pl, pl = Payload.gateArrive ⟨f.gate, f.use, f.count, 0, 0, true⟩ → s.takesFrames .phi s.uplink pl →
            t.queued .phi s.uplink pl)
        ∧ t.hub.seqs = s.hub.seqs ∧ t.out = s.out ∧ t.phi.time = s.phi.time ∧ t.mdl = s.mdl ∧ s.sameTsu t)
    ∧ (∀ q c, s.seq? b = some q → q.gen = g → q.role = .leader → s.gateCtx? b g f.gate.toNat = some c → f.use = c.released + 1 →
        c.counts = [] → 0 < s.gateMembers b g → s.gateMembers b g ≤ f.count.toNat → Answers (.gateArriveReceive port e f) s fun t =>
      (∃ x, t.gateCtx? b g f.gate.toNat = some x ∧ x.released = f.use ∧ x.counts = []
          ∧ x.releases = c.releases ++ [(shortStamp (s.releaseBell q (s.ns .phi)), s.ns .phi)])
        ∧ (∀ p ∈ s.memberPorts b g, ∀ pl, pl = Payload.gateRelease ⟨f.gate, f.use, BitVec.ofNat 32 (s.gateMembers b g),
              shortStamp (s.releaseBell q (s.ns .phi)), 0, true⟩ → s.takesFrames .phi p pl → t.queued .phi p pl)
        ∧ t.hub.seqs = s.hub.seqs ∧ t.out = s.out ∧ t.phi.time = s.phi.time ∧ t.mdl = s.mdl ∧ s.sameTsu t))
  ∧ (∀ (s : State) (port b g : Nat) (e : Env) (f : GatePl) (c : GateCtx), s.inOrder .phi port e → e.basin.toNat = b → e.gen.toNat = g →
      s.gateCtx? b g f.gate.toNat = some c → (f.use - c.released).toInt > 0 →
      (∀ k ∈ s.phi.relKeys, ¬(k.basin = b ∧ k.gen = g ∧ k.gate = f.gate.toNat ∧ k.use = f.use)) →
    Answers (.gateReleaseForward port e f) s fun t =>
    (∃ x, t.gateCtx? b g f.gate.toNat = some x ∧ x.released = f.use ∧ x.counts = [])
      ∧ (∀ p ∈ s.spreadPorts port b g, s.takesFrames .phi p (.gateRelease f) → t.queued .phi p (.gateRelease f))
      ∧ t.hub.seqs = s.hub.seqs ∧ t.out = s.out ∧ t.phi.time = s.phi.time ∧ t.mdl = s.mdl ∧ s.sameTsu t)
  ∧ (∀ (s : State) (port b g : Nat) (e : Env) (f : GatePl), s.inOrder .phi port e → e.basin.toNat = b → e.gen.toNat = g →
      s.gateCtx? b g f.gate.toNat = none → s.sequences b g = true →
      creditFree 65536 (s.counted 8) (s.hub.gates.map (·.basin)) b = true →
      (∀ k ∈ s.phi.relKeys, ¬(k.basin = b ∧ k.gen = g ∧ k.gate = f.gate.toNat ∧ k.use = f.use)) →
    Answers (.gateReleaseForward port e f) s fun t =>
    (∃ x, t.gateCtx? b g f.gate.toNat = some x ∧ x.released = f.use ∧ x.counts = [] ∧ x.releases = [(f.relBell, s.ns .phi)])
      ∧ t.hub.seqs = s.hub.seqs ∧ t.out = s.out ∧ t.phi.time = s.phi.time ∧ t.mdl = s.mdl ∧ s.sameTsu t)
  ∧ (∀ (s : State) (b g gate : Nat) (c : GateCtx) (x : W64), s.gateCtx? b g gate = some c → c.lastRelNs = some x →
      Fires (.gateContextFree b g gate) s (s.sequences b g = false ∧ c.counts = [] ∧ (s.ns .phi - x).toInt ≥ 100000) fun t =>
    t.gateCtx? b g gate = none ∧ t = { s with hub.gates := t.hub.gates })
  ∧ (∀ (s : State) (b gate : Nat) (q : Seq) (c : GateCtx) (x : W64), s.seq? b = some q → s.gateCtx? b q.gen gate = some c →
      c.fullNs = some x → Fires (.followerReleaseTimer b gate) s (q.role = .follower ∧ (s.ns .phi - x).toInt ≥ 4000) fun t =>
    (∃ y, t.gateCtx? b q.gen gate = some y ∧ y.released = c.released + 1 ∧ y.counts = [])
      ∧ t.hub.seqs = s.hub.seqs ∧ t.out = s.out ∧ t.phi.time = s.phi.time ∧ t.mdl = s.mdl ∧ s.sameTsu t)
  ∧ (∀ (s : State) (b gate : Nat) (q : Seq) (c : GateCtx) (x : W64), s.seq? b = some q → s.gateCtx? b q.gen gate = some c →
      c.firstNs = some x → c.full = false → q.role ≠ .detached → (s.ns .phi - x).toInt ≥ 1000 * (q.waitUs : Int) →
    Answers (.hallGateTimeout b gate) s fun t =>
    (∃ x, t.seq? b = some x ∧ x.aborts = satNat 32 (q.aborts + 1))
      ∧ (∀ c ∈ t.hub.gates, c.basin = b → c.gen = q.gen → c.counts = []) ∧ t.phi.time = s.phi.time ∧ t.mdl = s.mdl ∧ s.sameTsu t)

/-- Samples, intervals, activity and bindings (R255, R256, R259, R262 to R266, R282): a good sample adds its energy, a sample that fails twice is
replaced and counted; a grid boundary ends the interval; tables are handed over; 5 ms later the records are written;
a report counts for the berth bound before its cycle, in the cycle of a boundary in the interval that it ends. -/
def Obligations.MeterIntervals : Prop :=
  (∀ (s : State) (frame retry : List Byte), s.meter.metering = true →
    (∀ v i uv ua : Int, adcCodes frame = some (v, i) → uv = v * (s.meter.param 0x01).toNat / 2 ^ 24 + (s.meter.param 0x02).toInt →
        ua = i * (s.meter.param 0x03).toNat / 2 ^ 24 + (s.meter.param 0x04).toInt → Answers (.adcSample frame retry) s fun t =>
      (uv * ua ≥ 0 → t.meter.accImp = s.meter.accImp + (uv * ua * 125).toNat ∧ t.meter.accExp = s.meter.accExp)
        ∧ (uv * ua < 0 → t.meter.accExp = s.meter.accExp + (-(uv * ua) * 125).toNat ∧ t.meter.accImp = s.meter.accImp)
        ∧ t.meter.lastV = v ∧ t.meter.lastI = i ∧ t.meter.eCum = s.meter.eCum ∧ t = { s with meter := t.meter })
    ∧ (∀ v i : Int, adcCodes frame = none → adcCodes retry = some (v, i) → Answers (.adcSample frame retry) s fun t =>
      t.meter.adcRetries = satNat 32 (s.meter.adcRetries + 1) ∧ t.meter.lastV = v ∧ t.meter.lastI = i ∧ t.meter.missed = s.meter.missed
        ∧ t.meter.eCum = s.meter.eCum ∧ t = { s with meter := t.meter })
    ∧ (adcCodes frame = none → adcCodes retry = none → s.meter.missed ≠ 256 → Answers (.adcSample frame retry) s fun t =>
      t.meter.missed = s.meter.missed + 1 ∧ t.meter.lastV = s.meter.lastV ∧ t.meter.lastI = s.meter.lastI
        ∧ t.meter.eCum = s.meter.eCum ∧ t = { s with meter := t.meter }))
  ∧ (∀ (s : State) (cycles since : Nat), s.meter.metering = true →
      ((s.htStopped = false ∧ s.gridReached = true ∧ s.meter.storeFull = false)
        ∨ (s.htStopped = true ∧ 2 ^ s.meter.exp ≤ meterNs cycles)) →
    Answers (.meterIntervalClose cycles since) s fun t =>
    t.meter.intervalNo = s.meter.intervalNo + 1 ∧ t.meter.ended.length = s.meter.ended.length + 1 ∧ t.meter.startNs = s.meterLabel since
      ∧ t.meter.eCum = (s.meter.eCum + s.meter.accImp / 32000000000) % 2 ^ 64 ∧ t.meter.accImp = s.meter.accImp % 32000000000
      ∧ t.meter.accExp = s.meter.accExp % 32000000000 ∧ t.die.unbound = 0 ∧ t.meter.rseq = s.meter.rseq
      ∧ t = { s with meter := t.meter, die := t.die })
  ∧ (∀ (s : State) (no unbound : Nat) (uses : Tab BerthUse) (rest : List (Nat × Nat × Tab BerthUse)), s.meter.metering = true →
      s.die.cutUses = (no, unbound, uses) :: rest → Answers (.intervalTableHandoff 0 none) s fun t =>
    t.die.cutUses = rest ∧ t.meter.ended = s.meter.ended.map (fun e =>
        if e.no = no then { e with tables := tabSet e.tables 0 (tableOf no unbound uses) } else e)
      ∧ t = { s with meter := t.meter, die := t.die })
  ∧ (∀ (s : State) (addr : Nat) (tab : TableIn), s.meter.metering = true → 1 ≤ addr → addr ≤ 7 →
    Answers (.intervalTableHandoff addr (some tab)) s fun t =>
    addr ∈ t.meter.peers ∧ t.meter.ended = s.meter.ended.map (fun x =>
        if x.no = tab.no then { x with tables := tabSet x.tables addr tab } else x)
      ∧ t = { s with meter := t.meter })
  ∧ (∀ (s : State) (k : StoreCheck) (e : Ended) (es : List Ended), k.both = none → s.meter.metering = true →
      s.meter.ended = e :: es → e.closedNs + 5000000 ≤ s.mtrNs → Answers (.inputCutoff k) s fun t =>
    t.meter.ended = es ∧ t.meter.rseq = s.meter.rseq + 1 + (keepBerths e.berths (mergeTables e.tables).2).1.length
      ∧ t.meter.eCum = s.meter.eCum ∧ t = { s with meter := t.meter })
  ∧ (∀ (s : State) (r : W32), 3 ≤ s.tsu.cfg.startStep → (tabGet {} s.tsu.engines 5 : EngineSt).step = 0 →
    (s.cutNow = false → s.reportBerth (r.toNat % 2048) = 0 → Answers (.activityReport r) s fun t =>
      t.die.unbound = s.die.unbound + r.toNat / 2048 ∧ t.die.uses = s.die.uses ∧ t.tsu.time = s.tsu.time ∧ t.meter = s.meter
        ∧ t.out = s.out ∧ s.samePhi t)
    ∧ (∀ b, s.cutNow = false → s.reportBerth (r.toNat % 2048) = b → b ≠ 0 → Answers (.activityReport r) s fun t =>
      (tabGet {} t.die.uses b : BerthUse).units = (tabGet {} s.die.uses b : BerthUse).units + r.toNat / 2048
        ∧ t.die.unbound = s.die.unbound ∧ t.tsu.time = s.tsu.time ∧ t.meter = s.meter ∧ t.out = s.out ∧ s.samePhi t)
    ∧ (∀ l no un uses, s.die.cutCyc = some s.cyc → s.die.cutUses = l ++ [(no, un, uses)] → Answers (.activityReport r) s fun t =>
      t.die.cutUses = l ++ [(no, (addUnits (s.reportBerth (r.toNat % 2048)) (r.toNat / 2048) un uses).1,
          (addUnits (s.reportBerth (r.toNat % 2048)) (r.toNat / 2048) un uses).2)]
        ∧ t.die.unbound = s.die.unbound ∧ t.die.uses = s.die.uses ∧ t.tsu.time = s.tsu.time ∧ t.meter = s.meter ∧ t.out = s.out
        ∧ s.samePhi t))
  ∧ (∀ (s : State) (ring idx : Nat) (d : Desc), s.ready .tsu ring idx 0x30 d → s.coreEnabled (d.pl 0 2) = true →
      (d.plBits 4 4 0 20 = 0 ∨ s.meterHigh = false ∨ s.berthBound (d.plBits 4 4 0 20) = true) → Answers (.berthBind ring idx) s fun t =>
    (∃ l, tabGet? t.die.binds (8 * d.pl 0 2 + d.plBits 2 1 0 3) = some (l ++ [
        if BitVec.ofNat 64 (d.pl 8 8) = 0 ∨ ¬(BitVec.ofNat 64 (d.pl 8 8) - s.ns .tsu).toInt > 0 then
          ⟨d.plBits 4 4 0 20, s.ns .tsu, some s.cyc⟩
        else ⟨d.plBits 4 4 0 20, BitVec.ofNat 64 (d.pl 8 8), none⟩]))
      ∧ t.desc? .tsu ring idx = none ∧ t.tsu.time = s.tsu.time ∧ t.meter = s.meter ∧ s.samePhi t)

/-- Blocks, delivery and supply of the meter (R253, R259, R268 to R273, R280, R432): the open block is sealed after its time, signed blocks
are sent and freed by acknowledgements, kept through `LEDGER_FULL`; power failure and start; tampering breaks the seal. -/
def Obligations.MeterBlocks : Prop :=
  (∀ (s : State), s.meter.metering = true → s.meter.openRecs ≠ [] →
      s.meter.openNs + 1000000 * (s.meter.param 0x11).toNat ≤ s.mtrNs → Answers .blockSealTimer s fun t =>
    t.meter.openRecs = [] ∧ (∃ d, t.meter.drafts = s.meter.drafts ++ [d] ∧ d.recs = s.meter.openRecs
        ∧ d.first = s.meter.rseq - s.meter.openRecs.length ∧ d.powerSeal = false) ∧ t = { s with meter := t.meter })
  ∧ (∀ (s : State) (k : StoreCheck) (d : Draft) (ds : List Draft), k.both = none → s.meter.metering = true → s.meter.drafts = d :: ds →
    Answers (.blockSealed k) s fun t =>
    t.meter.drafts = ds ∧ t.meter.bseq = s.meter.bseq + 1 ∧ t.meter.blocks.map (·.first) = s.meter.blocks.map (·.first) ++ [d.first]
      ∧ t.meter.rseq = s.meter.rseq ∧ t.out = s.out ∧ t.tsu.time = s.tsu.time ∧ t.die = s.die ∧ s.samePhi t)
  ∧ (∀ (s : State) (port : Nat) (e : Env) (f : RecAckPl) (k : StoreCheck), k.both = none → s.inOrder .tsu port e → s.engineShut .tsu 5 = false → s.meter.metering = true →
    (f.status = 0x00 → Answers (.recordAckReceive port e f k) s fun t =>
      t.meter.blocks = s.meter.blocks.filter (fun b => !(b.first + b.recs.length ≤ f.rseq.toNat + 1)) ∧ t.meter.rseq = s.meter.rseq
        ∧ t.out = s.out ∧ t.tsu.time = s.tsu.time ∧ t.die = s.die ∧ s.samePhi t)
    ∧ (f.status = 0x0C → Answers (.recordAckReceive port e f k) s fun t =>
      t.meter = { s.meter with waitUntil := some (s.mtrNs + 1000000 * s.mtrAckMs),
                                        storeRetries := satNat 32 (s.meter.storeRetries + k.single) } ∧ t.out = s.out
        ∧ t.tsu.time = s.tsu.time ∧ t.die = s.die ∧ s.samePhi t))
  ∧ (∀ (s : State) (b : Block) (bs : List Block) (x : Nat), s.meter.metering = true → s.meter.blocks = b :: bs →
      s.meter.waitUntil = none → b.sentNs = some x → x + 1000000 * s.mtrAckMs ≤ s.mtrNs →
    Answers .recordResendTimer s fun t =>
    t.meter.altPort = !s.meter.altPort ∧ t.meter.blocks.map (·.first) = s.meter.blocks.map (·.first) ∧ t.meter.bseq = s.meter.bseq
      ∧ t.out = s.out ∧ t.tsu.time = s.tsu.time ∧ t.die = s.die ∧ s.samePhi t)
  ∧ (∀ (s : State) (cycles since : Nat), s.meter.metering = true → Answers (.powerFail cycles since) s fun t =>
    t.meter.openRecs = [] ∧ t.meter.intervalNo = s.meter.intervalNo + 1
      ∧ t.meter.eCum = (s.meter.eCum + s.meter.accImp / 32000000000) % 2 ^ 64 ∧ t = { s with meter := t.meter, die := t.die })
  ∧ (∀ (s : State), (Answers (.meterStart true 1 true true) s fun t =>
      t.meter.metering = true ∧ t.meter.startNs = s.meterLabel 0 ∧ t.meter.rseq = s.meter.rseq + 1 ∧ t.meter.eCum = s.meter.eCum
        ∧ t.meter.mstate = s.meter.mstate ∧ t.die = s.die ∧ s.samePhi t)
    ∧ (∀ strap masters paramOk, Answers (.meterStart strap masters false paramOk) s fun t =>
      t.meter.runs = false ∧ t.meter.down = false ∧ t.meter.halted = true ∧ t.meter.mstate = s.meter.mstate ∧ t.die = s.die
        ∧ s.samePhi t))
  ∧ (∀ (s : State), (s.meter.metering = true → s.meter.mstate = .meterSealed → Answers .tamperOpen s fun t =>
      t.meter.mstate = .sealBroken ∧ t.meter.tamperOpen = true ∧ t.meter.eCum = s.meter.eCum ∧ t = { s with meter := t.meter })
    ∧ (Answers .tamperClose s fun t => t = { s with meter.tamperOpen := false })
    ∧ (Answers .mtrMirrorRead s fun t => t = { s with meter := t.meter, out := t.out } ∧ t.meter = { s.meter with mirror := s.meterBlock }
          ∧ t.out = s.out ++ [.regRead .tsu (BitVec.ofNat 64 (field s.meterBlock 0 4))]))

/-- `MTR_PARAM`, `MTR_STATE` and `MTR_LOG_READ` at a meter master (R271, R275 to R281, R295): a parameter change is counted or logged, sealing
begins a new epoch, re-verification opens the meter again, the logbook is read. -/
def Obligations.MeterCommands : Prop :=
  ∀ (s : State) (ring idx op : Nat) (d : Desc), s.ready .tsu ring idx op d → s.meter.metering = true →
  (op = 0x31 → paramInRange true (d.pl 0 1) (BitVec.ofNat 64 (d.pl 8 8)) = true → s.meter.logLow = false →
      s.meter.mstate = .meterOpen → ¬(d.pl 0 1 = 0x05 ∧ s.meter.accepted 0x05 ≠ 0) → Answers (.mtrParam ring idx) s fun t =>
    t.meter.newParams = tabSet s.meter.newParams (d.pl 0 1) (BitVec.ofNat 64 (d.pl 8 8)) ∧ t.meter.params = s.meter.params
      ∧ t.meter.log.length = s.meter.log.length + 1 ∧ t.meter.evtCnt = s.meter.evtCnt ∧ t.desc? .tsu ring idx = none
      ∧ t.tsu.time = s.tsu.time ∧ t.die = s.die ∧ s.samePhi t)
  ∧ (op = 0x31 → paramInRange true (d.pl 0 1) (BitVec.ofNat 64 (d.pl 8 8)) = true → s.meter.logLow = false →
      s.meter.mstate ≠ .meterOpen → 0x10 ≤ d.pl 0 1 → s.meter.evtCnt ≠ 2 ^ 32 - 1 → Answers (.mtrParam ring idx) s fun t =>
    t.meter.newParams = tabSet s.meter.newParams (d.pl 0 1) (BitVec.ofNat 64 (d.pl 8 8)) ∧ t.meter.evtCnt = s.meter.evtCnt + 1
      ∧ t.meter.log.length = s.meter.log.length + 1 ∧ t.desc? .tsu ring idx = none ∧ t.tsu.time = s.tsu.time ∧ t.die = s.die
      ∧ s.samePhi t)
  ∧ (op = 0x31 → paramInRange true (d.pl 0 1) (BitVec.ofNat 64 (d.pl 8 8)) = true → s.meter.logLow = false →
      s.meter.mstate ≠ .meterOpen → d.pl 0 1 < 0x10 → Answers (.mtrParam ring idx) s fun t =>
    t.meter.newParams = s.meter.newParams ∧ t.meter.params = s.meter.params ∧ t.meter.evtCnt = s.meter.evtCnt
      ∧ t.meter.log.length = s.meter.log.length + 1 ∧ t.desc? .tsu ring idx = none ∧ t.tsu.time = s.tsu.time ∧ t.die = s.die
      ∧ s.samePhi t)
  ∧ (∀ cycles since, op = 0x32 → d.plBits 0 1 0 2 = 1 → s.meter.mstate = .meterOpen → s.tsu.cfg.lcState = 2 → s.meter.tamperOpen = false →
      s.meter.param 0x05 ≠ 0 → s.meter.sealEpoch ≠ 65535 → s.meter.logLow = false → Answers (.mtrStateSeal ring idx cycles since) s fun t =>
    t.meter.mstate = .meterSealed ∧ t.meter.sealEpoch = s.meter.sealEpoch + 1 ∧ t.meter.evtCnt = 0 ∧ t.meter.bseq = 0
      ∧ t.meter.openRecs = [] ∧ t.meter.drafts = [] ∧ t.desc? .tsu ring idx = none ∧ t.tsu.time = s.tsu.time ∧ s.samePhi t)
  ∧ (∀ cycles since, op = 0x32 → d.plBits 0 1 0 2 = 0 → s.meter.mstate ≠ .meterOpen → s.tsu.cfg.lcState = 2 ∨ s.tsu.cfg.lcState = 3 →
      s.meter.storeRecs = 0 → Answers (.mtrStateOpen ring idx cycles since) s fun t =>
    t.meter.mstate = .meterOpen ∧ t.meter.key = [] ∧ t.meter.bseq = 0 ∧ t.meter.prevHash = zeros 32
      ∧ t.meter.sealEpoch = s.meter.sealEpoch ∧ t.desc? .tsu ring idx = none ∧ t.tsu.time = s.tsu.time ∧ s.samePhi t)
  ∧ (op = 0x33 → d.pl 4 4 ≠ 0 → d.pl 4 4 ≤ 65536 → d.pl 8 8 % 64 = 0 → Answers (.mtrLogRead ring idx) s fun t =>
    (∀ bs, ((s.meter.log.drop (d.pl 0 4)).take (d.pl 4 4)).flatten = bs → bs ≠ [] → .dma .tsu (d.pl 8 8) bs ∈ t.out)
      ∧ t.desc? .tsu ring idx = none ∧ t.meter = s.meter ∧ t.tsu.time = s.tsu.time ∧ t.die = s.die ∧ s.samePhi t)

/-- Set-up and service of rings (R285 to R290, R293, R296 to R298, R384, R430): words are staged, a checked entry is enabled, a disabled ring
drains, doorbells move the indices, descriptors are fetched, held interrupts are raised. -/
def Obligations.RingService : Prop :=
  (∀ (s : State) (p : Part) (ring off : Nat) (data : List Byte), ring < ringCount p → off + data.length ≤ 32 →
      s.reaches p (ringOffset p ring off) data.length → s.flrNow p = false → (p = .tsu → 3 ≤ s.tsu.cfg.startStep) →
    (touchesEn off data.length = false → (s.ring p ring).rstate = .disabled ∨ (s.ring p ring).rstate = .draining →
        Answers (.ringEntryStage p ring off data) s fun t =>
      t.ring p ring = { s.ring p ring with stagedWords := entryMask (splice (s.ring p ring).stagedWords off data) }
        ∧ (∀ j, j ≠ ring → t.ring p j = s.ring p j) ∧ (t.part p).time = (s.part p).time ∧ t.die = s.die ∧ t.meter = s.meter)
    ∧ (∀ en, touchesEn off data.length = true → en = ringEntryOf (entryMask (splice (s.ring p ring).stagedWords off data)) → en.en = true →
        (ringEntryOf (splice (zeros 32) off data)).en = true → (s.ring p ring).rstate = .disabled → en.ok p = true →
        Answers (.ringEnable p ring off data) s fun t =>
      t.ring p ring = (s.ring p ring).enable en ∧ (t.ring p ring).rstate = .enabled ∧ (t.ring p ring).entry = en
        ∧ (∀ j, j ≠ ring → t.ring p j = s.ring p j) ∧ (t.part p).time = (s.part p).time ∧ t.die = s.die ∧ t.meter = s.meter)
    ∧ (touchesEn off data.length = true → (ringEntryOf (entryMask (splice (s.ring p ring).stagedWords off data))).en = false →
        (ringEntryOf (splice (zeros 32) off data)).en = false → (s.ring p ring).rstate = .enabled →
        (s.ring p ring).enCyc ≠ some s.cyc →
        Answers (.ringDisable p ring off data) s fun t =>
      (t.ring p ring).rstate = .draining ∧ (t.ring p ring).entry.en = false ∧ (∀ d ∈ (t.ring p ring).inflight, d.started = true)
        ∧ (∀ j, j ≠ ring → t.ring p j = s.ring p j) ∧ (t.part p).time = (s.part p).time ∧ t.die = s.die ∧ t.meter = s.meter))
  ∧ (∀ (s : State) (ring off : Nat) (data : List Byte), ring < 4096 → off + data.length ≤ 32 → touchesEn off data.length = false →
      s.reaches .phi (ringOffset .phi ring off) data.length → s.flrNow .phi = true → Answers (.ringEntryStage .phi ring off data) s fun t =>
    t.phi.rings = s.phi.rings ∧ t.phi.time = s.phi.time ∧ t.hub.seqs = s.hub.seqs ∧ t.mdl = s.mdl ∧ s.sameTsu t)
  ∧ (∀ (s : State) (p : Part) (ring : Nat), (s.ring p ring).rstate = .draining →
      Fires (.ringDrainComplete p ring) s ((s.ring p ring).inflight = [] ∧ (s.ring p ring).held = []) fun t =>
    t.ring p ring = { s.ring p ring with rstate := .disabled } ∧ (∀ j, j ≠ ring → t.ring p j = s.ring p j)
      ∧ (t.part p).time = (s.part p).time ∧ t.out = s.out ∧ t.die = s.die ∧ t.hub = s.hub ∧ t.meter = s.meter)
  ∧ (∀ (s : State) (p : Part) (ring : Nat) (prod cons : W32), ring < ringCount p → s.watches p = true → s.ringHeld p = false →
      (s.ring p ring).rstate ≠ .disabled → (cons - (s.ring p ring).cplCons).toNat ≤ ((s.ring p ring).cplProd - (s.ring p ring).cplCons).toNat →
      (prod - (s.ring p ring).fetched).toNat ≤ 2 ^ (s.ring p ring).entry.sizeLog2 → Answers (.doorbellWrite p ring prod cons) s fun t =>
    (t.ring p ring).cplCons = cons ∧ (t.ring p ring).prod = prod ∧ (t.ring p ring).fetched = (s.ring p ring).fetched
      ∧ (t.ring p ring).inflight = (s.ring p ring).inflight ∧ (∀ j, j ≠ ring → t.ring p j = s.ring p j)
      ∧ (t.part p).time = (s.part p).time ∧ t.meter = s.meter)
  ∧ (∀ (s : State) (p : Part) (ring : Nat) (prod cons : W32), s.watches p = false → exec (.doorbellWrite p ring prod cons) s = .next s)
  ∧ (∀ (s : State) (p : Part) (i : Nat) (bytes : List Byte) (d : Desc), s.ringHeld p = false → s.nextRing p = some i →
      d = ⟨(s.ring p i).fetched, padTo 64 bytes, false, 0, false, false⟩ → s.ringsWait p = false → (∀ l, (s.ring p i).lastDseq = some l → (d.dseq - l).toInt > 0) →
      s.headerStatus p false d.opcode = none → Answers (.descriptorFetch p [some bytes]) s fun t =>
    (t.ring p i).inflight = ((s.ring p i).inflight ++ [d]).map (fun x => if x.idx = d.idx then { x with judged := true } else x)
      ∧ (t.ring p i).fetched = (s.ring p i).fetched + 1
      ∧ (t.ring p i).lastDseq = some d.dseq ∧ (∀ j, j ≠ i → t.ring p j = s.ring p j) ∧ (t.part p).page.rrNext = i + 1
      ∧ (t.part p).time = (s.part p).time ∧ t.out = s.out ∧ t.die = s.die ∧ t.hub = s.hub ∧ t.meter = s.meter)
  ∧ (∀ (s : State) (p : Part) (ring : Nat) (x : W64), (s.ring p ring).irqPend = true → (s.ring p ring).lastIrqNs = some x →
      (s.ns p - x).toInt ≥ 1000 * ((s.ring p ring).entry.holdoffUs : Int) → Answers (.irqHoldoffExpiry p ring) s fun t =>
    t.ring p ring = { s.ring p ring with lastIrqNs := some (s.ns p), irqPend := false } ∧ (∀ j, j ≠ ring → t.ring p j = s.ring p j)
      ∧ (p = .tsu → t.out = s.out ++ [.irq .tsu (s.ring p ring).entry.vector]) ∧ (t.part p).time = (s.part p).time
      ∧ t.die = s.die ∧ t.meter = s.meter)

/-- `NOP` and its completion record, a command's time limit, state pages, views and the driver's heartbeat, whose lapse counts as its cycle ends (R295 to R297, R300, R303, R306,
R311, R374). -/
def Obligations.CommandsAndPages : Prop :=
  (∀ (s : State) (p : Part) (ring idx : Nat) (d : Desc), s.ready p ring idx 0x01 d → Answers (.nop p ring idx) s fun t =>
    t.desc? p ring idx = none ∧ (t.part p).time = (s.part p).time ∧ t.die = s.die ∧ t.meter = s.meter
      ∧ (∀ a bs, p = .tsu → (s.ring p ring).rstate ≠ .disabled → (s.ring p ring).held = [] → (s.ring p ring).cplRoom = true →
          a = (s.ring p ring).entry.cplBase + 32 * ((s.ring p ring).cplProd.toNat % 2 ^ (s.ring p ring).entry.sizeLog2) →
          bs = (⟨0x00, 0, d.tag, d.idx, d.dseq, 0, d.irq⟩ : Cpl).bytes (s.ring p ring).cplProd (s.ring p ring).entry.sizeLog2 →
          s.out ++ [.dma .tsu (a + 8) (bs.drop 8), .dma .tsu a (bs.take 8)] <+: t.out))
  ∧ (∀ (s : State) (p : Part) (ring idx n : Nat) (d : Desc), s.desc? p ring idx = some d → d.started = true → d.limit = some n →
      (s.ns p - d.startNs).toInt ≥ 1000000 * (n : Int) → (p = .phi → d.opcode ≠ 0x42) → Answers (.commandTimeout p ring idx none) s fun t =>
    t.desc? p ring idx = none ∧ (t.part p).time = (s.part p).time ∧ t.die = s.die ∧ t.meter = s.meter)
  ∧ (∀ (s : State) (p : Part) (ring idx : Nat) (d : Desc), s.ready p ring idx 0x02 d → Answers (.stateRefresh p ring idx) s fun t =>
    (t.part p).page.seq = (if (s.part p).page.stateAddr = 0 ∨ (s.part p).cycs.pageUpd = some s.cyc then (s.part p).page.seq
        else (s.part p).page.seq + 2)
      ∧ t.desc? p ring idx = none ∧ (t.part p).time = (s.part p).time ∧ t.die = s.die ∧ t.meter = s.meter)
  ∧ (∀ (s : State) (p : Part), s.ringHeld p = false → (s.part p).page.changeNs ≠ none →
      Answers (.statePageUpdate p) s fun t =>
    (t.part p).page.seq = (if (s.part p).page.stateAddr = 0 then (s.part p).page.seq else (s.part p).page.seq + 2)
      ∧ (t.part p).page.changeNs = none ∧ (t.part p).page.lastNs = s.ns p ∧ (t.part p).rings = (s.part p).rings
      ∧ (t.part p).time = (s.part p).time ∧ t.die = s.die ∧ t.hub = s.hub ∧ t.meter = s.meter)
  ∧ (∀ (s : State) (ring idx b : Nat) (d : Desc), s.ready .phi ring idx 0x18 d → d.plBits 2 2 0 12 = b →
      s.sequences b (d.pl 4 2) = true → d.pl 16 8 % 64 = 0 → 1 ≤ d.pl 24 4 →
    (∀ bs, d.plBit 0 0 = false → d.pl 24 4 ≤ 4096 →
        ((((s.gateView.filter (fun c => c.basin == b)).map s.gateEntry).take (d.pl 24 4)).flatten) = bs →
        Answers (.viewReadGates ring idx) s fun t =>
      (bs ≠ [] → .dma .phi (d.pl 16 8) bs ∈ t.out) ∧ t.desc? .phi ring idx = none ∧ t.hub.gates = s.hub.gates
        ∧ t.hub.seqs = s.hub.seqs ∧ t.phi.time = s.phi.time ∧ s.sameTsu t)
    ∧ (∀ bs o, d.plBit 0 0 = true → d.pl 24 4 ≤ 528 → s.op? b (d.pl 4 2) (BitVec.ofNat 32 (d.pl 8 4)) = some o → o.opened = true →
        ((s.shortfall o 0xFFFF).take (d.pl 24 4)).flatten = bs → Answers (.viewReadShortfall ring idx) s fun t =>
      (bs ≠ [] → .dma .phi (d.pl 16 8) bs ∈ t.out) ∧ t.desc? .phi ring idx = none ∧ t.hub.ops = s.hub.ops
        ∧ t.hub.seqs = s.hub.seqs ∧ t.phi.time = s.phi.time ∧ s.sameTsu t))
  ∧ (∀ (s : State) (p : Part) (v : W64), (s.part p).page.hbAddr ≠ 0 → s.watches p = true → Answers (.heartbeatChange p v) s fun t =>
    (t.part p).page.hbCount = v ∧ (t.part p).page.hbLastNs = s.ns p ∧ (t.part p).page.driver = .present ∧ t.out = s.out
      ∧ (t.part p).time = (s.part p).time ∧ (t.part p).rings = (s.part p).rings ∧ t.die = s.die ∧ t.hub = s.hub ∧ t.meter = s.meter)
  ∧ (∀ (s : State) (p : Part), (s.part p).page.driver = .present → s.hbTimeoutMs p ≠ 0 →
      (s.ns p - (s.part p).page.hbLastNs).toInt ≥ 1000000 * (s.hbTimeoutMs p : Int) → Answers (.driverGone p) s fun t =>
    t = s.setPart p { s.part p with page.lapse := true })
  ∧ (∀ (s : State) (p : Part), (s.part p).page.lapse = true → (s.part p).page.driver = .present →
    ((s.endLapse p).part p).page.driver = .gone ∧ ((s.endLapse p).part p).page.lapse = false
      ∧ ((s.endLapse p).part p).time = (s.part p).time ∧ (s.endLapse p).die = s.die ∧ (s.endLapse p).meter = s.meter)

/-- The ledger and meter transfers (R290, R310, R316, R329, R330, R334, R335): the doorbell, a poll round, transfers in reassembly and the
anchor of a meter, the read-back that acknowledges, expiry, totals periods, and the Function Level Reset. -/
def Obligations.LedgerAndTransfers : Prop :=
  (∀ (s : State) (cons : W64), s.watches .phi = true → s.hub.led.base ≠ 0 → s.hub.led.waiting = [] →
    Answers (.ledgerDoorbell cons) s fun t =>
    t.hub.led = { s.hub.led with cons := cons, stagingFull := t.hub.led.stagingFull } ∧ t = { s with hub.led := t.hub.led })
  ∧ (∀ (s : State) (cons : W64), s.watches .phi = false → exec (.ledgerDoorbell cons) s = .next s)
  ∧ (∀ (s : State) (dbs : List (Nat × W32 × W32)) (cons hb : W64), s.phi.page.cxlCache = false →
      (s.ns .phi - s.phi.page.pollNs).toInt ≥ 1000 * (s.pollUs : Int) → Answers (.pollRound dbs cons hb false) s fun t =>
    t.phi.page.pollNs = s.ns .phi ∧ (s.hub.led.base ≠ 0 → t.hub.led.cons = cons) ∧ (s.phi.page.hbAddr ≠ 0 → t.phi.page.hbCount = hb)
      ∧ t.phi.time = s.phi.time ∧ t.hub.seqs = s.hub.seqs ∧ t.mdl = s.mdl ∧ s.sameTsu t)
  ∧ (∀ (s : State) (port : Nat) (e : Env) (f : RecordPl), s.inOrder .phi port e → s.engineShut .phi 7 = false → s.tier = 1 → port < 512 →
    (tabGet? s.hub.transfers port = none → f.chunk = 0 → f.last = false → Answers (.recordReceive port e f) s fun t =>
      tabGet? t.hub.transfers port = some ⟨f.rseq, 1, padTo 20 f.data, false⟩
        ∧ (∀ j, j ≠ port → tabGet? t.hub.transfers j = tabGet? s.hub.transfers j) ∧ t.hub.anchors = s.hub.anchors ∧ t.out = s.out
        ∧ t.phi.time = s.phi.time ∧ t.hub.seqs = s.hub.seqs ∧ t.mdl = s.mdl ∧ s.sameTsu t)
    ∧ (∀ x, tabGet? s.hub.transfers port = some x → x.bad = false → f.rseq = x.rseq → f.chunk ≠ 0 → f.chunk.toNat = x.next →
        x.next < 2058 → f.last = false → Answers (.recordReceive port e f) s fun t =>
      tabGet? t.hub.transfers port = some ⟨x.rseq, x.next + 1, x.data ++ padTo 20 f.data, false⟩
        ∧ (∀ j, j ≠ port → tabGet? t.hub.transfers j = tabGet? s.hub.transfers j) ∧ t.hub.anchors = s.hub.anchors ∧ t.out = s.out
        ∧ t.phi.time = s.phi.time ∧ t.hub.seqs = s.hub.seqs ∧ t.mdl = s.mdl ∧ s.sameTsu t)
    ∧ (∀ x data meter, tabGet? s.hub.transfers port = some x → x.bad = false → f.rseq = x.rseq → f.chunk ≠ 0 → f.chunk.toNat = x.next →
        x.next < 2058 → f.last = true → data = x.data ++ padTo 20 f.data → transferValid f.rseq data = true →
        192 + 160 * field data 32 2 ≤ data.length → meter = BitVec.ofNat 64 (field data 16 8) → s.anchor? meter = none →
        s.stagingUsed * 10 < s.stagingSize * 9 → Answers (.recordReceive port e f) s fun t =>
      tabGet? t.hub.transfers port = none ∧ t.anchor? meter = some ⟨meter, none, none, some (field data 24 8), s.ns .phi⟩
        ∧ (∀ pl, pl = Payload.recordAck ⟨0, 0x01⟩ → s.takesFrames .phi port pl → t.queued .phi port pl) ∧ t.out = s.out
        ∧ t.phi.time = s.phi.time ∧ t.hub.seqs = s.hub.seqs ∧ t.mdl = s.mdl ∧ s.sameTsu t))
  ∧ (∀ (s : State) (r : Readback) (rs : List Readback), s.hub.led.readback = r :: rs → Answers .ledgerReadbackDone s fun t =>
    t.hub.led = { s.hub.led with readback := rs }
      ∧ t.hub.anchors = s.hub.anchors.map (fun a =>
          if a.meter = r.meter then { a with visible := some (max r.rseq (a.visible.getD 0)) } else a)
      ∧ (∀ pl, pl = Payload.recordAck ⟨BitVec.ofNat 64 r.rseq, 0x00⟩ → s.takesFrames .phi r.port pl → t.queued .phi r.port pl)
      ∧ t.out = s.out ∧ t.phi.time = s.phi.time ∧ t.hub.seqs = s.hub.seqs ∧ t.mdl = s.mdl ∧ s.sameTsu t)
  ∧ (∀ (s : State) (meter : W64) (a : Anchor), s.anchor? meter = some a →
      Fires (.anchorExpiry meter) s ((s.ns .phi - a.lastNs).toInt ≥ 3600000000000) fun t =>
    t.anchor? meter = none ∧ (∀ m, m ≠ meter → t.anchor? m = s.anchor? m) ∧ t = { s with hub.anchors := t.hub.anchors })
  ∧ (∀ (s : State), (∀ m ∈ s.hub.marksDue, (s.ns .phi - m.l).toInt < 0) →
      Fires .totalsPeriodClose s ((s.ns .phi - s.totalsGrid).toInt ≥ 0) fun t =>
    t.hub.period = { startNs := s.totalsGrid, gridFrom := s.totalsGrid } ∧ t.hub.closing = s.hub.closing ++ [{ s.hub.period with endNs := s.totalsGrid, markBasin := none }]
      ∧ t = { s with hub.period := t.hub.period, hub.closing := t.hub.closing, hub.berths := t.hub.berths })
  ∧ (∀ (s : State) (p : Period) (ps : List Period), s.hub.closing = p :: ps →
      (s.ns .phi - p.endNs).toInt ≥ 1000000 * (s.totalsGraceMs : Int) → Answers .totalsEmit s fun t =>
    t.hub.closing = ps ∧ t.hub.period = s.hub.period ∧ t.phi = s.phi ∧ t.hub.seqs = s.hub.seqs ∧ t.mdl = s.mdl ∧ s.sameTsu t)
  ∧ (∀ (s : State), Answers .functionLevelReset s fun t =>
    (∀ i, (t.ring .phi i).rstate = .disabled ∧ (t.ring .phi i).held = [] ∧ (i < 4096 → (t.ring .phi i).inflight = []))
      ∧ t.phi.page.hbAddr = 0 ∧ t.phi.page.driver = .absent ∧ t.phi.time = s.phi.time ∧ t.hub.led = s.hub.led ∧ t.hub.ops = s.hub.ops
      ∧ t.hub.gates = s.hub.gates ∧ t.out = s.out ∧ t.mdl = s.mdl ∧ s.sameTsu t)

/-- The Phidor's memory (R322 to R326, R328): a line read is counted, a transient fault is counted at its package, two bad copies lose the
pair, a resilver ends, a lost pair is rebuilt from spares, tide-table units return after their dredge. -/
def Obligations.MemoryPairs : Prop :=
  (∀ (s : State) (pkg i : Nat), pkg < 24 → s.pairOf pkg = some i →
    (∀ second both, Answers (.patrolRead pkg true second both) s fun t => t = { s with phi.cnt := t.phi.cnt })
    ∧ (∀ both, Answers (.patrolRead pkg false true both) s fun t =>
      (t.unit .phi 6 pkg).transient = satNat 32 ((s.unit .phi 6 pkg).transient + 1) ∧ t.hub = s.hub ∧ t.out = s.out
        ∧ t.phi.time = s.phi.time ∧ t.mdl = s.mdl ∧ s.sameTsu t)
    ∧ ((s.hub.pairs.getD i {}).lost = false → Answers (.patrolRead pkg false false true) s fun t =>
      (∃ r, t.hub.pairs.getD i {} = { lost := true, rebuild := r }) ∧ t.phi.time = s.phi.time ∧ t.mdl = s.mdl ∧ s.sameTsu t))
  ∧ (∀ (s : State) (pair x : Nat) (m : MemPair), s.hub.pairs.getD pair {} = m → m.resilver = some x → m.a = none →
    Answers (.resilverComplete pair) s fun t =>
    t.hub.pairs.getD pair {} = { m with a := some x, resilver := none }
      ∧ (∀ j, j ≠ pair → t.hub.pairs.getD j {} = s.hub.pairs.getD j {})
      ∧ t = { s with hub.pairs := t.hub.pairs, phi.cnt := t.phi.cnt })
  ∧ (∀ (s : State) (pair x y : Nat), pair < 10 → (s.hub.pairs.getD pair {}).lost = true →
      (s.hub.pairs.getD pair {}).rebuild = some (some x, some y) → Answers (.pairRebuildComplete pair) s fun t =>
    t.hub.pairs.getD pair {} = { a := some x, b := some y } ∧ t.phi = s.phi ∧ t.out = s.out ∧ t.mdl = s.mdl ∧ s.sameTsu t)
  ∧ (∀ (s : State) (pair x y : Nat), pair < 10 → ¬(2 ≤ pair ∧ pair < 8) → (s.hub.pairs.getD pair {}).lost = true →
      (s.hub.pairs.getD pair {}).rebuild = none → s.spareBelow 0 = some x → s.spareBelow (x + 1) = some y →
    Answers (.pairRebuildComplete pair) s fun t =>
    t.hub.pairs.getD pair {} = { a := some x, b := some y } ∧ (t.unit .phi 6 x).state = .inService
      ∧ (t.unit .phi 6 y).state = .inService ∧ t.phi.time = s.phi.time ∧ t.out = s.out ∧ t.mdl = s.mdl ∧ s.sameTsu t)
  ∧ (∀ (s : State) (pair n : Nat) (rest : List (Nat × Nat)), s.hub.dredging = (pair, n) :: rest → Answers .tideUnitDredgeDone s fun t =>
    t = { s with hub.dredging := rest, hub.freeUnits := listAdj s.hub.freeUnits pair (· + n) })

/-- Units, `UNIT_CTRL`, fault notes and draining ports (R362, R365, R381 to R384): a return begins the fresh calibration or
dredge that its command waits for, and ends with it. -/
def Obligations.UnitControl : Prop :=
  (∀ (s : State) (p : Part) (kind i : Nat), (s.unit p kind i).rateNoted = false →
      (s.unit p kind i).transient - (s.unit p kind i).winBase > s.transientWarn p → Answers (.transientRate p kind i) s fun t =>
    (t.unit p kind i).rateNoted = true ∧ (t.unit p kind i).state = (s.unit p kind i).state ∧ (t.part p).time = (s.part p).time
      ∧ t.die = s.die ∧ t.meter = s.meter)
  ∧ (∀ (s : State) (port : Nat) (e : Env) (f : NotePl), s.inOrder .phi port e → f.cause ≠ Cause.memberReset.w →
    Answers (.faultNoteReceive port e f) s fun t =>
    tabGet 0 t.phi.flt.cnt (fltWord f.cause.toNat) = satNat 32 (tabGet 0 s.phi.flt.cnt (fltWord f.cause.toNat) + 1)
      ∧ (∀ q ∈ s.upwardPorts .phi, s.takesFrames .phi q (.faultNote f) → t.queued .phi q (.faultNote f))
      ∧ t.phi.time = s.phi.time ∧ t.hub.seqs = s.hub.seqs ∧ t.mdl = s.mdl ∧ s.sameTsu t)
  ∧ (∀ (s : State) (p : Part) (ring idx kind action i : Nat) (d : Desc), s.ready p ring idx 0x43 d → d.unitCtrl = (kind, action, i) →
    (∀ st, s.unitRefused p kind action i = some st → action = 0 → Answers (.unitQuery p ring idx) s fun t =>
      t.desc? p ring idx = none ∧ (t.part p).units = (s.part p).units ∧ (t.part p).time = (s.part p).time ∧ t.die = s.die ∧ t.meter = s.meter)
    ∧ (s.unitRefused p kind action i = none →
      (action = 0 → Answers (.unitQuery p ring idx) s fun t =>
        t.desc? p ring idx = none ∧ (t.part p).units = (s.part p).units ∧ (t.part p).time = (s.part p).time ∧ t.die = s.die
          ∧ t.meter = s.meter)
      ∧ (∀ x, action = 1 → p = .phi → kind = 5 → s.freeUnit .phi 5 = some x → Answers (.unitExpel p ring idx) s fun t =>
        (t.unit p 5 i).state = .expelled ∧ (t.unit p 5 x).state = .inService
          ∧ (t.part p).gov.granted = s.recentExpulsions p ++ [s.ns p] ∧ t.desc? p ring idx = none
          ∧ (t.part p).time = (s.part p).time ∧ t.die = s.die ∧ t.meter = s.meter)
      ∧ (action = 2 → Answers (.unitKeep p ring idx) s fun t =>
        (t.unit p kind i).state = .inService ∧ t.desc? p ring idx = none
          ∧ (t.part p).time = (s.part p).time ∧ t.die = s.die ∧ t.meter = s.meter)
      ∧ (action = 3 → 2 ≤ kind → Answers (.unitReturn p ring idx) s fun t =>
        (t.part p).gov.returns = (s.part p).gov.returns ++ [⟨kind, i, ring, idx, s.ns p⟩] ∧ (t.part p).units = (s.part p).units
          ∧ (t.desc? p ring idx).isSome = true ∧ (t.part p).time = (s.part p).time ∧ t.die = s.die ∧ t.meter = s.meter)
      ∧ (action = 3 → kind ≤ 1 → Answers (.unitReturn p ring idx) s fun t =>
        (t.chan p i).ret = (s.chan p i).ret ++ [(ring, idx)] ∧ (t.chan p i).attempt = 0 ∧ (t.part p).units = (s.part p).units
          ∧ (t.desc? p ring idx).isSome = true ∧ (t.part p).time = (s.part p).time ∧ t.die = s.die ∧ t.meter = s.meter)
      ∧ (action = 5 → (s.port p i).admin = .enabled → (s.port p i).enCyc ≠ some s.cyc → Answers (.unitDisable p ring idx) s fun t =>
        t.port p i = { s.port p i with admin := .draining, drainNs := s.ns p } ∧ (∀ j, j ≠ i → t.port p j = s.port p j)
          ∧ t.desc? p ring idx = none ∧ (t.part p).time = (s.part p).time ∧ t.die = s.die ∧ t.meter = s.meter)
      ∧ (action = 6 → (s.port p i).admin = .disabled → Answers (.unitEnable p ring idx) s fun t =>
        t.port p i = { s.port p i with admin := .enabled, linkFailed := false, cableFault := false, fails := 0 } ∧ (∀ j, j ≠ i → t.port p j = s.port p j)
          ∧ t.desc? p ring idx = none ∧ (t.part p).time = (s.part p).time ∧ t.die = s.die ∧ t.meter = s.meter)))
  ∧ (∀ (s : State) (p : Part) (port : Nat), (s.port p port).admin = .draining → (s.port p port).queue = [] → (s.port p port).replay = [] →
    Answers (.portDrainComplete p port) s fun t =>
    (t.port p port).admin = .disabled ∧ (t.port p port).lstate = .down
      ∧ ((s.port p port).valid = false → ∀ j, j ≠ port → t.port p j = s.port p j) ∧ t.die = s.die
      ∧ t.meter = s.meter ∧ t.mdl = s.mdl)
  ∧ (∀ (s : State) (p : Part) (r : UnitReturn), (s.part p).gov.returns = [r] → r.kind ≠ 6 → (s.unit p r.kind r.index).state = .expelled →
      (s.desc? p r.ring r.idx).isSome = true →
      (s.ns p - r.sinceNs).toInt ≥ (r.takesNs p : Int) →
    ((s.endReturns p).unit p r.kind r.index).state = .freeSpare ∧ (s.endReturns p).desc? p r.ring r.idx = none
      ∧ ((s.endReturns p).part p).time = (s.part p).time ∧ (s.endReturns p).die = s.die ∧ (s.endReturns p).meter = s.meter)

/-- Engine digests, the digest chain and counter latches (R389, R390, R397 to R399, R401): a digest forms and a latch is applied as
their cycle ends. -/
def Obligations.DigestsAndLatches : Prop :=
  (∀ (s : State) (msg : List Byte) (i : Nat), 3 ≤ s.tsu.cfg.startStep → s.engineShut .tsu 5 = false → field msg 0 1 < 192 → i < 4 →
      (s.slot (field msg 0 1) i).state = .started → (s.slot (field msg 0 1) i).basin = field msg 2 2 % 4096 →
      (s.slot (field msg 0 1) i).gen = field msg 4 2 → (s.slot (field msg 0 1) i).step = BitVec.ofNat 48 (field msg 6 6) →
    Answers (.engineDigest msg) s fun t =>
    ⟨field msg 0 1, field msg 1 1 % 4, field msg 2 2 % 4096, field msg 4 2, BitVec.ofNat 48 (field msg 6 6), slice msg 16 32⟩
        ∈ t.die.dig.engines
      ∧ t.die.dig.chains = s.die.dig.chains ∧ t.die.slots = s.die.slots ∧ t.out = s.out ∧ t.tsu.time = s.tsu.time ∧ s.samePhi t)
  ∧ (∀ (s : State) (b : Nat) (l : Launch) (c : Chain), s.nextDigest b = some l → tabGet? s.die.dig.chains b = some c →
      s.slotsOpen l = false →
    (Answers (.stepDigestForm b) s fun t => t = { s with die.dig.forming := s.die.dig.forming.filter (· != b) ++ [b] })
    ∧ tabGet? (s.formDigest b).die.dig.chains b = some { c with formed := c.formed ++ [⟨l.step, (coresOf l.mask).length,
        sha256 (c.head ++ stepBlock l.step (coresOf l.mask).length l.kernel l.arg ++ (coresOf l.mask).flatMap (s.coreDigests l))⟩] }
    ∧ (s.formDigest b).die.slots = s.die.slots ∧ (s.formDigest b).tsu.time = s.tsu.time ∧ s.samePhi (s.formDigest b))
  ∧ (∀ (s : State) (ring idx : Nat) (d : Desc), s.ready .phi ring idx 0x07 d → BitVec.ofNat 32 (d.pl 8 4) ≠ 0 →
      20000 ≤ (BitVec.ofNat 64 (d.pl 0 8) - s.ns .phi).toInt → (BitVec.ofNat 64 (d.pl 0 8) - s.ns .phi).toInt ≤ 900000000 →
      s.phi.time.state = .locked ∨ s.phi.time.state = .holdover → s.phi.cnt.pending.length < 4 → Answers (.counterLatch ring idx) s fun t =>
    ⟨BitVec.ofNat 64 (d.pl 0 8), BitVec.ofNat 32 (d.pl 8 4), 0, some (ring, idx), false, false⟩ ∈ t.phi.cnt.pending
      ∧ t.phi.cnt.pending.length = s.phi.cnt.pending.length + 1 ∧ (t.desc? .phi ring idx).isSome = true
      ∧ (d.plBit 12 0 = true → ∀ q ∈ s.downPorts, ∀ pl, pl = Payload.latch ⟨shortStamp (BitVec.ofNat 64 (d.pl 0 8)), BitVec.ofNat 32 (d.pl 8 4)⟩ →
          s.takesFrames .phi q pl → t.queued .phi q pl)
      ∧ t.phi.time = s.phi.time ∧ t.hub.seqs = s.hub.seqs ∧ t.mdl = s.mdl ∧ s.sameTsu t)
  ∧ (∀ (s : State) (port : Nat) (e : Env) (f : LatchPl) (at_ : W64), s.inOrder .tsu port e → s.latchSeen .tsu f.latchId = none →
      s.tsu.time.expands = true → at_ = expandStamp (s.ns .tsu) f.at_ → stampNear (s.ns .tsu) at_ = true →
      s.tsu.cnt.pending.length < 4 → Answers (.latchReceive .tsu port e f) s fun t =>
    (∃ x ∈ t.tsu.cnt.pending, x.latchId = f.latchId ∧ x.atNs = at_ ∧ x.ring = none ∧ x.own = false)
      ∧ t.tsu.cnt.pending.length = s.tsu.cnt.pending.length + 1 ∧ t.out = s.out ∧ t.tsu.time = s.tsu.time ∧ t.die = s.die ∧ s.samePhi t)
  ∧ (∀ (s : State) (p : Part) (chain : List (Nat × Nat × W64)) (x : LatchSt) (rest : List LatchSt), (s.part p).cnt.pending = x :: rest →
      (s.ns p - x.atNs).toInt ≥ 0 → Answers (.latchApply p chain) s fun t =>
    (∃ host, (t.part p).cnt.applying = (s.part p).cnt.applying ++ [(if x.own then { x with atNs := s.ns p } else x, host)])
      ∧ t = s.setPart p { s.part p with cnt.pending := rest, cnt.applying := (t.part p).cnt.applying })
  ∧ (∀ (s : State) (p : Part) (x : LatchSt) (host : List Counter) (t : State), t = s.applyLatch p x host → x.ring = none →
      (s.part p).cnt.cntAddr ≠ 0 →
    (∃ bs : List Byte, bs.take 4 = leBytes 4 0x434E5453
        ∧ t.out = s.out ++ [.dma p ((s.part p).cnt.cntAddr.toNat + 12) (bs.drop 12), .dma p (s.part p).cnt.cntAddr.toNat (bs.take 12)])
      ∧ (t.part p).cnt.counters = (s.part p).cnt.counters ∧ (t.part p).time = (s.part p).time ∧ t.die = s.die ∧ t.meter = s.meter)

/-- Register accesses (R7, R345, R364, R394, R423, R424, R427, R431, R433, R434, R436, R437): a register takes a value in its range and refuses
another, a W1C bit that hardware sets in the cycle of the write stays, a write in the cycle of a reset is lost, reads are answered, trapped or time out, and the registers with a command of their own act. -/
def Obligations.RegisterAccess : Prop :=
  (∀ (s : State) (p : Part) (off : Nat) (a : W64), off = (match p with | .tsu => 0x0A00 | .phi => 0x2000) → s.reaches p off 8 →
    (a.toNat % 4096 = 0 → Answers (.trappedWrite p off (leOf 8 a)) s fun t =>
      (t.part p).page.stateAddr = a ∧ (t.part p).time = (s.part p).time ∧ (t.part p).rings = (s.part p).rings ∧ t.die = s.die
        ∧ t.meter = s.meter)
    ∧ (a.toNat % 4096 ≠ 0 → Answers (.trappedWrite p off (leOf 8 a)) s fun t =>
      (t.part p).page.stateAddr = (s.part p).page.stateAddr ∧ (t.part p).cfg.wrRej = true ∧ (t.part p).time = (s.part p).time
        ∧ (t.part p).rings = (s.part p).rings ∧ t.die = s.die ∧ t.meter = s.meter))
  ∧ (∀ (s : State) (off : Nat) (data : List Byte), accessOk off data.length = false → Answers (.trappedWrite .tsu off data) s fun t =>
      t.tsu.cfg.accErr = true ∧ t = { s with tsu.cfg.accErr := true, tsu.cycs := t.tsu.cycs })
  ∧ (∀ (s : State) (p : Part) (w : W32), s.reaches p (match p with | .tsu => 0x0200 | .phi => 0x1020) 4 →
      Answers (.trappedWrite p (match p with | .tsu => 0x0200 | .phi => 0x1020) (leOf 4 w)) s fun t =>
      (t.part p).cfg.wrRej = ((s.part p).cfg.wrRej && (!w.getLsbD 2 || (s.part p).cycs.sets.contains (.wrRej, s.cyc)))
        ∧ (t.part p).cfg.accErr = ((s.part p).cfg.accErr && (!w.getLsbD 3 || (s.part p).cycs.sets.contains (.accErr, s.cyc)))
        ∧ (t.part p).time = (s.part p).time ∧ (t.part p).rings = (s.part p).rings ∧ t.die = s.die ∧ t.meter = s.meter)
  ∧ (∀ (s : State) (off : Nat) (data : List Byte), accessOk off data.length = true → s.writeLost off = true →
      exec (.trappedWrite .tsu off data) s = .next s)
  ∧ (∀ (s : State) (w : W32), s.reaches .phi 0x4000 4 → s.hub.fw.mbxBusy = true → w.getLsbD 31 = true →
      Answers (.trappedWrite .phi 0x4000 (leOf 4 w)) s fun t =>
      t.hub.fw.mbxReq = w.toNat % 256 ∧ t.hub.fw.mbxRej = true ∧ t.hub.fw.mbxRun = s.hub.fw.mbxRun ∧ t.hub.fw.mbxBusy = true
        ∧ t.phi.time = s.phi.time ∧ t.phi.rings = s.phi.rings ∧ t.hub.seqs = s.hub.seqs ∧ t.mdl = s.mdl ∧ s.sameTsu t)
  ∧ (∀ (s : State) (off len : Nat),
    (accessOk off len = true → off ≠ 0x0B40 → Answers (.trappedRead .tsu off len) s fun t =>
      t = { s with out := s.out ++ [.regRead .tsu (s.readReg .tsu off len)] })
    ∧ (s.phi.cfg.startStep ≤ 1 → Answers (.trappedRead .phi off len) s fun t =>
      t = { s with out := s.out ++ [.regRead .phi (BitVec.ofNat 64 (2 ^ (8 * len) - 1))] })
    ∧ (2 ≤ s.phi.cfg.startStep → hardBlock off = false → s.hub.fw.prompt = false → Answers (.trappedRead .phi off len) s fun t =>
      t.hub.fw.trapReads = s.hub.fw.trapReads ++ [⟨off, len, s.ns .phi, s.hub.fw.trapQueue.length⟩] ∧ t.out = s.out
        ∧ t.phi.time = s.phi.time ∧ s.sameTsu t))
  ∧ (∀ (s : State) (r : TrapRead) (rs : List TrapRead), s.hub.fw.trapReads = r :: rs →
      Fires .trapReadTimeout s ((s.ns .phi - r.atNs).toInt ≥ 50000) fun t =>
      t.out = s.out ++ [.regRead .phi (BitVec.ofNat 64 (2 ^ (8 * r.len) - 1))] ∧ t.hub.fw.trapReads = rs ∧ t.hub.fw.trapLate = true
        ∧ t.phi.time = s.phi.time ∧ t.phi.rings = s.phi.rings ∧ t.mdl = s.mdl ∧ s.sameTsu t)
  ∧ (∀ (s : State) (r off : Nat) (data : List Byte), r < 16 → off % 4 = 0 → off < 28 → data.length = 4 →
      s.reaches .tsu (0x0500 + 32 * r + off) 4 → Answers (.watchWrite r off data) s fun t =>
      t = { s with tsu.cfg.regHold := tabSet s.tsu.cfg.regHold (0x0500 + 32 * r + off) (BitVec.ofNat 32 (leNat data)) })
  ∧ (∀ (s : State) (r : Nat) (data v : List Byte), r < 16 → data.length = 8 → s.reaches .tsu (0x0518 + 32 * r) 8 → v = splice (s.wideBytes .tsu (0x0500 + 32 * r) 32) 24 data →
      (byteAt v 0).getLsbD 0 = true → (byteAt v 0).toNat / 2 % 8 ≤ 6 → (byteAt v 1).toNat % 32 ≤ 20 → 1 ≤ field v 2 2 →
      (BitVec.ofNat 64 (field v 8 8)).toInt ≤ (BitVec.ofNat 64 (field v 16 8)).toInt → (s.chan .tsu (16 + r)).meas = none →
      (s.watch r).running = false → Answers (.watchWrite r 24 data) s fun t =>
      (t.watch r).en = true ∧ (t.watch r).running = (!(s.watch r).failed) ∧ (t.watch r).curM = (byteAt v 1).toNat % 32
        ∧ (t.watch r).curGate = field v 2 2 ∧ (∀ j, j ≠ r → t.watch j = s.watch j) ∧ t.tsu.time = s.tsu.time ∧ t.out = s.out
        ∧ t.meter = s.meter ∧ s.samePhi t)
  ∧ (∀ (s : State) (v : W64), s.reaches .phi 0x2010 8 → s.hub.led.base = 0 → v.toNat % 4096 = 0 →
      Answers (.ledgerRegWrite 0x2010 (leOf 8 v)) s fun t =>
      t.hub.led = { s.hub.led with base := v } ∧ t.phi.time = s.phi.time ∧ t.hub.seqs = s.hub.seqs ∧ t.mdl = s.mdl ∧ s.sameTsu t)
  ∧ (∀ (s : State) (ring : Nat) (prod cons : W32), s.reaches .phi 0x040000 4 → ring < 4096 → (s.ring .phi ring).rstate = .enabled →
      (cons - (s.ring .phi ring).cplCons).toNat ≤ ((s.ring .phi ring).cplProd - (s.ring .phi ring).cplCons).toNat →
      (prod - (s.ring .phi ring).fetched).toNat ≤ 2 ^ (s.ring .phi ring).entry.sizeLog2 → Answers (.dbNudge ring prod cons) s fun t =>
      (t.ring .phi ring).cplCons = cons ∧ (t.ring .phi ring).prod = prod ∧ (t.ring .phi ring).inflight = (s.ring .phi ring).inflight
        ∧ (∀ j, j ≠ ring → t.ring .phi j = s.ring .phi j) ∧ t.phi.time = s.phi.time ∧ t.hub.seqs = s.hub.seqs ∧ t.mdl = s.mdl
        ∧ s.sameTsu t)
  ∧ (∀ (s : State) (cons : W64), s.reaches .phi 0x044000 4 → s.hub.led.base ≠ 0 → Answers (.ledgerNudge cons) s fun t =>
      t.hub.led.cons = cons ∧ t.phi.time = s.phi.time ∧ t.hub.seqs = s.hub.seqs ∧ t.mdl = s.mdl ∧ s.sameTsu t)
  ∧ (∀ (s : State) (p : Part), s.reaches p (cntCtrlAt p) 4 → Answers (.wrapClr p) s fun t =>
      (∀ c ∈ (t.part p).cnt.counters, c.wrapCyc ≠ some s.cyc → c.wrap = false)
        ∧ (p = .tsu → t.tsu.cnt.counters = s.tsu.cnt.counters.map fun c => { c with wrap := c.wrap && c.wrapCyc == some s.cyc }) ∧ (t.part p).time = (s.part p).time ∧ (t.part p).rings = (s.part p).rings
        ∧ t.die = s.die ∧ t.meter = s.meter)
  ∧ (∀ (s : State), s.reaches .tsu 0x0C00 4 → s.tsu.cnt.localId ≠ 0 → s.tsu.cnt.pending.length < 4 → Answers .latchNow s fun t =>
      t.tsu.cnt.pending = ⟨s.ns .tsu, s.tsu.cnt.localId, 0, none, true, false⟩ :: s.tsu.cnt.pending ∧ t.tsu.cnt.latchBusy = true
        ∧ t = { s with tsu.cnt := t.tsu.cnt })
  ∧ (∀ (s : State) (p : Part) (rest : W32), s.reaches p (match p with | .tsu => 0x0D08 | .phi => 0x3008) 4 → 6 ≤ rest.toNat % 32 →
      rest.toNat % 32 ≤ 20 → rest.toNat / 65536 % 2048 ≤ 63 → Answers (.fltCntClr p rest) s fun t =>
      (t.part p).flt.cnt = [] ∧ (t.part p).flt.log2 = rest.toNat % 32 ∧ (t.part p).flt.vector = rest.toNat / 65536 % 2048
        ∧ (t.part p).time = (s.part p).time ∧ (t.part p).rings = (s.part p).rings ∧ t.die = s.die ∧ t.meter = s.meter)

/-- Phidor firmware (R342 to R350, R353 to R355, R358, R415, R435): loading and start of an image, watchdog and restart, checkpoint,
handover, thermal and supply limits, mailbox. -/
def Obligations.FirmwareComplex : Prop :=
  (∀ (s : State) (image : Option (List Byte)), 2 ≤ s.phi.cfg.startStep → s.hub.fw.ldrStatus = 0 → Answers (.ldrGo image) s fun t =>
    t = { s with hub.fw.goNow := some (s.cyc, image) })
  ∧ (∀ (s : State), 2 ≤ s.phi.cfg.startStep → s.hub.fw.ldrStatus ∈ [1, 4, 5] →
    (Answers (.ldrGo none) s fun t => t = { s with hub.fw.ldrStatus := 5 })
    ∧ (∀ img, imageOk s.phi.cfg.lcState s.hub.fw.ldrLen.toNat img = true → Answers (.ldrGo (some img)) s fun t =>
      t.hub.fw.state = .starting ∧ t.hub.fw.ldrStatus = 2 ∧ t.hub.fw.loading = some ((padTo 128 img).take 128, true)
        ∧ t = { s with hub.fw := t.hub.fw }))
  ∧ (∀ (s : State) (h : List Byte), s.hub.fw.trapQueue = [] → s.hub.fw.trapReads = [] → s.hub.fw.owed = false →
    (s.hub.fw.loading = some (h, true) → Answers .fwImageStarted s fun t =>
      t.hub.fw.state = .running ∧ t.hub.fw.retained = some h ∧ t.hub.fw.ldrStatus = 3 ∧ t.hub.fw.loading = none
        ∧ t.phi.time = s.phi.time ∧ t.hub.seqs = s.hub.seqs ∧ t.mdl = s.mdl ∧ s.sameTsu t)
    ∧ (s.hub.fw.loading = some (h, false) → Answers .fwImageStarted s fun t =>
      t.hub.fw.state = .none ∧ t.hub.fw.ldrStatus = 4 ∧ t.hub.fw.loading = none ∧ t.phi.time = s.phi.time
        ∧ t.hub.seqs = s.hub.seqs ∧ t.mdl = s.mdl ∧ s.sameTsu t)
    ∧ (s.hub.fw.state = .restarting → (s.ns .phi - s.hub.fw.dogNs).toInt ≤ 50000000 → Answers (.fwRestartDone true) s fun t =>
      t.hub.fw.state = .running ∧ t.hub.fw.restartCnt = satNat 16 (s.hub.fw.restartCnt + 1) ∧ t.hub.fw.lastRunNs = some (s.ns .phi)
        ∧ t.phi.time = s.phi.time ∧ t.hub.seqs = s.hub.seqs ∧ t.mdl = s.mdl ∧ s.sameTsu t)
    ∧ (∀ x : Handover, s.hub.fw.handover = some x → s.hub.fw.state = .handover → x.stopped = false →
        (s.ns .phi - x.startNs).toInt ≥ 1000000 * (x.quiesceMs : Int) → Answers .quiesceTimeout s fun t =>
      t.hub.fw.state = .running ∧ t.hub.fw.handover = none ∧ t.hub.fw.retained = s.hub.fw.retained ∧ t.desc? .phi x.ring x.idx = none
        ∧ t.phi.time = s.phi.time ∧ t.hub.seqs = s.hub.seqs ∧ t.mdl = s.mdl ∧ s.sameTsu t))
  ∧ (∀ (s : State) (cores named : List Nat), s.complexCores.filter cores.contains = named → named ≠ [] → 4 ≤ s.complexCores.length →
      s.hub.fw.state = .running → s.hub.fw.dogCores = [] → Answers (.fwWatchdog cores) s fun t =>
    t.hub.fw.state = .restarting ∧ t.hub.fw.dogCores = named ∧ t.hub.fw.dogNs = s.ns .phi ∧ t.hub.fw.retained = s.hub.fw.retained
      ∧ t.phi.time = s.phi.time ∧ t.mdl = s.mdl ∧ s.sameTsu t)
  ∧ (∀ (s : State), Fires .journalCheckpoint s (s.hub.fwCommits = true) fun t =>
    t = { s with hub.fw.journal := [], hub.fw.checkpoint := s.hub.fw.jseq, hub.fw.checkNs := s.ns .phi })
  ∧ (∀ (s : State) (ring idx : Nat) (d : Desc) (image h : List Byte), s.ready .phi ring idx 0x42 d → d.pl 0 8 % 4096 = 0 →
      d.pl 12 4 ≤ 1000 → imageOk s.phi.cfg.lcState (d.pl 8 4) image = true → s.hub.fw.retained = some h →
      field ((padTo 128 image).take 128) 18 2 ≤ field h 16 2 → Answers (.fwHandover ring idx image) s fun t =>
    t.hub.fw.state = .handover ∧ t.hub.fw.handover = some ⟨ring, idx, (padTo 128 image).take 128, s.ns .phi,
        (if d.pl 12 4 = 0 then 100 else d.pl 12 4), false⟩
      ∧ t.hub.fw.retained = some h ∧ (t.desc? .phi ring idx).isSome = true ∧ t.phi.time = s.phi.time ∧ t.hub.seqs = s.hub.seqs
      ∧ t.mdl = s.mdl ∧ s.sameTsu t)
  ∧ (∀ (s : State) (x : Handover), s.hub.fw.handover = some x →
      Fires .handoverQuiescent s (s.hub.fw.state = .handover ∧ x.stopped = false ∧ s.quiescent x = true) fun t =>
    t = { s with hub.fw.journal := [], hub.fw.checkpoint := s.hub.fw.jseq, hub.fw.checkNs := s.ns .phi,
                 hub.fw.handover := some { x with stopped := true } })
  ∧ (∀ (s : State) (c : Nat), Fires (.thermHigh c) s (100 ≤ c ∧ s.hub.fw.thermSlow = false ∧ 1 ≤ s.phi.cfg.startStep) fun t =>
    t.hub.fw.thermSlow = true ∧ t.phi.time = s.phi.time ∧ t.hub.seqs = s.hub.seqs ∧ t.mdl = s.mdl ∧ s.sameTsu t)
  ∧ (∀ (s : State) (c : Nat), Fires (.thermHighClear c) s (c ≤ 95 ∧ s.hub.fw.thermSlow = true) fun t =>
    t = { s with hub.fw.thermSlow := false })
  ∧ (∀ (s : State) (c : Nat), Fires (.thermTrip c) s (115 ≤ c ∧ s.phi.cfg.startStep ≠ 0) fun t =>
    t.phi.cfg.startStep = 0 ∧ t.mdl.tripLatched = true ∧ t.mdl.heldReset = true
      ∧ t.hub.storage.records = s.hub.storage.records ++ [(Cause.thermTrip.w, BitVec.ofNat 32 c)] ∧ t.out = s.out ∧ s.sameTsu t)
  ∧ (∀ (s : State) (rail : Nat) (refOk parityOk : Bool), 1 ≤ s.phi.cfg.startStep → Answers (.supplyRange rail refOk parityOk) s fun t =>
    t.phi.cfg.startStep = 1 ∧ t.phi.time.acc = s.phi.time.acc ∧ t.phi.flt.seqNext = s.phi.flt.seqNext
      ∧ t.hub.storage.records = s.hub.storage.records ++ [(Cause.supplyRange.w, BitVec.ofNat 32 rail)] ∧ t.mdl = s.mdl ∧ s.sameTsu t)
  ∧ (∀ (s : State), s.hub.fw.mbxBusy = true → s.hub.fw.state = .running →
    (∀ l, s.hub.fw.mbxRun = 1 → s.hub.fw.history.filter (fun e => s.hub.fw.mbxArg.toNat ≤ field e 0 8
          && field e 0 8 < s.hub.fw.mbxArg.toNat + s.hub.fw.mbxCount.toNat) = l → Answers .logFetch s fun t =>
      t.hub.fw.mbxBusy = false ∧ t.hub.fw.mbxStatus = 0 ∧ t.hub.fw.mbxResult = BitVec.ofNat 64 l.length
        ∧ t.out = s.out ++ (if l.flatten = [] then [] else [.dma .phi s.hub.fw.mbxAddr.toNat l.flatten]) ∧ t.phi = s.phi ∧ s.sameTsu t)
    ∧ (∀ h, s.hub.fw.mbxRun = 2 → s.hub.fw.retained = some h → Answers .fwInfo s fun t =>
      t.hub.fw.mbxBusy = false ∧ t.hub.fw.mbxStatus = 0 ∧ t.hub.fw.mbxResult = 0
        ∧ t.out = s.out ++ (if h = [] then [] else [.dma .phi s.hub.fw.mbxAddr.toNat h]) ∧ t.phi = s.phi ∧ s.sameTsu t))

/-- Resets, start-up, configuration and life cycle (R14, R25, R367 to R373, R382, R385, R403, R407 to R410, R412, R414, R418 to R420, R422): what
each keeps and the step at which the part begins anew. A reset that `UNIT_CTRL` asks for begins, and a configuration block is put in force, as
the always-on cycle ends. -/
def Obligations.ResetsAndLifeCycle : Prop :=
  (∀ (s : State) (p : Part) (n : Nat), unitValid p (match p with | .tsu => 4 | .phi => 9) n = true → (s.engine p n).step = 0 →
      (s.engine p n).outOfService = false → (∀ e ∈ (s.part p).engines, e.2.step < 3) →
      (s.ns p - tabGet 0 (s.part p).took n).toInt ≥ 1000 * (s.stallUs p : Int) → Answers (.engineStall p n) s fun t =>
    (t.engine p n).step = 1 ∧ (t.engine p n).stepNs = s.ns p ∧ (∀ j, j ≠ n → t.engine p j = s.engine p j) ∧ t.meter = s.meter)
  ∧ (∀ (s : State) (p : Part) (n : Nat) (refOk parityOk : Bool),
    ((s.engine p n).step = 1 → (s.ns p - (s.engine p n).stepNs).toInt ≥ 50000 →
        Answers (.engineResetStepTimeout p n refOk parityOk) s fun t =>
      t.engine p n = { s.engine p n with step := 2, stepNs := s.ns p } ∧ (∀ j, j ≠ n → t.engine p j = s.engine p j)
        ∧ (t.part p).time = (s.part p).time ∧ t.die = s.die ∧ t.meter = s.meter)
    ∧ (p = .tsu → (s.engine p n).step = 2 → (s.ns p - (s.engine p n).stepNs).toInt ≥ 60000 →
        Answers (.engineResetStepTimeout p n refOk parityOk) s fun t =>
      (t.engine p n).step = 3 ∧ t.tsu.cfg.startStep = 2 ∧ t.tsu.time.acc = s.tsu.time.acc ∧ t.die.basins = [] ∧ t.meter = s.meter
        ∧ s.samePhi t)
    ∧ ((s.engine p n).step = 1 ∨ (s.engine p n).step = 2 → (s.engine p n).ctls = [] → (s.engine p n).heldItems = [] →
        ¬(p = .tsu ∧ n = 0) → Answers (.engineResetDone p n) s fun t =>
      t.engine p n = {} ∧ (∀ j, j ≠ n → t.engine p j = s.engine p j) ∧ t = s.setPart p { s.part p with engines := (t.part p).engines }))
  ∧ (∀ (s : State) (refOk parityOk : Bool),
    (Answers (.tsuWarmReset refOk parityOk) s fun t =>
      t.tsu.cfg.startStep = 2 ∧ t.tsu.cfg.inForce = s.tsu.cfg.inForce ∧ t.tsu.time.acc = s.tsu.time.acc ∧ t.die.basins = []
        ∧ t.die.launches = [] ∧ t.die.sync.flags = [] ∧ t.tsu.rings = [] ∧ t.die.uses = s.die.uses ∧ t.meter = s.meter ∧ s.samePhi t)
    ∧ (Answers (.dieReset refOk parityOk) s fun t =>
      t.tsu.cfg.startStep = 2 ∧ t.tsu.cfg.inForce = none ∧ t.tsu.time.acc = s.tsu.time.acc ∧ t.die.basins = [] ∧ t.die.launches = []
        ∧ t.die.sync.flags = [] ∧ t.tsu.rings = [] ∧ t.die.uses = s.die.uses ∧ t.meter = s.meter ∧ s.samePhi t)
    ∧ (2 ≤ s.phi.cfg.startStep → Answers (.chipReset 0x43485052 refOk parityOk) s fun t =>
      t.phi.cfg.startStep = 1 ∧ t.phi.time.acc = s.phi.time.acc ∧ t.phi.flt.seqNext = s.phi.flt.seqNext
        ∧ t.hub.storage = s.hub.storage ∧ t.hub.seqs = [] ∧ t.phi.rings = [] ∧ t.out = s.out ∧ t.mdl = s.mdl ∧ s.sameTsu t)
    ∧ (∀ key, key ≠ 0x43485052 → Answers (.chipReset key refOk parityOk) s fun t => t = s))
  ∧ (∀ (s : State), Fires .modulePowerOn s (s.mdl.convOn = true ∧ s.mdl.heldReset = false ∧ s.phi.cfg.startStep = 0) fun t =>
      t.phi.cfg.startStep = 1 ∧ t.phi.time = { epoch := s.hub.storage.epoch.getD ⟨0, 0⟩ } ∧ t.hub.storage = s.hub.storage ∧ t.hub.seqs = [] ∧ t.phi.flt.seqNext = 1
        ∧ t.out = s.out ∧ t.mdl = s.mdl ∧ s.sameTsu t)
  ∧ (∀ (s : State),
    (s.tsu.cfg.startStep = 2 → s.tsu.cfg.inForce = none → Answers (.dredgeDone .tsu) s fun t =>
      t = { s with tsu.engines := [], tsu.cfg.startStep := 4, tsu.cfg.stepNs := s.ns .tsu })
    ∧ (s.phi.cfg.startStep = 1 → Answers (.dredgeDone .phi) s fun t =>
      t = { s with phi.cfg.startStep := 2, phi.cfg.stepNs := s.ns .phi })
    ∧ (s.phi.cfg.startStep = 2 → s.hub.fw.goNow.map (·.1) ≠ some s.cyc → Answers (.dredgeDone .phi) s fun t =>
      t = { s with phi.cfg.startStep := 3, phi.cfg.stepNs := s.ns .phi, hub.fw.ldrStatus := 1 }))
  ∧ (∀ (s : State) (p : Part) (ring idx kind i : Nat) (d : Desc), s.ready p ring idx 0x43 d → d.unitCtrl = (kind, 4, i) →
      s.unitRefused p kind 4 i = none → (∀ e ∈ (s.part p).engines, e.2.step < 3) → Answers (.unitEngineReset p ring idx) s fun t =>
      t.engine p i = { s.engine p i with ctls := (s.engine p i).ctls ++ [(ring, idx)], asked := (s.engine p i).step == 0 }
        ∧ (∀ j, j ≠ i → t.engine p j = s.engine p j) ∧ (t.part p).ports = (s.part p).ports ∧ (t.part p).time = (s.part p).time
        ∧ t.die = s.die ∧ t.meter = s.meter)
  ∧ (∀ (s : State) (p : Part) (i : Nat) (e : EngineSt), (s.part p).engines.filter (fun x => x.2.asked) = [(i, e)] →
      (s.part p).engines.any (fun x => x.2.step ≥ 3) = false → tabGet {} (s.part p).engines i = e → e.step = 0 →
      ((s.endAsked p).engine p i).step = 1 ∧ ((s.endAsked p).engine p i).asked = false
        ∧ ((s.endAsked p).engine p i).ctls = e.ctls ∧ (∀ j, j ≠ i → (s.endAsked p).engine p j = s.engine p j)
        ∧ (s.endAsked p).meter = s.meter)
  ∧ (∀ (s : State) (p : Part) (ring idx : Nat) (d : Desc) (block b : List Byte), s.ready p ring idx 0x40 d → d.pl 0 8 % 64 = 0 →
      b = (padTo (d.pl 8 2) block).take (d.pl 8 2) → (s.part p).cfg.block = none →
    (blockRefused p (d.pl 8 2) b = none → Answers (.cfgLoad p ring idx block) s fun t =>
      (t.part p).cfg = { (s.part p).cfg with asked := some (ring, idx, b) } ∧ (t.desc? p ring idx).isSome = true
        ∧ (t.part p).time = (s.part p).time ∧ (t.part p).ports = (s.part p).ports ∧ t.die = s.die ∧ t.meter = s.meter)
    ∧ (∀ code off, blockRefused p (d.pl 8 2) b = some (code, off) → Answers (.cfgLoad p ring idx block) s fun t =>
      (t.part p).cfg.inForce = none ∧ (t.part p).cfg.lastReason = BitVec.ofNat 8 code ∧ (t.part p).cfg.lastOffset = BitVec.ofNat 16 off
        ∧ t.desc? p ring idx = none ∧ (t.part p).time = (s.part p).time ∧ t.die = s.die ∧ t.meter = s.meter))
  ∧ (∀ (s : State) (p : Part) (ring idx : Nat) (b : List Byte), (s.part p).cfg.asked = some (ring, idx, b) →
      ((s.endConfig p).part p).cfg.inForce = some b ∧ ((s.endConfig p).part p).cfg.asked = none
        ∧ ((s.endConfig p).part p).cfg.serial = BitVec.ofNat 32 (field b 8 4) ∧ (s.endConfig p).desc? p ring idx = none
        ∧ (p = .tsu → (s.endConfig p).tsu.cfg.startStep = 5) ∧ (p = .phi → (s.endConfig p).hub.storage.bootCfg = some b)
        ∧ ((s.endConfig p).part p).time.acc = (s.part p).time.acc ∧ (s.endConfig p).meter = s.meter)
  ∧ (∀ (s : State) (p : Part) (ring idx : Nat) (d : Desc) (token : List Byte) (refOk parityOk : Bool), s.ready p ring idx 0x41 d →
    (s.lcRefused p (d.plBits 0 1 0 3) (d.pl 8 8) token = none → Answers (.lcChange p ring idx token refOk parityOk) s fun t =>
      (t.part p).cfg.lcState = d.plBits 0 1 0 3 ∧ (t.part p).cfg.lcRows = (s.part p).cfg.lcRows + 1
        ∧ (t.part p).time.acc = (s.part p).time.acc ∧ (p = .tsu → t.tsu.cfg.startStep = 2)
        ∧ (p = .phi → s.phi.cfg.startStep ≠ 0 → t.phi.cfg.startStep = 1) ∧ t.meter = s.meter)
    ∧ (∀ st, s.lcRefused p (d.plBits 0 1 0 3) (d.pl 8 8) token = some st → Answers (.lcChange p ring idx token refOk parityOk) s fun t =>
      (t.part p).cfg = (s.part p).cfg ∧ t.desc? p ring idx = none ∧ (t.part p).time = (s.part p).time ∧ t.die = s.die
        ∧ t.meter = s.meter))

/-- The PDM-52 module (R440, R441, R443): input supply, present pin, and the registers of its SMBus, each transaction refused without a
good PEC. -/
def Obligations.ModuleSupply : Prop :=
  (∀ (s : State) (mv : Nat),
    (Fires (.inputUndervoltage mv) s (mv < 38000) fun t =>
      t.mdl.uv = true ∧ t.mdl.inRange = false ∧ t.mdl.ovShut = false ∧ t.mdl.convOn = false ∧ (s.mdl.convOn = true → t.phi.cfg.startStep = 0)
        ∧ t.hub.storage = s.hub.storage ∧ t.out = s.out ∧ s.sameTsu t)
    ∧ (Fires (.inputOvervoltage mv) s (62000 < mv) fun t =>
      t.mdl.ov = true ∧ t.mdl.inRange = false ∧ t.mdl.ovShut = true ∧ t.mdl.convOn = false ∧ (s.mdl.convOn = true → t.phi.cfg.startStep = 0)
        ∧ t.hub.storage = s.hub.storage ∧ t.out = s.out ∧ s.sameTsu t)
    ∧ (Fires (.inputRecovery mv) s (39500 < mv ∧ (mv < 61000 ∨ (s.mdl.ovShut = false ∧ mv ≤ 62000)) ∧ s.mdl.present = true)
        fun t =>
      t = { s with mdl.inRange := true, mdl.ovShut := false, mdl.convOn := s.mdl.convOn || !s.mdl.ctrlOff }))
  ∧ (∀ (s : State), (Answers .presentPinBreak s fun t =>
      t.mdl.present = false ∧ t.mdl.convOn = false ∧ (s.mdl.convOn = true → t.phi.cfg.startStep = 0) ∧ t.hub.storage = s.hub.storage
        ∧ t.out = s.out ∧ s.sameTsu t)
    ∧ (Fires .presentPinMate s (s.mdl.present = false) fun t => t = { s with mdl.present := true, mdl.inRange := false }))
  ∧ (∀ (s : State) (pec oc : Bool) (mv ma dw : W16) (phidor memory inlet converter : Byte),
    (Fires (.smbusStatus pec oc) s (pec = true) fun t =>
      t = { s with mdl.oc := s.mdl.oc || oc, out := s.out ++ [.smbus (leBytes 2 (packBits [s.mdl.convOn, s.mdl.uv, s.mdl.ov,
            s.mdl.oc || oc, s.mdl.heldReset, s.mdl.tripLatched, s.mdl.present]))] })
    ∧ (Fires (.smbusVinMv pec mv) s (pec = true) fun t =>
      t = { s with out := s.out ++ [.smbus (if s.mdl.convOn then leOf 2 mv else [0, 0])] })
    ∧ (Fires (.smbusIinMa pec ma) s (pec = true) fun t =>
      t = { s with out := s.out ++ [.smbus (if s.mdl.convOn then leOf 2 ma else [0, 0])] })
    ∧ (Fires (.smbusPinDw pec dw) s (pec = true) fun t =>
      t = { s with out := s.out ++ [.smbus (if s.mdl.convOn then leOf 2 dw else [0, 0])] })
    ∧ (Fires (.smbusTemps pec phidor memory inlet converter) s (pec = true) fun t =>
      t = { s with out := s.out ++ [.smbus (if s.mdl.convOn then [phidor, memory, inlet, converter] else [0, 0, 0, 0])] })
    ∧ (Fires (.smbusModuleId pec) s (pec = true) fun t =>
      t = { s with out := s.out ++ [.smbus (leOf 12 Config.moduleSerial ++ leOf 4 Config.boardRev)] }))
  ∧ (∀ (s : State) (pec clear off : Bool),
    (Fires (.smbusConvertersOff pec clear) s (pec = true) fun t =>
      t.mdl.ctrlOff = true ∧ t.mdl.convOn = false ∧ (clear = true → t.mdl.uv = false ∧ t.mdl.ov = false ∧ t.mdl.oc = false
          ∧ t.mdl.tripLatched = false)
        ∧ (s.mdl.convOn = true → t.phi.cfg.startStep = 0) ∧ t.hub.storage = s.hub.storage ∧ t.out = s.out ∧ s.sameTsu t)
    ∧ (Fires (.smbusConvertersOn pec clear) s (pec = true) fun t =>
      t.mdl.ctrlOff = false ∧ t.mdl.convOn = (s.mdl.convOn || (s.mdl.present && s.mdl.inRange)) ∧ (clear = true → t.mdl.uv = false
          ∧ t.mdl.ov = false ∧ t.mdl.oc = false ∧ t.mdl.tripLatched = false) ∧ t = { s with mdl := t.mdl })
    ∧ (Fires (.smbusClearFaults pec off) s (pec = true) fun t =>
      t.mdl.ctrlOff = off ∧ t.mdl.uv = false ∧ t.mdl.ov = false ∧ t.mdl.oc = false ∧ t.mdl.tripLatched = false
        ∧ t.hub.storage = s.hub.storage ∧ t.out = s.out ∧ s.sameTsu t))

/-- A step of a block with a command waiting is that command's effect on the block with the queue's rest. -/
def Obligations.StepRunsFront : Prop :=
  ∀ (s : State) (c : Instr) (rest : List Instr), s.pending = c :: rest → step s = exec c { s with pending := rest }

/-- Every step of every state answers a next state, and takes exactly the front of the queue. -/
def Obligations.EveryStepAnswers : Prop :=
  ∀ s : State, ∃ t, step s = .next t ∧ t.pending = s.pending.tail

/-- With no command waiting, a step is one always-on cycle (the model's choice, log entries 6 and 35): the accumulator advances by the INC of
R12 within its clamp; a running hold keeps it while the parent advances (R27, log entry 10); a part in `FAULT` holds it (R25). HT never
goes back. Where nothing of the cycle is left to resolve (R33, R193, R225, R247, R345, R380, R401, R422), nothing else but counts moves, and a
Phidor without power stands still. -/
def Obligations.IdleCycle : Prop :=
  ∀ (s : State) (p : Part), s.pending = [] → (p = .phi → 1 ≤ s.phi.cfg.startStep) → ∃ t, step s = .next t ∧ t.pending = []
    ∧ t.cyc = s.cyc + 1 ∧ 0 ≤ ((t.part p).time.acc - (s.part p).time.acc).toInt ∧ t.mdl = s.mdl
    ∧ t.meter = { s.meter with word := t.meter.word, wordCyc := t.meter.wordCyc }
    ∧ (s.resolved →
      ((s.part p).time.state = .fault → (t.part p).time = (s.part p).time)
      ∧ ((s.part p).time.state ≠ .fault → (s.part p).time.holdLeft = 0 →
        (t.part p).time.acc = (s.part p).time.acc + BitVec.ofInt 112
          (max 0 (min (8 * 2 ^ 48 + (s.part p).time.rateAdj.toInt + (s.part p).time.slewNow) (2 * 8 * 2 ^ 48 - 1)))
        ∧ (s.part p).time.slewNow.natAbs ≤ (s.part p).time.slewAdj.natAbs
        ∧ (t.part p).time.slewLeft = (s.part p).time.slewLeft - (s.part p).time.slewNow)
      ∧ ((s.part p).time.state ≠ .fault → (s.part p).time.freeInc < (s.part p).time.holdLeft →
        (t.part p).time.acc = (s.part p).time.acc
        ∧ (t.part p).time.holdLeft = (s.part p).time.holdLeft - (s.part p).time.freeInc)
      ∧ (t.part p).time.rateAdj = (s.part p).time.rateAdj ∧ (t.part p).time.state = (s.part p).time.state
      ∧ (t.part p).rings = (s.part p).rings ∧ (t.part p).ports = (s.part p).ports ∧ t.out = s.out
      ∧ t.hub = { s.hub with fw.busy := Config.fwBusy t.cyc }
      ∧ t.die.sync = s.die.sync ∧ t.die.wbOps = s.die.wbOps ∧ (s.phi.cfg.startStep = 0 → t.phi = s.phi))

/-- The block right after reset: HT and `RATE_ADJ` zero and the time state `FREE` (R14), no command waiting, the reset values of the register
maps (R426), and the life-cycle invariant. That the life cycle begins in `FACTORY` is the model's choice (log entry 2). -/
def Obligations.ResetState : Prop :=
  (∀ p, (State.reset.part p).time.acc = 0 ∧ (State.reset.part p).time.rateAdj = 0 ∧ (State.reset.part p).time.state = .free)
  ∧ State.reset.pending = [] ∧ State.reset.out = [] ∧ State.reset.lifeCycleOk
  ∧ State.reset.readReg .tsu 0x0D08 4 = 6 ∧ State.reset.readReg .tsu 0x0D0C 4 = 1000 ∧ State.reset.readReg .tsu 0x0D10 8 = 1
  ∧ State.reset.readReg .phi 0x3008 4 = 6 ∧ State.reset.readReg .phi 0x300C 4 = 1000 ∧ State.reset.readReg .phi 0x3010 8 = 1
  ∧ State.reset.readReg .tsu 0x0300 4 = 0 ∧ State.reset.readReg .tsu 0x0358 8 = 0 ∧ State.reset.readReg .tsu 0x0500 4 = 0x10000
  ∧ State.reset.readReg .tsu 0x0510 8 = 0x7FFFFFFFFFFFFFFF ∧ State.reset.readReg .tsu 0x1000 8 = 0

/-- Every step keeps the life-cycle state of each part within R417 and its fuse rows (R417, R418). -/
def Obligations.LifeCycleInvariant : Prop :=
  ∀ s t : State, s.lifeCycleOk → step s = .next t → t.lifeCycleOk

/-- A step changes a part's life-cycle state only by an `LC_CHANGE` that starts, only along an allowed transition, with a token where one is
required, and never with an unacknowledged record at a TSU that would retire; another target completes with `CONFLICT`, and one after 31
rows that is not `RETIRED` with `NO_SPACE` (R418). -/
def Obligations.LifeCycleChanges : Prop :=
  (∀ (s t : State) (p : Part), step s = .next t → (t.part p).cfg.lcState ≠ (s.part p).cfg.lcState →
    ∃ ring idx token refOk parityOk d rest, s.pending = .lcChange p ring idx token refOk parityOk :: rest
      ∧ s.ready p ring idx 0x41 d ∧ (t.part p).cfg.lcState = d.plBits 0 1 0 3
      ∧ lcAllowed (s.part p).cfg.lcState (t.part p).cfg.lcState ∧ (t.part p).cfg.lcRows = (s.part p).cfg.lcRows + 1
      ∧ (31 ≤ (s.part p).cfg.lcRows → (t.part p).cfg.lcState = 4)
      ∧ ((s.part p).cfg.lcState = 2 → (t.part p).cfg.lcState = 3 → s.tokenOk p 3 token = true)
      ∧ (p = .tsu → (t.part p).cfg.lcState = 4 → s.meter.storeRecs = 0))
  ∧ (∀ (s : State) (p : Part) (ring idx : Nat) (token : List Byte) (refOk parityOk : Bool) (d : Desc), s.ready p ring idx 0x41 d →
    d.plBits 0 1 0 3 ≤ 4 → d.pl 8 8 % 64 = 0 →
    (31 ≤ (s.part p).cfg.lcRows → d.plBits 0 1 0 3 ≠ 4 →
      exec (.lcChange p ring idx token refOk parityOk) s = .next ((s.begun p ring idx d).finish p ring idx .noSpace 0 0))
    ∧ (((s.part p).cfg.lcRows < 31 ∨ d.plBits 0 1 0 3 = 4) →
      (¬ lcAllowed (s.part p).cfg.lcState (d.plBits 0 1 0 3) ∨ (p = .tsu ∧ d.plBits 0 1 0 3 = 4 ∧ s.meter.storeRecs ≠ 0)) →
      exec (.lcChange p ring idx token refOk parityOk) s = .next ((s.begun p ring idx d).finish p ring idx .conflict 0 0)))

/-- HT of a part moves by no other command than those of `movesHt`; outside them only the always-on cycle advances it (R12, R14,
R27). -/
def Obligations.OnlyTheseCommandsMoveHt : Prop :=
  ∀ (c : Instr) (s t : State) (p : Part), exec c s = .next t → movesHt p c = false →
    (t.part p).time.acc = (s.part p).time.acc

/-- A short stamp expands to h + (s64)(s32)(s - h[31:0]), the candidate nearest to h, and of two at 2^31 the earlier (R21). -/
def Obligations.StampExpansion : Prop :=
  ∀ (h : W64) (st : W32), expandStamp h st = h + (st - h.extractLsb' 0 32).signExtend 64
    ∧ (expandStamp h st).extractLsb' 0 32 = st
    ∧ (∀ c : W64, c.extractLsb' 0 32 = st → (expandStamp h st - h).toInt.natAbs ≤ (c - h).toInt.natAbs)
    ∧ (st - h.extractLsb' 0 32 = 0x80000000#32 → expandStamp h st = h - 0x80000000#64)

/-- A ring entry is 32 bytes with the fields of R285 at their bytes and bits, the reserved ones zero; it is read back as it was, a
register read shows the words last written (R6, R430), and its ranges are those of R285. -/
def Obligations.RingEntryLayout : Prop :=
  ∀ e : RingEntry, e.descBase < 2 ^ 64 → e.cplBase < 2 ^ 64 → e.dbAddr < 2 ^ 64 → e.sizeLog2 < 32 → e.vector < 2 ^ 16 →
      e.holdoffUs < 2 ^ 16 →
    e.bytes.length = 32 ∧ ringEntryOf e.bytes = e
      ∧ field e.bytes 0 8 = e.descBase ∧ field e.bytes 8 8 = e.cplBase ∧ field e.bytes 16 8 = e.dbAddr
      ∧ field e.bytes 24 1 = e.sizeLog2 ∧ field e.bytes 25 1 = nb e.en + 2 * nb e.irqEn ∧ field e.bytes 26 2 = e.vector
      ∧ field e.bytes 28 2 = e.holdoffUs ∧ field e.bytes 30 2 = 0
      ∧ (∀ (s : State) (p : Part) (i k : Nat), i < ringCount p → k < 8 → (s.ring p i).stagedWords = e.bytes →
        s.readReg p ((match p with | .tsu => 0x1000 | .phi => 0x020000) + 32 * i + 4 * k) 4 = BitVec.ofNat 64 (field e.bytes (4 * k) 4))
      ∧ (∀ p, e.ok p = true ↔ e.descBase % 4096 = 0 ∧ e.cplBase % 4096 = 0 ∧ e.dbAddr % 64 = 0 ∧ 6 ≤ e.sizeLog2 ∧ e.sizeLog2 ≤ 20
        ∧ e.vector ≤ (match p with | .tsu => 63 | .phi => 2047))

/-- A write of `HT_SNAP_CTRL.GO` latches every field of the time status block from one cycle, 48 bytes laid out as R36 has them. -/
def Obligations.TimeStatusBlock : Prop :=
  ∀ (s : State) (p : Part), s.reaches p (match p with | .tsu => 0x0300 | .phi => 0x1100) 4 → Answers (.htSnapGo p) s fun t =>
    let k := (s.part p).time
    let b := (t.part p).time.snap
    let blank := s.isLighthouse p = true ∧ k.trace = .untraceable
    (t.part p).time.snapValid = true ∧ b.length = 48 ∧ field b 0 10 = k.ht.toNat ∧ field b 0 2 = k.acc.toNat / 2 ^ 32 % 2 ^ 16
      ∧ field b 2 8 = k.ns.toNat
      ∧ field b 10 1 % 8 = k.state.code ∧ field b 10 1 / 8 % 2 = (match p with | .tsu => k.planeSel | .phi => s.phiPlane).toNat ∧ field b 10 1 / 16 % 2 = nb k.standbyOk
      ∧ (field b 10 1 / 32 % 2 = 1 ↔ k.slewAdj ≠ 0) ∧ field b 10 1 / 64 = 0
      ∧ field b 11 1 % 4 = k.trace.code ∧ field b 11 1 / 4 % 2 = nb k.leap61 ∧ field b 11 1 / 8 % 2 = nb k.leap59 ∧ field b 11 1 / 16 = 0
      ∧ field b 12 8 = k.entryNs.toNat ∧ (blank → field b 20 4 = 0 ∧ field b 24 2 = 0)
      ∧ (¬ blank → field b 20 4 = k.offsetFs.toNat ∧ field b 24 2 = k.sigma10fs.toNat)
      ∧ field b 26 2 = k.taiUtcS.toNat ∧ field b 28 8 = k.epoch.s.toNat ∧ field b 36 4 = k.epoch.ns.toNat
      ∧ field b 40 4 = min (k.holdLeft / 2 ^ 48) (2 ^ 32 - 1) ∧ field b 44 4 = 0
      ∧ (t.part p).time = { k with snap := b, snapValid := true }
end

