-- ==== Sys2Proof/Laws/State.lean ====
section
/-!
SUPPORT. What updates of the state leave alone: one lemma per field and update, and what a list of updates leaves alone.
-/

namespace Sys2Proof.Machine

/-- The command's outcome is a next state with the property. -/
def gives (r : Result) (P : State → Prop) : Prop := ∃ t, r = .next t ∧ P t

@[simp] theorem gives_next (t : State) (P : State → Prop) : gives (.next t) P ↔ P t := by simp [gives]

@[simp] theorem gives_nothing (t : State) (P : State → Prop) : gives (nothing t) P ↔ P t := by simp [gives, nothing]

@[simp] theorem gives_whenever (c : Bool) (s t : State) (P : State → Prop) : gives (whenever c s t) P ↔ P (if c then t else s) := by
  simp [gives, whenever]

@[simp] theorem gives_ite (c : Prop) [Decidable c] (a b : Result) (P : State → Prop) (ha : gives a P) (hb : gives b P) :
    gives (if c then a else b) P := by split <;> assumption

theorem gives_and {r : Result} {P Q : State → Prop} (hp : gives r P) (hq : gives r Q) : gives r fun t => P t ∧ Q t := by
  obtain ⟨t, rfl, h⟩ := hp
  obtain ⟨u, hu, h'⟩ := hq
  cases hu
  exact ⟨t, rfl, h, h'⟩

@[simp] theorem State.part_tsu (s : State) : s.part .tsu = s.tsu := rfl

@[simp] theorem State.part_phi (s : State) : s.part .phi = s.phi := rfl

@[simp] theorem State.setPart_tsu (s : State) (c : PartCore) : s.setPart .tsu c = { s with tsu := c } := rfl

@[simp] theorem State.setPart_phi (s : State) (c : PartCore) : s.setPart .phi c = { s with phi := c } := rfl

@[simp] theorem State.upd_tsu (s : State) (f : PartCore → PartCore) : s.upd .tsu f = { s with tsu := f s.tsu } := rfl

@[simp] theorem State.upd_phi (s : State) (f : PartCore → PartCore) : s.upd .phi f = { s with phi := f s.phi } := rfl

@[simp] theorem PartCore.ite_time (c : Prop) [Decidable c] (a b : PartCore) :
    (if c then a else b).time = if c then a.time else b.time := by split <;> rfl

@[simp] theorem PartCore.ite_ports (c : Prop) [Decidable c] (a b : PartCore) :
    (if c then a else b).ports = if c then a.ports else b.ports := by split <;> rfl

@[simp] theorem PartCore.ite_torn (c : Prop) [Decidable c] (a b : PartCore) :
    (if c then a else b).torn = if c then a.torn else b.torn := by split <;> rfl

@[simp] theorem PartCore.ite_keys (c : Prop) [Decidable c] (a b : PartCore) :
    (if c then a else b).keys = if c then a.keys else b.keys := by split <;> rfl

@[simp] theorem PartCore.ite_relKeys (c : Prop) [Decidable c] (a b : PartCore) :
    (if c then a else b).relKeys = if c then a.relKeys else b.relKeys := by split <;> rfl

@[simp] theorem PartCore.ite_tdc (c : Prop) [Decidable c] (a b : PartCore) :
    (if c then a else b).tdc = if c then a.tdc else b.tdc := by split <;> rfl

@[simp] theorem PartCore.ite_clk (c : Prop) [Decidable c] (a b : PartCore) :
    (if c then a else b).clk = if c then a.clk else b.clk := by split <;> rfl

@[simp] theorem PartCore.ite_rings (c : Prop) [Decidable c] (a b : PartCore) :
    (if c then a else b).rings = if c then a.rings else b.rings := by split <;> rfl

@[simp] theorem PartCore.ite_page (c : Prop) [Decidable c] (a b : PartCore) :
    (if c then a else b).page = if c then a.page else b.page := by split <;> rfl

@[simp] theorem PartCore.ite_flt (c : Prop) [Decidable c] (a b : PartCore) :
    (if c then a else b).flt = if c then a.flt else b.flt := by split <;> rfl

@[simp] theorem PartCore.ite_units (c : Prop) [Decidable c] (a b : PartCore) :
    (if c then a else b).units = if c then a.units else b.units := by split <;> rfl

@[simp] theorem PartCore.ite_engines (c : Prop) [Decidable c] (a b : PartCore) :
    (if c then a else b).engines = if c then a.engines else b.engines := by split <;> rfl

@[simp] theorem PartCore.ite_gov (c : Prop) [Decidable c] (a b : PartCore) :
    (if c then a else b).gov = if c then a.gov else b.gov := by split <;> rfl

@[simp] theorem PartCore.ite_cnt (c : Prop) [Decidable c] (a b : PartCore) :
    (if c then a else b).cnt = if c then a.cnt else b.cnt := by split <;> rfl

@[simp] theorem PartCore.ite_cfg (c : Prop) [Decidable c] (a b : PartCore) :
    (if c then a else b).cfg = if c then a.cfg else b.cfg := by split <;> rfl

@[simp] theorem PartCore.ite_cycs (c : Prop) [Decidable c] (a b : PartCore) :
    (if c then a else b).cycs = if c then a.cycs else b.cycs := by split <;> rfl

@[simp] theorem PartCore.ite_took (c : Prop) [Decidable c] (a b : PartCore) :
    (if c then a else b).took = if c then a.took else b.took := by split <;> rfl

@[simp] theorem PartCore.ite_hung (c : Prop) [Decidable c] (a b : PartCore) :
    (if c then a else b).hung = if c then a.hung else b.hung := by split <;> rfl

@[simp] theorem TimeSt.ite_acc (c : Prop) [Decidable c] (a b : TimeSt) :
    (if c then a else b).acc = if c then a.acc else b.acc := by split <;> rfl

@[simp] theorem TimeSt.ite_state (c : Prop) [Decidable c] (a b : TimeSt) :
    (if c then a else b).state = if c then a.state else b.state := by split <;> rfl

@[simp] theorem CfgSt.ite_lcState (c : Prop) [Decidable c] (a b : CfgSt) :
    (if c then a else b).lcState = if c then a.lcState else b.lcState := by split <;> rfl

@[simp] theorem CfgSt.ite_lcRows (c : Prop) [Decidable c] (a b : CfgSt) :
    (if c then a else b).lcRows = if c then a.lcRows else b.lcRows := by split <;> rfl

@[simp] theorem HubSt.ite_storage (c : Prop) [Decidable c] (a b : HubSt) :
    (if c then a else b).storage = if c then a.storage else b.storage := by split <;> rfl

@[simp] theorem HubSt.ite_fw (c : Prop) [Decidable c] (a b : HubSt) :
    (if c then a else b).fw = if c then a.fw else b.fw := by split <;> rfl

@[simp] theorem HubSt.ite_pairs (c : Prop) [Decidable c] (a b : HubSt) :
    (if c then a else b).pairs = if c then a.pairs else b.pairs := by split <;> rfl

@[simp] theorem HubSt.ite_led (c : Prop) [Decidable c] (a b : HubSt) :
    (if c then a else b).led = if c then a.led else b.led := by split <;> rfl

@[simp] theorem HubSt.ite_seqs (c : Prop) [Decidable c] (a b : HubSt) :
    (if c then a else b).seqs = if c then a.seqs else b.seqs := by split <;> rfl

@[simp] theorem FwSt.ite_state (c : Prop) [Decidable c] (a b : FwSt) :
    (if c then a else b).state = if c then a.state else b.state := by split <;> rfl

@[simp] theorem DieSt.ite_sync (c : Prop) [Decidable c] (a b : DieSt) :
    (if c then a else b).sync = if c then a.sync else b.sync := by split <;> rfl

@[simp] theorem DieSt.ite_launches (c : Prop) [Decidable c] (a b : DieSt) :
    (if c then a else b).launches = if c then a.launches else b.launches := by split <;> rfl

@[simp] theorem DieSt.ite_dig (c : Prop) [Decidable c] (a b : DieSt) :
    (if c then a else b).dig = if c then a.dig else b.dig := by split <;> rfl

@[simp] theorem DieSt.ite_binds (c : Prop) [Decidable c] (a b : DieSt) :
    (if c then a else b).binds = if c then a.binds else b.binds := by split <;> rfl

@[simp] theorem DieSt.ite_coreEn (c : Prop) [Decidable c] (a b : DieSt) :
    (if c then a else b).coreEn = if c then a.coreEn else b.coreEn := by split <;> rfl

@[simp] theorem State.ite_pending (c : Prop) [Decidable c] (a b : State) :
    (if c then a else b).pending = if c then a.pending else b.pending := by split <;> rfl

@[simp] theorem State.ite_cyc (c : Prop) [Decidable c] (a b : State) :
    (if c then a else b).cyc = if c then a.cyc else b.cyc := by split <;> rfl

@[simp] theorem State.ite_freeNext (c : Prop) [Decidable c] (a b : State) :
    (if c then a else b).freeNext = if c then a.freeNext else b.freeNext := by split <;> rfl

@[simp] theorem State.ite_out (c : Prop) [Decidable c] (a b : State) :
    (if c then a else b).out = if c then a.out else b.out := by split <;> rfl

@[simp] theorem State.ite_mdl (c : Prop) [Decidable c] (a b : State) :
    (if c then a else b).mdl = if c then a.mdl else b.mdl := by split <;> rfl

@[simp] theorem State.ite_meter (c : Prop) [Decidable c] (a b : State) :
    (if c then a else b).meter = if c then a.meter else b.meter := by split <;> rfl

@[simp] theorem State.ite_die (c : Prop) [Decidable c] (a b : State) :
    (if c then a else b).die = if c then a.die else b.die := by split <;> rfl

@[simp] theorem State.ite_hub (c : Prop) [Decidable c] (a b : State) :
    (if c then a else b).hub = if c then a.hub else b.hub := by split <;> rfl

@[simp] theorem State.ite_tsu (c : Prop) [Decidable c] (a b : State) :
    (if c then a else b).tsu = if c then a.tsu else b.tsu := by split <;> rfl

@[simp] theorem State.ite_phi (c : Prop) [Decidable c] (a b : State) :
    (if c then a else b).phi = if c then a.phi else b.phi := by split <;> rfl

@[simp] theorem State.upd_tsu_time (s : State) (p : Part) (f : PartCore → PartCore) (h : ∀ c, (f c).time = c.time) :
    (s.upd p f).tsu.time = s.tsu.time := by cases p <;> simp [h]

@[simp] theorem State.upd_tsu_time_acc (s : State) (p : Part) (f : PartCore → PartCore) (h : ∀ c, (f c).time.acc = c.time.acc) :
    (s.upd p f).tsu.time.acc = s.tsu.time.acc := by cases p <;> simp [h]

@[simp] theorem State.upd_tsu_time_state (s : State) (p : Part) (f : PartCore → PartCore) (h : ∀ c, (f c).time.state = c.time.state) :
    (s.upd p f).tsu.time.state = s.tsu.time.state := by cases p <;> simp [h]

@[simp] theorem State.upd_tsu_ports (s : State) (p : Part) (f : PartCore → PartCore) (h : ∀ c, (f c).ports = c.ports) :
    (s.upd p f).tsu.ports = s.tsu.ports := by cases p <;> simp [h]

@[simp] theorem State.upd_tsu_torn (s : State) (p : Part) (f : PartCore → PartCore) (h : ∀ c, (f c).torn = c.torn) :
    (s.upd p f).tsu.torn = s.tsu.torn := by cases p <;> simp [h]

@[simp] theorem State.upd_tsu_keys (s : State) (p : Part) (f : PartCore → PartCore) (h : ∀ c, (f c).keys = c.keys) :
    (s.upd p f).tsu.keys = s.tsu.keys := by cases p <;> simp [h]

@[simp] theorem State.upd_tsu_relKeys (s : State) (p : Part) (f : PartCore → PartCore) (h : ∀ c, (f c).relKeys = c.relKeys) :
    (s.upd p f).tsu.relKeys = s.tsu.relKeys := by cases p <;> simp [h]

@[simp] theorem State.upd_tsu_tdc (s : State) (p : Part) (f : PartCore → PartCore) (h : ∀ c, (f c).tdc = c.tdc) :
    (s.upd p f).tsu.tdc = s.tsu.tdc := by cases p <;> simp [h]

@[simp] theorem State.upd_tsu_clk (s : State) (p : Part) (f : PartCore → PartCore) (h : ∀ c, (f c).clk = c.clk) :
    (s.upd p f).tsu.clk = s.tsu.clk := by cases p <;> simp [h]

@[simp] theorem State.upd_tsu_rings (s : State) (p : Part) (f : PartCore → PartCore) (h : ∀ c, (f c).rings = c.rings) :
    (s.upd p f).tsu.rings = s.tsu.rings := by cases p <;> simp [h]

@[simp] theorem State.upd_tsu_page (s : State) (p : Part) (f : PartCore → PartCore) (h : ∀ c, (f c).page = c.page) :
    (s.upd p f).tsu.page = s.tsu.page := by cases p <;> simp [h]

@[simp] theorem State.upd_tsu_flt (s : State) (p : Part) (f : PartCore → PartCore) (h : ∀ c, (f c).flt = c.flt) :
    (s.upd p f).tsu.flt = s.tsu.flt := by cases p <;> simp [h]

@[simp] theorem State.upd_tsu_units (s : State) (p : Part) (f : PartCore → PartCore) (h : ∀ c, (f c).units = c.units) :
    (s.upd p f).tsu.units = s.tsu.units := by cases p <;> simp [h]

@[simp] theorem State.upd_tsu_engines (s : State) (p : Part) (f : PartCore → PartCore) (h : ∀ c, (f c).engines = c.engines) :
    (s.upd p f).tsu.engines = s.tsu.engines := by cases p <;> simp [h]

@[simp] theorem State.upd_tsu_gov (s : State) (p : Part) (f : PartCore → PartCore) (h : ∀ c, (f c).gov = c.gov) :
    (s.upd p f).tsu.gov = s.tsu.gov := by cases p <;> simp [h]

@[simp] theorem State.upd_tsu_cnt (s : State) (p : Part) (f : PartCore → PartCore) (h : ∀ c, (f c).cnt = c.cnt) :
    (s.upd p f).tsu.cnt = s.tsu.cnt := by cases p <;> simp [h]

@[simp] theorem State.upd_tsu_cfg (s : State) (p : Part) (f : PartCore → PartCore) (h : ∀ c, (f c).cfg = c.cfg) :
    (s.upd p f).tsu.cfg = s.tsu.cfg := by cases p <;> simp [h]

@[simp] theorem State.upd_tsu_cfg_lcState (s : State) (p : Part) (f : PartCore → PartCore) (h : ∀ c, (f c).cfg.lcState = c.cfg.lcState) :
    (s.upd p f).tsu.cfg.lcState = s.tsu.cfg.lcState := by cases p <;> simp [h]

@[simp] theorem State.upd_tsu_cfg_lcRows (s : State) (p : Part) (f : PartCore → PartCore) (h : ∀ c, (f c).cfg.lcRows = c.cfg.lcRows) :
    (s.upd p f).tsu.cfg.lcRows = s.tsu.cfg.lcRows := by cases p <;> simp [h]

@[simp] theorem State.upd_tsu_cycs (s : State) (p : Part) (f : PartCore → PartCore) (h : ∀ c, (f c).cycs = c.cycs) :
    (s.upd p f).tsu.cycs = s.tsu.cycs := by cases p <;> simp [h]

@[simp] theorem State.upd_tsu_took (s : State) (p : Part) (f : PartCore → PartCore) (h : ∀ c, (f c).took = c.took) :
    (s.upd p f).tsu.took = s.tsu.took := by cases p <;> simp [h]

@[simp] theorem State.upd_tsu_hung (s : State) (p : Part) (f : PartCore → PartCore) (h : ∀ c, (f c).hung = c.hung) :
    (s.upd p f).tsu.hung = s.tsu.hung := by cases p <;> simp [h]

@[simp] theorem State.upd_phi_time (s : State) (p : Part) (f : PartCore → PartCore) (h : ∀ c, (f c).time = c.time) :
    (s.upd p f).phi.time = s.phi.time := by cases p <;> simp [h]

@[simp] theorem State.upd_phi_time_acc (s : State) (p : Part) (f : PartCore → PartCore) (h : ∀ c, (f c).time.acc = c.time.acc) :
    (s.upd p f).phi.time.acc = s.phi.time.acc := by cases p <;> simp [h]

@[simp] theorem State.upd_phi_time_state (s : State) (p : Part) (f : PartCore → PartCore) (h : ∀ c, (f c).time.state = c.time.state) :
    (s.upd p f).phi.time.state = s.phi.time.state := by cases p <;> simp [h]

@[simp] theorem State.upd_phi_ports (s : State) (p : Part) (f : PartCore → PartCore) (h : ∀ c, (f c).ports = c.ports) :
    (s.upd p f).phi.ports = s.phi.ports := by cases p <;> simp [h]

@[simp] theorem State.upd_phi_torn (s : State) (p : Part) (f : PartCore → PartCore) (h : ∀ c, (f c).torn = c.torn) :
    (s.upd p f).phi.torn = s.phi.torn := by cases p <;> simp [h]

@[simp] theorem State.upd_phi_keys (s : State) (p : Part) (f : PartCore → PartCore) (h : ∀ c, (f c).keys = c.keys) :
    (s.upd p f).phi.keys = s.phi.keys := by cases p <;> simp [h]

@[simp] theorem State.upd_phi_relKeys (s : State) (p : Part) (f : PartCore → PartCore) (h : ∀ c, (f c).relKeys = c.relKeys) :
    (s.upd p f).phi.relKeys = s.phi.relKeys := by cases p <;> simp [h]

@[simp] theorem State.upd_phi_tdc (s : State) (p : Part) (f : PartCore → PartCore) (h : ∀ c, (f c).tdc = c.tdc) :
    (s.upd p f).phi.tdc = s.phi.tdc := by cases p <;> simp [h]

@[simp] theorem State.upd_phi_clk (s : State) (p : Part) (f : PartCore → PartCore) (h : ∀ c, (f c).clk = c.clk) :
    (s.upd p f).phi.clk = s.phi.clk := by cases p <;> simp [h]

@[simp] theorem State.upd_phi_rings (s : State) (p : Part) (f : PartCore → PartCore) (h : ∀ c, (f c).rings = c.rings) :
    (s.upd p f).phi.rings = s.phi.rings := by cases p <;> simp [h]

@[simp] theorem State.upd_phi_page (s : State) (p : Part) (f : PartCore → PartCore) (h : ∀ c, (f c).page = c.page) :
    (s.upd p f).phi.page = s.phi.page := by cases p <;> simp [h]

@[simp] theorem State.upd_phi_flt (s : State) (p : Part) (f : PartCore → PartCore) (h : ∀ c, (f c).flt = c.flt) :
    (s.upd p f).phi.flt = s.phi.flt := by cases p <;> simp [h]

@[simp] theorem State.upd_phi_units (s : State) (p : Part) (f : PartCore → PartCore) (h : ∀ c, (f c).units = c.units) :
    (s.upd p f).phi.units = s.phi.units := by cases p <;> simp [h]

@[simp] theorem State.upd_phi_engines (s : State) (p : Part) (f : PartCore → PartCore) (h : ∀ c, (f c).engines = c.engines) :
    (s.upd p f).phi.engines = s.phi.engines := by cases p <;> simp [h]

@[simp] theorem State.upd_phi_gov (s : State) (p : Part) (f : PartCore → PartCore) (h : ∀ c, (f c).gov = c.gov) :
    (s.upd p f).phi.gov = s.phi.gov := by cases p <;> simp [h]

@[simp] theorem State.upd_phi_cnt (s : State) (p : Part) (f : PartCore → PartCore) (h : ∀ c, (f c).cnt = c.cnt) :
    (s.upd p f).phi.cnt = s.phi.cnt := by cases p <;> simp [h]

@[simp] theorem State.upd_phi_cfg (s : State) (p : Part) (f : PartCore → PartCore) (h : ∀ c, (f c).cfg = c.cfg) :
    (s.upd p f).phi.cfg = s.phi.cfg := by cases p <;> simp [h]

@[simp] theorem State.upd_phi_cfg_lcState (s : State) (p : Part) (f : PartCore → PartCore) (h : ∀ c, (f c).cfg.lcState = c.cfg.lcState) :
    (s.upd p f).phi.cfg.lcState = s.phi.cfg.lcState := by cases p <;> simp [h]

@[simp] theorem State.upd_phi_cfg_lcRows (s : State) (p : Part) (f : PartCore → PartCore) (h : ∀ c, (f c).cfg.lcRows = c.cfg.lcRows) :
    (s.upd p f).phi.cfg.lcRows = s.phi.cfg.lcRows := by cases p <;> simp [h]

@[simp] theorem State.upd_phi_cycs (s : State) (p : Part) (f : PartCore → PartCore) (h : ∀ c, (f c).cycs = c.cycs) :
    (s.upd p f).phi.cycs = s.phi.cycs := by cases p <;> simp [h]

@[simp] theorem State.upd_phi_took (s : State) (p : Part) (f : PartCore → PartCore) (h : ∀ c, (f c).took = c.took) :
    (s.upd p f).phi.took = s.phi.took := by cases p <;> simp [h]

@[simp] theorem State.upd_phi_hung (s : State) (p : Part) (f : PartCore → PartCore) (h : ∀ c, (f c).hung = c.hung) :
    (s.upd p f).phi.hung = s.phi.hung := by cases p <;> simp [h]

@[simp] theorem State.upd_pending (s : State) (p : Part) (f : PartCore → PartCore) : (s.upd p f).pending = s.pending := by cases p <;> rfl

@[simp] theorem State.upd_cyc (s : State) (p : Part) (f : PartCore → PartCore) : (s.upd p f).cyc = s.cyc := by cases p <;> rfl

@[simp] theorem State.upd_freeNext (s : State) (p : Part) (f : PartCore → PartCore) : (s.upd p f).freeNext = s.freeNext := by cases p <;> rfl

@[simp] theorem State.upd_out (s : State) (p : Part) (f : PartCore → PartCore) : (s.upd p f).out = s.out := by cases p <;> rfl

@[simp] theorem State.upd_mdl (s : State) (p : Part) (f : PartCore → PartCore) : (s.upd p f).mdl = s.mdl := by cases p <;> rfl

@[simp] theorem State.upd_meter (s : State) (p : Part) (f : PartCore → PartCore) : (s.upd p f).meter = s.meter := by cases p <;> rfl

@[simp] theorem State.upd_die (s : State) (p : Part) (f : PartCore → PartCore) : (s.upd p f).die = s.die := by cases p <;> rfl

@[simp] theorem State.upd_hub (s : State) (p : Part) (f : PartCore → PartCore) : (s.upd p f).hub = s.hub := by cases p <;> rfl

@[simp] theorem foldl_pending {α : Type} (l : List α) (f : State → α → State) (s : State) (h : ∀ s a, (f s a).pending = s.pending) :
    (l.foldl f s).pending = s.pending := by induction l generalizing s <;> simp_all

@[simp] theorem foldl_cyc {α : Type} (l : List α) (f : State → α → State) (s : State) (h : ∀ s a, (f s a).cyc = s.cyc) :
    (l.foldl f s).cyc = s.cyc := by induction l generalizing s <;> simp_all

@[simp] theorem foldl_freeNext {α : Type} (l : List α) (f : State → α → State) (s : State) (h : ∀ s a, (f s a).freeNext = s.freeNext) :
    (l.foldl f s).freeNext = s.freeNext := by induction l generalizing s <;> simp_all

@[simp] theorem foldl_out {α : Type} (l : List α) (f : State → α → State) (s : State) (h : ∀ s a, (f s a).out = s.out) :
    (l.foldl f s).out = s.out := by induction l generalizing s <;> simp_all

@[simp] theorem foldl_mdl {α : Type} (l : List α) (f : State → α → State) (s : State) (h : ∀ s a, (f s a).mdl = s.mdl) :
    (l.foldl f s).mdl = s.mdl := by induction l generalizing s <;> simp_all

@[simp] theorem foldl_meter {α : Type} (l : List α) (f : State → α → State) (s : State) (h : ∀ s a, (f s a).meter = s.meter) :
    (l.foldl f s).meter = s.meter := by induction l generalizing s <;> simp_all

@[simp] theorem foldl_die {α : Type} (l : List α) (f : State → α → State) (s : State) (h : ∀ s a, (f s a).die = s.die) :
    (l.foldl f s).die = s.die := by induction l generalizing s <;> simp_all

@[simp] theorem foldl_hub {α : Type} (l : List α) (f : State → α → State) (s : State) (h : ∀ s a, (f s a).hub = s.hub) :
    (l.foldl f s).hub = s.hub := by induction l generalizing s <;> simp_all

@[simp] theorem foldl_tsu {α : Type} (l : List α) (f : State → α → State) (s : State) (h : ∀ s a, (f s a).tsu = s.tsu) :
    (l.foldl f s).tsu = s.tsu := by induction l generalizing s <;> simp_all

@[simp] theorem foldl_phi {α : Type} (l : List α) (f : State → α → State) (s : State) (h : ∀ s a, (f s a).phi = s.phi) :
    (l.foldl f s).phi = s.phi := by induction l generalizing s <;> simp_all

@[simp] theorem foldl_tsu_time {α : Type} (l : List α) (f : State → α → State) (s : State) (h : ∀ s a, (f s a).tsu.time = s.tsu.time) :
    (l.foldl f s).tsu.time = s.tsu.time := by induction l generalizing s <;> simp_all

@[simp] theorem foldl_tsu_time_acc {α : Type} (l : List α) (f : State → α → State) (s : State) (h : ∀ s a, (f s a).tsu.time.acc = s.tsu.time.acc) :
    (l.foldl f s).tsu.time.acc = s.tsu.time.acc := by induction l generalizing s <;> simp_all

@[simp] theorem foldl_tsu_time_state {α : Type} (l : List α) (f : State → α → State) (s : State) (h : ∀ s a, (f s a).tsu.time.state = s.tsu.time.state) :
    (l.foldl f s).tsu.time.state = s.tsu.time.state := by induction l generalizing s <;> simp_all

@[simp] theorem foldl_tsu_ports {α : Type} (l : List α) (f : State → α → State) (s : State) (h : ∀ s a, (f s a).tsu.ports = s.tsu.ports) :
    (l.foldl f s).tsu.ports = s.tsu.ports := by induction l generalizing s <;> simp_all

@[simp] theorem foldl_tsu_torn {α : Type} (l : List α) (f : State → α → State) (s : State) (h : ∀ s a, (f s a).tsu.torn = s.tsu.torn) :
    (l.foldl f s).tsu.torn = s.tsu.torn := by induction l generalizing s <;> simp_all

@[simp] theorem foldl_tsu_keys {α : Type} (l : List α) (f : State → α → State) (s : State) (h : ∀ s a, (f s a).tsu.keys = s.tsu.keys) :
    (l.foldl f s).tsu.keys = s.tsu.keys := by induction l generalizing s <;> simp_all

@[simp] theorem foldl_tsu_relKeys {α : Type} (l : List α) (f : State → α → State) (s : State) (h : ∀ s a, (f s a).tsu.relKeys = s.tsu.relKeys) :
    (l.foldl f s).tsu.relKeys = s.tsu.relKeys := by induction l generalizing s <;> simp_all

@[simp] theorem foldl_tsu_tdc {α : Type} (l : List α) (f : State → α → State) (s : State) (h : ∀ s a, (f s a).tsu.tdc = s.tsu.tdc) :
    (l.foldl f s).tsu.tdc = s.tsu.tdc := by induction l generalizing s <;> simp_all

@[simp] theorem foldl_tsu_clk {α : Type} (l : List α) (f : State → α → State) (s : State) (h : ∀ s a, (f s a).tsu.clk = s.tsu.clk) :
    (l.foldl f s).tsu.clk = s.tsu.clk := by induction l generalizing s <;> simp_all

@[simp] theorem foldl_tsu_rings {α : Type} (l : List α) (f : State → α → State) (s : State) (h : ∀ s a, (f s a).tsu.rings = s.tsu.rings) :
    (l.foldl f s).tsu.rings = s.tsu.rings := by induction l generalizing s <;> simp_all

@[simp] theorem foldl_tsu_page {α : Type} (l : List α) (f : State → α → State) (s : State) (h : ∀ s a, (f s a).tsu.page = s.tsu.page) :
    (l.foldl f s).tsu.page = s.tsu.page := by induction l generalizing s <;> simp_all

@[simp] theorem foldl_tsu_flt {α : Type} (l : List α) (f : State → α → State) (s : State) (h : ∀ s a, (f s a).tsu.flt = s.tsu.flt) :
    (l.foldl f s).tsu.flt = s.tsu.flt := by induction l generalizing s <;> simp_all

@[simp] theorem foldl_tsu_units {α : Type} (l : List α) (f : State → α → State) (s : State) (h : ∀ s a, (f s a).tsu.units = s.tsu.units) :
    (l.foldl f s).tsu.units = s.tsu.units := by induction l generalizing s <;> simp_all

@[simp] theorem foldl_tsu_engines {α : Type} (l : List α) (f : State → α → State) (s : State) (h : ∀ s a, (f s a).tsu.engines = s.tsu.engines) :
    (l.foldl f s).tsu.engines = s.tsu.engines := by induction l generalizing s <;> simp_all

@[simp] theorem foldl_tsu_gov {α : Type} (l : List α) (f : State → α → State) (s : State) (h : ∀ s a, (f s a).tsu.gov = s.tsu.gov) :
    (l.foldl f s).tsu.gov = s.tsu.gov := by induction l generalizing s <;> simp_all

@[simp] theorem foldl_tsu_cnt {α : Type} (l : List α) (f : State → α → State) (s : State) (h : ∀ s a, (f s a).tsu.cnt = s.tsu.cnt) :
    (l.foldl f s).tsu.cnt = s.tsu.cnt := by induction l generalizing s <;> simp_all

@[simp] theorem foldl_tsu_cfg {α : Type} (l : List α) (f : State → α → State) (s : State) (h : ∀ s a, (f s a).tsu.cfg = s.tsu.cfg) :
    (l.foldl f s).tsu.cfg = s.tsu.cfg := by induction l generalizing s <;> simp_all

@[simp] theorem foldl_tsu_cfg_lcState {α : Type} (l : List α) (f : State → α → State) (s : State) (h : ∀ s a, (f s a).tsu.cfg.lcState = s.tsu.cfg.lcState) :
    (l.foldl f s).tsu.cfg.lcState = s.tsu.cfg.lcState := by induction l generalizing s <;> simp_all

@[simp] theorem foldl_tsu_cfg_lcRows {α : Type} (l : List α) (f : State → α → State) (s : State) (h : ∀ s a, (f s a).tsu.cfg.lcRows = s.tsu.cfg.lcRows) :
    (l.foldl f s).tsu.cfg.lcRows = s.tsu.cfg.lcRows := by induction l generalizing s <;> simp_all

@[simp] theorem foldl_tsu_cycs {α : Type} (l : List α) (f : State → α → State) (s : State) (h : ∀ s a, (f s a).tsu.cycs = s.tsu.cycs) :
    (l.foldl f s).tsu.cycs = s.tsu.cycs := by induction l generalizing s <;> simp_all

@[simp] theorem foldl_phi_time {α : Type} (l : List α) (f : State → α → State) (s : State) (h : ∀ s a, (f s a).phi.time = s.phi.time) :
    (l.foldl f s).phi.time = s.phi.time := by induction l generalizing s <;> simp_all

@[simp] theorem foldl_phi_time_acc {α : Type} (l : List α) (f : State → α → State) (s : State) (h : ∀ s a, (f s a).phi.time.acc = s.phi.time.acc) :
    (l.foldl f s).phi.time.acc = s.phi.time.acc := by induction l generalizing s <;> simp_all

@[simp] theorem foldl_phi_time_state {α : Type} (l : List α) (f : State → α → State) (s : State) (h : ∀ s a, (f s a).phi.time.state = s.phi.time.state) :
    (l.foldl f s).phi.time.state = s.phi.time.state := by induction l generalizing s <;> simp_all

@[simp] theorem foldl_phi_ports {α : Type} (l : List α) (f : State → α → State) (s : State) (h : ∀ s a, (f s a).phi.ports = s.phi.ports) :
    (l.foldl f s).phi.ports = s.phi.ports := by induction l generalizing s <;> simp_all

@[simp] theorem foldl_phi_torn {α : Type} (l : List α) (f : State → α → State) (s : State) (h : ∀ s a, (f s a).phi.torn = s.phi.torn) :
    (l.foldl f s).phi.torn = s.phi.torn := by induction l generalizing s <;> simp_all

@[simp] theorem foldl_phi_keys {α : Type} (l : List α) (f : State → α → State) (s : State) (h : ∀ s a, (f s a).phi.keys = s.phi.keys) :
    (l.foldl f s).phi.keys = s.phi.keys := by induction l generalizing s <;> simp_all

@[simp] theorem foldl_phi_relKeys {α : Type} (l : List α) (f : State → α → State) (s : State) (h : ∀ s a, (f s a).phi.relKeys = s.phi.relKeys) :
    (l.foldl f s).phi.relKeys = s.phi.relKeys := by induction l generalizing s <;> simp_all

@[simp] theorem foldl_phi_tdc {α : Type} (l : List α) (f : State → α → State) (s : State) (h : ∀ s a, (f s a).phi.tdc = s.phi.tdc) :
    (l.foldl f s).phi.tdc = s.phi.tdc := by induction l generalizing s <;> simp_all

@[simp] theorem foldl_phi_clk {α : Type} (l : List α) (f : State → α → State) (s : State) (h : ∀ s a, (f s a).phi.clk = s.phi.clk) :
    (l.foldl f s).phi.clk = s.phi.clk := by induction l generalizing s <;> simp_all

@[simp] theorem foldl_phi_rings {α : Type} (l : List α) (f : State → α → State) (s : State) (h : ∀ s a, (f s a).phi.rings = s.phi.rings) :
    (l.foldl f s).phi.rings = s.phi.rings := by induction l generalizing s <;> simp_all

@[simp] theorem foldl_phi_page {α : Type} (l : List α) (f : State → α → State) (s : State) (h : ∀ s a, (f s a).phi.page = s.phi.page) :
    (l.foldl f s).phi.page = s.phi.page := by induction l generalizing s <;> simp_all

@[simp] theorem foldl_phi_flt {α : Type} (l : List α) (f : State → α → State) (s : State) (h : ∀ s a, (f s a).phi.flt = s.phi.flt) :
    (l.foldl f s).phi.flt = s.phi.flt := by induction l generalizing s <;> simp_all

@[simp] theorem foldl_phi_units {α : Type} (l : List α) (f : State → α → State) (s : State) (h : ∀ s a, (f s a).phi.units = s.phi.units) :
    (l.foldl f s).phi.units = s.phi.units := by induction l generalizing s <;> simp_all

@[simp] theorem foldl_phi_engines {α : Type} (l : List α) (f : State → α → State) (s : State) (h : ∀ s a, (f s a).phi.engines = s.phi.engines) :
    (l.foldl f s).phi.engines = s.phi.engines := by induction l generalizing s <;> simp_all

@[simp] theorem foldl_phi_gov {α : Type} (l : List α) (f : State → α → State) (s : State) (h : ∀ s a, (f s a).phi.gov = s.phi.gov) :
    (l.foldl f s).phi.gov = s.phi.gov := by induction l generalizing s <;> simp_all

@[simp] theorem foldl_phi_cnt {α : Type} (l : List α) (f : State → α → State) (s : State) (h : ∀ s a, (f s a).phi.cnt = s.phi.cnt) :
    (l.foldl f s).phi.cnt = s.phi.cnt := by induction l generalizing s <;> simp_all

@[simp] theorem foldl_phi_cfg {α : Type} (l : List α) (f : State → α → State) (s : State) (h : ∀ s a, (f s a).phi.cfg = s.phi.cfg) :
    (l.foldl f s).phi.cfg = s.phi.cfg := by induction l generalizing s <;> simp_all

@[simp] theorem foldl_phi_cfg_lcState {α : Type} (l : List α) (f : State → α → State) (s : State) (h : ∀ s a, (f s a).phi.cfg.lcState = s.phi.cfg.lcState) :
    (l.foldl f s).phi.cfg.lcState = s.phi.cfg.lcState := by induction l generalizing s <;> simp_all

@[simp] theorem foldl_phi_cfg_lcRows {α : Type} (l : List α) (f : State → α → State) (s : State) (h : ∀ s a, (f s a).phi.cfg.lcRows = s.phi.cfg.lcRows) :
    (l.foldl f s).phi.cfg.lcRows = s.phi.cfg.lcRows := by induction l generalizing s <;> simp_all

@[simp] theorem foldl_phi_cycs {α : Type} (l : List α) (f : State → α → State) (s : State) (h : ∀ s a, (f s a).phi.cycs = s.phi.cycs) :
    (l.foldl f s).phi.cycs = s.phi.cycs := by induction l generalizing s <;> simp_all

@[simp] theorem foldl_hub_storage {α : Type} (l : List α) (f : State → α → State) (s : State) (h : ∀ s a, (f s a).hub.storage = s.hub.storage) :
    (l.foldl f s).hub.storage = s.hub.storage := by induction l generalizing s <;> simp_all

@[simp] theorem foldl_hub_fw_state {α : Type} (l : List α) (f : State → α → State) (s : State) (h : ∀ s a, (f s a).hub.fw.state = s.hub.fw.state) :
    (l.foldl f s).hub.fw.state = s.hub.fw.state := by induction l generalizing s <;> simp_all

@[simp] theorem foldl_hub_pairs {α : Type} (l : List α) (f : State → α → State) (s : State) (h : ∀ s a, (f s a).hub.pairs = s.hub.pairs) :
    (l.foldl f s).hub.pairs = s.hub.pairs := by induction l generalizing s <;> simp_all

@[simp] theorem foldl_hub_led {α : Type} (l : List α) (f : State → α → State) (s : State) (h : ∀ s a, (f s a).hub.led = s.hub.led) :
    (l.foldl f s).hub.led = s.hub.led := by induction l generalizing s <;> simp_all

@[simp] theorem foldl_hub_seqs {α : Type} (l : List α) (f : State → α → State) (s : State) (h : ∀ s a, (f s a).hub.seqs = s.hub.seqs) :
    (l.foldl f s).hub.seqs = s.hub.seqs := by induction l generalizing s <;> simp_all

@[simp] theorem foldl_die_sync {α : Type} (l : List α) (f : State → α → State) (s : State) (h : ∀ s a, (f s a).die.sync = s.die.sync) :
    (l.foldl f s).die.sync = s.die.sync := by induction l generalizing s <;> simp_all

@[simp] theorem foldl_die_launches {α : Type} (l : List α) (f : State → α → State) (s : State) (h : ∀ s a, (f s a).die.launches = s.die.launches) :
    (l.foldl f s).die.launches = s.die.launches := by induction l generalizing s <;> simp_all

@[simp] theorem foldl_die_dig {α : Type} (l : List α) (f : State → α → State) (s : State) (h : ∀ s a, (f s a).die.dig = s.die.dig) :
    (l.foldl f s).die.dig = s.die.dig := by induction l generalizing s <;> simp_all

@[simp] theorem foldl_die_binds {α : Type} (l : List α) (f : State → α → State) (s : State) (h : ∀ s a, (f s a).die.binds = s.die.binds) :
    (l.foldl f s).die.binds = s.die.binds := by induction l generalizing s <;> simp_all

@[simp] theorem foldl_die_coreEn {α : Type} (l : List α) (f : State → α → State) (s : State) (h : ∀ s a, (f s a).die.coreEn = s.die.coreEn) :
    (l.foldl f s).die.coreEn = s.die.coreEn := by induction l generalizing s <;> simp_all

end Sys2Proof.Machine
end

