-- ==== Sys2Proof/Laws/Ops.lean ====
section
/-!
SUPPORT. What the operations and meanings of Machine/Ops.lean leave unchanged.
-/

namespace Sys2Proof.Machine

@[simp] theorem State.emit_keeps (s : State) (o : Out) :
    (State.emit s o).pending = s.pending ∧ (State.emit s o).cyc = s.cyc ∧ (State.emit s o).freeNext = s.freeNext
    ∧ (State.emit s o).mdl = s.mdl ∧ (State.emit s o).meter = s.meter ∧ (State.emit s o).die = s.die
    ∧ (State.emit s o).hub = s.hub ∧ (State.emit s o).tsu = s.tsu ∧ (State.emit s o).phi = s.phi := by
  refine ⟨?_, ?_, ?_, ?_, ?_, ?_, ?_, ?_, ?_⟩ <;> first | (simp [State.emit]; done)

@[simp] theorem State.raiseIrq_keeps (s : State) (p : Part) (v : Nat) :
    (State.raiseIrq s p v).pending = s.pending ∧ (State.raiseIrq s p v).cyc = s.cyc
    ∧ (State.raiseIrq s p v).freeNext = s.freeNext ∧ (State.raiseIrq s p v).mdl = s.mdl
    ∧ (State.raiseIrq s p v).meter = s.meter ∧ (State.raiseIrq s p v).die = s.die
    ∧ (State.raiseIrq s p v).tsu = s.tsu ∧ (State.raiseIrq s p v).phi = s.phi
    ∧ (State.raiseIrq s p v).hub.storage = s.hub.storage ∧ (State.raiseIrq s p v).hub.fw.state = s.hub.fw.state
    ∧ (State.raiseIrq s p v).hub.pairs = s.hub.pairs ∧ (State.raiseIrq s p v).hub.led = s.hub.led
    ∧ (State.raiseIrq s p v).hub.seqs = s.hub.seqs := by
  simp only [State.raiseIrq] <;> (repeat' split) <;> first | (simp; done) | (simp [*]; done) | (refine ⟨?_, ?_, ?_, ?_, ?_, ?_, ?_, ?_, ?_, ?_, ?_, ?_, ?_⟩ <;> first | rfl | (simp; done) | (simp [*]; done))

@[simp] theorem State.raiseIrq_keeps_tsu (s : State) (v : Nat) :
    (State.raiseIrq s .tsu v).hub = s.hub := by simp [State.raiseIrq]

@[simp] theorem State.dma_keeps (s : State) (p : Part) (addr : Nat) (data : List Byte) :
    (State.dma s p addr data).pending = s.pending ∧ (State.dma s p addr data).cyc = s.cyc
    ∧ (State.dma s p addr data).freeNext = s.freeNext ∧ (State.dma s p addr data).mdl = s.mdl
    ∧ (State.dma s p addr data).meter = s.meter ∧ (State.dma s p addr data).die = s.die := by
  refine ⟨?_, ?_, ?_, ?_, ?_, ?_⟩ <;> first | (induction data generalizing s <;> simp_all [State.dma]; done)

@[simp] theorem State.dma_keeps2 (s : State) (p : Part) (addr : Nat) (data : List Byte) :
    (State.dma s p addr data).hub = s.hub ∧ (State.dma s p addr data).tsu = s.tsu
    ∧ (State.dma s p addr data).phi = s.phi := by
  refine ⟨?_, ?_, ?_⟩ <;> first | (induction data generalizing s <;> simp_all [State.dma]; done)

@[simp] theorem State.dmaOrdered_keeps (s : State) (p : Part) (addr : Nat) (k : Nat) (data : List Byte) :
    (State.dmaOrdered s p addr k data).pending = s.pending ∧ (State.dmaOrdered s p addr k data).cyc = s.cyc
    ∧ (State.dmaOrdered s p addr k data).freeNext = s.freeNext ∧ (State.dmaOrdered s p addr k data).mdl = s.mdl
    ∧ (State.dmaOrdered s p addr k data).meter = s.meter ∧ (State.dmaOrdered s p addr k data).die = s.die
    ∧ (State.dmaOrdered s p addr k data).hub = s.hub ∧ (State.dmaOrdered s p addr k data).tsu = s.tsu
    ∧ (State.dmaOrdered s p addr k data).phi = s.phi := by
  refine ⟨?_, ?_, ?_, ?_, ?_, ?_, ?_, ?_, ?_⟩ <;> first | (simp [State.dmaOrdered]; done)

@[simp] theorem State.takeFree_keeps (s : State) :
    ((State.takeFree s).2).pending = s.pending ∧ ((State.takeFree s).2).cyc = s.cyc ∧ ((State.takeFree s).2).out = s.out
    ∧ ((State.takeFree s).2).mdl = s.mdl ∧ ((State.takeFree s).2).meter = s.meter
    ∧ ((State.takeFree s).2).die = s.die ∧ ((State.takeFree s).2).hub = s.hub ∧ ((State.takeFree s).2).tsu = s.tsu
    ∧ ((State.takeFree s).2).phi = s.phi := by
  refine ⟨?_, ?_, ?_, ?_, ?_, ?_, ?_, ?_, ?_⟩ <;> first | (simp [State.takeFree]; done)

@[simp] theorem State.count_keeps (s : State) (p : Part) (event : Nat) (inst : Nat) (n : Nat) :
    (State.count s p event inst n).pending = s.pending ∧ (State.count s p event inst n).cyc = s.cyc
    ∧ (State.count s p event inst n).freeNext = s.freeNext ∧ (State.count s p event inst n).out = s.out
    ∧ (State.count s p event inst n).mdl = s.mdl ∧ (State.count s p event inst n).meter = s.meter
    ∧ (State.count s p event inst n).die = s.die ∧ (State.count s p event inst n).hub = s.hub
    ∧ (State.count s p event inst n).tsu.time = s.tsu.time ∧ (State.count s p event inst n).tsu.ports = s.tsu.ports
    ∧ (State.count s p event inst n).tsu.torn = s.tsu.torn ∧ (State.count s p event inst n).tsu.keys = s.tsu.keys
    ∧ (State.count s p event inst n).tsu.relKeys = s.tsu.relKeys
    ∧ (State.count s p event inst n).tsu.tdc = s.tsu.tdc ∧ (State.count s p event inst n).tsu.clk = s.tsu.clk
    ∧ (State.count s p event inst n).tsu.rings = s.tsu.rings ∧ (State.count s p event inst n).tsu.page = s.tsu.page
    ∧ (State.count s p event inst n).tsu.flt = s.tsu.flt ∧ (State.count s p event inst n).tsu.units = s.tsu.units
    ∧ (State.count s p event inst n).tsu.engines = s.tsu.engines
    ∧ (State.count s p event inst n).tsu.gov = s.tsu.gov ∧ (State.count s p event inst n).tsu.cfg = s.tsu.cfg
    ∧ (State.count s p event inst n).tsu.cycs = s.tsu.cycs ∧ (State.count s p event inst n).phi.time = s.phi.time
    ∧ (State.count s p event inst n).phi.ports = s.phi.ports ∧ (State.count s p event inst n).phi.torn = s.phi.torn
    ∧ (State.count s p event inst n).phi.keys = s.phi.keys
    ∧ (State.count s p event inst n).phi.relKeys = s.phi.relKeys
    ∧ (State.count s p event inst n).phi.tdc = s.phi.tdc ∧ (State.count s p event inst n).phi.clk = s.phi.clk
    ∧ (State.count s p event inst n).phi.rings = s.phi.rings ∧ (State.count s p event inst n).phi.page = s.phi.page
    ∧ (State.count s p event inst n).phi.flt = s.phi.flt ∧ (State.count s p event inst n).phi.units = s.phi.units
    ∧ (State.count s p event inst n).phi.engines = s.phi.engines
    ∧ (State.count s p event inst n).phi.gov = s.phi.gov ∧ (State.count s p event inst n).phi.cfg = s.phi.cfg
    ∧ (State.count s p event inst n).phi.cycs = s.phi.cycs := by
  refine ⟨?_, ?_, ?_, ?_, ?_, ?_, ?_, ?_, ?_, ?_, ?_, ?_, ?_, ?_, ?_, ?_, ?_, ?_, ?_, ?_, ?_, ?_, ?_, ?_, ?_, ?_, ?_, ?_, ?_, ?_, ?_, ?_, ?_, ?_, ?_, ?_, ?_, ?_⟩ <;> first | (simp [State.count]; done)

@[simp] theorem State.count_keeps_tsu (s : State) (event : Nat) (inst : Nat) (n : Nat) :
    (State.count s .tsu event inst n).phi = s.phi := by simp [State.count]

@[simp] theorem State.count_keeps_phi (s : State) (event : Nat) (inst : Nat) (n : Nat) :
    (State.count s .phi event inst n).tsu = s.tsu := by simp [State.count]

@[simp] theorem State.take_keeps (s : State) (p : Part) (n : Nat) :
    (State.take s p n).pending = s.pending ∧ (State.take s p n).cyc = s.cyc ∧ (State.take s p n).freeNext = s.freeNext
    ∧ (State.take s p n).out = s.out ∧ (State.take s p n).mdl = s.mdl ∧ (State.take s p n).meter = s.meter
    ∧ (State.take s p n).die = s.die ∧ (State.take s p n).hub = s.hub ∧ (State.take s p n).tsu.time = s.tsu.time
    ∧ (State.take s p n).tsu.ports = s.tsu.ports ∧ (State.take s p n).tsu.torn = s.tsu.torn
    ∧ (State.take s p n).tsu.keys = s.tsu.keys ∧ (State.take s p n).tsu.relKeys = s.tsu.relKeys
    ∧ (State.take s p n).tsu.tdc = s.tsu.tdc ∧ (State.take s p n).tsu.clk = s.tsu.clk
    ∧ (State.take s p n).tsu.rings = s.tsu.rings ∧ (State.take s p n).tsu.page = s.tsu.page
    ∧ (State.take s p n).tsu.flt = s.tsu.flt ∧ (State.take s p n).tsu.units = s.tsu.units
    ∧ (State.take s p n).tsu.engines = s.tsu.engines ∧ (State.take s p n).tsu.gov = s.tsu.gov
    ∧ (State.take s p n).tsu.cnt = s.tsu.cnt ∧ (State.take s p n).tsu.cfg = s.tsu.cfg
    ∧ (State.take s p n).tsu.cycs = s.tsu.cycs ∧ (State.take s p n).phi.time = s.phi.time
    ∧ (State.take s p n).phi.ports = s.phi.ports ∧ (State.take s p n).phi.torn = s.phi.torn
    ∧ (State.take s p n).phi.keys = s.phi.keys ∧ (State.take s p n).phi.relKeys = s.phi.relKeys
    ∧ (State.take s p n).phi.tdc = s.phi.tdc ∧ (State.take s p n).phi.clk = s.phi.clk
    ∧ (State.take s p n).phi.rings = s.phi.rings ∧ (State.take s p n).phi.page = s.phi.page
    ∧ (State.take s p n).phi.flt = s.phi.flt ∧ (State.take s p n).phi.units = s.phi.units
    ∧ (State.take s p n).phi.engines = s.phi.engines ∧ (State.take s p n).phi.gov = s.phi.gov
    ∧ (State.take s p n).phi.cnt = s.phi.cnt ∧ (State.take s p n).phi.cfg = s.phi.cfg
    ∧ (State.take s p n).phi.cycs = s.phi.cycs := by
  refine ⟨?_, ?_, ?_, ?_, ?_, ?_, ?_, ?_, ?_, ?_, ?_, ?_, ?_, ?_, ?_, ?_, ?_, ?_, ?_, ?_, ?_, ?_, ?_, ?_, ?_, ?_, ?_, ?_, ?_, ?_, ?_, ?_, ?_, ?_, ?_, ?_, ?_, ?_, ?_, ?_⟩ <;> first | (simp [State.take]; done)

@[simp] theorem State.take_keeps_tsu (s : State) (n : Nat) :
    (State.take s .tsu n).phi = s.phi := by simp [State.take]

@[simp] theorem State.take_keeps_phi (s : State) (n : Nat) :
    (State.take s .phi n).tsu = s.tsu := by simp [State.take]

@[simp] theorem State.hubUpd_keeps (s : State) (f : HubSt → HubSt) :
    (State.hubUpd s f).pending = s.pending ∧ (State.hubUpd s f).cyc = s.cyc ∧ (State.hubUpd s f).freeNext = s.freeNext
    ∧ (State.hubUpd s f).out = s.out ∧ (State.hubUpd s f).mdl = s.mdl ∧ (State.hubUpd s f).meter = s.meter
    ∧ (State.hubUpd s f).die = s.die ∧ (State.hubUpd s f).tsu = s.tsu ∧ (State.hubUpd s f).phi = s.phi := by
  refine ⟨?_, ?_, ?_, ?_, ?_, ?_, ?_, ?_, ?_⟩ <;> first | (simp [State.hubUpd]; done)

@[simp] theorem State.hubUpd_storage (s : State) (f : HubSt → HubSt) (h : ∀ t, (f t).storage = t.storage) :
    (s.hubUpd f).hub.storage = s.hub.storage := by simp [State.hubUpd, h]

@[simp] theorem State.hubUpd_fw_state (s : State) (f : HubSt → HubSt) (h : ∀ t, (f t).fw.state = t.fw.state) :
    (s.hubUpd f).hub.fw.state = s.hub.fw.state := by simp [State.hubUpd, h]

@[simp] theorem State.hubUpd_pairs (s : State) (f : HubSt → HubSt) (h : ∀ t, (f t).pairs = t.pairs) :
    (s.hubUpd f).hub.pairs = s.hub.pairs := by simp [State.hubUpd, h]

@[simp] theorem State.hubUpd_led (s : State) (f : HubSt → HubSt) (h : ∀ t, (f t).led = t.led) :
    (s.hubUpd f).hub.led = s.hub.led := by simp [State.hubUpd, h]

@[simp] theorem State.hubUpd_seqs (s : State) (f : HubSt → HubSt) (h : ∀ t, (f t).seqs = t.seqs) :
    (s.hubUpd f).hub.seqs = s.hub.seqs := by simp [State.hubUpd, h]

@[simp] theorem State.beats_keeps (s : State) (pkg : Nat) (n : Nat) :
    (State.beats s pkg n).pending = s.pending ∧ (State.beats s pkg n).cyc = s.cyc
    ∧ (State.beats s pkg n).freeNext = s.freeNext ∧ (State.beats s pkg n).out = s.out
    ∧ (State.beats s pkg n).mdl = s.mdl ∧ (State.beats s pkg n).meter = s.meter ∧ (State.beats s pkg n).die = s.die
    ∧ (State.beats s pkg n).hub = s.hub ∧ (State.beats s pkg n).tsu = s.tsu
    ∧ (State.beats s pkg n).phi.time = s.phi.time ∧ (State.beats s pkg n).phi.ports = s.phi.ports
    ∧ (State.beats s pkg n).phi.torn = s.phi.torn ∧ (State.beats s pkg n).phi.keys = s.phi.keys
    ∧ (State.beats s pkg n).phi.relKeys = s.phi.relKeys ∧ (State.beats s pkg n).phi.tdc = s.phi.tdc
    ∧ (State.beats s pkg n).phi.clk = s.phi.clk ∧ (State.beats s pkg n).phi.rings = s.phi.rings
    ∧ (State.beats s pkg n).phi.page = s.phi.page ∧ (State.beats s pkg n).phi.flt = s.phi.flt
    ∧ (State.beats s pkg n).phi.units = s.phi.units ∧ (State.beats s pkg n).phi.engines = s.phi.engines
    ∧ (State.beats s pkg n).phi.gov = s.phi.gov ∧ (State.beats s pkg n).phi.cfg = s.phi.cfg
    ∧ (State.beats s pkg n).phi.cycs = s.phi.cycs := by
  refine ⟨?_, ?_, ?_, ?_, ?_, ?_, ?_, ?_, ?_, ?_, ?_, ?_, ?_, ?_, ?_, ?_, ?_, ?_, ?_, ?_, ?_, ?_, ?_, ?_⟩ <;> first | (simp [State.beats]; done)

@[simp] theorem State.readPair_keeps (s : State) (pair : Nat) (n : Nat) :
    (State.readPair s pair n).pending = s.pending ∧ (State.readPair s pair n).cyc = s.cyc
    ∧ (State.readPair s pair n).freeNext = s.freeNext ∧ (State.readPair s pair n).out = s.out
    ∧ (State.readPair s pair n).mdl = s.mdl ∧ (State.readPair s pair n).meter = s.meter
    ∧ (State.readPair s pair n).die = s.die ∧ (State.readPair s pair n).hub = s.hub
    ∧ (State.readPair s pair n).tsu = s.tsu ∧ (State.readPair s pair n).phi.time = s.phi.time
    ∧ (State.readPair s pair n).phi.ports = s.phi.ports ∧ (State.readPair s pair n).phi.torn = s.phi.torn
    ∧ (State.readPair s pair n).phi.keys = s.phi.keys ∧ (State.readPair s pair n).phi.relKeys = s.phi.relKeys
    ∧ (State.readPair s pair n).phi.tdc = s.phi.tdc ∧ (State.readPair s pair n).phi.clk = s.phi.clk
    ∧ (State.readPair s pair n).phi.rings = s.phi.rings ∧ (State.readPair s pair n).phi.page = s.phi.page
    ∧ (State.readPair s pair n).phi.flt = s.phi.flt ∧ (State.readPair s pair n).phi.units = s.phi.units
    ∧ (State.readPair s pair n).phi.engines = s.phi.engines ∧ (State.readPair s pair n).phi.gov = s.phi.gov
    ∧ (State.readPair s pair n).phi.cfg = s.phi.cfg ∧ (State.readPair s pair n).phi.cycs = s.phi.cycs := by
  simp only [State.readPair] <;> (repeat' split) <;> first | (simp; done) | (simp [*]; done) | (refine ⟨?_, ?_, ?_, ?_, ?_, ?_, ?_, ?_, ?_, ?_, ?_, ?_, ?_, ?_, ?_, ?_, ?_, ?_, ?_, ?_, ?_, ?_, ?_, ?_⟩ <;> first | rfl | (simp; done) | (simp [*]; done))

@[simp] theorem State.noteSet_keeps (s : State) (p : Part) (b : W1c) :
    (State.noteSet s p b).pending = s.pending ∧ (State.noteSet s p b).cyc = s.cyc
    ∧ (State.noteSet s p b).freeNext = s.freeNext ∧ (State.noteSet s p b).out = s.out
    ∧ (State.noteSet s p b).mdl = s.mdl ∧ (State.noteSet s p b).meter = s.meter ∧ (State.noteSet s p b).die = s.die
    ∧ (State.noteSet s p b).hub = s.hub ∧ (State.noteSet s p b).tsu.time = s.tsu.time
    ∧ (State.noteSet s p b).tsu.ports = s.tsu.ports ∧ (State.noteSet s p b).tsu.torn = s.tsu.torn
    ∧ (State.noteSet s p b).tsu.keys = s.tsu.keys ∧ (State.noteSet s p b).tsu.relKeys = s.tsu.relKeys
    ∧ (State.noteSet s p b).tsu.tdc = s.tsu.tdc ∧ (State.noteSet s p b).tsu.clk = s.tsu.clk
    ∧ (State.noteSet s p b).tsu.rings = s.tsu.rings ∧ (State.noteSet s p b).tsu.page = s.tsu.page
    ∧ (State.noteSet s p b).tsu.flt = s.tsu.flt ∧ (State.noteSet s p b).tsu.units = s.tsu.units
    ∧ (State.noteSet s p b).tsu.engines = s.tsu.engines ∧ (State.noteSet s p b).tsu.gov = s.tsu.gov
    ∧ (State.noteSet s p b).tsu.cnt = s.tsu.cnt ∧ (State.noteSet s p b).tsu.cfg = s.tsu.cfg
    ∧ (State.noteSet s p b).phi.time = s.phi.time ∧ (State.noteSet s p b).phi.ports = s.phi.ports
    ∧ (State.noteSet s p b).phi.torn = s.phi.torn ∧ (State.noteSet s p b).phi.keys = s.phi.keys
    ∧ (State.noteSet s p b).phi.relKeys = s.phi.relKeys ∧ (State.noteSet s p b).phi.tdc = s.phi.tdc
    ∧ (State.noteSet s p b).phi.clk = s.phi.clk ∧ (State.noteSet s p b).phi.rings = s.phi.rings
    ∧ (State.noteSet s p b).phi.page = s.phi.page ∧ (State.noteSet s p b).phi.flt = s.phi.flt
    ∧ (State.noteSet s p b).phi.units = s.phi.units ∧ (State.noteSet s p b).phi.engines = s.phi.engines
    ∧ (State.noteSet s p b).phi.gov = s.phi.gov ∧ (State.noteSet s p b).phi.cnt = s.phi.cnt
    ∧ (State.noteSet s p b).phi.cfg = s.phi.cfg := by
  refine ⟨?_, ?_, ?_, ?_, ?_, ?_, ?_, ?_, ?_, ?_, ?_, ?_, ?_, ?_, ?_, ?_, ?_, ?_, ?_, ?_, ?_, ?_, ?_, ?_, ?_, ?_, ?_, ?_, ?_, ?_, ?_, ?_, ?_, ?_, ?_, ?_, ?_, ?_⟩ <;> first | (simp [State.noteSet]; done)

@[simp] theorem State.noteSet_keeps_tsu (s : State) (b : W1c) :
    (State.noteSet s .tsu b).phi = s.phi := by simp [State.noteSet]

@[simp] theorem State.noteSet_keeps_phi (s : State) (b : W1c) :
    (State.noteSet s .phi b).tsu = s.tsu := by simp [State.noteSet]

@[simp] theorem State.accessError_keeps (s : State) (p : Part) :
    (State.accessError s p).pending = s.pending ∧ (State.accessError s p).cyc = s.cyc
    ∧ (State.accessError s p).freeNext = s.freeNext ∧ (State.accessError s p).out = s.out
    ∧ (State.accessError s p).mdl = s.mdl ∧ (State.accessError s p).meter = s.meter
    ∧ (State.accessError s p).die = s.die ∧ (State.accessError s p).hub = s.hub
    ∧ (State.accessError s p).tsu.time = s.tsu.time ∧ (State.accessError s p).tsu.ports = s.tsu.ports
    ∧ (State.accessError s p).tsu.torn = s.tsu.torn ∧ (State.accessError s p).tsu.keys = s.tsu.keys
    ∧ (State.accessError s p).tsu.relKeys = s.tsu.relKeys ∧ (State.accessError s p).tsu.tdc = s.tsu.tdc
    ∧ (State.accessError s p).tsu.clk = s.tsu.clk ∧ (State.accessError s p).tsu.rings = s.tsu.rings
    ∧ (State.accessError s p).tsu.page = s.tsu.page ∧ (State.accessError s p).tsu.flt = s.tsu.flt
    ∧ (State.accessError s p).tsu.units = s.tsu.units ∧ (State.accessError s p).tsu.engines = s.tsu.engines
    ∧ (State.accessError s p).tsu.gov = s.tsu.gov ∧ (State.accessError s p).tsu.cnt = s.tsu.cnt
    ∧ (State.accessError s p).tsu.cfg.lcState = s.tsu.cfg.lcState
    ∧ (State.accessError s p).tsu.cfg.lcRows = s.tsu.cfg.lcRows ∧ (State.accessError s p).phi.time = s.phi.time
    ∧ (State.accessError s p).phi.ports = s.phi.ports ∧ (State.accessError s p).phi.torn = s.phi.torn
    ∧ (State.accessError s p).phi.keys = s.phi.keys ∧ (State.accessError s p).phi.relKeys = s.phi.relKeys
    ∧ (State.accessError s p).phi.tdc = s.phi.tdc ∧ (State.accessError s p).phi.clk = s.phi.clk
    ∧ (State.accessError s p).phi.rings = s.phi.rings ∧ (State.accessError s p).phi.page = s.phi.page
    ∧ (State.accessError s p).phi.flt = s.phi.flt ∧ (State.accessError s p).phi.units = s.phi.units
    ∧ (State.accessError s p).phi.engines = s.phi.engines ∧ (State.accessError s p).phi.gov = s.phi.gov
    ∧ (State.accessError s p).phi.cnt = s.phi.cnt ∧ (State.accessError s p).phi.cfg.lcState = s.phi.cfg.lcState
    ∧ (State.accessError s p).phi.cfg.lcRows = s.phi.cfg.lcRows := by
  refine ⟨?_, ?_, ?_, ?_, ?_, ?_, ?_, ?_, ?_, ?_, ?_, ?_, ?_, ?_, ?_, ?_, ?_, ?_, ?_, ?_, ?_, ?_, ?_, ?_, ?_, ?_, ?_, ?_, ?_, ?_, ?_, ?_, ?_, ?_, ?_, ?_, ?_, ?_, ?_, ?_⟩ <;> first | (simp [State.accessError]; done)

@[simp] theorem State.accessError_keeps_tsu (s : State) :
    (State.accessError s .tsu).phi = s.phi := by simp [State.accessError]

@[simp] theorem State.accessError_keeps_phi (s : State) :
    (State.accessError s .phi).tsu = s.tsu := by simp [State.accessError]

@[simp] theorem State.journalRec_keeps (s : State) (body : List Byte) :
    (State.journalRec s body).pending = s.pending ∧ (State.journalRec s body).cyc = s.cyc
    ∧ (State.journalRec s body).freeNext = s.freeNext ∧ (State.journalRec s body).out = s.out
    ∧ (State.journalRec s body).mdl = s.mdl ∧ (State.journalRec s body).meter = s.meter
    ∧ (State.journalRec s body).die = s.die ∧ (State.journalRec s body).tsu = s.tsu
    ∧ (State.journalRec s body).phi = s.phi ∧ (State.journalRec s body).hub.storage = s.hub.storage
    ∧ (State.journalRec s body).hub.fw.state = s.hub.fw.state ∧ (State.journalRec s body).hub.pairs = s.hub.pairs
    ∧ (State.journalRec s body).hub.led = s.hub.led ∧ (State.journalRec s body).hub.seqs = s.hub.seqs := by
  refine ⟨?_, ?_, ?_, ?_, ?_, ?_, ?_, ?_, ?_, ?_, ?_, ?_, ?_, ?_⟩ <;> first | (simp [State.journalRec]; done)

@[simp] theorem State.compact_keeps (s : State) :
    (State.compact s).pending = s.pending ∧ (State.compact s).cyc = s.cyc ∧ (State.compact s).freeNext = s.freeNext
    ∧ (State.compact s).out = s.out ∧ (State.compact s).mdl = s.mdl ∧ (State.compact s).meter = s.meter
    ∧ (State.compact s).die = s.die ∧ (State.compact s).tsu = s.tsu ∧ (State.compact s).phi = s.phi
    ∧ (State.compact s).hub.storage = s.hub.storage ∧ (State.compact s).hub.fw.state = s.hub.fw.state
    ∧ (State.compact s).hub.pairs = s.hub.pairs ∧ (State.compact s).hub.led = s.hub.led
    ∧ (State.compact s).hub.seqs = s.hub.seqs := by
  refine ⟨?_, ?_, ?_, ?_, ?_, ?_, ?_, ?_, ?_, ?_, ?_, ?_, ?_, ?_⟩ <;> first | (simp [State.compact]; done)

@[simp] theorem State.fwEntry_keeps (s : State) (core : Nat) (level : Nat) (kind : Nat) (role : Nat) (code : Nat) (arg0 : Nat) (args : List Nat) :
    (State.fwEntry s core level kind role code arg0 args).pending = s.pending
    ∧ (State.fwEntry s core level kind role code arg0 args).cyc = s.cyc
    ∧ (State.fwEntry s core level kind role code arg0 args).freeNext = s.freeNext
    ∧ (State.fwEntry s core level kind role code arg0 args).mdl = s.mdl
    ∧ (State.fwEntry s core level kind role code arg0 args).meter = s.meter
    ∧ (State.fwEntry s core level kind role code arg0 args).die = s.die
    ∧ (State.fwEntry s core level kind role code arg0 args).tsu = s.tsu
    ∧ (State.fwEntry s core level kind role code arg0 args).phi = s.phi
    ∧ (State.fwEntry s core level kind role code arg0 args).hub.storage = s.hub.storage
    ∧ (State.fwEntry s core level kind role code arg0 args).hub.fw.state = s.hub.fw.state
    ∧ (State.fwEntry s core level kind role code arg0 args).hub.pairs = s.hub.pairs
    ∧ (State.fwEntry s core level kind role code arg0 args).hub.led = s.hub.led
    ∧ (State.fwEntry s core level kind role code arg0 args).hub.seqs = s.hub.seqs := by
  refine ⟨?_, ?_, ?_, ?_, ?_, ?_, ?_, ?_, ?_, ?_, ?_, ?_, ?_⟩ <;> first | (simp [State.fwEntry]; done)

@[simp] theorem State.trace_keeps (s : State) (point : Nat) (arg0 : Nat) (arg1 : Nat) (arg2 : Nat) :
    (State.trace s point arg0 arg1 arg2).pending = s.pending ∧ (State.trace s point arg0 arg1 arg2).cyc = s.cyc
    ∧ (State.trace s point arg0 arg1 arg2).mdl = s.mdl ∧ (State.trace s point arg0 arg1 arg2).meter = s.meter
    ∧ (State.trace s point arg0 arg1 arg2).die = s.die ∧ (State.trace s point arg0 arg1 arg2).tsu = s.tsu
    ∧ (State.trace s point arg0 arg1 arg2).phi = s.phi
    ∧ (State.trace s point arg0 arg1 arg2).hub.storage = s.hub.storage
    ∧ (State.trace s point arg0 arg1 arg2).hub.fw.state = s.hub.fw.state
    ∧ (State.trace s point arg0 arg1 arg2).hub.pairs = s.hub.pairs
    ∧ (State.trace s point arg0 arg1 arg2).hub.led = s.hub.led
    ∧ (State.trace s point arg0 arg1 arg2).hub.seqs = s.hub.seqs := by
  refine ⟨?_, ?_, ?_, ?_, ?_, ?_, ?_, ?_, ?_, ?_, ?_, ?_⟩ <;> first | (simp [State.trace]; done)

@[simp] theorem State.traceTrap_keeps (s : State) (off : Nat) (value : Nat) (write : Bool) :
    (State.traceTrap s off value write).pending = s.pending ∧ (State.traceTrap s off value write).cyc = s.cyc
    ∧ (State.traceTrap s off value write).mdl = s.mdl ∧ (State.traceTrap s off value write).meter = s.meter
    ∧ (State.traceTrap s off value write).die = s.die ∧ (State.traceTrap s off value write).tsu = s.tsu
    ∧ (State.traceTrap s off value write).phi = s.phi
    ∧ (State.traceTrap s off value write).hub.storage = s.hub.storage
    ∧ (State.traceTrap s off value write).hub.fw.state = s.hub.fw.state
    ∧ (State.traceTrap s off value write).hub.pairs = s.hub.pairs
    ∧ (State.traceTrap s off value write).hub.led = s.hub.led
    ∧ (State.traceTrap s off value write).hub.seqs = s.hub.seqs := by
  refine ⟨?_, ?_, ?_, ?_, ?_, ?_, ?_, ?_, ?_, ?_, ?_, ?_⟩ <;> first | (simp [State.traceTrap]; done)

@[simp] theorem State.updPort_keeps (s : State) (p : Part) (i : Nat) (f : Port → Port) :
    (State.updPort s p i f).pending = s.pending ∧ (State.updPort s p i f).cyc = s.cyc
    ∧ (State.updPort s p i f).freeNext = s.freeNext ∧ (State.updPort s p i f).out = s.out
    ∧ (State.updPort s p i f).mdl = s.mdl ∧ (State.updPort s p i f).meter = s.meter
    ∧ (State.updPort s p i f).die = s.die ∧ (State.updPort s p i f).hub = s.hub
    ∧ (State.updPort s p i f).tsu.time = s.tsu.time ∧ (State.updPort s p i f).tsu.torn = s.tsu.torn
    ∧ (State.updPort s p i f).tsu.keys = s.tsu.keys ∧ (State.updPort s p i f).tsu.relKeys = s.tsu.relKeys
    ∧ (State.updPort s p i f).tsu.tdc = s.tsu.tdc ∧ (State.updPort s p i f).tsu.clk = s.tsu.clk
    ∧ (State.updPort s p i f).tsu.rings = s.tsu.rings ∧ (State.updPort s p i f).tsu.page = s.tsu.page
    ∧ (State.updPort s p i f).tsu.flt = s.tsu.flt ∧ (State.updPort s p i f).tsu.units = s.tsu.units
    ∧ (State.updPort s p i f).tsu.engines = s.tsu.engines ∧ (State.updPort s p i f).tsu.gov = s.tsu.gov
    ∧ (State.updPort s p i f).tsu.cnt = s.tsu.cnt ∧ (State.updPort s p i f).tsu.cfg = s.tsu.cfg
    ∧ (State.updPort s p i f).tsu.cycs = s.tsu.cycs ∧ (State.updPort s p i f).phi.time = s.phi.time
    ∧ (State.updPort s p i f).phi.torn = s.phi.torn ∧ (State.updPort s p i f).phi.keys = s.phi.keys
    ∧ (State.updPort s p i f).phi.relKeys = s.phi.relKeys ∧ (State.updPort s p i f).phi.tdc = s.phi.tdc
    ∧ (State.updPort s p i f).phi.clk = s.phi.clk ∧ (State.updPort s p i f).phi.rings = s.phi.rings
    ∧ (State.updPort s p i f).phi.page = s.phi.page ∧ (State.updPort s p i f).phi.flt = s.phi.flt
    ∧ (State.updPort s p i f).phi.units = s.phi.units ∧ (State.updPort s p i f).phi.engines = s.phi.engines
    ∧ (State.updPort s p i f).phi.gov = s.phi.gov ∧ (State.updPort s p i f).phi.cnt = s.phi.cnt
    ∧ (State.updPort s p i f).phi.cfg = s.phi.cfg ∧ (State.updPort s p i f).phi.cycs = s.phi.cycs := by
  refine ⟨?_, ?_, ?_, ?_, ?_, ?_, ?_, ?_, ?_, ?_, ?_, ?_, ?_, ?_, ?_, ?_, ?_, ?_, ?_, ?_, ?_, ?_, ?_, ?_, ?_, ?_, ?_, ?_, ?_, ?_, ?_, ?_, ?_, ?_, ?_, ?_, ?_, ?_⟩ <;> first | (simp [State.updPort]; done)

@[simp] theorem State.updPort_keeps_tsu (s : State) (i : Nat) (f : Port → Port) :
    (State.updPort s .tsu i f).phi = s.phi := by simp [State.updPort]

@[simp] theorem State.updPort_keeps_phi (s : State) (i : Nat) (f : Port → Port) :
    (State.updPort s .phi i f).tsu = s.tsu := by simp [State.updPort]

@[simp] theorem State.sendNow_keeps (s : State) (p : Part) (port : Nat) (pl : Payload) :
    (State.sendNow s p port pl).pending = s.pending ∧ (State.sendNow s p port pl).cyc = s.cyc
    ∧ (State.sendNow s p port pl).freeNext = s.freeNext ∧ (State.sendNow s p port pl).mdl = s.mdl
    ∧ (State.sendNow s p port pl).meter = s.meter ∧ (State.sendNow s p port pl).die = s.die
    ∧ (State.sendNow s p port pl).hub = s.hub ∧ (State.sendNow s p port pl).tsu.time = s.tsu.time
    ∧ (State.sendNow s p port pl).tsu.torn = s.tsu.torn ∧ (State.sendNow s p port pl).tsu.keys = s.tsu.keys
    ∧ (State.sendNow s p port pl).tsu.relKeys = s.tsu.relKeys ∧ (State.sendNow s p port pl).tsu.tdc = s.tsu.tdc
    ∧ (State.sendNow s p port pl).tsu.clk = s.tsu.clk ∧ (State.sendNow s p port pl).tsu.rings = s.tsu.rings
    ∧ (State.sendNow s p port pl).tsu.page = s.tsu.page ∧ (State.sendNow s p port pl).tsu.flt = s.tsu.flt
    ∧ (State.sendNow s p port pl).tsu.units = s.tsu.units ∧ (State.sendNow s p port pl).tsu.engines = s.tsu.engines
    ∧ (State.sendNow s p port pl).tsu.gov = s.tsu.gov ∧ (State.sendNow s p port pl).tsu.cfg = s.tsu.cfg
    ∧ (State.sendNow s p port pl).tsu.cycs = s.tsu.cycs ∧ (State.sendNow s p port pl).phi.time = s.phi.time
    ∧ (State.sendNow s p port pl).phi.torn = s.phi.torn ∧ (State.sendNow s p port pl).phi.keys = s.phi.keys
    ∧ (State.sendNow s p port pl).phi.relKeys = s.phi.relKeys ∧ (State.sendNow s p port pl).phi.tdc = s.phi.tdc
    ∧ (State.sendNow s p port pl).phi.clk = s.phi.clk ∧ (State.sendNow s p port pl).phi.rings = s.phi.rings
    ∧ (State.sendNow s p port pl).phi.page = s.phi.page ∧ (State.sendNow s p port pl).phi.flt = s.phi.flt
    ∧ (State.sendNow s p port pl).phi.units = s.phi.units ∧ (State.sendNow s p port pl).phi.engines = s.phi.engines
    ∧ (State.sendNow s p port pl).phi.gov = s.phi.gov ∧ (State.sendNow s p port pl).phi.cfg = s.phi.cfg
    ∧ (State.sendNow s p port pl).phi.cycs = s.phi.cycs := by
  refine ⟨?_, ?_, ?_, ?_, ?_, ?_, ?_, ?_, ?_, ?_, ?_, ?_, ?_, ?_, ?_, ?_, ?_, ?_, ?_, ?_, ?_, ?_, ?_, ?_, ?_, ?_, ?_, ?_, ?_, ?_, ?_, ?_, ?_, ?_, ?_⟩ <;> first | (simp [State.sendNow]; done)

@[simp] theorem State.sendNow_keeps_tsu (s : State) (port : Nat) (pl : Payload) :
    (State.sendNow s .tsu port pl).phi = s.phi := by simp [State.sendNow]

@[simp] theorem State.sendNow_keeps_phi (s : State) (port : Nat) (pl : Payload) :
    (State.sendNow s .phi port pl).tsu = s.tsu := by simp [State.sendNow]

@[simp] theorem State.queueFrame_keeps (s : State) (p : Part) (port : Nat) (basin : BitVec 12) (gen : W16) (pl : Payload) :
    (State.queueFrame s p port basin gen pl).pending = s.pending ∧ (State.queueFrame s p port basin gen pl).cyc = s.cyc
    ∧ (State.queueFrame s p port basin gen pl).freeNext = s.freeNext
    ∧ (State.queueFrame s p port basin gen pl).out = s.out ∧ (State.queueFrame s p port basin gen pl).mdl = s.mdl
    ∧ (State.queueFrame s p port basin gen pl).meter = s.meter
    ∧ (State.queueFrame s p port basin gen pl).die = s.die ∧ (State.queueFrame s p port basin gen pl).hub = s.hub
    ∧ (State.queueFrame s p port basin gen pl).tsu.time = s.tsu.time
    ∧ (State.queueFrame s p port basin gen pl).tsu.torn = s.tsu.torn
    ∧ (State.queueFrame s p port basin gen pl).tsu.keys = s.tsu.keys
    ∧ (State.queueFrame s p port basin gen pl).tsu.relKeys = s.tsu.relKeys
    ∧ (State.queueFrame s p port basin gen pl).tsu.tdc = s.tsu.tdc
    ∧ (State.queueFrame s p port basin gen pl).tsu.clk = s.tsu.clk
    ∧ (State.queueFrame s p port basin gen pl).tsu.rings = s.tsu.rings
    ∧ (State.queueFrame s p port basin gen pl).tsu.page = s.tsu.page
    ∧ (State.queueFrame s p port basin gen pl).tsu.flt = s.tsu.flt
    ∧ (State.queueFrame s p port basin gen pl).tsu.units = s.tsu.units
    ∧ (State.queueFrame s p port basin gen pl).tsu.engines = s.tsu.engines
    ∧ (State.queueFrame s p port basin gen pl).tsu.gov = s.tsu.gov
    ∧ (State.queueFrame s p port basin gen pl).tsu.cnt = s.tsu.cnt
    ∧ (State.queueFrame s p port basin gen pl).tsu.cfg = s.tsu.cfg
    ∧ (State.queueFrame s p port basin gen pl).tsu.cycs = s.tsu.cycs
    ∧ (State.queueFrame s p port basin gen pl).phi.time = s.phi.time
    ∧ (State.queueFrame s p port basin gen pl).phi.torn = s.phi.torn
    ∧ (State.queueFrame s p port basin gen pl).phi.keys = s.phi.keys
    ∧ (State.queueFrame s p port basin gen pl).phi.relKeys = s.phi.relKeys
    ∧ (State.queueFrame s p port basin gen pl).phi.tdc = s.phi.tdc
    ∧ (State.queueFrame s p port basin gen pl).phi.clk = s.phi.clk
    ∧ (State.queueFrame s p port basin gen pl).phi.rings = s.phi.rings
    ∧ (State.queueFrame s p port basin gen pl).phi.page = s.phi.page
    ∧ (State.queueFrame s p port basin gen pl).phi.flt = s.phi.flt
    ∧ (State.queueFrame s p port basin gen pl).phi.units = s.phi.units
    ∧ (State.queueFrame s p port basin gen pl).phi.engines = s.phi.engines
    ∧ (State.queueFrame s p port basin gen pl).phi.gov = s.phi.gov
    ∧ (State.queueFrame s p port basin gen pl).phi.cnt = s.phi.cnt
    ∧ (State.queueFrame s p port basin gen pl).phi.cfg = s.phi.cfg
    ∧ (State.queueFrame s p port basin gen pl).phi.cycs = s.phi.cycs := by
  refine ⟨?_, ?_, ?_, ?_, ?_, ?_, ?_, ?_, ?_, ?_, ?_, ?_, ?_, ?_, ?_, ?_, ?_, ?_, ?_, ?_, ?_, ?_, ?_, ?_, ?_, ?_, ?_, ?_, ?_, ?_, ?_, ?_, ?_, ?_, ?_, ?_, ?_, ?_⟩ <;> first | (simp [State.queueFrame]; done)

@[simp] theorem State.queueFrame_keeps_tsu (s : State) (port : Nat) (basin : BitVec 12) (gen : W16) (pl : Payload) :
    (State.queueFrame s .tsu port basin gen pl).phi = s.phi := by simp [State.queueFrame]

@[simp] theorem State.queueFrame_keeps_phi (s : State) (port : Nat) (basin : BitVec 12) (gen : W16) (pl : Payload) :
    (State.queueFrame s .phi port basin gen pl).tsu = s.tsu := by simp [State.queueFrame]

@[simp] theorem State.queueAll_keeps (s : State) (p : Part) (ports : List Nat) (basin : BitVec 12) (gen : W16) (pl : Payload) :
    (State.queueAll s p ports basin gen pl).pending = s.pending ∧ (State.queueAll s p ports basin gen pl).cyc = s.cyc
    ∧ (State.queueAll s p ports basin gen pl).freeNext = s.freeNext
    ∧ (State.queueAll s p ports basin gen pl).out = s.out ∧ (State.queueAll s p ports basin gen pl).mdl = s.mdl
    ∧ (State.queueAll s p ports basin gen pl).meter = s.meter ∧ (State.queueAll s p ports basin gen pl).die = s.die
    ∧ (State.queueAll s p ports basin gen pl).hub = s.hub
    ∧ (State.queueAll s p ports basin gen pl).tsu.time = s.tsu.time
    ∧ (State.queueAll s p ports basin gen pl).tsu.torn = s.tsu.torn
    ∧ (State.queueAll s p ports basin gen pl).tsu.keys = s.tsu.keys
    ∧ (State.queueAll s p ports basin gen pl).tsu.relKeys = s.tsu.relKeys
    ∧ (State.queueAll s p ports basin gen pl).tsu.tdc = s.tsu.tdc
    ∧ (State.queueAll s p ports basin gen pl).tsu.clk = s.tsu.clk
    ∧ (State.queueAll s p ports basin gen pl).tsu.rings = s.tsu.rings
    ∧ (State.queueAll s p ports basin gen pl).tsu.page = s.tsu.page
    ∧ (State.queueAll s p ports basin gen pl).tsu.flt = s.tsu.flt
    ∧ (State.queueAll s p ports basin gen pl).tsu.units = s.tsu.units
    ∧ (State.queueAll s p ports basin gen pl).tsu.engines = s.tsu.engines
    ∧ (State.queueAll s p ports basin gen pl).tsu.gov = s.tsu.gov
    ∧ (State.queueAll s p ports basin gen pl).tsu.cnt = s.tsu.cnt
    ∧ (State.queueAll s p ports basin gen pl).tsu.cfg = s.tsu.cfg
    ∧ (State.queueAll s p ports basin gen pl).tsu.cycs = s.tsu.cycs
    ∧ (State.queueAll s p ports basin gen pl).phi.time = s.phi.time
    ∧ (State.queueAll s p ports basin gen pl).phi.torn = s.phi.torn
    ∧ (State.queueAll s p ports basin gen pl).phi.keys = s.phi.keys
    ∧ (State.queueAll s p ports basin gen pl).phi.relKeys = s.phi.relKeys
    ∧ (State.queueAll s p ports basin gen pl).phi.tdc = s.phi.tdc
    ∧ (State.queueAll s p ports basin gen pl).phi.clk = s.phi.clk
    ∧ (State.queueAll s p ports basin gen pl).phi.rings = s.phi.rings
    ∧ (State.queueAll s p ports basin gen pl).phi.page = s.phi.page
    ∧ (State.queueAll s p ports basin gen pl).phi.flt = s.phi.flt
    ∧ (State.queueAll s p ports basin gen pl).phi.units = s.phi.units
    ∧ (State.queueAll s p ports basin gen pl).phi.engines = s.phi.engines
    ∧ (State.queueAll s p ports basin gen pl).phi.gov = s.phi.gov
    ∧ (State.queueAll s p ports basin gen pl).phi.cnt = s.phi.cnt
    ∧ (State.queueAll s p ports basin gen pl).phi.cfg = s.phi.cfg
    ∧ (State.queueAll s p ports basin gen pl).phi.cycs = s.phi.cycs := by
  refine ⟨?_, ?_, ?_, ?_, ?_, ?_, ?_, ?_, ?_, ?_, ?_, ?_, ?_, ?_, ?_, ?_, ?_, ?_, ?_, ?_, ?_, ?_, ?_, ?_, ?_, ?_, ?_, ?_, ?_, ?_, ?_, ?_, ?_, ?_, ?_, ?_, ?_, ?_⟩ <;> first | (simp [State.queueAll]; done)

@[simp] theorem State.queueAll_keeps_tsu (s : State) (ports : List Nat) (basin : BitVec 12) (gen : W16) (pl : Payload) :
    (State.queueAll s .tsu ports basin gen pl).phi = s.phi := by simp [State.queueAll]

@[simp] theorem State.queueAll_keeps_phi (s : State) (ports : List Nat) (basin : BitVec 12) (gen : W16) (pl : Payload) :
    (State.queueAll s .phi ports basin gen pl).tsu = s.tsu := by simp [State.queueAll]

end Sys2Proof.Machine
end

