-- ==== Sys2Proof/Laws/Faults.lean ====
section
/-!
SUPPORT. What the operations and meanings of Machine/Faults.lean leave unchanged.
-/

namespace Sys2Proof.Machine

@[simp] theorem State.writeFault_keeps (s : State) (p : Part) (r : FaultRec) :
    (State.writeFault s p r).pending = s.pending ∧ (State.writeFault s p r).cyc = s.cyc
    ∧ (State.writeFault s p r).freeNext = s.freeNext ∧ (State.writeFault s p r).mdl = s.mdl
    ∧ (State.writeFault s p r).meter = s.meter ∧ (State.writeFault s p r).die = s.die
    ∧ (State.writeFault s p r).tsu.time = s.tsu.time ∧ (State.writeFault s p r).tsu.ports = s.tsu.ports
    ∧ (State.writeFault s p r).tsu.torn = s.tsu.torn ∧ (State.writeFault s p r).tsu.keys = s.tsu.keys
    ∧ (State.writeFault s p r).tsu.relKeys = s.tsu.relKeys ∧ (State.writeFault s p r).tsu.tdc = s.tsu.tdc
    ∧ (State.writeFault s p r).tsu.clk = s.tsu.clk ∧ (State.writeFault s p r).tsu.rings = s.tsu.rings
    ∧ (State.writeFault s p r).tsu.page = s.tsu.page ∧ (State.writeFault s p r).tsu.units = s.tsu.units
    ∧ (State.writeFault s p r).tsu.engines = s.tsu.engines ∧ (State.writeFault s p r).tsu.gov = s.tsu.gov
    ∧ (State.writeFault s p r).tsu.cnt = s.tsu.cnt ∧ (State.writeFault s p r).tsu.cfg = s.tsu.cfg
    ∧ (State.writeFault s p r).tsu.cycs = s.tsu.cycs ∧ (State.writeFault s p r).phi.time = s.phi.time
    ∧ (State.writeFault s p r).phi.ports = s.phi.ports ∧ (State.writeFault s p r).phi.torn = s.phi.torn
    ∧ (State.writeFault s p r).phi.keys = s.phi.keys ∧ (State.writeFault s p r).phi.relKeys = s.phi.relKeys
    ∧ (State.writeFault s p r).phi.tdc = s.phi.tdc ∧ (State.writeFault s p r).phi.clk = s.phi.clk
    ∧ (State.writeFault s p r).phi.rings = s.phi.rings ∧ (State.writeFault s p r).phi.page = s.phi.page
    ∧ (State.writeFault s p r).phi.units = s.phi.units ∧ (State.writeFault s p r).phi.engines = s.phi.engines
    ∧ (State.writeFault s p r).phi.gov = s.phi.gov ∧ (State.writeFault s p r).phi.cnt = s.phi.cnt
    ∧ (State.writeFault s p r).phi.cfg = s.phi.cfg ∧ (State.writeFault s p r).phi.cycs = s.phi.cycs
    ∧ (State.writeFault s p r).hub.storage = s.hub.storage ∧ (State.writeFault s p r).hub.fw.state = s.hub.fw.state
    ∧ (State.writeFault s p r).hub.pairs = s.hub.pairs ∧ (State.writeFault s p r).hub.led = s.hub.led
    ∧ (State.writeFault s p r).hub.seqs = s.hub.seqs := by
  refine ⟨?_, ?_, ?_, ?_, ?_, ?_, ?_, ?_, ?_, ?_, ?_, ?_, ?_, ?_, ?_, ?_, ?_, ?_, ?_, ?_, ?_, ?_, ?_, ?_, ?_, ?_, ?_, ?_, ?_, ?_, ?_, ?_, ?_, ?_, ?_, ?_, ?_, ?_, ?_, ?_, ?_⟩ <;> first | (simp [State.writeFault]; done)

@[simp] theorem State.writeFault_keeps_tsu (s : State) (r : FaultRec) :
    (State.writeFault s .tsu r).phi = s.phi ∧ (State.writeFault s .tsu r).hub = s.hub := by
  refine ⟨?_, ?_⟩ <;> first | (simp [State.writeFault]; done)

@[simp] theorem State.writeFault_keeps_phi (s : State) (r : FaultRec) :
    (State.writeFault s .phi r).tsu = s.tsu := by simp [State.writeFault]

@[simp] theorem State.writeSaved_keeps (s : State) :
    (State.writeSaved s).pending = s.pending ∧ (State.writeSaved s).cyc = s.cyc
    ∧ (State.writeSaved s).freeNext = s.freeNext ∧ (State.writeSaved s).mdl = s.mdl
    ∧ (State.writeSaved s).meter = s.meter ∧ (State.writeSaved s).die = s.die ∧ (State.writeSaved s).hub = s.hub
    ∧ (State.writeSaved s).phi = s.phi ∧ (State.writeSaved s).tsu.time = s.tsu.time
    ∧ (State.writeSaved s).tsu.ports = s.tsu.ports ∧ (State.writeSaved s).tsu.torn = s.tsu.torn
    ∧ (State.writeSaved s).tsu.keys = s.tsu.keys ∧ (State.writeSaved s).tsu.relKeys = s.tsu.relKeys
    ∧ (State.writeSaved s).tsu.tdc = s.tsu.tdc ∧ (State.writeSaved s).tsu.clk = s.tsu.clk
    ∧ (State.writeSaved s).tsu.rings = s.tsu.rings ∧ (State.writeSaved s).tsu.page = s.tsu.page
    ∧ (State.writeSaved s).tsu.units = s.tsu.units ∧ (State.writeSaved s).tsu.engines = s.tsu.engines
    ∧ (State.writeSaved s).tsu.gov = s.tsu.gov ∧ (State.writeSaved s).tsu.cnt = s.tsu.cnt
    ∧ (State.writeSaved s).tsu.cfg = s.tsu.cfg ∧ (State.writeSaved s).tsu.cycs = s.tsu.cycs := by
  simp only [State.writeSaved] <;> (repeat' split) <;> first | (simp; done) | (simp [*]; done) | (refine ⟨?_, ?_, ?_, ?_, ?_, ?_, ?_, ?_, ?_, ?_, ?_, ?_, ?_, ?_, ?_, ?_, ?_, ?_, ?_, ?_, ?_, ?_, ?_⟩ <;> first | rfl | (simp; done) | (simp [*]; done))

@[simp] theorem State.noteUp_keeps (s : State) (p : Part) (code : Nat) (detail : W32) :
    (State.noteUp s p code detail).pending = s.pending ∧ (State.noteUp s p code detail).cyc = s.cyc
    ∧ (State.noteUp s p code detail).freeNext = s.freeNext ∧ (State.noteUp s p code detail).out = s.out
    ∧ (State.noteUp s p code detail).mdl = s.mdl ∧ (State.noteUp s p code detail).meter = s.meter
    ∧ (State.noteUp s p code detail).die = s.die ∧ (State.noteUp s p code detail).hub = s.hub
    ∧ (State.noteUp s p code detail).tsu.time = s.tsu.time ∧ (State.noteUp s p code detail).tsu.torn = s.tsu.torn
    ∧ (State.noteUp s p code detail).tsu.keys = s.tsu.keys
    ∧ (State.noteUp s p code detail).tsu.relKeys = s.tsu.relKeys
    ∧ (State.noteUp s p code detail).tsu.tdc = s.tsu.tdc ∧ (State.noteUp s p code detail).tsu.clk = s.tsu.clk
    ∧ (State.noteUp s p code detail).tsu.rings = s.tsu.rings ∧ (State.noteUp s p code detail).tsu.page = s.tsu.page
    ∧ (State.noteUp s p code detail).tsu.units = s.tsu.units
    ∧ (State.noteUp s p code detail).tsu.engines = s.tsu.engines
    ∧ (State.noteUp s p code detail).tsu.gov = s.tsu.gov ∧ (State.noteUp s p code detail).tsu.cfg = s.tsu.cfg
    ∧ (State.noteUp s p code detail).tsu.cycs = s.tsu.cycs ∧ (State.noteUp s p code detail).phi.time = s.phi.time
    ∧ (State.noteUp s p code detail).phi.torn = s.phi.torn ∧ (State.noteUp s p code detail).phi.keys = s.phi.keys
    ∧ (State.noteUp s p code detail).phi.relKeys = s.phi.relKeys
    ∧ (State.noteUp s p code detail).phi.tdc = s.phi.tdc ∧ (State.noteUp s p code detail).phi.clk = s.phi.clk
    ∧ (State.noteUp s p code detail).phi.rings = s.phi.rings ∧ (State.noteUp s p code detail).phi.page = s.phi.page
    ∧ (State.noteUp s p code detail).phi.units = s.phi.units
    ∧ (State.noteUp s p code detail).phi.engines = s.phi.engines
    ∧ (State.noteUp s p code detail).phi.gov = s.phi.gov ∧ (State.noteUp s p code detail).phi.cfg = s.phi.cfg
    ∧ (State.noteUp s p code detail).phi.cycs = s.phi.cycs := by
  refine ⟨?_, ?_, ?_, ?_, ?_, ?_, ?_, ?_, ?_, ?_, ?_, ?_, ?_, ?_, ?_, ?_, ?_, ?_, ?_, ?_, ?_, ?_, ?_, ?_, ?_, ?_, ?_, ?_, ?_, ?_, ?_, ?_, ?_, ?_⟩ <;> first | (simp [State.noteUp]; done)

@[simp] theorem State.noteUp_keeps_tsu (s : State) (code : Nat) (detail : W32) :
    (State.noteUp s .tsu code detail).phi = s.phi := by simp only [State.noteUp] <;> (repeat' split) <;> first | rfl | (simp; done) | (simp [*]; done)

@[simp] theorem State.noteUp_keeps_phi (s : State) (code : Nat) (detail : W32) :
    (State.noteUp s .phi code detail).tsu = s.tsu := by simp only [State.noteUp] <;> (repeat' split) <;> first | rfl | (simp; done) | (simp [*]; done)

@[simp] theorem State.recordAs_keeps (s : State) (p : Part) (cause : Cause) (cls : Nat) (detail : W32) (ext : List Byte) :
    (State.recordAs s p cause cls detail ext).pending = s.pending
    ∧ (State.recordAs s p cause cls detail ext).cyc = s.cyc
    ∧ (State.recordAs s p cause cls detail ext).freeNext = s.freeNext
    ∧ (State.recordAs s p cause cls detail ext).mdl = s.mdl
    ∧ (State.recordAs s p cause cls detail ext).meter = s.meter
    ∧ (State.recordAs s p cause cls detail ext).die = s.die
    ∧ (State.recordAs s p cause cls detail ext).tsu.time = s.tsu.time
    ∧ (State.recordAs s p cause cls detail ext).tsu.torn = s.tsu.torn
    ∧ (State.recordAs s p cause cls detail ext).tsu.keys = s.tsu.keys
    ∧ (State.recordAs s p cause cls detail ext).tsu.relKeys = s.tsu.relKeys
    ∧ (State.recordAs s p cause cls detail ext).tsu.tdc = s.tsu.tdc
    ∧ (State.recordAs s p cause cls detail ext).tsu.clk = s.tsu.clk
    ∧ (State.recordAs s p cause cls detail ext).tsu.rings = s.tsu.rings
    ∧ (State.recordAs s p cause cls detail ext).tsu.page = s.tsu.page
    ∧ (State.recordAs s p cause cls detail ext).tsu.units = s.tsu.units
    ∧ (State.recordAs s p cause cls detail ext).tsu.engines = s.tsu.engines
    ∧ (State.recordAs s p cause cls detail ext).tsu.gov = s.tsu.gov
    ∧ (State.recordAs s p cause cls detail ext).tsu.cfg = s.tsu.cfg
    ∧ (State.recordAs s p cause cls detail ext).tsu.cycs = s.tsu.cycs
    ∧ (State.recordAs s p cause cls detail ext).phi.time = s.phi.time
    ∧ (State.recordAs s p cause cls detail ext).phi.torn = s.phi.torn
    ∧ (State.recordAs s p cause cls detail ext).phi.keys = s.phi.keys
    ∧ (State.recordAs s p cause cls detail ext).phi.relKeys = s.phi.relKeys
    ∧ (State.recordAs s p cause cls detail ext).phi.tdc = s.phi.tdc
    ∧ (State.recordAs s p cause cls detail ext).phi.clk = s.phi.clk
    ∧ (State.recordAs s p cause cls detail ext).phi.rings = s.phi.rings
    ∧ (State.recordAs s p cause cls detail ext).phi.page = s.phi.page
    ∧ (State.recordAs s p cause cls detail ext).phi.units = s.phi.units
    ∧ (State.recordAs s p cause cls detail ext).phi.engines = s.phi.engines
    ∧ (State.recordAs s p cause cls detail ext).phi.gov = s.phi.gov
    ∧ (State.recordAs s p cause cls detail ext).phi.cfg = s.phi.cfg
    ∧ (State.recordAs s p cause cls detail ext).phi.cycs = s.phi.cycs
    ∧ (State.recordAs s p cause cls detail ext).hub.storage = s.hub.storage
    ∧ (State.recordAs s p cause cls detail ext).hub.fw.state = s.hub.fw.state
    ∧ (State.recordAs s p cause cls detail ext).hub.pairs = s.hub.pairs
    ∧ (State.recordAs s p cause cls detail ext).hub.led = s.hub.led
    ∧ (State.recordAs s p cause cls detail ext).hub.seqs = s.hub.seqs := by
  refine ⟨?_, ?_, ?_, ?_, ?_, ?_, ?_, ?_, ?_, ?_, ?_, ?_, ?_, ?_, ?_, ?_, ?_, ?_, ?_, ?_, ?_, ?_, ?_, ?_, ?_, ?_, ?_, ?_, ?_, ?_, ?_, ?_, ?_, ?_, ?_, ?_, ?_⟩ <;> first | (simp [State.recordAs]; done)

@[simp] theorem State.recordAs_keeps_tsu (s : State) (cause : Cause) (cls : Nat) (detail : W32) (ext : List Byte) :
    (State.recordAs s .tsu cause cls detail ext).phi = s.phi ∧ (State.recordAs s .tsu cause cls detail ext).hub = s.hub := by
  refine ⟨?_, ?_⟩ <;> first | (simp [State.recordAs]; done)

@[simp] theorem State.recordAs_keeps_phi (s : State) (cause : Cause) (cls : Nat) (detail : W32) (ext : List Byte) :
    (State.recordAs s .phi cause cls detail ext).tsu = s.tsu := by simp [State.recordAs]

@[simp] theorem State.record_keeps (s : State) (p : Part) (cause : Cause) (detail : Nat) (ext : optParam (List Byte) []) :
    (State.record s p cause detail ext).pending = s.pending ∧ (State.record s p cause detail ext).cyc = s.cyc
    ∧ (State.record s p cause detail ext).freeNext = s.freeNext ∧ (State.record s p cause detail ext).mdl = s.mdl
    ∧ (State.record s p cause detail ext).meter = s.meter ∧ (State.record s p cause detail ext).die = s.die
    ∧ (State.record s p cause detail ext).tsu.time = s.tsu.time
    ∧ (State.record s p cause detail ext).tsu.torn = s.tsu.torn
    ∧ (State.record s p cause detail ext).tsu.keys = s.tsu.keys
    ∧ (State.record s p cause detail ext).tsu.relKeys = s.tsu.relKeys
    ∧ (State.record s p cause detail ext).tsu.tdc = s.tsu.tdc
    ∧ (State.record s p cause detail ext).tsu.clk = s.tsu.clk
    ∧ (State.record s p cause detail ext).tsu.rings = s.tsu.rings
    ∧ (State.record s p cause detail ext).tsu.page = s.tsu.page
    ∧ (State.record s p cause detail ext).tsu.units = s.tsu.units
    ∧ (State.record s p cause detail ext).tsu.engines = s.tsu.engines
    ∧ (State.record s p cause detail ext).tsu.gov = s.tsu.gov
    ∧ (State.record s p cause detail ext).tsu.cfg = s.tsu.cfg
    ∧ (State.record s p cause detail ext).tsu.cycs = s.tsu.cycs
    ∧ (State.record s p cause detail ext).phi.time = s.phi.time
    ∧ (State.record s p cause detail ext).phi.torn = s.phi.torn
    ∧ (State.record s p cause detail ext).phi.keys = s.phi.keys
    ∧ (State.record s p cause detail ext).phi.relKeys = s.phi.relKeys
    ∧ (State.record s p cause detail ext).phi.tdc = s.phi.tdc
    ∧ (State.record s p cause detail ext).phi.clk = s.phi.clk
    ∧ (State.record s p cause detail ext).phi.rings = s.phi.rings
    ∧ (State.record s p cause detail ext).phi.page = s.phi.page
    ∧ (State.record s p cause detail ext).phi.units = s.phi.units
    ∧ (State.record s p cause detail ext).phi.engines = s.phi.engines
    ∧ (State.record s p cause detail ext).phi.gov = s.phi.gov
    ∧ (State.record s p cause detail ext).phi.cfg = s.phi.cfg
    ∧ (State.record s p cause detail ext).phi.cycs = s.phi.cycs
    ∧ (State.record s p cause detail ext).hub.storage = s.hub.storage
    ∧ (State.record s p cause detail ext).hub.fw.state = s.hub.fw.state
    ∧ (State.record s p cause detail ext).hub.pairs = s.hub.pairs
    ∧ (State.record s p cause detail ext).hub.led = s.hub.led
    ∧ (State.record s p cause detail ext).hub.seqs = s.hub.seqs := by
  refine ⟨?_, ?_, ?_, ?_, ?_, ?_, ?_, ?_, ?_, ?_, ?_, ?_, ?_, ?_, ?_, ?_, ?_, ?_, ?_, ?_, ?_, ?_, ?_, ?_, ?_, ?_, ?_, ?_, ?_, ?_, ?_, ?_, ?_, ?_, ?_, ?_, ?_⟩ <;> first | (simp [State.record]; done)

@[simp] theorem State.record_keeps_tsu (s : State) (cause : Cause) (detail : Nat) (ext : optParam (List Byte) []) :
    (State.record s .tsu cause detail ext).phi = s.phi ∧ (State.record s .tsu cause detail ext).hub = s.hub := by
  refine ⟨?_, ?_⟩ <;> first | (simp [State.record]; done)

@[simp] theorem State.record_keeps_phi (s : State) (cause : Cause) (detail : Nat) (ext : optParam (List Byte) []) :
    (State.record s .phi cause detail ext).tsu = s.tsu := by simp [State.record]

@[simp] theorem State.updUnit_keeps (s : State) (p : Part) (kind : Nat) (i : Nat) (f : UnitSt → UnitSt) :
    (State.updUnit s p kind i f).pending = s.pending ∧ (State.updUnit s p kind i f).cyc = s.cyc
    ∧ (State.updUnit s p kind i f).freeNext = s.freeNext ∧ (State.updUnit s p kind i f).out = s.out
    ∧ (State.updUnit s p kind i f).mdl = s.mdl ∧ (State.updUnit s p kind i f).meter = s.meter
    ∧ (State.updUnit s p kind i f).die = s.die ∧ (State.updUnit s p kind i f).hub = s.hub
    ∧ (State.updUnit s p kind i f).tsu.time = s.tsu.time ∧ (State.updUnit s p kind i f).tsu.ports = s.tsu.ports
    ∧ (State.updUnit s p kind i f).tsu.torn = s.tsu.torn ∧ (State.updUnit s p kind i f).tsu.keys = s.tsu.keys
    ∧ (State.updUnit s p kind i f).tsu.relKeys = s.tsu.relKeys ∧ (State.updUnit s p kind i f).tsu.tdc = s.tsu.tdc
    ∧ (State.updUnit s p kind i f).tsu.clk = s.tsu.clk ∧ (State.updUnit s p kind i f).tsu.rings = s.tsu.rings
    ∧ (State.updUnit s p kind i f).tsu.page = s.tsu.page ∧ (State.updUnit s p kind i f).tsu.flt = s.tsu.flt
    ∧ (State.updUnit s p kind i f).tsu.engines = s.tsu.engines ∧ (State.updUnit s p kind i f).tsu.gov = s.tsu.gov
    ∧ (State.updUnit s p kind i f).tsu.cnt = s.tsu.cnt ∧ (State.updUnit s p kind i f).tsu.cfg = s.tsu.cfg
    ∧ (State.updUnit s p kind i f).tsu.cycs = s.tsu.cycs ∧ (State.updUnit s p kind i f).phi.time = s.phi.time
    ∧ (State.updUnit s p kind i f).phi.ports = s.phi.ports ∧ (State.updUnit s p kind i f).phi.torn = s.phi.torn
    ∧ (State.updUnit s p kind i f).phi.keys = s.phi.keys ∧ (State.updUnit s p kind i f).phi.relKeys = s.phi.relKeys
    ∧ (State.updUnit s p kind i f).phi.tdc = s.phi.tdc ∧ (State.updUnit s p kind i f).phi.clk = s.phi.clk
    ∧ (State.updUnit s p kind i f).phi.rings = s.phi.rings ∧ (State.updUnit s p kind i f).phi.page = s.phi.page
    ∧ (State.updUnit s p kind i f).phi.flt = s.phi.flt ∧ (State.updUnit s p kind i f).phi.engines = s.phi.engines
    ∧ (State.updUnit s p kind i f).phi.gov = s.phi.gov ∧ (State.updUnit s p kind i f).phi.cnt = s.phi.cnt
    ∧ (State.updUnit s p kind i f).phi.cfg = s.phi.cfg ∧ (State.updUnit s p kind i f).phi.cycs = s.phi.cycs := by
  refine ⟨?_, ?_, ?_, ?_, ?_, ?_, ?_, ?_, ?_, ?_, ?_, ?_, ?_, ?_, ?_, ?_, ?_, ?_, ?_, ?_, ?_, ?_, ?_, ?_, ?_, ?_, ?_, ?_, ?_, ?_, ?_, ?_, ?_, ?_, ?_, ?_, ?_, ?_⟩ <;> first | (simp [State.updUnit]; done)

@[simp] theorem State.updUnit_keeps_tsu (s : State) (kind : Nat) (i : Nat) (f : UnitSt → UnitSt) :
    (State.updUnit s .tsu kind i f).phi = s.phi := by simp [State.updUnit]

@[simp] theorem State.updUnit_keeps_phi (s : State) (kind : Nat) (i : Nat) (f : UnitSt → UnitSt) :
    (State.updUnit s .phi kind i f).tsu = s.tsu := by simp [State.updUnit]

@[simp] theorem State.setUnit_keeps (s : State) (p : Part) (kind : Nat) (i : Nat) (st : UState) :
    (State.setUnit s p kind i st).pending = s.pending ∧ (State.setUnit s p kind i st).cyc = s.cyc
    ∧ (State.setUnit s p kind i st).freeNext = s.freeNext ∧ (State.setUnit s p kind i st).out = s.out
    ∧ (State.setUnit s p kind i st).mdl = s.mdl ∧ (State.setUnit s p kind i st).meter = s.meter
    ∧ (State.setUnit s p kind i st).die = s.die ∧ (State.setUnit s p kind i st).hub = s.hub
    ∧ (State.setUnit s p kind i st).tsu.time = s.tsu.time ∧ (State.setUnit s p kind i st).tsu.ports = s.tsu.ports
    ∧ (State.setUnit s p kind i st).tsu.torn = s.tsu.torn ∧ (State.setUnit s p kind i st).tsu.keys = s.tsu.keys
    ∧ (State.setUnit s p kind i st).tsu.relKeys = s.tsu.relKeys ∧ (State.setUnit s p kind i st).tsu.tdc = s.tsu.tdc
    ∧ (State.setUnit s p kind i st).tsu.clk = s.tsu.clk ∧ (State.setUnit s p kind i st).tsu.rings = s.tsu.rings
    ∧ (State.setUnit s p kind i st).tsu.page = s.tsu.page ∧ (State.setUnit s p kind i st).tsu.flt = s.tsu.flt
    ∧ (State.setUnit s p kind i st).tsu.engines = s.tsu.engines ∧ (State.setUnit s p kind i st).tsu.gov = s.tsu.gov
    ∧ (State.setUnit s p kind i st).tsu.cnt = s.tsu.cnt ∧ (State.setUnit s p kind i st).tsu.cfg = s.tsu.cfg
    ∧ (State.setUnit s p kind i st).tsu.cycs = s.tsu.cycs ∧ (State.setUnit s p kind i st).phi.time = s.phi.time
    ∧ (State.setUnit s p kind i st).phi.ports = s.phi.ports ∧ (State.setUnit s p kind i st).phi.torn = s.phi.torn
    ∧ (State.setUnit s p kind i st).phi.keys = s.phi.keys
    ∧ (State.setUnit s p kind i st).phi.relKeys = s.phi.relKeys ∧ (State.setUnit s p kind i st).phi.tdc = s.phi.tdc
    ∧ (State.setUnit s p kind i st).phi.clk = s.phi.clk ∧ (State.setUnit s p kind i st).phi.rings = s.phi.rings
    ∧ (State.setUnit s p kind i st).phi.page = s.phi.page ∧ (State.setUnit s p kind i st).phi.flt = s.phi.flt
    ∧ (State.setUnit s p kind i st).phi.engines = s.phi.engines ∧ (State.setUnit s p kind i st).phi.gov = s.phi.gov
    ∧ (State.setUnit s p kind i st).phi.cnt = s.phi.cnt ∧ (State.setUnit s p kind i st).phi.cfg = s.phi.cfg
    ∧ (State.setUnit s p kind i st).phi.cycs = s.phi.cycs := by
  refine ⟨?_, ?_, ?_, ?_, ?_, ?_, ?_, ?_, ?_, ?_, ?_, ?_, ?_, ?_, ?_, ?_, ?_, ?_, ?_, ?_, ?_, ?_, ?_, ?_, ?_, ?_, ?_, ?_, ?_, ?_, ?_, ?_, ?_, ?_, ?_, ?_, ?_, ?_⟩ <;> first | (simp [State.setUnit]; done)

@[simp] theorem State.setUnit_keeps_tsu (s : State) (kind : Nat) (i : Nat) (st : UState) :
    (State.setUnit s .tsu kind i st).phi = s.phi := by simp [State.setUnit]

@[simp] theorem State.setUnit_keeps_phi (s : State) (kind : Nat) (i : Nat) (st : UState) :
    (State.setUnit s .phi kind i st).tsu = s.tsu := by simp [State.setUnit]

@[simp] theorem State.transient_keeps (s : State) (p : Part) (kind : Nat) (i : Nat) :
    (State.transient s p kind i).pending = s.pending ∧ (State.transient s p kind i).cyc = s.cyc
    ∧ (State.transient s p kind i).freeNext = s.freeNext ∧ (State.transient s p kind i).out = s.out
    ∧ (State.transient s p kind i).mdl = s.mdl ∧ (State.transient s p kind i).meter = s.meter := by
  refine ⟨?_, ?_, ?_, ?_, ?_, ?_⟩ <;> first | (induction kind generalizing s <;> simp_all [State.transient]; done)

@[simp] theorem State.transient_keeps2 (s : State) (p : Part) (kind : Nat) (i : Nat) :
    (State.transient s p kind i).die = s.die ∧ (State.transient s p kind i).hub = s.hub
    ∧ (State.transient s p kind i).tsu.time = s.tsu.time ∧ (State.transient s p kind i).tsu.ports = s.tsu.ports
    ∧ (State.transient s p kind i).tsu.torn = s.tsu.torn ∧ (State.transient s p kind i).tsu.keys = s.tsu.keys := by
  refine ⟨?_, ?_, ?_, ?_, ?_, ?_⟩ <;> first | (induction kind generalizing s <;> simp_all [State.transient]; done)

@[simp] theorem State.transient_keeps3 (s : State) (p : Part) (kind : Nat) (i : Nat) :
    (State.transient s p kind i).tsu.relKeys = s.tsu.relKeys ∧ (State.transient s p kind i).tsu.tdc = s.tsu.tdc
    ∧ (State.transient s p kind i).tsu.clk = s.tsu.clk ∧ (State.transient s p kind i).tsu.rings = s.tsu.rings
    ∧ (State.transient s p kind i).tsu.page = s.tsu.page ∧ (State.transient s p kind i).tsu.flt = s.tsu.flt := by
  refine ⟨?_, ?_, ?_, ?_, ?_, ?_⟩ <;> first | (induction kind generalizing s <;> simp_all [State.transient]; done)

@[simp] theorem State.transient_keeps4 (s : State) (p : Part) (kind : Nat) (i : Nat) :
    (State.transient s p kind i).tsu.engines = s.tsu.engines ∧ (State.transient s p kind i).tsu.gov = s.tsu.gov
    ∧ (State.transient s p kind i).tsu.cnt = s.tsu.cnt ∧ (State.transient s p kind i).tsu.cfg = s.tsu.cfg
    ∧ (State.transient s p kind i).tsu.cycs = s.tsu.cycs ∧ (State.transient s p kind i).phi.time = s.phi.time := by
  refine ⟨?_, ?_, ?_, ?_, ?_, ?_⟩ <;> first | (induction kind generalizing s <;> simp_all [State.transient]; done)

@[simp] theorem State.transient_keeps5 (s : State) (p : Part) (kind : Nat) (i : Nat) :
    (State.transient s p kind i).phi.ports = s.phi.ports ∧ (State.transient s p kind i).phi.torn = s.phi.torn
    ∧ (State.transient s p kind i).phi.keys = s.phi.keys ∧ (State.transient s p kind i).phi.relKeys = s.phi.relKeys
    ∧ (State.transient s p kind i).phi.tdc = s.phi.tdc ∧ (State.transient s p kind i).phi.clk = s.phi.clk := by
  refine ⟨?_, ?_, ?_, ?_, ?_, ?_⟩ <;> first | (induction kind generalizing s <;> simp_all [State.transient]; done)

@[simp] theorem State.transient_keeps6 (s : State) (p : Part) (kind : Nat) (i : Nat) :
    (State.transient s p kind i).phi.rings = s.phi.rings ∧ (State.transient s p kind i).phi.page = s.phi.page
    ∧ (State.transient s p kind i).phi.flt = s.phi.flt ∧ (State.transient s p kind i).phi.engines = s.phi.engines
    ∧ (State.transient s p kind i).phi.gov = s.phi.gov ∧ (State.transient s p kind i).phi.cnt = s.phi.cnt := by
  refine ⟨?_, ?_, ?_, ?_, ?_, ?_⟩ <;> first | (induction kind generalizing s <;> simp_all [State.transient]; done)

@[simp] theorem State.transient_keeps7 (s : State) (p : Part) (kind : Nat) (i : Nat) :
    (State.transient s p kind i).phi.cfg = s.phi.cfg ∧ (State.transient s p kind i).phi.cycs = s.phi.cycs := by
  refine ⟨?_, ?_⟩ <;> first | (induction kind generalizing s <;> simp_all [State.transient]; done)

@[simp] theorem State.transient_keeps_tsu (s : State) (kind : Nat) (i : Nat) :
    (State.transient s .tsu kind i).phi = s.phi := by induction kind generalizing s <;> simp_all [State.transient]

@[simp] theorem State.transient_keeps_phi (s : State) (kind : Nat) (i : Nat) :
    (State.transient s .phi kind i).tsu = s.tsu := by induction kind generalizing s <;> simp_all [State.transient]

@[simp] theorem State.countExpulsion_keeps (s : State) (p : Part) :
    (State.countExpulsion s p).pending = s.pending ∧ (State.countExpulsion s p).cyc = s.cyc
    ∧ (State.countExpulsion s p).freeNext = s.freeNext ∧ (State.countExpulsion s p).out = s.out
    ∧ (State.countExpulsion s p).mdl = s.mdl ∧ (State.countExpulsion s p).meter = s.meter
    ∧ (State.countExpulsion s p).die = s.die ∧ (State.countExpulsion s p).hub = s.hub
    ∧ (State.countExpulsion s p).tsu.time = s.tsu.time ∧ (State.countExpulsion s p).tsu.ports = s.tsu.ports
    ∧ (State.countExpulsion s p).tsu.torn = s.tsu.torn ∧ (State.countExpulsion s p).tsu.keys = s.tsu.keys
    ∧ (State.countExpulsion s p).tsu.relKeys = s.tsu.relKeys ∧ (State.countExpulsion s p).tsu.tdc = s.tsu.tdc
    ∧ (State.countExpulsion s p).tsu.clk = s.tsu.clk ∧ (State.countExpulsion s p).tsu.rings = s.tsu.rings
    ∧ (State.countExpulsion s p).tsu.page = s.tsu.page ∧ (State.countExpulsion s p).tsu.flt = s.tsu.flt
    ∧ (State.countExpulsion s p).tsu.units = s.tsu.units ∧ (State.countExpulsion s p).tsu.engines = s.tsu.engines
    ∧ (State.countExpulsion s p).tsu.cnt = s.tsu.cnt ∧ (State.countExpulsion s p).tsu.cfg = s.tsu.cfg
    ∧ (State.countExpulsion s p).tsu.cycs = s.tsu.cycs ∧ (State.countExpulsion s p).phi.time = s.phi.time
    ∧ (State.countExpulsion s p).phi.ports = s.phi.ports ∧ (State.countExpulsion s p).phi.torn = s.phi.torn
    ∧ (State.countExpulsion s p).phi.keys = s.phi.keys ∧ (State.countExpulsion s p).phi.relKeys = s.phi.relKeys
    ∧ (State.countExpulsion s p).phi.tdc = s.phi.tdc ∧ (State.countExpulsion s p).phi.clk = s.phi.clk
    ∧ (State.countExpulsion s p).phi.rings = s.phi.rings ∧ (State.countExpulsion s p).phi.page = s.phi.page
    ∧ (State.countExpulsion s p).phi.flt = s.phi.flt ∧ (State.countExpulsion s p).phi.units = s.phi.units
    ∧ (State.countExpulsion s p).phi.engines = s.phi.engines ∧ (State.countExpulsion s p).phi.cnt = s.phi.cnt
    ∧ (State.countExpulsion s p).phi.cfg = s.phi.cfg ∧ (State.countExpulsion s p).phi.cycs = s.phi.cycs := by
  refine ⟨?_, ?_, ?_, ?_, ?_, ?_, ?_, ?_, ?_, ?_, ?_, ?_, ?_, ?_, ?_, ?_, ?_, ?_, ?_, ?_, ?_, ?_, ?_, ?_, ?_, ?_, ?_, ?_, ?_, ?_, ?_, ?_, ?_, ?_, ?_, ?_, ?_, ?_⟩ <;> first | (simp [State.countExpulsion]; done)

@[simp] theorem State.countExpulsion_keeps_tsu (s : State) :
    (State.countExpulsion s .tsu).phi = s.phi := by simp [State.countExpulsion]

@[simp] theorem State.countExpulsion_keeps_phi (s : State) :
    (State.countExpulsion s .phi).tsu = s.tsu := by simp [State.countExpulsion]

@[simp] theorem State.askGovernor_keeps (s : State) (p : Part) (kind : Nat) (i : Nat) :
    ((State.askGovernor s p kind i).2).pending = s.pending ∧ ((State.askGovernor s p kind i).2).cyc = s.cyc
    ∧ ((State.askGovernor s p kind i).2).freeNext = s.freeNext ∧ ((State.askGovernor s p kind i).2).mdl = s.mdl
    ∧ ((State.askGovernor s p kind i).2).meter = s.meter ∧ ((State.askGovernor s p kind i).2).die = s.die
    ∧ ((State.askGovernor s p kind i).2).tsu.time = s.tsu.time
    ∧ ((State.askGovernor s p kind i).2).tsu.torn = s.tsu.torn
    ∧ ((State.askGovernor s p kind i).2).tsu.keys = s.tsu.keys
    ∧ ((State.askGovernor s p kind i).2).tsu.relKeys = s.tsu.relKeys
    ∧ ((State.askGovernor s p kind i).2).tsu.tdc = s.tsu.tdc
    ∧ ((State.askGovernor s p kind i).2).tsu.clk = s.tsu.clk
    ∧ ((State.askGovernor s p kind i).2).tsu.rings = s.tsu.rings
    ∧ ((State.askGovernor s p kind i).2).tsu.page = s.tsu.page
    ∧ ((State.askGovernor s p kind i).2).tsu.engines = s.tsu.engines
    ∧ ((State.askGovernor s p kind i).2).tsu.cfg = s.tsu.cfg
    ∧ ((State.askGovernor s p kind i).2).tsu.cycs = s.tsu.cycs
    ∧ ((State.askGovernor s p kind i).2).phi.time = s.phi.time
    ∧ ((State.askGovernor s p kind i).2).phi.torn = s.phi.torn
    ∧ ((State.askGovernor s p kind i).2).phi.keys = s.phi.keys
    ∧ ((State.askGovernor s p kind i).2).phi.relKeys = s.phi.relKeys
    ∧ ((State.askGovernor s p kind i).2).phi.tdc = s.phi.tdc
    ∧ ((State.askGovernor s p kind i).2).phi.clk = s.phi.clk
    ∧ ((State.askGovernor s p kind i).2).phi.rings = s.phi.rings
    ∧ ((State.askGovernor s p kind i).2).phi.page = s.phi.page
    ∧ ((State.askGovernor s p kind i).2).phi.engines = s.phi.engines
    ∧ ((State.askGovernor s p kind i).2).phi.cfg = s.phi.cfg
    ∧ ((State.askGovernor s p kind i).2).phi.cycs = s.phi.cycs
    ∧ ((State.askGovernor s p kind i).2).hub.storage = s.hub.storage
    ∧ ((State.askGovernor s p kind i).2).hub.fw.state = s.hub.fw.state
    ∧ ((State.askGovernor s p kind i).2).hub.pairs = s.hub.pairs
    ∧ ((State.askGovernor s p kind i).2).hub.led = s.hub.led
    ∧ ((State.askGovernor s p kind i).2).hub.seqs = s.hub.seqs := by
  simp only [State.askGovernor] <;> (repeat' split) <;> first | (simp; done) | (simp [*]; done) | (refine ⟨?_, ?_, ?_, ?_, ?_, ?_, ?_, ?_, ?_, ?_, ?_, ?_, ?_, ?_, ?_, ?_, ?_, ?_, ?_, ?_, ?_, ?_, ?_, ?_, ?_, ?_, ?_, ?_, ?_, ?_, ?_, ?_, ?_⟩ <;> first | rfl | (simp; done) | (simp [*]; done))

@[simp] theorem State.askGovernor_keeps_tsu (s : State) (kind : Nat) (i : Nat) :
    ((State.askGovernor s .tsu kind i).2).phi = s.phi := by simp only [State.askGovernor] <;> (repeat' split) <;> first | rfl | (simp; done) | (simp [*]; done)

@[simp] theorem State.askGovernor_keeps_phi (s : State) (kind : Nat) (i : Nat) :
    ((State.askGovernor s .phi kind i).2).tsu = s.tsu := by simp only [State.askGovernor] <;> (repeat' split) <;> first | rfl | (simp; done) | (simp [*]; done)

@[simp] theorem State.holdFault_keeps (s : State) (p : Part) (kind : Nat) (i : Nat) :
    (State.holdFault s p kind i).pending = s.pending ∧ (State.holdFault s p kind i).cyc = s.cyc
    ∧ (State.holdFault s p kind i).freeNext = s.freeNext ∧ (State.holdFault s p kind i).out = s.out
    ∧ (State.holdFault s p kind i).mdl = s.mdl ∧ (State.holdFault s p kind i).meter = s.meter
    ∧ (State.holdFault s p kind i).die = s.die ∧ (State.holdFault s p kind i).hub = s.hub
    ∧ (State.holdFault s p kind i).tsu.time = s.tsu.time ∧ (State.holdFault s p kind i).tsu.ports = s.tsu.ports
    ∧ (State.holdFault s p kind i).tsu.torn = s.tsu.torn ∧ (State.holdFault s p kind i).tsu.keys = s.tsu.keys
    ∧ (State.holdFault s p kind i).tsu.relKeys = s.tsu.relKeys ∧ (State.holdFault s p kind i).tsu.tdc = s.tsu.tdc
    ∧ (State.holdFault s p kind i).tsu.clk = s.tsu.clk ∧ (State.holdFault s p kind i).tsu.rings = s.tsu.rings
    ∧ (State.holdFault s p kind i).tsu.page = s.tsu.page ∧ (State.holdFault s p kind i).tsu.flt = s.tsu.flt
    ∧ (State.holdFault s p kind i).tsu.units = s.tsu.units
    ∧ (State.holdFault s p kind i).tsu.engines = s.tsu.engines ∧ (State.holdFault s p kind i).tsu.cnt = s.tsu.cnt
    ∧ (State.holdFault s p kind i).tsu.cfg = s.tsu.cfg ∧ (State.holdFault s p kind i).tsu.cycs = s.tsu.cycs
    ∧ (State.holdFault s p kind i).phi.time = s.phi.time ∧ (State.holdFault s p kind i).phi.ports = s.phi.ports
    ∧ (State.holdFault s p kind i).phi.torn = s.phi.torn ∧ (State.holdFault s p kind i).phi.keys = s.phi.keys
    ∧ (State.holdFault s p kind i).phi.relKeys = s.phi.relKeys ∧ (State.holdFault s p kind i).phi.tdc = s.phi.tdc
    ∧ (State.holdFault s p kind i).phi.clk = s.phi.clk ∧ (State.holdFault s p kind i).phi.rings = s.phi.rings
    ∧ (State.holdFault s p kind i).phi.page = s.phi.page ∧ (State.holdFault s p kind i).phi.flt = s.phi.flt
    ∧ (State.holdFault s p kind i).phi.units = s.phi.units
    ∧ (State.holdFault s p kind i).phi.engines = s.phi.engines ∧ (State.holdFault s p kind i).phi.cnt = s.phi.cnt
    ∧ (State.holdFault s p kind i).phi.cfg = s.phi.cfg ∧ (State.holdFault s p kind i).phi.cycs = s.phi.cycs := by
  refine ⟨?_, ?_, ?_, ?_, ?_, ?_, ?_, ?_, ?_, ?_, ?_, ?_, ?_, ?_, ?_, ?_, ?_, ?_, ?_, ?_, ?_, ?_, ?_, ?_, ?_, ?_, ?_, ?_, ?_, ?_, ?_, ?_, ?_, ?_, ?_, ?_, ?_, ?_⟩ <;> first | (simp [State.holdFault]; done)

@[simp] theorem State.holdFault_keeps_tsu (s : State) (kind : Nat) (i : Nat) :
    (State.holdFault s .tsu kind i).phi = s.phi := by simp [State.holdFault]

@[simp] theorem State.holdFault_keeps_phi (s : State) (kind : Nat) (i : Nat) :
    (State.holdFault s .phi kind i).tsu = s.tsu := by simp [State.holdFault]

@[simp] theorem State.countCause_keeps (s : State) (p : Part) (cause : Cause) :
    (State.countCause s p cause).pending = s.pending ∧ (State.countCause s p cause).cyc = s.cyc
    ∧ (State.countCause s p cause).freeNext = s.freeNext ∧ (State.countCause s p cause).out = s.out
    ∧ (State.countCause s p cause).mdl = s.mdl ∧ (State.countCause s p cause).meter = s.meter
    ∧ (State.countCause s p cause).die = s.die ∧ (State.countCause s p cause).hub = s.hub
    ∧ (State.countCause s p cause).tsu.time = s.tsu.time ∧ (State.countCause s p cause).tsu.ports = s.tsu.ports
    ∧ (State.countCause s p cause).tsu.torn = s.tsu.torn ∧ (State.countCause s p cause).tsu.keys = s.tsu.keys
    ∧ (State.countCause s p cause).tsu.relKeys = s.tsu.relKeys ∧ (State.countCause s p cause).tsu.tdc = s.tsu.tdc
    ∧ (State.countCause s p cause).tsu.clk = s.tsu.clk ∧ (State.countCause s p cause).tsu.rings = s.tsu.rings
    ∧ (State.countCause s p cause).tsu.page = s.tsu.page ∧ (State.countCause s p cause).tsu.units = s.tsu.units
    ∧ (State.countCause s p cause).tsu.engines = s.tsu.engines ∧ (State.countCause s p cause).tsu.gov = s.tsu.gov
    ∧ (State.countCause s p cause).tsu.cnt = s.tsu.cnt ∧ (State.countCause s p cause).tsu.cfg = s.tsu.cfg
    ∧ (State.countCause s p cause).tsu.cycs = s.tsu.cycs ∧ (State.countCause s p cause).phi.time = s.phi.time
    ∧ (State.countCause s p cause).phi.ports = s.phi.ports ∧ (State.countCause s p cause).phi.torn = s.phi.torn
    ∧ (State.countCause s p cause).phi.keys = s.phi.keys ∧ (State.countCause s p cause).phi.relKeys = s.phi.relKeys
    ∧ (State.countCause s p cause).phi.tdc = s.phi.tdc ∧ (State.countCause s p cause).phi.clk = s.phi.clk
    ∧ (State.countCause s p cause).phi.rings = s.phi.rings ∧ (State.countCause s p cause).phi.page = s.phi.page
    ∧ (State.countCause s p cause).phi.units = s.phi.units
    ∧ (State.countCause s p cause).phi.engines = s.phi.engines ∧ (State.countCause s p cause).phi.gov = s.phi.gov
    ∧ (State.countCause s p cause).phi.cnt = s.phi.cnt ∧ (State.countCause s p cause).phi.cfg = s.phi.cfg
    ∧ (State.countCause s p cause).phi.cycs = s.phi.cycs := by
  refine ⟨?_, ?_, ?_, ?_, ?_, ?_, ?_, ?_, ?_, ?_, ?_, ?_, ?_, ?_, ?_, ?_, ?_, ?_, ?_, ?_, ?_, ?_, ?_, ?_, ?_, ?_, ?_, ?_, ?_, ?_, ?_, ?_, ?_, ?_, ?_, ?_, ?_, ?_⟩ <;> first | (simp [State.countCause]; done)

@[simp] theorem State.countCause_keeps_tsu (s : State) (cause : Cause) :
    (State.countCause s .tsu cause).phi = s.phi := by simp [State.countCause]

@[simp] theorem State.countCause_keeps_phi (s : State) (cause : Cause) :
    (State.countCause s .phi cause).tsu = s.tsu := by simp [State.countCause]

@[simp] theorem State.recordLasting_keeps (s : State) (p : Part) (kind : Nat) (i : Nat) (cause : Cause) (detail : Nat) (ext : optParam (List Byte) []) :
    (State.recordLasting s p kind i cause detail ext).pending = s.pending
    ∧ (State.recordLasting s p kind i cause detail ext).cyc = s.cyc
    ∧ (State.recordLasting s p kind i cause detail ext).freeNext = s.freeNext
    ∧ (State.recordLasting s p kind i cause detail ext).mdl = s.mdl
    ∧ (State.recordLasting s p kind i cause detail ext).meter = s.meter
    ∧ (State.recordLasting s p kind i cause detail ext).die = s.die
    ∧ (State.recordLasting s p kind i cause detail ext).tsu.time = s.tsu.time
    ∧ (State.recordLasting s p kind i cause detail ext).tsu.torn = s.tsu.torn
    ∧ (State.recordLasting s p kind i cause detail ext).tsu.keys = s.tsu.keys
    ∧ (State.recordLasting s p kind i cause detail ext).tsu.relKeys = s.tsu.relKeys
    ∧ (State.recordLasting s p kind i cause detail ext).tsu.tdc = s.tsu.tdc
    ∧ (State.recordLasting s p kind i cause detail ext).tsu.clk = s.tsu.clk
    ∧ (State.recordLasting s p kind i cause detail ext).tsu.rings = s.tsu.rings
    ∧ (State.recordLasting s p kind i cause detail ext).tsu.page = s.tsu.page
    ∧ (State.recordLasting s p kind i cause detail ext).tsu.units = s.tsu.units
    ∧ (State.recordLasting s p kind i cause detail ext).tsu.engines = s.tsu.engines
    ∧ (State.recordLasting s p kind i cause detail ext).tsu.gov = s.tsu.gov
    ∧ (State.recordLasting s p kind i cause detail ext).tsu.cfg = s.tsu.cfg
    ∧ (State.recordLasting s p kind i cause detail ext).tsu.cycs = s.tsu.cycs
    ∧ (State.recordLasting s p kind i cause detail ext).phi.time = s.phi.time
    ∧ (State.recordLasting s p kind i cause detail ext).phi.torn = s.phi.torn
    ∧ (State.recordLasting s p kind i cause detail ext).phi.keys = s.phi.keys
    ∧ (State.recordLasting s p kind i cause detail ext).phi.relKeys = s.phi.relKeys
    ∧ (State.recordLasting s p kind i cause detail ext).phi.tdc = s.phi.tdc
    ∧ (State.recordLasting s p kind i cause detail ext).phi.clk = s.phi.clk
    ∧ (State.recordLasting s p kind i cause detail ext).phi.rings = s.phi.rings
    ∧ (State.recordLasting s p kind i cause detail ext).phi.page = s.phi.page
    ∧ (State.recordLasting s p kind i cause detail ext).phi.units = s.phi.units
    ∧ (State.recordLasting s p kind i cause detail ext).phi.engines = s.phi.engines
    ∧ (State.recordLasting s p kind i cause detail ext).phi.gov = s.phi.gov
    ∧ (State.recordLasting s p kind i cause detail ext).phi.cfg = s.phi.cfg
    ∧ (State.recordLasting s p kind i cause detail ext).phi.cycs = s.phi.cycs
    ∧ (State.recordLasting s p kind i cause detail ext).hub.storage = s.hub.storage
    ∧ (State.recordLasting s p kind i cause detail ext).hub.fw.state = s.hub.fw.state
    ∧ (State.recordLasting s p kind i cause detail ext).hub.pairs = s.hub.pairs
    ∧ (State.recordLasting s p kind i cause detail ext).hub.led = s.hub.led
    ∧ (State.recordLasting s p kind i cause detail ext).hub.seqs = s.hub.seqs := by
  refine ⟨?_, ?_, ?_, ?_, ?_, ?_, ?_, ?_, ?_, ?_, ?_, ?_, ?_, ?_, ?_, ?_, ?_, ?_, ?_, ?_, ?_, ?_, ?_, ?_, ?_, ?_, ?_, ?_, ?_, ?_, ?_, ?_, ?_, ?_, ?_, ?_, ?_⟩ <;> first | (simp [State.recordLasting]; done)

@[simp] theorem State.recordLasting_keeps_tsu (s : State) (kind : Nat) (i : Nat) (cause : Cause) (detail : Nat) (ext : optParam (List Byte) []) :
    (State.recordLasting s .tsu kind i cause detail ext).phi = s.phi
    ∧ (State.recordLasting s .tsu kind i cause detail ext).hub = s.hub := by
  refine ⟨?_, ?_⟩ <;> first | (simp [State.recordLasting]; done)

@[simp] theorem State.recordLasting_keeps_phi (s : State) (kind : Nat) (i : Nat) (cause : Cause) (detail : Nat) (ext : optParam (List Byte) []) :
    (State.recordLasting s .phi kind i cause detail ext).tsu = s.tsu := by simp [State.recordLasting]

end Sys2Proof.Machine
end

