-- ==== Sys2Proof/Laws/RingOps.lean ====
section
/-!
SUPPORT. What the operations and meanings of Machine/RingOps.lean leave unchanged.
-/

namespace Sys2Proof.Machine

@[simp] theorem State.updRing_keeps (s : State) (p : Part) (i : Nat) (f : Ring → Ring) :
    (State.updRing s p i f).pending = s.pending ∧ (State.updRing s p i f).cyc = s.cyc
    ∧ (State.updRing s p i f).freeNext = s.freeNext ∧ (State.updRing s p i f).out = s.out
    ∧ (State.updRing s p i f).mdl = s.mdl ∧ (State.updRing s p i f).meter = s.meter
    ∧ (State.updRing s p i f).die = s.die ∧ (State.updRing s p i f).hub = s.hub
    ∧ (State.updRing s p i f).tsu.time = s.tsu.time ∧ (State.updRing s p i f).tsu.ports = s.tsu.ports
    ∧ (State.updRing s p i f).tsu.torn = s.tsu.torn ∧ (State.updRing s p i f).tsu.keys = s.tsu.keys
    ∧ (State.updRing s p i f).tsu.relKeys = s.tsu.relKeys ∧ (State.updRing s p i f).tsu.tdc = s.tsu.tdc
    ∧ (State.updRing s p i f).tsu.clk = s.tsu.clk ∧ (State.updRing s p i f).tsu.page = s.tsu.page
    ∧ (State.updRing s p i f).tsu.flt = s.tsu.flt ∧ (State.updRing s p i f).tsu.units = s.tsu.units
    ∧ (State.updRing s p i f).tsu.engines = s.tsu.engines ∧ (State.updRing s p i f).tsu.gov = s.tsu.gov
    ∧ (State.updRing s p i f).tsu.cnt = s.tsu.cnt ∧ (State.updRing s p i f).tsu.cfg = s.tsu.cfg
    ∧ (State.updRing s p i f).tsu.cycs = s.tsu.cycs ∧ (State.updRing s p i f).phi.time = s.phi.time
    ∧ (State.updRing s p i f).phi.ports = s.phi.ports ∧ (State.updRing s p i f).phi.torn = s.phi.torn
    ∧ (State.updRing s p i f).phi.keys = s.phi.keys ∧ (State.updRing s p i f).phi.relKeys = s.phi.relKeys
    ∧ (State.updRing s p i f).phi.tdc = s.phi.tdc ∧ (State.updRing s p i f).phi.clk = s.phi.clk
    ∧ (State.updRing s p i f).phi.page = s.phi.page ∧ (State.updRing s p i f).phi.flt = s.phi.flt
    ∧ (State.updRing s p i f).phi.units = s.phi.units ∧ (State.updRing s p i f).phi.engines = s.phi.engines
    ∧ (State.updRing s p i f).phi.gov = s.phi.gov ∧ (State.updRing s p i f).phi.cnt = s.phi.cnt
    ∧ (State.updRing s p i f).phi.cfg = s.phi.cfg ∧ (State.updRing s p i f).phi.cycs = s.phi.cycs := by
  refine ⟨?_, ?_, ?_, ?_, ?_, ?_, ?_, ?_, ?_, ?_, ?_, ?_, ?_, ?_, ?_, ?_, ?_, ?_, ?_, ?_, ?_, ?_, ?_, ?_, ?_, ?_, ?_, ?_, ?_, ?_, ?_, ?_, ?_, ?_, ?_, ?_, ?_, ?_⟩ <;> first | (simp [State.updRing]; done)

@[simp] theorem State.updRing_keeps_tsu (s : State) (i : Nat) (f : Ring → Ring) :
    (State.updRing s .tsu i f).phi = s.phi := by simp [State.updRing]

@[simp] theorem State.updRing_keeps_phi (s : State) (i : Nat) (f : Ring → Ring) :
    (State.updRing s .phi i f).tsu = s.tsu := by simp [State.updRing]

@[simp] theorem State.ringIrq_keeps (s : State) (p : Part) (i : Nat) :
    (State.ringIrq s p i).pending = s.pending ∧ (State.ringIrq s p i).cyc = s.cyc
    ∧ (State.ringIrq s p i).freeNext = s.freeNext ∧ (State.ringIrq s p i).mdl = s.mdl
    ∧ (State.ringIrq s p i).meter = s.meter ∧ (State.ringIrq s p i).die = s.die
    ∧ (State.ringIrq s p i).tsu.time = s.tsu.time ∧ (State.ringIrq s p i).tsu.ports = s.tsu.ports
    ∧ (State.ringIrq s p i).tsu.torn = s.tsu.torn ∧ (State.ringIrq s p i).tsu.keys = s.tsu.keys
    ∧ (State.ringIrq s p i).tsu.relKeys = s.tsu.relKeys ∧ (State.ringIrq s p i).tsu.tdc = s.tsu.tdc
    ∧ (State.ringIrq s p i).tsu.clk = s.tsu.clk ∧ (State.ringIrq s p i).tsu.page = s.tsu.page
    ∧ (State.ringIrq s p i).tsu.flt = s.tsu.flt ∧ (State.ringIrq s p i).tsu.units = s.tsu.units
    ∧ (State.ringIrq s p i).tsu.engines = s.tsu.engines ∧ (State.ringIrq s p i).tsu.gov = s.tsu.gov
    ∧ (State.ringIrq s p i).tsu.cnt = s.tsu.cnt ∧ (State.ringIrq s p i).tsu.cfg = s.tsu.cfg
    ∧ (State.ringIrq s p i).tsu.cycs = s.tsu.cycs ∧ (State.ringIrq s p i).phi.time = s.phi.time
    ∧ (State.ringIrq s p i).phi.ports = s.phi.ports ∧ (State.ringIrq s p i).phi.torn = s.phi.torn
    ∧ (State.ringIrq s p i).phi.keys = s.phi.keys ∧ (State.ringIrq s p i).phi.relKeys = s.phi.relKeys
    ∧ (State.ringIrq s p i).phi.tdc = s.phi.tdc ∧ (State.ringIrq s p i).phi.clk = s.phi.clk
    ∧ (State.ringIrq s p i).phi.page = s.phi.page ∧ (State.ringIrq s p i).phi.flt = s.phi.flt
    ∧ (State.ringIrq s p i).phi.units = s.phi.units ∧ (State.ringIrq s p i).phi.engines = s.phi.engines
    ∧ (State.ringIrq s p i).phi.gov = s.phi.gov ∧ (State.ringIrq s p i).phi.cnt = s.phi.cnt
    ∧ (State.ringIrq s p i).phi.cfg = s.phi.cfg ∧ (State.ringIrq s p i).phi.cycs = s.phi.cycs
    ∧ (State.ringIrq s p i).hub.storage = s.hub.storage ∧ (State.ringIrq s p i).hub.fw.state = s.hub.fw.state
    ∧ (State.ringIrq s p i).hub.pairs = s.hub.pairs ∧ (State.ringIrq s p i).hub.led = s.hub.led
    ∧ (State.ringIrq s p i).hub.seqs = s.hub.seqs := by
  refine ⟨?_, ?_, ?_, ?_, ?_, ?_, ?_, ?_, ?_, ?_, ?_, ?_, ?_, ?_, ?_, ?_, ?_, ?_, ?_, ?_, ?_, ?_, ?_, ?_, ?_, ?_, ?_, ?_, ?_, ?_, ?_, ?_, ?_, ?_, ?_, ?_, ?_, ?_, ?_, ?_, ?_⟩ <;> first | (simp [State.ringIrq]; done)

@[simp] theorem State.ringIrq_keeps_tsu (s : State) (i : Nat) :
    (State.ringIrq s .tsu i).phi = s.phi ∧ (State.ringIrq s .tsu i).hub = s.hub := by
  refine ⟨?_, ?_⟩ <;> first | (simp [State.ringIrq]; done)

@[simp] theorem State.ringIrq_keeps_phi (s : State) (i : Nat) :
    (State.ringIrq s .phi i).tsu = s.tsu := by simp [State.ringIrq]

@[simp] theorem State.writeCpl_keeps (s : State) (p : Part) (i : Nat) (c : Cpl) :
    (State.writeCpl s p i c).pending = s.pending ∧ (State.writeCpl s p i c).cyc = s.cyc
    ∧ (State.writeCpl s p i c).freeNext = s.freeNext ∧ (State.writeCpl s p i c).mdl = s.mdl
    ∧ (State.writeCpl s p i c).meter = s.meter ∧ (State.writeCpl s p i c).die = s.die
    ∧ (State.writeCpl s p i c).tsu.time = s.tsu.time ∧ (State.writeCpl s p i c).tsu.ports = s.tsu.ports
    ∧ (State.writeCpl s p i c).tsu.torn = s.tsu.torn ∧ (State.writeCpl s p i c).tsu.keys = s.tsu.keys
    ∧ (State.writeCpl s p i c).tsu.relKeys = s.tsu.relKeys ∧ (State.writeCpl s p i c).tsu.tdc = s.tsu.tdc
    ∧ (State.writeCpl s p i c).tsu.clk = s.tsu.clk ∧ (State.writeCpl s p i c).tsu.page = s.tsu.page
    ∧ (State.writeCpl s p i c).tsu.flt = s.tsu.flt ∧ (State.writeCpl s p i c).tsu.units = s.tsu.units
    ∧ (State.writeCpl s p i c).tsu.engines = s.tsu.engines ∧ (State.writeCpl s p i c).tsu.gov = s.tsu.gov
    ∧ (State.writeCpl s p i c).tsu.cfg = s.tsu.cfg ∧ (State.writeCpl s p i c).tsu.cycs = s.tsu.cycs
    ∧ (State.writeCpl s p i c).phi.time = s.phi.time ∧ (State.writeCpl s p i c).phi.ports = s.phi.ports
    ∧ (State.writeCpl s p i c).phi.torn = s.phi.torn ∧ (State.writeCpl s p i c).phi.keys = s.phi.keys
    ∧ (State.writeCpl s p i c).phi.relKeys = s.phi.relKeys ∧ (State.writeCpl s p i c).phi.tdc = s.phi.tdc
    ∧ (State.writeCpl s p i c).phi.clk = s.phi.clk ∧ (State.writeCpl s p i c).phi.page = s.phi.page
    ∧ (State.writeCpl s p i c).phi.flt = s.phi.flt ∧ (State.writeCpl s p i c).phi.units = s.phi.units
    ∧ (State.writeCpl s p i c).phi.engines = s.phi.engines ∧ (State.writeCpl s p i c).phi.gov = s.phi.gov
    ∧ (State.writeCpl s p i c).phi.cfg = s.phi.cfg ∧ (State.writeCpl s p i c).phi.cycs = s.phi.cycs
    ∧ (State.writeCpl s p i c).hub.storage = s.hub.storage ∧ (State.writeCpl s p i c).hub.fw.state = s.hub.fw.state
    ∧ (State.writeCpl s p i c).hub.pairs = s.hub.pairs ∧ (State.writeCpl s p i c).hub.led = s.hub.led
    ∧ (State.writeCpl s p i c).hub.seqs = s.hub.seqs := by
  refine ⟨?_, ?_, ?_, ?_, ?_, ?_, ?_, ?_, ?_, ?_, ?_, ?_, ?_, ?_, ?_, ?_, ?_, ?_, ?_, ?_, ?_, ?_, ?_, ?_, ?_, ?_, ?_, ?_, ?_, ?_, ?_, ?_, ?_, ?_, ?_, ?_, ?_, ?_, ?_⟩ <;> first | (simp [State.writeCpl]; done)

@[simp] theorem State.writeCpl_keeps_tsu (s : State) (i : Nat) (c : Cpl) :
    (State.writeCpl s .tsu i c).phi = s.phi ∧ (State.writeCpl s .tsu i c).hub = s.hub := by
  refine ⟨?_, ?_⟩ <;> first | (simp [State.writeCpl]; done)

@[simp] theorem State.writeCpl_keeps_phi (s : State) (i : Nat) (c : Cpl) :
    (State.writeCpl s .phi i c).tsu = s.tsu := by simp [State.writeCpl]

@[simp] theorem State.flushCpl_keeps (s : State) (p : Part) (i : Nat) (x3 : List Cpl) :
    (State.flushCpl s p i x3).pending = s.pending ∧ (State.flushCpl s p i x3).cyc = s.cyc
    ∧ (State.flushCpl s p i x3).freeNext = s.freeNext ∧ (State.flushCpl s p i x3).mdl = s.mdl
    ∧ (State.flushCpl s p i x3).meter = s.meter ∧ (State.flushCpl s p i x3).die = s.die := by
  refine ⟨?_, ?_, ?_, ?_, ?_, ?_⟩ <;> first | (induction x3 generalizing s <;> simp_all [State.flushCpl]; done)

@[simp] theorem State.flushCpl_keeps2 (s : State) (p : Part) (i : Nat) (x3 : List Cpl) :
    (State.flushCpl s p i x3).tsu.time = s.tsu.time ∧ (State.flushCpl s p i x3).tsu.ports = s.tsu.ports
    ∧ (State.flushCpl s p i x3).tsu.torn = s.tsu.torn ∧ (State.flushCpl s p i x3).tsu.keys = s.tsu.keys
    ∧ (State.flushCpl s p i x3).tsu.relKeys = s.tsu.relKeys ∧ (State.flushCpl s p i x3).tsu.tdc = s.tsu.tdc := by
  refine ⟨?_, ?_, ?_, ?_, ?_, ?_⟩ <;> first | (induction x3 generalizing s <;> simp_all [State.flushCpl]; done)

@[simp] theorem State.flushCpl_keeps3 (s : State) (p : Part) (i : Nat) (x3 : List Cpl) :
    (State.flushCpl s p i x3).tsu.clk = s.tsu.clk ∧ (State.flushCpl s p i x3).tsu.page = s.tsu.page
    ∧ (State.flushCpl s p i x3).tsu.flt = s.tsu.flt ∧ (State.flushCpl s p i x3).tsu.units = s.tsu.units
    ∧ (State.flushCpl s p i x3).tsu.engines = s.tsu.engines ∧ (State.flushCpl s p i x3).tsu.gov = s.tsu.gov := by
  refine ⟨?_, ?_, ?_, ?_, ?_, ?_⟩ <;> first | (induction x3 generalizing s <;> simp_all [State.flushCpl]; done)

@[simp] theorem State.flushCpl_keeps4 (s : State) (p : Part) (i : Nat) (x3 : List Cpl) :
    (State.flushCpl s p i x3).tsu.cfg = s.tsu.cfg ∧ (State.flushCpl s p i x3).tsu.cycs = s.tsu.cycs
    ∧ (State.flushCpl s p i x3).phi.time = s.phi.time ∧ (State.flushCpl s p i x3).phi.ports = s.phi.ports
    ∧ (State.flushCpl s p i x3).phi.torn = s.phi.torn ∧ (State.flushCpl s p i x3).phi.keys = s.phi.keys := by
  refine ⟨?_, ?_, ?_, ?_, ?_, ?_⟩ <;> first | (induction x3 generalizing s <;> simp_all [State.flushCpl]; done)

@[simp] theorem State.flushCpl_keeps5 (s : State) (p : Part) (i : Nat) (x3 : List Cpl) :
    (State.flushCpl s p i x3).phi.relKeys = s.phi.relKeys ∧ (State.flushCpl s p i x3).phi.tdc = s.phi.tdc
    ∧ (State.flushCpl s p i x3).phi.clk = s.phi.clk ∧ (State.flushCpl s p i x3).phi.page = s.phi.page
    ∧ (State.flushCpl s p i x3).phi.flt = s.phi.flt ∧ (State.flushCpl s p i x3).phi.units = s.phi.units := by
  refine ⟨?_, ?_, ?_, ?_, ?_, ?_⟩ <;> first | (induction x3 generalizing s <;> simp_all [State.flushCpl]; done)

@[simp] theorem State.flushCpl_keeps6 (s : State) (p : Part) (i : Nat) (x3 : List Cpl) :
    (State.flushCpl s p i x3).phi.engines = s.phi.engines ∧ (State.flushCpl s p i x3).phi.gov = s.phi.gov
    ∧ (State.flushCpl s p i x3).phi.cfg = s.phi.cfg ∧ (State.flushCpl s p i x3).phi.cycs = s.phi.cycs
    ∧ (State.flushCpl s p i x3).hub.storage = s.hub.storage
    ∧ (State.flushCpl s p i x3).hub.fw.state = s.hub.fw.state := by
  refine ⟨?_, ?_, ?_, ?_, ?_, ?_⟩ <;> first | (induction x3 generalizing s <;> simp_all [State.flushCpl]; done)

@[simp] theorem State.flushCpl_keeps7 (s : State) (p : Part) (i : Nat) (x3 : List Cpl) :
    (State.flushCpl s p i x3).hub.pairs = s.hub.pairs ∧ (State.flushCpl s p i x3).hub.led = s.hub.led
    ∧ (State.flushCpl s p i x3).hub.seqs = s.hub.seqs := by
  refine ⟨?_, ?_, ?_⟩ <;> first | (induction x3 generalizing s <;> simp_all [State.flushCpl]; done)

@[simp] theorem State.flushCpl_keeps_tsu (s : State) (i : Nat) (x3 : List Cpl) :
    (State.flushCpl s .tsu i x3).phi = s.phi ∧ (State.flushCpl s .tsu i x3).hub = s.hub := by
  refine ⟨?_, ?_⟩ <;> first | (induction x3 generalizing s <;> simp_all [State.flushCpl]; done)

@[simp] theorem State.flushCpl_keeps_phi (s : State) (i : Nat) (x3 : List Cpl) :
    (State.flushCpl s .phi i x3).tsu = s.tsu := by induction x3 generalizing s <;> simp_all [State.flushCpl]

@[simp] theorem State.addCpl_keeps (s : State) (p : Part) (i : Nat) (cs : List Cpl) :
    (State.addCpl s p i cs).pending = s.pending ∧ (State.addCpl s p i cs).cyc = s.cyc
    ∧ (State.addCpl s p i cs).freeNext = s.freeNext ∧ (State.addCpl s p i cs).mdl = s.mdl
    ∧ (State.addCpl s p i cs).meter = s.meter ∧ (State.addCpl s p i cs).die = s.die
    ∧ (State.addCpl s p i cs).tsu.time = s.tsu.time ∧ (State.addCpl s p i cs).tsu.ports = s.tsu.ports
    ∧ (State.addCpl s p i cs).tsu.torn = s.tsu.torn ∧ (State.addCpl s p i cs).tsu.keys = s.tsu.keys
    ∧ (State.addCpl s p i cs).tsu.relKeys = s.tsu.relKeys ∧ (State.addCpl s p i cs).tsu.tdc = s.tsu.tdc
    ∧ (State.addCpl s p i cs).tsu.clk = s.tsu.clk ∧ (State.addCpl s p i cs).tsu.page = s.tsu.page
    ∧ (State.addCpl s p i cs).tsu.flt = s.tsu.flt ∧ (State.addCpl s p i cs).tsu.units = s.tsu.units
    ∧ (State.addCpl s p i cs).tsu.engines = s.tsu.engines ∧ (State.addCpl s p i cs).tsu.gov = s.tsu.gov
    ∧ (State.addCpl s p i cs).tsu.cfg = s.tsu.cfg ∧ (State.addCpl s p i cs).tsu.cycs = s.tsu.cycs
    ∧ (State.addCpl s p i cs).phi.time = s.phi.time ∧ (State.addCpl s p i cs).phi.ports = s.phi.ports
    ∧ (State.addCpl s p i cs).phi.torn = s.phi.torn ∧ (State.addCpl s p i cs).phi.keys = s.phi.keys
    ∧ (State.addCpl s p i cs).phi.relKeys = s.phi.relKeys ∧ (State.addCpl s p i cs).phi.tdc = s.phi.tdc
    ∧ (State.addCpl s p i cs).phi.clk = s.phi.clk ∧ (State.addCpl s p i cs).phi.page = s.phi.page
    ∧ (State.addCpl s p i cs).phi.flt = s.phi.flt ∧ (State.addCpl s p i cs).phi.units = s.phi.units
    ∧ (State.addCpl s p i cs).phi.engines = s.phi.engines ∧ (State.addCpl s p i cs).phi.gov = s.phi.gov
    ∧ (State.addCpl s p i cs).phi.cfg = s.phi.cfg ∧ (State.addCpl s p i cs).phi.cycs = s.phi.cycs
    ∧ (State.addCpl s p i cs).hub.storage = s.hub.storage ∧ (State.addCpl s p i cs).hub.fw.state = s.hub.fw.state
    ∧ (State.addCpl s p i cs).hub.pairs = s.hub.pairs ∧ (State.addCpl s p i cs).hub.led = s.hub.led
    ∧ (State.addCpl s p i cs).hub.seqs = s.hub.seqs := by
  refine ⟨?_, ?_, ?_, ?_, ?_, ?_, ?_, ?_, ?_, ?_, ?_, ?_, ?_, ?_, ?_, ?_, ?_, ?_, ?_, ?_, ?_, ?_, ?_, ?_, ?_, ?_, ?_, ?_, ?_, ?_, ?_, ?_, ?_, ?_, ?_, ?_, ?_, ?_, ?_⟩ <;> first | (simp [State.addCpl]; done)

@[simp] theorem State.addCpl_keeps_tsu (s : State) (i : Nat) (cs : List Cpl) :
    (State.addCpl s .tsu i cs).phi = s.phi ∧ (State.addCpl s .tsu i cs).hub = s.hub := by
  refine ⟨?_, ?_⟩ <;> first | (simp [State.addCpl]; done)

@[simp] theorem State.addCpl_keeps_phi (s : State) (i : Nat) (cs : List Cpl) :
    (State.addCpl s .phi i cs).tsu = s.tsu := by simp [State.addCpl]

@[simp] theorem State.traceCmd_keeps (s : State) (p : Part) (i : Nat) (d : Desc) (last : Bool) (result : Nat) :
    (State.traceCmd s p i d last result).pending = s.pending ∧ (State.traceCmd s p i d last result).cyc = s.cyc
    ∧ (State.traceCmd s p i d last result).mdl = s.mdl ∧ (State.traceCmd s p i d last result).meter = s.meter
    ∧ (State.traceCmd s p i d last result).die = s.die ∧ (State.traceCmd s p i d last result).tsu = s.tsu
    ∧ (State.traceCmd s p i d last result).phi = s.phi
    ∧ (State.traceCmd s p i d last result).hub.storage = s.hub.storage
    ∧ (State.traceCmd s p i d last result).hub.fw.state = s.hub.fw.state
    ∧ (State.traceCmd s p i d last result).hub.pairs = s.hub.pairs
    ∧ (State.traceCmd s p i d last result).hub.led = s.hub.led
    ∧ (State.traceCmd s p i d last result).hub.seqs = s.hub.seqs := by
  simp only [State.traceCmd] <;> (repeat' split) <;> first | (simp; done) | (simp [*]; done) | (refine ⟨?_, ?_, ?_, ?_, ?_, ?_, ?_, ?_, ?_, ?_, ?_, ?_⟩ <;> first | rfl | (simp; done) | (simp [*]; done))

@[simp] theorem State.traceCmd_keeps_tsu (s : State) (i : Nat) (d : Desc) (last : Bool) (result : Nat) :
    (State.traceCmd s .tsu i d last result).hub = s.hub := by simp [State.traceCmd]

@[simp] theorem State.finish_keeps (s : State) (p : Part) (i : Nat) (idx : Nat) (st : Status) (cause : W16) (result : W64) :
    (State.finish s p i idx st cause result).pending = s.pending ∧ (State.finish s p i idx st cause result).cyc = s.cyc
    ∧ (State.finish s p i idx st cause result).mdl = s.mdl
    ∧ (State.finish s p i idx st cause result).meter = s.meter
    ∧ (State.finish s p i idx st cause result).die = s.die
    ∧ (State.finish s p i idx st cause result).tsu.time = s.tsu.time
    ∧ (State.finish s p i idx st cause result).tsu.ports = s.tsu.ports
    ∧ (State.finish s p i idx st cause result).tsu.torn = s.tsu.torn
    ∧ (State.finish s p i idx st cause result).tsu.keys = s.tsu.keys
    ∧ (State.finish s p i idx st cause result).tsu.relKeys = s.tsu.relKeys
    ∧ (State.finish s p i idx st cause result).tsu.tdc = s.tsu.tdc
    ∧ (State.finish s p i idx st cause result).tsu.clk = s.tsu.clk
    ∧ (State.finish s p i idx st cause result).tsu.page = s.tsu.page
    ∧ (State.finish s p i idx st cause result).tsu.flt = s.tsu.flt
    ∧ (State.finish s p i idx st cause result).tsu.units = s.tsu.units
    ∧ (State.finish s p i idx st cause result).tsu.engines = s.tsu.engines
    ∧ (State.finish s p i idx st cause result).tsu.gov = s.tsu.gov
    ∧ (State.finish s p i idx st cause result).tsu.cfg = s.tsu.cfg
    ∧ (State.finish s p i idx st cause result).tsu.cycs = s.tsu.cycs
    ∧ (State.finish s p i idx st cause result).phi.time = s.phi.time
    ∧ (State.finish s p i idx st cause result).phi.ports = s.phi.ports
    ∧ (State.finish s p i idx st cause result).phi.torn = s.phi.torn
    ∧ (State.finish s p i idx st cause result).phi.keys = s.phi.keys
    ∧ (State.finish s p i idx st cause result).phi.relKeys = s.phi.relKeys
    ∧ (State.finish s p i idx st cause result).phi.tdc = s.phi.tdc
    ∧ (State.finish s p i idx st cause result).phi.clk = s.phi.clk
    ∧ (State.finish s p i idx st cause result).phi.page = s.phi.page
    ∧ (State.finish s p i idx st cause result).phi.flt = s.phi.flt
    ∧ (State.finish s p i idx st cause result).phi.units = s.phi.units
    ∧ (State.finish s p i idx st cause result).phi.engines = s.phi.engines
    ∧ (State.finish s p i idx st cause result).phi.gov = s.phi.gov
    ∧ (State.finish s p i idx st cause result).phi.cfg = s.phi.cfg
    ∧ (State.finish s p i idx st cause result).phi.cycs = s.phi.cycs
    ∧ (State.finish s p i idx st cause result).hub.storage = s.hub.storage
    ∧ (State.finish s p i idx st cause result).hub.fw.state = s.hub.fw.state
    ∧ (State.finish s p i idx st cause result).hub.pairs = s.hub.pairs
    ∧ (State.finish s p i idx st cause result).hub.led = s.hub.led
    ∧ (State.finish s p i idx st cause result).hub.seqs = s.hub.seqs := by
  simp only [State.finish] <;> (repeat' split) <;> first | (simp; done) | (simp [*]; done) | (refine ⟨?_, ?_, ?_, ?_, ?_, ?_, ?_, ?_, ?_, ?_, ?_, ?_, ?_, ?_, ?_, ?_, ?_, ?_, ?_, ?_, ?_, ?_, ?_, ?_, ?_, ?_, ?_, ?_, ?_, ?_, ?_, ?_, ?_, ?_, ?_, ?_, ?_, ?_⟩ <;> first | rfl | (simp; done) | (simp [*]; done))

@[simp] theorem State.finish_keeps_tsu (s : State) (i : Nat) (idx : Nat) (st : Status) (cause : W16) (result : W64) :
    (State.finish s .tsu i idx st cause result).phi = s.phi := by simp only [State.finish] <;> (repeat' split) <;> first | rfl | (simp; done) | (simp [*]; done)

@[simp] theorem State.finish_keeps_phi (s : State) (i : Nat) (idx : Nat) (st : Status) (cause : W16) (result : W64) :
    (State.finish s .phi i idx st cause result).tsu = s.tsu := by simp only [State.finish] <;> (repeat' split) <;> first | rfl | (simp; done) | (simp [*]; done)

@[simp] theorem State.finishOpt_keeps (s : State) (p : Part) (r : Option (Nat × Nat)) (st : Status) (cause : W16) (result : W64) :
    (State.finishOpt s p r st cause result).pending = s.pending ∧ (State.finishOpt s p r st cause result).cyc = s.cyc
    ∧ (State.finishOpt s p r st cause result).mdl = s.mdl ∧ (State.finishOpt s p r st cause result).meter = s.meter
    ∧ (State.finishOpt s p r st cause result).die = s.die
    ∧ (State.finishOpt s p r st cause result).tsu.time = s.tsu.time
    ∧ (State.finishOpt s p r st cause result).tsu.ports = s.tsu.ports
    ∧ (State.finishOpt s p r st cause result).tsu.torn = s.tsu.torn
    ∧ (State.finishOpt s p r st cause result).tsu.keys = s.tsu.keys
    ∧ (State.finishOpt s p r st cause result).tsu.relKeys = s.tsu.relKeys
    ∧ (State.finishOpt s p r st cause result).tsu.tdc = s.tsu.tdc
    ∧ (State.finishOpt s p r st cause result).tsu.clk = s.tsu.clk
    ∧ (State.finishOpt s p r st cause result).tsu.page = s.tsu.page
    ∧ (State.finishOpt s p r st cause result).tsu.flt = s.tsu.flt
    ∧ (State.finishOpt s p r st cause result).tsu.units = s.tsu.units
    ∧ (State.finishOpt s p r st cause result).tsu.engines = s.tsu.engines
    ∧ (State.finishOpt s p r st cause result).tsu.gov = s.tsu.gov
    ∧ (State.finishOpt s p r st cause result).tsu.cfg = s.tsu.cfg
    ∧ (State.finishOpt s p r st cause result).tsu.cycs = s.tsu.cycs
    ∧ (State.finishOpt s p r st cause result).phi.time = s.phi.time
    ∧ (State.finishOpt s p r st cause result).phi.ports = s.phi.ports
    ∧ (State.finishOpt s p r st cause result).phi.torn = s.phi.torn
    ∧ (State.finishOpt s p r st cause result).phi.keys = s.phi.keys
    ∧ (State.finishOpt s p r st cause result).phi.relKeys = s.phi.relKeys
    ∧ (State.finishOpt s p r st cause result).phi.tdc = s.phi.tdc
    ∧ (State.finishOpt s p r st cause result).phi.clk = s.phi.clk
    ∧ (State.finishOpt s p r st cause result).phi.page = s.phi.page
    ∧ (State.finishOpt s p r st cause result).phi.flt = s.phi.flt
    ∧ (State.finishOpt s p r st cause result).phi.units = s.phi.units
    ∧ (State.finishOpt s p r st cause result).phi.engines = s.phi.engines
    ∧ (State.finishOpt s p r st cause result).phi.gov = s.phi.gov
    ∧ (State.finishOpt s p r st cause result).phi.cfg = s.phi.cfg
    ∧ (State.finishOpt s p r st cause result).phi.cycs = s.phi.cycs
    ∧ (State.finishOpt s p r st cause result).hub.storage = s.hub.storage
    ∧ (State.finishOpt s p r st cause result).hub.fw.state = s.hub.fw.state
    ∧ (State.finishOpt s p r st cause result).hub.pairs = s.hub.pairs
    ∧ (State.finishOpt s p r st cause result).hub.led = s.hub.led
    ∧ (State.finishOpt s p r st cause result).hub.seqs = s.hub.seqs := by
  simp only [State.finishOpt] <;> (repeat' split) <;> first | (simp; done) | (simp [*]; done) | (refine ⟨?_, ?_, ?_, ?_, ?_, ?_, ?_, ?_, ?_, ?_, ?_, ?_, ?_, ?_, ?_, ?_, ?_, ?_, ?_, ?_, ?_, ?_, ?_, ?_, ?_, ?_, ?_, ?_, ?_, ?_, ?_, ?_, ?_, ?_, ?_, ?_, ?_, ?_⟩ <;> first | rfl | (simp; done) | (simp [*]; done))

@[simp] theorem State.finishOpt_keeps_tsu (s : State) (r : Option (Nat × Nat)) (st : Status) (cause : W16) (result : W64) :
    (State.finishOpt s .tsu r st cause result).phi = s.phi := by simp only [State.finishOpt] <;> (repeat' split) <;> first | rfl | (simp; done) | (simp [*]; done)

@[simp] theorem State.finishOpt_keeps_phi (s : State) (r : Option (Nat × Nat)) (st : Status) (cause : W16) (result : W64) :
    (State.finishOpt s .phi r st cause result).tsu = s.tsu := by simp only [State.finishOpt] <;> (repeat' split) <;> first | rfl | (simp; done) | (simp [*]; done)

@[simp] theorem State.markApplied_keeps (s : State) (p : Part) (i : Nat) (idx : Nat) :
    (State.markApplied s p i idx).pending = s.pending ∧ (State.markApplied s p i idx).cyc = s.cyc
    ∧ (State.markApplied s p i idx).freeNext = s.freeNext ∧ (State.markApplied s p i idx).out = s.out
    ∧ (State.markApplied s p i idx).mdl = s.mdl ∧ (State.markApplied s p i idx).meter = s.meter
    ∧ (State.markApplied s p i idx).die = s.die ∧ (State.markApplied s p i idx).hub = s.hub
    ∧ (State.markApplied s p i idx).tsu.time = s.tsu.time ∧ (State.markApplied s p i idx).tsu.ports = s.tsu.ports
    ∧ (State.markApplied s p i idx).tsu.torn = s.tsu.torn ∧ (State.markApplied s p i idx).tsu.keys = s.tsu.keys
    ∧ (State.markApplied s p i idx).tsu.relKeys = s.tsu.relKeys ∧ (State.markApplied s p i idx).tsu.tdc = s.tsu.tdc
    ∧ (State.markApplied s p i idx).tsu.clk = s.tsu.clk ∧ (State.markApplied s p i idx).tsu.page = s.tsu.page
    ∧ (State.markApplied s p i idx).tsu.flt = s.tsu.flt ∧ (State.markApplied s p i idx).tsu.units = s.tsu.units
    ∧ (State.markApplied s p i idx).tsu.engines = s.tsu.engines ∧ (State.markApplied s p i idx).tsu.gov = s.tsu.gov
    ∧ (State.markApplied s p i idx).tsu.cnt = s.tsu.cnt ∧ (State.markApplied s p i idx).tsu.cfg = s.tsu.cfg
    ∧ (State.markApplied s p i idx).tsu.cycs = s.tsu.cycs ∧ (State.markApplied s p i idx).phi.time = s.phi.time
    ∧ (State.markApplied s p i idx).phi.ports = s.phi.ports ∧ (State.markApplied s p i idx).phi.torn = s.phi.torn
    ∧ (State.markApplied s p i idx).phi.keys = s.phi.keys
    ∧ (State.markApplied s p i idx).phi.relKeys = s.phi.relKeys ∧ (State.markApplied s p i idx).phi.tdc = s.phi.tdc
    ∧ (State.markApplied s p i idx).phi.clk = s.phi.clk ∧ (State.markApplied s p i idx).phi.page = s.phi.page
    ∧ (State.markApplied s p i idx).phi.flt = s.phi.flt ∧ (State.markApplied s p i idx).phi.units = s.phi.units
    ∧ (State.markApplied s p i idx).phi.engines = s.phi.engines ∧ (State.markApplied s p i idx).phi.gov = s.phi.gov
    ∧ (State.markApplied s p i idx).phi.cnt = s.phi.cnt ∧ (State.markApplied s p i idx).phi.cfg = s.phi.cfg
    ∧ (State.markApplied s p i idx).phi.cycs = s.phi.cycs := by
  refine ⟨?_, ?_, ?_, ?_, ?_, ?_, ?_, ?_, ?_, ?_, ?_, ?_, ?_, ?_, ?_, ?_, ?_, ?_, ?_, ?_, ?_, ?_, ?_, ?_, ?_, ?_, ?_, ?_, ?_, ?_, ?_, ?_, ?_, ?_, ?_, ?_, ?_, ?_⟩ <;> first | (simp [State.markApplied]; done)

@[simp] theorem State.markApplied_keeps_tsu (s : State) (i : Nat) (idx : Nat) :
    (State.markApplied s .tsu i idx).phi = s.phi := by simp [State.markApplied]

@[simp] theorem State.markApplied_keeps_phi (s : State) (i : Nat) (idx : Nat) :
    (State.markApplied s .phi i idx).tsu = s.tsu := by simp [State.markApplied]

@[simp] theorem State.startDesc_keeps (s : State) (p : Part) (i : Nat) (idx : Nat) :
    (State.startDesc s p i idx).pending = s.pending ∧ (State.startDesc s p i idx).cyc = s.cyc
    ∧ (State.startDesc s p i idx).freeNext = s.freeNext ∧ (State.startDesc s p i idx).out = s.out
    ∧ (State.startDesc s p i idx).mdl = s.mdl ∧ (State.startDesc s p i idx).meter = s.meter
    ∧ (State.startDesc s p i idx).die = s.die ∧ (State.startDesc s p i idx).hub = s.hub
    ∧ (State.startDesc s p i idx).tsu.time = s.tsu.time ∧ (State.startDesc s p i idx).tsu.ports = s.tsu.ports
    ∧ (State.startDesc s p i idx).tsu.torn = s.tsu.torn ∧ (State.startDesc s p i idx).tsu.keys = s.tsu.keys
    ∧ (State.startDesc s p i idx).tsu.relKeys = s.tsu.relKeys ∧ (State.startDesc s p i idx).tsu.tdc = s.tsu.tdc
    ∧ (State.startDesc s p i idx).tsu.clk = s.tsu.clk ∧ (State.startDesc s p i idx).tsu.page = s.tsu.page
    ∧ (State.startDesc s p i idx).tsu.flt = s.tsu.flt ∧ (State.startDesc s p i idx).tsu.units = s.tsu.units
    ∧ (State.startDesc s p i idx).tsu.engines = s.tsu.engines ∧ (State.startDesc s p i idx).tsu.gov = s.tsu.gov
    ∧ (State.startDesc s p i idx).tsu.cnt = s.tsu.cnt ∧ (State.startDesc s p i idx).tsu.cfg = s.tsu.cfg
    ∧ (State.startDesc s p i idx).tsu.cycs = s.tsu.cycs ∧ (State.startDesc s p i idx).phi.time = s.phi.time
    ∧ (State.startDesc s p i idx).phi.ports = s.phi.ports ∧ (State.startDesc s p i idx).phi.torn = s.phi.torn
    ∧ (State.startDesc s p i idx).phi.keys = s.phi.keys ∧ (State.startDesc s p i idx).phi.relKeys = s.phi.relKeys
    ∧ (State.startDesc s p i idx).phi.tdc = s.phi.tdc ∧ (State.startDesc s p i idx).phi.clk = s.phi.clk
    ∧ (State.startDesc s p i idx).phi.page = s.phi.page ∧ (State.startDesc s p i idx).phi.flt = s.phi.flt
    ∧ (State.startDesc s p i idx).phi.units = s.phi.units ∧ (State.startDesc s p i idx).phi.engines = s.phi.engines
    ∧ (State.startDesc s p i idx).phi.gov = s.phi.gov ∧ (State.startDesc s p i idx).phi.cnt = s.phi.cnt
    ∧ (State.startDesc s p i idx).phi.cfg = s.phi.cfg ∧ (State.startDesc s p i idx).phi.cycs = s.phi.cycs := by
  refine ⟨?_, ?_, ?_, ?_, ?_, ?_, ?_, ?_, ?_, ?_, ?_, ?_, ?_, ?_, ?_, ?_, ?_, ?_, ?_, ?_, ?_, ?_, ?_, ?_, ?_, ?_, ?_, ?_, ?_, ?_, ?_, ?_, ?_, ?_, ?_, ?_, ?_, ?_⟩ <;> first | (simp [State.startDesc]; done)

@[simp] theorem State.startDesc_keeps_tsu (s : State) (i : Nat) (idx : Nat) :
    (State.startDesc s .tsu i idx).phi = s.phi := by simp [State.startDesc]

@[simp] theorem State.startDesc_keeps_phi (s : State) (i : Nat) (idx : Nat) :
    (State.startDesc s .phi i idx).tsu = s.tsu := by simp [State.startDesc]

@[simp] theorem State.noteRan_keeps (s : State) (p : Part) (i : Nat) (d : Desc) :
    (State.noteRan s p i d).pending = s.pending ∧ (State.noteRan s p i d).cyc = s.cyc
    ∧ (State.noteRan s p i d).freeNext = s.freeNext ∧ (State.noteRan s p i d).out = s.out
    ∧ (State.noteRan s p i d).mdl = s.mdl ∧ (State.noteRan s p i d).meter = s.meter
    ∧ (State.noteRan s p i d).die = s.die ∧ (State.noteRan s p i d).hub = s.hub
    ∧ (State.noteRan s p i d).tsu.time = s.tsu.time ∧ (State.noteRan s p i d).tsu.ports = s.tsu.ports
    ∧ (State.noteRan s p i d).tsu.torn = s.tsu.torn ∧ (State.noteRan s p i d).tsu.keys = s.tsu.keys
    ∧ (State.noteRan s p i d).tsu.relKeys = s.tsu.relKeys ∧ (State.noteRan s p i d).tsu.tdc = s.tsu.tdc
    ∧ (State.noteRan s p i d).tsu.clk = s.tsu.clk ∧ (State.noteRan s p i d).tsu.rings = s.tsu.rings
    ∧ (State.noteRan s p i d).tsu.page = s.tsu.page ∧ (State.noteRan s p i d).tsu.flt = s.tsu.flt
    ∧ (State.noteRan s p i d).tsu.units = s.tsu.units ∧ (State.noteRan s p i d).tsu.engines = s.tsu.engines
    ∧ (State.noteRan s p i d).tsu.gov = s.tsu.gov ∧ (State.noteRan s p i d).tsu.cnt = s.tsu.cnt
    ∧ (State.noteRan s p i d).tsu.cfg = s.tsu.cfg ∧ (State.noteRan s p i d).phi.time = s.phi.time
    ∧ (State.noteRan s p i d).phi.ports = s.phi.ports ∧ (State.noteRan s p i d).phi.torn = s.phi.torn
    ∧ (State.noteRan s p i d).phi.keys = s.phi.keys ∧ (State.noteRan s p i d).phi.relKeys = s.phi.relKeys
    ∧ (State.noteRan s p i d).phi.tdc = s.phi.tdc ∧ (State.noteRan s p i d).phi.clk = s.phi.clk
    ∧ (State.noteRan s p i d).phi.rings = s.phi.rings ∧ (State.noteRan s p i d).phi.page = s.phi.page
    ∧ (State.noteRan s p i d).phi.flt = s.phi.flt ∧ (State.noteRan s p i d).phi.units = s.phi.units
    ∧ (State.noteRan s p i d).phi.engines = s.phi.engines ∧ (State.noteRan s p i d).phi.gov = s.phi.gov
    ∧ (State.noteRan s p i d).phi.cnt = s.phi.cnt ∧ (State.noteRan s p i d).phi.cfg = s.phi.cfg := by
  simp only [State.noteRan] <;> (repeat' split) <;> first | (simp; done) | (simp [*]; done) | (refine ⟨?_, ?_, ?_, ?_, ?_, ?_, ?_, ?_, ?_, ?_, ?_, ?_, ?_, ?_, ?_, ?_, ?_, ?_, ?_, ?_, ?_, ?_, ?_, ?_, ?_, ?_, ?_, ?_, ?_, ?_, ?_, ?_, ?_, ?_, ?_, ?_, ?_, ?_⟩ <;> first | rfl | (simp; done) | (simp [*]; done))

@[simp] theorem State.noteRan_keeps_tsu (s : State) (i : Nat) (d : Desc) :
    (State.noteRan s .tsu i d).phi = s.phi := by simp only [State.noteRan] <;> (repeat' split) <;> first | rfl | (simp; done) | (simp [*]; done)

@[simp] theorem State.noteRan_keeps_phi (s : State) (i : Nat) (d : Desc) :
    (State.noteRan s .phi i d).tsu = s.tsu := by simp only [State.noteRan] <;> (repeat' split) <;> first | rfl | (simp; done) | (simp [*]; done)

@[simp] theorem State.dispatch_keeps (s : State) (p : Part) (d : Desc) :
    (State.dispatch s p d).pending = s.pending ∧ (State.dispatch s p d).cyc = s.cyc
    ∧ (State.dispatch s p d).freeNext = s.freeNext ∧ (State.dispatch s p d).out = s.out
    ∧ (State.dispatch s p d).mdl = s.mdl ∧ (State.dispatch s p d).meter = s.meter
    ∧ (State.dispatch s p d).die = s.die ∧ (State.dispatch s p d).hub = s.hub ∧ (State.dispatch s p d).phi = s.phi
    ∧ (State.dispatch s p d).tsu.time = s.tsu.time ∧ (State.dispatch s p d).tsu.ports = s.tsu.ports
    ∧ (State.dispatch s p d).tsu.torn = s.tsu.torn ∧ (State.dispatch s p d).tsu.keys = s.tsu.keys
    ∧ (State.dispatch s p d).tsu.relKeys = s.tsu.relKeys ∧ (State.dispatch s p d).tsu.tdc = s.tsu.tdc
    ∧ (State.dispatch s p d).tsu.clk = s.tsu.clk ∧ (State.dispatch s p d).tsu.rings = s.tsu.rings
    ∧ (State.dispatch s p d).tsu.page = s.tsu.page ∧ (State.dispatch s p d).tsu.flt = s.tsu.flt
    ∧ (State.dispatch s p d).tsu.units = s.tsu.units ∧ (State.dispatch s p d).tsu.engines = s.tsu.engines
    ∧ (State.dispatch s p d).tsu.gov = s.tsu.gov ∧ (State.dispatch s p d).tsu.cnt = s.tsu.cnt
    ∧ (State.dispatch s p d).tsu.cfg = s.tsu.cfg ∧ (State.dispatch s p d).tsu.cycs = s.tsu.cycs := by
  simp only [State.dispatch] <;> (repeat' split) <;> first | (simp; done) | (simp [*]; done) | (refine ⟨?_, ?_, ?_, ?_, ?_, ?_, ?_, ?_, ?_, ?_, ?_, ?_, ?_, ?_, ?_, ?_, ?_, ?_, ?_, ?_, ?_, ?_, ?_, ?_, ?_⟩ <;> first | rfl | (simp; done) | (simp [*]; done))

@[simp] theorem State.dispatch_keeps_phi (s : State) (d : Desc) :
    (State.dispatch s .phi d).tsu = s.tsu := by simp [State.dispatch]

end Sys2Proof.Machine
end

