-- ==== Sys2Proof/Laws/DieOps.lean ====
section
/-!
SUPPORT. What the operations and meanings of Machine/DieOps.lean leave unchanged.
-/

namespace Sys2Proof.Machine

@[simp] theorem State.dieUpd_keeps (s : State) (f : DieSt → DieSt) :
    (State.dieUpd s f).pending = s.pending ∧ (State.dieUpd s f).cyc = s.cyc ∧ (State.dieUpd s f).freeNext = s.freeNext
    ∧ (State.dieUpd s f).out = s.out ∧ (State.dieUpd s f).mdl = s.mdl ∧ (State.dieUpd s f).meter = s.meter
    ∧ (State.dieUpd s f).hub = s.hub ∧ (State.dieUpd s f).tsu = s.tsu ∧ (State.dieUpd s f).phi = s.phi := by
  refine ⟨?_, ?_, ?_, ?_, ?_, ?_, ?_, ?_, ?_⟩ <;> first | (simp [State.dieUpd]; done)

@[simp] theorem State.dieUpd_sync (s : State) (f : DieSt → DieSt) (h : ∀ t, (f t).sync = t.sync) :
    (s.dieUpd f).die.sync = s.die.sync := by simp [State.dieUpd, h]

@[simp] theorem State.dieUpd_launches (s : State) (f : DieSt → DieSt) (h : ∀ t, (f t).launches = t.launches) :
    (s.dieUpd f).die.launches = s.die.launches := by simp [State.dieUpd, h]

@[simp] theorem State.dieUpd_dig (s : State) (f : DieSt → DieSt) (h : ∀ t, (f t).dig = t.dig) :
    (s.dieUpd f).die.dig = s.die.dig := by simp [State.dieUpd, h]

@[simp] theorem State.dieUpd_binds (s : State) (f : DieSt → DieSt) (h : ∀ t, (f t).binds = t.binds) :
    (s.dieUpd f).die.binds = s.die.binds := by simp [State.dieUpd, h]

@[simp] theorem State.dieUpd_coreEn (s : State) (f : DieSt → DieSt) (h : ∀ t, (f t).coreEn = t.coreEn) :
    (s.dieUpd f).die.coreEn = s.die.coreEn := by simp [State.dieUpd, h]

@[simp] theorem State.syncUpd_keeps (s : State) (f : SyncSt → SyncSt) :
    (State.syncUpd s f).pending = s.pending ∧ (State.syncUpd s f).cyc = s.cyc
    ∧ (State.syncUpd s f).freeNext = s.freeNext ∧ (State.syncUpd s f).out = s.out ∧ (State.syncUpd s f).mdl = s.mdl
    ∧ (State.syncUpd s f).meter = s.meter ∧ (State.syncUpd s f).hub = s.hub ∧ (State.syncUpd s f).tsu = s.tsu
    ∧ (State.syncUpd s f).phi = s.phi ∧ (State.syncUpd s f).die.launches = s.die.launches
    ∧ (State.syncUpd s f).die.dig = s.die.dig ∧ (State.syncUpd s f).die.binds = s.die.binds
    ∧ (State.syncUpd s f).die.coreEn = s.die.coreEn := by
  refine ⟨?_, ?_, ?_, ?_, ?_, ?_, ?_, ?_, ?_, ?_, ?_, ?_, ?_⟩ <;> first | (simp [State.syncUpd]; done)

@[simp] theorem State.freeW32_keeps (s : State) :
    ((State.freeW32 s).2).pending = s.pending ∧ ((State.freeW32 s).2).cyc = s.cyc ∧ ((State.freeW32 s).2).out = s.out
    ∧ ((State.freeW32 s).2).mdl = s.mdl ∧ ((State.freeW32 s).2).meter = s.meter ∧ ((State.freeW32 s).2).die = s.die
    ∧ ((State.freeW32 s).2).hub = s.hub ∧ ((State.freeW32 s).2).tsu = s.tsu ∧ ((State.freeW32 s).2).phi = s.phi := by
  refine ⟨?_, ?_, ?_, ?_, ?_, ?_, ?_, ?_, ?_⟩ <;> first | (simp [State.freeW32]; done)

@[simp] theorem State.updRegion_keeps (s : State) (r : Nat) (f : RegionSt → RegionSt) :
    (State.updRegion s r f).pending = s.pending ∧ (State.updRegion s r f).cyc = s.cyc
    ∧ (State.updRegion s r f).freeNext = s.freeNext ∧ (State.updRegion s r f).out = s.out
    ∧ (State.updRegion s r f).mdl = s.mdl ∧ (State.updRegion s r f).meter = s.meter
    ∧ (State.updRegion s r f).hub = s.hub ∧ (State.updRegion s r f).tsu = s.tsu
    ∧ (State.updRegion s r f).phi = s.phi ∧ (State.updRegion s r f).die.sync = s.die.sync
    ∧ (State.updRegion s r f).die.launches = s.die.launches ∧ (State.updRegion s r f).die.dig = s.die.dig
    ∧ (State.updRegion s r f).die.binds = s.die.binds ∧ (State.updRegion s r f).die.coreEn = s.die.coreEn := by
  refine ⟨?_, ?_, ?_, ?_, ?_, ?_, ?_, ?_, ?_, ?_, ?_, ?_, ?_, ?_⟩ <;> first | (simp [State.updRegion]; done)

@[simp] theorem State.pushEntry_keeps (s : State) (r : Nat) (e : FifoEntry) :
    (State.pushEntry s r e).pending = s.pending ∧ (State.pushEntry s r e).cyc = s.cyc
    ∧ (State.pushEntry s r e).freeNext = s.freeNext ∧ (State.pushEntry s r e).out = s.out
    ∧ (State.pushEntry s r e).mdl = s.mdl ∧ (State.pushEntry s r e).meter = s.meter
    ∧ (State.pushEntry s r e).hub = s.hub ∧ (State.pushEntry s r e).tsu = s.tsu
    ∧ (State.pushEntry s r e).phi = s.phi ∧ (State.pushEntry s r e).die.sync = s.die.sync
    ∧ (State.pushEntry s r e).die.launches = s.die.launches ∧ (State.pushEntry s r e).die.dig = s.die.dig
    ∧ (State.pushEntry s r e).die.binds = s.die.binds ∧ (State.pushEntry s r e).die.coreEn = s.die.coreEn := by
  refine ⟨?_, ?_, ?_, ?_, ?_, ?_, ?_, ?_, ?_, ?_, ?_, ?_, ?_, ?_⟩ <;> first | (simp [State.pushEntry]; done)

@[simp] theorem State.wakes_keeps (s : State) (ws : List WakeRef) :
    (State.wakes s ws).pending = s.pending := by simp only [State.wakes] <;> (repeat' split) <;> first | with_reducible rfl | (simp; done) | (simp [*]; done) | ((try simp); refine (foldl_pending _ _ _ fun s a => ?_).trans ?_ <;> (repeat' split) <;> first | with_reducible rfl | (simp; done) | (simp [*]; done))

@[simp] theorem State.wakes_keeps2 (s : State) (ws : List WakeRef) :
    (State.wakes s ws).cyc = s.cyc := by simp only [State.wakes] <;> (repeat' split) <;> first | with_reducible rfl | (simp; done) | (simp [*]; done) | ((try simp); refine (foldl_cyc _ _ _ fun s a => ?_).trans ?_ <;> (repeat' split) <;> first | with_reducible rfl | (simp; done) | (simp [*]; done))

@[simp] theorem State.wakes_keeps3 (s : State) (ws : List WakeRef) :
    (State.wakes s ws).freeNext = s.freeNext := by simp only [State.wakes] <;> (repeat' split) <;> first | with_reducible rfl | (simp; done) | (simp [*]; done) | ((try simp); refine (foldl_freeNext _ _ _ fun s a => ?_).trans ?_ <;> (repeat' split) <;> first | with_reducible rfl | (simp; done) | (simp [*]; done))

@[simp] theorem State.wakes_keeps4 (s : State) (ws : List WakeRef) :
    (State.wakes s ws).out = s.out := by simp only [State.wakes] <;> (repeat' split) <;> first | with_reducible rfl | (simp; done) | (simp [*]; done) | ((try simp); refine (foldl_out _ _ _ fun s a => ?_).trans ?_ <;> (repeat' split) <;> first | with_reducible rfl | (simp; done) | (simp [*]; done))

@[simp] theorem State.wakes_keeps5 (s : State) (ws : List WakeRef) :
    (State.wakes s ws).mdl = s.mdl := by simp only [State.wakes] <;> (repeat' split) <;> first | with_reducible rfl | (simp; done) | (simp [*]; done) | ((try simp); refine (foldl_mdl _ _ _ fun s a => ?_).trans ?_ <;> (repeat' split) <;> first | with_reducible rfl | (simp; done) | (simp [*]; done))

@[simp] theorem State.wakes_keeps6 (s : State) (ws : List WakeRef) :
    (State.wakes s ws).meter = s.meter := by simp only [State.wakes] <;> (repeat' split) <;> first | with_reducible rfl | (simp; done) | (simp [*]; done) | ((try simp); refine (foldl_meter _ _ _ fun s a => ?_).trans ?_ <;> (repeat' split) <;> first | with_reducible rfl | (simp; done) | (simp [*]; done))

@[simp] theorem State.wakes_keeps7 (s : State) (ws : List WakeRef) :
    (State.wakes s ws).hub = s.hub := by simp only [State.wakes] <;> (repeat' split) <;> first | with_reducible rfl | (simp; done) | (simp [*]; done) | ((try simp); refine (foldl_hub _ _ _ fun s a => ?_).trans ?_ <;> (repeat' split) <;> first | with_reducible rfl | (simp; done) | (simp [*]; done))

@[simp] theorem State.wakes_keeps8 (s : State) (ws : List WakeRef) :
    (State.wakes s ws).phi = s.phi := by simp only [State.wakes] <;> (repeat' split) <;> first | with_reducible rfl | (simp; done) | (simp [*]; done) | ((try simp); refine (foldl_phi _ _ _ fun s a => ?_).trans ?_ <;> (repeat' split) <;> first | with_reducible rfl | (simp; done) | (simp [*]; done))

@[simp] theorem State.wakes_keeps9 (s : State) (ws : List WakeRef) :
    (State.wakes s ws).tsu.time = s.tsu.time := by simp only [State.wakes] <;> (repeat' split) <;> first | with_reducible rfl | (simp; done) | (simp [*]; done) | ((try simp); refine (foldl_tsu_time _ _ _ fun s a => ?_).trans ?_ <;> (repeat' split) <;> first | with_reducible rfl | (simp; done) | (simp [*]; done))

@[simp] theorem State.wakes_keeps10 (s : State) (ws : List WakeRef) :
    (State.wakes s ws).tsu.rings = s.tsu.rings := by simp only [State.wakes] <;> (repeat' split) <;> first | with_reducible rfl | (simp; done) | (simp [*]; done) | ((try simp); refine (foldl_tsu_rings _ _ _ fun s a => ?_).trans ?_ <;> (repeat' split) <;> first | with_reducible rfl | (simp; done) | (simp [*]; done))

@[simp] theorem State.wakes_keeps11 (s : State) (ws : List WakeRef) :
    (State.wakes s ws).tsu.cfg = s.tsu.cfg := by simp only [State.wakes] <;> (repeat' split) <;> first | with_reducible rfl | (simp; done) | (simp [*]; done) | ((try simp); refine (foldl_tsu_cfg _ _ _ fun s a => ?_).trans ?_ <;> (repeat' split) <;> first | with_reducible rfl | (simp; done) | (simp [*]; done))

@[simp] theorem State.wakes_keeps12 (s : State) (ws : List WakeRef) :
    (State.wakes s ws).die.sync = s.die.sync := by simp only [State.wakes] <;> (repeat' split) <;> first | with_reducible rfl | (simp; done) | (simp [*]; done) | ((try simp); refine (foldl_die_sync _ _ _ fun s a => ?_).trans ?_ <;> (repeat' split) <;> first | with_reducible rfl | (simp; done) | (simp [*]; done))

@[simp] theorem State.wakes_keeps13 (s : State) (ws : List WakeRef) :
    (State.wakes s ws).die.launches = s.die.launches := by simp only [State.wakes] <;> (repeat' split) <;> first | with_reducible rfl | (simp; done) | (simp [*]; done) | ((try simp); refine (foldl_die_launches _ _ _ fun s a => ?_).trans ?_ <;> (repeat' split) <;> first | with_reducible rfl | (simp; done) | (simp [*]; done))

@[simp] theorem State.wakes_keeps14 (s : State) (ws : List WakeRef) :
    (State.wakes s ws).die.dig = s.die.dig := by simp only [State.wakes] <;> (repeat' split) <;> first | with_reducible rfl | (simp; done) | (simp [*]; done) | ((try simp); refine (foldl_die_dig _ _ _ fun s a => ?_).trans ?_ <;> (repeat' split) <;> first | with_reducible rfl | (simp; done) | (simp [*]; done))

@[simp] theorem State.wakes_keeps15 (s : State) (ws : List WakeRef) :
    (State.wakes s ws).die.binds = s.die.binds := by simp only [State.wakes] <;> (repeat' split) <;> first | with_reducible rfl | (simp; done) | (simp [*]; done) | ((try simp); refine (foldl_die_binds _ _ _ fun s a => ?_).trans ?_ <;> (repeat' split) <;> first | with_reducible rfl | (simp; done) | (simp [*]; done))

@[simp] theorem State.wakes_keeps16 (s : State) (ws : List WakeRef) :
    (State.wakes s ws).die.coreEn = s.die.coreEn := by simp only [State.wakes] <;> (repeat' split) <;> first | with_reducible rfl | (simp; done) | (simp [*]; done) | ((try simp); refine (foldl_die_coreEn _ _ _ fun s a => ?_).trans ?_ <;> (repeat' split) <;> first | with_reducible rfl | (simp; done) | (simp [*]; done))

@[simp] theorem State.setSlot_keeps (s : State) (c : Nat) (i : Nat) (x : Slot) :
    (State.setSlot s c i x).pending = s.pending ∧ (State.setSlot s c i x).cyc = s.cyc
    ∧ (State.setSlot s c i x).freeNext = s.freeNext ∧ (State.setSlot s c i x).out = s.out
    ∧ (State.setSlot s c i x).mdl = s.mdl ∧ (State.setSlot s c i x).meter = s.meter
    ∧ (State.setSlot s c i x).hub = s.hub ∧ (State.setSlot s c i x).tsu = s.tsu
    ∧ (State.setSlot s c i x).phi = s.phi ∧ (State.setSlot s c i x).die.sync = s.die.sync
    ∧ (State.setSlot s c i x).die.launches = s.die.launches ∧ (State.setSlot s c i x).die.dig = s.die.dig
    ∧ (State.setSlot s c i x).die.binds = s.die.binds ∧ (State.setSlot s c i x).die.coreEn = s.die.coreEn := by
  refine ⟨?_, ?_, ?_, ?_, ?_, ?_, ?_, ?_, ?_, ?_, ?_, ?_, ?_, ?_⟩ <;> first | (simp [State.setSlot]; done)

@[simp] theorem State.mapSlots_keeps (s : State) (p : Slot → Bool) (f : Slot → Slot) :
    (State.mapSlots s p f).pending = s.pending ∧ (State.mapSlots s p f).cyc = s.cyc
    ∧ (State.mapSlots s p f).freeNext = s.freeNext ∧ (State.mapSlots s p f).out = s.out
    ∧ (State.mapSlots s p f).mdl = s.mdl ∧ (State.mapSlots s p f).meter = s.meter
    ∧ (State.mapSlots s p f).hub = s.hub ∧ (State.mapSlots s p f).tsu = s.tsu ∧ (State.mapSlots s p f).phi = s.phi
    ∧ (State.mapSlots s p f).die.sync = s.die.sync ∧ (State.mapSlots s p f).die.launches = s.die.launches
    ∧ (State.mapSlots s p f).die.dig = s.die.dig ∧ (State.mapSlots s p f).die.binds = s.die.binds
    ∧ (State.mapSlots s p f).die.coreEn = s.die.coreEn := by
  refine ⟨?_, ?_, ?_, ?_, ?_, ?_, ?_, ?_, ?_, ?_, ?_, ?_, ?_, ?_⟩ <;> first | (simp [State.mapSlots]; done)

@[simp] theorem State.updBasin_keeps (s : State) (b : Nat) (f : BasinSt → BasinSt) :
    (State.updBasin s b f).pending = s.pending ∧ (State.updBasin s b f).cyc = s.cyc
    ∧ (State.updBasin s b f).freeNext = s.freeNext ∧ (State.updBasin s b f).out = s.out
    ∧ (State.updBasin s b f).mdl = s.mdl ∧ (State.updBasin s b f).meter = s.meter
    ∧ (State.updBasin s b f).hub = s.hub ∧ (State.updBasin s b f).tsu = s.tsu ∧ (State.updBasin s b f).phi = s.phi
    ∧ (State.updBasin s b f).die.sync = s.die.sync ∧ (State.updBasin s b f).die.launches = s.die.launches
    ∧ (State.updBasin s b f).die.dig = s.die.dig ∧ (State.updBasin s b f).die.binds = s.die.binds
    ∧ (State.updBasin s b f).die.coreEn = s.die.coreEn := by
  refine ⟨?_, ?_, ?_, ?_, ?_, ?_, ?_, ?_, ?_, ?_, ?_, ?_, ?_, ?_⟩ <;> first | (simp [State.updBasin]; done)

@[simp] theorem State.genDrop_keeps (s : State) :
    (State.genDrop s).pending = s.pending ∧ (State.genDrop s).cyc = s.cyc ∧ (State.genDrop s).freeNext = s.freeNext
    ∧ (State.genDrop s).out = s.out ∧ (State.genDrop s).mdl = s.mdl ∧ (State.genDrop s).meter = s.meter
    ∧ (State.genDrop s).die = s.die ∧ (State.genDrop s).hub = s.hub ∧ (State.genDrop s).phi = s.phi
    ∧ (State.genDrop s).tsu.time = s.tsu.time ∧ (State.genDrop s).tsu.rings = s.tsu.rings
    ∧ (State.genDrop s).tsu.cfg = s.tsu.cfg := by
  refine ⟨?_, ?_, ?_, ?_, ?_, ?_, ?_, ?_, ?_, ?_, ?_, ?_⟩ <;> first | (simp [State.genDrop]; done)

@[simp] theorem State.disarm_keeps (s : State) (l : Launch) :
    (State.disarm s l).pending = s.pending ∧ (State.disarm s l).cyc = s.cyc ∧ (State.disarm s l).freeNext = s.freeNext
    ∧ (State.disarm s l).out = s.out ∧ (State.disarm s l).mdl = s.mdl ∧ (State.disarm s l).meter = s.meter
    ∧ (State.disarm s l).hub = s.hub ∧ (State.disarm s l).tsu = s.tsu ∧ (State.disarm s l).phi = s.phi
    ∧ (State.disarm s l).die.sync = s.die.sync ∧ (State.disarm s l).die.dig = s.die.dig
    ∧ (State.disarm s l).die.binds = s.die.binds ∧ (State.disarm s l).die.coreEn = s.die.coreEn := by
  refine ⟨?_, ?_, ?_, ?_, ?_, ?_, ?_, ?_, ?_, ?_, ?_, ?_, ?_⟩ <;> first | (simp [State.disarm]; done)

@[simp] theorem State.endWaits_keeps (s : State) (st : Status) (cause : W16) (ws : List WakeRef) (x4 : List (Nat × W32)) :
    (State.endWaits s st cause ws x4).pending = s.pending ∧ (State.endWaits s st cause ws x4).cyc = s.cyc
    ∧ (State.endWaits s st cause ws x4).mdl = s.mdl ∧ (State.endWaits s st cause ws x4).meter = s.meter
    ∧ (State.endWaits s st cause ws x4).phi = s.phi ∧ (State.endWaits s st cause ws x4).tsu.time = s.tsu.time := by
  refine ⟨?_, ?_, ?_, ?_, ?_, ?_⟩ <;> first | (induction x4 generalizing s ws <;> simp only [State.endWaits] <;> (repeat' split) <;> simp_all; done)

@[simp] theorem State.endWaits_keeps2 (s : State) (st : Status) (cause : W16) (ws : List WakeRef) (x4 : List (Nat × W32)) :
    (State.endWaits s st cause ws x4).tsu.cfg = s.tsu.cfg
    ∧ (State.endWaits s st cause ws x4).hub.storage = s.hub.storage
    ∧ (State.endWaits s st cause ws x4).hub.fw.state = s.hub.fw.state
    ∧ (State.endWaits s st cause ws x4).hub.pairs = s.hub.pairs
    ∧ (State.endWaits s st cause ws x4).hub.led = s.hub.led
    ∧ (State.endWaits s st cause ws x4).hub.seqs = s.hub.seqs := by
  refine ⟨?_, ?_, ?_, ?_, ?_, ?_⟩ <;> first | (induction x4 generalizing s ws <;> simp only [State.endWaits] <;> (repeat' split) <;> simp_all; done)

@[simp] theorem State.endWaits_keeps3 (s : State) (st : Status) (cause : W16) (ws : List WakeRef) (x4 : List (Nat × W32)) :
    (State.endWaits s st cause ws x4).die.launches = s.die.launches
    ∧ (State.endWaits s st cause ws x4).die.dig = s.die.dig
    ∧ (State.endWaits s st cause ws x4).die.binds = s.die.binds
    ∧ (State.endWaits s st cause ws x4).die.coreEn = s.die.coreEn := by
  refine ⟨?_, ?_, ?_, ?_⟩ <;> first | (induction x4 generalizing s ws <;> simp only [State.endWaits] <;> (repeat' split) <;> simp_all; done)

@[simp] theorem State.endTogether_keeps (s : State) (st : Status) (cause : W16) (l : List (Nat × W32)) :
    (State.endTogether s st cause l).pending = s.pending ∧ (State.endTogether s st cause l).cyc = s.cyc
    ∧ (State.endTogether s st cause l).mdl = s.mdl ∧ (State.endTogether s st cause l).meter = s.meter
    ∧ (State.endTogether s st cause l).phi = s.phi ∧ (State.endTogether s st cause l).tsu.time = s.tsu.time
    ∧ (State.endTogether s st cause l).tsu.cfg = s.tsu.cfg
    ∧ (State.endTogether s st cause l).hub.storage = s.hub.storage
    ∧ (State.endTogether s st cause l).hub.fw.state = s.hub.fw.state
    ∧ (State.endTogether s st cause l).hub.pairs = s.hub.pairs
    ∧ (State.endTogether s st cause l).hub.led = s.hub.led ∧ (State.endTogether s st cause l).hub.seqs = s.hub.seqs
    ∧ (State.endTogether s st cause l).die.launches = s.die.launches
    ∧ (State.endTogether s st cause l).die.dig = s.die.dig
    ∧ (State.endTogether s st cause l).die.binds = s.die.binds
    ∧ (State.endTogether s st cause l).die.coreEn = s.die.coreEn := by
  refine ⟨?_, ?_, ?_, ?_, ?_, ?_, ?_, ?_, ?_, ?_, ?_, ?_, ?_, ?_, ?_, ?_⟩ <;> first | (simp [State.endTogether]; done)

@[simp] theorem State.satisfy_keeps (s : State) (l : List (Nat × W32)) :
    (State.satisfy s l).pending = s.pending ∧ (State.satisfy s l).cyc = s.cyc ∧ (State.satisfy s l).mdl = s.mdl
    ∧ (State.satisfy s l).meter = s.meter ∧ (State.satisfy s l).phi = s.phi
    ∧ (State.satisfy s l).tsu.time = s.tsu.time ∧ (State.satisfy s l).tsu.cfg = s.tsu.cfg
    ∧ (State.satisfy s l).hub.storage = s.hub.storage ∧ (State.satisfy s l).hub.fw.state = s.hub.fw.state
    ∧ (State.satisfy s l).hub.pairs = s.hub.pairs ∧ (State.satisfy s l).hub.led = s.hub.led
    ∧ (State.satisfy s l).hub.seqs = s.hub.seqs ∧ (State.satisfy s l).die.launches = s.die.launches
    ∧ (State.satisfy s l).die.dig = s.die.dig ∧ (State.satisfy s l).die.binds = s.die.binds
    ∧ (State.satisfy s l).die.coreEn = s.die.coreEn := by
  refine ⟨?_, ?_, ?_, ?_, ?_, ?_, ?_, ?_, ?_, ?_, ?_, ?_, ?_, ?_, ?_, ?_⟩ <;> first | (simp [State.satisfy]; done)

@[simp] theorem State.failWaits_keeps (s : State) (st : Status) (cause : W16) (ks : List Nat) :
    (State.failWaits s st cause ks).pending = s.pending ∧ (State.failWaits s st cause ks).cyc = s.cyc
    ∧ (State.failWaits s st cause ks).mdl = s.mdl ∧ (State.failWaits s st cause ks).meter = s.meter
    ∧ (State.failWaits s st cause ks).phi = s.phi ∧ (State.failWaits s st cause ks).tsu.time = s.tsu.time
    ∧ (State.failWaits s st cause ks).tsu.cfg = s.tsu.cfg
    ∧ (State.failWaits s st cause ks).hub.storage = s.hub.storage
    ∧ (State.failWaits s st cause ks).hub.fw.state = s.hub.fw.state
    ∧ (State.failWaits s st cause ks).hub.pairs = s.hub.pairs ∧ (State.failWaits s st cause ks).hub.led = s.hub.led
    ∧ (State.failWaits s st cause ks).hub.seqs = s.hub.seqs
    ∧ (State.failWaits s st cause ks).die.launches = s.die.launches
    ∧ (State.failWaits s st cause ks).die.dig = s.die.dig ∧ (State.failWaits s st cause ks).die.binds = s.die.binds
    ∧ (State.failWaits s st cause ks).die.coreEn = s.die.coreEn := by
  refine ⟨?_, ?_, ?_, ?_, ?_, ?_, ?_, ?_, ?_, ?_, ?_, ?_, ?_, ?_, ?_, ?_⟩ <;> first | (simp [State.failWaits]; done)

@[simp] theorem State.updFlag_keeps (s : State) (i : Nat) (f : FlagObj → FlagObj) :
    (State.updFlag s i f).pending = s.pending ∧ (State.updFlag s i f).cyc = s.cyc
    ∧ (State.updFlag s i f).freeNext = s.freeNext ∧ (State.updFlag s i f).out = s.out
    ∧ (State.updFlag s i f).mdl = s.mdl ∧ (State.updFlag s i f).meter = s.meter ∧ (State.updFlag s i f).hub = s.hub
    ∧ (State.updFlag s i f).tsu = s.tsu ∧ (State.updFlag s i f).phi = s.phi
    ∧ (State.updFlag s i f).die.launches = s.die.launches ∧ (State.updFlag s i f).die.dig = s.die.dig
    ∧ (State.updFlag s i f).die.binds = s.die.binds ∧ (State.updFlag s i f).die.coreEn = s.die.coreEn := by
  refine ⟨?_, ?_, ?_, ?_, ?_, ?_, ?_, ?_, ?_, ?_, ?_, ?_, ?_⟩ <;> first | (simp [State.updFlag]; done)

@[simp] theorem State.updTally_keeps (s : State) (i : Nat) (f : TallyObj → TallyObj) :
    (State.updTally s i f).pending = s.pending ∧ (State.updTally s i f).cyc = s.cyc
    ∧ (State.updTally s i f).freeNext = s.freeNext ∧ (State.updTally s i f).out = s.out
    ∧ (State.updTally s i f).mdl = s.mdl ∧ (State.updTally s i f).meter = s.meter
    ∧ (State.updTally s i f).hub = s.hub ∧ (State.updTally s i f).tsu = s.tsu ∧ (State.updTally s i f).phi = s.phi
    ∧ (State.updTally s i f).die.launches = s.die.launches ∧ (State.updTally s i f).die.dig = s.die.dig
    ∧ (State.updTally s i f).die.binds = s.die.binds ∧ (State.updTally s i f).die.coreEn = s.die.coreEn := by
  refine ⟨?_, ?_, ?_, ?_, ?_, ?_, ?_, ?_, ?_, ?_, ?_, ?_, ?_⟩ <;> first | (simp [State.updTally]; done)

@[simp] theorem State.updGate_keeps (s : State) (i : Nat) (f : DieGate → DieGate) :
    (State.updGate s i f).pending = s.pending ∧ (State.updGate s i f).cyc = s.cyc
    ∧ (State.updGate s i f).freeNext = s.freeNext ∧ (State.updGate s i f).out = s.out
    ∧ (State.updGate s i f).mdl = s.mdl ∧ (State.updGate s i f).meter = s.meter ∧ (State.updGate s i f).hub = s.hub
    ∧ (State.updGate s i f).tsu = s.tsu ∧ (State.updGate s i f).phi = s.phi
    ∧ (State.updGate s i f).die.launches = s.die.launches ∧ (State.updGate s i f).die.dig = s.die.dig
    ∧ (State.updGate s i f).die.binds = s.die.binds ∧ (State.updGate s i f).die.coreEn = s.die.coreEn := by
  refine ⟨?_, ?_, ?_, ?_, ?_, ?_, ?_, ?_, ?_, ?_, ?_, ?_, ?_⟩ <;> first | (simp [State.updGate]; done)

@[simp] theorem State.updProxy_keeps (s : State) (i : Nat) (f : Proxy → Proxy) :
    (State.updProxy s i f).pending = s.pending ∧ (State.updProxy s i f).cyc = s.cyc
    ∧ (State.updProxy s i f).freeNext = s.freeNext ∧ (State.updProxy s i f).out = s.out
    ∧ (State.updProxy s i f).mdl = s.mdl ∧ (State.updProxy s i f).meter = s.meter
    ∧ (State.updProxy s i f).hub = s.hub ∧ (State.updProxy s i f).tsu = s.tsu ∧ (State.updProxy s i f).phi = s.phi
    ∧ (State.updProxy s i f).die.launches = s.die.launches ∧ (State.updProxy s i f).die.dig = s.die.dig
    ∧ (State.updProxy s i f).die.binds = s.die.binds ∧ (State.updProxy s i f).die.coreEn = s.die.coreEn := by
  refine ⟨?_, ?_, ?_, ?_, ?_, ?_, ?_, ?_, ?_, ?_, ?_, ?_, ?_⟩ <;> first | (simp [State.updProxy]; done)

@[simp] theorem State.failWait_keeps (s : State) (k : Nat) (st : Status) (cause : W16) :
    (State.failWait s k st cause).pending = s.pending ∧ (State.failWait s k st cause).cyc = s.cyc
    ∧ (State.failWait s k st cause).mdl = s.mdl ∧ (State.failWait s k st cause).meter = s.meter
    ∧ (State.failWait s k st cause).phi = s.phi ∧ (State.failWait s k st cause).tsu.time = s.tsu.time
    ∧ (State.failWait s k st cause).tsu.cfg = s.tsu.cfg ∧ (State.failWait s k st cause).hub.storage = s.hub.storage
    ∧ (State.failWait s k st cause).hub.fw.state = s.hub.fw.state
    ∧ (State.failWait s k st cause).hub.pairs = s.hub.pairs ∧ (State.failWait s k st cause).hub.led = s.hub.led
    ∧ (State.failWait s k st cause).hub.seqs = s.hub.seqs
    ∧ (State.failWait s k st cause).die.launches = s.die.launches
    ∧ (State.failWait s k st cause).die.dig = s.die.dig ∧ (State.failWait s k st cause).die.binds = s.die.binds
    ∧ (State.failWait s k st cause).die.coreEn = s.die.coreEn := by
  refine ⟨?_, ?_, ?_, ?_, ?_, ?_, ?_, ?_, ?_, ?_, ?_, ?_, ?_, ?_, ?_, ?_⟩ <;> first | (simp [State.failWait]; done)

@[simp] theorem State.serveFlag_keeps (s : State) (i : Nat) :
    (State.serveFlag s i).pending = s.pending ∧ (State.serveFlag s i).cyc = s.cyc ∧ (State.serveFlag s i).mdl = s.mdl
    ∧ (State.serveFlag s i).meter = s.meter ∧ (State.serveFlag s i).phi = s.phi
    ∧ (State.serveFlag s i).tsu.time = s.tsu.time ∧ (State.serveFlag s i).tsu.cfg = s.tsu.cfg
    ∧ (State.serveFlag s i).hub.storage = s.hub.storage ∧ (State.serveFlag s i).hub.fw.state = s.hub.fw.state
    ∧ (State.serveFlag s i).hub.pairs = s.hub.pairs ∧ (State.serveFlag s i).hub.led = s.hub.led
    ∧ (State.serveFlag s i).hub.seqs = s.hub.seqs ∧ (State.serveFlag s i).die.launches = s.die.launches
    ∧ (State.serveFlag s i).die.dig = s.die.dig ∧ (State.serveFlag s i).die.binds = s.die.binds
    ∧ (State.serveFlag s i).die.coreEn = s.die.coreEn := by
  refine ⟨?_, ?_, ?_, ?_, ?_, ?_, ?_, ?_, ?_, ?_, ?_, ?_, ?_, ?_, ?_, ?_⟩ <;> first | (simp [State.serveFlag]; done)

@[simp] theorem State.consumeFlag_keeps (s : State) (i : Nat) :
    (State.consumeFlag s i).pending = s.pending ∧ (State.consumeFlag s i).cyc = s.cyc
    ∧ (State.consumeFlag s i).freeNext = s.freeNext ∧ (State.consumeFlag s i).out = s.out
    ∧ (State.consumeFlag s i).mdl = s.mdl ∧ (State.consumeFlag s i).meter = s.meter
    ∧ (State.consumeFlag s i).hub = s.hub ∧ (State.consumeFlag s i).tsu = s.tsu
    ∧ (State.consumeFlag s i).phi = s.phi ∧ (State.consumeFlag s i).die.launches = s.die.launches
    ∧ (State.consumeFlag s i).die.dig = s.die.dig ∧ (State.consumeFlag s i).die.binds = s.die.binds
    ∧ (State.consumeFlag s i).die.coreEn = s.die.coreEn := by
  refine ⟨?_, ?_, ?_, ?_, ?_, ?_, ?_, ?_, ?_, ?_, ?_, ?_, ?_⟩ <;> first | (simp [State.consumeFlag]; done)

@[simp] theorem State.serveTakers_keeps (s : State) (i : Nat) :
    (State.serveTakers s i).pending = s.pending ∧ (State.serveTakers s i).cyc = s.cyc
    ∧ (State.serveTakers s i).mdl = s.mdl ∧ (State.serveTakers s i).meter = s.meter
    ∧ (State.serveTakers s i).phi = s.phi ∧ (State.serveTakers s i).tsu.time = s.tsu.time
    ∧ (State.serveTakers s i).tsu.cfg = s.tsu.cfg ∧ (State.serveTakers s i).hub.storage = s.hub.storage
    ∧ (State.serveTakers s i).hub.fw.state = s.hub.fw.state ∧ (State.serveTakers s i).hub.pairs = s.hub.pairs
    ∧ (State.serveTakers s i).hub.led = s.hub.led ∧ (State.serveTakers s i).hub.seqs = s.hub.seqs
    ∧ (State.serveTakers s i).die.launches = s.die.launches ∧ (State.serveTakers s i).die.dig = s.die.dig
    ∧ (State.serveTakers s i).die.binds = s.die.binds ∧ (State.serveTakers s i).die.coreEn = s.die.coreEn := by
  simp only [State.serveTakers] <;> (repeat' split) <;> first | (simp; done) | (simp [*]; done) | (refine ⟨?_, ?_, ?_, ?_, ?_, ?_, ?_, ?_, ?_, ?_, ?_, ?_, ?_, ?_, ?_, ?_⟩ <;> first | rfl | (simp; done) | (simp [*]; done))

@[simp] theorem State.setFlag_keeps (s : State) (i : Nat) :
    (State.setFlag s i).pending = s.pending ∧ (State.setFlag s i).cyc = s.cyc ∧ (State.setFlag s i).mdl = s.mdl
    ∧ (State.setFlag s i).meter = s.meter ∧ (State.setFlag s i).phi = s.phi
    ∧ (State.setFlag s i).tsu.time = s.tsu.time ∧ (State.setFlag s i).tsu.cfg = s.tsu.cfg
    ∧ (State.setFlag s i).hub.storage = s.hub.storage ∧ (State.setFlag s i).hub.fw.state = s.hub.fw.state
    ∧ (State.setFlag s i).hub.pairs = s.hub.pairs ∧ (State.setFlag s i).hub.led = s.hub.led
    ∧ (State.setFlag s i).hub.seqs = s.hub.seqs ∧ (State.setFlag s i).die.launches = s.die.launches
    ∧ (State.setFlag s i).die.dig = s.die.dig ∧ (State.setFlag s i).die.binds = s.die.binds
    ∧ (State.setFlag s i).die.coreEn = s.die.coreEn := by
  refine ⟨?_, ?_, ?_, ?_, ?_, ?_, ?_, ?_, ?_, ?_, ?_, ?_, ?_, ?_, ?_, ?_⟩ <;> first | (simp [State.setFlag]; done)

@[simp] theorem State.clearFlag_keeps (s : State) (i : Nat) :
    (State.clearFlag s i).pending = s.pending ∧ (State.clearFlag s i).cyc = s.cyc
    ∧ (State.clearFlag s i).freeNext = s.freeNext ∧ (State.clearFlag s i).out = s.out
    ∧ (State.clearFlag s i).mdl = s.mdl ∧ (State.clearFlag s i).meter = s.meter ∧ (State.clearFlag s i).hub = s.hub
    ∧ (State.clearFlag s i).tsu = s.tsu ∧ (State.clearFlag s i).phi = s.phi
    ∧ (State.clearFlag s i).die.launches = s.die.launches ∧ (State.clearFlag s i).die.dig = s.die.dig
    ∧ (State.clearFlag s i).die.binds = s.die.binds ∧ (State.clearFlag s i).die.coreEn = s.die.coreEn := by
  refine ⟨?_, ?_, ?_, ?_, ?_, ?_, ?_, ?_, ?_, ?_, ?_, ?_, ?_⟩ <;> first | (simp [State.clearFlag]; done)

@[simp] theorem State.serveTally_keeps (s : State) (i : Nat) :
    (State.serveTally s i).pending = s.pending ∧ (State.serveTally s i).cyc = s.cyc ∧ (State.serveTally s i).mdl = s.mdl
    ∧ (State.serveTally s i).meter = s.meter ∧ (State.serveTally s i).phi = s.phi
    ∧ (State.serveTally s i).tsu.time = s.tsu.time ∧ (State.serveTally s i).tsu.cfg = s.tsu.cfg
    ∧ (State.serveTally s i).hub.storage = s.hub.storage ∧ (State.serveTally s i).hub.fw.state = s.hub.fw.state
    ∧ (State.serveTally s i).hub.pairs = s.hub.pairs ∧ (State.serveTally s i).hub.led = s.hub.led
    ∧ (State.serveTally s i).hub.seqs = s.hub.seqs ∧ (State.serveTally s i).die.launches = s.die.launches
    ∧ (State.serveTally s i).die.dig = s.die.dig ∧ (State.serveTally s i).die.binds = s.die.binds
    ∧ (State.serveTally s i).die.coreEn = s.die.coreEn := by
  simp only [State.serveTally] <;> (repeat' split) <;> first | (simp; done) | (simp [*]; done) | (refine ⟨?_, ?_, ?_, ?_, ?_, ?_, ?_, ?_, ?_, ?_, ?_, ?_, ?_, ?_, ?_, ?_⟩ <;> first | rfl | (simp; done) | (simp [*]; done))

@[simp] theorem State.checkWindow_keeps (s : State) (i : Nat) :
    (State.checkWindow s i).pending = s.pending ∧ (State.checkWindow s i).cyc = s.cyc
    ∧ (State.checkWindow s i).freeNext = s.freeNext ∧ (State.checkWindow s i).mdl = s.mdl
    ∧ (State.checkWindow s i).meter = s.meter ∧ (State.checkWindow s i).hub = s.hub
    ∧ (State.checkWindow s i).phi = s.phi ∧ (State.checkWindow s i).tsu.time = s.tsu.time
    ∧ (State.checkWindow s i).tsu.rings = s.tsu.rings ∧ (State.checkWindow s i).tsu.cfg = s.tsu.cfg
    ∧ (State.checkWindow s i).die.launches = s.die.launches ∧ (State.checkWindow s i).die.dig = s.die.dig
    ∧ (State.checkWindow s i).die.binds = s.die.binds ∧ (State.checkWindow s i).die.coreEn = s.die.coreEn := by
  refine ⟨?_, ?_, ?_, ?_, ?_, ?_, ?_, ?_, ?_, ?_, ?_, ?_, ?_, ?_⟩ <;> first | (simp [State.checkWindow]; done)

@[simp] theorem State.addTally_keeps (s : State) (i : Nat) (v : W32) :
    (State.addTally s i v).pending = s.pending ∧ (State.addTally s i v).cyc = s.cyc ∧ (State.addTally s i v).mdl = s.mdl
    ∧ (State.addTally s i v).meter = s.meter ∧ (State.addTally s i v).phi = s.phi
    ∧ (State.addTally s i v).tsu.time = s.tsu.time ∧ (State.addTally s i v).tsu.cfg = s.tsu.cfg
    ∧ (State.addTally s i v).hub.storage = s.hub.storage ∧ (State.addTally s i v).hub.fw.state = s.hub.fw.state
    ∧ (State.addTally s i v).hub.pairs = s.hub.pairs ∧ (State.addTally s i v).hub.led = s.hub.led
    ∧ (State.addTally s i v).hub.seqs = s.hub.seqs ∧ (State.addTally s i v).die.launches = s.die.launches
    ∧ (State.addTally s i v).die.dig = s.die.dig ∧ (State.addTally s i v).die.binds = s.die.binds
    ∧ (State.addTally s i v).die.coreEn = s.die.coreEn := by
  refine ⟨?_, ?_, ?_, ?_, ?_, ?_, ?_, ?_, ?_, ?_, ?_, ?_, ?_, ?_, ?_, ?_⟩ <;> first | (simp [State.addTally]; done)

@[simp] theorem State.settleTally_keeps (s : State) (i : Nat) :
    (State.settleTally s i).pending = s.pending ∧ (State.settleTally s i).cyc = s.cyc
    ∧ (State.settleTally s i).mdl = s.mdl ∧ (State.settleTally s i).meter = s.meter
    ∧ (State.settleTally s i).phi = s.phi ∧ (State.settleTally s i).tsu.time = s.tsu.time
    ∧ (State.settleTally s i).tsu.cfg = s.tsu.cfg ∧ (State.settleTally s i).hub.storage = s.hub.storage
    ∧ (State.settleTally s i).hub.fw.state = s.hub.fw.state ∧ (State.settleTally s i).hub.pairs = s.hub.pairs
    ∧ (State.settleTally s i).hub.led = s.hub.led ∧ (State.settleTally s i).hub.seqs = s.hub.seqs
    ∧ (State.settleTally s i).die.launches = s.die.launches ∧ (State.settleTally s i).die.dig = s.die.dig
    ∧ (State.settleTally s i).die.binds = s.die.binds ∧ (State.settleTally s i).die.coreEn = s.die.coreEn := by
  refine ⟨?_, ?_, ?_, ?_, ?_, ?_, ?_, ?_, ?_, ?_, ?_, ?_, ?_, ?_, ?_, ?_⟩ <;> first | (simp [State.settleTally]; done)

@[simp] theorem State.serveGate_keeps (s : State) (g : Nat) :
    (State.serveGate s g).pending = s.pending ∧ (State.serveGate s g).cyc = s.cyc ∧ (State.serveGate s g).mdl = s.mdl
    ∧ (State.serveGate s g).meter = s.meter ∧ (State.serveGate s g).phi = s.phi
    ∧ (State.serveGate s g).tsu.time = s.tsu.time ∧ (State.serveGate s g).tsu.cfg = s.tsu.cfg
    ∧ (State.serveGate s g).hub.storage = s.hub.storage ∧ (State.serveGate s g).hub.fw.state = s.hub.fw.state
    ∧ (State.serveGate s g).hub.pairs = s.hub.pairs ∧ (State.serveGate s g).hub.led = s.hub.led
    ∧ (State.serveGate s g).hub.seqs = s.hub.seqs ∧ (State.serveGate s g).die.launches = s.die.launches
    ∧ (State.serveGate s g).die.dig = s.die.dig ∧ (State.serveGate s g).die.binds = s.die.binds
    ∧ (State.serveGate s g).die.coreEn = s.die.coreEn := by
  refine ⟨?_, ?_, ?_, ?_, ?_, ?_, ?_, ?_, ?_, ?_, ?_, ?_, ?_, ?_, ?_, ?_⟩ <;> first | (simp [State.serveGate]; done)

@[simp] theorem State.endProxyWaits_keeps (s : State) (rel : W32) (ws : List (Nat × Waiter)) :
    (State.endProxyWaits s rel ws).pending = s.pending ∧ (State.endProxyWaits s rel ws).cyc = s.cyc
    ∧ (State.endProxyWaits s rel ws).mdl = s.mdl ∧ (State.endProxyWaits s rel ws).meter = s.meter
    ∧ (State.endProxyWaits s rel ws).phi = s.phi ∧ (State.endProxyWaits s rel ws).tsu.time = s.tsu.time
    ∧ (State.endProxyWaits s rel ws).tsu.cfg = s.tsu.cfg
    ∧ (State.endProxyWaits s rel ws).hub.storage = s.hub.storage
    ∧ (State.endProxyWaits s rel ws).hub.fw.state = s.hub.fw.state
    ∧ (State.endProxyWaits s rel ws).hub.pairs = s.hub.pairs ∧ (State.endProxyWaits s rel ws).hub.led = s.hub.led
    ∧ (State.endProxyWaits s rel ws).hub.seqs = s.hub.seqs
    ∧ (State.endProxyWaits s rel ws).die.launches = s.die.launches
    ∧ (State.endProxyWaits s rel ws).die.dig = s.die.dig ∧ (State.endProxyWaits s rel ws).die.binds = s.die.binds
    ∧ (State.endProxyWaits s rel ws).die.coreEn = s.die.coreEn := by
  refine ⟨?_, ?_, ?_, ?_, ?_, ?_, ?_, ?_, ?_, ?_, ?_, ?_, ?_, ?_, ?_, ?_⟩ <;> first | (simp [State.endProxyWaits]; done)

@[simp] theorem State.recordGate_keeps (s : State) (gate : Nat) (hall : Bool) (miss : Nat) :
    (State.recordGate s gate hall miss).pending = s.pending ∧ (State.recordGate s gate hall miss).cyc = s.cyc
    ∧ (State.recordGate s gate hall miss).freeNext = s.freeNext ∧ (State.recordGate s gate hall miss).mdl = s.mdl
    ∧ (State.recordGate s gate hall miss).meter = s.meter ∧ (State.recordGate s gate hall miss).die = s.die
    ∧ (State.recordGate s gate hall miss).hub = s.hub ∧ (State.recordGate s gate hall miss).phi = s.phi
    ∧ (State.recordGate s gate hall miss).tsu.time = s.tsu.time
    ∧ (State.recordGate s gate hall miss).tsu.rings = s.tsu.rings
    ∧ (State.recordGate s gate hall miss).tsu.cfg = s.tsu.cfg := by
  refine ⟨?_, ?_, ?_, ?_, ?_, ?_, ?_, ?_, ?_, ?_, ?_⟩ <;> first | (simp [State.recordGate]; done)

@[simp] theorem State.cancelProxy_keeps (s : State) (p : Nat) (cause : W16) :
    (State.cancelProxy s p cause).pending = s.pending ∧ (State.cancelProxy s p cause).cyc = s.cyc
    ∧ (State.cancelProxy s p cause).mdl = s.mdl ∧ (State.cancelProxy s p cause).meter = s.meter
    ∧ (State.cancelProxy s p cause).phi = s.phi ∧ (State.cancelProxy s p cause).tsu.time = s.tsu.time
    ∧ (State.cancelProxy s p cause).tsu.cfg = s.tsu.cfg ∧ (State.cancelProxy s p cause).hub.storage = s.hub.storage
    ∧ (State.cancelProxy s p cause).hub.fw.state = s.hub.fw.state
    ∧ (State.cancelProxy s p cause).hub.pairs = s.hub.pairs ∧ (State.cancelProxy s p cause).hub.led = s.hub.led
    ∧ (State.cancelProxy s p cause).hub.seqs = s.hub.seqs
    ∧ (State.cancelProxy s p cause).die.launches = s.die.launches
    ∧ (State.cancelProxy s p cause).die.dig = s.die.dig ∧ (State.cancelProxy s p cause).die.binds = s.die.binds
    ∧ (State.cancelProxy s p cause).die.coreEn = s.die.coreEn := by
  refine ⟨?_, ?_, ?_, ?_, ?_, ?_, ?_, ?_, ?_, ?_, ?_, ?_, ?_, ?_, ?_, ?_⟩ <;> first | (simp [State.cancelProxy]; done)

@[simp] theorem State.sendArrive_keeps (s : State) (p : Nat) :
    (State.sendArrive s p).pending = s.pending ∧ (State.sendArrive s p).cyc = s.cyc
    ∧ (State.sendArrive s p).freeNext = s.freeNext ∧ (State.sendArrive s p).out = s.out
    ∧ (State.sendArrive s p).mdl = s.mdl ∧ (State.sendArrive s p).meter = s.meter
    ∧ (State.sendArrive s p).hub = s.hub ∧ (State.sendArrive s p).phi = s.phi
    ∧ (State.sendArrive s p).tsu.time = s.tsu.time ∧ (State.sendArrive s p).tsu.rings = s.tsu.rings
    ∧ (State.sendArrive s p).tsu.cfg = s.tsu.cfg ∧ (State.sendArrive s p).die.launches = s.die.launches
    ∧ (State.sendArrive s p).die.dig = s.die.dig ∧ (State.sendArrive s p).die.binds = s.die.binds
    ∧ (State.sendArrive s p).die.coreEn = s.die.coreEn := by
  refine ⟨?_, ?_, ?_, ?_, ?_, ?_, ?_, ?_, ?_, ?_, ?_, ?_, ?_, ?_, ?_⟩ <;> first | (simp [State.sendArrive]; done)

@[simp] theorem State.arriveProxy_keeps (s : State) (p : Nat) (who : Nat) :
    (State.arriveProxy s p who).pending = s.pending ∧ (State.arriveProxy s p who).cyc = s.cyc
    ∧ (State.arriveProxy s p who).freeNext = s.freeNext ∧ (State.arriveProxy s p who).out = s.out
    ∧ (State.arriveProxy s p who).mdl = s.mdl ∧ (State.arriveProxy s p who).meter = s.meter
    ∧ (State.arriveProxy s p who).hub = s.hub ∧ (State.arriveProxy s p who).phi = s.phi
    ∧ (State.arriveProxy s p who).tsu.time = s.tsu.time ∧ (State.arriveProxy s p who).tsu.rings = s.tsu.rings
    ∧ (State.arriveProxy s p who).tsu.cfg = s.tsu.cfg ∧ (State.arriveProxy s p who).die.launches = s.die.launches
    ∧ (State.arriveProxy s p who).die.dig = s.die.dig ∧ (State.arriveProxy s p who).die.binds = s.die.binds
    ∧ (State.arriveProxy s p who).die.coreEn = s.die.coreEn := by
  refine ⟨?_, ?_, ?_, ?_, ?_, ?_, ?_, ?_, ?_, ?_, ?_, ?_, ?_, ?_, ?_⟩ <;> first | (simp [State.arriveProxy]; done)

@[simp] theorem State.writeWb_keeps (s : State) (o : WbOp) (st : Status) (cause : W16) :
    (State.writeWb s o st cause).pending = s.pending ∧ (State.writeWb s o st cause).cyc = s.cyc
    ∧ (State.writeWb s o st cause).freeNext = s.freeNext ∧ (State.writeWb s o st cause).mdl = s.mdl
    ∧ (State.writeWb s o st cause).meter = s.meter ∧ (State.writeWb s o st cause).die = s.die
    ∧ (State.writeWb s o st cause).hub = s.hub ∧ (State.writeWb s o st cause).tsu = s.tsu
    ∧ (State.writeWb s o st cause).phi = s.phi := by
  refine ⟨?_, ?_, ?_, ?_, ?_, ?_, ?_, ?_, ?_⟩ <;> first | (simp [State.writeWb]; done)

@[simp] theorem State.setWb_keeps (s : State) (o : WbOp) :
    (State.setWb s o).pending = s.pending ∧ (State.setWb s o).cyc = s.cyc ∧ (State.setWb s o).freeNext = s.freeNext
    ∧ (State.setWb s o).out = s.out ∧ (State.setWb s o).mdl = s.mdl ∧ (State.setWb s o).meter = s.meter
    ∧ (State.setWb s o).hub = s.hub ∧ (State.setWb s o).tsu = s.tsu ∧ (State.setWb s o).phi = s.phi
    ∧ (State.setWb s o).die.sync = s.die.sync ∧ (State.setWb s o).die.launches = s.die.launches
    ∧ (State.setWb s o).die.dig = s.die.dig ∧ (State.setWb s o).die.binds = s.die.binds
    ∧ (State.setWb s o).die.coreEn = s.die.coreEn := by
  refine ⟨?_, ?_, ?_, ?_, ?_, ?_, ?_, ?_, ?_, ?_, ?_, ?_, ?_, ?_⟩ <;> first | (simp [State.setWb]; done)

@[simp] theorem State.endWb_keeps (s : State) (o : WbOp) (st : Status) (cause : W16) :
    (State.endWb s o st cause).pending = s.pending ∧ (State.endWb s o st cause).cyc = s.cyc
    ∧ (State.endWb s o st cause).mdl = s.mdl ∧ (State.endWb s o st cause).meter = s.meter
    ∧ (State.endWb s o st cause).phi = s.phi ∧ (State.endWb s o st cause).tsu.time = s.tsu.time
    ∧ (State.endWb s o st cause).tsu.cfg = s.tsu.cfg ∧ (State.endWb s o st cause).hub.storage = s.hub.storage
    ∧ (State.endWb s o st cause).hub.fw.state = s.hub.fw.state ∧ (State.endWb s o st cause).hub.pairs = s.hub.pairs
    ∧ (State.endWb s o st cause).hub.led = s.hub.led ∧ (State.endWb s o st cause).hub.seqs = s.hub.seqs
    ∧ (State.endWb s o st cause).die.launches = s.die.launches ∧ (State.endWb s o st cause).die.dig = s.die.dig
    ∧ (State.endWb s o st cause).die.binds = s.die.binds ∧ (State.endWb s o st cause).die.coreEn = s.die.coreEn := by
  refine ⟨?_, ?_, ?_, ?_, ?_, ?_, ?_, ?_, ?_, ?_, ?_, ?_, ?_, ?_, ?_, ?_⟩ <;> first | (simp [State.endWb]; done)

@[simp] theorem State.endWbs_keeps (s : State) (st : Status) (cause : W16) (x3 : List WbOp) :
    (State.endWbs s st cause x3).pending = s.pending ∧ (State.endWbs s st cause x3).cyc = s.cyc
    ∧ (State.endWbs s st cause x3).mdl = s.mdl ∧ (State.endWbs s st cause x3).meter = s.meter
    ∧ (State.endWbs s st cause x3).phi = s.phi ∧ (State.endWbs s st cause x3).tsu.time = s.tsu.time := by
  refine ⟨?_, ?_, ?_, ?_, ?_, ?_⟩ <;> first | (induction x3 generalizing s <;> simp_all [State.endWbs]; done)

@[simp] theorem State.endWbs_keeps2 (s : State) (st : Status) (cause : W16) (x3 : List WbOp) :
    (State.endWbs s st cause x3).tsu.cfg = s.tsu.cfg ∧ (State.endWbs s st cause x3).hub.storage = s.hub.storage
    ∧ (State.endWbs s st cause x3).hub.fw.state = s.hub.fw.state
    ∧ (State.endWbs s st cause x3).hub.pairs = s.hub.pairs ∧ (State.endWbs s st cause x3).hub.led = s.hub.led
    ∧ (State.endWbs s st cause x3).hub.seqs = s.hub.seqs := by
  refine ⟨?_, ?_, ?_, ?_, ?_, ?_⟩ <;> first | (induction x3 generalizing s <;> simp_all [State.endWbs]; done)

@[simp] theorem State.endWbs_keeps3 (s : State) (st : Status) (cause : W16) (x3 : List WbOp) :
    (State.endWbs s st cause x3).die.launches = s.die.launches ∧ (State.endWbs s st cause x3).die.dig = s.die.dig
    ∧ (State.endWbs s st cause x3).die.binds = s.die.binds ∧ (State.endWbs s st cause x3).die.coreEn = s.die.coreEn := by
  refine ⟨?_, ?_, ?_, ?_⟩ <;> first | (induction x3 generalizing s <;> simp_all [State.endWbs]; done)

@[simp] theorem State.wbSent_keeps (s : State) :
    (State.wbSent s).pending = s.pending ∧ (State.wbSent s).cyc = s.cyc ∧ (State.wbSent s).freeNext = s.freeNext
    ∧ (State.wbSent s).mdl = s.mdl ∧ (State.wbSent s).meter = s.meter ∧ (State.wbSent s).hub = s.hub
    ∧ (State.wbSent s).tsu = s.tsu ∧ (State.wbSent s).phi = s.phi ∧ (State.wbSent s).die.sync = s.die.sync
    ∧ (State.wbSent s).die.launches = s.die.launches ∧ (State.wbSent s).die.dig = s.die.dig
    ∧ (State.wbSent s).die.binds = s.die.binds ∧ (State.wbSent s).die.coreEn = s.die.coreEn := by
  refine ⟨?_, ?_, ?_, ?_, ?_, ?_, ?_, ?_, ?_, ?_, ?_, ?_, ?_⟩ <;> first | (simp [State.wbSent]; done)

@[simp] theorem State.writeDigest_keeps (s : State) (b : Nat) (g : Nat) (step : StepNo) (cores : Nat) (rollback : Bool) (v : List Byte) :
    (State.writeDigest s b g step cores rollback v).pending = s.pending
    ∧ (State.writeDigest s b g step cores rollback v).cyc = s.cyc
    ∧ (State.writeDigest s b g step cores rollback v).freeNext = s.freeNext
    ∧ (State.writeDigest s b g step cores rollback v).mdl = s.mdl
    ∧ (State.writeDigest s b g step cores rollback v).meter = s.meter
    ∧ (State.writeDigest s b g step cores rollback v).hub = s.hub
    ∧ (State.writeDigest s b g step cores rollback v).tsu = s.tsu
    ∧ (State.writeDigest s b g step cores rollback v).phi = s.phi
    ∧ (State.writeDigest s b g step cores rollback v).die.sync = s.die.sync
    ∧ (State.writeDigest s b g step cores rollback v).die.launches = s.die.launches
    ∧ (State.writeDigest s b g step cores rollback v).die.binds = s.die.binds
    ∧ (State.writeDigest s b g step cores rollback v).die.coreEn = s.die.coreEn := by
  refine ⟨?_, ?_, ?_, ?_, ?_, ?_, ?_, ?_, ?_, ?_, ?_, ?_⟩ <;> first | (simp [State.writeDigest]; done)

@[simp] theorem State.rollDigests_keeps (s : State) (b : Nat) (g : Nat) (j : StepNo) :
    (State.rollDigests s b g j).pending = s.pending ∧ (State.rollDigests s b g j).cyc = s.cyc
    ∧ (State.rollDigests s b g j).freeNext = s.freeNext ∧ (State.rollDigests s b g j).mdl = s.mdl
    ∧ (State.rollDigests s b g j).meter = s.meter ∧ (State.rollDigests s b g j).hub = s.hub
    ∧ (State.rollDigests s b g j).tsu = s.tsu ∧ (State.rollDigests s b g j).phi = s.phi
    ∧ (State.rollDigests s b g j).die.sync = s.die.sync ∧ (State.rollDigests s b g j).die.launches = s.die.launches
    ∧ (State.rollDigests s b g j).die.binds = s.die.binds ∧ (State.rollDigests s b g j).die.coreEn = s.die.coreEn := by
  simp only [State.rollDigests] <;> (repeat' split) <;> first | (simp; done) | (simp [*]; done) | (refine ⟨?_, ?_, ?_, ?_, ?_, ?_, ?_, ?_, ?_, ?_, ?_, ?_⟩ <;> first | rfl | (simp; done) | (simp [*]; done))

@[simp] theorem State.notify_keeps (s : State) (b : Nat) (g : Nat) (j : StepNo) (c : Nat) :
    (State.notify s b g j c).pending = s.pending ∧ (State.notify s b g j c).cyc = s.cyc
    ∧ (State.notify s b g j c).freeNext = s.freeNext ∧ (State.notify s b g j c).out = s.out
    ∧ (State.notify s b g j c).mdl = s.mdl ∧ (State.notify s b g j c).meter = s.meter
    ∧ (State.notify s b g j c).hub = s.hub ∧ (State.notify s b g j c).tsu = s.tsu
    ∧ (State.notify s b g j c).phi = s.phi ∧ (State.notify s b g j c).die.sync = s.die.sync
    ∧ (State.notify s b g j c).die.launches = s.die.launches ∧ (State.notify s b g j c).die.dig = s.die.dig
    ∧ (State.notify s b g j c).die.binds = s.die.binds ∧ (State.notify s b g j c).die.coreEn = s.die.coreEn := by
  refine ⟨?_, ?_, ?_, ?_, ?_, ?_, ?_, ?_, ?_, ?_, ?_, ?_, ?_, ?_⟩ <;> first | (simp [State.notify]; done)

@[simp] theorem State.gateAbort_keeps (s : State) (b : Nat) (g : Nat) (f : LaunchPl) :
    (State.gateAbort s b g f).pending = s.pending ∧ (State.gateAbort s b g f).cyc = s.cyc
    ∧ (State.gateAbort s b g f).freeNext = s.freeNext ∧ (State.gateAbort s b g f).mdl = s.mdl
    ∧ (State.gateAbort s b g f).meter = s.meter ∧ (State.gateAbort s b g f).die = s.die
    ∧ (State.gateAbort s b g f).hub = s.hub ∧ (State.gateAbort s b g f).phi = s.phi
    ∧ (State.gateAbort s b g f).tsu.time = s.tsu.time ∧ (State.gateAbort s b g f).tsu.rings = s.tsu.rings
    ∧ (State.gateAbort s b g f).tsu.cfg = s.tsu.cfg := by
  refine ⟨?_, ?_, ?_, ?_, ?_, ?_, ?_, ?_, ?_, ?_, ?_⟩ <;> first | (simp [State.gateAbort]; done)

@[simp] theorem State.abortJudged_keeps (s : State) :
    (State.abortJudged s).pending = s.pending ∧ (State.abortJudged s).cyc = s.cyc ∧ (State.abortJudged s).mdl = s.mdl
    ∧ (State.abortJudged s).meter = s.meter ∧ (State.abortJudged s).phi = s.phi
    ∧ (State.abortJudged s).tsu.time = s.tsu.time ∧ (State.abortJudged s).tsu.cfg = s.tsu.cfg
    ∧ (State.abortJudged s).hub.storage = s.hub.storage ∧ (State.abortJudged s).hub.fw.state = s.hub.fw.state
    ∧ (State.abortJudged s).hub.pairs = s.hub.pairs ∧ (State.abortJudged s).hub.led = s.hub.led
    ∧ (State.abortJudged s).hub.seqs = s.hub.seqs ∧ (State.abortJudged s).die.sync = s.die.sync
    ∧ (State.abortJudged s).die.launches = s.die.launches ∧ (State.abortJudged s).die.dig = s.die.dig
    ∧ (State.abortJudged s).die.binds = s.die.binds ∧ (State.abortJudged s).die.coreEn = s.die.coreEn := by
  refine ⟨?_, ?_, ?_, ?_, ?_, ?_, ?_, ?_, ?_, ?_, ?_, ?_, ?_, ?_, ?_, ?_, ?_⟩ <;> first | (simp [State.abortJudged]; done)

@[simp] theorem State.applyAbort_keeps (s : State) (b : Nat) (g : Nat) (f : LaunchPl) :
    (State.applyAbort s b g f).pending = s.pending ∧ (State.applyAbort s b g f).cyc = s.cyc
    ∧ (State.applyAbort s b g f).mdl = s.mdl ∧ (State.applyAbort s b g f).meter = s.meter
    ∧ (State.applyAbort s b g f).phi = s.phi ∧ (State.applyAbort s b g f).tsu.time = s.tsu.time
    ∧ (State.applyAbort s b g f).tsu.cfg = s.tsu.cfg ∧ (State.applyAbort s b g f).hub.storage = s.hub.storage
    ∧ (State.applyAbort s b g f).hub.fw.state = s.hub.fw.state ∧ (State.applyAbort s b g f).hub.pairs = s.hub.pairs
    ∧ (State.applyAbort s b g f).hub.led = s.hub.led ∧ (State.applyAbort s b g f).hub.seqs = s.hub.seqs
    ∧ (State.applyAbort s b g f).die.binds = s.die.binds ∧ (State.applyAbort s b g f).die.coreEn = s.die.coreEn := by
  simp only [State.applyAbort] <;> (repeat' split) <;> first | (simp; done) | (simp [*]; done) | (refine ⟨?_, ?_, ?_, ?_, ?_, ?_, ?_, ?_, ?_, ?_, ?_, ?_, ?_, ?_⟩ <;> first | rfl | (simp; done) | (simp [*]; done) | ((try simp); refine (foldl_pending _ _ _ fun s a => ?_).trans ?_ <;> (repeat' split) <;> first | with_reducible rfl | (simp; done) | (simp [*]; done)) | ((try simp); refine (foldl_cyc _ _ _ fun s a => ?_).trans ?_ <;> (repeat' split) <;> first | with_reducible rfl | (simp; done) | (simp [*]; done)) | ((try simp); refine (foldl_mdl _ _ _ fun s a => ?_).trans ?_ <;> (repeat' split) <;> first | with_reducible rfl | (simp; done) | (simp [*]; done)) | ((try simp); refine (foldl_meter _ _ _ fun s a => ?_).trans ?_ <;> (repeat' split) <;> first | with_reducible rfl | (simp; done) | (simp [*]; done)) | ((try simp); refine (foldl_phi _ _ _ fun s a => ?_).trans ?_ <;> (repeat' split) <;> first | with_reducible rfl | (simp; done) | (simp [*]; done)) | ((try simp); refine (foldl_tsu_time _ _ _ fun s a => ?_).trans ?_ <;> (repeat' split) <;> first | with_reducible rfl | (simp; done) | (simp [*]; done)) | ((try simp); refine (foldl_tsu_cfg _ _ _ fun s a => ?_).trans ?_ <;> (repeat' split) <;> first | with_reducible rfl | (simp; done) | (simp [*]; done)) | ((try simp); refine (foldl_hub_storage _ _ _ fun s a => ?_).trans ?_ <;> (repeat' split) <;> first | with_reducible rfl | (simp; done) | (simp [*]; done)) | ((try simp); refine (foldl_hub_fw_state _ _ _ fun s a => ?_).trans ?_ <;> (repeat' split) <;> first | with_reducible rfl | (simp; done) | (simp [*]; done)) | ((try simp); refine (foldl_hub_pairs _ _ _ fun s a => ?_).trans ?_ <;> (repeat' split) <;> first | with_reducible rfl | (simp; done) | (simp [*]; done)) | ((try simp); refine (foldl_hub_led _ _ _ fun s a => ?_).trans ?_ <;> (repeat' split) <;> first | with_reducible rfl | (simp; done) | (simp [*]; done)) | ((try simp); refine (foldl_hub_seqs _ _ _ fun s a => ?_).trans ?_ <;> (repeat' split) <;> first | with_reducible rfl | (simp; done) | (simp [*]; done)) | ((try simp); refine (foldl_die_binds _ _ _ fun s a => ?_).trans ?_ <;> (repeat' split) <;> first | with_reducible rfl | (simp; done) | (simp [*]; done)) | ((try simp); refine (foldl_die_coreEn _ _ _ fun s a => ?_).trans ?_ <;> (repeat' split) <;> first | with_reducible rfl | (simp; done) | (simp [*]; done)))

@[simp] theorem State.addKey_keeps (s : State) (p : Part) (basin : Nat) (gen : Nat) (step : StepNo) (kind : Nat) (bell : W32) (untilNs : W64) :
    (State.addKey s p basin gen step kind bell untilNs).pending = s.pending
    ∧ (State.addKey s p basin gen step kind bell untilNs).cyc = s.cyc
    ∧ (State.addKey s p basin gen step kind bell untilNs).freeNext = s.freeNext
    ∧ (State.addKey s p basin gen step kind bell untilNs).out = s.out
    ∧ (State.addKey s p basin gen step kind bell untilNs).mdl = s.mdl
    ∧ (State.addKey s p basin gen step kind bell untilNs).meter = s.meter
    ∧ (State.addKey s p basin gen step kind bell untilNs).die = s.die
    ∧ (State.addKey s p basin gen step kind bell untilNs).hub = s.hub
    ∧ (State.addKey s p basin gen step kind bell untilNs).tsu.time = s.tsu.time
    ∧ (State.addKey s p basin gen step kind bell untilNs).tsu.rings = s.tsu.rings
    ∧ (State.addKey s p basin gen step kind bell untilNs).tsu.cfg = s.tsu.cfg
    ∧ (State.addKey s p basin gen step kind bell untilNs).phi.time = s.phi.time
    ∧ (State.addKey s p basin gen step kind bell untilNs).phi.rings = s.phi.rings
    ∧ (State.addKey s p basin gen step kind bell untilNs).phi.cfg = s.phi.cfg := by
  refine ⟨?_, ?_, ?_, ?_, ?_, ?_, ?_, ?_, ?_, ?_, ?_, ?_, ?_, ?_⟩ <;> first | (simp [State.addKey]; done)

@[simp] theorem State.addKey_keeps_tsu (s : State) (basin : Nat) (gen : Nat) (step : StepNo) (kind : Nat) (bell : W32) (untilNs : W64) :
    (State.addKey s .tsu basin gen step kind bell untilNs).phi = s.phi := by simp [State.addKey]

@[simp] theorem State.addKey_keeps_phi (s : State) (basin : Nat) (gen : Nat) (step : StepNo) (kind : Nat) (bell : W32) (untilNs : W64) :
    (State.addKey s .phi basin gen step kind bell untilNs).tsu = s.tsu := by simp [State.addKey]

@[simp] theorem State.addRelKey_keeps (s : State) (p : Part) (b : Nat) (g : Nat) (gate : Nat) (use : W32) (bell : W32) :
    (State.addRelKey s p b g gate use bell).pending = s.pending ∧ (State.addRelKey s p b g gate use bell).cyc = s.cyc
    ∧ (State.addRelKey s p b g gate use bell).freeNext = s.freeNext
    ∧ (State.addRelKey s p b g gate use bell).out = s.out ∧ (State.addRelKey s p b g gate use bell).mdl = s.mdl
    ∧ (State.addRelKey s p b g gate use bell).meter = s.meter ∧ (State.addRelKey s p b g gate use bell).die = s.die
    ∧ (State.addRelKey s p b g gate use bell).hub = s.hub
    ∧ (State.addRelKey s p b g gate use bell).tsu.time = s.tsu.time
    ∧ (State.addRelKey s p b g gate use bell).tsu.rings = s.tsu.rings
    ∧ (State.addRelKey s p b g gate use bell).tsu.cfg = s.tsu.cfg
    ∧ (State.addRelKey s p b g gate use bell).phi.time = s.phi.time
    ∧ (State.addRelKey s p b g gate use bell).phi.rings = s.phi.rings
    ∧ (State.addRelKey s p b g gate use bell).phi.cfg = s.phi.cfg := by
  refine ⟨?_, ?_, ?_, ?_, ?_, ?_, ?_, ?_, ?_, ?_, ?_, ?_, ?_, ?_⟩ <;> first | (simp [State.addRelKey]; done)

@[simp] theorem State.addRelKey_keeps_tsu (s : State) (b : Nat) (g : Nat) (gate : Nat) (use : W32) (bell : W32) :
    (State.addRelKey s .tsu b g gate use bell).phi = s.phi := by simp [State.addRelKey]

@[simp] theorem State.addRelKey_keeps_phi (s : State) (b : Nat) (g : Nat) (gate : Nat) (use : W32) (bell : W32) :
    (State.addRelKey s .phi b g gate use bell).tsu = s.tsu := by simp [State.addRelKey]

@[simp] theorem State.startAbort_keeps (s : State) (b : Nat) (g : Nat) (step : StepNo) (bell : W32) (entry : BitVec 24) (st : Status) (cause : W16) :
    (State.startAbort s b g step bell entry st cause).pending = s.pending
    ∧ (State.startAbort s b g step bell entry st cause).cyc = s.cyc
    ∧ (State.startAbort s b g step bell entry st cause).mdl = s.mdl
    ∧ (State.startAbort s b g step bell entry st cause).meter = s.meter
    ∧ (State.startAbort s b g step bell entry st cause).phi = s.phi
    ∧ (State.startAbort s b g step bell entry st cause).tsu.time = s.tsu.time
    ∧ (State.startAbort s b g step bell entry st cause).tsu.cfg = s.tsu.cfg
    ∧ (State.startAbort s b g step bell entry st cause).hub.storage = s.hub.storage
    ∧ (State.startAbort s b g step bell entry st cause).hub.fw.state = s.hub.fw.state
    ∧ (State.startAbort s b g step bell entry st cause).hub.pairs = s.hub.pairs
    ∧ (State.startAbort s b g step bell entry st cause).hub.led = s.hub.led
    ∧ (State.startAbort s b g step bell entry st cause).hub.seqs = s.hub.seqs
    ∧ (State.startAbort s b g step bell entry st cause).die.binds = s.die.binds
    ∧ (State.startAbort s b g step bell entry st cause).die.coreEn = s.die.coreEn := by
  refine ⟨?_, ?_, ?_, ?_, ?_, ?_, ?_, ?_, ?_, ?_, ?_, ?_, ?_, ?_⟩ <;> first | (simp [State.startAbort]; done)

@[simp] theorem State.abortLaunch_keeps (s : State) (l : Launch) (st : Status) (cause : Cause) :
    (State.abortLaunch s l st cause).pending = s.pending ∧ (State.abortLaunch s l st cause).cyc = s.cyc
    ∧ (State.abortLaunch s l st cause).mdl = s.mdl ∧ (State.abortLaunch s l st cause).meter = s.meter
    ∧ (State.abortLaunch s l st cause).phi = s.phi ∧ (State.abortLaunch s l st cause).tsu.time = s.tsu.time
    ∧ (State.abortLaunch s l st cause).tsu.cfg = s.tsu.cfg
    ∧ (State.abortLaunch s l st cause).hub.storage = s.hub.storage
    ∧ (State.abortLaunch s l st cause).hub.fw.state = s.hub.fw.state
    ∧ (State.abortLaunch s l st cause).hub.pairs = s.hub.pairs
    ∧ (State.abortLaunch s l st cause).hub.led = s.hub.led ∧ (State.abortLaunch s l st cause).hub.seqs = s.hub.seqs
    ∧ (State.abortLaunch s l st cause).die.binds = s.die.binds
    ∧ (State.abortLaunch s l st cause).die.coreEn = s.die.coreEn := by
  refine ⟨?_, ?_, ?_, ?_, ?_, ?_, ?_, ?_, ?_, ?_, ?_, ?_, ?_, ?_⟩ <;> first | (simp [State.abortLaunch]; done)

@[simp] theorem State.purge_keeps (s : State) (b : Nat) (reset : Bool) :
    (State.purge s b reset).pending = s.pending ∧ (State.purge s b reset).cyc = s.cyc
    ∧ (State.purge s b reset).mdl = s.mdl ∧ (State.purge s b reset).meter = s.meter
    ∧ (State.purge s b reset).phi = s.phi ∧ (State.purge s b reset).tsu.time = s.tsu.time
    ∧ (State.purge s b reset).tsu.cfg = s.tsu.cfg ∧ (State.purge s b reset).hub.storage = s.hub.storage
    ∧ (State.purge s b reset).hub.fw.state = s.hub.fw.state ∧ (State.purge s b reset).hub.pairs = s.hub.pairs
    ∧ (State.purge s b reset).hub.led = s.hub.led ∧ (State.purge s b reset).hub.seqs = s.hub.seqs
    ∧ (State.purge s b reset).die.binds = s.die.binds ∧ (State.purge s b reset).die.coreEn = s.die.coreEn := by
  simp only [State.purge] <;> (repeat' split) <;> first | (simp; done) | (simp [*]; done) | (refine ⟨?_, ?_, ?_, ?_, ?_, ?_, ?_, ?_, ?_, ?_, ?_, ?_, ?_, ?_⟩ <;> first | rfl | (simp; done) | (simp [*]; done))

@[simp] theorem State.holdItem_keeps (s : State) (engine : Nat) (depth : Nat) (item : List Byte) :
    (State.holdItem s engine depth item).pending = s.pending ∧ (State.holdItem s engine depth item).cyc = s.cyc
    ∧ (State.holdItem s engine depth item).freeNext = s.freeNext ∧ (State.holdItem s engine depth item).out = s.out
    ∧ (State.holdItem s engine depth item).mdl = s.mdl ∧ (State.holdItem s engine depth item).meter = s.meter
    ∧ (State.holdItem s engine depth item).die = s.die ∧ (State.holdItem s engine depth item).hub = s.hub
    ∧ (State.holdItem s engine depth item).phi = s.phi ∧ (State.holdItem s engine depth item).tsu.time = s.tsu.time
    ∧ (State.holdItem s engine depth item).tsu.rings = s.tsu.rings
    ∧ (State.holdItem s engine depth item).tsu.cfg = s.tsu.cfg := by
  refine ⟨?_, ?_, ?_, ?_, ?_, ?_, ?_, ?_, ?_, ?_, ?_, ?_⟩ <;> first | (simp [State.holdItem]; done)

end Sys2Proof.Machine
end

