-- ==== Sys2Proof/Laws/TimeOps.lean ====
section
/-!
SUPPORT. What the operations and meanings of Machine/TimeOps.lean leave unchanged.
-/

namespace Sys2Proof.Machine

@[simp] theorem State.pageChange_keeps (s : State) (p : Part) :
    (State.pageChange s p).pending = s.pending ∧ (State.pageChange s p).cyc = s.cyc
    ∧ (State.pageChange s p).freeNext = s.freeNext ∧ (State.pageChange s p).out = s.out
    ∧ (State.pageChange s p).mdl = s.mdl ∧ (State.pageChange s p).meter = s.meter
    ∧ (State.pageChange s p).die = s.die ∧ (State.pageChange s p).hub = s.hub
    ∧ (State.pageChange s p).tsu.time = s.tsu.time ∧ (State.pageChange s p).tsu.ports = s.tsu.ports
    ∧ (State.pageChange s p).tsu.torn = s.tsu.torn ∧ (State.pageChange s p).tsu.keys = s.tsu.keys
    ∧ (State.pageChange s p).tsu.relKeys = s.tsu.relKeys ∧ (State.pageChange s p).tsu.tdc = s.tsu.tdc
    ∧ (State.pageChange s p).tsu.clk = s.tsu.clk ∧ (State.pageChange s p).tsu.rings = s.tsu.rings
    ∧ (State.pageChange s p).tsu.flt = s.tsu.flt ∧ (State.pageChange s p).tsu.units = s.tsu.units
    ∧ (State.pageChange s p).tsu.engines = s.tsu.engines ∧ (State.pageChange s p).tsu.gov = s.tsu.gov
    ∧ (State.pageChange s p).tsu.cnt = s.tsu.cnt ∧ (State.pageChange s p).tsu.cfg = s.tsu.cfg
    ∧ (State.pageChange s p).tsu.cycs = s.tsu.cycs ∧ (State.pageChange s p).phi.time = s.phi.time
    ∧ (State.pageChange s p).phi.ports = s.phi.ports ∧ (State.pageChange s p).phi.torn = s.phi.torn
    ∧ (State.pageChange s p).phi.keys = s.phi.keys ∧ (State.pageChange s p).phi.relKeys = s.phi.relKeys
    ∧ (State.pageChange s p).phi.tdc = s.phi.tdc ∧ (State.pageChange s p).phi.clk = s.phi.clk
    ∧ (State.pageChange s p).phi.rings = s.phi.rings ∧ (State.pageChange s p).phi.flt = s.phi.flt
    ∧ (State.pageChange s p).phi.units = s.phi.units ∧ (State.pageChange s p).phi.engines = s.phi.engines
    ∧ (State.pageChange s p).phi.gov = s.phi.gov ∧ (State.pageChange s p).phi.cnt = s.phi.cnt
    ∧ (State.pageChange s p).phi.cfg = s.phi.cfg ∧ (State.pageChange s p).phi.cycs = s.phi.cycs := by
  refine ⟨?_, ?_, ?_, ?_, ?_, ?_, ?_, ?_, ?_, ?_, ?_, ?_, ?_, ?_, ?_, ?_, ?_, ?_, ?_, ?_, ?_, ?_, ?_, ?_, ?_, ?_, ?_, ?_, ?_, ?_, ?_, ?_, ?_, ?_, ?_, ?_, ?_, ?_⟩ <;> first | (simp [State.pageChange]; done)

@[simp] theorem State.pageChange_keeps_tsu (s : State) :
    (State.pageChange s .tsu).phi = s.phi := by simp [State.pageChange]

@[simp] theorem State.pageChange_keeps_phi (s : State) :
    (State.pageChange s .phi).tsu = s.tsu := by simp [State.pageChange]

@[simp] theorem State.updTime_keeps (s : State) (p : Part) (f : TimeSt → TimeSt) :
    (State.updTime s p f).pending = s.pending ∧ (State.updTime s p f).cyc = s.cyc
    ∧ (State.updTime s p f).freeNext = s.freeNext ∧ (State.updTime s p f).out = s.out
    ∧ (State.updTime s p f).mdl = s.mdl ∧ (State.updTime s p f).meter = s.meter ∧ (State.updTime s p f).die = s.die
    ∧ (State.updTime s p f).hub = s.hub ∧ (State.updTime s p f).tsu.ports = s.tsu.ports
    ∧ (State.updTime s p f).tsu.torn = s.tsu.torn ∧ (State.updTime s p f).tsu.keys = s.tsu.keys
    ∧ (State.updTime s p f).tsu.relKeys = s.tsu.relKeys ∧ (State.updTime s p f).tsu.tdc = s.tsu.tdc
    ∧ (State.updTime s p f).tsu.clk = s.tsu.clk ∧ (State.updTime s p f).tsu.rings = s.tsu.rings
    ∧ (State.updTime s p f).tsu.page = s.tsu.page ∧ (State.updTime s p f).tsu.flt = s.tsu.flt
    ∧ (State.updTime s p f).tsu.units = s.tsu.units ∧ (State.updTime s p f).tsu.engines = s.tsu.engines
    ∧ (State.updTime s p f).tsu.gov = s.tsu.gov ∧ (State.updTime s p f).tsu.cnt = s.tsu.cnt
    ∧ (State.updTime s p f).tsu.cfg = s.tsu.cfg ∧ (State.updTime s p f).tsu.cycs = s.tsu.cycs
    ∧ (State.updTime s p f).phi.ports = s.phi.ports ∧ (State.updTime s p f).phi.torn = s.phi.torn
    ∧ (State.updTime s p f).phi.keys = s.phi.keys ∧ (State.updTime s p f).phi.relKeys = s.phi.relKeys
    ∧ (State.updTime s p f).phi.tdc = s.phi.tdc ∧ (State.updTime s p f).phi.clk = s.phi.clk
    ∧ (State.updTime s p f).phi.rings = s.phi.rings ∧ (State.updTime s p f).phi.page = s.phi.page
    ∧ (State.updTime s p f).phi.flt = s.phi.flt ∧ (State.updTime s p f).phi.units = s.phi.units
    ∧ (State.updTime s p f).phi.engines = s.phi.engines ∧ (State.updTime s p f).phi.gov = s.phi.gov
    ∧ (State.updTime s p f).phi.cnt = s.phi.cnt ∧ (State.updTime s p f).phi.cfg = s.phi.cfg
    ∧ (State.updTime s p f).phi.cycs = s.phi.cycs := by
  refine ⟨?_, ?_, ?_, ?_, ?_, ?_, ?_, ?_, ?_, ?_, ?_, ?_, ?_, ?_, ?_, ?_, ?_, ?_, ?_, ?_, ?_, ?_, ?_, ?_, ?_, ?_, ?_, ?_, ?_, ?_, ?_, ?_, ?_, ?_, ?_, ?_, ?_, ?_⟩ <;> first | (simp [State.updTime]; done)

@[simp] theorem State.updTime_keeps_tsu (s : State) (f : TimeSt → TimeSt) :
    (State.updTime s .tsu f).phi = s.phi := by simp [State.updTime]

@[simp] theorem State.updTime_keeps_phi (s : State) (f : TimeSt → TimeSt) :
    (State.updTime s .phi f).tsu = s.tsu := by simp [State.updTime]

@[simp] theorem State.updTime_tsu_acc (s : State) (p : Part) (f : TimeSt → TimeSt) (h : ∀ t, (f t).acc = t.acc) :
    (s.updTime p f).tsu.time.acc = s.tsu.time.acc := by cases p <;> simp [State.updTime, h]

@[simp] theorem State.updTime_tsu_state (s : State) (p : Part) (f : TimeSt → TimeSt) (h : ∀ t, (f t).state = t.state) :
    (s.updTime p f).tsu.time.state = s.tsu.time.state := by cases p <;> simp [State.updTime, h]

@[simp] theorem State.updTime_phi_acc (s : State) (p : Part) (f : TimeSt → TimeSt) (h : ∀ t, (f t).acc = t.acc) :
    (s.updTime p f).phi.time.acc = s.phi.time.acc := by cases p <;> simp [State.updTime, h]

@[simp] theorem State.updTime_phi_state (s : State) (p : Part) (f : TimeSt → TimeSt) (h : ∀ t, (f t).state = t.state) :
    (s.updTime p f).phi.time.state = s.phi.time.state := by cases p <;> simp [State.updTime, h]

@[simp] theorem State.enter_keeps (s : State) (p : Part) (st : TimeState) :
    (State.enter s p st).pending = s.pending ∧ (State.enter s p st).cyc = s.cyc
    ∧ (State.enter s p st).freeNext = s.freeNext ∧ (State.enter s p st).out = s.out
    ∧ (State.enter s p st).mdl = s.mdl ∧ (State.enter s p st).meter = s.meter ∧ (State.enter s p st).die = s.die
    ∧ (State.enter s p st).hub = s.hub ∧ (State.enter s p st).tsu.ports = s.tsu.ports
    ∧ (State.enter s p st).tsu.torn = s.tsu.torn ∧ (State.enter s p st).tsu.keys = s.tsu.keys
    ∧ (State.enter s p st).tsu.relKeys = s.tsu.relKeys ∧ (State.enter s p st).tsu.tdc = s.tsu.tdc
    ∧ (State.enter s p st).tsu.clk = s.tsu.clk ∧ (State.enter s p st).tsu.rings = s.tsu.rings
    ∧ (State.enter s p st).tsu.flt = s.tsu.flt ∧ (State.enter s p st).tsu.units = s.tsu.units
    ∧ (State.enter s p st).tsu.engines = s.tsu.engines ∧ (State.enter s p st).tsu.gov = s.tsu.gov
    ∧ (State.enter s p st).tsu.cnt = s.tsu.cnt ∧ (State.enter s p st).tsu.cfg = s.tsu.cfg
    ∧ (State.enter s p st).tsu.cycs = s.tsu.cycs ∧ (State.enter s p st).phi.ports = s.phi.ports
    ∧ (State.enter s p st).phi.torn = s.phi.torn ∧ (State.enter s p st).phi.keys = s.phi.keys
    ∧ (State.enter s p st).phi.relKeys = s.phi.relKeys ∧ (State.enter s p st).phi.tdc = s.phi.tdc
    ∧ (State.enter s p st).phi.clk = s.phi.clk ∧ (State.enter s p st).phi.rings = s.phi.rings
    ∧ (State.enter s p st).phi.flt = s.phi.flt ∧ (State.enter s p st).phi.units = s.phi.units
    ∧ (State.enter s p st).phi.engines = s.phi.engines ∧ (State.enter s p st).phi.gov = s.phi.gov
    ∧ (State.enter s p st).phi.cnt = s.phi.cnt ∧ (State.enter s p st).phi.cfg = s.phi.cfg
    ∧ (State.enter s p st).phi.cycs = s.phi.cycs := by
  refine ⟨?_, ?_, ?_, ?_, ?_, ?_, ?_, ?_, ?_, ?_, ?_, ?_, ?_, ?_, ?_, ?_, ?_, ?_, ?_, ?_, ?_, ?_, ?_, ?_, ?_, ?_, ?_, ?_, ?_, ?_, ?_, ?_, ?_, ?_, ?_, ?_⟩ <;> first | (simp [State.enter]; done)

@[simp] theorem State.enter_keeps2 (s : State) (p : Part) (st : TimeState) :
    (State.enter s p st).tsu.time.acc = s.tsu.time.acc ∧ (State.enter s p st).phi.time.acc = s.phi.time.acc := by
  simp only [State.enter] <;> (repeat' split) <;> first | (simp; done) | (simp [*]; done) | (refine ⟨?_, ?_⟩ <;> first | rfl | (simp; done) | (simp [*]; done))

@[simp] theorem State.enter_keeps_tsu (s : State) (st : TimeState) :
    (State.enter s .tsu st).phi = s.phi := by simp [State.enter]

@[simp] theorem State.enter_keeps_phi (s : State) (st : TimeState) :
    (State.enter s .phi st).tsu = s.tsu := by simp [State.enter]

@[simp] theorem State.slew_keeps (s : State) (p : Part) (corr : Int) :
    (State.slew s p corr).pending = s.pending ∧ (State.slew s p corr).cyc = s.cyc
    ∧ (State.slew s p corr).freeNext = s.freeNext ∧ (State.slew s p corr).out = s.out
    ∧ (State.slew s p corr).mdl = s.mdl ∧ (State.slew s p corr).meter = s.meter ∧ (State.slew s p corr).die = s.die
    ∧ (State.slew s p corr).hub = s.hub ∧ (State.slew s p corr).tsu.time.acc = s.tsu.time.acc
    ∧ (State.slew s p corr).tsu.time.state = s.tsu.time.state ∧ (State.slew s p corr).tsu.ports = s.tsu.ports
    ∧ (State.slew s p corr).tsu.torn = s.tsu.torn ∧ (State.slew s p corr).tsu.keys = s.tsu.keys
    ∧ (State.slew s p corr).tsu.relKeys = s.tsu.relKeys ∧ (State.slew s p corr).tsu.tdc = s.tsu.tdc
    ∧ (State.slew s p corr).tsu.clk = s.tsu.clk ∧ (State.slew s p corr).tsu.rings = s.tsu.rings
    ∧ (State.slew s p corr).tsu.flt = s.tsu.flt ∧ (State.slew s p corr).tsu.units = s.tsu.units
    ∧ (State.slew s p corr).tsu.engines = s.tsu.engines ∧ (State.slew s p corr).tsu.gov = s.tsu.gov
    ∧ (State.slew s p corr).tsu.cnt = s.tsu.cnt ∧ (State.slew s p corr).tsu.cfg = s.tsu.cfg
    ∧ (State.slew s p corr).tsu.cycs = s.tsu.cycs ∧ (State.slew s p corr).phi.time.acc = s.phi.time.acc
    ∧ (State.slew s p corr).phi.time.state = s.phi.time.state ∧ (State.slew s p corr).phi.ports = s.phi.ports
    ∧ (State.slew s p corr).phi.torn = s.phi.torn ∧ (State.slew s p corr).phi.keys = s.phi.keys
    ∧ (State.slew s p corr).phi.relKeys = s.phi.relKeys ∧ (State.slew s p corr).phi.tdc = s.phi.tdc
    ∧ (State.slew s p corr).phi.clk = s.phi.clk ∧ (State.slew s p corr).phi.rings = s.phi.rings
    ∧ (State.slew s p corr).phi.flt = s.phi.flt ∧ (State.slew s p corr).phi.units = s.phi.units
    ∧ (State.slew s p corr).phi.engines = s.phi.engines ∧ (State.slew s p corr).phi.gov = s.phi.gov
    ∧ (State.slew s p corr).phi.cnt = s.phi.cnt ∧ (State.slew s p corr).phi.cfg = s.phi.cfg
    ∧ (State.slew s p corr).phi.cycs = s.phi.cycs := by
  refine ⟨?_, ?_, ?_, ?_, ?_, ?_, ?_, ?_, ?_, ?_, ?_, ?_, ?_, ?_, ?_, ?_, ?_, ?_, ?_, ?_, ?_, ?_, ?_, ?_, ?_, ?_, ?_, ?_, ?_, ?_, ?_, ?_, ?_, ?_, ?_, ?_, ?_, ?_, ?_, ?_⟩ <;> first | (simp [State.slew]; done)

@[simp] theorem State.slew_keeps_tsu (s : State) (corr : Int) :
    (State.slew s .tsu corr).phi = s.phi := by simp only [State.slew] <;> (repeat' split) <;> first | rfl | (simp; done) | (simp [*]; done)

@[simp] theorem State.slew_keeps_phi (s : State) (corr : Int) :
    (State.slew s .phi corr).tsu = s.tsu := by simp only [State.slew] <;> (repeat' split) <;> first | rfl | (simp; done) | (simp [*]; done)

@[simp] theorem State.stepOrHold_keeps (s : State) (p : Part) (corr : Int) :
    (State.stepOrHold s p corr).pending = s.pending ∧ (State.stepOrHold s p corr).cyc = s.cyc
    ∧ (State.stepOrHold s p corr).freeNext = s.freeNext ∧ (State.stepOrHold s p corr).out = s.out
    ∧ (State.stepOrHold s p corr).mdl = s.mdl ∧ (State.stepOrHold s p corr).meter = s.meter
    ∧ (State.stepOrHold s p corr).die = s.die ∧ (State.stepOrHold s p corr).hub = s.hub
    ∧ (State.stepOrHold s p corr).tsu.time.state = s.tsu.time.state
    ∧ (State.stepOrHold s p corr).tsu.ports = s.tsu.ports ∧ (State.stepOrHold s p corr).tsu.torn = s.tsu.torn
    ∧ (State.stepOrHold s p corr).tsu.keys = s.tsu.keys ∧ (State.stepOrHold s p corr).tsu.relKeys = s.tsu.relKeys
    ∧ (State.stepOrHold s p corr).tsu.tdc = s.tsu.tdc ∧ (State.stepOrHold s p corr).tsu.clk = s.tsu.clk
    ∧ (State.stepOrHold s p corr).tsu.rings = s.tsu.rings ∧ (State.stepOrHold s p corr).tsu.page = s.tsu.page
    ∧ (State.stepOrHold s p corr).tsu.flt = s.tsu.flt ∧ (State.stepOrHold s p corr).tsu.units = s.tsu.units
    ∧ (State.stepOrHold s p corr).tsu.engines = s.tsu.engines ∧ (State.stepOrHold s p corr).tsu.gov = s.tsu.gov
    ∧ (State.stepOrHold s p corr).tsu.cnt = s.tsu.cnt ∧ (State.stepOrHold s p corr).tsu.cfg = s.tsu.cfg
    ∧ (State.stepOrHold s p corr).tsu.cycs = s.tsu.cycs
    ∧ (State.stepOrHold s p corr).phi.time.state = s.phi.time.state
    ∧ (State.stepOrHold s p corr).phi.ports = s.phi.ports ∧ (State.stepOrHold s p corr).phi.torn = s.phi.torn
    ∧ (State.stepOrHold s p corr).phi.keys = s.phi.keys ∧ (State.stepOrHold s p corr).phi.relKeys = s.phi.relKeys
    ∧ (State.stepOrHold s p corr).phi.tdc = s.phi.tdc ∧ (State.stepOrHold s p corr).phi.clk = s.phi.clk
    ∧ (State.stepOrHold s p corr).phi.rings = s.phi.rings ∧ (State.stepOrHold s p corr).phi.page = s.phi.page
    ∧ (State.stepOrHold s p corr).phi.flt = s.phi.flt ∧ (State.stepOrHold s p corr).phi.units = s.phi.units
    ∧ (State.stepOrHold s p corr).phi.engines = s.phi.engines ∧ (State.stepOrHold s p corr).phi.gov = s.phi.gov
    ∧ (State.stepOrHold s p corr).phi.cnt = s.phi.cnt ∧ (State.stepOrHold s p corr).phi.cfg = s.phi.cfg
    ∧ (State.stepOrHold s p corr).phi.cycs = s.phi.cycs := by
  refine ⟨?_, ?_, ?_, ?_, ?_, ?_, ?_, ?_, ?_, ?_, ?_, ?_, ?_, ?_, ?_, ?_, ?_, ?_, ?_, ?_, ?_, ?_, ?_, ?_, ?_, ?_, ?_, ?_, ?_, ?_, ?_, ?_, ?_, ?_, ?_, ?_, ?_, ?_, ?_, ?_⟩ <;> first | (simp [State.stepOrHold]; done)

@[simp] theorem State.stepOrHold_keeps_tsu (s : State) (corr : Int) :
    (State.stepOrHold s .tsu corr).phi = s.phi := by simp [State.stepOrHold]

@[simp] theorem State.stepOrHold_keeps_phi (s : State) (corr : Int) :
    (State.stepOrHold s .phi corr).tsu = s.tsu := by simp [State.stepOrHold]

@[simp] theorem State.showOffset_keeps (s : State) (p : Part) (c : Int) (v : Nat) :
    (State.showOffset s p c v).pending = s.pending ∧ (State.showOffset s p c v).cyc = s.cyc
    ∧ (State.showOffset s p c v).freeNext = s.freeNext ∧ (State.showOffset s p c v).out = s.out
    ∧ (State.showOffset s p c v).mdl = s.mdl ∧ (State.showOffset s p c v).meter = s.meter
    ∧ (State.showOffset s p c v).die = s.die ∧ (State.showOffset s p c v).hub = s.hub
    ∧ (State.showOffset s p c v).tsu.time.acc = s.tsu.time.acc
    ∧ (State.showOffset s p c v).tsu.time.state = s.tsu.time.state
    ∧ (State.showOffset s p c v).tsu.ports = s.tsu.ports ∧ (State.showOffset s p c v).tsu.torn = s.tsu.torn
    ∧ (State.showOffset s p c v).tsu.keys = s.tsu.keys ∧ (State.showOffset s p c v).tsu.relKeys = s.tsu.relKeys
    ∧ (State.showOffset s p c v).tsu.tdc = s.tsu.tdc ∧ (State.showOffset s p c v).tsu.clk = s.tsu.clk
    ∧ (State.showOffset s p c v).tsu.rings = s.tsu.rings ∧ (State.showOffset s p c v).tsu.page = s.tsu.page
    ∧ (State.showOffset s p c v).tsu.flt = s.tsu.flt ∧ (State.showOffset s p c v).tsu.units = s.tsu.units
    ∧ (State.showOffset s p c v).tsu.engines = s.tsu.engines ∧ (State.showOffset s p c v).tsu.gov = s.tsu.gov
    ∧ (State.showOffset s p c v).tsu.cnt = s.tsu.cnt ∧ (State.showOffset s p c v).tsu.cfg = s.tsu.cfg
    ∧ (State.showOffset s p c v).tsu.cycs = s.tsu.cycs ∧ (State.showOffset s p c v).phi.time.acc = s.phi.time.acc
    ∧ (State.showOffset s p c v).phi.time.state = s.phi.time.state
    ∧ (State.showOffset s p c v).phi.ports = s.phi.ports ∧ (State.showOffset s p c v).phi.torn = s.phi.torn
    ∧ (State.showOffset s p c v).phi.keys = s.phi.keys ∧ (State.showOffset s p c v).phi.relKeys = s.phi.relKeys
    ∧ (State.showOffset s p c v).phi.tdc = s.phi.tdc ∧ (State.showOffset s p c v).phi.clk = s.phi.clk
    ∧ (State.showOffset s p c v).phi.rings = s.phi.rings ∧ (State.showOffset s p c v).phi.page = s.phi.page
    ∧ (State.showOffset s p c v).phi.flt = s.phi.flt ∧ (State.showOffset s p c v).phi.units = s.phi.units
    ∧ (State.showOffset s p c v).phi.engines = s.phi.engines ∧ (State.showOffset s p c v).phi.gov = s.phi.gov
    ∧ (State.showOffset s p c v).phi.cnt = s.phi.cnt ∧ (State.showOffset s p c v).phi.cfg = s.phi.cfg
    ∧ (State.showOffset s p c v).phi.cycs = s.phi.cycs := by
  refine ⟨?_, ?_, ?_, ?_, ?_, ?_, ?_, ?_, ?_, ?_, ?_, ?_, ?_, ?_, ?_, ?_, ?_, ?_, ?_, ?_, ?_, ?_, ?_, ?_, ?_, ?_, ?_, ?_, ?_, ?_, ?_, ?_, ?_, ?_, ?_, ?_, ?_, ?_, ?_, ?_, ?_, ?_⟩ <;> first | (simp [State.showOffset]; done)

@[simp] theorem State.showOffset_keeps_tsu (s : State) (c : Int) (v : Nat) :
    (State.showOffset s .tsu c v).phi = s.phi := by simp [State.showOffset]

@[simp] theorem State.showOffset_keeps_phi (s : State) (c : Int) (v : Nat) :
    (State.showOffset s .phi c v).tsu = s.tsu := by simp [State.showOffset]

@[simp] theorem State.formCorrection_keeps (s : State) (p : Part) (port : Nat) :
    (State.formCorrection s p port).pending = s.pending ∧ (State.formCorrection s p port).cyc = s.cyc
    ∧ (State.formCorrection s p port).freeNext = s.freeNext ∧ (State.formCorrection s p port).out = s.out
    ∧ (State.formCorrection s p port).mdl = s.mdl ∧ (State.formCorrection s p port).meter = s.meter
    ∧ (State.formCorrection s p port).die = s.die ∧ (State.formCorrection s p port).hub = s.hub
    ∧ (State.formCorrection s p port).tsu.time.acc = s.tsu.time.acc
    ∧ (State.formCorrection s p port).tsu.time.state = s.tsu.time.state
    ∧ (State.formCorrection s p port).tsu.torn = s.tsu.torn ∧ (State.formCorrection s p port).tsu.keys = s.tsu.keys
    ∧ (State.formCorrection s p port).tsu.relKeys = s.tsu.relKeys
    ∧ (State.formCorrection s p port).tsu.tdc = s.tsu.tdc ∧ (State.formCorrection s p port).tsu.clk = s.tsu.clk
    ∧ (State.formCorrection s p port).tsu.rings = s.tsu.rings
    ∧ (State.formCorrection s p port).tsu.page = s.tsu.page ∧ (State.formCorrection s p port).tsu.flt = s.tsu.flt
    ∧ (State.formCorrection s p port).tsu.units = s.tsu.units
    ∧ (State.formCorrection s p port).tsu.engines = s.tsu.engines
    ∧ (State.formCorrection s p port).tsu.gov = s.tsu.gov ∧ (State.formCorrection s p port).tsu.cnt = s.tsu.cnt
    ∧ (State.formCorrection s p port).tsu.cfg = s.tsu.cfg ∧ (State.formCorrection s p port).tsu.cycs = s.tsu.cycs
    ∧ (State.formCorrection s p port).phi.time.acc = s.phi.time.acc
    ∧ (State.formCorrection s p port).phi.time.state = s.phi.time.state
    ∧ (State.formCorrection s p port).phi.torn = s.phi.torn ∧ (State.formCorrection s p port).phi.keys = s.phi.keys
    ∧ (State.formCorrection s p port).phi.relKeys = s.phi.relKeys
    ∧ (State.formCorrection s p port).phi.tdc = s.phi.tdc ∧ (State.formCorrection s p port).phi.clk = s.phi.clk
    ∧ (State.formCorrection s p port).phi.rings = s.phi.rings
    ∧ (State.formCorrection s p port).phi.page = s.phi.page ∧ (State.formCorrection s p port).phi.flt = s.phi.flt
    ∧ (State.formCorrection s p port).phi.units = s.phi.units
    ∧ (State.formCorrection s p port).phi.engines = s.phi.engines
    ∧ (State.formCorrection s p port).phi.gov = s.phi.gov ∧ (State.formCorrection s p port).phi.cnt = s.phi.cnt
    ∧ (State.formCorrection s p port).phi.cfg = s.phi.cfg ∧ (State.formCorrection s p port).phi.cycs = s.phi.cycs := by
  refine ⟨?_, ?_, ?_, ?_, ?_, ?_, ?_, ?_, ?_, ?_, ?_, ?_, ?_, ?_, ?_, ?_, ?_, ?_, ?_, ?_, ?_, ?_, ?_, ?_, ?_, ?_, ?_, ?_, ?_, ?_, ?_, ?_, ?_, ?_, ?_, ?_, ?_, ?_, ?_, ?_⟩ <;> first | (simp [State.formCorrection]; done)

@[simp] theorem State.formCorrection_keeps_tsu (s : State) (port : Nat) :
    (State.formCorrection s .tsu port).phi = s.phi := by simp [State.formCorrection]

@[simp] theorem State.formCorrection_keeps_phi (s : State) (port : Nat) :
    (State.formCorrection s .phi port).tsu = s.tsu := by simp [State.formCorrection]

@[simp] theorem State.evalStandby_keeps (s : State) :
    (State.evalStandby s).pending = s.pending ∧ (State.evalStandby s).cyc = s.cyc
    ∧ (State.evalStandby s).freeNext = s.freeNext ∧ (State.evalStandby s).out = s.out
    ∧ (State.evalStandby s).mdl = s.mdl ∧ (State.evalStandby s).meter = s.meter ∧ (State.evalStandby s).die = s.die
    ∧ (State.evalStandby s).hub = s.hub ∧ (State.evalStandby s).phi = s.phi
    ∧ (State.evalStandby s).tsu.time.acc = s.tsu.time.acc ∧ (State.evalStandby s).tsu.time.state = s.tsu.time.state
    ∧ (State.evalStandby s).tsu.ports = s.tsu.ports ∧ (State.evalStandby s).tsu.torn = s.tsu.torn
    ∧ (State.evalStandby s).tsu.keys = s.tsu.keys ∧ (State.evalStandby s).tsu.relKeys = s.tsu.relKeys
    ∧ (State.evalStandby s).tsu.tdc = s.tsu.tdc ∧ (State.evalStandby s).tsu.clk = s.tsu.clk
    ∧ (State.evalStandby s).tsu.rings = s.tsu.rings ∧ (State.evalStandby s).tsu.page = s.tsu.page
    ∧ (State.evalStandby s).tsu.flt = s.tsu.flt ∧ (State.evalStandby s).tsu.units = s.tsu.units
    ∧ (State.evalStandby s).tsu.engines = s.tsu.engines ∧ (State.evalStandby s).tsu.gov = s.tsu.gov
    ∧ (State.evalStandby s).tsu.cnt = s.tsu.cnt ∧ (State.evalStandby s).tsu.cfg = s.tsu.cfg
    ∧ (State.evalStandby s).tsu.cycs = s.tsu.cycs := by
  refine ⟨?_, ?_, ?_, ?_, ?_, ?_, ?_, ?_, ?_, ?_, ?_, ?_, ?_, ?_, ?_, ?_, ?_, ?_, ?_, ?_, ?_, ?_, ?_, ?_, ?_, ?_⟩ <;> first | (simp [State.evalStandby]; done)

@[simp] theorem State.selectPlane_keeps (s : State) (port : Nat) :
    (State.selectPlane s port).pending = s.pending ∧ (State.selectPlane s port).cyc = s.cyc
    ∧ (State.selectPlane s port).freeNext = s.freeNext ∧ (State.selectPlane s port).out = s.out
    ∧ (State.selectPlane s port).mdl = s.mdl ∧ (State.selectPlane s port).meter = s.meter
    ∧ (State.selectPlane s port).die = s.die ∧ (State.selectPlane s port).hub = s.hub
    ∧ (State.selectPlane s port).phi = s.phi ∧ (State.selectPlane s port).tsu.time.acc = s.tsu.time.acc
    ∧ (State.selectPlane s port).tsu.time.state = s.tsu.time.state
    ∧ (State.selectPlane s port).tsu.ports = s.tsu.ports ∧ (State.selectPlane s port).tsu.torn = s.tsu.torn
    ∧ (State.selectPlane s port).tsu.keys = s.tsu.keys ∧ (State.selectPlane s port).tsu.relKeys = s.tsu.relKeys
    ∧ (State.selectPlane s port).tsu.tdc = s.tsu.tdc ∧ (State.selectPlane s port).tsu.clk = s.tsu.clk
    ∧ (State.selectPlane s port).tsu.rings = s.tsu.rings ∧ (State.selectPlane s port).tsu.page = s.tsu.page
    ∧ (State.selectPlane s port).tsu.flt = s.tsu.flt ∧ (State.selectPlane s port).tsu.units = s.tsu.units
    ∧ (State.selectPlane s port).tsu.engines = s.tsu.engines ∧ (State.selectPlane s port).tsu.gov = s.tsu.gov
    ∧ (State.selectPlane s port).tsu.cnt = s.tsu.cnt ∧ (State.selectPlane s port).tsu.cfg = s.tsu.cfg
    ∧ (State.selectPlane s port).tsu.cycs = s.tsu.cycs := by
  refine ⟨?_, ?_, ?_, ?_, ?_, ?_, ?_, ?_, ?_, ?_, ?_, ?_, ?_, ?_, ?_, ?_, ?_, ?_, ?_, ?_, ?_, ?_, ?_, ?_, ?_, ?_⟩ <;> first | (simp [State.selectPlane]; done)

@[simp] theorem State.lockRun_keeps (s : State) (p : Part) (q : Port) :
    (State.lockRun s p q).pending = s.pending ∧ (State.lockRun s p q).cyc = s.cyc
    ∧ (State.lockRun s p q).freeNext = s.freeNext ∧ (State.lockRun s p q).out = s.out
    ∧ (State.lockRun s p q).mdl = s.mdl ∧ (State.lockRun s p q).meter = s.meter ∧ (State.lockRun s p q).die = s.die
    ∧ (State.lockRun s p q).hub = s.hub ∧ (State.lockRun s p q).tsu.time.acc = s.tsu.time.acc
    ∧ (State.lockRun s p q).tsu.ports = s.tsu.ports ∧ (State.lockRun s p q).tsu.torn = s.tsu.torn
    ∧ (State.lockRun s p q).tsu.keys = s.tsu.keys ∧ (State.lockRun s p q).tsu.relKeys = s.tsu.relKeys
    ∧ (State.lockRun s p q).tsu.tdc = s.tsu.tdc ∧ (State.lockRun s p q).tsu.clk = s.tsu.clk
    ∧ (State.lockRun s p q).tsu.rings = s.tsu.rings ∧ (State.lockRun s p q).tsu.flt = s.tsu.flt
    ∧ (State.lockRun s p q).tsu.units = s.tsu.units ∧ (State.lockRun s p q).tsu.engines = s.tsu.engines
    ∧ (State.lockRun s p q).tsu.gov = s.tsu.gov ∧ (State.lockRun s p q).tsu.cnt = s.tsu.cnt
    ∧ (State.lockRun s p q).tsu.cfg = s.tsu.cfg ∧ (State.lockRun s p q).tsu.cycs = s.tsu.cycs
    ∧ (State.lockRun s p q).phi.time.acc = s.phi.time.acc ∧ (State.lockRun s p q).phi.ports = s.phi.ports
    ∧ (State.lockRun s p q).phi.torn = s.phi.torn ∧ (State.lockRun s p q).phi.keys = s.phi.keys
    ∧ (State.lockRun s p q).phi.relKeys = s.phi.relKeys ∧ (State.lockRun s p q).phi.tdc = s.phi.tdc
    ∧ (State.lockRun s p q).phi.clk = s.phi.clk ∧ (State.lockRun s p q).phi.rings = s.phi.rings
    ∧ (State.lockRun s p q).phi.flt = s.phi.flt ∧ (State.lockRun s p q).phi.units = s.phi.units
    ∧ (State.lockRun s p q).phi.engines = s.phi.engines ∧ (State.lockRun s p q).phi.gov = s.phi.gov
    ∧ (State.lockRun s p q).phi.cnt = s.phi.cnt ∧ (State.lockRun s p q).phi.cfg = s.phi.cfg
    ∧ (State.lockRun s p q).phi.cycs = s.phi.cycs := by
  refine ⟨?_, ?_, ?_, ?_, ?_, ?_, ?_, ?_, ?_, ?_, ?_, ?_, ?_, ?_, ?_, ?_, ?_, ?_, ?_, ?_, ?_, ?_, ?_, ?_, ?_, ?_, ?_, ?_, ?_, ?_, ?_, ?_, ?_, ?_, ?_, ?_, ?_, ?_⟩ <;> first | (simp [State.lockRun]; done)

@[simp] theorem State.lockRun_keeps_tsu (s : State) (q : Port) :
    (State.lockRun s .tsu q).phi = s.phi := by simp only [State.lockRun] <;> (repeat' split) <;> first | rfl | (simp; done) | (simp [*]; done)

@[simp] theorem State.lockRun_keeps_phi (s : State) (q : Port) :
    (State.lockRun s .phi q).tsu = s.tsu := by simp only [State.lockRun] <;> (repeat' split) <;> first | rfl | (simp; done) | (simp [*]; done)

@[simp] theorem State.judgeCorrection_keeps (s : State) (p : Part) (port : Nat) :
    (State.judgeCorrection s p port).pending = s.pending ∧ (State.judgeCorrection s p port).cyc = s.cyc
    ∧ (State.judgeCorrection s p port).freeNext = s.freeNext ∧ (State.judgeCorrection s p port).out = s.out
    ∧ (State.judgeCorrection s p port).mdl = s.mdl ∧ (State.judgeCorrection s p port).meter = s.meter
    ∧ (State.judgeCorrection s p port).die = s.die ∧ (State.judgeCorrection s p port).hub = s.hub
    ∧ (State.judgeCorrection s p port).tsu.time.acc = s.tsu.time.acc
    ∧ (State.judgeCorrection s p port).tsu.ports = s.tsu.ports
    ∧ (State.judgeCorrection s p port).tsu.torn = s.tsu.torn
    ∧ (State.judgeCorrection s p port).tsu.keys = s.tsu.keys
    ∧ (State.judgeCorrection s p port).tsu.relKeys = s.tsu.relKeys
    ∧ (State.judgeCorrection s p port).tsu.tdc = s.tsu.tdc ∧ (State.judgeCorrection s p port).tsu.clk = s.tsu.clk
    ∧ (State.judgeCorrection s p port).tsu.rings = s.tsu.rings
    ∧ (State.judgeCorrection s p port).tsu.flt = s.tsu.flt
    ∧ (State.judgeCorrection s p port).tsu.units = s.tsu.units
    ∧ (State.judgeCorrection s p port).tsu.engines = s.tsu.engines
    ∧ (State.judgeCorrection s p port).tsu.gov = s.tsu.gov ∧ (State.judgeCorrection s p port).tsu.cnt = s.tsu.cnt
    ∧ (State.judgeCorrection s p port).tsu.cfg = s.tsu.cfg ∧ (State.judgeCorrection s p port).tsu.cycs = s.tsu.cycs
    ∧ (State.judgeCorrection s p port).phi.time.acc = s.phi.time.acc
    ∧ (State.judgeCorrection s p port).phi.ports = s.phi.ports
    ∧ (State.judgeCorrection s p port).phi.torn = s.phi.torn
    ∧ (State.judgeCorrection s p port).phi.keys = s.phi.keys
    ∧ (State.judgeCorrection s p port).phi.relKeys = s.phi.relKeys
    ∧ (State.judgeCorrection s p port).phi.tdc = s.phi.tdc ∧ (State.judgeCorrection s p port).phi.clk = s.phi.clk
    ∧ (State.judgeCorrection s p port).phi.rings = s.phi.rings
    ∧ (State.judgeCorrection s p port).phi.flt = s.phi.flt
    ∧ (State.judgeCorrection s p port).phi.units = s.phi.units
    ∧ (State.judgeCorrection s p port).phi.engines = s.phi.engines
    ∧ (State.judgeCorrection s p port).phi.gov = s.phi.gov ∧ (State.judgeCorrection s p port).phi.cnt = s.phi.cnt
    ∧ (State.judgeCorrection s p port).phi.cfg = s.phi.cfg ∧ (State.judgeCorrection s p port).phi.cycs = s.phi.cycs := by
  simp only [State.judgeCorrection] <;> (repeat' split) <;> first | (simp; done) | (simp [*]; done) | (refine ⟨?_, ?_, ?_, ?_, ?_, ?_, ?_, ?_, ?_, ?_, ?_, ?_, ?_, ?_, ?_, ?_, ?_, ?_, ?_, ?_, ?_, ?_, ?_, ?_, ?_, ?_, ?_, ?_, ?_, ?_, ?_, ?_, ?_, ?_, ?_, ?_, ?_, ?_⟩ <;> first | rfl | (simp; done) | (simp [*]; done))

@[simp] theorem State.applyCorrection_keeps (s : State) (p : Part) (port : Nat) :
    (State.applyCorrection s p port).pending = s.pending ∧ (State.applyCorrection s p port).cyc = s.cyc
    ∧ (State.applyCorrection s p port).freeNext = s.freeNext ∧ (State.applyCorrection s p port).out = s.out
    ∧ (State.applyCorrection s p port).mdl = s.mdl ∧ (State.applyCorrection s p port).meter = s.meter
    ∧ (State.applyCorrection s p port).die = s.die ∧ (State.applyCorrection s p port).hub = s.hub
    ∧ (State.applyCorrection s p port).tsu.time.state = s.tsu.time.state
    ∧ (State.applyCorrection s p port).tsu.ports = s.tsu.ports
    ∧ (State.applyCorrection s p port).tsu.torn = s.tsu.torn
    ∧ (State.applyCorrection s p port).tsu.keys = s.tsu.keys
    ∧ (State.applyCorrection s p port).tsu.relKeys = s.tsu.relKeys
    ∧ (State.applyCorrection s p port).tsu.tdc = s.tsu.tdc ∧ (State.applyCorrection s p port).tsu.clk = s.tsu.clk
    ∧ (State.applyCorrection s p port).tsu.rings = s.tsu.rings
    ∧ (State.applyCorrection s p port).tsu.flt = s.tsu.flt
    ∧ (State.applyCorrection s p port).tsu.units = s.tsu.units
    ∧ (State.applyCorrection s p port).tsu.engines = s.tsu.engines
    ∧ (State.applyCorrection s p port).tsu.gov = s.tsu.gov ∧ (State.applyCorrection s p port).tsu.cnt = s.tsu.cnt
    ∧ (State.applyCorrection s p port).tsu.cfg = s.tsu.cfg ∧ (State.applyCorrection s p port).tsu.cycs = s.tsu.cycs
    ∧ (State.applyCorrection s p port).phi.time.state = s.phi.time.state
    ∧ (State.applyCorrection s p port).phi.ports = s.phi.ports
    ∧ (State.applyCorrection s p port).phi.torn = s.phi.torn
    ∧ (State.applyCorrection s p port).phi.keys = s.phi.keys
    ∧ (State.applyCorrection s p port).phi.relKeys = s.phi.relKeys
    ∧ (State.applyCorrection s p port).phi.tdc = s.phi.tdc ∧ (State.applyCorrection s p port).phi.clk = s.phi.clk
    ∧ (State.applyCorrection s p port).phi.rings = s.phi.rings
    ∧ (State.applyCorrection s p port).phi.flt = s.phi.flt
    ∧ (State.applyCorrection s p port).phi.units = s.phi.units
    ∧ (State.applyCorrection s p port).phi.engines = s.phi.engines
    ∧ (State.applyCorrection s p port).phi.gov = s.phi.gov ∧ (State.applyCorrection s p port).phi.cnt = s.phi.cnt
    ∧ (State.applyCorrection s p port).phi.cfg = s.phi.cfg ∧ (State.applyCorrection s p port).phi.cycs = s.phi.cycs := by
  simp only [State.applyCorrection] <;> (repeat' split) <;> first | (simp; done) | (simp [*]; done) | (refine ⟨?_, ?_, ?_, ?_, ?_, ?_, ?_, ?_, ?_, ?_, ?_, ?_, ?_, ?_, ?_, ?_, ?_, ?_, ?_, ?_, ?_, ?_, ?_, ?_, ?_, ?_, ?_, ?_, ?_, ?_, ?_, ?_, ?_, ?_, ?_, ?_, ?_, ?_⟩ <;> first | rfl | (simp; done) | (simp [*]; done))

@[simp] theorem State.applyCorrection_keeps_tsu (s : State) (port : Nat) :
    (State.applyCorrection s .tsu port).phi = s.phi := by simp only [State.applyCorrection] <;> (repeat' split) <;> first | rfl | (simp; done) | (simp [*]; done)

@[simp] theorem State.applyCorrection_keeps_phi (s : State) (port : Nat) :
    (State.applyCorrection s .phi port).tsu = s.tsu := by simp only [State.applyCorrection] <;> (repeat' split) <;> first | rfl | (simp; done) | (simp [*]; done)

@[simp] theorem State.takePort_keeps (s : State) (port : Nat) :
    (State.takePort s port).pending = s.pending ∧ (State.takePort s port).cyc = s.cyc
    ∧ (State.takePort s port).freeNext = s.freeNext ∧ (State.takePort s port).out = s.out
    ∧ (State.takePort s port).mdl = s.mdl ∧ (State.takePort s port).meter = s.meter
    ∧ (State.takePort s port).die = s.die ∧ (State.takePort s port).hub = s.hub
    ∧ (State.takePort s port).tsu.ports = s.tsu.ports ∧ (State.takePort s port).tsu.torn = s.tsu.torn
    ∧ (State.takePort s port).tsu.keys = s.tsu.keys ∧ (State.takePort s port).tsu.relKeys = s.tsu.relKeys
    ∧ (State.takePort s port).tsu.tdc = s.tsu.tdc ∧ (State.takePort s port).tsu.clk = s.tsu.clk
    ∧ (State.takePort s port).tsu.rings = s.tsu.rings ∧ (State.takePort s port).tsu.flt = s.tsu.flt
    ∧ (State.takePort s port).tsu.units = s.tsu.units ∧ (State.takePort s port).tsu.engines = s.tsu.engines
    ∧ (State.takePort s port).tsu.gov = s.tsu.gov ∧ (State.takePort s port).tsu.cnt = s.tsu.cnt
    ∧ (State.takePort s port).tsu.cfg = s.tsu.cfg ∧ (State.takePort s port).tsu.cycs = s.tsu.cycs
    ∧ (State.takePort s port).phi.time.acc = s.phi.time.acc ∧ (State.takePort s port).phi.ports = s.phi.ports
    ∧ (State.takePort s port).phi.torn = s.phi.torn ∧ (State.takePort s port).phi.keys = s.phi.keys
    ∧ (State.takePort s port).phi.relKeys = s.phi.relKeys ∧ (State.takePort s port).phi.tdc = s.phi.tdc
    ∧ (State.takePort s port).phi.clk = s.phi.clk ∧ (State.takePort s port).phi.rings = s.phi.rings
    ∧ (State.takePort s port).phi.flt = s.phi.flt ∧ (State.takePort s port).phi.units = s.phi.units
    ∧ (State.takePort s port).phi.engines = s.phi.engines ∧ (State.takePort s port).phi.gov = s.phi.gov
    ∧ (State.takePort s port).phi.cnt = s.phi.cnt ∧ (State.takePort s port).phi.cfg = s.phi.cfg
    ∧ (State.takePort s port).phi.cycs = s.phi.cycs := by
  refine ⟨?_, ?_, ?_, ?_, ?_, ?_, ?_, ?_, ?_, ?_, ?_, ?_, ?_, ?_, ?_, ?_, ?_, ?_, ?_, ?_, ?_, ?_, ?_, ?_, ?_, ?_, ?_, ?_, ?_, ?_, ?_, ?_, ?_, ?_, ?_, ?_, ?_⟩ <;> first | (simp [State.takePort]; done)

@[simp] theorem State.movePlane_keeps (s : State) (port : Nat) :
    (State.movePlane s port).pending = s.pending ∧ (State.movePlane s port).cyc = s.cyc
    ∧ (State.movePlane s port).freeNext = s.freeNext ∧ (State.movePlane s port).out = s.out
    ∧ (State.movePlane s port).mdl = s.mdl ∧ (State.movePlane s port).meter = s.meter
    ∧ (State.movePlane s port).die = s.die ∧ (State.movePlane s port).hub = s.hub
    ∧ (State.movePlane s port).tsu.ports = s.tsu.ports ∧ (State.movePlane s port).tsu.torn = s.tsu.torn
    ∧ (State.movePlane s port).tsu.keys = s.tsu.keys ∧ (State.movePlane s port).tsu.relKeys = s.tsu.relKeys
    ∧ (State.movePlane s port).tsu.tdc = s.tsu.tdc ∧ (State.movePlane s port).tsu.clk = s.tsu.clk
    ∧ (State.movePlane s port).tsu.rings = s.tsu.rings ∧ (State.movePlane s port).tsu.flt = s.tsu.flt
    ∧ (State.movePlane s port).tsu.units = s.tsu.units ∧ (State.movePlane s port).tsu.engines = s.tsu.engines
    ∧ (State.movePlane s port).tsu.gov = s.tsu.gov ∧ (State.movePlane s port).tsu.cnt = s.tsu.cnt
    ∧ (State.movePlane s port).tsu.cfg = s.tsu.cfg ∧ (State.movePlane s port).tsu.cycs = s.tsu.cycs
    ∧ (State.movePlane s port).phi.time.acc = s.phi.time.acc ∧ (State.movePlane s port).phi.ports = s.phi.ports
    ∧ (State.movePlane s port).phi.torn = s.phi.torn ∧ (State.movePlane s port).phi.keys = s.phi.keys
    ∧ (State.movePlane s port).phi.relKeys = s.phi.relKeys ∧ (State.movePlane s port).phi.tdc = s.phi.tdc
    ∧ (State.movePlane s port).phi.clk = s.phi.clk ∧ (State.movePlane s port).phi.rings = s.phi.rings
    ∧ (State.movePlane s port).phi.flt = s.phi.flt ∧ (State.movePlane s port).phi.units = s.phi.units
    ∧ (State.movePlane s port).phi.engines = s.phi.engines ∧ (State.movePlane s port).phi.gov = s.phi.gov
    ∧ (State.movePlane s port).phi.cnt = s.phi.cnt ∧ (State.movePlane s port).phi.cfg = s.phi.cfg
    ∧ (State.movePlane s port).phi.cycs = s.phi.cycs := by
  simp only [State.movePlane] <;> (repeat' split) <;> first | (simp; done) | (simp [*]; done) | (refine ⟨?_, ?_, ?_, ?_, ?_, ?_, ?_, ?_, ?_, ?_, ?_, ?_, ?_, ?_, ?_, ?_, ?_, ?_, ?_, ?_, ?_, ?_, ?_, ?_, ?_, ?_, ?_, ?_, ?_, ?_, ?_, ?_, ?_, ?_, ?_, ?_, ?_⟩ <;> first | rfl | (simp; done) | (simp [*]; done))

@[simp] theorem State.backPlane_keeps (s : State) :
    (State.backPlane s).pending = s.pending ∧ (State.backPlane s).cyc = s.cyc
    ∧ (State.backPlane s).freeNext = s.freeNext ∧ (State.backPlane s).out = s.out ∧ (State.backPlane s).mdl = s.mdl
    ∧ (State.backPlane s).meter = s.meter ∧ (State.backPlane s).die = s.die ∧ (State.backPlane s).hub = s.hub
    ∧ (State.backPlane s).phi = s.phi ∧ (State.backPlane s).tsu.time.acc = s.tsu.time.acc
    ∧ (State.backPlane s).tsu.time.state = s.tsu.time.state ∧ (State.backPlane s).tsu.ports = s.tsu.ports
    ∧ (State.backPlane s).tsu.torn = s.tsu.torn ∧ (State.backPlane s).tsu.keys = s.tsu.keys
    ∧ (State.backPlane s).tsu.relKeys = s.tsu.relKeys ∧ (State.backPlane s).tsu.tdc = s.tsu.tdc
    ∧ (State.backPlane s).tsu.clk = s.tsu.clk ∧ (State.backPlane s).tsu.rings = s.tsu.rings
    ∧ (State.backPlane s).tsu.page = s.tsu.page ∧ (State.backPlane s).tsu.flt = s.tsu.flt
    ∧ (State.backPlane s).tsu.units = s.tsu.units ∧ (State.backPlane s).tsu.engines = s.tsu.engines
    ∧ (State.backPlane s).tsu.gov = s.tsu.gov ∧ (State.backPlane s).tsu.cnt = s.tsu.cnt
    ∧ (State.backPlane s).tsu.cfg = s.tsu.cfg ∧ (State.backPlane s).tsu.cycs = s.tsu.cycs := by
  refine ⟨?_, ?_, ?_, ?_, ?_, ?_, ?_, ?_, ?_, ?_, ?_, ?_, ?_, ?_, ?_, ?_, ?_, ?_, ?_, ?_, ?_, ?_, ?_, ?_, ?_, ?_⟩ <;> first | (simp [State.backPlane]; done)

@[simp] theorem State.sendCalEnd_keeps (s : State) (p : Part) (port : Nat) :
    (State.sendCalEnd s p port).pending = s.pending ∧ (State.sendCalEnd s p port).cyc = s.cyc
    ∧ (State.sendCalEnd s p port).freeNext = s.freeNext ∧ (State.sendCalEnd s p port).mdl = s.mdl
    ∧ (State.sendCalEnd s p port).meter = s.meter ∧ (State.sendCalEnd s p port).die = s.die
    ∧ (State.sendCalEnd s p port).hub = s.hub ∧ (State.sendCalEnd s p port).tsu.time = s.tsu.time
    ∧ (State.sendCalEnd s p port).tsu.torn = s.tsu.torn ∧ (State.sendCalEnd s p port).tsu.keys = s.tsu.keys
    ∧ (State.sendCalEnd s p port).tsu.relKeys = s.tsu.relKeys ∧ (State.sendCalEnd s p port).tsu.tdc = s.tsu.tdc
    ∧ (State.sendCalEnd s p port).tsu.clk = s.tsu.clk ∧ (State.sendCalEnd s p port).tsu.rings = s.tsu.rings
    ∧ (State.sendCalEnd s p port).tsu.page = s.tsu.page ∧ (State.sendCalEnd s p port).tsu.flt = s.tsu.flt
    ∧ (State.sendCalEnd s p port).tsu.units = s.tsu.units ∧ (State.sendCalEnd s p port).tsu.engines = s.tsu.engines
    ∧ (State.sendCalEnd s p port).tsu.gov = s.tsu.gov ∧ (State.sendCalEnd s p port).tsu.cfg = s.tsu.cfg
    ∧ (State.sendCalEnd s p port).tsu.cycs = s.tsu.cycs ∧ (State.sendCalEnd s p port).phi.time = s.phi.time
    ∧ (State.sendCalEnd s p port).phi.torn = s.phi.torn ∧ (State.sendCalEnd s p port).phi.keys = s.phi.keys
    ∧ (State.sendCalEnd s p port).phi.relKeys = s.phi.relKeys ∧ (State.sendCalEnd s p port).phi.tdc = s.phi.tdc
    ∧ (State.sendCalEnd s p port).phi.clk = s.phi.clk ∧ (State.sendCalEnd s p port).phi.rings = s.phi.rings
    ∧ (State.sendCalEnd s p port).phi.page = s.phi.page ∧ (State.sendCalEnd s p port).phi.flt = s.phi.flt
    ∧ (State.sendCalEnd s p port).phi.units = s.phi.units ∧ (State.sendCalEnd s p port).phi.engines = s.phi.engines
    ∧ (State.sendCalEnd s p port).phi.gov = s.phi.gov ∧ (State.sendCalEnd s p port).phi.cfg = s.phi.cfg
    ∧ (State.sendCalEnd s p port).phi.cycs = s.phi.cycs := by
  refine ⟨?_, ?_, ?_, ?_, ?_, ?_, ?_, ?_, ?_, ?_, ?_, ?_, ?_, ?_, ?_, ?_, ?_, ?_, ?_, ?_, ?_, ?_, ?_, ?_, ?_, ?_, ?_, ?_, ?_, ?_, ?_, ?_, ?_, ?_, ?_⟩ <;> first | (simp [State.sendCalEnd]; done)

@[simp] theorem State.sendCalEnd_keeps_tsu (s : State) (port : Nat) :
    (State.sendCalEnd s .tsu port).phi = s.phi := by simp [State.sendCalEnd]

@[simp] theorem State.sendCalEnd_keeps_phi (s : State) (port : Nat) :
    (State.sendCalEnd s .phi port).tsu = s.tsu := by simp [State.sendCalEnd]

@[simp] theorem State.abandonCal_keeps (s : State) (p : Part) (port : Nat) :
    (State.abandonCal s p port).pending = s.pending ∧ (State.abandonCal s p port).cyc = s.cyc
    ∧ (State.abandonCal s p port).freeNext = s.freeNext ∧ (State.abandonCal s p port).mdl = s.mdl
    ∧ (State.abandonCal s p port).meter = s.meter ∧ (State.abandonCal s p port).die = s.die
    ∧ (State.abandonCal s p port).hub = s.hub ∧ (State.abandonCal s p port).tsu.time = s.tsu.time
    ∧ (State.abandonCal s p port).tsu.torn = s.tsu.torn ∧ (State.abandonCal s p port).tsu.keys = s.tsu.keys
    ∧ (State.abandonCal s p port).tsu.relKeys = s.tsu.relKeys ∧ (State.abandonCal s p port).tsu.tdc = s.tsu.tdc
    ∧ (State.abandonCal s p port).tsu.clk = s.tsu.clk ∧ (State.abandonCal s p port).tsu.rings = s.tsu.rings
    ∧ (State.abandonCal s p port).tsu.page = s.tsu.page ∧ (State.abandonCal s p port).tsu.flt = s.tsu.flt
    ∧ (State.abandonCal s p port).tsu.units = s.tsu.units ∧ (State.abandonCal s p port).tsu.engines = s.tsu.engines
    ∧ (State.abandonCal s p port).tsu.gov = s.tsu.gov ∧ (State.abandonCal s p port).tsu.cfg = s.tsu.cfg
    ∧ (State.abandonCal s p port).tsu.cycs = s.tsu.cycs ∧ (State.abandonCal s p port).phi.time = s.phi.time
    ∧ (State.abandonCal s p port).phi.torn = s.phi.torn ∧ (State.abandonCal s p port).phi.keys = s.phi.keys
    ∧ (State.abandonCal s p port).phi.relKeys = s.phi.relKeys ∧ (State.abandonCal s p port).phi.tdc = s.phi.tdc
    ∧ (State.abandonCal s p port).phi.clk = s.phi.clk ∧ (State.abandonCal s p port).phi.rings = s.phi.rings
    ∧ (State.abandonCal s p port).phi.page = s.phi.page ∧ (State.abandonCal s p port).phi.flt = s.phi.flt
    ∧ (State.abandonCal s p port).phi.units = s.phi.units ∧ (State.abandonCal s p port).phi.engines = s.phi.engines
    ∧ (State.abandonCal s p port).phi.gov = s.phi.gov ∧ (State.abandonCal s p port).phi.cfg = s.phi.cfg
    ∧ (State.abandonCal s p port).phi.cycs = s.phi.cycs := by
  refine ⟨?_, ?_, ?_, ?_, ?_, ?_, ?_, ?_, ?_, ?_, ?_, ?_, ?_, ?_, ?_, ?_, ?_, ?_, ?_, ?_, ?_, ?_, ?_, ?_, ?_, ?_, ?_, ?_, ?_, ?_, ?_, ?_, ?_, ?_, ?_⟩ <;> first | (simp [State.abandonCal]; done)

@[simp] theorem State.abandonCal_keeps_tsu (s : State) (port : Nat) :
    (State.abandonCal s .tsu port).phi = s.phi := by simp [State.abandonCal]

@[simp] theorem State.abandonCal_keeps_phi (s : State) (port : Nat) :
    (State.abandonCal s .phi port).tsu = s.tsu := by simp [State.abandonCal]

@[simp] theorem State.afterLoss_keeps (s : State) (p : Part) (port : Nat) :
    (State.afterLoss s p port).pending = s.pending ∧ (State.afterLoss s p port).cyc = s.cyc
    ∧ (State.afterLoss s p port).freeNext = s.freeNext ∧ (State.afterLoss s p port).mdl = s.mdl
    ∧ (State.afterLoss s p port).meter = s.meter ∧ (State.afterLoss s p port).die = s.die
    ∧ (State.afterLoss s p port).hub = s.hub ∧ (State.afterLoss s p port).tsu.torn = s.tsu.torn
    ∧ (State.afterLoss s p port).tsu.keys = s.tsu.keys ∧ (State.afterLoss s p port).tsu.relKeys = s.tsu.relKeys
    ∧ (State.afterLoss s p port).tsu.tdc = s.tsu.tdc ∧ (State.afterLoss s p port).tsu.clk = s.tsu.clk
    ∧ (State.afterLoss s p port).tsu.rings = s.tsu.rings ∧ (State.afterLoss s p port).tsu.flt = s.tsu.flt
    ∧ (State.afterLoss s p port).tsu.units = s.tsu.units ∧ (State.afterLoss s p port).tsu.engines = s.tsu.engines
    ∧ (State.afterLoss s p port).tsu.gov = s.tsu.gov ∧ (State.afterLoss s p port).tsu.cfg = s.tsu.cfg
    ∧ (State.afterLoss s p port).tsu.cycs = s.tsu.cycs ∧ (State.afterLoss s p port).phi.time.acc = s.phi.time.acc
    ∧ (State.afterLoss s p port).phi.ports = s.phi.ports ∧ (State.afterLoss s p port).phi.torn = s.phi.torn
    ∧ (State.afterLoss s p port).phi.keys = s.phi.keys ∧ (State.afterLoss s p port).phi.relKeys = s.phi.relKeys
    ∧ (State.afterLoss s p port).phi.tdc = s.phi.tdc ∧ (State.afterLoss s p port).phi.clk = s.phi.clk
    ∧ (State.afterLoss s p port).phi.rings = s.phi.rings ∧ (State.afterLoss s p port).phi.flt = s.phi.flt
    ∧ (State.afterLoss s p port).phi.units = s.phi.units ∧ (State.afterLoss s p port).phi.engines = s.phi.engines
    ∧ (State.afterLoss s p port).phi.gov = s.phi.gov ∧ (State.afterLoss s p port).phi.cnt = s.phi.cnt
    ∧ (State.afterLoss s p port).phi.cfg = s.phi.cfg ∧ (State.afterLoss s p port).phi.cycs = s.phi.cycs := by
  simp only [State.afterLoss] <;> (repeat' split) <;> first | (simp; done) | (simp [*]; done) | (refine ⟨?_, ?_, ?_, ?_, ?_, ?_, ?_, ?_, ?_, ?_, ?_, ?_, ?_, ?_, ?_, ?_, ?_, ?_, ?_, ?_, ?_, ?_, ?_, ?_, ?_, ?_, ?_, ?_, ?_, ?_, ?_, ?_, ?_, ?_⟩ <;> first | rfl | (simp; done) | (simp [*]; done))

@[simp] theorem State.afterLoss_keeps_phi (s : State) (port : Nat) :
    (State.afterLoss s .phi port).tsu = s.tsu := by simp only [State.afterLoss] <;> (repeat' split) <;> first | rfl | (simp; done) | (simp [*]; done)

@[simp] theorem State.beaconsLost_keeps (s : State) (p : Part) (port : Nat) :
    (State.beaconsLost s p port).pending = s.pending ∧ (State.beaconsLost s p port).cyc = s.cyc
    ∧ (State.beaconsLost s p port).freeNext = s.freeNext ∧ (State.beaconsLost s p port).mdl = s.mdl
    ∧ (State.beaconsLost s p port).meter = s.meter ∧ (State.beaconsLost s p port).die = s.die
    ∧ (State.beaconsLost s p port).tsu.torn = s.tsu.torn ∧ (State.beaconsLost s p port).tsu.keys = s.tsu.keys
    ∧ (State.beaconsLost s p port).tsu.relKeys = s.tsu.relKeys ∧ (State.beaconsLost s p port).tsu.tdc = s.tsu.tdc
    ∧ (State.beaconsLost s p port).tsu.clk = s.tsu.clk ∧ (State.beaconsLost s p port).tsu.rings = s.tsu.rings
    ∧ (State.beaconsLost s p port).tsu.flt = s.tsu.flt ∧ (State.beaconsLost s p port).tsu.units = s.tsu.units
    ∧ (State.beaconsLost s p port).tsu.engines = s.tsu.engines ∧ (State.beaconsLost s p port).tsu.gov = s.tsu.gov
    ∧ (State.beaconsLost s p port).tsu.cfg = s.tsu.cfg ∧ (State.beaconsLost s p port).tsu.cycs = s.tsu.cycs
    ∧ (State.beaconsLost s p port).phi.time.acc = s.phi.time.acc
    ∧ (State.beaconsLost s p port).phi.torn = s.phi.torn ∧ (State.beaconsLost s p port).phi.keys = s.phi.keys
    ∧ (State.beaconsLost s p port).phi.relKeys = s.phi.relKeys ∧ (State.beaconsLost s p port).phi.tdc = s.phi.tdc
    ∧ (State.beaconsLost s p port).phi.clk = s.phi.clk ∧ (State.beaconsLost s p port).phi.rings = s.phi.rings
    ∧ (State.beaconsLost s p port).phi.flt = s.phi.flt ∧ (State.beaconsLost s p port).phi.units = s.phi.units
    ∧ (State.beaconsLost s p port).phi.engines = s.phi.engines ∧ (State.beaconsLost s p port).phi.gov = s.phi.gov
    ∧ (State.beaconsLost s p port).phi.cnt = s.phi.cnt ∧ (State.beaconsLost s p port).phi.cfg = s.phi.cfg
    ∧ (State.beaconsLost s p port).phi.cycs = s.phi.cycs ∧ (State.beaconsLost s p port).hub.storage = s.hub.storage
    ∧ (State.beaconsLost s p port).hub.fw.state = s.hub.fw.state
    ∧ (State.beaconsLost s p port).hub.pairs = s.hub.pairs ∧ (State.beaconsLost s p port).hub.led = s.hub.led
    ∧ (State.beaconsLost s p port).hub.seqs = s.hub.seqs := by
  refine ⟨?_, ?_, ?_, ?_, ?_, ?_, ?_, ?_, ?_, ?_, ?_, ?_, ?_, ?_, ?_, ?_, ?_, ?_, ?_, ?_, ?_, ?_, ?_, ?_, ?_, ?_, ?_, ?_, ?_, ?_, ?_, ?_, ?_, ?_, ?_, ?_, ?_⟩ <;> first | (simp [State.beaconsLost]; done)

@[simp] theorem State.beaconsLost_keeps_phi (s : State) (port : Nat) :
    (State.beaconsLost s .phi port).tsu = s.tsu := by simp [State.beaconsLost]

@[simp] theorem State.onValid_keeps (s : State) (p : Part) (port : Nat) :
    (State.onValid s p port).pending = s.pending ∧ (State.onValid s p port).cyc = s.cyc
    ∧ (State.onValid s p port).freeNext = s.freeNext ∧ (State.onValid s p port).out = s.out
    ∧ (State.onValid s p port).mdl = s.mdl ∧ (State.onValid s p port).meter = s.meter
    ∧ (State.onValid s p port).die = s.die ∧ (State.onValid s p port).hub = s.hub
    ∧ (State.onValid s p port).tsu.ports = s.tsu.ports ∧ (State.onValid s p port).tsu.torn = s.tsu.torn
    ∧ (State.onValid s p port).tsu.keys = s.tsu.keys ∧ (State.onValid s p port).tsu.relKeys = s.tsu.relKeys
    ∧ (State.onValid s p port).tsu.tdc = s.tsu.tdc ∧ (State.onValid s p port).tsu.clk = s.tsu.clk
    ∧ (State.onValid s p port).tsu.rings = s.tsu.rings ∧ (State.onValid s p port).tsu.flt = s.tsu.flt
    ∧ (State.onValid s p port).tsu.units = s.tsu.units ∧ (State.onValid s p port).tsu.engines = s.tsu.engines
    ∧ (State.onValid s p port).tsu.gov = s.tsu.gov ∧ (State.onValid s p port).tsu.cnt = s.tsu.cnt
    ∧ (State.onValid s p port).tsu.cfg = s.tsu.cfg ∧ (State.onValid s p port).tsu.cycs = s.tsu.cycs
    ∧ (State.onValid s p port).phi.time.acc = s.phi.time.acc ∧ (State.onValid s p port).phi.ports = s.phi.ports
    ∧ (State.onValid s p port).phi.torn = s.phi.torn ∧ (State.onValid s p port).phi.keys = s.phi.keys
    ∧ (State.onValid s p port).phi.relKeys = s.phi.relKeys ∧ (State.onValid s p port).phi.tdc = s.phi.tdc
    ∧ (State.onValid s p port).phi.clk = s.phi.clk ∧ (State.onValid s p port).phi.rings = s.phi.rings
    ∧ (State.onValid s p port).phi.flt = s.phi.flt ∧ (State.onValid s p port).phi.units = s.phi.units
    ∧ (State.onValid s p port).phi.engines = s.phi.engines ∧ (State.onValid s p port).phi.gov = s.phi.gov
    ∧ (State.onValid s p port).phi.cnt = s.phi.cnt ∧ (State.onValid s p port).phi.cfg = s.phi.cfg
    ∧ (State.onValid s p port).phi.cycs = s.phi.cycs := by
  simp only [State.onValid] <;> (repeat' split) <;> first | (simp; done) | (simp [*]; done) | (refine ⟨?_, ?_, ?_, ?_, ?_, ?_, ?_, ?_, ?_, ?_, ?_, ?_, ?_, ?_, ?_, ?_, ?_, ?_, ?_, ?_, ?_, ?_, ?_, ?_, ?_, ?_, ?_, ?_, ?_, ?_, ?_, ?_, ?_, ?_, ?_, ?_, ?_⟩ <;> first | rfl | (simp; done) | (simp [*]; done))

@[simp] theorem State.onValid_keeps_phi (s : State) (port : Nat) :
    (State.onValid s .phi port).tsu = s.tsu := by simp only [State.onValid] <;> (repeat' split) <;> first | rfl | (simp; done) | (simp [*]; done)

@[simp] theorem State.beaconsValid_keeps (s : State) (p : Part) (port : Nat) :
    (State.beaconsValid s p port).pending = s.pending ∧ (State.beaconsValid s p port).cyc = s.cyc
    ∧ (State.beaconsValid s p port).freeNext = s.freeNext ∧ (State.beaconsValid s p port).out = s.out
    ∧ (State.beaconsValid s p port).mdl = s.mdl ∧ (State.beaconsValid s p port).meter = s.meter
    ∧ (State.beaconsValid s p port).die = s.die ∧ (State.beaconsValid s p port).hub = s.hub
    ∧ (State.beaconsValid s p port).tsu.torn = s.tsu.torn ∧ (State.beaconsValid s p port).tsu.keys = s.tsu.keys
    ∧ (State.beaconsValid s p port).tsu.relKeys = s.tsu.relKeys ∧ (State.beaconsValid s p port).tsu.tdc = s.tsu.tdc
    ∧ (State.beaconsValid s p port).tsu.clk = s.tsu.clk ∧ (State.beaconsValid s p port).tsu.rings = s.tsu.rings
    ∧ (State.beaconsValid s p port).tsu.flt = s.tsu.flt ∧ (State.beaconsValid s p port).tsu.units = s.tsu.units
    ∧ (State.beaconsValid s p port).tsu.engines = s.tsu.engines ∧ (State.beaconsValid s p port).tsu.gov = s.tsu.gov
    ∧ (State.beaconsValid s p port).tsu.cnt = s.tsu.cnt ∧ (State.beaconsValid s p port).tsu.cfg = s.tsu.cfg
    ∧ (State.beaconsValid s p port).tsu.cycs = s.tsu.cycs
    ∧ (State.beaconsValid s p port).phi.time.acc = s.phi.time.acc
    ∧ (State.beaconsValid s p port).phi.torn = s.phi.torn ∧ (State.beaconsValid s p port).phi.keys = s.phi.keys
    ∧ (State.beaconsValid s p port).phi.relKeys = s.phi.relKeys ∧ (State.beaconsValid s p port).phi.tdc = s.phi.tdc
    ∧ (State.beaconsValid s p port).phi.clk = s.phi.clk ∧ (State.beaconsValid s p port).phi.rings = s.phi.rings
    ∧ (State.beaconsValid s p port).phi.flt = s.phi.flt ∧ (State.beaconsValid s p port).phi.units = s.phi.units
    ∧ (State.beaconsValid s p port).phi.engines = s.phi.engines ∧ (State.beaconsValid s p port).phi.gov = s.phi.gov
    ∧ (State.beaconsValid s p port).phi.cnt = s.phi.cnt ∧ (State.beaconsValid s p port).phi.cfg = s.phi.cfg
    ∧ (State.beaconsValid s p port).phi.cycs = s.phi.cycs := by
  refine ⟨?_, ?_, ?_, ?_, ?_, ?_, ?_, ?_, ?_, ?_, ?_, ?_, ?_, ?_, ?_, ?_, ?_, ?_, ?_, ?_, ?_, ?_, ?_, ?_, ?_, ?_, ?_, ?_, ?_, ?_, ?_, ?_, ?_, ?_, ?_⟩ <;> first | (simp [State.beaconsValid]; done)

@[simp] theorem State.beaconsValid_keeps_phi (s : State) (port : Nat) :
    (State.beaconsValid s .phi port).tsu = s.tsu := by simp [State.beaconsValid]

@[simp] theorem State.steerRate_keeps (s : State) (p : Part) (port : Nat) :
    (State.steerRate s p port).pending = s.pending ∧ (State.steerRate s p port).cyc = s.cyc
    ∧ (State.steerRate s p port).freeNext = s.freeNext ∧ (State.steerRate s p port).out = s.out
    ∧ (State.steerRate s p port).mdl = s.mdl ∧ (State.steerRate s p port).meter = s.meter := by
  simp only [State.steerRate] <;> (repeat' split) <;> first | (simp; done) | (simp [*]; done) | (refine ⟨?_, ?_, ?_, ?_, ?_, ?_⟩ <;> first | rfl | (simp; done) | (simp [*]; done))

@[simp] theorem State.steerRate_keeps2 (s : State) (p : Part) (port : Nat) :
    (State.steerRate s p port).die = s.die ∧ (State.steerRate s p port).hub = s.hub
    ∧ (State.steerRate s p port).tsu.time.acc = s.tsu.time.acc
    ∧ (State.steerRate s p port).tsu.time.state = s.tsu.time.state
    ∧ (State.steerRate s p port).tsu.ports = s.tsu.ports ∧ (State.steerRate s p port).tsu.torn = s.tsu.torn := by
  refine ⟨?_, ?_, ?_, ?_, ?_, ?_⟩ <;> first | (simp only [State.steerRate] <;> (repeat' split) <;> first | rfl | (simp; done) | (simp [*]; done); done) | (cases p <;> simp only [State.steerRate] <;> (repeat' split) <;> first | rfl | (simp; done) | (simp [*]; done); done)

@[simp] theorem State.steerRate_keeps3 (s : State) (p : Part) (port : Nat) :
    (State.steerRate s p port).tsu.keys = s.tsu.keys ∧ (State.steerRate s p port).tsu.relKeys = s.tsu.relKeys
    ∧ (State.steerRate s p port).tsu.tdc = s.tsu.tdc ∧ (State.steerRate s p port).tsu.clk = s.tsu.clk
    ∧ (State.steerRate s p port).tsu.rings = s.tsu.rings ∧ (State.steerRate s p port).tsu.page = s.tsu.page := by
  simp only [State.steerRate] <;> (repeat' split) <;> first | (simp; done) | (simp [*]; done) | (refine ⟨?_, ?_, ?_, ?_, ?_, ?_⟩ <;> first | rfl | (simp; done) | (simp [*]; done))

@[simp] theorem State.steerRate_keeps4 (s : State) (p : Part) (port : Nat) :
    (State.steerRate s p port).tsu.flt = s.tsu.flt ∧ (State.steerRate s p port).tsu.units = s.tsu.units
    ∧ (State.steerRate s p port).tsu.engines = s.tsu.engines ∧ (State.steerRate s p port).tsu.gov = s.tsu.gov
    ∧ (State.steerRate s p port).tsu.cnt = s.tsu.cnt ∧ (State.steerRate s p port).tsu.cfg = s.tsu.cfg := by
  simp only [State.steerRate] <;> (repeat' split) <;> first | (simp; done) | (simp [*]; done) | (refine ⟨?_, ?_, ?_, ?_, ?_, ?_⟩ <;> first | rfl | (simp; done) | (simp [*]; done))

@[simp] theorem State.steerRate_keeps5 (s : State) (p : Part) (port : Nat) :
    (State.steerRate s p port).tsu.cycs = s.tsu.cycs ∧ (State.steerRate s p port).phi.time.acc = s.phi.time.acc
    ∧ (State.steerRate s p port).phi.time.state = s.phi.time.state
    ∧ (State.steerRate s p port).phi.ports = s.phi.ports ∧ (State.steerRate s p port).phi.torn = s.phi.torn
    ∧ (State.steerRate s p port).phi.keys = s.phi.keys := by
  refine ⟨?_, ?_, ?_, ?_, ?_, ?_⟩ <;> first | (simp only [State.steerRate] <;> (repeat' split) <;> first | rfl | (simp; done) | (simp [*]; done); done) | (cases p <;> simp only [State.steerRate] <;> (repeat' split) <;> first | rfl | (simp; done) | (simp [*]; done); done)

@[simp] theorem State.steerRate_keeps6 (s : State) (p : Part) (port : Nat) :
    (State.steerRate s p port).phi.relKeys = s.phi.relKeys ∧ (State.steerRate s p port).phi.tdc = s.phi.tdc
    ∧ (State.steerRate s p port).phi.clk = s.phi.clk ∧ (State.steerRate s p port).phi.rings = s.phi.rings
    ∧ (State.steerRate s p port).phi.page = s.phi.page ∧ (State.steerRate s p port).phi.flt = s.phi.flt := by
  simp only [State.steerRate] <;> (repeat' split) <;> first | (simp; done) | (simp [*]; done) | (refine ⟨?_, ?_, ?_, ?_, ?_, ?_⟩ <;> first | rfl | (simp; done) | (simp [*]; done))

@[simp] theorem State.steerRate_keeps7 (s : State) (p : Part) (port : Nat) :
    (State.steerRate s p port).phi.units = s.phi.units ∧ (State.steerRate s p port).phi.engines = s.phi.engines
    ∧ (State.steerRate s p port).phi.gov = s.phi.gov ∧ (State.steerRate s p port).phi.cnt = s.phi.cnt
    ∧ (State.steerRate s p port).phi.cfg = s.phi.cfg ∧ (State.steerRate s p port).phi.cycs = s.phi.cycs := by
  simp only [State.steerRate] <;> (repeat' split) <;> first | (simp; done) | (simp [*]; done) | (refine ⟨?_, ?_, ?_, ?_, ?_, ?_⟩ <;> first | rfl | (simp; done) | (simp [*]; done))

@[simp] theorem State.steerRate_keeps_tsu (s : State) (port : Nat) :
    (State.steerRate s .tsu port).phi = s.phi := by simp only [State.steerRate] <;> (repeat' split) <;> first | rfl | (simp; done) | (simp [*]; done)

@[simp] theorem State.steerRate_keeps_phi (s : State) (port : Nat) :
    (State.steerRate s .phi port).tsu = s.tsu := by simp only [State.steerRate] <;> (repeat' split) <;> first | rfl | (simp; done) | (simp [*]; done)

@[simp] theorem State.onCorrection_keeps (s : State) (p : Part) (port : Nat) :
    (State.onCorrection s p port).pending = s.pending ∧ (State.onCorrection s p port).cyc = s.cyc
    ∧ (State.onCorrection s p port).freeNext = s.freeNext ∧ (State.onCorrection s p port).out = s.out
    ∧ (State.onCorrection s p port).mdl = s.mdl ∧ (State.onCorrection s p port).meter = s.meter
    ∧ (State.onCorrection s p port).die = s.die ∧ (State.onCorrection s p port).hub = s.hub
    ∧ (State.onCorrection s p port).tsu.ports = s.tsu.ports ∧ (State.onCorrection s p port).tsu.torn = s.tsu.torn
    ∧ (State.onCorrection s p port).tsu.keys = s.tsu.keys
    ∧ (State.onCorrection s p port).tsu.relKeys = s.tsu.relKeys ∧ (State.onCorrection s p port).tsu.tdc = s.tsu.tdc
    ∧ (State.onCorrection s p port).tsu.clk = s.tsu.clk ∧ (State.onCorrection s p port).tsu.rings = s.tsu.rings
    ∧ (State.onCorrection s p port).tsu.flt = s.tsu.flt ∧ (State.onCorrection s p port).tsu.units = s.tsu.units
    ∧ (State.onCorrection s p port).tsu.engines = s.tsu.engines ∧ (State.onCorrection s p port).tsu.gov = s.tsu.gov
    ∧ (State.onCorrection s p port).tsu.cnt = s.tsu.cnt ∧ (State.onCorrection s p port).tsu.cfg = s.tsu.cfg
    ∧ (State.onCorrection s p port).tsu.cycs = s.tsu.cycs ∧ (State.onCorrection s p port).phi.ports = s.phi.ports
    ∧ (State.onCorrection s p port).phi.torn = s.phi.torn ∧ (State.onCorrection s p port).phi.keys = s.phi.keys
    ∧ (State.onCorrection s p port).phi.relKeys = s.phi.relKeys ∧ (State.onCorrection s p port).phi.tdc = s.phi.tdc
    ∧ (State.onCorrection s p port).phi.clk = s.phi.clk ∧ (State.onCorrection s p port).phi.rings = s.phi.rings
    ∧ (State.onCorrection s p port).phi.flt = s.phi.flt ∧ (State.onCorrection s p port).phi.units = s.phi.units
    ∧ (State.onCorrection s p port).phi.engines = s.phi.engines ∧ (State.onCorrection s p port).phi.gov = s.phi.gov
    ∧ (State.onCorrection s p port).phi.cnt = s.phi.cnt ∧ (State.onCorrection s p port).phi.cfg = s.phi.cfg
    ∧ (State.onCorrection s p port).phi.cycs = s.phi.cycs := by
  refine ⟨?_, ?_, ?_, ?_, ?_, ?_, ?_, ?_, ?_, ?_, ?_, ?_, ?_, ?_, ?_, ?_, ?_, ?_, ?_, ?_, ?_, ?_, ?_, ?_, ?_, ?_, ?_, ?_, ?_, ?_, ?_, ?_, ?_, ?_, ?_, ?_⟩ <;> first | (simp [State.onCorrection]; done)

end Sys2Proof.Machine
end

