-- ==== Sys2Proof/Laws/LinkOps.lean ====
section
/-!
SUPPORT. What the operations and meanings of Machine/LinkOps.lean leave unchanged.
-/

namespace Sys2Proof.Machine

@[simp] theorem State.ledUpd_keeps (s : State) (f : LedgerSt → LedgerSt) :
    (State.ledUpd s f).pending = s.pending ∧ (State.ledUpd s f).cyc = s.cyc ∧ (State.ledUpd s f).freeNext = s.freeNext
    ∧ (State.ledUpd s f).out = s.out ∧ (State.ledUpd s f).mdl = s.mdl ∧ (State.ledUpd s f).meter = s.meter
    ∧ (State.ledUpd s f).die = s.die ∧ (State.ledUpd s f).tsu = s.tsu ∧ (State.ledUpd s f).phi = s.phi
    ∧ (State.ledUpd s f).hub.storage = s.hub.storage ∧ (State.ledUpd s f).hub.fw.state = s.hub.fw.state
    ∧ (State.ledUpd s f).hub.pairs = s.hub.pairs ∧ (State.ledUpd s f).hub.seqs = s.hub.seqs := by
  refine ⟨?_, ?_, ?_, ?_, ?_, ?_, ?_, ?_, ?_, ?_, ?_, ?_, ?_⟩ <;> first | (simp [State.ledUpd]; done)

@[simp] theorem State.evalStaging_keeps (s : State) :
    (State.evalStaging s).pending = s.pending ∧ (State.evalStaging s).cyc = s.cyc
    ∧ (State.evalStaging s).freeNext = s.freeNext ∧ (State.evalStaging s).out = s.out
    ∧ (State.evalStaging s).mdl = s.mdl ∧ (State.evalStaging s).meter = s.meter ∧ (State.evalStaging s).die = s.die
    ∧ (State.evalStaging s).tsu = s.tsu ∧ (State.evalStaging s).phi = s.phi
    ∧ (State.evalStaging s).hub.storage = s.hub.storage ∧ (State.evalStaging s).hub.fw.state = s.hub.fw.state
    ∧ (State.evalStaging s).hub.pairs = s.hub.pairs ∧ (State.evalStaging s).hub.seqs = s.hub.seqs := by
  refine ⟨?_, ?_, ?_, ?_, ?_, ?_, ?_, ?_, ?_, ?_, ?_, ?_, ?_⟩ <;> first | (simp [State.evalStaging]; done)

@[simp] theorem State.portDown_keeps (s : State) (p : Part) (port : Nat) :
    (State.portDown s p port).pending = s.pending ∧ (State.portDown s p port).cyc = s.cyc
    ∧ (State.portDown s p port).mdl = s.mdl ∧ (State.portDown s p port).meter = s.meter
    ∧ (State.portDown s p port).die = s.die ∧ (State.portDown s p port).tsu.torn = s.tsu.torn
    ∧ (State.portDown s p port).tsu.keys = s.tsu.keys ∧ (State.portDown s p port).tsu.relKeys = s.tsu.relKeys
    ∧ (State.portDown s p port).tsu.tdc = s.tsu.tdc ∧ (State.portDown s p port).tsu.clk = s.tsu.clk
    ∧ (State.portDown s p port).tsu.flt = s.tsu.flt ∧ (State.portDown s p port).tsu.units = s.tsu.units
    ∧ (State.portDown s p port).tsu.engines = s.tsu.engines ∧ (State.portDown s p port).tsu.gov = s.tsu.gov
    ∧ (State.portDown s p port).tsu.cfg = s.tsu.cfg ∧ (State.portDown s p port).tsu.cycs = s.tsu.cycs
    ∧ (State.portDown s p port).phi.time.acc = s.phi.time.acc ∧ (State.portDown s p port).phi.torn = s.phi.torn
    ∧ (State.portDown s p port).phi.keys = s.phi.keys ∧ (State.portDown s p port).phi.relKeys = s.phi.relKeys
    ∧ (State.portDown s p port).phi.tdc = s.phi.tdc ∧ (State.portDown s p port).phi.clk = s.phi.clk
    ∧ (State.portDown s p port).phi.flt = s.phi.flt ∧ (State.portDown s p port).phi.units = s.phi.units
    ∧ (State.portDown s p port).phi.engines = s.phi.engines ∧ (State.portDown s p port).phi.gov = s.phi.gov
    ∧ (State.portDown s p port).phi.cfg = s.phi.cfg ∧ (State.portDown s p port).phi.cycs = s.phi.cycs
    ∧ (State.portDown s p port).hub.storage = s.hub.storage
    ∧ (State.portDown s p port).hub.fw.state = s.hub.fw.state ∧ (State.portDown s p port).hub.pairs = s.hub.pairs
    ∧ (State.portDown s p port).hub.seqs = s.hub.seqs := by
  simp only [State.portDown] <;> (repeat' split) <;> first | (simp; done) | (simp [*]; done) | (refine ⟨?_, ?_, ?_, ?_, ?_, ?_, ?_, ?_, ?_, ?_, ?_, ?_, ?_, ?_, ?_, ?_, ?_, ?_, ?_, ?_, ?_, ?_, ?_, ?_, ?_, ?_, ?_, ?_, ?_, ?_, ?_, ?_⟩ <;> first | rfl | (simp; done) | (simp [*]; done))

@[simp] theorem State.portDown_keeps_phi (s : State) (port : Nat) :
    (State.portDown s .phi port).tsu = s.tsu := by simp [State.portDown]

@[simp] theorem State.setLink_keeps (s : State) (p : Part) (port : Nat) (st : LState) :
    (State.setLink s p port st).pending = s.pending ∧ (State.setLink s p port st).cyc = s.cyc
    ∧ (State.setLink s p port st).freeNext = s.freeNext ∧ (State.setLink s p port st).out = s.out
    ∧ (State.setLink s p port st).mdl = s.mdl ∧ (State.setLink s p port st).meter = s.meter
    ∧ (State.setLink s p port st).die = s.die ∧ (State.setLink s p port st).hub = s.hub
    ∧ (State.setLink s p port st).tsu.time = s.tsu.time ∧ (State.setLink s p port st).tsu.torn = s.tsu.torn
    ∧ (State.setLink s p port st).tsu.keys = s.tsu.keys ∧ (State.setLink s p port st).tsu.relKeys = s.tsu.relKeys
    ∧ (State.setLink s p port st).tsu.tdc = s.tsu.tdc ∧ (State.setLink s p port st).tsu.clk = s.tsu.clk
    ∧ (State.setLink s p port st).tsu.rings = s.tsu.rings ∧ (State.setLink s p port st).tsu.page = s.tsu.page
    ∧ (State.setLink s p port st).tsu.flt = s.tsu.flt ∧ (State.setLink s p port st).tsu.units = s.tsu.units
    ∧ (State.setLink s p port st).tsu.engines = s.tsu.engines ∧ (State.setLink s p port st).tsu.gov = s.tsu.gov
    ∧ (State.setLink s p port st).tsu.cnt = s.tsu.cnt ∧ (State.setLink s p port st).tsu.cfg = s.tsu.cfg
    ∧ (State.setLink s p port st).tsu.cycs = s.tsu.cycs ∧ (State.setLink s p port st).phi.time = s.phi.time
    ∧ (State.setLink s p port st).phi.torn = s.phi.torn ∧ (State.setLink s p port st).phi.keys = s.phi.keys
    ∧ (State.setLink s p port st).phi.relKeys = s.phi.relKeys ∧ (State.setLink s p port st).phi.tdc = s.phi.tdc
    ∧ (State.setLink s p port st).phi.clk = s.phi.clk ∧ (State.setLink s p port st).phi.rings = s.phi.rings
    ∧ (State.setLink s p port st).phi.page = s.phi.page ∧ (State.setLink s p port st).phi.flt = s.phi.flt
    ∧ (State.setLink s p port st).phi.units = s.phi.units ∧ (State.setLink s p port st).phi.engines = s.phi.engines
    ∧ (State.setLink s p port st).phi.gov = s.phi.gov ∧ (State.setLink s p port st).phi.cnt = s.phi.cnt
    ∧ (State.setLink s p port st).phi.cfg = s.phi.cfg ∧ (State.setLink s p port st).phi.cycs = s.phi.cycs := by
  refine ⟨?_, ?_, ?_, ?_, ?_, ?_, ?_, ?_, ?_, ?_, ?_, ?_, ?_, ?_, ?_, ?_, ?_, ?_, ?_, ?_, ?_, ?_, ?_, ?_, ?_, ?_, ?_, ?_, ?_, ?_, ?_, ?_, ?_, ?_, ?_, ?_, ?_, ?_⟩ <;> first | (simp [State.setLink]; done)

@[simp] theorem State.setLink_keeps_tsu (s : State) (port : Nat) (st : LState) :
    (State.setLink s .tsu port st).phi = s.phi := by simp [State.setLink]

@[simp] theorem State.setLink_keeps_phi (s : State) (port : Nat) (st : LState) :
    (State.setLink s .phi port st).tsu = s.tsu := by simp [State.setLink]

@[simp] theorem State.laneCable_keeps (s : State) (p : Part) (port : Nat) :
    (State.laneCable s p port).pending = s.pending ∧ (State.laneCable s p port).cyc = s.cyc
    ∧ (State.laneCable s p port).mdl = s.mdl ∧ (State.laneCable s p port).meter = s.meter
    ∧ (State.laneCable s p port).die = s.die ∧ (State.laneCable s p port).tsu.torn = s.tsu.torn := by
  refine ⟨?_, ?_, ?_, ?_, ?_, ?_⟩ <;> first | (induction port generalizing s <;> simp_all [State.laneCable]; done)

@[simp] theorem State.laneCable_keeps2 (s : State) (p : Part) (port : Nat) :
    (State.laneCable s p port).tsu.keys = s.tsu.keys ∧ (State.laneCable s p port).tsu.relKeys = s.tsu.relKeys
    ∧ (State.laneCable s p port).tsu.tdc = s.tsu.tdc ∧ (State.laneCable s p port).tsu.clk = s.tsu.clk
    ∧ (State.laneCable s p port).tsu.engines = s.tsu.engines ∧ (State.laneCable s p port).tsu.gov = s.tsu.gov := by
  refine ⟨?_, ?_, ?_, ?_, ?_, ?_⟩ <;> first | (induction port generalizing s <;> simp_all [State.laneCable]; done)

@[simp] theorem State.laneCable_keeps3 (s : State) (p : Part) (port : Nat) :
    (State.laneCable s p port).tsu.cfg = s.tsu.cfg ∧ (State.laneCable s p port).tsu.cycs = s.tsu.cycs
    ∧ (State.laneCable s p port).phi.time.acc = s.phi.time.acc ∧ (State.laneCable s p port).phi.torn = s.phi.torn
    ∧ (State.laneCable s p port).phi.keys = s.phi.keys ∧ (State.laneCable s p port).phi.relKeys = s.phi.relKeys := by
  refine ⟨?_, ?_, ?_, ?_, ?_, ?_⟩ <;> first | (induction port generalizing s <;> simp_all [State.laneCable]; done)

@[simp] theorem State.laneCable_keeps4 (s : State) (p : Part) (port : Nat) :
    (State.laneCable s p port).phi.tdc = s.phi.tdc ∧ (State.laneCable s p port).phi.clk = s.phi.clk
    ∧ (State.laneCable s p port).phi.engines = s.phi.engines ∧ (State.laneCable s p port).phi.gov = s.phi.gov
    ∧ (State.laneCable s p port).phi.cfg = s.phi.cfg ∧ (State.laneCable s p port).phi.cycs = s.phi.cycs := by
  refine ⟨?_, ?_, ?_, ?_, ?_, ?_⟩ <;> first | (induction port generalizing s <;> simp_all [State.laneCable]; done)

@[simp] theorem State.laneCable_keeps5 (s : State) (p : Part) (port : Nat) :
    (State.laneCable s p port).hub.storage = s.hub.storage ∧ (State.laneCable s p port).hub.fw.state = s.hub.fw.state
    ∧ (State.laneCable s p port).hub.pairs = s.hub.pairs ∧ (State.laneCable s p port).hub.seqs = s.hub.seqs := by
  refine ⟨?_, ?_, ?_, ?_⟩ <;> first | (induction port generalizing s <;> simp_all [State.laneCable]; done)

@[simp] theorem State.laneCable_keeps_phi (s : State) (port : Nat) :
    (State.laneCable s .phi port).tsu = s.tsu := by induction port generalizing s <;> simp_all [State.laneCable]

@[simp] theorem State.swapChannel_keeps (s : State) (p : Part) (port : Nat) :
    (State.swapChannel s p port).pending = s.pending ∧ (State.swapChannel s p port).cyc = s.cyc
    ∧ (State.swapChannel s p port).freeNext = s.freeNext ∧ (State.swapChannel s p port).out = s.out
    ∧ (State.swapChannel s p port).mdl = s.mdl ∧ (State.swapChannel s p port).meter = s.meter
    ∧ (State.swapChannel s p port).die = s.die ∧ (State.swapChannel s p port).hub = s.hub
    ∧ (State.swapChannel s p port).tsu.time = s.tsu.time ∧ (State.swapChannel s p port).tsu.torn = s.tsu.torn
    ∧ (State.swapChannel s p port).tsu.keys = s.tsu.keys ∧ (State.swapChannel s p port).tsu.relKeys = s.tsu.relKeys
    ∧ (State.swapChannel s p port).tsu.tdc = s.tsu.tdc ∧ (State.swapChannel s p port).tsu.clk = s.tsu.clk
    ∧ (State.swapChannel s p port).tsu.rings = s.tsu.rings ∧ (State.swapChannel s p port).tsu.page = s.tsu.page
    ∧ (State.swapChannel s p port).tsu.flt = s.tsu.flt ∧ (State.swapChannel s p port).tsu.engines = s.tsu.engines
    ∧ (State.swapChannel s p port).tsu.gov = s.tsu.gov ∧ (State.swapChannel s p port).tsu.cnt = s.tsu.cnt
    ∧ (State.swapChannel s p port).tsu.cfg = s.tsu.cfg ∧ (State.swapChannel s p port).tsu.cycs = s.tsu.cycs
    ∧ (State.swapChannel s p port).phi.time = s.phi.time ∧ (State.swapChannel s p port).phi.torn = s.phi.torn
    ∧ (State.swapChannel s p port).phi.keys = s.phi.keys ∧ (State.swapChannel s p port).phi.relKeys = s.phi.relKeys
    ∧ (State.swapChannel s p port).phi.tdc = s.phi.tdc ∧ (State.swapChannel s p port).phi.clk = s.phi.clk
    ∧ (State.swapChannel s p port).phi.rings = s.phi.rings ∧ (State.swapChannel s p port).phi.page = s.phi.page
    ∧ (State.swapChannel s p port).phi.flt = s.phi.flt ∧ (State.swapChannel s p port).phi.engines = s.phi.engines
    ∧ (State.swapChannel s p port).phi.gov = s.phi.gov ∧ (State.swapChannel s p port).phi.cnt = s.phi.cnt
    ∧ (State.swapChannel s p port).phi.cfg = s.phi.cfg ∧ (State.swapChannel s p port).phi.cycs = s.phi.cycs := by
  simp only [State.swapChannel] <;> (repeat' split) <;> first | (simp; done) | (simp [*]; done) | (refine ⟨?_, ?_, ?_, ?_, ?_, ?_, ?_, ?_, ?_, ?_, ?_, ?_, ?_, ?_, ?_, ?_, ?_, ?_, ?_, ?_, ?_, ?_, ?_, ?_, ?_, ?_, ?_, ?_, ?_, ?_, ?_, ?_, ?_, ?_, ?_, ?_⟩ <;> first | rfl | (simp; done) | (simp [*]; done))

@[simp] theorem State.swapChannel_keeps_tsu (s : State) (port : Nat) :
    (State.swapChannel s .tsu port).phi = s.phi := by simp only [State.swapChannel] <;> (repeat' split) <;> first | rfl | (simp; done) | (simp [*]; done)

@[simp] theorem State.swapChannel_keeps_phi (s : State) (port : Nat) :
    (State.swapChannel s .phi port).tsu = s.tsu := by simp only [State.swapChannel] <;> (repeat' split) <;> first | rfl | (simp; done) | (simp [*]; done)

@[simp] theorem State.channelFault_keeps (s : State) (p : Part) (port : Nat) (cause : Cause) :
    (State.channelFault s p port cause).pending = s.pending ∧ (State.channelFault s p port cause).cyc = s.cyc
    ∧ (State.channelFault s p port cause).mdl = s.mdl ∧ (State.channelFault s p port cause).meter = s.meter
    ∧ (State.channelFault s p port cause).die = s.die ∧ (State.channelFault s p port cause).tsu.torn = s.tsu.torn
    ∧ (State.channelFault s p port cause).tsu.keys = s.tsu.keys
    ∧ (State.channelFault s p port cause).tsu.relKeys = s.tsu.relKeys
    ∧ (State.channelFault s p port cause).tsu.tdc = s.tsu.tdc
    ∧ (State.channelFault s p port cause).tsu.clk = s.tsu.clk
    ∧ (State.channelFault s p port cause).tsu.engines = s.tsu.engines
    ∧ (State.channelFault s p port cause).tsu.cfg = s.tsu.cfg
    ∧ (State.channelFault s p port cause).tsu.cycs = s.tsu.cycs
    ∧ (State.channelFault s p port cause).phi.time.acc = s.phi.time.acc
    ∧ (State.channelFault s p port cause).phi.torn = s.phi.torn
    ∧ (State.channelFault s p port cause).phi.keys = s.phi.keys
    ∧ (State.channelFault s p port cause).phi.relKeys = s.phi.relKeys
    ∧ (State.channelFault s p port cause).phi.tdc = s.phi.tdc
    ∧ (State.channelFault s p port cause).phi.clk = s.phi.clk
    ∧ (State.channelFault s p port cause).phi.engines = s.phi.engines
    ∧ (State.channelFault s p port cause).phi.cfg = s.phi.cfg
    ∧ (State.channelFault s p port cause).phi.cycs = s.phi.cycs
    ∧ (State.channelFault s p port cause).hub.storage = s.hub.storage
    ∧ (State.channelFault s p port cause).hub.fw.state = s.hub.fw.state
    ∧ (State.channelFault s p port cause).hub.pairs = s.hub.pairs
    ∧ (State.channelFault s p port cause).hub.seqs = s.hub.seqs := by
  simp only [State.channelFault] <;> (repeat' split) <;> first | (simp; done) | (simp [*]; done) | (refine ⟨?_, ?_, ?_, ?_, ?_, ?_, ?_, ?_, ?_, ?_, ?_, ?_, ?_, ?_, ?_, ?_, ?_, ?_, ?_, ?_, ?_, ?_, ?_, ?_, ?_, ?_⟩ <;> first | rfl | (simp; done) | (simp [*]; done))

@[simp] theorem State.channelFault_keeps_phi (s : State) (port : Nat) (cause : Cause) :
    (State.channelFault s .phi port cause).tsu = s.tsu := by simp only [State.channelFault] <;> (repeat' split) <;> first | rfl | (simp; done) | (simp [*]; done)

@[simp] theorem State.trainFail_keeps (s : State) (p : Part) (port : Nat) :
    (State.trainFail s p port).pending = s.pending ∧ (State.trainFail s p port).cyc = s.cyc
    ∧ (State.trainFail s p port).mdl = s.mdl ∧ (State.trainFail s p port).meter = s.meter
    ∧ (State.trainFail s p port).die = s.die ∧ (State.trainFail s p port).tsu.torn = s.tsu.torn
    ∧ (State.trainFail s p port).tsu.keys = s.tsu.keys ∧ (State.trainFail s p port).tsu.relKeys = s.tsu.relKeys
    ∧ (State.trainFail s p port).tsu.tdc = s.tsu.tdc ∧ (State.trainFail s p port).tsu.clk = s.tsu.clk
    ∧ (State.trainFail s p port).tsu.engines = s.tsu.engines ∧ (State.trainFail s p port).tsu.gov = s.tsu.gov
    ∧ (State.trainFail s p port).tsu.cfg = s.tsu.cfg ∧ (State.trainFail s p port).tsu.cycs = s.tsu.cycs
    ∧ (State.trainFail s p port).phi.time.acc = s.phi.time.acc ∧ (State.trainFail s p port).phi.torn = s.phi.torn
    ∧ (State.trainFail s p port).phi.keys = s.phi.keys ∧ (State.trainFail s p port).phi.relKeys = s.phi.relKeys
    ∧ (State.trainFail s p port).phi.tdc = s.phi.tdc ∧ (State.trainFail s p port).phi.clk = s.phi.clk
    ∧ (State.trainFail s p port).phi.engines = s.phi.engines ∧ (State.trainFail s p port).phi.gov = s.phi.gov
    ∧ (State.trainFail s p port).phi.cfg = s.phi.cfg ∧ (State.trainFail s p port).phi.cycs = s.phi.cycs
    ∧ (State.trainFail s p port).hub.storage = s.hub.storage
    ∧ (State.trainFail s p port).hub.fw.state = s.hub.fw.state ∧ (State.trainFail s p port).hub.pairs = s.hub.pairs
    ∧ (State.trainFail s p port).hub.seqs = s.hub.seqs := by
  refine ⟨?_, ?_, ?_, ?_, ?_, ?_, ?_, ?_, ?_, ?_, ?_, ?_, ?_, ?_, ?_, ?_, ?_, ?_, ?_, ?_, ?_, ?_, ?_, ?_, ?_, ?_, ?_, ?_⟩ <;> first | (simp [State.trainFail]; done)

@[simp] theorem State.trainFail_keeps_phi (s : State) (port : Nat) :
    (State.trainFail s .phi port).tsu = s.tsu := by simp [State.trainFail]

@[simp] theorem State.rxCount_keeps (s : State) (p : Part) (port : Nat) (e : Env) :
    (State.rxCount s p port e).pending = s.pending ∧ (State.rxCount s p port e).cyc = s.cyc
    ∧ (State.rxCount s p port e).freeNext = s.freeNext ∧ (State.rxCount s p port e).out = s.out
    ∧ (State.rxCount s p port e).mdl = s.mdl ∧ (State.rxCount s p port e).meter = s.meter
    ∧ (State.rxCount s p port e).die = s.die ∧ (State.rxCount s p port e).hub = s.hub
    ∧ (State.rxCount s p port e).tsu.time = s.tsu.time ∧ (State.rxCount s p port e).tsu.torn = s.tsu.torn
    ∧ (State.rxCount s p port e).tsu.keys = s.tsu.keys ∧ (State.rxCount s p port e).tsu.relKeys = s.tsu.relKeys
    ∧ (State.rxCount s p port e).tsu.tdc = s.tsu.tdc ∧ (State.rxCount s p port e).tsu.clk = s.tsu.clk
    ∧ (State.rxCount s p port e).tsu.rings = s.tsu.rings ∧ (State.rxCount s p port e).tsu.page = s.tsu.page
    ∧ (State.rxCount s p port e).tsu.flt = s.tsu.flt ∧ (State.rxCount s p port e).tsu.units = s.tsu.units
    ∧ (State.rxCount s p port e).tsu.engines = s.tsu.engines ∧ (State.rxCount s p port e).tsu.gov = s.tsu.gov
    ∧ (State.rxCount s p port e).tsu.cfg = s.tsu.cfg ∧ (State.rxCount s p port e).tsu.cycs = s.tsu.cycs
    ∧ (State.rxCount s p port e).phi.time = s.phi.time ∧ (State.rxCount s p port e).phi.torn = s.phi.torn
    ∧ (State.rxCount s p port e).phi.keys = s.phi.keys ∧ (State.rxCount s p port e).phi.relKeys = s.phi.relKeys
    ∧ (State.rxCount s p port e).phi.tdc = s.phi.tdc ∧ (State.rxCount s p port e).phi.clk = s.phi.clk
    ∧ (State.rxCount s p port e).phi.rings = s.phi.rings ∧ (State.rxCount s p port e).phi.page = s.phi.page
    ∧ (State.rxCount s p port e).phi.flt = s.phi.flt ∧ (State.rxCount s p port e).phi.units = s.phi.units
    ∧ (State.rxCount s p port e).phi.engines = s.phi.engines ∧ (State.rxCount s p port e).phi.gov = s.phi.gov
    ∧ (State.rxCount s p port e).phi.cfg = s.phi.cfg ∧ (State.rxCount s p port e).phi.cycs = s.phi.cycs := by
  refine ⟨?_, ?_, ?_, ?_, ?_, ?_, ?_, ?_, ?_, ?_, ?_, ?_, ?_, ?_, ?_, ?_, ?_, ?_, ?_, ?_, ?_, ?_, ?_, ?_, ?_, ?_, ?_, ?_, ?_, ?_, ?_, ?_, ?_, ?_, ?_, ?_⟩ <;> first | (simp [State.rxCount]; done)

@[simp] theorem State.rxCount_keeps_tsu (s : State) (port : Nat) (e : Env) :
    (State.rxCount s .tsu port e).phi = s.phi := by simp [State.rxCount]

@[simp] theorem State.rxCount_keeps_phi (s : State) (port : Nat) (e : Env) :
    (State.rxCount s .phi port e).tsu = s.tsu := by simp [State.rxCount]

@[simp] theorem State.retried_keeps (s : State) (p : Part) (port : Nat) :
    (State.retried s p port).pending = s.pending ∧ (State.retried s p port).cyc = s.cyc
    ∧ (State.retried s p port).freeNext = s.freeNext ∧ (State.retried s p port).out = s.out
    ∧ (State.retried s p port).mdl = s.mdl ∧ (State.retried s p port).meter = s.meter
    ∧ (State.retried s p port).die = s.die ∧ (State.retried s p port).hub = s.hub
    ∧ (State.retried s p port).tsu.time = s.tsu.time ∧ (State.retried s p port).tsu.ports = s.tsu.ports
    ∧ (State.retried s p port).tsu.torn = s.tsu.torn ∧ (State.retried s p port).tsu.keys = s.tsu.keys
    ∧ (State.retried s p port).tsu.relKeys = s.tsu.relKeys ∧ (State.retried s p port).tsu.tdc = s.tsu.tdc
    ∧ (State.retried s p port).tsu.clk = s.tsu.clk ∧ (State.retried s p port).tsu.rings = s.tsu.rings
    ∧ (State.retried s p port).tsu.page = s.tsu.page ∧ (State.retried s p port).tsu.flt = s.tsu.flt
    ∧ (State.retried s p port).tsu.engines = s.tsu.engines ∧ (State.retried s p port).tsu.gov = s.tsu.gov
    ∧ (State.retried s p port).tsu.cfg = s.tsu.cfg ∧ (State.retried s p port).tsu.cycs = s.tsu.cycs
    ∧ (State.retried s p port).phi.time = s.phi.time ∧ (State.retried s p port).phi.ports = s.phi.ports
    ∧ (State.retried s p port).phi.torn = s.phi.torn ∧ (State.retried s p port).phi.keys = s.phi.keys
    ∧ (State.retried s p port).phi.relKeys = s.phi.relKeys ∧ (State.retried s p port).phi.tdc = s.phi.tdc
    ∧ (State.retried s p port).phi.clk = s.phi.clk ∧ (State.retried s p port).phi.rings = s.phi.rings
    ∧ (State.retried s p port).phi.page = s.phi.page ∧ (State.retried s p port).phi.flt = s.phi.flt
    ∧ (State.retried s p port).phi.engines = s.phi.engines ∧ (State.retried s p port).phi.gov = s.phi.gov
    ∧ (State.retried s p port).phi.cnt = s.phi.cnt ∧ (State.retried s p port).phi.cfg = s.phi.cfg
    ∧ (State.retried s p port).phi.cycs = s.phi.cycs := by
  simp only [State.retried] <;> (repeat' split) <;> first | (simp; done) | (simp [*]; done) | (refine ⟨?_, ?_, ?_, ?_, ?_, ?_, ?_, ?_, ?_, ?_, ?_, ?_, ?_, ?_, ?_, ?_, ?_, ?_, ?_, ?_, ?_, ?_, ?_, ?_, ?_, ?_, ?_, ?_, ?_, ?_, ?_, ?_, ?_, ?_, ?_, ?_, ?_⟩ <;> first | rfl | (simp; done) | (simp [*]; done))

@[simp] theorem State.retried_keeps_tsu (s : State) (port : Nat) :
    (State.retried s .tsu port).phi = s.phi := by simp [State.retried]

@[simp] theorem State.retried_keeps_phi (s : State) (port : Nat) :
    (State.retried s .phi port).tsu = s.tsu := by simp [State.retried]

@[simp] theorem State.beaconIntact_keeps (s : State) (p : Part) (port : Nat) :
    (State.beaconIntact s p port).pending = s.pending ∧ (State.beaconIntact s p port).cyc = s.cyc
    ∧ (State.beaconIntact s p port).freeNext = s.freeNext ∧ (State.beaconIntact s p port).out = s.out
    ∧ (State.beaconIntact s p port).mdl = s.mdl ∧ (State.beaconIntact s p port).meter = s.meter
    ∧ (State.beaconIntact s p port).die = s.die ∧ (State.beaconIntact s p port).hub = s.hub
    ∧ (State.beaconIntact s p port).tsu.time = s.tsu.time ∧ (State.beaconIntact s p port).tsu.torn = s.tsu.torn
    ∧ (State.beaconIntact s p port).tsu.keys = s.tsu.keys
    ∧ (State.beaconIntact s p port).tsu.relKeys = s.tsu.relKeys ∧ (State.beaconIntact s p port).tsu.tdc = s.tsu.tdc
    ∧ (State.beaconIntact s p port).tsu.clk = s.tsu.clk ∧ (State.beaconIntact s p port).tsu.rings = s.tsu.rings
    ∧ (State.beaconIntact s p port).tsu.page = s.tsu.page ∧ (State.beaconIntact s p port).tsu.flt = s.tsu.flt
    ∧ (State.beaconIntact s p port).tsu.engines = s.tsu.engines ∧ (State.beaconIntact s p port).tsu.gov = s.tsu.gov
    ∧ (State.beaconIntact s p port).tsu.cfg = s.tsu.cfg ∧ (State.beaconIntact s p port).tsu.cycs = s.tsu.cycs
    ∧ (State.beaconIntact s p port).phi.time = s.phi.time ∧ (State.beaconIntact s p port).phi.torn = s.phi.torn
    ∧ (State.beaconIntact s p port).phi.keys = s.phi.keys
    ∧ (State.beaconIntact s p port).phi.relKeys = s.phi.relKeys ∧ (State.beaconIntact s p port).phi.tdc = s.phi.tdc
    ∧ (State.beaconIntact s p port).phi.clk = s.phi.clk ∧ (State.beaconIntact s p port).phi.rings = s.phi.rings
    ∧ (State.beaconIntact s p port).phi.page = s.phi.page ∧ (State.beaconIntact s p port).phi.flt = s.phi.flt
    ∧ (State.beaconIntact s p port).phi.engines = s.phi.engines ∧ (State.beaconIntact s p port).phi.gov = s.phi.gov
    ∧ (State.beaconIntact s p port).phi.cnt = s.phi.cnt ∧ (State.beaconIntact s p port).phi.cfg = s.phi.cfg
    ∧ (State.beaconIntact s p port).phi.cycs = s.phi.cycs := by
  refine ⟨?_, ?_, ?_, ?_, ?_, ?_, ?_, ?_, ?_, ?_, ?_, ?_, ?_, ?_, ?_, ?_, ?_, ?_, ?_, ?_, ?_, ?_, ?_, ?_, ?_, ?_, ?_, ?_, ?_, ?_, ?_, ?_, ?_, ?_, ?_⟩ <;> first | (simp [State.beaconIntact]; done)

@[simp] theorem State.beaconIntact_keeps_tsu (s : State) (port : Nat) :
    (State.beaconIntact s .tsu port).phi = s.phi := by simp [State.beaconIntact]

@[simp] theorem State.beaconIntact_keeps_phi (s : State) (port : Nat) :
    (State.beaconIntact s .phi port).tsu = s.tsu := by simp [State.beaconIntact]

@[simp] theorem State.rxReliable_keeps (s : State) (p : Part) (port : Nat) (e : Env) :
    ((State.rxReliable s p port e).2).pending = s.pending ∧ ((State.rxReliable s p port e).2).cyc = s.cyc
    ∧ ((State.rxReliable s p port e).2).freeNext = s.freeNext ∧ ((State.rxReliable s p port e).2).out = s.out
    ∧ ((State.rxReliable s p port e).2).mdl = s.mdl ∧ ((State.rxReliable s p port e).2).meter = s.meter
    ∧ ((State.rxReliable s p port e).2).die = s.die ∧ ((State.rxReliable s p port e).2).hub = s.hub
    ∧ ((State.rxReliable s p port e).2).tsu.time = s.tsu.time
    ∧ ((State.rxReliable s p port e).2).tsu.torn = s.tsu.torn
    ∧ ((State.rxReliable s p port e).2).tsu.keys = s.tsu.keys
    ∧ ((State.rxReliable s p port e).2).tsu.relKeys = s.tsu.relKeys
    ∧ ((State.rxReliable s p port e).2).tsu.tdc = s.tsu.tdc ∧ ((State.rxReliable s p port e).2).tsu.clk = s.tsu.clk
    ∧ ((State.rxReliable s p port e).2).tsu.rings = s.tsu.rings
    ∧ ((State.rxReliable s p port e).2).tsu.page = s.tsu.page
    ∧ ((State.rxReliable s p port e).2).tsu.flt = s.tsu.flt
    ∧ ((State.rxReliable s p port e).2).tsu.engines = s.tsu.engines
    ∧ ((State.rxReliable s p port e).2).tsu.gov = s.tsu.gov ∧ ((State.rxReliable s p port e).2).tsu.cfg = s.tsu.cfg
    ∧ ((State.rxReliable s p port e).2).tsu.cycs = s.tsu.cycs
    ∧ ((State.rxReliable s p port e).2).phi.time = s.phi.time
    ∧ ((State.rxReliable s p port e).2).phi.torn = s.phi.torn
    ∧ ((State.rxReliable s p port e).2).phi.keys = s.phi.keys
    ∧ ((State.rxReliable s p port e).2).phi.relKeys = s.phi.relKeys
    ∧ ((State.rxReliable s p port e).2).phi.tdc = s.phi.tdc ∧ ((State.rxReliable s p port e).2).phi.clk = s.phi.clk
    ∧ ((State.rxReliable s p port e).2).phi.rings = s.phi.rings
    ∧ ((State.rxReliable s p port e).2).phi.page = s.phi.page
    ∧ ((State.rxReliable s p port e).2).phi.flt = s.phi.flt
    ∧ ((State.rxReliable s p port e).2).phi.engines = s.phi.engines
    ∧ ((State.rxReliable s p port e).2).phi.gov = s.phi.gov ∧ ((State.rxReliable s p port e).2).phi.cfg = s.phi.cfg
    ∧ ((State.rxReliable s p port e).2).phi.cycs = s.phi.cycs := by
  simp only [State.rxReliable] <;> (repeat' split) <;> first | (simp; done) | (simp [*]; done) | (refine ⟨?_, ?_, ?_, ?_, ?_, ?_, ?_, ?_, ?_, ?_, ?_, ?_, ?_, ?_, ?_, ?_, ?_, ?_, ?_, ?_, ?_, ?_, ?_, ?_, ?_, ?_, ?_, ?_, ?_, ?_, ?_, ?_, ?_, ?_⟩ <;> first | rfl | (simp; done) | (simp [*]; done))

@[simp] theorem State.rxReliable_keeps_tsu (s : State) (port : Nat) (e : Env) :
    ((State.rxReliable s .tsu port e).2).phi = s.phi := by simp only [State.rxReliable] <;> (repeat' split) <;> first | rfl | (simp; done) | (simp [*]; done)

@[simp] theorem State.rxReliable_keeps_phi (s : State) (port : Nat) (e : Env) :
    ((State.rxReliable s .phi port e).2).tsu = s.tsu := by simp only [State.rxReliable] <;> (repeat' split) <;> first | rfl | (simp; done) | (simp [*]; done)

theorem State.onReliable_eq (s : State) (p : Part) (port : Nat) (e : Env) (k : State → State) :
    s.onReliable p port e k
      = .next (if (s.rxReliable p port e).1 then k (s.rxReliable p port e).2 else (s.rxReliable p port e).2) := by
  unfold State.onReliable
  split <;> simp_all

@[simp] theorem State.holdMeasure_keeps (s : State) (ring : Nat) (idx : Nat) :
    (State.holdMeasure s ring idx).pending = s.pending ∧ (State.holdMeasure s ring idx).cyc = s.cyc
    ∧ (State.holdMeasure s ring idx).mdl = s.mdl ∧ (State.holdMeasure s ring idx).meter = s.meter
    ∧ (State.holdMeasure s ring idx).die = s.die ∧ (State.holdMeasure s ring idx).phi = s.phi
    ∧ (State.holdMeasure s ring idx).tsu.time = s.tsu.time ∧ (State.holdMeasure s ring idx).tsu.cfg = s.tsu.cfg
    ∧ (State.holdMeasure s ring idx).hub.storage = s.hub.storage
    ∧ (State.holdMeasure s ring idx).hub.fw.state = s.hub.fw.state
    ∧ (State.holdMeasure s ring idx).hub.pairs = s.hub.pairs ∧ (State.holdMeasure s ring idx).hub.led = s.hub.led
    ∧ (State.holdMeasure s ring idx).hub.seqs = s.hub.seqs := by
  refine ⟨?_, ?_, ?_, ?_, ?_, ?_, ?_, ?_, ?_, ?_, ?_, ?_, ?_⟩ <;> first | (simp [State.holdMeasure]; done)

@[simp] theorem State.bwRefused_keeps (s : State) (p : Part) :
    (State.bwRefused s p).pending = s.pending ∧ (State.bwRefused s p).cyc = s.cyc
    ∧ (State.bwRefused s p).freeNext = s.freeNext ∧ (State.bwRefused s p).out = s.out
    ∧ (State.bwRefused s p).mdl = s.mdl ∧ (State.bwRefused s p).meter = s.meter ∧ (State.bwRefused s p).die = s.die
    ∧ (State.bwRefused s p).hub = s.hub ∧ (State.bwRefused s p).phi = s.phi
    ∧ (State.bwRefused s p).tsu.time = s.tsu.time ∧ (State.bwRefused s p).tsu.ports = s.tsu.ports
    ∧ (State.bwRefused s p).tsu.torn = s.tsu.torn ∧ (State.bwRefused s p).tsu.keys = s.tsu.keys
    ∧ (State.bwRefused s p).tsu.relKeys = s.tsu.relKeys ∧ (State.bwRefused s p).tsu.tdc = s.tsu.tdc
    ∧ (State.bwRefused s p).tsu.clk = s.tsu.clk ∧ (State.bwRefused s p).tsu.rings = s.tsu.rings
    ∧ (State.bwRefused s p).tsu.page = s.tsu.page ∧ (State.bwRefused s p).tsu.flt = s.tsu.flt
    ∧ (State.bwRefused s p).tsu.units = s.tsu.units ∧ (State.bwRefused s p).tsu.engines = s.tsu.engines
    ∧ (State.bwRefused s p).tsu.gov = s.tsu.gov ∧ (State.bwRefused s p).tsu.cfg = s.tsu.cfg
    ∧ (State.bwRefused s p).tsu.cycs = s.tsu.cycs := by
  simp only [State.bwRefused] <;> (repeat' split) <;> first | (simp; done) | (simp [*]; done) | (refine ⟨?_, ?_, ?_, ?_, ?_, ?_, ?_, ?_, ?_, ?_, ?_, ?_, ?_, ?_, ?_, ?_, ?_, ?_, ?_, ?_, ?_, ?_, ?_, ?_⟩ <;> first | rfl | (simp; done) | (simp [*]; done))

@[simp] theorem State.bwRefused_keeps_phi (s : State) :
    (State.bwRefused s .phi).tsu = s.tsu := by simp [State.bwRefused]

@[simp] theorem State.putFrame_keeps (s : State) (p : Part) (port : Nat) (i : Nat) (cls : Nat) (f : Frame) :
    (State.putFrame s p port i cls f).pending = s.pending ∧ (State.putFrame s p port i cls f).cyc = s.cyc
    ∧ (State.putFrame s p port i cls f).freeNext = s.freeNext ∧ (State.putFrame s p port i cls f).mdl = s.mdl
    ∧ (State.putFrame s p port i cls f).meter = s.meter ∧ (State.putFrame s p port i cls f).die = s.die
    ∧ (State.putFrame s p port i cls f).hub = s.hub ∧ (State.putFrame s p port i cls f).tsu.time = s.tsu.time
    ∧ (State.putFrame s p port i cls f).tsu.keys = s.tsu.keys
    ∧ (State.putFrame s p port i cls f).tsu.relKeys = s.tsu.relKeys
    ∧ (State.putFrame s p port i cls f).tsu.tdc = s.tsu.tdc ∧ (State.putFrame s p port i cls f).tsu.clk = s.tsu.clk
    ∧ (State.putFrame s p port i cls f).tsu.rings = s.tsu.rings
    ∧ (State.putFrame s p port i cls f).tsu.page = s.tsu.page
    ∧ (State.putFrame s p port i cls f).tsu.flt = s.tsu.flt
    ∧ (State.putFrame s p port i cls f).tsu.units = s.tsu.units
    ∧ (State.putFrame s p port i cls f).tsu.engines = s.tsu.engines
    ∧ (State.putFrame s p port i cls f).tsu.gov = s.tsu.gov ∧ (State.putFrame s p port i cls f).tsu.cfg = s.tsu.cfg
    ∧ (State.putFrame s p port i cls f).tsu.cycs = s.tsu.cycs
    ∧ (State.putFrame s p port i cls f).phi.time = s.phi.time
    ∧ (State.putFrame s p port i cls f).phi.keys = s.phi.keys
    ∧ (State.putFrame s p port i cls f).phi.relKeys = s.phi.relKeys
    ∧ (State.putFrame s p port i cls f).phi.tdc = s.phi.tdc ∧ (State.putFrame s p port i cls f).phi.clk = s.phi.clk
    ∧ (State.putFrame s p port i cls f).phi.rings = s.phi.rings
    ∧ (State.putFrame s p port i cls f).phi.page = s.phi.page
    ∧ (State.putFrame s p port i cls f).phi.flt = s.phi.flt
    ∧ (State.putFrame s p port i cls f).phi.units = s.phi.units
    ∧ (State.putFrame s p port i cls f).phi.engines = s.phi.engines
    ∧ (State.putFrame s p port i cls f).phi.gov = s.phi.gov ∧ (State.putFrame s p port i cls f).phi.cfg = s.phi.cfg
    ∧ (State.putFrame s p port i cls f).phi.cycs = s.phi.cycs := by
  refine ⟨?_, ?_, ?_, ?_, ?_, ?_, ?_, ?_, ?_, ?_, ?_, ?_, ?_, ?_, ?_, ?_, ?_, ?_, ?_, ?_, ?_, ?_, ?_, ?_, ?_, ?_, ?_, ?_, ?_, ?_, ?_, ?_, ?_⟩ <;> first | (simp [State.putFrame]; done)

@[simp] theorem State.putFrame_keeps_tsu (s : State) (port : Nat) (i : Nat) (cls : Nat) (f : Frame) :
    (State.putFrame s .tsu port i cls f).phi = s.phi := by simp [State.putFrame]

@[simp] theorem State.putFrame_keeps_phi (s : State) (port : Nat) (i : Nat) (cls : Nat) (f : Frame) :
    (State.putFrame s .phi port i cls f).tsu = s.tsu := by simp [State.putFrame]

@[simp] theorem State.resendAll_keeps (s : State) (p : Part) (port : Nat) (x3 : List Sent) :
    (State.resendAll s p port x3).pending = s.pending ∧ (State.resendAll s p port x3).cyc = s.cyc
    ∧ (State.resendAll s p port x3).freeNext = s.freeNext ∧ (State.resendAll s p port x3).mdl = s.mdl
    ∧ (State.resendAll s p port x3).meter = s.meter ∧ (State.resendAll s p port x3).die = s.die := by
  refine ⟨?_, ?_, ?_, ?_, ?_, ?_⟩ <;> first | (induction x3 generalizing s <;> simp_all [State.resendAll]; done)

@[simp] theorem State.resendAll_keeps2 (s : State) (p : Part) (port : Nat) (x3 : List Sent) :
    (State.resendAll s p port x3).hub = s.hub ∧ (State.resendAll s p port x3).tsu.time = s.tsu.time
    ∧ (State.resendAll s p port x3).tsu.ports = s.tsu.ports ∧ (State.resendAll s p port x3).tsu.torn = s.tsu.torn
    ∧ (State.resendAll s p port x3).tsu.keys = s.tsu.keys
    ∧ (State.resendAll s p port x3).tsu.relKeys = s.tsu.relKeys := by
  refine ⟨?_, ?_, ?_, ?_, ?_, ?_⟩ <;> first | (induction x3 generalizing s <;> simp_all [State.resendAll]; done)

@[simp] theorem State.resendAll_keeps3 (s : State) (p : Part) (port : Nat) (x3 : List Sent) :
    (State.resendAll s p port x3).tsu.tdc = s.tsu.tdc ∧ (State.resendAll s p port x3).tsu.clk = s.tsu.clk
    ∧ (State.resendAll s p port x3).tsu.rings = s.tsu.rings ∧ (State.resendAll s p port x3).tsu.page = s.tsu.page
    ∧ (State.resendAll s p port x3).tsu.flt = s.tsu.flt ∧ (State.resendAll s p port x3).tsu.units = s.tsu.units := by
  refine ⟨?_, ?_, ?_, ?_, ?_, ?_⟩ <;> first | (induction x3 generalizing s <;> simp_all [State.resendAll]; done)

@[simp] theorem State.resendAll_keeps4 (s : State) (p : Part) (port : Nat) (x3 : List Sent) :
    (State.resendAll s p port x3).tsu.engines = s.tsu.engines ∧ (State.resendAll s p port x3).tsu.gov = s.tsu.gov
    ∧ (State.resendAll s p port x3).tsu.cfg = s.tsu.cfg ∧ (State.resendAll s p port x3).tsu.cycs = s.tsu.cycs
    ∧ (State.resendAll s p port x3).phi.time = s.phi.time ∧ (State.resendAll s p port x3).phi.ports = s.phi.ports := by
  refine ⟨?_, ?_, ?_, ?_, ?_, ?_⟩ <;> first | (induction x3 generalizing s <;> simp_all [State.resendAll]; done)

@[simp] theorem State.resendAll_keeps5 (s : State) (p : Part) (port : Nat) (x3 : List Sent) :
    (State.resendAll s p port x3).phi.torn = s.phi.torn ∧ (State.resendAll s p port x3).phi.keys = s.phi.keys
    ∧ (State.resendAll s p port x3).phi.relKeys = s.phi.relKeys ∧ (State.resendAll s p port x3).phi.tdc = s.phi.tdc
    ∧ (State.resendAll s p port x3).phi.clk = s.phi.clk ∧ (State.resendAll s p port x3).phi.rings = s.phi.rings := by
  refine ⟨?_, ?_, ?_, ?_, ?_, ?_⟩ <;> first | (induction x3 generalizing s <;> simp_all [State.resendAll]; done)

@[simp] theorem State.resendAll_keeps6 (s : State) (p : Part) (port : Nat) (x3 : List Sent) :
    (State.resendAll s p port x3).phi.page = s.phi.page ∧ (State.resendAll s p port x3).phi.flt = s.phi.flt
    ∧ (State.resendAll s p port x3).phi.units = s.phi.units
    ∧ (State.resendAll s p port x3).phi.engines = s.phi.engines ∧ (State.resendAll s p port x3).phi.gov = s.phi.gov
    ∧ (State.resendAll s p port x3).phi.cfg = s.phi.cfg := by
  refine ⟨?_, ?_, ?_, ?_, ?_, ?_⟩ <;> first | (induction x3 generalizing s <;> simp_all [State.resendAll]; done)

@[simp] theorem State.resendAll_keeps7 (s : State) (p : Part) (port : Nat) (x3 : List Sent) :
    (State.resendAll s p port x3).phi.cycs = s.phi.cycs := by induction x3 generalizing s <;> simp_all [State.resendAll]

@[simp] theorem State.resendAll_keeps_tsu (s : State) (port : Nat) (x3 : List Sent) :
    (State.resendAll s .tsu port x3).phi = s.phi := by induction x3 generalizing s <;> simp_all [State.resendAll]

@[simp] theorem State.resendAll_keeps_phi (s : State) (port : Nat) (x3 : List Sent) :
    (State.resendAll s .phi port x3).tsu = s.tsu := by induction x3 generalizing s <;> simp_all [State.resendAll]

@[simp] theorem State.retransmit_keeps (s : State) (p : Part) (port : Nat) (nak : Bool) (keep : List Sent) (resend : List Sent) :
    (State.retransmit s p port nak keep resend).pending = s.pending
    ∧ (State.retransmit s p port nak keep resend).cyc = s.cyc
    ∧ (State.retransmit s p port nak keep resend).mdl = s.mdl
    ∧ (State.retransmit s p port nak keep resend).meter = s.meter
    ∧ (State.retransmit s p port nak keep resend).die = s.die
    ∧ (State.retransmit s p port nak keep resend).tsu.torn = s.tsu.torn
    ∧ (State.retransmit s p port nak keep resend).tsu.keys = s.tsu.keys
    ∧ (State.retransmit s p port nak keep resend).tsu.relKeys = s.tsu.relKeys
    ∧ (State.retransmit s p port nak keep resend).tsu.tdc = s.tsu.tdc
    ∧ (State.retransmit s p port nak keep resend).tsu.clk = s.tsu.clk
    ∧ (State.retransmit s p port nak keep resend).tsu.engines = s.tsu.engines
    ∧ (State.retransmit s p port nak keep resend).tsu.cfg = s.tsu.cfg
    ∧ (State.retransmit s p port nak keep resend).tsu.cycs = s.tsu.cycs
    ∧ (State.retransmit s p port nak keep resend).phi.time.acc = s.phi.time.acc
    ∧ (State.retransmit s p port nak keep resend).phi.torn = s.phi.torn
    ∧ (State.retransmit s p port nak keep resend).phi.keys = s.phi.keys
    ∧ (State.retransmit s p port nak keep resend).phi.relKeys = s.phi.relKeys
    ∧ (State.retransmit s p port nak keep resend).phi.tdc = s.phi.tdc
    ∧ (State.retransmit s p port nak keep resend).phi.clk = s.phi.clk
    ∧ (State.retransmit s p port nak keep resend).phi.engines = s.phi.engines
    ∧ (State.retransmit s p port nak keep resend).phi.cfg = s.phi.cfg
    ∧ (State.retransmit s p port nak keep resend).phi.cycs = s.phi.cycs
    ∧ (State.retransmit s p port nak keep resend).hub.storage = s.hub.storage
    ∧ (State.retransmit s p port nak keep resend).hub.fw.state = s.hub.fw.state
    ∧ (State.retransmit s p port nak keep resend).hub.pairs = s.hub.pairs
    ∧ (State.retransmit s p port nak keep resend).hub.seqs = s.hub.seqs := by
  refine ⟨?_, ?_, ?_, ?_, ?_, ?_, ?_, ?_, ?_, ?_, ?_, ?_, ?_, ?_, ?_, ?_, ?_, ?_, ?_, ?_, ?_, ?_, ?_, ?_, ?_, ?_⟩ <;> first | (simp [State.retransmit]; done)

@[simp] theorem State.retransmit_keeps_phi (s : State) (port : Nat) (nak : Bool) (keep : List Sent) (resend : List Sent) :
    (State.retransmit s .phi port nak keep resend).tsu = s.tsu := by simp [State.retransmit]

@[simp] theorem State.holdTorn_keeps (s : State) (p : Part) (basin : Nat) (gen : Nat) :
    (State.holdTorn s p basin gen).pending = s.pending ∧ (State.holdTorn s p basin gen).cyc = s.cyc
    ∧ (State.holdTorn s p basin gen).freeNext = s.freeNext ∧ (State.holdTorn s p basin gen).out = s.out
    ∧ (State.holdTorn s p basin gen).mdl = s.mdl ∧ (State.holdTorn s p basin gen).meter = s.meter
    ∧ (State.holdTorn s p basin gen).die = s.die ∧ (State.holdTorn s p basin gen).hub = s.hub
    ∧ (State.holdTorn s p basin gen).tsu.time = s.tsu.time ∧ (State.holdTorn s p basin gen).tsu.ports = s.tsu.ports
    ∧ (State.holdTorn s p basin gen).tsu.keys = s.tsu.keys
    ∧ (State.holdTorn s p basin gen).tsu.relKeys = s.tsu.relKeys
    ∧ (State.holdTorn s p basin gen).tsu.tdc = s.tsu.tdc ∧ (State.holdTorn s p basin gen).tsu.clk = s.tsu.clk
    ∧ (State.holdTorn s p basin gen).tsu.rings = s.tsu.rings ∧ (State.holdTorn s p basin gen).tsu.page = s.tsu.page
    ∧ (State.holdTorn s p basin gen).tsu.flt = s.tsu.flt ∧ (State.holdTorn s p basin gen).tsu.units = s.tsu.units
    ∧ (State.holdTorn s p basin gen).tsu.engines = s.tsu.engines
    ∧ (State.holdTorn s p basin gen).tsu.gov = s.tsu.gov ∧ (State.holdTorn s p basin gen).tsu.cnt = s.tsu.cnt
    ∧ (State.holdTorn s p basin gen).tsu.cfg = s.tsu.cfg ∧ (State.holdTorn s p basin gen).tsu.cycs = s.tsu.cycs
    ∧ (State.holdTorn s p basin gen).phi.time = s.phi.time ∧ (State.holdTorn s p basin gen).phi.ports = s.phi.ports
    ∧ (State.holdTorn s p basin gen).phi.keys = s.phi.keys
    ∧ (State.holdTorn s p basin gen).phi.relKeys = s.phi.relKeys
    ∧ (State.holdTorn s p basin gen).phi.tdc = s.phi.tdc ∧ (State.holdTorn s p basin gen).phi.clk = s.phi.clk
    ∧ (State.holdTorn s p basin gen).phi.rings = s.phi.rings ∧ (State.holdTorn s p basin gen).phi.page = s.phi.page
    ∧ (State.holdTorn s p basin gen).phi.flt = s.phi.flt ∧ (State.holdTorn s p basin gen).phi.units = s.phi.units
    ∧ (State.holdTorn s p basin gen).phi.engines = s.phi.engines
    ∧ (State.holdTorn s p basin gen).phi.gov = s.phi.gov ∧ (State.holdTorn s p basin gen).phi.cnt = s.phi.cnt
    ∧ (State.holdTorn s p basin gen).phi.cfg = s.phi.cfg ∧ (State.holdTorn s p basin gen).phi.cycs = s.phi.cycs := by
  refine ⟨?_, ?_, ?_, ?_, ?_, ?_, ?_, ?_, ?_, ?_, ?_, ?_, ?_, ?_, ?_, ?_, ?_, ?_, ?_, ?_, ?_, ?_, ?_, ?_, ?_, ?_, ?_, ?_, ?_, ?_, ?_, ?_, ?_, ?_, ?_, ?_, ?_, ?_⟩ <;> first | (simp [State.holdTorn]; done)

@[simp] theorem State.holdTorn_keeps_tsu (s : State) (basin : Nat) (gen : Nat) :
    (State.holdTorn s .tsu basin gen).phi = s.phi := by simp [State.holdTorn]

@[simp] theorem State.holdTorn_keeps_phi (s : State) (basin : Nat) (gen : Nat) :
    (State.holdTorn s .phi basin gen).tsu = s.tsu := by simp [State.holdTorn]

end Sys2Proof.Machine
end

