-- ==== Sys2Proof/Laws/TdcOps.lean ====
section
/-!
SUPPORT. What the operations and meanings of Machine/TdcOps.lean leave unchanged.
-/

namespace Sys2Proof.Machine

@[simp] theorem State.updChan_keeps (s : State) (p : Part) (ch : Nat) (f : Chan → Chan) :
    (State.updChan s p ch f).pending = s.pending ∧ (State.updChan s p ch f).cyc = s.cyc
    ∧ (State.updChan s p ch f).freeNext = s.freeNext ∧ (State.updChan s p ch f).out = s.out
    ∧ (State.updChan s p ch f).mdl = s.mdl ∧ (State.updChan s p ch f).meter = s.meter
    ∧ (State.updChan s p ch f).die = s.die ∧ (State.updChan s p ch f).hub = s.hub
    ∧ (State.updChan s p ch f).tsu.time = s.tsu.time ∧ (State.updChan s p ch f).tsu.ports = s.tsu.ports
    ∧ (State.updChan s p ch f).tsu.torn = s.tsu.torn ∧ (State.updChan s p ch f).tsu.keys = s.tsu.keys
    ∧ (State.updChan s p ch f).tsu.relKeys = s.tsu.relKeys ∧ (State.updChan s p ch f).tsu.clk = s.tsu.clk
    ∧ (State.updChan s p ch f).tsu.rings = s.tsu.rings ∧ (State.updChan s p ch f).tsu.page = s.tsu.page
    ∧ (State.updChan s p ch f).tsu.flt = s.tsu.flt ∧ (State.updChan s p ch f).tsu.units = s.tsu.units
    ∧ (State.updChan s p ch f).tsu.engines = s.tsu.engines ∧ (State.updChan s p ch f).tsu.gov = s.tsu.gov
    ∧ (State.updChan s p ch f).tsu.cnt = s.tsu.cnt ∧ (State.updChan s p ch f).tsu.cfg = s.tsu.cfg
    ∧ (State.updChan s p ch f).tsu.cycs = s.tsu.cycs ∧ (State.updChan s p ch f).phi.time = s.phi.time
    ∧ (State.updChan s p ch f).phi.ports = s.phi.ports ∧ (State.updChan s p ch f).phi.torn = s.phi.torn
    ∧ (State.updChan s p ch f).phi.keys = s.phi.keys ∧ (State.updChan s p ch f).phi.relKeys = s.phi.relKeys
    ∧ (State.updChan s p ch f).phi.clk = s.phi.clk ∧ (State.updChan s p ch f).phi.rings = s.phi.rings
    ∧ (State.updChan s p ch f).phi.page = s.phi.page ∧ (State.updChan s p ch f).phi.flt = s.phi.flt
    ∧ (State.updChan s p ch f).phi.units = s.phi.units ∧ (State.updChan s p ch f).phi.engines = s.phi.engines
    ∧ (State.updChan s p ch f).phi.gov = s.phi.gov ∧ (State.updChan s p ch f).phi.cnt = s.phi.cnt
    ∧ (State.updChan s p ch f).phi.cfg = s.phi.cfg ∧ (State.updChan s p ch f).phi.cycs = s.phi.cycs := by
  refine ⟨?_, ?_, ?_, ?_, ?_, ?_, ?_, ?_, ?_, ?_, ?_, ?_, ?_, ?_, ?_, ?_, ?_, ?_, ?_, ?_, ?_, ?_, ?_, ?_, ?_, ?_, ?_, ?_, ?_, ?_, ?_, ?_, ?_, ?_, ?_, ?_, ?_, ?_⟩ <;> first | (simp [State.updChan]; done)

@[simp] theorem State.updChan_keeps_tsu (s : State) (ch : Nat) (f : Chan → Chan) :
    (State.updChan s .tsu ch f).phi = s.phi := by simp [State.updChan]

@[simp] theorem State.updChan_keeps_phi (s : State) (ch : Nat) (f : Chan → Chan) :
    (State.updChan s .phi ch f).tsu = s.tsu := by simp [State.updChan]

@[simp] theorem State.coreTakes_keeps (s : State) (p : Part) (ch : Nat) (core : Nat) :
    (State.coreTakes s p ch core).pending = s.pending ∧ (State.coreTakes s p ch core).cyc = s.cyc
    ∧ (State.coreTakes s p ch core).freeNext = s.freeNext ∧ (State.coreTakes s p ch core).out = s.out
    ∧ (State.coreTakes s p ch core).mdl = s.mdl ∧ (State.coreTakes s p ch core).meter = s.meter
    ∧ (State.coreTakes s p ch core).die = s.die ∧ (State.coreTakes s p ch core).hub = s.hub
    ∧ (State.coreTakes s p ch core).tsu.time = s.tsu.time ∧ (State.coreTakes s p ch core).tsu.ports = s.tsu.ports
    ∧ (State.coreTakes s p ch core).tsu.torn = s.tsu.torn ∧ (State.coreTakes s p ch core).tsu.keys = s.tsu.keys
    ∧ (State.coreTakes s p ch core).tsu.relKeys = s.tsu.relKeys ∧ (State.coreTakes s p ch core).tsu.clk = s.tsu.clk
    ∧ (State.coreTakes s p ch core).tsu.rings = s.tsu.rings ∧ (State.coreTakes s p ch core).tsu.page = s.tsu.page
    ∧ (State.coreTakes s p ch core).tsu.flt = s.tsu.flt ∧ (State.coreTakes s p ch core).tsu.units = s.tsu.units
    ∧ (State.coreTakes s p ch core).tsu.engines = s.tsu.engines ∧ (State.coreTakes s p ch core).tsu.gov = s.tsu.gov
    ∧ (State.coreTakes s p ch core).tsu.cnt = s.tsu.cnt ∧ (State.coreTakes s p ch core).tsu.cfg = s.tsu.cfg
    ∧ (State.coreTakes s p ch core).tsu.cycs = s.tsu.cycs ∧ (State.coreTakes s p ch core).phi.time = s.phi.time
    ∧ (State.coreTakes s p ch core).phi.ports = s.phi.ports ∧ (State.coreTakes s p ch core).phi.torn = s.phi.torn
    ∧ (State.coreTakes s p ch core).phi.keys = s.phi.keys
    ∧ (State.coreTakes s p ch core).phi.relKeys = s.phi.relKeys ∧ (State.coreTakes s p ch core).phi.clk = s.phi.clk
    ∧ (State.coreTakes s p ch core).phi.rings = s.phi.rings ∧ (State.coreTakes s p ch core).phi.page = s.phi.page
    ∧ (State.coreTakes s p ch core).phi.flt = s.phi.flt ∧ (State.coreTakes s p ch core).phi.units = s.phi.units
    ∧ (State.coreTakes s p ch core).phi.engines = s.phi.engines ∧ (State.coreTakes s p ch core).phi.gov = s.phi.gov
    ∧ (State.coreTakes s p ch core).phi.cnt = s.phi.cnt ∧ (State.coreTakes s p ch core).phi.cfg = s.phi.cfg
    ∧ (State.coreTakes s p ch core).phi.cycs = s.phi.cycs := by
  refine ⟨?_, ?_, ?_, ?_, ?_, ?_, ?_, ?_, ?_, ?_, ?_, ?_, ?_, ?_, ?_, ?_, ?_, ?_, ?_, ?_, ?_, ?_, ?_, ?_, ?_, ?_, ?_, ?_, ?_, ?_, ?_, ?_, ?_, ?_, ?_, ?_, ?_, ?_⟩ <;> first | (simp [State.coreTakes]; done)

@[simp] theorem State.coreTakes_keeps_tsu (s : State) (ch : Nat) (core : Nat) :
    (State.coreTakes s .tsu ch core).phi = s.phi := by simp [State.coreTakes]

@[simp] theorem State.coreTakes_keeps_phi (s : State) (ch : Nat) (core : Nat) :
    (State.coreTakes s .phi ch core).tsu = s.tsu := by simp [State.coreTakes]

@[simp] theorem State.startConv_keeps (s : State) (p : Part) (ch : Nat) (input : Nat) (core : Nat) (use : StampUse) (pairY : Bool) :
    ((State.startConv s p ch input core use pairY).2).pending = s.pending
    ∧ ((State.startConv s p ch input core use pairY).2).cyc = s.cyc
    ∧ ((State.startConv s p ch input core use pairY).2).freeNext = s.freeNext
    ∧ ((State.startConv s p ch input core use pairY).2).out = s.out
    ∧ ((State.startConv s p ch input core use pairY).2).mdl = s.mdl
    ∧ ((State.startConv s p ch input core use pairY).2).meter = s.meter
    ∧ ((State.startConv s p ch input core use pairY).2).die = s.die
    ∧ ((State.startConv s p ch input core use pairY).2).hub = s.hub
    ∧ ((State.startConv s p ch input core use pairY).2).tsu.time = s.tsu.time
    ∧ ((State.startConv s p ch input core use pairY).2).tsu.ports = s.tsu.ports
    ∧ ((State.startConv s p ch input core use pairY).2).tsu.torn = s.tsu.torn
    ∧ ((State.startConv s p ch input core use pairY).2).tsu.keys = s.tsu.keys
    ∧ ((State.startConv s p ch input core use pairY).2).tsu.relKeys = s.tsu.relKeys
    ∧ ((State.startConv s p ch input core use pairY).2).tsu.clk = s.tsu.clk
    ∧ ((State.startConv s p ch input core use pairY).2).tsu.rings = s.tsu.rings
    ∧ ((State.startConv s p ch input core use pairY).2).tsu.page = s.tsu.page
    ∧ ((State.startConv s p ch input core use pairY).2).tsu.flt = s.tsu.flt
    ∧ ((State.startConv s p ch input core use pairY).2).tsu.units = s.tsu.units
    ∧ ((State.startConv s p ch input core use pairY).2).tsu.engines = s.tsu.engines
    ∧ ((State.startConv s p ch input core use pairY).2).tsu.gov = s.tsu.gov
    ∧ ((State.startConv s p ch input core use pairY).2).tsu.cfg = s.tsu.cfg
    ∧ ((State.startConv s p ch input core use pairY).2).tsu.cycs = s.tsu.cycs
    ∧ ((State.startConv s p ch input core use pairY).2).phi.time = s.phi.time
    ∧ ((State.startConv s p ch input core use pairY).2).phi.ports = s.phi.ports
    ∧ ((State.startConv s p ch input core use pairY).2).phi.torn = s.phi.torn
    ∧ ((State.startConv s p ch input core use pairY).2).phi.keys = s.phi.keys
    ∧ ((State.startConv s p ch input core use pairY).2).phi.relKeys = s.phi.relKeys
    ∧ ((State.startConv s p ch input core use pairY).2).phi.clk = s.phi.clk
    ∧ ((State.startConv s p ch input core use pairY).2).phi.rings = s.phi.rings
    ∧ ((State.startConv s p ch input core use pairY).2).phi.page = s.phi.page
    ∧ ((State.startConv s p ch input core use pairY).2).phi.flt = s.phi.flt
    ∧ ((State.startConv s p ch input core use pairY).2).phi.units = s.phi.units
    ∧ ((State.startConv s p ch input core use pairY).2).phi.engines = s.phi.engines
    ∧ ((State.startConv s p ch input core use pairY).2).phi.gov = s.phi.gov
    ∧ ((State.startConv s p ch input core use pairY).2).phi.cnt = s.phi.cnt
    ∧ ((State.startConv s p ch input core use pairY).2).phi.cfg = s.phi.cfg
    ∧ ((State.startConv s p ch input core use pairY).2).phi.cycs = s.phi.cycs := by
  simp only [State.startConv] <;> (repeat' split) <;> first | (simp; done) | (simp [*]; done) | (refine ⟨?_, ?_, ?_, ?_, ?_, ?_, ?_, ?_, ?_, ?_, ?_, ?_, ?_, ?_, ?_, ?_, ?_, ?_, ?_, ?_, ?_, ?_, ?_, ?_, ?_, ?_, ?_, ?_, ?_, ?_, ?_, ?_, ?_, ?_, ?_, ?_, ?_⟩ <;> first | rfl | (simp; done) | (simp [*]; done))

@[simp] theorem State.startConv_keeps_tsu (s : State) (ch : Nat) (input : Nat) (core : Nat) (use : StampUse) (pairY : Bool) :
    ((State.startConv s .tsu ch input core use pairY).2).phi = s.phi := by simp only [State.startConv] <;> (repeat' split) <;> first | rfl | (simp; done) | (simp [*]; done)

@[simp] theorem State.startConv_keeps_phi (s : State) (ch : Nat) (input : Nat) (core : Nat) (use : StampUse) (pairY : Bool) :
    ((State.startConv s .phi ch input core use pairY).2).tsu = s.tsu := by simp only [State.startConv] <;> (repeat' split) <;> first | rfl | (simp; done) | (simp [*]; done)

@[simp] theorem State.strayMarker_keeps (s : State) (p : Part) (port : Nat) (core : Nat) :
    (State.strayMarker s p port core).pending = s.pending ∧ (State.strayMarker s p port core).cyc = s.cyc
    ∧ (State.strayMarker s p port core).freeNext = s.freeNext ∧ (State.strayMarker s p port core).out = s.out
    ∧ (State.strayMarker s p port core).mdl = s.mdl ∧ (State.strayMarker s p port core).meter = s.meter
    ∧ (State.strayMarker s p port core).die = s.die ∧ (State.strayMarker s p port core).hub = s.hub
    ∧ (State.strayMarker s p port core).tsu.time = s.tsu.time
    ∧ (State.strayMarker s p port core).tsu.ports = s.tsu.ports
    ∧ (State.strayMarker s p port core).tsu.torn = s.tsu.torn
    ∧ (State.strayMarker s p port core).tsu.keys = s.tsu.keys
    ∧ (State.strayMarker s p port core).tsu.relKeys = s.tsu.relKeys
    ∧ (State.strayMarker s p port core).tsu.clk = s.tsu.clk
    ∧ (State.strayMarker s p port core).tsu.rings = s.tsu.rings
    ∧ (State.strayMarker s p port core).tsu.page = s.tsu.page
    ∧ (State.strayMarker s p port core).tsu.flt = s.tsu.flt
    ∧ (State.strayMarker s p port core).tsu.units = s.tsu.units
    ∧ (State.strayMarker s p port core).tsu.engines = s.tsu.engines
    ∧ (State.strayMarker s p port core).tsu.gov = s.tsu.gov ∧ (State.strayMarker s p port core).tsu.cfg = s.tsu.cfg
    ∧ (State.strayMarker s p port core).tsu.cycs = s.tsu.cycs
    ∧ (State.strayMarker s p port core).phi.time = s.phi.time
    ∧ (State.strayMarker s p port core).phi.ports = s.phi.ports
    ∧ (State.strayMarker s p port core).phi.torn = s.phi.torn
    ∧ (State.strayMarker s p port core).phi.keys = s.phi.keys
    ∧ (State.strayMarker s p port core).phi.relKeys = s.phi.relKeys
    ∧ (State.strayMarker s p port core).phi.clk = s.phi.clk
    ∧ (State.strayMarker s p port core).phi.rings = s.phi.rings
    ∧ (State.strayMarker s p port core).phi.page = s.phi.page
    ∧ (State.strayMarker s p port core).phi.flt = s.phi.flt
    ∧ (State.strayMarker s p port core).phi.units = s.phi.units
    ∧ (State.strayMarker s p port core).phi.engines = s.phi.engines
    ∧ (State.strayMarker s p port core).phi.gov = s.phi.gov ∧ (State.strayMarker s p port core).phi.cnt = s.phi.cnt
    ∧ (State.strayMarker s p port core).phi.cfg = s.phi.cfg
    ∧ (State.strayMarker s p port core).phi.cycs = s.phi.cycs := by
  refine ⟨?_, ?_, ?_, ?_, ?_, ?_, ?_, ?_, ?_, ?_, ?_, ?_, ?_, ?_, ?_, ?_, ?_, ?_, ?_, ?_, ?_, ?_, ?_, ?_, ?_, ?_, ?_, ?_, ?_, ?_, ?_, ?_, ?_, ?_, ?_, ?_, ?_⟩ <;> first | (simp [State.strayMarker]; done)

@[simp] theorem State.strayMarker_keeps_tsu (s : State) (port : Nat) (core : Nat) :
    (State.strayMarker s .tsu port core).phi = s.phi := by simp [State.strayMarker]

@[simp] theorem State.strayMarker_keeps_phi (s : State) (port : Nat) (core : Nat) :
    (State.strayMarker s .phi port core).tsu = s.tsu := by simp [State.strayMarker]

@[simp] theorem State.setTables_keeps (s : State) (p : Part) (ch : Nat) (f : Tab BinTable → Tab BinTable) :
    (State.setTables s p ch f).pending = s.pending ∧ (State.setTables s p ch f).cyc = s.cyc
    ∧ (State.setTables s p ch f).freeNext = s.freeNext ∧ (State.setTables s p ch f).out = s.out
    ∧ (State.setTables s p ch f).mdl = s.mdl ∧ (State.setTables s p ch f).meter = s.meter
    ∧ (State.setTables s p ch f).die = s.die ∧ (State.setTables s p ch f).hub = s.hub
    ∧ (State.setTables s p ch f).tsu.time = s.tsu.time ∧ (State.setTables s p ch f).tsu.ports = s.tsu.ports
    ∧ (State.setTables s p ch f).tsu.torn = s.tsu.torn ∧ (State.setTables s p ch f).tsu.keys = s.tsu.keys
    ∧ (State.setTables s p ch f).tsu.relKeys = s.tsu.relKeys ∧ (State.setTables s p ch f).tsu.clk = s.tsu.clk
    ∧ (State.setTables s p ch f).tsu.rings = s.tsu.rings ∧ (State.setTables s p ch f).tsu.page = s.tsu.page
    ∧ (State.setTables s p ch f).tsu.flt = s.tsu.flt ∧ (State.setTables s p ch f).tsu.units = s.tsu.units
    ∧ (State.setTables s p ch f).tsu.engines = s.tsu.engines ∧ (State.setTables s p ch f).tsu.gov = s.tsu.gov
    ∧ (State.setTables s p ch f).tsu.cnt = s.tsu.cnt ∧ (State.setTables s p ch f).tsu.cfg = s.tsu.cfg
    ∧ (State.setTables s p ch f).tsu.cycs = s.tsu.cycs ∧ (State.setTables s p ch f).phi.time = s.phi.time
    ∧ (State.setTables s p ch f).phi.ports = s.phi.ports ∧ (State.setTables s p ch f).phi.torn = s.phi.torn
    ∧ (State.setTables s p ch f).phi.keys = s.phi.keys ∧ (State.setTables s p ch f).phi.relKeys = s.phi.relKeys
    ∧ (State.setTables s p ch f).phi.clk = s.phi.clk ∧ (State.setTables s p ch f).phi.rings = s.phi.rings
    ∧ (State.setTables s p ch f).phi.page = s.phi.page ∧ (State.setTables s p ch f).phi.flt = s.phi.flt
    ∧ (State.setTables s p ch f).phi.units = s.phi.units ∧ (State.setTables s p ch f).phi.engines = s.phi.engines
    ∧ (State.setTables s p ch f).phi.gov = s.phi.gov ∧ (State.setTables s p ch f).phi.cnt = s.phi.cnt
    ∧ (State.setTables s p ch f).phi.cfg = s.phi.cfg ∧ (State.setTables s p ch f).phi.cycs = s.phi.cycs := by
  refine ⟨?_, ?_, ?_, ?_, ?_, ?_, ?_, ?_, ?_, ?_, ?_, ?_, ?_, ?_, ?_, ?_, ?_, ?_, ?_, ?_, ?_, ?_, ?_, ?_, ?_, ?_, ?_, ?_, ?_, ?_, ?_, ?_, ?_, ?_, ?_, ?_, ?_, ?_⟩ <;> first | (simp [State.setTables]; done)

@[simp] theorem State.setTables_keeps_tsu (s : State) (ch : Nat) (f : Tab BinTable → Tab BinTable) :
    (State.setTables s .tsu ch f).phi = s.phi := by simp [State.setTables]

@[simp] theorem State.setTables_keeps_phi (s : State) (ch : Nat) (f : Tab BinTable → Tab BinTable) :
    (State.setTables s .phi ch f).tsu = s.tsu := by simp [State.setTables]

end Sys2Proof.Machine
end

