-- ==== Sys2Proof/Laws/Health.lean ====
section
/-!
SUPPORT. What the operations and meanings of Machine/Health.lean leave unchanged.
-/

namespace Sys2Proof.Machine

@[simp] theorem State.expelTdc_keeps (s : State) (p : Part) (ch : Nat) :
    (State.expelTdc s p ch).pending = s.pending ∧ (State.expelTdc s p ch).cyc = s.cyc
    ∧ (State.expelTdc s p ch).freeNext = s.freeNext ∧ (State.expelTdc s p ch).out = s.out
    ∧ (State.expelTdc s p ch).mdl = s.mdl ∧ (State.expelTdc s p ch).meter = s.meter
    ∧ (State.expelTdc s p ch).die = s.die ∧ (State.expelTdc s p ch).hub = s.hub
    ∧ (State.expelTdc s p ch).tsu.time = s.tsu.time ∧ (State.expelTdc s p ch).tsu.rings = s.tsu.rings
    ∧ (State.expelTdc s p ch).tsu.cfg = s.tsu.cfg ∧ (State.expelTdc s p ch).phi.time = s.phi.time
    ∧ (State.expelTdc s p ch).phi.rings = s.phi.rings ∧ (State.expelTdc s p ch).phi.cfg = s.phi.cfg := by
  simp only [State.expelTdc] <;> (repeat' split) <;> first | (simp; done) | (simp [*]; done) | (refine ⟨?_, ?_, ?_, ?_, ?_, ?_, ?_, ?_, ?_, ?_, ?_, ?_, ?_, ?_⟩ <;> first | rfl | (simp; done) | (simp [*]; done))

@[simp] theorem State.expelTdc_keeps_tsu (s : State) (ch : Nat) :
    (State.expelTdc s .tsu ch).phi = s.phi := by simp only [State.expelTdc] <;> (repeat' split) <;> first | rfl | (simp; done) | (simp [*]; done)

@[simp] theorem State.expelTdc_keeps_phi (s : State) (ch : Nat) :
    (State.expelTdc s .phi ch).tsu = s.tsu := by simp only [State.expelTdc] <;> (repeat' split) <;> first | rfl | (simp; done) | (simp [*]; done)

@[simp] theorem State.tdcStop_keeps (s : State) (p : Part) (ch : Nat) :
    (State.tdcStop s p ch).pending = s.pending ∧ (State.tdcStop s p ch).cyc = s.cyc
    ∧ (State.tdcStop s p ch).freeNext = s.freeNext ∧ (State.tdcStop s p ch).out = s.out
    ∧ (State.tdcStop s p ch).mdl = s.mdl ∧ (State.tdcStop s p ch).meter = s.meter
    ∧ (State.tdcStop s p ch).hub = s.hub ∧ (State.tdcStop s p ch).tsu.time = s.tsu.time
    ∧ (State.tdcStop s p ch).tsu.rings = s.tsu.rings ∧ (State.tdcStop s p ch).tsu.cfg = s.tsu.cfg
    ∧ (State.tdcStop s p ch).phi.time = s.phi.time ∧ (State.tdcStop s p ch).phi.rings = s.phi.rings
    ∧ (State.tdcStop s p ch).phi.cfg = s.phi.cfg ∧ (State.tdcStop s p ch).die.sync = s.die.sync
    ∧ (State.tdcStop s p ch).die.launches = s.die.launches ∧ (State.tdcStop s p ch).die.dig = s.die.dig
    ∧ (State.tdcStop s p ch).die.binds = s.die.binds ∧ (State.tdcStop s p ch).die.coreEn = s.die.coreEn := by
  simp only [State.tdcStop] <;> (repeat' split) <;> first | (simp; done) | (simp [*]; done) | (refine ⟨?_, ?_, ?_, ?_, ?_, ?_, ?_, ?_, ?_, ?_, ?_, ?_, ?_, ?_, ?_, ?_, ?_, ?_⟩ <;> first | rfl | (simp; done) | (simp [*]; done))

@[simp] theorem State.tdcStop_keeps_tsu (s : State) (ch : Nat) :
    (State.tdcStop s .tsu ch).phi = s.phi := by simp only [State.tdcStop] <;> (repeat' split) <;> first | rfl | (simp; done) | (simp [*]; done)

@[simp] theorem State.tdcStop_keeps_phi (s : State) (ch : Nat) :
    (State.tdcStop s .phi ch).tsu = s.tsu ∧ (State.tdcStop s .phi ch).die = s.die := by
  refine ⟨?_, ?_⟩ <;> first | (simp [State.tdcStop]; done)

@[simp] theorem State.returnDone_keeps (s : State) (p : Part) (ch : Nat) :
    (State.returnDone s p ch).pending = s.pending ∧ (State.returnDone s p ch).cyc = s.cyc
    ∧ (State.returnDone s p ch).mdl = s.mdl ∧ (State.returnDone s p ch).meter = s.meter
    ∧ (State.returnDone s p ch).die = s.die ∧ (State.returnDone s p ch).tsu.time = s.tsu.time
    ∧ (State.returnDone s p ch).tsu.cfg = s.tsu.cfg ∧ (State.returnDone s p ch).phi.time = s.phi.time
    ∧ (State.returnDone s p ch).phi.cfg = s.phi.cfg ∧ (State.returnDone s p ch).hub.storage = s.hub.storage
    ∧ (State.returnDone s p ch).hub.fw.state = s.hub.fw.state ∧ (State.returnDone s p ch).hub.pairs = s.hub.pairs
    ∧ (State.returnDone s p ch).hub.led = s.hub.led ∧ (State.returnDone s p ch).hub.seqs = s.hub.seqs := by
  refine ⟨?_, ?_, ?_, ?_, ?_, ?_, ?_, ?_, ?_, ?_, ?_, ?_, ?_, ?_⟩ <;> first | (simp [State.returnDone]; done)

@[simp] theorem State.returnDone_keeps_tsu (s : State) (ch : Nat) :
    (State.returnDone s .tsu ch).phi = s.phi := by simp [State.returnDone]

@[simp] theorem State.returnDone_keeps_phi (s : State) (ch : Nat) :
    (State.returnDone s .phi ch).tsu = s.tsu := by simp [State.returnDone]

@[simp] theorem State.chanFault_keeps (s : State) (p : Part) (ch : Nat) (cause : Cause) :
    (State.chanFault s p ch cause).pending = s.pending ∧ (State.chanFault s p ch cause).cyc = s.cyc
    ∧ (State.chanFault s p ch cause).mdl = s.mdl ∧ (State.chanFault s p ch cause).meter = s.meter
    ∧ (State.chanFault s p ch cause).die = s.die ∧ (State.chanFault s p ch cause).tsu.cfg = s.tsu.cfg
    ∧ (State.chanFault s p ch cause).phi.time.acc = s.phi.time.acc
    ∧ (State.chanFault s p ch cause).phi.cfg = s.phi.cfg
    ∧ (State.chanFault s p ch cause).hub.storage = s.hub.storage
    ∧ (State.chanFault s p ch cause).hub.fw.state = s.hub.fw.state
    ∧ (State.chanFault s p ch cause).hub.pairs = s.hub.pairs ∧ (State.chanFault s p ch cause).hub.seqs = s.hub.seqs := by
  simp only [State.chanFault] <;> (repeat' split) <;> first | (simp; done) | (simp [*]; done) | (refine ⟨?_, ?_, ?_, ?_, ?_, ?_, ?_, ?_, ?_, ?_, ?_, ?_⟩ <;> first | rfl | (simp; done) | (simp [*]; done))

@[simp] theorem State.chanFault_keeps_phi (s : State) (ch : Nat) (cause : Cause) :
    (State.chanFault s .phi ch cause).tsu = s.tsu := by simp only [State.chanFault] <;> (repeat' split) <;> first | rfl | (simp; done) | (simp [*]; done)

@[simp] theorem State.evalMetric_keeps (s : State) (p : Part) (ch : Nat) (metric : Nat) (value : Nat) (thr : Nat) (cause : Cause) :
    (State.evalMetric s p ch metric value thr cause).pending = s.pending
    ∧ (State.evalMetric s p ch metric value thr cause).cyc = s.cyc
    ∧ (State.evalMetric s p ch metric value thr cause).mdl = s.mdl
    ∧ (State.evalMetric s p ch metric value thr cause).meter = s.meter
    ∧ (State.evalMetric s p ch metric value thr cause).die = s.die
    ∧ (State.evalMetric s p ch metric value thr cause).tsu.cfg = s.tsu.cfg
    ∧ (State.evalMetric s p ch metric value thr cause).phi.time.acc = s.phi.time.acc
    ∧ (State.evalMetric s p ch metric value thr cause).phi.cfg = s.phi.cfg
    ∧ (State.evalMetric s p ch metric value thr cause).hub.storage = s.hub.storage
    ∧ (State.evalMetric s p ch metric value thr cause).hub.fw.state = s.hub.fw.state
    ∧ (State.evalMetric s p ch metric value thr cause).hub.pairs = s.hub.pairs
    ∧ (State.evalMetric s p ch metric value thr cause).hub.seqs = s.hub.seqs := by
  refine ⟨?_, ?_, ?_, ?_, ?_, ?_, ?_, ?_, ?_, ?_, ?_, ?_⟩ <;> first | (simp [State.evalMetric]; done)

@[simp] theorem State.evalMetric_keeps_phi (s : State) (ch : Nat) (metric : Nat) (value : Nat) (thr : Nat) (cause : Cause) :
    (State.evalMetric s .phi ch metric value thr cause).tsu = s.tsu := by simp [State.evalMetric]

@[simp] theorem State.expelSource_keeps (s : State) (p : Part) (src : Nat) :
    (State.expelSource s p src).pending = s.pending ∧ (State.expelSource s p src).cyc = s.cyc
    ∧ (State.expelSource s p src).freeNext = s.freeNext ∧ (State.expelSource s p src).out = s.out
    ∧ (State.expelSource s p src).mdl = s.mdl ∧ (State.expelSource s p src).meter = s.meter
    ∧ (State.expelSource s p src).die = s.die ∧ (State.expelSource s p src).hub = s.hub
    ∧ (State.expelSource s p src).tsu.time = s.tsu.time ∧ (State.expelSource s p src).tsu.rings = s.tsu.rings
    ∧ (State.expelSource s p src).tsu.cfg = s.tsu.cfg ∧ (State.expelSource s p src).phi.time = s.phi.time
    ∧ (State.expelSource s p src).phi.rings = s.phi.rings ∧ (State.expelSource s p src).phi.cfg = s.phi.cfg := by
  simp only [State.expelSource] <;> (repeat' split) <;> first | (simp; done) | (simp [*]; done) | (refine ⟨?_, ?_, ?_, ?_, ?_, ?_, ?_, ?_, ?_, ?_, ?_, ?_, ?_, ?_⟩ <;> first | rfl | (simp; done) | (simp [*]; done))

@[simp] theorem State.expelSource_keeps_tsu (s : State) (src : Nat) :
    (State.expelSource s .tsu src).phi = s.phi := by simp [State.expelSource]

@[simp] theorem State.expelSource_keeps_phi (s : State) (src : Nat) :
    (State.expelSource s .phi src).tsu = s.tsu := by simp [State.expelSource]

@[simp] theorem State.sourceFault_keeps (s : State) (p : Part) (src : Nat) :
    (State.sourceFault s p src).pending = s.pending ∧ (State.sourceFault s p src).cyc = s.cyc
    ∧ (State.sourceFault s p src).freeNext = s.freeNext ∧ (State.sourceFault s p src).mdl = s.mdl
    ∧ (State.sourceFault s p src).meter = s.meter ∧ (State.sourceFault s p src).die = s.die
    ∧ (State.sourceFault s p src).tsu.time = s.tsu.time ∧ (State.sourceFault s p src).tsu.rings = s.tsu.rings
    ∧ (State.sourceFault s p src).tsu.cfg = s.tsu.cfg ∧ (State.sourceFault s p src).phi.time = s.phi.time
    ∧ (State.sourceFault s p src).phi.rings = s.phi.rings ∧ (State.sourceFault s p src).phi.cfg = s.phi.cfg
    ∧ (State.sourceFault s p src).hub.storage = s.hub.storage
    ∧ (State.sourceFault s p src).hub.fw.state = s.hub.fw.state
    ∧ (State.sourceFault s p src).hub.pairs = s.hub.pairs ∧ (State.sourceFault s p src).hub.led = s.hub.led
    ∧ (State.sourceFault s p src).hub.seqs = s.hub.seqs := by
  refine ⟨?_, ?_, ?_, ?_, ?_, ?_, ?_, ?_, ?_, ?_, ?_, ?_, ?_, ?_, ?_, ?_, ?_⟩ <;> first | (simp [State.sourceFault]; done)

@[simp] theorem State.sourceFault_keeps_tsu (s : State) (src : Nat) :
    (State.sourceFault s .tsu src).phi = s.phi := by simp [State.sourceFault]

@[simp] theorem State.sourceFault_keeps_phi (s : State) (src : Nat) :
    (State.sourceFault s .phi src).tsu = s.tsu := by simp [State.sourceFault]

@[simp] theorem State.sourceStop_keeps (s : State) (p : Part) (src : Nat) :
    (State.sourceStop s p src).pending = s.pending ∧ (State.sourceStop s p src).cyc = s.cyc
    ∧ (State.sourceStop s p src).freeNext = s.freeNext ∧ (State.sourceStop s p src).out = s.out
    ∧ (State.sourceStop s p src).mdl = s.mdl ∧ (State.sourceStop s p src).meter = s.meter
    ∧ (State.sourceStop s p src).die = s.die ∧ (State.sourceStop s p src).hub = s.hub
    ∧ (State.sourceStop s p src).tsu.time = s.tsu.time ∧ (State.sourceStop s p src).tsu.rings = s.tsu.rings
    ∧ (State.sourceStop s p src).tsu.cfg = s.tsu.cfg ∧ (State.sourceStop s p src).phi.time = s.phi.time
    ∧ (State.sourceStop s p src).phi.rings = s.phi.rings ∧ (State.sourceStop s p src).phi.cfg = s.phi.cfg := by
  refine ⟨?_, ?_, ?_, ?_, ?_, ?_, ?_, ?_, ?_, ?_, ?_, ?_, ?_, ?_⟩ <;> first | (simp [State.sourceStop]; done)

@[simp] theorem State.sourceStop_keeps_tsu (s : State) (src : Nat) :
    (State.sourceStop s .tsu src).phi = s.phi := by simp [State.sourceStop]

@[simp] theorem State.sourceStop_keeps_phi (s : State) (src : Nat) :
    (State.sourceStop s .phi src).tsu = s.tsu := by simp [State.sourceStop]

end Sys2Proof.Machine
end

