-- ==== Sys2Proof/Laws/WbOps.lean ====
section
/-!
SUPPORT. What the operations and meanings of Machine/WbOps.lean leave unchanged.
-/

namespace Sys2Proof.Machine

@[simp] theorem State.abortWb_keeps (s : State) (o : WbOp) (st : Status) (cause : W16) :
    (State.abortWb s o st cause).pending = s.pending ∧ (State.abortWb s o st cause).cyc = s.cyc
    ∧ (State.abortWb s o st cause).mdl = s.mdl ∧ (State.abortWb s o st cause).meter = s.meter
    ∧ (State.abortWb s o st cause).phi = s.phi ∧ (State.abortWb s o st cause).tsu.time = s.tsu.time
    ∧ (State.abortWb s o st cause).tsu.cfg = s.tsu.cfg ∧ (State.abortWb s o st cause).hub.storage = s.hub.storage
    ∧ (State.abortWb s o st cause).hub.fw.state = s.hub.fw.state
    ∧ (State.abortWb s o st cause).hub.pairs = s.hub.pairs ∧ (State.abortWb s o st cause).hub.led = s.hub.led
    ∧ (State.abortWb s o st cause).hub.seqs = s.hub.seqs ∧ (State.abortWb s o st cause).die.binds = s.die.binds
    ∧ (State.abortWb s o st cause).die.coreEn = s.die.coreEn := by
  refine ⟨?_, ?_, ?_, ?_, ?_, ?_, ?_, ?_, ?_, ?_, ?_, ?_, ?_, ?_⟩ <;> first | (simp [State.abortWb]; done)

@[simp] theorem State.sendWbAck_keeps (s : State) (o : WbOp) (st : Status) :
    (State.sendWbAck s o st).pending = s.pending ∧ (State.sendWbAck s o st).cyc = s.cyc
    ∧ (State.sendWbAck s o st).freeNext = s.freeNext ∧ (State.sendWbAck s o st).out = s.out
    ∧ (State.sendWbAck s o st).mdl = s.mdl ∧ (State.sendWbAck s o st).meter = s.meter
    ∧ (State.sendWbAck s o st).die = s.die ∧ (State.sendWbAck s o st).hub = s.hub
    ∧ (State.sendWbAck s o st).phi = s.phi ∧ (State.sendWbAck s o st).tsu.time = s.tsu.time
    ∧ (State.sendWbAck s o st).tsu.rings = s.tsu.rings ∧ (State.sendWbAck s o st).tsu.cfg = s.tsu.cfg := by
  refine ⟨?_, ?_, ?_, ?_, ?_, ?_, ?_, ?_, ?_, ?_, ?_, ?_⟩ <;> first | (simp [State.sendWbAck]; done)

@[simp] theorem State.checkLost_keeps (s : State) (o : WbOp) :
    (State.checkLost s o).pending = s.pending ∧ (State.checkLost s o).cyc = s.cyc ∧ (State.checkLost s o).mdl = s.mdl
    ∧ (State.checkLost s o).meter = s.meter ∧ (State.checkLost s o).phi = s.phi
    ∧ (State.checkLost s o).tsu.time = s.tsu.time ∧ (State.checkLost s o).tsu.cfg = s.tsu.cfg
    ∧ (State.checkLost s o).hub.storage = s.hub.storage ∧ (State.checkLost s o).hub.fw.state = s.hub.fw.state
    ∧ (State.checkLost s o).hub.pairs = s.hub.pairs ∧ (State.checkLost s o).hub.led = s.hub.led
    ∧ (State.checkLost s o).hub.seqs = s.hub.seqs ∧ (State.checkLost s o).die.binds = s.die.binds
    ∧ (State.checkLost s o).die.coreEn = s.die.coreEn := by
  simp only [State.checkLost] <;> (repeat' split) <;> first | (simp; done) | (simp [*]; done) | (refine ⟨?_, ?_, ?_, ?_, ?_, ?_, ?_, ?_, ?_, ?_, ?_, ?_, ?_, ?_⟩ <;> first | rfl | (simp; done) | (simp [*]; done) | ((try simp); refine (foldl_pending _ _ _ fun s a => ?_).trans ?_ <;> (repeat' split) <;> first | with_reducible rfl | (simp; done) | (simp [*]; done)) | ((try simp); refine (foldl_cyc _ _ _ fun s a => ?_).trans ?_ <;> (repeat' split) <;> first | with_reducible rfl | (simp; done) | (simp [*]; done)) | ((try simp); refine (foldl_mdl _ _ _ fun s a => ?_).trans ?_ <;> (repeat' split) <;> first | with_reducible rfl | (simp; done) | (simp [*]; done)) | ((try simp); refine (foldl_meter _ _ _ fun s a => ?_).trans ?_ <;> (repeat' split) <;> first | with_reducible rfl | (simp; done) | (simp [*]; done)) | ((try simp); refine (foldl_phi _ _ _ fun s a => ?_).trans ?_ <;> (repeat' split) <;> first | with_reducible rfl | (simp; done) | (simp [*]; done)) | ((try simp); refine (foldl_tsu_time _ _ _ fun s a => ?_).trans ?_ <;> (repeat' split) <;> first | with_reducible rfl | (simp; done) | (simp [*]; done)) | ((try simp); refine (foldl_tsu_cfg _ _ _ fun s a => ?_).trans ?_ <;> (repeat' split) <;> first | with_reducible rfl | (simp; done) | (simp [*]; done)) | ((try simp); refine (foldl_hub_storage _ _ _ fun s a => ?_).trans ?_ <;> (repeat' split) <;> first | with_reducible rfl | (simp; done) | (simp [*]; done)) | ((try simp); refine (foldl_hub_fw_state _ _ _ fun s a => ?_).trans ?_ <;> (repeat' split) <;> first | with_reducible rfl | (simp; done) | (simp [*]; done)) | ((try simp); refine (foldl_hub_pairs _ _ _ fun s a => ?_).trans ?_ <;> (repeat' split) <;> first | with_reducible rfl | (simp; done) | (simp [*]; done)) | ((try simp); refine (foldl_hub_led _ _ _ fun s a => ?_).trans ?_ <;> (repeat' split) <;> first | with_reducible rfl | (simp; done) | (simp [*]; done)) | ((try simp); refine (foldl_hub_seqs _ _ _ fun s a => ?_).trans ?_ <;> (repeat' split) <;> first | with_reducible rfl | (simp; done) | (simp [*]; done)) | ((try simp); refine (foldl_die_binds _ _ _ fun s a => ?_).trans ?_ <;> (repeat' split) <;> first | with_reducible rfl | (simp; done) | (simp [*]; done)) | ((try simp); refine (foldl_die_coreEn _ _ _ fun s a => ?_).trans ?_ <;> (repeat' split) <;> first | with_reducible rfl | (simp; done) | (simp [*]; done)))

@[simp] theorem State.copyFailed_keeps (s : State) (bytes : List Byte) :
    (State.copyFailed s bytes).pending = s.pending ∧ (State.copyFailed s bytes).cyc = s.cyc
    ∧ (State.copyFailed s bytes).mdl = s.mdl ∧ (State.copyFailed s bytes).meter = s.meter
    ∧ (State.copyFailed s bytes).phi = s.phi ∧ (State.copyFailed s bytes).tsu.time = s.tsu.time
    ∧ (State.copyFailed s bytes).tsu.cfg = s.tsu.cfg ∧ (State.copyFailed s bytes).hub.storage = s.hub.storage
    ∧ (State.copyFailed s bytes).hub.fw.state = s.hub.fw.state ∧ (State.copyFailed s bytes).hub.pairs = s.hub.pairs
    ∧ (State.copyFailed s bytes).hub.led = s.hub.led ∧ (State.copyFailed s bytes).hub.seqs = s.hub.seqs
    ∧ (State.copyFailed s bytes).die.binds = s.die.binds ∧ (State.copyFailed s bytes).die.coreEn = s.die.coreEn := by
  simp only [State.copyFailed] <;> (repeat' split) <;> first | (simp; done) | (simp [*]; done) | (refine ⟨?_, ?_, ?_, ?_, ?_, ?_, ?_, ?_, ?_, ?_, ?_, ?_, ?_, ?_⟩ <;> first | rfl | (simp; done) | (simp [*]; done))

end Sys2Proof.Machine
end

