-- ==== Sys2Proof/Laws/Links.lean ====
section
/-!
SUPPORT. What the operations and meanings of Machine/Links.lean leave unchanged.
-/

namespace Sys2Proof.Machine

@[simp] theorem State.tryIdent_keeps (s : State) (p : Part) (port : Nat) :
    (State.tryIdent s p port).pending = s.pending ∧ (State.tryIdent s p port).cyc = s.cyc
    ∧ (State.tryIdent s p port).freeNext = s.freeNext ∧ (State.tryIdent s p port).out = s.out
    ∧ (State.tryIdent s p port).mdl = s.mdl ∧ (State.tryIdent s p port).meter = s.meter
    ∧ (State.tryIdent s p port).die = s.die ∧ (State.tryIdent s p port).hub = s.hub
    ∧ (State.tryIdent s p port).tsu.time = s.tsu.time ∧ (State.tryIdent s p port).tsu.rings = s.tsu.rings
    ∧ (State.tryIdent s p port).tsu.cfg = s.tsu.cfg ∧ (State.tryIdent s p port).phi.time = s.phi.time
    ∧ (State.tryIdent s p port).phi.rings = s.phi.rings ∧ (State.tryIdent s p port).phi.cfg = s.phi.cfg := by
  refine ⟨?_, ?_, ?_, ?_, ?_, ?_, ?_, ?_, ?_, ?_, ?_, ?_, ?_, ?_⟩ <;> first | (simp [State.tryIdent]; done)

@[simp] theorem State.tryIdent_keeps_tsu (s : State) (port : Nat) :
    (State.tryIdent s .tsu port).phi = s.phi := by simp [State.tryIdent]

@[simp] theorem State.tryIdent_keeps_phi (s : State) (port : Nat) :
    (State.tryIdent s .phi port).tsu = s.tsu := by simp [State.tryIdent]

@[simp] theorem State.portUp_keeps (s : State) (p : Part) (port : Nat) :
    (State.portUp s p port).pending = s.pending ∧ (State.portUp s p port).cyc = s.cyc
    ∧ (State.portUp s p port).freeNext = s.freeNext ∧ (State.portUp s p port).out = s.out
    ∧ (State.portUp s p port).mdl = s.mdl ∧ (State.portUp s p port).meter = s.meter
    ∧ (State.portUp s p port).die = s.die ∧ (State.portUp s p port).hub = s.hub
    ∧ (State.portUp s p port).tsu.time = s.tsu.time ∧ (State.portUp s p port).tsu.rings = s.tsu.rings
    ∧ (State.portUp s p port).tsu.cfg = s.tsu.cfg ∧ (State.portUp s p port).phi.time = s.phi.time
    ∧ (State.portUp s p port).phi.rings = s.phi.rings ∧ (State.portUp s p port).phi.cfg = s.phi.cfg := by
  simp only [State.portUp] <;> (repeat' split) <;> first | (simp; done) | (simp [*]; done) | (refine ⟨?_, ?_, ?_, ?_, ?_, ?_, ?_, ?_, ?_, ?_, ?_, ?_, ?_, ?_⟩ <;> first | rfl | (simp; done) | (simp [*]; done))

@[simp] theorem State.portUp_keeps_tsu (s : State) (port : Nat) :
    (State.portUp s .tsu port).phi = s.phi := by simp only [State.portUp] <;> (repeat' split) <;> first | rfl | (simp; done) | (simp [*]; done)

@[simp] theorem State.portUp_keeps_phi (s : State) (port : Nat) :
    (State.portUp s .phi port).tsu = s.tsu := by simp only [State.portUp] <;> (repeat' split) <;> first | rfl | (simp; done) | (simp [*]; done)

@[simp] theorem execSignalDetected_keeps (p : Part) (port : Nat) (s : State) :
    gives (execSignalDetected p port s) fun t => t.pending = s.pending ∧ t.cyc = s.cyc ∧ t.freeNext = s.freeNext
    ∧ t.out = s.out ∧ t.mdl = s.mdl ∧ t.meter = s.meter ∧ t.die = s.die ∧ t.hub = s.hub ∧ t.tsu.time = s.tsu.time
    ∧ t.tsu.rings = s.tsu.rings ∧ t.tsu.cfg = s.tsu.cfg ∧ t.phi.time = s.phi.time ∧ t.phi.rings = s.phi.rings
    ∧ t.phi.cfg = s.phi.cfg := by
  refine gives_and ?_ (gives_and ?_ (gives_and ?_ (gives_and ?_ (gives_and ?_ (gives_and ?_ (gives_and ?_ (gives_and ?_ (gives_and ?_ (gives_and ?_ (gives_and ?_ (gives_and ?_ (gives_and ?_ ?_)))))))))))) <;> first | (simp [execSignalDetected]; done)

@[simp] theorem execSignalDetected_keeps_tsu (port : Nat) (s : State) :
    gives (execSignalDetected .tsu port s) fun t => t.phi = s.phi := by simp [execSignalDetected]

@[simp] theorem execSignalDetected_keeps_phi (port : Nat) (s : State) :
    gives (execSignalDetected .phi port s) fun t => t.tsu = s.tsu := by simp [execSignalDetected]

@[simp] theorem execClockRecoveryLock_keeps (p : Part) (port : Nat) (s : State) :
    gives (execClockRecoveryLock p port s) fun t => t.pending = s.pending ∧ t.cyc = s.cyc ∧ t.freeNext = s.freeNext
    ∧ t.out = s.out ∧ t.mdl = s.mdl ∧ t.meter = s.meter ∧ t.die = s.die ∧ t.hub = s.hub ∧ t.tsu.time = s.tsu.time
    ∧ t.tsu.rings = s.tsu.rings ∧ t.tsu.cfg = s.tsu.cfg ∧ t.phi.time = s.phi.time ∧ t.phi.rings = s.phi.rings
    ∧ t.phi.cfg = s.phi.cfg := by
  refine gives_and ?_ (gives_and ?_ (gives_and ?_ (gives_and ?_ (gives_and ?_ (gives_and ?_ (gives_and ?_ (gives_and ?_ (gives_and ?_ (gives_and ?_ (gives_and ?_ (gives_and ?_ (gives_and ?_ ?_)))))))))))) <;> first | (simp [execClockRecoveryLock]; done)

@[simp] theorem execClockRecoveryLock_keeps_tsu (port : Nat) (s : State) :
    gives (execClockRecoveryLock .tsu port s) fun t => t.phi = s.phi := by simp [execClockRecoveryLock]

@[simp] theorem execClockRecoveryLock_keeps_phi (port : Nat) (s : State) :
    gives (execClockRecoveryLock .phi port s) fun t => t.tsu = s.tsu := by simp [execClockRecoveryLock]

@[simp] theorem execBlockLockAcquired_keeps (p : Part) (port : Nat) (s : State) :
    gives (execBlockLockAcquired p port s) fun t => t.pending = s.pending ∧ t.cyc = s.cyc ∧ t.freeNext = s.freeNext
    ∧ t.out = s.out ∧ t.mdl = s.mdl ∧ t.meter = s.meter ∧ t.die = s.die ∧ t.hub = s.hub ∧ t.tsu.time = s.tsu.time
    ∧ t.tsu.rings = s.tsu.rings ∧ t.tsu.cfg = s.tsu.cfg ∧ t.phi.time = s.phi.time ∧ t.phi.rings = s.phi.rings
    ∧ t.phi.cfg = s.phi.cfg := by
  refine gives_and ?_ (gives_and ?_ (gives_and ?_ (gives_and ?_ (gives_and ?_ (gives_and ?_ (gives_and ?_ (gives_and ?_ (gives_and ?_ (gives_and ?_ (gives_and ?_ (gives_and ?_ (gives_and ?_ ?_)))))))))))) <;> first | (simp [execBlockLockAcquired]; done)

@[simp] theorem execBlockLockAcquired_keeps_tsu (port : Nat) (s : State) :
    gives (execBlockLockAcquired .tsu port s) fun t => t.phi = s.phi := by simp [execBlockLockAcquired]

@[simp] theorem execBlockLockAcquired_keeps_phi (port : Nat) (s : State) :
    gives (execBlockLockAcquired .phi port s) fun t => t.tsu = s.tsu := by simp [execBlockLockAcquired]

@[simp] theorem execLinkIdentSend_keeps (p : Part) (port : Nat) (s : State) :
    gives (execLinkIdentSend p port s) fun t => t.pending = s.pending ∧ t.cyc = s.cyc ∧ t.freeNext = s.freeNext
    ∧ t.mdl = s.mdl ∧ t.meter = s.meter ∧ t.die = s.die ∧ t.hub = s.hub ∧ t.tsu.time = s.tsu.time
    ∧ t.tsu.rings = s.tsu.rings ∧ t.tsu.cfg = s.tsu.cfg ∧ t.phi.time = s.phi.time ∧ t.phi.rings = s.phi.rings
    ∧ t.phi.cfg = s.phi.cfg := by
  refine gives_and ?_ (gives_and ?_ (gives_and ?_ (gives_and ?_ (gives_and ?_ (gives_and ?_ (gives_and ?_ (gives_and ?_ (gives_and ?_ (gives_and ?_ (gives_and ?_ (gives_and ?_ ?_))))))))))) <;> first | (simp [execLinkIdentSend]; done)

@[simp] theorem execLinkIdentSend_keeps_tsu (port : Nat) (s : State) :
    gives (execLinkIdentSend .tsu port s) fun t => t.phi = s.phi := by simp [execLinkIdentSend]

@[simp] theorem execLinkIdentSend_keeps_phi (port : Nat) (s : State) :
    gives (execLinkIdentSend .phi port s) fun t => t.tsu = s.tsu := by simp [execLinkIdentSend]

@[simp] theorem State.tailTake_keeps (s : State) (p : Part) (tail : Nat) (port : Nat) (f : IdentPl) :
    (State.tailTake s p tail port f).pending = s.pending ∧ (State.tailTake s p tail port f).cyc = s.cyc
    ∧ (State.tailTake s p tail port f).freeNext = s.freeNext ∧ (State.tailTake s p tail port f).out = s.out
    ∧ (State.tailTake s p tail port f).mdl = s.mdl ∧ (State.tailTake s p tail port f).meter = s.meter
    ∧ (State.tailTake s p tail port f).die = s.die ∧ (State.tailTake s p tail port f).hub = s.hub
    ∧ (State.tailTake s p tail port f).tsu.time = s.tsu.time
    ∧ (State.tailTake s p tail port f).tsu.rings = s.tsu.rings
    ∧ (State.tailTake s p tail port f).tsu.cfg = s.tsu.cfg ∧ (State.tailTake s p tail port f).phi.time = s.phi.time
    ∧ (State.tailTake s p tail port f).phi.rings = s.phi.rings
    ∧ (State.tailTake s p tail port f).phi.cfg = s.phi.cfg := by
  refine ⟨?_, ?_, ?_, ?_, ?_, ?_, ?_, ?_, ?_, ?_, ?_, ?_, ?_, ?_⟩ <;> first | (simp [State.tailTake]; done)

@[simp] theorem State.tailTake_keeps_tsu (s : State) (tail : Nat) (port : Nat) (f : IdentPl) :
    (State.tailTake s .tsu tail port f).phi = s.phi := by simp [State.tailTake]

@[simp] theorem State.tailTake_keeps_phi (s : State) (tail : Nat) (port : Nat) (f : IdentPl) :
    (State.tailTake s .phi tail port f).tsu = s.tsu := by simp [State.tailTake]

@[simp] theorem execLinkIdentReceive_keeps (p : Part) (tail : Nat) (e : Env) (f : IdentPl) (s : State) :
    gives (execLinkIdentReceive p tail e f s) fun t => t.pending = s.pending ∧ t.cyc = s.cyc ∧ t.mdl = s.mdl
    ∧ t.meter = s.meter ∧ t.die = s.die ∧ t.tsu.cfg = s.tsu.cfg ∧ t.phi.time.acc = s.phi.time.acc
    ∧ t.phi.cfg = s.phi.cfg ∧ t.hub.storage = s.hub.storage ∧ t.hub.fw.state = s.hub.fw.state
    ∧ t.hub.pairs = s.hub.pairs ∧ t.hub.seqs = s.hub.seqs := by
  simp only [execLinkIdentReceive] <;> (repeat' split) <;> first | (simp; done) | (simp [*]; done) | (refine gives_and ?_ (gives_and ?_ (gives_and ?_ (gives_and ?_ (gives_and ?_ (gives_and ?_ (gives_and ?_ (gives_and ?_ (gives_and ?_ (gives_and ?_ (gives_and ?_ ?_)))))))))) <;> first | rfl | (simp; done) | (simp [*]; done))

@[simp] theorem execLinkIdentReceive_keeps_phi (tail : Nat) (e : Env) (f : IdentPl) (s : State) :
    gives (execLinkIdentReceive .phi tail e f s) fun t => t.tsu = s.tsu := by simp only [execLinkIdentReceive] <;> (repeat' split) <;> first | rfl | (simp; done) | (simp [*]; done)

@[simp] theorem execLinkTrainTimeout_keeps (p : Part) (port : Nat) (s : State) :
    gives (execLinkTrainTimeout p port s) fun t => t.pending = s.pending ∧ t.cyc = s.cyc ∧ t.mdl = s.mdl
    ∧ t.meter = s.meter ∧ t.die = s.die ∧ t.tsu.cfg = s.tsu.cfg ∧ t.phi.time.acc = s.phi.time.acc
    ∧ t.phi.cfg = s.phi.cfg ∧ t.hub.storage = s.hub.storage ∧ t.hub.fw.state = s.hub.fw.state
    ∧ t.hub.pairs = s.hub.pairs ∧ t.hub.seqs = s.hub.seqs := by
  simp only [execLinkTrainTimeout] <;> (repeat' split) <;> first | (simp; done) | (simp [*]; done) | (refine gives_and ?_ (gives_and ?_ (gives_and ?_ (gives_and ?_ (gives_and ?_ (gives_and ?_ (gives_and ?_ (gives_and ?_ (gives_and ?_ (gives_and ?_ (gives_and ?_ ?_)))))))))) <;> first | rfl | (simp; done) | (simp [*]; done))

@[simp] theorem execLinkTrainTimeout_keeps_phi (port : Nat) (s : State) :
    gives (execLinkTrainTimeout .phi port s) fun t => t.tsu = s.tsu := by simp only [execLinkTrainTimeout] <;> (repeat' split) <;> first | rfl | (simp; done) | (simp [*]; done)

@[simp] theorem execLinkRetryTimer_keeps (p : Part) (port : Nat) (s : State) :
    gives (execLinkRetryTimer p port s) fun t => t.pending = s.pending ∧ t.cyc = s.cyc ∧ t.freeNext = s.freeNext
    ∧ t.out = s.out ∧ t.mdl = s.mdl ∧ t.meter = s.meter ∧ t.die = s.die ∧ t.hub = s.hub ∧ t.tsu.time = s.tsu.time
    ∧ t.tsu.rings = s.tsu.rings ∧ t.tsu.cfg = s.tsu.cfg ∧ t.phi.time = s.phi.time ∧ t.phi.rings = s.phi.rings
    ∧ t.phi.cfg = s.phi.cfg := by
  refine gives_and ?_ (gives_and ?_ (gives_and ?_ (gives_and ?_ (gives_and ?_ (gives_and ?_ (gives_and ?_ (gives_and ?_ (gives_and ?_ (gives_and ?_ (gives_and ?_ (gives_and ?_ (gives_and ?_ ?_)))))))))))) <;> first | (simp [execLinkRetryTimer]; done)

@[simp] theorem execLinkRetryTimer_keeps_tsu (port : Nat) (s : State) :
    gives (execLinkRetryTimer .tsu port s) fun t => t.phi = s.phi := by simp [execLinkRetryTimer]

@[simp] theorem execLinkRetryTimer_keeps_phi (port : Nat) (s : State) :
    gives (execLinkRetryTimer .phi port s) fun t => t.tsu = s.tsu := by simp [execLinkRetryTimer]

@[simp] theorem execBlockLockLost_keeps (p : Part) (port : Nat) (s : State) :
    gives (execBlockLockLost p port s) fun t => t.pending = s.pending ∧ t.cyc = s.cyc ∧ t.mdl = s.mdl
    ∧ t.meter = s.meter ∧ t.die = s.die ∧ t.tsu.cfg = s.tsu.cfg ∧ t.phi.time.acc = s.phi.time.acc
    ∧ t.phi.cfg = s.phi.cfg ∧ t.hub.storage = s.hub.storage ∧ t.hub.fw.state = s.hub.fw.state
    ∧ t.hub.pairs = s.hub.pairs ∧ t.hub.seqs = s.hub.seqs := by
  refine gives_and ?_ (gives_and ?_ (gives_and ?_ (gives_and ?_ (gives_and ?_ (gives_and ?_ (gives_and ?_ (gives_and ?_ (gives_and ?_ (gives_and ?_ (gives_and ?_ ?_)))))))))) <;> first | (simp [execBlockLockLost]; done)

@[simp] theorem execBlockLockLost_keeps_phi (port : Nat) (s : State) :
    gives (execBlockLockLost .phi port s) fun t => t.tsu = s.tsu := by simp [execBlockLockLost]

@[simp] theorem State.corruptFrame_keeps_phi (s : State) (port : Nat) (bytes : List Byte) :
    (State.corruptFrame s .phi port bytes).tsu = s.tsu ∧ (State.corruptFrame s .phi port bytes).die = s.die := by
  refine ⟨?_, ?_⟩ <;> first | (simp [State.corruptFrame]; done)

@[simp] theorem State.badMarker_keeps (s : State) (p : Part) (port : Nat) (block : Option (List Byte)) :
    (State.badMarker s p port block).pending = s.pending ∧ (State.badMarker s p port block).cyc = s.cyc
    ∧ (State.badMarker s p port block).freeNext = s.freeNext ∧ (State.badMarker s p port block).out = s.out
    ∧ (State.badMarker s p port block).mdl = s.mdl ∧ (State.badMarker s p port block).meter = s.meter
    ∧ (State.badMarker s p port block).die = s.die ∧ (State.badMarker s p port block).hub = s.hub
    ∧ (State.badMarker s p port block).tsu.time = s.tsu.time
    ∧ (State.badMarker s p port block).tsu.rings = s.tsu.rings
    ∧ (State.badMarker s p port block).tsu.cfg = s.tsu.cfg ∧ (State.badMarker s p port block).phi.time = s.phi.time
    ∧ (State.badMarker s p port block).phi.rings = s.phi.rings
    ∧ (State.badMarker s p port block).phi.cfg = s.phi.cfg := by
  simp only [State.badMarker] <;> (repeat' split) <;> first | (simp; done) | (simp [*]; done) | (refine ⟨?_, ?_, ?_, ?_, ?_, ?_, ?_, ?_, ?_, ?_, ?_, ?_, ?_, ?_⟩ <;> first | rfl | (simp; done) | (simp [*]; done))

@[simp] theorem State.badMarker_keeps_tsu (s : State) (port : Nat) (block : Option (List Byte)) :
    (State.badMarker s .tsu port block).phi = s.phi := by simp only [State.badMarker] <;> (repeat' split) <;> first | rfl | (simp; done) | (simp [*]; done)

@[simp] theorem State.badMarker_keeps_phi (s : State) (port : Nat) (block : Option (List Byte)) :
    (State.badMarker s .phi port block).tsu = s.tsu := by simp only [State.badMarker] <;> (repeat' split) <;> first | rfl | (simp; done) | (simp [*]; done)

@[simp] theorem execFrameReceiveError_keeps_phi (port : Nat) (rx : RxBlocks) (s : State) :
    gives (execFrameReceiveError .phi port rx s) fun t => t.tsu = s.tsu ∧ t.die = s.die := by
  simp only [execFrameReceiveError] <;> (repeat' split) <;> first | (simp; done) | (simp [*]; done) | (refine gives_and ?_ ?_ <;> first | rfl | (simp; done) | (simp [*]; done))

@[simp] theorem execLinkCtrlAck_keeps (p : Part) (port : Nat) (e : Env) (s : State) :
    gives (execLinkCtrlAck p port e s) fun t => t.pending = s.pending ∧ t.cyc = s.cyc ∧ t.freeNext = s.freeNext
    ∧ t.out = s.out ∧ t.mdl = s.mdl ∧ t.meter = s.meter ∧ t.die = s.die ∧ t.hub = s.hub ∧ t.tsu.time = s.tsu.time
    ∧ t.tsu.rings = s.tsu.rings ∧ t.tsu.cfg = s.tsu.cfg ∧ t.phi.time = s.phi.time ∧ t.phi.rings = s.phi.rings
    ∧ t.phi.cfg = s.phi.cfg := by
  refine gives_and ?_ (gives_and ?_ (gives_and ?_ (gives_and ?_ (gives_and ?_ (gives_and ?_ (gives_and ?_ (gives_and ?_ (gives_and ?_ (gives_and ?_ (gives_and ?_ (gives_and ?_ (gives_and ?_ ?_)))))))))))) <;> first | (simp [execLinkCtrlAck, State.onPlain]; done)

@[simp] theorem execLinkCtrlAck_keeps_tsu (port : Nat) (e : Env) (s : State) :
    gives (execLinkCtrlAck .tsu port e s) fun t => t.phi = s.phi := by simp [execLinkCtrlAck, State.onPlain]

@[simp] theorem execLinkCtrlAck_keeps_phi (port : Nat) (e : Env) (s : State) :
    gives (execLinkCtrlAck .phi port e s) fun t => t.tsu = s.tsu := by simp [execLinkCtrlAck, State.onPlain]

@[simp] theorem execLinkCtrlNak_keeps (p : Part) (port : Nat) (e : Env) (arg : Byte) (s : State) :
    gives (execLinkCtrlNak p port e arg s) fun t => t.pending = s.pending ∧ t.cyc = s.cyc ∧ t.mdl = s.mdl
    ∧ t.meter = s.meter ∧ t.die = s.die ∧ t.tsu.cfg = s.tsu.cfg ∧ t.phi.time.acc = s.phi.time.acc
    ∧ t.phi.cfg = s.phi.cfg ∧ t.hub.storage = s.hub.storage ∧ t.hub.fw.state = s.hub.fw.state
    ∧ t.hub.pairs = s.hub.pairs ∧ t.hub.seqs = s.hub.seqs := by
  refine gives_and ?_ (gives_and ?_ (gives_and ?_ (gives_and ?_ (gives_and ?_ (gives_and ?_ (gives_and ?_ (gives_and ?_ (gives_and ?_ (gives_and ?_ (gives_and ?_ ?_)))))))))) <;> first | (simp [execLinkCtrlNak, State.onPlain]; done)

@[simp] theorem execLinkCtrlNak_keeps_phi (port : Nat) (e : Env) (arg : Byte) (s : State) :
    gives (execLinkCtrlNak .phi port e arg s) fun t => t.tsu = s.tsu := by simp [execLinkCtrlNak, State.onPlain]

@[simp] theorem execLinkAckTimer_keeps (p : Part) (port : Nat) (s : State) :
    gives (execLinkAckTimer p port s) fun t => t.pending = s.pending ∧ t.cyc = s.cyc ∧ t.freeNext = s.freeNext
    ∧ t.mdl = s.mdl ∧ t.meter = s.meter ∧ t.die = s.die ∧ t.hub = s.hub ∧ t.tsu.time = s.tsu.time
    ∧ t.tsu.rings = s.tsu.rings ∧ t.tsu.cfg = s.tsu.cfg ∧ t.phi.time = s.phi.time ∧ t.phi.rings = s.phi.rings
    ∧ t.phi.cfg = s.phi.cfg := by
  simp only [execLinkAckTimer] <;> (repeat' split) <;> first | (simp; done) | (simp [*]; done) | (refine gives_and ?_ (gives_and ?_ (gives_and ?_ (gives_and ?_ (gives_and ?_ (gives_and ?_ (gives_and ?_ (gives_and ?_ (gives_and ?_ (gives_and ?_ (gives_and ?_ (gives_and ?_ ?_))))))))))) <;> first | rfl | (simp; done) | (simp [*]; done))

@[simp] theorem execLinkAckTimer_keeps_tsu (port : Nat) (s : State) :
    gives (execLinkAckTimer .tsu port s) fun t => t.phi = s.phi := by simp only [execLinkAckTimer] <;> (repeat' split) <;> first | rfl | (simp; done) | (simp [*]; done)

@[simp] theorem execLinkAckTimer_keeps_phi (port : Nat) (s : State) :
    gives (execLinkAckTimer .phi port s) fun t => t.tsu = s.tsu := by simp only [execLinkAckTimer] <;> (repeat' split) <;> first | rfl | (simp; done) | (simp [*]; done)

@[simp] theorem execRetxTimeout_keeps (p : Part) (port : Nat) (s : State) :
    gives (execRetxTimeout p port s) fun t => t.pending = s.pending ∧ t.cyc = s.cyc ∧ t.mdl = s.mdl ∧ t.meter = s.meter
    ∧ t.die = s.die ∧ t.tsu.cfg = s.tsu.cfg ∧ t.phi.time.acc = s.phi.time.acc ∧ t.phi.cfg = s.phi.cfg
    ∧ t.hub.storage = s.hub.storage ∧ t.hub.fw.state = s.hub.fw.state ∧ t.hub.pairs = s.hub.pairs
    ∧ t.hub.seqs = s.hub.seqs := by
  simp only [execRetxTimeout] <;> (repeat' split) <;> first | (simp; done) | (simp [*]; done) | (refine gives_and ?_ (gives_and ?_ (gives_and ?_ (gives_and ?_ (gives_and ?_ (gives_and ?_ (gives_and ?_ (gives_and ?_ (gives_and ?_ (gives_and ?_ (gives_and ?_ ?_)))))))))) <;> first | rfl | (simp; done) | (simp [*]; done))

@[simp] theorem execRetxTimeout_keeps_phi (port : Nat) (s : State) :
    gives (execRetxTimeout .phi port s) fun t => t.tsu = s.tsu := by simp only [execRetxTimeout] <;> (repeat' split) <;> first | rfl | (simp; done) | (simp [*]; done)

@[simp] theorem execLaneTransmit_keeps (p : Part) (port : Nat) (s : State) :
    gives (execLaneTransmit p port s) fun t => t.pending = s.pending ∧ t.cyc = s.cyc ∧ t.freeNext = s.freeNext
    ∧ t.mdl = s.mdl ∧ t.meter = s.meter ∧ t.hub = s.hub ∧ t.tsu.time = s.tsu.time ∧ t.tsu.rings = s.tsu.rings
    ∧ t.tsu.cfg = s.tsu.cfg ∧ t.phi.time = s.phi.time ∧ t.phi.rings = s.phi.rings ∧ t.phi.cfg = s.phi.cfg
    ∧ t.die.sync = s.die.sync ∧ t.die.launches = s.die.launches ∧ t.die.dig = s.die.dig ∧ t.die.binds = s.die.binds
    ∧ t.die.coreEn = s.die.coreEn := by
  simp only [execLaneTransmit] <;> (repeat' split) <;> first | (simp; done) | (simp [*]; done) | (refine gives_and ?_ (gives_and ?_ (gives_and ?_ (gives_and ?_ (gives_and ?_ (gives_and ?_ (gives_and ?_ (gives_and ?_ (gives_and ?_ (gives_and ?_ (gives_and ?_ (gives_and ?_ (gives_and ?_ (gives_and ?_ (gives_and ?_ (gives_and ?_ ?_))))))))))))))) <;> first | rfl | (simp; done) | (simp [*]; done))

@[simp] theorem execLaneTransmit_keeps_tsu (port : Nat) (s : State) :
    gives (execLaneTransmit .tsu port s) fun t => t.phi = s.phi := by simp only [execLaneTransmit] <;> (repeat' split) <;> first | rfl | (simp; done) | (simp [*]; done)

@[simp] theorem execLaneTransmit_keeps_phi (port : Nat) (s : State) :
    gives (execLaneTransmit .phi port s) fun t => t.tsu = s.tsu := by simp only [execLaneTransmit] <;> (repeat' split) <;> first | rfl | (simp; done) | (simp [*]; done)

@[simp] theorem execLinkCtrlRetrain_keeps (p : Part) (port : Nat) (e : Env) (s : State) :
    gives (execLinkCtrlRetrain p port e s) fun t => t.pending = s.pending ∧ t.cyc = s.cyc ∧ t.freeNext = s.freeNext
    ∧ t.out = s.out ∧ t.mdl = s.mdl ∧ t.meter = s.meter ∧ t.die = s.die ∧ t.hub = s.hub ∧ t.tsu.time = s.tsu.time
    ∧ t.tsu.rings = s.tsu.rings ∧ t.tsu.cfg = s.tsu.cfg ∧ t.phi.time = s.phi.time ∧ t.phi.rings = s.phi.rings
    ∧ t.phi.cfg = s.phi.cfg := by
  refine gives_and ?_ (gives_and ?_ (gives_and ?_ (gives_and ?_ (gives_and ?_ (gives_and ?_ (gives_and ?_ (gives_and ?_ (gives_and ?_ (gives_and ?_ (gives_and ?_ (gives_and ?_ (gives_and ?_ ?_)))))))))))) <;> first | (simp [execLinkCtrlRetrain, State.onPlain]; done)

@[simp] theorem execLinkCtrlRetrain_keeps_tsu (port : Nat) (e : Env) (s : State) :
    gives (execLinkCtrlRetrain .tsu port e s) fun t => t.phi = s.phi := by simp [execLinkCtrlRetrain, State.onPlain]

@[simp] theorem execLinkCtrlRetrain_keeps_phi (port : Nat) (e : Env) (s : State) :
    gives (execLinkCtrlRetrain .phi port e s) fun t => t.tsu = s.tsu := by simp [execLinkCtrlRetrain, State.onPlain]

@[simp] theorem execBlockLockAfterTurn_keeps (p : Part) (port : Nat) (s : State) :
    gives (execBlockLockAfterTurn p port s) fun t => t.pending = s.pending ∧ t.cyc = s.cyc ∧ t.freeNext = s.freeNext
    ∧ t.out = s.out ∧ t.mdl = s.mdl ∧ t.meter = s.meter ∧ t.die = s.die ∧ t.hub = s.hub ∧ t.tsu.time = s.tsu.time
    ∧ t.tsu.rings = s.tsu.rings ∧ t.tsu.cfg = s.tsu.cfg ∧ t.phi.time = s.phi.time ∧ t.phi.rings = s.phi.rings
    ∧ t.phi.cfg = s.phi.cfg := by
  refine gives_and ?_ (gives_and ?_ (gives_and ?_ (gives_and ?_ (gives_and ?_ (gives_and ?_ (gives_and ?_ (gives_and ?_ (gives_and ?_ (gives_and ?_ (gives_and ?_ (gives_and ?_ (gives_and ?_ ?_)))))))))))) <;> first | (simp [execBlockLockAfterTurn]; done)

@[simp] theorem execBlockLockAfterTurn_keeps_tsu (port : Nat) (s : State) :
    gives (execBlockLockAfterTurn .tsu port s) fun t => t.phi = s.phi := by simp [execBlockLockAfterTurn]

@[simp] theorem execBlockLockAfterTurn_keeps_phi (port : Nat) (s : State) :
    gives (execBlockLockAfterTurn .phi port s) fun t => t.tsu = s.tsu := by simp [execBlockLockAfterTurn]

end Sys2Proof.Machine
end

