-- ==== Sys2Proof/Laws/Time.lean ====
section
/-!
SUPPORT. What the operations and meanings of Machine/Time.lean leave unchanged.
-/

namespace Sys2Proof.Machine

@[simp] theorem State.tsuPowerOn_keeps (s : State) :
    (State.tsuPowerOn s).pending = s.pending ∧ (State.tsuPowerOn s).cyc = s.cyc
    ∧ (State.tsuPowerOn s).freeNext = s.freeNext ∧ (State.tsuPowerOn s).mdl = s.mdl
    ∧ (State.tsuPowerOn s).hub = s.hub ∧ (State.tsuPowerOn s).phi = s.phi
    ∧ (State.tsuPowerOn s).tsu.cfg.lcState = s.tsu.cfg.lcState
    ∧ (State.tsuPowerOn s).tsu.cfg.lcRows = s.tsu.cfg.lcRows := by
  refine ⟨?_, ?_, ?_, ?_, ?_, ?_, ?_, ?_⟩ <;> first | (simp [State.tsuPowerOn]; done)

@[simp] theorem execAonPowerOn_keeps (s : State) :
    gives (execAonPowerOn s) fun t => t.pending = s.pending ∧ t.cyc = s.cyc ∧ t.freeNext = s.freeNext ∧ t.mdl = s.mdl
    ∧ t.hub = s.hub ∧ t.phi = s.phi ∧ t.tsu.cfg.lcState = s.tsu.cfg.lcState ∧ t.tsu.cfg.lcRows = s.tsu.cfg.lcRows := by
  refine gives_and ?_ (gives_and ?_ (gives_and ?_ (gives_and ?_ (gives_and ?_ (gives_and ?_ (gives_and ?_ ?_)))))) <;> first | (simp [execAonPowerOn]; done)

@[simp] theorem execRefClockLost_keeps (p : Part) (s : State) :
    gives (execRefClockLost p s) fun t => t.pending = s.pending ∧ t.cyc = s.cyc ∧ t.freeNext = s.freeNext
    ∧ t.mdl = s.mdl ∧ t.meter = s.meter ∧ t.die = s.die ∧ t.tsu.time.acc = s.tsu.time.acc
    ∧ t.tsu.rings = s.tsu.rings ∧ t.tsu.cfg = s.tsu.cfg ∧ t.phi.time.acc = s.phi.time.acc
    ∧ t.phi.rings = s.phi.rings ∧ t.phi.cfg = s.phi.cfg ∧ t.hub.storage = s.hub.storage
    ∧ t.hub.fw.state = s.hub.fw.state ∧ t.hub.pairs = s.hub.pairs ∧ t.hub.led = s.hub.led ∧ t.hub.seqs = s.hub.seqs := by
  refine gives_and ?_ (gives_and ?_ (gives_and ?_ (gives_and ?_ (gives_and ?_ (gives_and ?_ (gives_and ?_ (gives_and ?_ (gives_and ?_ (gives_and ?_ (gives_and ?_ (gives_and ?_ (gives_and ?_ (gives_and ?_ (gives_and ?_ (gives_and ?_ ?_))))))))))))))) <;> first | (simp [execRefClockLost]; done)

@[simp] theorem execRefClockLost_keeps_tsu (s : State) :
    gives (execRefClockLost .tsu s) fun t => t.phi = s.phi ∧ t.hub = s.hub := by
  refine gives_and ?_ ?_ <;> first | (simp [execRefClockLost]; done)

@[simp] theorem execRefClockLost_keeps_phi (s : State) :
    gives (execRefClockLost .phi s) fun t => t.tsu = s.tsu := by simp [execRefClockLost]

@[simp] theorem execHtParity_keeps (p : Part) (s : State) :
    gives (execHtParity p s) fun t => t.pending = s.pending ∧ t.cyc = s.cyc ∧ t.freeNext = s.freeNext ∧ t.mdl = s.mdl
    ∧ t.meter = s.meter ∧ t.die = s.die ∧ t.tsu.time.acc = s.tsu.time.acc ∧ t.tsu.rings = s.tsu.rings
    ∧ t.tsu.cfg = s.tsu.cfg ∧ t.phi.time.acc = s.phi.time.acc ∧ t.phi.rings = s.phi.rings ∧ t.phi.cfg = s.phi.cfg
    ∧ t.hub.storage = s.hub.storage ∧ t.hub.fw.state = s.hub.fw.state ∧ t.hub.pairs = s.hub.pairs
    ∧ t.hub.led = s.hub.led ∧ t.hub.seqs = s.hub.seqs := by
  refine gives_and ?_ (gives_and ?_ (gives_and ?_ (gives_and ?_ (gives_and ?_ (gives_and ?_ (gives_and ?_ (gives_and ?_ (gives_and ?_ (gives_and ?_ (gives_and ?_ (gives_and ?_ (gives_and ?_ (gives_and ?_ (gives_and ?_ (gives_and ?_ ?_))))))))))))))) <;> first | (simp [execHtParity]; done)

@[simp] theorem execHtParity_keeps_tsu (s : State) :
    gives (execHtParity .tsu s) fun t => t.phi = s.phi ∧ t.hub = s.hub := by
  refine gives_and ?_ ?_ <;> first | (simp [execHtParity]; done)

@[simp] theorem execHtParity_keeps_phi (s : State) :
    gives (execHtParity .phi s) fun t => t.tsu = s.tsu := by simp [execHtParity]

@[simp] theorem execHoldoverWindowExpiry_keeps (p : Part) (s : State) :
    gives (execHoldoverWindowExpiry p s) fun t => t.pending = s.pending ∧ t.cyc = s.cyc ∧ t.freeNext = s.freeNext
    ∧ t.out = s.out ∧ t.mdl = s.mdl ∧ t.meter = s.meter ∧ t.die = s.die ∧ t.hub = s.hub
    ∧ t.tsu.time.acc = s.tsu.time.acc ∧ t.tsu.rings = s.tsu.rings ∧ t.tsu.cfg = s.tsu.cfg
    ∧ t.phi.time.acc = s.phi.time.acc ∧ t.phi.rings = s.phi.rings ∧ t.phi.cfg = s.phi.cfg := by
  refine gives_and ?_ (gives_and ?_ (gives_and ?_ (gives_and ?_ (gives_and ?_ (gives_and ?_ (gives_and ?_ (gives_and ?_ (gives_and ?_ (gives_and ?_ (gives_and ?_ (gives_and ?_ (gives_and ?_ ?_)))))))))))) <;> first | (simp [execHoldoverWindowExpiry]; done)

@[simp] theorem execHoldoverWindowExpiry_keeps_tsu (s : State) :
    gives (execHoldoverWindowExpiry .tsu s) fun t => t.phi = s.phi := by simp [execHoldoverWindowExpiry]

@[simp] theorem execHoldoverWindowExpiry_keeps_phi (s : State) :
    gives (execHoldoverWindowExpiry .phi s) fun t => t.tsu = s.tsu := by simp [execHoldoverWindowExpiry]

@[simp] theorem execHtHoldEnd_keeps (p : Part) (s : State) :
    gives (execHtHoldEnd p s) fun t => t.pending = s.pending ∧ t.cyc = s.cyc ∧ t.freeNext = s.freeNext ∧ t.out = s.out
    ∧ t.mdl = s.mdl ∧ t.meter = s.meter ∧ t.die = s.die ∧ t.hub = s.hub ∧ t.tsu.time.acc = s.tsu.time.acc
    ∧ t.tsu.time.state = s.tsu.time.state ∧ t.tsu.rings = s.tsu.rings ∧ t.tsu.cfg = s.tsu.cfg
    ∧ t.phi.time.acc = s.phi.time.acc ∧ t.phi.time.state = s.phi.time.state ∧ t.phi.rings = s.phi.rings
    ∧ t.phi.cfg = s.phi.cfg := by
  refine gives_and ?_ (gives_and ?_ (gives_and ?_ (gives_and ?_ (gives_and ?_ (gives_and ?_ (gives_and ?_ (gives_and ?_ (gives_and ?_ (gives_and ?_ (gives_and ?_ (gives_and ?_ (gives_and ?_ (gives_and ?_ (gives_and ?_ ?_)))))))))))))) <;> first | (simp [execHtHoldEnd]; done)

@[simp] theorem execHtHoldEnd_keeps_tsu (s : State) :
    gives (execHtHoldEnd .tsu s) fun t => t.phi = s.phi := by simp [execHtHoldEnd]

@[simp] theorem execHtHoldEnd_keeps_phi (s : State) :
    gives (execHtHoldEnd .phi s) fun t => t.tsu = s.tsu := by simp [execHtHoldEnd]

@[simp] theorem execSlewComplete_keeps (p : Part) (s : State) :
    gives (execSlewComplete p s) fun t => t.pending = s.pending ∧ t.cyc = s.cyc ∧ t.freeNext = s.freeNext
    ∧ t.out = s.out ∧ t.mdl = s.mdl ∧ t.meter = s.meter ∧ t.die = s.die ∧ t.hub = s.hub
    ∧ t.tsu.time.acc = s.tsu.time.acc ∧ t.tsu.time.state = s.tsu.time.state ∧ t.tsu.rings = s.tsu.rings
    ∧ t.tsu.cfg = s.tsu.cfg ∧ t.phi.time.acc = s.phi.time.acc ∧ t.phi.time.state = s.phi.time.state
    ∧ t.phi.rings = s.phi.rings ∧ t.phi.cfg = s.phi.cfg := by
  refine gives_and ?_ (gives_and ?_ (gives_and ?_ (gives_and ?_ (gives_and ?_ (gives_and ?_ (gives_and ?_ (gives_and ?_ (gives_and ?_ (gives_and ?_ (gives_and ?_ (gives_and ?_ (gives_and ?_ (gives_and ?_ (gives_and ?_ ?_)))))))))))))) <;> first | (simp [execSlewComplete]; done)

@[simp] theorem execSlewComplete_keeps_tsu (s : State) :
    gives (execSlewComplete .tsu s) fun t => t.phi = s.phi := by simp [execSlewComplete]

@[simp] theorem execSlewComplete_keeps_phi (s : State) :
    gives (execSlewComplete .phi s) fun t => t.tsu = s.tsu := by simp [execSlewComplete]

@[simp] theorem execPlaneRevert_keeps (s : State) :
    gives (execPlaneRevert s) fun t => t.pending = s.pending ∧ t.cyc = s.cyc ∧ t.freeNext = s.freeNext ∧ t.out = s.out
    ∧ t.mdl = s.mdl ∧ t.meter = s.meter ∧ t.die = s.die ∧ t.hub = s.hub ∧ t.tsu.rings = s.tsu.rings
    ∧ t.tsu.cfg = s.tsu.cfg ∧ t.phi.time.acc = s.phi.time.acc ∧ t.phi.rings = s.phi.rings ∧ t.phi.cfg = s.phi.cfg := by
  refine gives_and ?_ (gives_and ?_ (gives_and ?_ (gives_and ?_ (gives_and ?_ (gives_and ?_ (gives_and ?_ (gives_and ?_ (gives_and ?_ (gives_and ?_ (gives_and ?_ (gives_and ?_ ?_))))))))))) <;> first | (simp [execPlaneRevert]; done)

@[simp] theorem execBeaconLoss_keeps (p : Part) (port : Nat) (s : State) :
    gives (execBeaconLoss p port s) fun t => t.pending = s.pending ∧ t.cyc = s.cyc ∧ t.freeNext = s.freeNext
    ∧ t.mdl = s.mdl ∧ t.meter = s.meter ∧ t.die = s.die ∧ t.tsu.rings = s.tsu.rings ∧ t.tsu.cfg = s.tsu.cfg
    ∧ t.phi.time.acc = s.phi.time.acc ∧ t.phi.rings = s.phi.rings ∧ t.phi.cfg = s.phi.cfg
    ∧ t.hub.storage = s.hub.storage ∧ t.hub.fw.state = s.hub.fw.state ∧ t.hub.pairs = s.hub.pairs
    ∧ t.hub.led = s.hub.led ∧ t.hub.seqs = s.hub.seqs := by
  refine gives_and ?_ (gives_and ?_ (gives_and ?_ (gives_and ?_ (gives_and ?_ (gives_and ?_ (gives_and ?_ (gives_and ?_ (gives_and ?_ (gives_and ?_ (gives_and ?_ (gives_and ?_ (gives_and ?_ (gives_and ?_ (gives_and ?_ ?_)))))))))))))) <;> first | (simp [execBeaconLoss]; done)

@[simp] theorem execBeaconLoss_keeps_phi (port : Nat) (s : State) :
    gives (execBeaconLoss .phi port s) fun t => t.tsu = s.tsu := by simp [execBeaconLoss]

@[simp] theorem State.obtain_keeps (s : State) (corr : Int) (tr : TraceState) :
    (State.obtain s corr tr).pending = s.pending ∧ (State.obtain s corr tr).cyc = s.cyc
    ∧ (State.obtain s corr tr).freeNext = s.freeNext ∧ (State.obtain s corr tr).out = s.out
    ∧ (State.obtain s corr tr).mdl = s.mdl ∧ (State.obtain s corr tr).meter = s.meter
    ∧ (State.obtain s corr tr).die = s.die ∧ (State.obtain s corr tr).tsu = s.tsu
    ∧ (State.obtain s corr tr).phi.rings = s.phi.rings ∧ (State.obtain s corr tr).phi.cfg = s.phi.cfg
    ∧ (State.obtain s corr tr).hub.storage = s.hub.storage ∧ (State.obtain s corr tr).hub.fw.state = s.hub.fw.state
    ∧ (State.obtain s corr tr).hub.pairs = s.hub.pairs ∧ (State.obtain s corr tr).hub.led = s.hub.led
    ∧ (State.obtain s corr tr).hub.seqs = s.hub.seqs := by
  refine ⟨?_, ?_, ?_, ?_, ?_, ?_, ?_, ?_, ?_, ?_, ?_, ?_, ?_, ?_, ?_⟩ <;> first | (simp [State.obtain]; done)

@[simp] theorem State.useEpoch_keeps (s : State) (e : Epoch) :
    (State.useEpoch s e).pending = s.pending ∧ (State.useEpoch s e).cyc = s.cyc
    ∧ (State.useEpoch s e).freeNext = s.freeNext ∧ (State.useEpoch s e).out = s.out
    ∧ (State.useEpoch s e).mdl = s.mdl ∧ (State.useEpoch s e).meter = s.meter ∧ (State.useEpoch s e).die = s.die
    ∧ (State.useEpoch s e).tsu = s.tsu ∧ (State.useEpoch s e).phi.time.acc = s.phi.time.acc
    ∧ (State.useEpoch s e).phi.time.state = s.phi.time.state ∧ (State.useEpoch s e).phi.rings = s.phi.rings
    ∧ (State.useEpoch s e).phi.cfg = s.phi.cfg ∧ (State.useEpoch s e).hub.storage = s.hub.storage
    ∧ (State.useEpoch s e).hub.fw.state = s.hub.fw.state ∧ (State.useEpoch s e).hub.pairs = s.hub.pairs
    ∧ (State.useEpoch s e).hub.led = s.hub.led ∧ (State.useEpoch s e).hub.seqs = s.hub.seqs := by
  refine ⟨?_, ?_, ?_, ?_, ?_, ?_, ?_, ?_, ?_, ?_, ?_, ?_, ?_, ?_, ?_, ?_, ?_⟩ <;> first | (simp [State.useEpoch]; done)

@[simp] theorem State.takeEpoch_keeps (s : State) (e : Epoch) :
    (State.takeEpoch s e).pending = s.pending ∧ (State.takeEpoch s e).cyc = s.cyc
    ∧ (State.takeEpoch s e).freeNext = s.freeNext ∧ (State.takeEpoch s e).out = s.out
    ∧ (State.takeEpoch s e).mdl = s.mdl ∧ (State.takeEpoch s e).meter = s.meter ∧ (State.takeEpoch s e).die = s.die
    ∧ (State.takeEpoch s e).tsu = s.tsu ∧ (State.takeEpoch s e).phi.time.acc = s.phi.time.acc
    ∧ (State.takeEpoch s e).phi.time.state = s.phi.time.state ∧ (State.takeEpoch s e).phi.rings = s.phi.rings
    ∧ (State.takeEpoch s e).phi.cfg = s.phi.cfg ∧ (State.takeEpoch s e).hub.fw.state = s.hub.fw.state
    ∧ (State.takeEpoch s e).hub.pairs = s.hub.pairs ∧ (State.takeEpoch s e).hub.led = s.hub.led
    ∧ (State.takeEpoch s e).hub.seqs = s.hub.seqs := by
  refine ⟨?_, ?_, ?_, ?_, ?_, ?_, ?_, ?_, ?_, ?_, ?_, ?_, ?_, ?_, ?_, ?_⟩ <;> first | (simp [State.takeEpoch]; done)

@[simp] theorem State.judgeRef_keeps (s : State) :
    (State.judgeRef s).pending = s.pending ∧ (State.judgeRef s).cyc = s.cyc ∧ (State.judgeRef s).freeNext = s.freeNext
    ∧ (State.judgeRef s).out = s.out ∧ (State.judgeRef s).mdl = s.mdl ∧ (State.judgeRef s).meter = s.meter
    ∧ (State.judgeRef s).die = s.die ∧ (State.judgeRef s).tsu = s.tsu
    ∧ (State.judgeRef s).phi.time.acc = s.phi.time.acc ∧ (State.judgeRef s).phi.time.state = s.phi.time.state
    ∧ (State.judgeRef s).phi.rings = s.phi.rings ∧ (State.judgeRef s).phi.cfg = s.phi.cfg
    ∧ (State.judgeRef s).hub.storage = s.hub.storage ∧ (State.judgeRef s).hub.fw.state = s.hub.fw.state
    ∧ (State.judgeRef s).hub.pairs = s.hub.pairs ∧ (State.judgeRef s).hub.led = s.hub.led
    ∧ (State.judgeRef s).hub.seqs = s.hub.seqs := by
  refine ⟨?_, ?_, ?_, ?_, ?_, ?_, ?_, ?_, ?_, ?_, ?_, ?_, ?_, ?_, ?_, ?_, ?_⟩ <;> first | (simp [State.judgeRef]; done)

@[simp] theorem State.obtainSister_keeps (s : State) (f : InfoPl) :
    (State.obtainSister s f).pending = s.pending ∧ (State.obtainSister s f).cyc = s.cyc
    ∧ (State.obtainSister s f).freeNext = s.freeNext ∧ (State.obtainSister s f).out = s.out
    ∧ (State.obtainSister s f).mdl = s.mdl ∧ (State.obtainSister s f).meter = s.meter
    ∧ (State.obtainSister s f).die = s.die ∧ (State.obtainSister s f).tsu = s.tsu
    ∧ (State.obtainSister s f).phi.rings = s.phi.rings ∧ (State.obtainSister s f).phi.cfg = s.phi.cfg
    ∧ (State.obtainSister s f).hub.fw.state = s.hub.fw.state ∧ (State.obtainSister s f).hub.pairs = s.hub.pairs
    ∧ (State.obtainSister s f).hub.led = s.hub.led ∧ (State.obtainSister s f).hub.seqs = s.hub.seqs := by
  refine ⟨?_, ?_, ?_, ?_, ?_, ?_, ?_, ?_, ?_, ?_, ?_, ?_, ?_, ?_⟩ <;> first | (simp [State.obtainSister]; done)

@[simp] theorem execLighthouseObtainHt_keeps (s : State) :
    gives (execLighthouseObtainHt s) fun t => t.pending = s.pending ∧ t.cyc = s.cyc ∧ t.freeNext = s.freeNext
    ∧ t.out = s.out ∧ t.mdl = s.mdl ∧ t.meter = s.meter ∧ t.die = s.die ∧ t.tsu = s.tsu ∧ t.phi.rings = s.phi.rings
    ∧ t.phi.cfg = s.phi.cfg ∧ t.hub.fw.state = s.hub.fw.state ∧ t.hub.pairs = s.hub.pairs ∧ t.hub.led = s.hub.led
    ∧ t.hub.seqs = s.hub.seqs := by
  simp only [execLighthouseObtainHt] <;> (repeat' split) <;> first | (simp; done) | (simp [*]; done) | (refine gives_and ?_ (gives_and ?_ (gives_and ?_ (gives_and ?_ (gives_and ?_ (gives_and ?_ (gives_and ?_ (gives_and ?_ (gives_and ?_ (gives_and ?_ (gives_and ?_ (gives_and ?_ (gives_and ?_ ?_)))))))))))) <;> first | rfl | (simp; done) | (simp [*]; done))

@[simp] theorem execTraceWindowExpiry_keeps (s : State) :
    gives (execTraceWindowExpiry s) fun t => t.pending = s.pending ∧ t.cyc = s.cyc ∧ t.freeNext = s.freeNext
    ∧ t.out = s.out ∧ t.mdl = s.mdl ∧ t.meter = s.meter ∧ t.die = s.die ∧ t.hub = s.hub ∧ t.tsu = s.tsu
    ∧ t.phi.time.acc = s.phi.time.acc ∧ t.phi.time.state = s.phi.time.state ∧ t.phi.rings = s.phi.rings
    ∧ t.phi.cfg = s.phi.cfg := by
  refine gives_and ?_ (gives_and ?_ (gives_and ?_ (gives_and ?_ (gives_and ?_ (gives_and ?_ (gives_and ?_ (gives_and ?_ (gives_and ?_ (gives_and ?_ (gives_and ?_ (gives_and ?_ ?_))))))))))) <;> first | (simp [execTraceWindowExpiry]; done)

@[simp] theorem execReferenceLost_keeps (s : State) :
    gives (execReferenceLost s) fun t => t.pending = s.pending ∧ t.cyc = s.cyc ∧ t.freeNext = s.freeNext ∧ t.out = s.out
    ∧ t.mdl = s.mdl ∧ t.meter = s.meter ∧ t.die = s.die ∧ t.tsu = s.tsu ∧ t.phi.time.acc = s.phi.time.acc
    ∧ t.phi.time.state = s.phi.time.state ∧ t.phi.rings = s.phi.rings ∧ t.phi.cfg = s.phi.cfg
    ∧ t.hub.storage = s.hub.storage ∧ t.hub.fw.state = s.hub.fw.state ∧ t.hub.pairs = s.hub.pairs
    ∧ t.hub.led = s.hub.led ∧ t.hub.seqs = s.hub.seqs := by
  refine gives_and ?_ (gives_and ?_ (gives_and ?_ (gives_and ?_ (gives_and ?_ (gives_and ?_ (gives_and ?_ (gives_and ?_ (gives_and ?_ (gives_and ?_ (gives_and ?_ (gives_and ?_ (gives_and ?_ (gives_and ?_ (gives_and ?_ (gives_and ?_ ?_))))))))))))))) <;> first | (simp [execReferenceLost]; done)

@[simp] theorem execReferenceValid_keeps (s : State) :
    gives (execReferenceValid s) fun t => t.pending = s.pending ∧ t.cyc = s.cyc ∧ t.freeNext = s.freeNext
    ∧ t.out = s.out ∧ t.mdl = s.mdl ∧ t.meter = s.meter ∧ t.die = s.die ∧ t.tsu = s.tsu
    ∧ t.phi.time.acc = s.phi.time.acc ∧ t.phi.time.state = s.phi.time.state ∧ t.phi.rings = s.phi.rings
    ∧ t.phi.cfg = s.phi.cfg ∧ t.hub.storage = s.hub.storage ∧ t.hub.fw.state = s.hub.fw.state
    ∧ t.hub.pairs = s.hub.pairs ∧ t.hub.led = s.hub.led ∧ t.hub.seqs = s.hub.seqs := by
  refine gives_and ?_ (gives_and ?_ (gives_and ?_ (gives_and ?_ (gives_and ?_ (gives_and ?_ (gives_and ?_ (gives_and ?_ (gives_and ?_ (gives_and ?_ (gives_and ?_ (gives_and ?_ (gives_and ?_ (gives_and ?_ (gives_and ?_ (gives_and ?_ ?_))))))))))))))) <;> first | (simp [execReferenceValid]; done)

@[simp] theorem State.ppsDiscipline_keeps (s : State) (h : Held) :
    (State.ppsDiscipline s h).pending = s.pending ∧ (State.ppsDiscipline s h).cyc = s.cyc
    ∧ (State.ppsDiscipline s h).freeNext = s.freeNext ∧ (State.ppsDiscipline s h).out = s.out
    ∧ (State.ppsDiscipline s h).mdl = s.mdl ∧ (State.ppsDiscipline s h).meter = s.meter
    ∧ (State.ppsDiscipline s h).die = s.die ∧ (State.ppsDiscipline s h).tsu = s.tsu
    ∧ (State.ppsDiscipline s h).phi.rings = s.phi.rings ∧ (State.ppsDiscipline s h).phi.cfg = s.phi.cfg
    ∧ (State.ppsDiscipline s h).hub.storage = s.hub.storage
    ∧ (State.ppsDiscipline s h).hub.fw.state = s.hub.fw.state ∧ (State.ppsDiscipline s h).hub.pairs = s.hub.pairs
    ∧ (State.ppsDiscipline s h).hub.led = s.hub.led ∧ (State.ppsDiscipline s h).hub.seqs = s.hub.seqs := by
  refine ⟨?_, ?_, ?_, ?_, ?_, ?_, ?_, ?_, ?_, ?_, ?_, ?_, ?_, ?_, ?_⟩ <;> first | (simp [State.ppsDiscipline]; done)

@[simp] theorem execPpsEdge_keeps (chan : Nat) (core : Nat) (c : Nat) (n : Nat) (s : State) :
    gives (execPpsEdge chan core c n s) fun t => t.pending = s.pending ∧ t.cyc = s.cyc ∧ t.freeNext = s.freeNext
    ∧ t.out = s.out ∧ t.mdl = s.mdl ∧ t.meter = s.meter ∧ t.die = s.die ∧ t.tsu = s.tsu ∧ t.phi.rings = s.phi.rings
    ∧ t.phi.cfg = s.phi.cfg ∧ t.hub.storage = s.hub.storage ∧ t.hub.fw.state = s.hub.fw.state
    ∧ t.hub.pairs = s.hub.pairs ∧ t.hub.led = s.hub.led ∧ t.hub.seqs = s.hub.seqs := by
  refine gives_and ?_ (gives_and ?_ (gives_and ?_ (gives_and ?_ (gives_and ?_ (gives_and ?_ (gives_and ?_ (gives_and ?_ (gives_and ?_ (gives_and ?_ (gives_and ?_ (gives_and ?_ (gives_and ?_ (gives_and ?_ ?_))))))))))))) <;> first | (simp [execPpsEdge]; done)

@[simp] theorem State.endEdge_keeps (s : State) :
    (State.endEdge s).pending = s.pending ∧ (State.endEdge s).cyc = s.cyc ∧ (State.endEdge s).freeNext = s.freeNext
    ∧ (State.endEdge s).out = s.out ∧ (State.endEdge s).mdl = s.mdl ∧ (State.endEdge s).meter = s.meter
    ∧ (State.endEdge s).die = s.die ∧ (State.endEdge s).tsu = s.tsu ∧ (State.endEdge s).phi.rings = s.phi.rings
    ∧ (State.endEdge s).phi.cfg = s.phi.cfg ∧ (State.endEdge s).hub.storage = s.hub.storage
    ∧ (State.endEdge s).hub.fw.state = s.hub.fw.state ∧ (State.endEdge s).hub.pairs = s.hub.pairs
    ∧ (State.endEdge s).hub.led = s.hub.led ∧ (State.endEdge s).hub.seqs = s.hub.seqs := by
  simp only [State.endEdge] <;> (repeat' split) <;> first | (simp; done) | (simp [*]; done) | (refine ⟨?_, ?_, ?_, ?_, ?_, ?_, ?_, ?_, ?_, ?_, ?_, ?_, ?_, ?_, ?_⟩ <;> first | rfl | (simp; done) | (simp [*]; done))

@[simp] theorem execPpsOffsetSend_keeps (s : State) :
    gives (execPpsOffsetSend s) fun t => t.pending = s.pending ∧ t.cyc = s.cyc ∧ t.freeNext = s.freeNext ∧ t.out = s.out
    ∧ t.mdl = s.mdl ∧ t.meter = s.meter ∧ t.die = s.die ∧ t.tsu = s.tsu ∧ t.phi.time = s.phi.time
    ∧ t.phi.rings = s.phi.rings ∧ t.phi.cfg = s.phi.cfg ∧ t.hub.storage = s.hub.storage
    ∧ t.hub.fw.state = s.hub.fw.state ∧ t.hub.pairs = s.hub.pairs ∧ t.hub.led = s.hub.led ∧ t.hub.seqs = s.hub.seqs := by
  refine gives_and ?_ (gives_and ?_ (gives_and ?_ (gives_and ?_ (gives_and ?_ (gives_and ?_ (gives_and ?_ (gives_and ?_ (gives_and ?_ (gives_and ?_ (gives_and ?_ (gives_and ?_ (gives_and ?_ (gives_and ?_ (gives_and ?_ ?_)))))))))))))) <;> first | (simp [execPpsOffsetSend]; done)

@[simp] theorem State.ptpMap_keeps (s : State) (port : Nat) (stamp : Int) (seconds : W64) (ns : Nat) (corr : Int) :
    (State.ptpMap s port stamp seconds ns corr).pending = s.pending
    ∧ (State.ptpMap s port stamp seconds ns corr).cyc = s.cyc
    ∧ (State.ptpMap s port stamp seconds ns corr).freeNext = s.freeNext
    ∧ (State.ptpMap s port stamp seconds ns corr).out = s.out
    ∧ (State.ptpMap s port stamp seconds ns corr).mdl = s.mdl
    ∧ (State.ptpMap s port stamp seconds ns corr).meter = s.meter
    ∧ (State.ptpMap s port stamp seconds ns corr).die = s.die
    ∧ (State.ptpMap s port stamp seconds ns corr).tsu = s.tsu
    ∧ (State.ptpMap s port stamp seconds ns corr).phi = s.phi
    ∧ (State.ptpMap s port stamp seconds ns corr).hub.storage = s.hub.storage
    ∧ (State.ptpMap s port stamp seconds ns corr).hub.fw.state = s.hub.fw.state
    ∧ (State.ptpMap s port stamp seconds ns corr).hub.pairs = s.hub.pairs
    ∧ (State.ptpMap s port stamp seconds ns corr).hub.led = s.hub.led
    ∧ (State.ptpMap s port stamp seconds ns corr).hub.seqs = s.hub.seqs := by
  refine ⟨?_, ?_, ?_, ?_, ?_, ?_, ?_, ?_, ?_, ?_, ?_, ?_, ?_, ?_⟩ <;> first | (simp [State.ptpMap]; done)

@[simp] theorem State.ptpTake_keeps (s : State) (port : Nat) (stamp : Int) (b : PtpBody) :
    (State.ptpTake s port stamp b).pending = s.pending ∧ (State.ptpTake s port stamp b).cyc = s.cyc
    ∧ (State.ptpTake s port stamp b).freeNext = s.freeNext ∧ (State.ptpTake s port stamp b).mdl = s.mdl
    ∧ (State.ptpTake s port stamp b).meter = s.meter ∧ (State.ptpTake s port stamp b).die = s.die
    ∧ (State.ptpTake s port stamp b).tsu = s.tsu ∧ (State.ptpTake s port stamp b).phi.time.acc = s.phi.time.acc
    ∧ (State.ptpTake s port stamp b).phi.time.state = s.phi.time.state
    ∧ (State.ptpTake s port stamp b).phi.rings = s.phi.rings ∧ (State.ptpTake s port stamp b).phi.cfg = s.phi.cfg
    ∧ (State.ptpTake s port stamp b).hub.storage = s.hub.storage
    ∧ (State.ptpTake s port stamp b).hub.fw.state = s.hub.fw.state
    ∧ (State.ptpTake s port stamp b).hub.pairs = s.hub.pairs ∧ (State.ptpTake s port stamp b).hub.led = s.hub.led
    ∧ (State.ptpTake s port stamp b).hub.seqs = s.hub.seqs := by
  simp only [State.ptpTake] <;> (repeat' split) <;> first | (simp; done) | (simp [*]; done) | (refine ⟨?_, ?_, ?_, ?_, ?_, ?_, ?_, ?_, ?_, ?_, ?_, ?_, ?_, ?_, ?_, ?_⟩ <;> first | rfl | (simp; done) | (simp [*]; done))

@[simp] theorem execPtpMessage_keeps (port : Nat) (coarse : Nat) (bin : Nat) (m : PtpMsg) (s : State) :
    gives (execPtpMessage port coarse bin m s) fun t => t.pending = s.pending ∧ t.cyc = s.cyc ∧ t.freeNext = s.freeNext
    ∧ t.mdl = s.mdl ∧ t.meter = s.meter ∧ t.die = s.die ∧ t.tsu = s.tsu ∧ t.phi.time.acc = s.phi.time.acc
    ∧ t.phi.time.state = s.phi.time.state ∧ t.phi.rings = s.phi.rings ∧ t.phi.cfg = s.phi.cfg
    ∧ t.hub.storage = s.hub.storage ∧ t.hub.fw.state = s.hub.fw.state ∧ t.hub.pairs = s.hub.pairs
    ∧ t.hub.led = s.hub.led ∧ t.hub.seqs = s.hub.seqs := by
  simp only [execPtpMessage] <;> (repeat' split) <;> first | (simp; done) | (simp [*]; done) | (refine gives_and ?_ (gives_and ?_ (gives_and ?_ (gives_and ?_ (gives_and ?_ (gives_and ?_ (gives_and ?_ (gives_and ?_ (gives_and ?_ (gives_and ?_ (gives_and ?_ (gives_and ?_ (gives_and ?_ (gives_and ?_ (gives_and ?_ ?_)))))))))))))) <;> first | rfl | (simp; done) | (simp [*]; done))

@[simp] theorem execLeapSecond_keeps (s : State) :
    gives (execLeapSecond s) fun t => t.pending = s.pending ∧ t.cyc = s.cyc ∧ t.freeNext = s.freeNext ∧ t.out = s.out
    ∧ t.mdl = s.mdl ∧ t.meter = s.meter ∧ t.die = s.die ∧ t.hub = s.hub ∧ t.tsu = s.tsu
    ∧ t.phi.time.acc = s.phi.time.acc ∧ t.phi.time.state = s.phi.time.state ∧ t.phi.rings = s.phi.rings
    ∧ t.phi.cfg = s.phi.cfg := by
  simp only [execLeapSecond] <;> (repeat' split) <;> first | (simp; done) | (simp [*]; done) | (refine gives_and ?_ (gives_and ?_ (gives_and ?_ (gives_and ?_ (gives_and ?_ (gives_and ?_ (gives_and ?_ (gives_and ?_ (gives_and ?_ (gives_and ?_ (gives_and ?_ (gives_and ?_ ?_))))))))))) <;> first | rfl | (simp; done) | (simp [*]; done))

@[simp] theorem execHtEpoch_keeps (ring : Nat) (idx : Nat) (s : State) :
    gives (execHtEpoch ring idx s) fun t => t.pending = s.pending ∧ t.cyc = s.cyc ∧ t.mdl = s.mdl ∧ t.meter = s.meter
    ∧ t.die = s.die ∧ t.tsu = s.tsu ∧ t.phi.cfg = s.phi.cfg ∧ t.hub.fw.state = s.hub.fw.state
    ∧ t.hub.pairs = s.hub.pairs ∧ t.hub.led = s.hub.led ∧ t.hub.seqs = s.hub.seqs := by
  simp only [execHtEpoch, State.runDesc] <;> (repeat' split) <;> first | (simp; done) | (simp [*]; done) | (refine gives_and ?_ (gives_and ?_ (gives_and ?_ (gives_and ?_ (gives_and ?_ (gives_and ?_ (gives_and ?_ (gives_and ?_ (gives_and ?_ (gives_and ?_ ?_))))))))) <;> first | rfl | (simp; done) | (simp [*]; done))

@[simp] theorem execHtEpochClear_keeps (ring : Nat) (idx : Nat) (s : State) :
    gives (execHtEpochClear ring idx s) fun t => t.pending = s.pending ∧ t.cyc = s.cyc ∧ t.mdl = s.mdl
    ∧ t.meter = s.meter ∧ t.die = s.die ∧ t.tsu = s.tsu ∧ t.phi.time = s.phi.time ∧ t.phi.cfg = s.phi.cfg
    ∧ t.hub.fw.state = s.hub.fw.state ∧ t.hub.pairs = s.hub.pairs ∧ t.hub.led = s.hub.led ∧ t.hub.seqs = s.hub.seqs := by
  simp only [execHtEpochClear, State.runDesc] <;> (repeat' split) <;> first | (simp; done) | (simp [*]; done) | (refine gives_and ?_ (gives_and ?_ (gives_and ?_ (gives_and ?_ (gives_and ?_ (gives_and ?_ (gives_and ?_ (gives_and ?_ (gives_and ?_ (gives_and ?_ (gives_and ?_ ?_)))))))))) <;> first | rfl | (simp; done) | (simp [*]; done))

@[simp] theorem State.htLoad_keeps (s : State) (word : W32) :
    (State.htLoad s word).pending = s.pending ∧ (State.htLoad s word).cyc = s.cyc
    ∧ (State.htLoad s word).freeNext = s.freeNext ∧ (State.htLoad s word).out = s.out
    ∧ (State.htLoad s word).mdl = s.mdl ∧ (State.htLoad s word).meter = s.meter ∧ (State.htLoad s word).die = s.die
    ∧ (State.htLoad s word).hub = s.hub ∧ (State.htLoad s word).phi = s.phi
    ∧ (State.htLoad s word).tsu.time.state = s.tsu.time.state ∧ (State.htLoad s word).tsu.rings = s.tsu.rings
    ∧ (State.htLoad s word).tsu.cfg = s.tsu.cfg := by
  refine ⟨?_, ?_, ?_, ?_, ?_, ?_, ?_, ?_, ?_, ?_, ?_, ?_⟩ <;> first | (simp [State.htLoad]; done)

@[simp] theorem execHtLoad_keeps (word : W32) (s : State) :
    gives (execHtLoad word s) fun t => t.pending = s.pending ∧ t.cyc = s.cyc ∧ t.freeNext = s.freeNext ∧ t.out = s.out
    ∧ t.mdl = s.mdl ∧ t.meter = s.meter ∧ t.die = s.die ∧ t.hub = s.hub ∧ t.phi = s.phi
    ∧ t.tsu.time.state = s.tsu.time.state ∧ t.tsu.rings = s.tsu.rings ∧ t.tsu.cfg = s.tsu.cfg := by
  refine gives_and ?_ (gives_and ?_ (gives_and ?_ (gives_and ?_ (gives_and ?_ (gives_and ?_ (gives_and ?_ (gives_and ?_ (gives_and ?_ (gives_and ?_ (gives_and ?_ ?_)))))))))) <;> first | (simp [execHtLoad]; done)

@[simp] theorem State.htSnap_keeps (s : State) (p : Part) :
    (State.htSnap s p).pending = s.pending ∧ (State.htSnap s p).cyc = s.cyc ∧ (State.htSnap s p).freeNext = s.freeNext
    ∧ (State.htSnap s p).out = s.out ∧ (State.htSnap s p).mdl = s.mdl ∧ (State.htSnap s p).meter = s.meter
    ∧ (State.htSnap s p).die = s.die ∧ (State.htSnap s p).hub = s.hub
    ∧ (State.htSnap s p).tsu.time.acc = s.tsu.time.acc ∧ (State.htSnap s p).tsu.time.state = s.tsu.time.state
    ∧ (State.htSnap s p).tsu.rings = s.tsu.rings ∧ (State.htSnap s p).tsu.cfg = s.tsu.cfg
    ∧ (State.htSnap s p).phi.time.acc = s.phi.time.acc ∧ (State.htSnap s p).phi.time.state = s.phi.time.state
    ∧ (State.htSnap s p).phi.rings = s.phi.rings ∧ (State.htSnap s p).phi.cfg = s.phi.cfg := by
  refine ⟨?_, ?_, ?_, ?_, ?_, ?_, ?_, ?_, ?_, ?_, ?_, ?_, ?_, ?_, ?_, ?_⟩ <;> first | (simp [State.htSnap]; done)

@[simp] theorem State.htSnap_keeps_tsu (s : State) :
    (State.htSnap s .tsu).phi = s.phi := by simp [State.htSnap]

@[simp] theorem State.htSnap_keeps_phi (s : State) :
    (State.htSnap s .phi).tsu = s.tsu := by simp [State.htSnap]

@[simp] theorem execHtSnapGo_keeps (p : Part) (s : State) :
    gives (execHtSnapGo p s) fun t => t.pending = s.pending ∧ t.cyc = s.cyc ∧ t.mdl = s.mdl ∧ t.meter = s.meter
    ∧ t.die = s.die ∧ t.tsu.time.acc = s.tsu.time.acc ∧ t.tsu.time.state = s.tsu.time.state
    ∧ t.tsu.rings = s.tsu.rings ∧ t.tsu.cfg.lcState = s.tsu.cfg.lcState ∧ t.tsu.cfg.lcRows = s.tsu.cfg.lcRows
    ∧ t.phi.time.acc = s.phi.time.acc ∧ t.phi.time.state = s.phi.time.state ∧ t.phi.rings = s.phi.rings
    ∧ t.phi.cfg.lcState = s.phi.cfg.lcState ∧ t.phi.cfg.lcRows = s.phi.cfg.lcRows ∧ t.hub.storage = s.hub.storage
    ∧ t.hub.fw.state = s.hub.fw.state ∧ t.hub.pairs = s.hub.pairs ∧ t.hub.led = s.hub.led ∧ t.hub.seqs = s.hub.seqs := by
  simp only [execHtSnapGo, State.viaWindow, State.fwApply] <;> (repeat' split) <;> first | (simp; done) | (simp [*]; done) | (refine gives_and ?_ (gives_and ?_ (gives_and ?_ (gives_and ?_ (gives_and ?_ (gives_and ?_ (gives_and ?_ (gives_and ?_ (gives_and ?_ (gives_and ?_ (gives_and ?_ (gives_and ?_ (gives_and ?_ (gives_and ?_ (gives_and ?_ (gives_and ?_ (gives_and ?_ (gives_and ?_ (gives_and ?_ ?_)))))))))))))))))) <;> first | rfl | (simp; done) | (simp [*]; done))

@[simp] theorem execHtSnapGo_keeps_tsu (s : State) :
    gives (execHtSnapGo .tsu s) fun t => t.phi = s.phi ∧ t.hub = s.hub := by
  refine gives_and ?_ ?_ <;> first | (simp [execHtSnapGo, State.viaWindow, State.fwApply]; done)

@[simp] theorem execHtSnapGo_keeps_phi (s : State) :
    gives (execHtSnapGo .phi s) fun t => t.tsu = s.tsu := by simp only [execHtSnapGo, State.viaWindow, State.fwApply] <;> (repeat' split) <;> first | rfl | (simp; done) | (simp [*]; done)

@[simp] theorem execHtSaveTimer_keeps (s : State) :
    gives (execHtSaveTimer s) fun t => t.pending = s.pending ∧ t.cyc = s.cyc ∧ t.freeNext = s.freeNext ∧ t.out = s.out
    ∧ t.mdl = s.mdl ∧ t.meter = s.meter ∧ t.die = s.die ∧ t.tsu = s.tsu ∧ t.phi = s.phi
    ∧ t.hub.fw.state = s.hub.fw.state ∧ t.hub.pairs = s.hub.pairs ∧ t.hub.led = s.hub.led ∧ t.hub.seqs = s.hub.seqs := by
  refine gives_and ?_ (gives_and ?_ (gives_and ?_ (gives_and ?_ (gives_and ?_ (gives_and ?_ (gives_and ?_ (gives_and ?_ (gives_and ?_ (gives_and ?_ (gives_and ?_ (gives_and ?_ ?_))))))))))) <;> first | (simp [execHtSaveTimer]; done)

@[simp] theorem execManagementPortFault_keeps (s : State) :
    gives (execManagementPortFault s) fun t => t.pending = s.pending ∧ t.cyc = s.cyc ∧ t.freeNext = s.freeNext
    ∧ t.out = s.out ∧ t.mdl = s.mdl ∧ t.meter = s.meter ∧ t.die = s.die ∧ t.tsu = s.tsu
    ∧ t.phi.time.acc = s.phi.time.acc ∧ t.phi.time.state = s.phi.time.state ∧ t.phi.rings = s.phi.rings
    ∧ t.phi.cfg = s.phi.cfg ∧ t.hub.storage = s.hub.storage ∧ t.hub.fw.state = s.hub.fw.state
    ∧ t.hub.pairs = s.hub.pairs ∧ t.hub.led = s.hub.led ∧ t.hub.seqs = s.hub.seqs := by
  refine gives_and ?_ (gives_and ?_ (gives_and ?_ (gives_and ?_ (gives_and ?_ (gives_and ?_ (gives_and ?_ (gives_and ?_ (gives_and ?_ (gives_and ?_ (gives_and ?_ (gives_and ?_ (gives_and ?_ (gives_and ?_ (gives_and ?_ (gives_and ?_ ?_))))))))))))))) <;> first | (simp [execManagementPortFault]; done)

@[simp] theorem State.loopback_keeps (s : State) (ch : Nat) :
    (State.loopback s ch).pending = s.pending ∧ (State.loopback s ch).cyc = s.cyc
    ∧ (State.loopback s ch).freeNext = s.freeNext ∧ (State.loopback s ch).out = s.out
    ∧ (State.loopback s ch).mdl = s.mdl ∧ (State.loopback s ch).meter = s.meter ∧ (State.loopback s ch).die = s.die
    ∧ (State.loopback s ch).hub = s.hub ∧ (State.loopback s ch).tsu = s.tsu
    ∧ (State.loopback s ch).phi.time = s.phi.time ∧ (State.loopback s ch).phi.rings = s.phi.rings
    ∧ (State.loopback s ch).phi.cfg = s.phi.cfg := by
  simp only [State.loopback] <;> (repeat' split) <;> first | (simp; done) | (simp [*]; done) | (refine ⟨?_, ?_, ?_, ?_, ?_, ?_, ?_, ?_, ?_, ?_, ?_, ?_⟩ <;> first | rfl | (simp; done) | (simp [*]; done))

@[simp] theorem State.tenMhzEdge_keeps (s : State) :
    (State.tenMhzEdge s).pending = s.pending ∧ (State.tenMhzEdge s).cyc = s.cyc
    ∧ (State.tenMhzEdge s).freeNext = s.freeNext ∧ (State.tenMhzEdge s).out = s.out
    ∧ (State.tenMhzEdge s).mdl = s.mdl ∧ (State.tenMhzEdge s).meter = s.meter ∧ (State.tenMhzEdge s).die = s.die
    ∧ (State.tenMhzEdge s).hub = s.hub ∧ (State.tenMhzEdge s).tsu = s.tsu
    ∧ (State.tenMhzEdge s).phi.time = s.phi.time ∧ (State.tenMhzEdge s).phi.rings = s.phi.rings
    ∧ (State.tenMhzEdge s).phi.cfg = s.phi.cfg := by
  simp only [State.tenMhzEdge] <;> (repeat' split) <;> first | (simp; done) | (simp [*]; done) | (refine ⟨?_, ?_, ?_, ?_, ?_, ?_, ?_, ?_, ?_, ?_, ?_, ?_⟩ <;> first | rfl | (simp; done) | (simp [*]; done))

@[simp] theorem execPpsOutEdge_keeps (s : State) :
    gives (execPpsOutEdge s) fun t => t.pending = s.pending ∧ t.cyc = s.cyc ∧ t.freeNext = s.freeNext ∧ t.mdl = s.mdl
    ∧ t.meter = s.meter ∧ t.die = s.die ∧ t.hub = s.hub ∧ t.tsu = s.tsu ∧ t.phi.time = s.phi.time
    ∧ t.phi.rings = s.phi.rings ∧ t.phi.cfg = s.phi.cfg := by
  simp only [execPpsOutEdge] <;> (repeat' split) <;> first | (simp; done) | (simp [*]; done) | (refine gives_and ?_ (gives_and ?_ (gives_and ?_ (gives_and ?_ (gives_and ?_ (gives_and ?_ (gives_and ?_ (gives_and ?_ (gives_and ?_ (gives_and ?_ ?_))))))))) <;> first | rfl | (simp; done) | (simp [*]; done))

end Sys2Proof.Machine
end

