-- ==== Sys2Proof/Laws/Beacons.lean ====
section
/-!
SUPPORT. What the operations and meanings of Machine/Beacons.lean leave unchanged.
-/

namespace Sys2Proof.Machine

@[simp] theorem execBeaconReqSend_keeps (p : Part) (port : Nat) (core : Nat) (s : State) :
    gives (execBeaconReqSend p port core s) fun t => t.pending = s.pending ∧ t.cyc = s.cyc ∧ t.freeNext = s.freeNext
    ∧ t.mdl = s.mdl ∧ t.meter = s.meter ∧ t.die = s.die ∧ t.hub = s.hub ∧ t.tsu.time = s.tsu.time
    ∧ t.tsu.rings = s.tsu.rings ∧ t.tsu.cfg = s.tsu.cfg ∧ t.phi.time = s.phi.time ∧ t.phi.rings = s.phi.rings
    ∧ t.phi.cfg = s.phi.cfg := by
  refine gives_and ?_ (gives_and ?_ (gives_and ?_ (gives_and ?_ (gives_and ?_ (gives_and ?_ (gives_and ?_ (gives_and ?_ (gives_and ?_ (gives_and ?_ (gives_and ?_ (gives_and ?_ ?_))))))))))) <;> first | (simp [execBeaconReqSend]; done)

@[simp] theorem execBeaconReqSend_keeps_tsu (port : Nat) (core : Nat) (s : State) :
    gives (execBeaconReqSend .tsu port core s) fun t => t.phi = s.phi := by simp [execBeaconReqSend]

@[simp] theorem execBeaconReqSend_keeps_phi (port : Nat) (core : Nat) (s : State) :
    gives (execBeaconReqSend .phi port core s) fun t => t.tsu = s.tsu := by simp [execBeaconReqSend]

@[simp] theorem execBeaconReqReceive_keeps (p : Part) (port : Nat) (core : Nat) (e : Env) (f : ReqPl) (s : State) :
    gives (execBeaconReqReceive p port core e f s) fun t => t.pending = s.pending ∧ t.cyc = s.cyc
    ∧ t.freeNext = s.freeNext ∧ t.out = s.out ∧ t.mdl = s.mdl ∧ t.meter = s.meter ∧ t.die = s.die ∧ t.hub = s.hub
    ∧ t.tsu.time = s.tsu.time ∧ t.tsu.rings = s.tsu.rings ∧ t.tsu.cfg = s.tsu.cfg ∧ t.phi.time = s.phi.time
    ∧ t.phi.rings = s.phi.rings ∧ t.phi.cfg = s.phi.cfg := by
  refine gives_and ?_ (gives_and ?_ (gives_and ?_ (gives_and ?_ (gives_and ?_ (gives_and ?_ (gives_and ?_ (gives_and ?_ (gives_and ?_ (gives_and ?_ (gives_and ?_ (gives_and ?_ (gives_and ?_ ?_)))))))))))) <;> first | (simp [execBeaconReqReceive]; done)

@[simp] theorem execBeaconReqReceive_keeps_tsu (port : Nat) (core : Nat) (e : Env) (f : ReqPl) (s : State) :
    gives (execBeaconReqReceive .tsu port core e f s) fun t => t.phi = s.phi := by simp [execBeaconReqReceive]

@[simp] theorem execBeaconReqReceive_keeps_phi (port : Nat) (core : Nat) (e : Env) (f : ReqPl) (s : State) :
    gives (execBeaconReqReceive .phi port core e f s) fun t => t.tsu = s.tsu := by simp [execBeaconReqReceive]

@[simp] theorem execBeaconRespSend_keeps (p : Part) (port : Nat) (core : Nat) (s : State) :
    gives (execBeaconRespSend p port core s) fun t => t.pending = s.pending ∧ t.cyc = s.cyc ∧ t.freeNext = s.freeNext
    ∧ t.mdl = s.mdl ∧ t.meter = s.meter ∧ t.die = s.die ∧ t.hub = s.hub ∧ t.tsu.time = s.tsu.time
    ∧ t.tsu.rings = s.tsu.rings ∧ t.tsu.cfg = s.tsu.cfg ∧ t.phi.time = s.phi.time ∧ t.phi.rings = s.phi.rings
    ∧ t.phi.cfg = s.phi.cfg := by
  simp only [execBeaconRespSend] <;> (repeat' split) <;> first | (simp; done) | (simp [*]; done) | (refine gives_and ?_ (gives_and ?_ (gives_and ?_ (gives_and ?_ (gives_and ?_ (gives_and ?_ (gives_and ?_ (gives_and ?_ (gives_and ?_ (gives_and ?_ (gives_and ?_ (gives_and ?_ ?_))))))))))) <;> first | rfl | (simp; done) | (simp [*]; done))

@[simp] theorem execBeaconRespSend_keeps_tsu (port : Nat) (core : Nat) (s : State) :
    gives (execBeaconRespSend .tsu port core s) fun t => t.phi = s.phi := by simp only [execBeaconRespSend] <;> (repeat' split) <;> first | rfl | (simp; done) | (simp [*]; done)

@[simp] theorem execBeaconRespSend_keeps_phi (port : Nat) (core : Nat) (s : State) :
    gives (execBeaconRespSend .phi port core s) fun t => t.tsu = s.tsu := by simp only [execBeaconRespSend] <;> (repeat' split) <;> first | rfl | (simp; done) | (simp [*]; done)

@[simp] theorem execBeaconRespReceive_keeps (p : Part) (port : Nat) (core : Nat) (e : Env) (f : RespPl) (s : State) :
    gives (execBeaconRespReceive p port core e f s) fun t => t.pending = s.pending ∧ t.cyc = s.cyc
    ∧ t.freeNext = s.freeNext ∧ t.out = s.out ∧ t.mdl = s.mdl ∧ t.meter = s.meter ∧ t.die = s.die ∧ t.hub = s.hub
    ∧ t.tsu.time = s.tsu.time ∧ t.tsu.rings = s.tsu.rings ∧ t.tsu.cfg = s.tsu.cfg ∧ t.phi.time = s.phi.time
    ∧ t.phi.rings = s.phi.rings ∧ t.phi.cfg = s.phi.cfg := by
  simp only [execBeaconRespReceive] <;> (repeat' split) <;> first | (simp; done) | (simp [*]; done) | (refine gives_and ?_ (gives_and ?_ (gives_and ?_ (gives_and ?_ (gives_and ?_ (gives_and ?_ (gives_and ?_ (gives_and ?_ (gives_and ?_ (gives_and ?_ (gives_and ?_ (gives_and ?_ (gives_and ?_ ?_)))))))))))) <;> first | rfl | (simp; done) | (simp [*]; done))

@[simp] theorem execBeaconRespReceive_keeps_tsu (port : Nat) (core : Nat) (e : Env) (f : RespPl) (s : State) :
    gives (execBeaconRespReceive .tsu port core e f s) fun t => t.phi = s.phi := by simp only [execBeaconRespReceive] <;> (repeat' split) <;> first | rfl | (simp; done) | (simp [*]; done)

@[simp] theorem execBeaconRespReceive_keeps_phi (port : Nat) (core : Nat) (e : Env) (f : RespPl) (s : State) :
    gives (execBeaconRespReceive .phi port core e f s) fun t => t.tsu = s.tsu := by simp only [execBeaconRespReceive] <;> (repeat' split) <;> first | rfl | (simp; done) | (simp [*]; done)

@[simp] theorem execBeaconFuSend_keeps (p : Part) (port : Nat) (s : State) :
    gives (execBeaconFuSend p port s) fun t => t.pending = s.pending ∧ t.cyc = s.cyc ∧ t.freeNext = s.freeNext
    ∧ t.mdl = s.mdl ∧ t.meter = s.meter ∧ t.die = s.die ∧ t.hub = s.hub ∧ t.tsu.time = s.tsu.time
    ∧ t.tsu.rings = s.tsu.rings ∧ t.tsu.cfg = s.tsu.cfg ∧ t.phi.time = s.phi.time ∧ t.phi.rings = s.phi.rings
    ∧ t.phi.cfg = s.phi.cfg := by
  simp only [execBeaconFuSend] <;> (repeat' split) <;> first | (simp; done) | (simp [*]; done) | (refine gives_and ?_ (gives_and ?_ (gives_and ?_ (gives_and ?_ (gives_and ?_ (gives_and ?_ (gives_and ?_ (gives_and ?_ (gives_and ?_ (gives_and ?_ (gives_and ?_ (gives_and ?_ ?_))))))))))) <;> first | rfl | (simp; done) | (simp [*]; done))

@[simp] theorem execBeaconFuSend_keeps_phi (port : Nat) (s : State) :
    gives (execBeaconFuSend .phi port s) fun t => t.tsu = s.tsu := by simp only [execBeaconFuSend] <;> (repeat' split) <;> first | rfl | (simp; done) | (simp [*]; done)

@[simp] theorem State.followMaster_keeps (s : State) (port : Nat) :
    (State.followMaster s port).pending = s.pending ∧ (State.followMaster s port).cyc = s.cyc
    ∧ (State.followMaster s port).freeNext = s.freeNext ∧ (State.followMaster s port).out = s.out
    ∧ (State.followMaster s port).mdl = s.mdl ∧ (State.followMaster s port).meter = s.meter
    ∧ (State.followMaster s port).die = s.die ∧ (State.followMaster s port).hub = s.hub
    ∧ (State.followMaster s port).tsu = s.tsu ∧ (State.followMaster s port).phi.rings = s.phi.rings
    ∧ (State.followMaster s port).phi.cfg = s.phi.cfg := by
  refine ⟨?_, ?_, ?_, ?_, ?_, ?_, ?_, ?_, ?_, ?_, ?_⟩ <;> first | (simp [State.followMaster]; done)

@[simp] theorem State.jitterHealth_keeps (s : State) (p : Part) (ch : Nat) (jit : List Int) :
    (State.jitterHealth s p ch jit).pending = s.pending ∧ (State.jitterHealth s p ch jit).cyc = s.cyc
    ∧ (State.jitterHealth s p ch jit).mdl = s.mdl ∧ (State.jitterHealth s p ch jit).meter = s.meter
    ∧ (State.jitterHealth s p ch jit).die = s.die ∧ (State.jitterHealth s p ch jit).tsu.cfg = s.tsu.cfg
    ∧ (State.jitterHealth s p ch jit).phi.time.acc = s.phi.time.acc
    ∧ (State.jitterHealth s p ch jit).phi.cfg = s.phi.cfg
    ∧ (State.jitterHealth s p ch jit).hub.storage = s.hub.storage
    ∧ (State.jitterHealth s p ch jit).hub.fw.state = s.hub.fw.state
    ∧ (State.jitterHealth s p ch jit).hub.pairs = s.hub.pairs
    ∧ (State.jitterHealth s p ch jit).hub.seqs = s.hub.seqs := by
  refine ⟨?_, ?_, ?_, ?_, ?_, ?_, ?_, ?_, ?_, ?_, ?_, ?_⟩ <;> first | (simp [State.jitterHealth]; done)

@[simp] theorem State.jitterHealth_keeps_phi (s : State) (ch : Nat) (jit : List Int) :
    (State.jitterHealth s .phi ch jit).tsu = s.tsu := by simp [State.jitterHealth]

@[simp] theorem State.countValid_keeps (s : State) (p : Part) (port : Nat) :
    (State.countValid s p port).pending = s.pending ∧ (State.countValid s p port).cyc = s.cyc
    ∧ (State.countValid s p port).freeNext = s.freeNext ∧ (State.countValid s p port).out = s.out
    ∧ (State.countValid s p port).mdl = s.mdl ∧ (State.countValid s p port).meter = s.meter
    ∧ (State.countValid s p port).die = s.die ∧ (State.countValid s p port).hub = s.hub
    ∧ (State.countValid s p port).tsu.rings = s.tsu.rings ∧ (State.countValid s p port).tsu.cfg = s.tsu.cfg
    ∧ (State.countValid s p port).phi.time.acc = s.phi.time.acc
    ∧ (State.countValid s p port).phi.rings = s.phi.rings ∧ (State.countValid s p port).phi.cfg = s.phi.cfg := by
  refine ⟨?_, ?_, ?_, ?_, ?_, ?_, ?_, ?_, ?_, ?_, ?_, ?_, ?_⟩ <;> first | (simp [State.countValid]; done)

@[simp] theorem State.countValid_keeps_phi (s : State) (port : Nat) :
    (State.countValid s .phi port).tsu = s.tsu := by simp [State.countValid]

@[simp] theorem State.countAccept_keeps (s : State) (p : Part) (port : Nat) :
    (State.countAccept s p port).pending = s.pending ∧ (State.countAccept s p port).cyc = s.cyc
    ∧ (State.countAccept s p port).freeNext = s.freeNext ∧ (State.countAccept s p port).out = s.out
    ∧ (State.countAccept s p port).mdl = s.mdl ∧ (State.countAccept s p port).meter = s.meter
    ∧ (State.countAccept s p port).die = s.die ∧ (State.countAccept s p port).hub = s.hub
    ∧ (State.countAccept s p port).tsu.rings = s.tsu.rings ∧ (State.countAccept s p port).tsu.cfg = s.tsu.cfg
    ∧ (State.countAccept s p port).phi.time.acc = s.phi.time.acc
    ∧ (State.countAccept s p port).phi.rings = s.phi.rings ∧ (State.countAccept s p port).phi.cfg = s.phi.cfg := by
  refine ⟨?_, ?_, ?_, ?_, ?_, ?_, ?_, ?_, ?_, ?_, ?_, ?_, ?_⟩ <;> first | (simp [State.countAccept]; done)

@[simp] theorem State.countAccept_keeps_phi (s : State) (port : Nat) :
    (State.countAccept s .phi port).tsu = s.tsu := by simp [State.countAccept]

@[simp] theorem State.noteGood_keeps (s : State) (p : Part) (port : Nat) :
    (State.noteGood s p port).pending = s.pending ∧ (State.noteGood s p port).cyc = s.cyc
    ∧ (State.noteGood s p port).freeNext = s.freeNext ∧ (State.noteGood s p port).out = s.out
    ∧ (State.noteGood s p port).mdl = s.mdl ∧ (State.noteGood s p port).meter = s.meter
    ∧ (State.noteGood s p port).die = s.die ∧ (State.noteGood s p port).hub = s.hub
    ∧ (State.noteGood s p port).tsu.time = s.tsu.time ∧ (State.noteGood s p port).tsu.rings = s.tsu.rings
    ∧ (State.noteGood s p port).tsu.cfg = s.tsu.cfg ∧ (State.noteGood s p port).phi.time = s.phi.time
    ∧ (State.noteGood s p port).phi.rings = s.phi.rings ∧ (State.noteGood s p port).phi.cfg = s.phi.cfg := by
  refine ⟨?_, ?_, ?_, ?_, ?_, ?_, ?_, ?_, ?_, ?_, ?_, ?_, ?_, ?_⟩ <;> first | (simp [State.noteGood]; done)

@[simp] theorem State.noteGood_keeps_tsu (s : State) (port : Nat) :
    (State.noteGood s .tsu port).phi = s.phi := by simp [State.noteGood]

@[simp] theorem State.noteGood_keeps_phi (s : State) (port : Nat) :
    (State.noteGood s .phi port).tsu = s.tsu := by simp [State.noteGood]

@[simp] theorem State.judgeExchange_keeps (s : State) (p : Part) (port : Nat) (off : Bool) :
    (State.judgeExchange s p port off).pending = s.pending ∧ (State.judgeExchange s p port off).cyc = s.cyc
    ∧ (State.judgeExchange s p port off).freeNext = s.freeNext ∧ (State.judgeExchange s p port off).out = s.out
    ∧ (State.judgeExchange s p port off).mdl = s.mdl ∧ (State.judgeExchange s p port off).meter = s.meter
    ∧ (State.judgeExchange s p port off).die = s.die ∧ (State.judgeExchange s p port off).hub = s.hub
    ∧ (State.judgeExchange s p port off).tsu.time = s.tsu.time
    ∧ (State.judgeExchange s p port off).tsu.rings = s.tsu.rings
    ∧ (State.judgeExchange s p port off).tsu.cfg = s.tsu.cfg
    ∧ (State.judgeExchange s p port off).phi.time = s.phi.time
    ∧ (State.judgeExchange s p port off).phi.rings = s.phi.rings
    ∧ (State.judgeExchange s p port off).phi.cfg = s.phi.cfg := by
  refine ⟨?_, ?_, ?_, ?_, ?_, ?_, ?_, ?_, ?_, ?_, ?_, ?_, ?_, ?_⟩ <;> first | (simp [State.judgeExchange]; done)

@[simp] theorem State.judgeExchange_keeps_tsu (s : State) (port : Nat) (off : Bool) :
    (State.judgeExchange s .tsu port off).phi = s.phi := by simp [State.judgeExchange]

@[simp] theorem State.judgeExchange_keeps_phi (s : State) (port : Nat) (off : Bool) :
    (State.judgeExchange s .phi port off).tsu = s.tsu := by simp [State.judgeExchange]

@[simp] theorem State.acceptTheta_keeps (s : State) (p : Part) (port : Nat) (h : Held) :
    (State.acceptTheta s p port h).pending = s.pending ∧ (State.acceptTheta s p port h).cyc = s.cyc
    ∧ (State.acceptTheta s p port h).mdl = s.mdl ∧ (State.acceptTheta s p port h).meter = s.meter
    ∧ (State.acceptTheta s p port h).die = s.die ∧ (State.acceptTheta s p port h).tsu.cfg = s.tsu.cfg
    ∧ (State.acceptTheta s p port h).phi.cfg = s.phi.cfg
    ∧ (State.acceptTheta s p port h).hub.storage = s.hub.storage
    ∧ (State.acceptTheta s p port h).hub.fw.state = s.hub.fw.state
    ∧ (State.acceptTheta s p port h).hub.pairs = s.hub.pairs ∧ (State.acceptTheta s p port h).hub.seqs = s.hub.seqs := by
  refine ⟨?_, ?_, ?_, ?_, ?_, ?_, ?_, ?_, ?_, ?_, ?_⟩ <;> first | (simp [State.acceptTheta]; done)

@[simp] theorem State.quadExchange_keeps (s : State) (p : Part) (port : Nat) (cal : Calib) (x : Exchange) (xv : Int) (d : Int) (t4 : Int) :
    (State.quadExchange s p port cal x xv d t4).pending = s.pending
    ∧ (State.quadExchange s p port cal x xv d t4).cyc = s.cyc
    ∧ (State.quadExchange s p port cal x xv d t4).mdl = s.mdl
    ∧ (State.quadExchange s p port cal x xv d t4).meter = s.meter
    ∧ (State.quadExchange s p port cal x xv d t4).die = s.die
    ∧ (State.quadExchange s p port cal x xv d t4).tsu.cfg = s.tsu.cfg
    ∧ (State.quadExchange s p port cal x xv d t4).phi.cfg = s.phi.cfg
    ∧ (State.quadExchange s p port cal x xv d t4).hub.storage = s.hub.storage
    ∧ (State.quadExchange s p port cal x xv d t4).hub.fw.state = s.hub.fw.state
    ∧ (State.quadExchange s p port cal x xv d t4).hub.pairs = s.hub.pairs
    ∧ (State.quadExchange s p port cal x xv d t4).hub.seqs = s.hub.seqs := by
  simp only [State.quadExchange] <;> (repeat' split) <;> first | (simp; done) | (simp [*]; done) | (refine ⟨?_, ?_, ?_, ?_, ?_, ?_, ?_, ?_, ?_, ?_, ?_⟩ <;> first | rfl | (simp; done) | (simp [*]; done))

@[simp] theorem State.completeExchange_keeps (s : State) (p : Part) (port : Nat) (x : Exchange) (f : FuPl) (t1 : Ht80) (t4 : Ht80) :
    (State.completeExchange s p port x f t1 t4).pending = s.pending
    ∧ (State.completeExchange s p port x f t1 t4).cyc = s.cyc
    ∧ (State.completeExchange s p port x f t1 t4).mdl = s.mdl
    ∧ (State.completeExchange s p port x f t1 t4).meter = s.meter
    ∧ (State.completeExchange s p port x f t1 t4).die = s.die
    ∧ (State.completeExchange s p port x f t1 t4).tsu.cfg = s.tsu.cfg
    ∧ (State.completeExchange s p port x f t1 t4).phi.cfg = s.phi.cfg
    ∧ (State.completeExchange s p port x f t1 t4).hub.storage = s.hub.storage
    ∧ (State.completeExchange s p port x f t1 t4).hub.fw.state = s.hub.fw.state
    ∧ (State.completeExchange s p port x f t1 t4).hub.pairs = s.hub.pairs
    ∧ (State.completeExchange s p port x f t1 t4).hub.seqs = s.hub.seqs := by
  simp only [State.completeExchange] <;> (repeat' split) <;> first | (simp; done) | (simp [*]; done) | (refine ⟨?_, ?_, ?_, ?_, ?_, ?_, ?_, ?_, ?_, ?_, ?_⟩ <;> first | rfl | (simp; done) | (simp [*]; done))

@[simp] theorem State.tryExchange_keeps (s : State) (p : Part) (port : Nat) :
    (State.tryExchange s p port).pending = s.pending ∧ (State.tryExchange s p port).cyc = s.cyc
    ∧ (State.tryExchange s p port).mdl = s.mdl ∧ (State.tryExchange s p port).meter = s.meter
    ∧ (State.tryExchange s p port).die = s.die ∧ (State.tryExchange s p port).tsu.cfg = s.tsu.cfg
    ∧ (State.tryExchange s p port).phi.cfg = s.phi.cfg ∧ (State.tryExchange s p port).hub.storage = s.hub.storage
    ∧ (State.tryExchange s p port).hub.fw.state = s.hub.fw.state
    ∧ (State.tryExchange s p port).hub.pairs = s.hub.pairs ∧ (State.tryExchange s p port).hub.seqs = s.hub.seqs := by
  simp only [State.tryExchange] <;> (repeat' split) <;> first | (simp; done) | (simp [*]; done) | (refine ⟨?_, ?_, ?_, ?_, ?_, ?_, ?_, ?_, ?_, ?_, ?_⟩ <;> first | rfl | (simp; done) | (simp [*]; done))

@[simp] theorem State.takePstate_keeps (s : State) (p : Part) (port : Nat) (st : BitVec 3) :
    (State.takePstate s p port st).pending = s.pending ∧ (State.takePstate s p port st).cyc = s.cyc
    ∧ (State.takePstate s p port st).freeNext = s.freeNext ∧ (State.takePstate s p port st).mdl = s.mdl
    ∧ (State.takePstate s p port st).meter = s.meter ∧ (State.takePstate s p port st).die = s.die
    ∧ (State.takePstate s p port st).tsu.rings = s.tsu.rings ∧ (State.takePstate s p port st).tsu.cfg = s.tsu.cfg
    ∧ (State.takePstate s p port st).phi.time.acc = s.phi.time.acc
    ∧ (State.takePstate s p port st).phi.rings = s.phi.rings ∧ (State.takePstate s p port st).phi.cfg = s.phi.cfg
    ∧ (State.takePstate s p port st).hub.storage = s.hub.storage
    ∧ (State.takePstate s p port st).hub.fw.state = s.hub.fw.state
    ∧ (State.takePstate s p port st).hub.pairs = s.hub.pairs ∧ (State.takePstate s p port st).hub.led = s.hub.led
    ∧ (State.takePstate s p port st).hub.seqs = s.hub.seqs := by
  refine ⟨?_, ?_, ?_, ?_, ?_, ?_, ?_, ?_, ?_, ?_, ?_, ?_, ?_, ?_, ?_, ?_⟩ <;> first | (simp [State.takePstate]; done)

@[simp] theorem State.takePstate_keeps_phi (s : State) (port : Nat) (st : BitVec 3) :
    (State.takePstate s .phi port st).tsu = s.tsu := by simp [State.takePstate]

@[simp] theorem execBeaconFuReceive_keeps (p : Part) (port : Nat) (e : Env) (f : FuPl) (s : State) :
    gives (execBeaconFuReceive p port e f s) fun t => t.pending = s.pending ∧ t.cyc = s.cyc ∧ t.mdl = s.mdl
    ∧ t.meter = s.meter ∧ t.die = s.die ∧ t.tsu.cfg = s.tsu.cfg ∧ t.phi.cfg = s.phi.cfg
    ∧ t.hub.storage = s.hub.storage ∧ t.hub.fw.state = s.hub.fw.state ∧ t.hub.pairs = s.hub.pairs
    ∧ t.hub.seqs = s.hub.seqs := by
  simp only [execBeaconFuReceive] <;> (repeat' split) <;> first | (simp; done) | (simp [*]; done) | (refine gives_and ?_ (gives_and ?_ (gives_and ?_ (gives_and ?_ (gives_and ?_ (gives_and ?_ (gives_and ?_ (gives_and ?_ (gives_and ?_ (gives_and ?_ ?_))))))))) <;> first | rfl | (simp; done) | (simp [*]; done))

@[simp] theorem execBeaconExchangeAbandon_keeps (p : Part) (port : Nat) (s : State) :
    gives (execBeaconExchangeAbandon p port s) fun t => t.pending = s.pending ∧ t.cyc = s.cyc ∧ t.mdl = s.mdl
    ∧ t.meter = s.meter ∧ t.die = s.die ∧ t.tsu.cfg = s.tsu.cfg ∧ t.phi.time.acc = s.phi.time.acc
    ∧ t.phi.cfg = s.phi.cfg ∧ t.hub.storage = s.hub.storage ∧ t.hub.fw.state = s.hub.fw.state
    ∧ t.hub.pairs = s.hub.pairs ∧ t.hub.seqs = s.hub.seqs := by
  simp only [execBeaconExchangeAbandon] <;> (repeat' split) <;> first | (simp; done) | (simp [*]; done) | (refine gives_and ?_ (gives_and ?_ (gives_and ?_ (gives_and ?_ (gives_and ?_ (gives_and ?_ (gives_and ?_ (gives_and ?_ (gives_and ?_ (gives_and ?_ (gives_and ?_ ?_)))))))))) <;> first | rfl | (simp; done) | (simp [*]; done))

@[simp] theorem execBeaconExchangeAbandon_keeps_phi (port : Nat) (s : State) :
    gives (execBeaconExchangeAbandon .phi port s) fun t => t.tsu = s.tsu := by simp only [execBeaconExchangeAbandon] <;> (repeat' split) <;> first | rfl | (simp; done) | (simp [*]; done)

@[simp] theorem State.startCalib_keeps (s : State) (p : Part) (port : Nat) (attempt : Nat) :
    (State.startCalib s p port attempt).pending = s.pending ∧ (State.startCalib s p port attempt).cyc = s.cyc
    ∧ (State.startCalib s p port attempt).freeNext = s.freeNext ∧ (State.startCalib s p port attempt).mdl = s.mdl
    ∧ (State.startCalib s p port attempt).meter = s.meter ∧ (State.startCalib s p port attempt).die = s.die
    ∧ (State.startCalib s p port attempt).hub = s.hub
    ∧ (State.startCalib s p port attempt).tsu.time.acc = s.tsu.time.acc
    ∧ (State.startCalib s p port attempt).tsu.time.state = s.tsu.time.state
    ∧ (State.startCalib s p port attempt).tsu.rings = s.tsu.rings
    ∧ (State.startCalib s p port attempt).tsu.cfg = s.tsu.cfg
    ∧ (State.startCalib s p port attempt).phi.time = s.phi.time
    ∧ (State.startCalib s p port attempt).phi.rings = s.phi.rings
    ∧ (State.startCalib s p port attempt).phi.cfg = s.phi.cfg := by
  refine ⟨?_, ?_, ?_, ?_, ?_, ?_, ?_, ?_, ?_, ?_, ?_, ?_, ?_, ?_⟩ <;> first | (simp [State.startCalib]; done)

@[simp] theorem State.startCalib_keeps_tsu (s : State) (port : Nat) (attempt : Nat) :
    (State.startCalib s .tsu port attempt).phi = s.phi := by simp [State.startCalib]

@[simp] theorem State.startCalib_keeps_phi (s : State) (port : Nat) (attempt : Nat) :
    (State.startCalib s .phi port attempt).tsu = s.tsu := by simp [State.startCalib]

@[simp] theorem execLinkCtrlCalStart_keeps (p : Part) (port : Nat) (rx : Option Env) (s : State) :
    gives (execLinkCtrlCalStart p port rx s) fun t => t.pending = s.pending ∧ t.cyc = s.cyc ∧ t.freeNext = s.freeNext
    ∧ t.mdl = s.mdl ∧ t.meter = s.meter ∧ t.die = s.die ∧ t.hub = s.hub ∧ t.tsu.time.acc = s.tsu.time.acc
    ∧ t.tsu.time.state = s.tsu.time.state ∧ t.tsu.rings = s.tsu.rings ∧ t.tsu.cfg = s.tsu.cfg
    ∧ t.phi.time = s.phi.time ∧ t.phi.rings = s.phi.rings ∧ t.phi.cfg = s.phi.cfg := by
  simp only [execLinkCtrlCalStart, State.onPlain] <;> (repeat' split) <;> first | (simp; done) | (simp [*]; done) | (refine gives_and ?_ (gives_and ?_ (gives_and ?_ (gives_and ?_ (gives_and ?_ (gives_and ?_ (gives_and ?_ (gives_and ?_ (gives_and ?_ (gives_and ?_ (gives_and ?_ (gives_and ?_ (gives_and ?_ ?_)))))))))))) <;> first | rfl | (simp; done) | (simp [*]; done))

@[simp] theorem execLinkCtrlCalStart_keeps_tsu (port : Nat) (rx : Option Env) (s : State) :
    gives (execLinkCtrlCalStart .tsu port rx s) fun t => t.phi = s.phi := by simp only [execLinkCtrlCalStart, State.onPlain] <;> (repeat' split) <;> first | rfl | (simp; done) | (simp [*]; done)

@[simp] theorem execLinkCtrlCalStart_keeps_phi (port : Nat) (rx : Option Env) (s : State) :
    gives (execLinkCtrlCalStart .phi port rx s) fun t => t.tsu = s.tsu := by simp only [execLinkCtrlCalStart, State.onPlain] <;> (repeat' split) <;> first | rfl | (simp; done) | (simp [*]; done)

@[simp] theorem execLinkCtrlTurn_keeps (p : Part) (port : Nat) (rx : Option Env) (swapped : Bool) (s : State) :
    gives (execLinkCtrlTurn p port rx swapped s) fun t => t.pending = s.pending ∧ t.cyc = s.cyc
    ∧ t.freeNext = s.freeNext ∧ t.mdl = s.mdl ∧ t.meter = s.meter ∧ t.die = s.die ∧ t.hub = s.hub
    ∧ t.tsu.time = s.tsu.time ∧ t.tsu.rings = s.tsu.rings ∧ t.tsu.cfg = s.tsu.cfg ∧ t.phi.time = s.phi.time
    ∧ t.phi.rings = s.phi.rings ∧ t.phi.cfg = s.phi.cfg := by
  simp only [execLinkCtrlTurn, State.onPlain] <;> (repeat' split) <;> first | (simp; done) | (simp [*]; done) | (refine gives_and ?_ (gives_and ?_ (gives_and ?_ (gives_and ?_ (gives_and ?_ (gives_and ?_ (gives_and ?_ (gives_and ?_ (gives_and ?_ (gives_and ?_ (gives_and ?_ (gives_and ?_ ?_))))))))))) <;> first | rfl | (simp; done) | (simp [*]; done))

@[simp] theorem execLinkCtrlTurn_keeps_tsu (port : Nat) (rx : Option Env) (swapped : Bool) (s : State) :
    gives (execLinkCtrlTurn .tsu port rx swapped s) fun t => t.phi = s.phi := by simp only [execLinkCtrlTurn, State.onPlain] <;> (repeat' split) <;> first | rfl | (simp; done) | (simp [*]; done)

@[simp] theorem execLinkCtrlTurn_keeps_phi (port : Nat) (rx : Option Env) (swapped : Bool) (s : State) :
    gives (execLinkCtrlTurn .phi port rx swapped s) fun t => t.tsu = s.tsu := by simp only [execLinkCtrlTurn, State.onPlain] <;> (repeat' split) <;> first | rfl | (simp; done) | (simp [*]; done)

@[simp] theorem execLinkCtrlCalEnd_keeps (p : Part) (port : Nat) (rx : Option Env) (s : State) :
    gives (execLinkCtrlCalEnd p port rx s) fun t => t.pending = s.pending ∧ t.cyc = s.cyc ∧ t.freeNext = s.freeNext
    ∧ t.mdl = s.mdl ∧ t.meter = s.meter ∧ t.die = s.die ∧ t.hub = s.hub ∧ t.tsu.time = s.tsu.time
    ∧ t.tsu.rings = s.tsu.rings ∧ t.tsu.cfg = s.tsu.cfg ∧ t.phi.time = s.phi.time ∧ t.phi.rings = s.phi.rings
    ∧ t.phi.cfg = s.phi.cfg := by
  simp only [execLinkCtrlCalEnd, State.onPlain] <;> (repeat' split) <;> first | (simp; done) | (simp [*]; done) | (refine gives_and ?_ (gives_and ?_ (gives_and ?_ (gives_and ?_ (gives_and ?_ (gives_and ?_ (gives_and ?_ (gives_and ?_ (gives_and ?_ (gives_and ?_ (gives_and ?_ (gives_and ?_ ?_))))))))))) <;> first | rfl | (simp; done) | (simp [*]; done))

@[simp] theorem execLinkCtrlCalEnd_keeps_tsu (port : Nat) (rx : Option Env) (s : State) :
    gives (execLinkCtrlCalEnd .tsu port rx s) fun t => t.phi = s.phi := by simp only [execLinkCtrlCalEnd, State.onPlain] <;> (repeat' split) <;> first | rfl | (simp; done) | (simp [*]; done)

@[simp] theorem execLinkCtrlCalEnd_keeps_phi (port : Nat) (rx : Option Env) (s : State) :
    gives (execLinkCtrlCalEnd .phi port rx s) fun t => t.tsu = s.tsu := by simp only [execLinkCtrlCalEnd, State.onPlain] <;> (repeat' split) <;> first | rfl | (simp; done) | (simp [*]; done)

@[simp] theorem execAsymCalComplete_keeps (p : Part) (port : Nat) (s : State) :
    gives (execAsymCalComplete p port s) fun t => t.pending = s.pending ∧ t.cyc = s.cyc ∧ t.mdl = s.mdl
    ∧ t.meter = s.meter ∧ t.die = s.die ∧ t.tsu.cfg = s.tsu.cfg ∧ t.phi.time.acc = s.phi.time.acc
    ∧ t.phi.cfg = s.phi.cfg ∧ t.hub.storage = s.hub.storage ∧ t.hub.fw.state = s.hub.fw.state
    ∧ t.hub.pairs = s.hub.pairs ∧ t.hub.seqs = s.hub.seqs := by
  simp only [execAsymCalComplete] <;> (repeat' split) <;> first | (simp; done) | (simp [*]; done) | (refine gives_and ?_ (gives_and ?_ (gives_and ?_ (gives_and ?_ (gives_and ?_ (gives_and ?_ (gives_and ?_ (gives_and ?_ (gives_and ?_ (gives_and ?_ (gives_and ?_ ?_)))))))))) <;> first | rfl | (simp; done) | (simp [*]; done))

@[simp] theorem execAsymRecalTimer_keeps (port : Nat) (s : State) :
    gives (execAsymRecalTimer port s) fun t => t.pending = s.pending ∧ t.cyc = s.cyc ∧ t.freeNext = s.freeNext
    ∧ t.mdl = s.mdl ∧ t.meter = s.meter ∧ t.die = s.die ∧ t.hub = s.hub ∧ t.phi = s.phi
    ∧ t.tsu.time.acc = s.tsu.time.acc ∧ t.tsu.time.state = s.tsu.time.state ∧ t.tsu.rings = s.tsu.rings
    ∧ t.tsu.cfg = s.tsu.cfg := by
  refine gives_and ?_ (gives_and ?_ (gives_and ?_ (gives_and ?_ (gives_and ?_ (gives_and ?_ (gives_and ?_ (gives_and ?_ (gives_and ?_ (gives_and ?_ (gives_and ?_ ?_)))))))))) <;> first | (simp [execAsymRecalTimer]; done)

@[simp] theorem State.linkRecal_keeps (s : State) (p : Part) (ring : Nat) (idx : Nat) (d : Desc) :
    (State.linkRecal s p ring idx d).pending = s.pending ∧ (State.linkRecal s p ring idx d).cyc = s.cyc
    ∧ (State.linkRecal s p ring idx d).mdl = s.mdl ∧ (State.linkRecal s p ring idx d).meter = s.meter
    ∧ (State.linkRecal s p ring idx d).die = s.die ∧ (State.linkRecal s p ring idx d).tsu.time.acc = s.tsu.time.acc
    ∧ (State.linkRecal s p ring idx d).tsu.time.state = s.tsu.time.state
    ∧ (State.linkRecal s p ring idx d).tsu.cfg = s.tsu.cfg ∧ (State.linkRecal s p ring idx d).phi.time = s.phi.time
    ∧ (State.linkRecal s p ring idx d).phi.cfg = s.phi.cfg
    ∧ (State.linkRecal s p ring idx d).hub.storage = s.hub.storage
    ∧ (State.linkRecal s p ring idx d).hub.fw.state = s.hub.fw.state
    ∧ (State.linkRecal s p ring idx d).hub.pairs = s.hub.pairs
    ∧ (State.linkRecal s p ring idx d).hub.led = s.hub.led ∧ (State.linkRecal s p ring idx d).hub.seqs = s.hub.seqs := by
  refine ⟨?_, ?_, ?_, ?_, ?_, ?_, ?_, ?_, ?_, ?_, ?_, ?_, ?_, ?_, ?_⟩ <;> first | (simp [State.linkRecal]; done)

@[simp] theorem State.linkRecal_keeps_tsu (s : State) (ring : Nat) (idx : Nat) (d : Desc) :
    (State.linkRecal s .tsu ring idx d).phi = s.phi := by simp [State.linkRecal]

@[simp] theorem State.linkRecal_keeps_phi (s : State) (ring : Nat) (idx : Nat) (d : Desc) :
    (State.linkRecal s .phi ring idx d).tsu = s.tsu := by simp [State.linkRecal]

@[simp] theorem execLinkRecal_keeps (p : Part) (ring : Nat) (idx : Nat) (s : State) :
    gives (execLinkRecal p ring idx s) fun t => t.pending = s.pending ∧ t.cyc = s.cyc ∧ t.mdl = s.mdl
    ∧ t.meter = s.meter ∧ t.die = s.die ∧ t.tsu.time.acc = s.tsu.time.acc ∧ t.tsu.time.state = s.tsu.time.state
    ∧ t.tsu.cfg = s.tsu.cfg ∧ t.phi.time = s.phi.time ∧ t.phi.cfg = s.phi.cfg ∧ t.hub.storage = s.hub.storage
    ∧ t.hub.fw.state = s.hub.fw.state ∧ t.hub.pairs = s.hub.pairs ∧ t.hub.led = s.hub.led ∧ t.hub.seqs = s.hub.seqs := by
  simp only [execLinkRecal, State.runDesc] <;> (repeat' split) <;> first | (simp; done) | (simp [*]; done) | (refine gives_and ?_ (gives_and ?_ (gives_and ?_ (gives_and ?_ (gives_and ?_ (gives_and ?_ (gives_and ?_ (gives_and ?_ (gives_and ?_ (gives_and ?_ (gives_and ?_ (gives_and ?_ (gives_and ?_ (gives_and ?_ ?_))))))))))))) <;> first | rfl | (simp; done) | (simp [*]; done))

@[simp] theorem execLinkRecal_keeps_tsu (ring : Nat) (idx : Nat) (s : State) :
    gives (execLinkRecal .tsu ring idx s) fun t => t.phi = s.phi := by simp only [execLinkRecal, State.runDesc] <;> (repeat' split) <;> first | rfl | (simp; done) | (simp [*]; done)

@[simp] theorem execTimeInfoSend_keeps (port : Nat) (s : State) :
    gives (execTimeInfoSend port s) fun t => t.pending = s.pending ∧ t.cyc = s.cyc ∧ t.freeNext = s.freeNext
    ∧ t.out = s.out ∧ t.mdl = s.mdl ∧ t.meter = s.meter ∧ t.die = s.die ∧ t.hub = s.hub ∧ t.tsu = s.tsu
    ∧ t.phi.time = s.phi.time ∧ t.phi.rings = s.phi.rings ∧ t.phi.cfg = s.phi.cfg := by
  refine gives_and ?_ (gives_and ?_ (gives_and ?_ (gives_and ?_ (gives_and ?_ (gives_and ?_ (gives_and ?_ (gives_and ?_ (gives_and ?_ (gives_and ?_ (gives_and ?_ ?_)))))))))) <;> first | (simp [execTimeInfoSend]; done)

@[simp] theorem State.crossCheck_keeps (s : State) :
    (State.crossCheck s).pending = s.pending ∧ (State.crossCheck s).cyc = s.cyc
    ∧ (State.crossCheck s).freeNext = s.freeNext ∧ (State.crossCheck s).mdl = s.mdl
    ∧ (State.crossCheck s).meter = s.meter ∧ (State.crossCheck s).die = s.die ∧ (State.crossCheck s).tsu = s.tsu
    ∧ (State.crossCheck s).phi.time = s.phi.time ∧ (State.crossCheck s).phi.rings = s.phi.rings
    ∧ (State.crossCheck s).phi.cfg = s.phi.cfg ∧ (State.crossCheck s).hub.storage = s.hub.storage
    ∧ (State.crossCheck s).hub.fw.state = s.hub.fw.state ∧ (State.crossCheck s).hub.pairs = s.hub.pairs
    ∧ (State.crossCheck s).hub.led = s.hub.led ∧ (State.crossCheck s).hub.seqs = s.hub.seqs := by
  refine ⟨?_, ?_, ?_, ?_, ?_, ?_, ?_, ?_, ?_, ?_, ?_, ?_, ?_, ?_, ?_⟩ <;> first | (simp [State.crossCheck]; done)

@[simp] theorem State.masterEpoch_keeps (s : State) (f : InfoPl) :
    (State.masterEpoch s f).pending = s.pending ∧ (State.masterEpoch s f).cyc = s.cyc
    ∧ (State.masterEpoch s f).freeNext = s.freeNext ∧ (State.masterEpoch s f).out = s.out
    ∧ (State.masterEpoch s f).mdl = s.mdl ∧ (State.masterEpoch s f).meter = s.meter
    ∧ (State.masterEpoch s f).die = s.die ∧ (State.masterEpoch s f).tsu = s.tsu
    ∧ (State.masterEpoch s f).phi.time.acc = s.phi.time.acc
    ∧ (State.masterEpoch s f).phi.time.state = s.phi.time.state ∧ (State.masterEpoch s f).phi.rings = s.phi.rings
    ∧ (State.masterEpoch s f).phi.cfg = s.phi.cfg ∧ (State.masterEpoch s f).hub.fw.state = s.hub.fw.state
    ∧ (State.masterEpoch s f).hub.pairs = s.hub.pairs ∧ (State.masterEpoch s f).hub.led = s.hub.led
    ∧ (State.masterEpoch s f).hub.seqs = s.hub.seqs := by
  refine ⟨?_, ?_, ?_, ?_, ?_, ?_, ?_, ?_, ?_, ?_, ?_, ?_, ?_, ?_, ?_, ?_⟩ <;> first | (simp [State.masterEpoch]; done)

@[simp] theorem execTimeInfoReceive_keeps (p : Part) (port : Nat) (e : Env) (f : InfoPl) (s : State) :
    gives (execTimeInfoReceive p port e f s) fun t => t.pending = s.pending ∧ t.cyc = s.cyc ∧ t.freeNext = s.freeNext
    ∧ t.mdl = s.mdl ∧ t.meter = s.meter ∧ t.die = s.die ∧ t.tsu.time.acc = s.tsu.time.acc
    ∧ t.tsu.time.state = s.tsu.time.state ∧ t.tsu.rings = s.tsu.rings ∧ t.tsu.cfg = s.tsu.cfg
    ∧ t.phi.time.acc = s.phi.time.acc ∧ t.phi.time.state = s.phi.time.state ∧ t.phi.rings = s.phi.rings
    ∧ t.phi.cfg = s.phi.cfg ∧ t.hub.fw.state = s.hub.fw.state ∧ t.hub.pairs = s.hub.pairs ∧ t.hub.led = s.hub.led
    ∧ t.hub.seqs = s.hub.seqs := by
  simp only [execTimeInfoReceive, State.onReliable_eq] <;> (repeat' split) <;> first | (simp; done) | (simp [*]; done) | (refine gives_and ?_ (gives_and ?_ (gives_and ?_ (gives_and ?_ (gives_and ?_ (gives_and ?_ (gives_and ?_ (gives_and ?_ (gives_and ?_ (gives_and ?_ (gives_and ?_ (gives_and ?_ (gives_and ?_ (gives_and ?_ (gives_and ?_ (gives_and ?_ (gives_and ?_ ?_)))))))))))))))) <;> first | rfl | (simp; done) | (simp [*]; done) | ((try simp); refine (foldl_pending _ _ _ fun s a => ?_).trans ?_ <;> (repeat' split) <;> first | with_reducible rfl | (simp; done) | (simp [*]; done)) | ((try simp); refine (foldl_cyc _ _ _ fun s a => ?_).trans ?_ <;> (repeat' split) <;> first | with_reducible rfl | (simp; done) | (simp [*]; done)) | ((try simp); refine (foldl_freeNext _ _ _ fun s a => ?_).trans ?_ <;> (repeat' split) <;> first | with_reducible rfl | (simp; done) | (simp [*]; done)) | ((try simp); refine (foldl_mdl _ _ _ fun s a => ?_).trans ?_ <;> (repeat' split) <;> first | with_reducible rfl | (simp; done) | (simp [*]; done)) | ((try simp); refine (foldl_meter _ _ _ fun s a => ?_).trans ?_ <;> (repeat' split) <;> first | with_reducible rfl | (simp; done) | (simp [*]; done)) | ((try simp); refine (foldl_die _ _ _ fun s a => ?_).trans ?_ <;> (repeat' split) <;> first | with_reducible rfl | (simp; done) | (simp [*]; done)) | ((try simp); refine (foldl_tsu_time_acc _ _ _ fun s a => ?_).trans ?_ <;> (repeat' split) <;> first | with_reducible rfl | (simp; done) | (simp [*]; done)) | ((try simp); refine (foldl_tsu_time_state _ _ _ fun s a => ?_).trans ?_ <;> (repeat' split) <;> first | with_reducible rfl | (simp; done) | (simp [*]; done)) | ((try simp); refine (foldl_tsu_rings _ _ _ fun s a => ?_).trans ?_ <;> (repeat' split) <;> first | with_reducible rfl | (simp; done) | (simp [*]; done)) | ((try simp); refine (foldl_tsu_cfg _ _ _ fun s a => ?_).trans ?_ <;> (repeat' split) <;> first | with_reducible rfl | (simp; done) | (simp [*]; done)) | ((try simp); refine (foldl_phi_time_acc _ _ _ fun s a => ?_).trans ?_ <;> (repeat' split) <;> first | with_reducible rfl | (simp; done) | (simp [*]; done)) | ((try simp); refine (foldl_phi_time_state _ _ _ fun s a => ?_).trans ?_ <;> (repeat' split) <;> first | with_reducible rfl | (simp; done) | (simp [*]; done)) | ((try simp); refine (foldl_phi_rings _ _ _ fun s a => ?_).trans ?_ <;> (repeat' split) <;> first | with_reducible rfl | (simp; done) | (simp [*]; done)) | ((try simp); refine (foldl_phi_cfg _ _ _ fun s a => ?_).trans ?_ <;> (repeat' split) <;> first | with_reducible rfl | (simp; done) | (simp [*]; done)) | ((try simp); refine (foldl_hub_fw_state _ _ _ fun s a => ?_).trans ?_ <;> (repeat' split) <;> first | with_reducible rfl | (simp; done) | (simp [*]; done)) | ((try simp); refine (foldl_hub_pairs _ _ _ fun s a => ?_).trans ?_ <;> (repeat' split) <;> first | with_reducible rfl | (simp; done) | (simp [*]; done)) | ((try simp); refine (foldl_hub_led _ _ _ fun s a => ?_).trans ?_ <;> (repeat' split) <;> first | with_reducible rfl | (simp; done) | (simp [*]; done)) | ((try simp); refine (foldl_hub_seqs _ _ _ fun s a => ?_).trans ?_ <;> (repeat' split) <;> first | with_reducible rfl | (simp; done) | (simp [*]; done)))

@[simp] theorem execTimeInfoReceive_keeps_tsu (port : Nat) (e : Env) (f : InfoPl) (s : State) :
    gives (execTimeInfoReceive .tsu port e f s) fun t => t.phi = s.phi ∧ t.hub = s.hub := by
  simp only [execTimeInfoReceive, State.onReliable_eq] <;> (repeat' split) <;> first | (simp; done) | (simp [*]; done) | (refine gives_and ?_ ?_ <;> first | rfl | (simp; done) | (simp [*]; done) | ((try simp); refine (foldl_phi _ _ _ fun s a => ?_).trans ?_ <;> (repeat' split) <;> first | with_reducible rfl | (simp; done) | (simp [*]; done)) | ((try simp); refine (foldl_hub _ _ _ fun s a => ?_).trans ?_ <;> (repeat' split) <;> first | with_reducible rfl | (simp; done) | (simp [*]; done)))

@[simp] theorem execTimeInfoReceive_keeps_phi (port : Nat) (e : Env) (f : InfoPl) (s : State) :
    gives (execTimeInfoReceive .phi port e f s) fun t => t.tsu = s.tsu := by simp only [execTimeInfoReceive, State.onReliable_eq] <;> (repeat' split) <;> first | with_reducible rfl | (simp; done) | (simp [*]; done) | ((try simp); refine (foldl_tsu _ _ _ fun s a => ?_).trans ?_ <;> (repeat' split) <;> first | with_reducible rfl | (simp; done) | (simp [*]; done))

@[simp] theorem execLighthouseMaster_keeps (ring : Nat) (idx : Nat) (s : State) :
    gives (execLighthouseMaster ring idx s) fun t => t.pending = s.pending ∧ t.cyc = s.cyc ∧ t.mdl = s.mdl
    ∧ t.meter = s.meter ∧ t.die = s.die ∧ t.tsu = s.tsu ∧ t.phi.time.acc = s.phi.time.acc
    ∧ t.phi.time.state = s.phi.time.state ∧ t.phi.cfg = s.phi.cfg ∧ t.hub.storage = s.hub.storage
    ∧ t.hub.fw.state = s.hub.fw.state ∧ t.hub.pairs = s.hub.pairs ∧ t.hub.led = s.hub.led ∧ t.hub.seqs = s.hub.seqs := by
  simp only [execLighthouseMaster, State.runDesc] <;> (repeat' split) <;> first | (simp; done) | (simp [*]; done) | (refine gives_and ?_ (gives_and ?_ (gives_and ?_ (gives_and ?_ (gives_and ?_ (gives_and ?_ (gives_and ?_ (gives_and ?_ (gives_and ?_ (gives_and ?_ (gives_and ?_ (gives_and ?_ (gives_and ?_ ?_)))))))))))) <;> first | rfl | (simp; done) | (simp [*]; done))

end Sys2Proof.Machine
end

