-- ==== Sys2Proof/Laws/Tdc.lean ====
section
/-!
SUPPORT. What the operations and meanings of Machine/Tdc.lean leave unchanged.
-/

namespace Sys2Proof.Machine

@[simp] theorem State.rotate_keeps (s : State) (p : Part) (ch : Nat) :
    (State.rotate s p ch).pending = s.pending ∧ (State.rotate s p ch).cyc = s.cyc
    ∧ (State.rotate s p ch).freeNext = s.freeNext ∧ (State.rotate s p ch).out = s.out
    ∧ (State.rotate s p ch).mdl = s.mdl ∧ (State.rotate s p ch).meter = s.meter ∧ (State.rotate s p ch).die = s.die
    ∧ (State.rotate s p ch).hub = s.hub ∧ (State.rotate s p ch).tsu.time = s.tsu.time
    ∧ (State.rotate s p ch).tsu.rings = s.tsu.rings ∧ (State.rotate s p ch).tsu.cfg = s.tsu.cfg
    ∧ (State.rotate s p ch).phi.time = s.phi.time ∧ (State.rotate s p ch).phi.rings = s.phi.rings
    ∧ (State.rotate s p ch).phi.cfg = s.phi.cfg := by
  refine ⟨?_, ?_, ?_, ?_, ?_, ?_, ?_, ?_, ?_, ?_, ?_, ?_, ?_, ?_⟩ <;> first | (simp [State.rotate]; done)

@[simp] theorem State.rotate_keeps_tsu (s : State) (ch : Nat) :
    (State.rotate s .tsu ch).phi = s.phi := by simp [State.rotate]

@[simp] theorem State.rotate_keeps_phi (s : State) (ch : Nat) :
    (State.rotate s .phi ch).tsu = s.tsu := by simp [State.rotate]

@[simp] theorem State.putStamp_keeps (s : State) (p : Part) (use : StampUse) (st : Option Ht80) :
    (State.putStamp s p use st).pending = s.pending ∧ (State.putStamp s p use st).cyc = s.cyc
    ∧ (State.putStamp s p use st).mdl = s.mdl ∧ (State.putStamp s p use st).meter = s.meter
    ∧ (State.putStamp s p use st).die = s.die ∧ (State.putStamp s p use st).tsu.cfg = s.tsu.cfg
    ∧ (State.putStamp s p use st).phi.cfg = s.phi.cfg ∧ (State.putStamp s p use st).hub.storage = s.hub.storage
    ∧ (State.putStamp s p use st).hub.fw.state = s.hub.fw.state
    ∧ (State.putStamp s p use st).hub.pairs = s.hub.pairs ∧ (State.putStamp s p use st).hub.seqs = s.hub.seqs := by
  simp only [State.putStamp] <;> (repeat' split) <;> first | (simp; done) | (simp [*]; done) | (refine ⟨?_, ?_, ?_, ?_, ?_, ?_, ?_, ?_, ?_, ?_, ?_⟩ <;> first | rfl | (simp; done) | (simp [*]; done))

@[simp] theorem State.staleStamp_keeps (s : State) (p : Part) (cv : Conv) :
    (State.staleStamp s p cv).pending = s.pending ∧ (State.staleStamp s p cv).cyc = s.cyc
    ∧ (State.staleStamp s p cv).freeNext = s.freeNext ∧ (State.staleStamp s p cv).out = s.out
    ∧ (State.staleStamp s p cv).mdl = s.mdl ∧ (State.staleStamp s p cv).meter = s.meter
    ∧ (State.staleStamp s p cv).die = s.die ∧ (State.staleStamp s p cv).hub = s.hub
    ∧ (State.staleStamp s p cv).tsu.time = s.tsu.time ∧ (State.staleStamp s p cv).tsu.rings = s.tsu.rings
    ∧ (State.staleStamp s p cv).tsu.cfg = s.tsu.cfg ∧ (State.staleStamp s p cv).phi.time = s.phi.time
    ∧ (State.staleStamp s p cv).phi.rings = s.phi.rings ∧ (State.staleStamp s p cv).phi.cfg = s.phi.cfg := by
  simp only [State.staleStamp] <;> (repeat' split) <;> first | (simp; done) | (simp [*]; done) | (refine ⟨?_, ?_, ?_, ?_, ?_, ?_, ?_, ?_, ?_, ?_, ?_, ?_, ?_, ?_⟩ <;> first | rfl | (simp; done) | (simp [*]; done))

@[simp] theorem State.staleStamp_keeps_tsu (s : State) (cv : Conv) :
    (State.staleStamp s .tsu cv).phi = s.phi := by simp only [State.staleStamp] <;> (repeat' split) <;> first | rfl | (simp; done) | (simp [*]; done)

@[simp] theorem State.staleStamp_keeps_phi (s : State) (cv : Conv) :
    (State.staleStamp s .phi cv).tsu = s.tsu := by simp only [State.staleStamp] <;> (repeat' split) <;> first | rfl | (simp; done) | (simp [*]; done)

@[simp] theorem execTdcConversionDone_keeps (p : Part) (chan : Nat) (input : Nat) (a : Nat) (b : Nat) (ok : Bool) (s : State) :
    gives (execTdcConversionDone p chan input a b ok s) fun t => t.pending = s.pending ∧ t.cyc = s.cyc ∧ t.mdl = s.mdl
    ∧ t.meter = s.meter ∧ t.die = s.die ∧ t.tsu.cfg = s.tsu.cfg ∧ t.phi.cfg = s.phi.cfg
    ∧ t.hub.storage = s.hub.storage ∧ t.hub.fw.state = s.hub.fw.state ∧ t.hub.pairs = s.hub.pairs
    ∧ t.hub.seqs = s.hub.seqs := by
  simp only [execTdcConversionDone] <;> (repeat' split) <;> first | (simp; done) | (simp [*]; done) | (refine gives_and ?_ (gives_and ?_ (gives_and ?_ (gives_and ?_ (gives_and ?_ (gives_and ?_ (gives_and ?_ (gives_and ?_ (gives_and ?_ (gives_and ?_ ?_))))))))) <;> first | rfl | (simp; done) | (simp [*]; done))

@[simp] theorem State.densityFigures_keeps (s : State) (p : Part) (ch : Nat) (fig : Int × Int × Int × Int × Nat) :
    (State.densityFigures s p ch fig).pending = s.pending ∧ (State.densityFigures s p ch fig).cyc = s.cyc
    ∧ (State.densityFigures s p ch fig).freeNext = s.freeNext ∧ (State.densityFigures s p ch fig).out = s.out
    ∧ (State.densityFigures s p ch fig).mdl = s.mdl ∧ (State.densityFigures s p ch fig).meter = s.meter
    ∧ (State.densityFigures s p ch fig).die = s.die ∧ (State.densityFigures s p ch fig).hub = s.hub
    ∧ (State.densityFigures s p ch fig).tsu.time = s.tsu.time
    ∧ (State.densityFigures s p ch fig).tsu.rings = s.tsu.rings
    ∧ (State.densityFigures s p ch fig).tsu.cfg = s.tsu.cfg
    ∧ (State.densityFigures s p ch fig).phi.time = s.phi.time
    ∧ (State.densityFigures s p ch fig).phi.rings = s.phi.rings
    ∧ (State.densityFigures s p ch fig).phi.cfg = s.phi.cfg := by
  refine ⟨?_, ?_, ?_, ?_, ?_, ?_, ?_, ?_, ?_, ?_, ?_, ?_, ?_, ?_⟩ <;> first | (simp [State.densityFigures]; done)

@[simp] theorem State.densityFigures_keeps_tsu (s : State) (ch : Nat) (fig : Int × Int × Int × Int × Nat) :
    (State.densityFigures s .tsu ch fig).phi = s.phi := by simp [State.densityFigures]

@[simp] theorem State.densityFigures_keeps_phi (s : State) (ch : Nat) (fig : Int × Int × Int × Int × Nat) :
    (State.densityFigures s .phi ch fig).tsu = s.tsu := by simp [State.densityFigures]

@[simp] theorem State.identAfterCal_keeps (s : State) (p : Part) (ch : Nat) :
    (State.identAfterCal s p ch).pending = s.pending ∧ (State.identAfterCal s p ch).cyc = s.cyc
    ∧ (State.identAfterCal s p ch).freeNext = s.freeNext ∧ (State.identAfterCal s p ch).out = s.out
    ∧ (State.identAfterCal s p ch).mdl = s.mdl ∧ (State.identAfterCal s p ch).meter = s.meter
    ∧ (State.identAfterCal s p ch).die = s.die ∧ (State.identAfterCal s p ch).hub = s.hub
    ∧ (State.identAfterCal s p ch).tsu.time = s.tsu.time ∧ (State.identAfterCal s p ch).tsu.rings = s.tsu.rings
    ∧ (State.identAfterCal s p ch).tsu.cfg = s.tsu.cfg ∧ (State.identAfterCal s p ch).phi.time = s.phi.time
    ∧ (State.identAfterCal s p ch).phi.rings = s.phi.rings ∧ (State.identAfterCal s p ch).phi.cfg = s.phi.cfg := by
  simp only [State.identAfterCal] <;> (repeat' split) <;> first | (simp; done) | (simp [*]; done) | (refine ⟨?_, ?_, ?_, ?_, ?_, ?_, ?_, ?_, ?_, ?_, ?_, ?_, ?_, ?_⟩ <;> first | rfl | (simp; done) | (simp [*]; done))

@[simp] theorem State.identAfterCal_keeps_tsu (s : State) (ch : Nat) :
    (State.identAfterCal s .tsu ch).phi = s.phi := by simp only [State.identAfterCal] <;> (repeat' split) <;> first | rfl | (simp; done) | (simp [*]; done)

@[simp] theorem State.identAfterCal_keeps_phi (s : State) (ch : Nat) :
    (State.identAfterCal s .phi ch).tsu = s.tsu := by simp only [State.identAfterCal] <;> (repeat' split) <;> first | rfl | (simp; done) | (simp [*]; done)

@[simp] theorem State.dnlHealth_keeps (s : State) (p : Part) (ch : Nat) (x3 : List (Nat × BinTable)) :
    (State.dnlHealth s p ch x3).pending = s.pending ∧ (State.dnlHealth s p ch x3).cyc = s.cyc
    ∧ (State.dnlHealth s p ch x3).mdl = s.mdl ∧ (State.dnlHealth s p ch x3).meter = s.meter
    ∧ (State.dnlHealth s p ch x3).die = s.die ∧ (State.dnlHealth s p ch x3).tsu.cfg = s.tsu.cfg := by
  refine ⟨?_, ?_, ?_, ?_, ?_, ?_⟩ <;> first | (induction x3 generalizing s <;> simp_all [State.dnlHealth]; done)

@[simp] theorem State.dnlHealth_keeps2 (s : State) (p : Part) (ch : Nat) (x3 : List (Nat × BinTable)) :
    (State.dnlHealth s p ch x3).phi.time.acc = s.phi.time.acc ∧ (State.dnlHealth s p ch x3).phi.cfg = s.phi.cfg
    ∧ (State.dnlHealth s p ch x3).hub.storage = s.hub.storage
    ∧ (State.dnlHealth s p ch x3).hub.fw.state = s.hub.fw.state
    ∧ (State.dnlHealth s p ch x3).hub.pairs = s.hub.pairs ∧ (State.dnlHealth s p ch x3).hub.seqs = s.hub.seqs := by
  refine ⟨?_, ?_, ?_, ?_, ?_, ?_⟩ <;> first | (induction x3 generalizing s <;> simp_all [State.dnlHealth]; done)

@[simp] theorem State.dnlHealth_keeps_phi (s : State) (ch : Nat) (x3 : List (Nat × BinTable)) :
    (State.dnlHealth s .phi ch x3).tsu = s.tsu := by induction x3 generalizing s <;> simp_all [State.dnlHealth]

@[simp] theorem State.endRun_keeps (s : State) (p : Part) (ch : Nat) (accepted : Bool) :
    (State.endRun s p ch accepted).pending = s.pending ∧ (State.endRun s p ch accepted).cyc = s.cyc
    ∧ (State.endRun s p ch accepted).freeNext = s.freeNext ∧ (State.endRun s p ch accepted).out = s.out
    ∧ (State.endRun s p ch accepted).mdl = s.mdl ∧ (State.endRun s p ch accepted).meter = s.meter
    ∧ (State.endRun s p ch accepted).die = s.die ∧ (State.endRun s p ch accepted).hub = s.hub
    ∧ (State.endRun s p ch accepted).tsu.time = s.tsu.time ∧ (State.endRun s p ch accepted).tsu.rings = s.tsu.rings
    ∧ (State.endRun s p ch accepted).tsu.cfg = s.tsu.cfg ∧ (State.endRun s p ch accepted).phi.time = s.phi.time
    ∧ (State.endRun s p ch accepted).phi.rings = s.phi.rings ∧ (State.endRun s p ch accepted).phi.cfg = s.phi.cfg := by
  refine ⟨?_, ?_, ?_, ?_, ?_, ?_, ?_, ?_, ?_, ?_, ?_, ?_, ?_, ?_⟩ <;> first | (simp [State.endRun]; done)

@[simp] theorem State.endRun_keeps_tsu (s : State) (ch : Nat) (accepted : Bool) :
    (State.endRun s .tsu ch accepted).phi = s.phi := by simp [State.endRun]

@[simp] theorem State.endRun_keeps_phi (s : State) (ch : Nat) (accepted : Bool) :
    (State.endRun s .phi ch accepted).tsu = s.tsu := by simp [State.endRun]

@[simp] theorem State.refuseRun_keeps (s : State) (p : Part) (ch : Nat) :
    (State.refuseRun s p ch).pending = s.pending ∧ (State.refuseRun s p ch).cyc = s.cyc
    ∧ (State.refuseRun s p ch).freeNext = s.freeNext ∧ (State.refuseRun s p ch).mdl = s.mdl
    ∧ (State.refuseRun s p ch).meter = s.meter ∧ (State.refuseRun s p ch).die = s.die
    ∧ (State.refuseRun s p ch).tsu.time = s.tsu.time ∧ (State.refuseRun s p ch).tsu.rings = s.tsu.rings
    ∧ (State.refuseRun s p ch).tsu.cfg = s.tsu.cfg ∧ (State.refuseRun s p ch).phi.time = s.phi.time
    ∧ (State.refuseRun s p ch).phi.rings = s.phi.rings ∧ (State.refuseRun s p ch).phi.cfg = s.phi.cfg
    ∧ (State.refuseRun s p ch).hub.storage = s.hub.storage ∧ (State.refuseRun s p ch).hub.fw.state = s.hub.fw.state
    ∧ (State.refuseRun s p ch).hub.pairs = s.hub.pairs ∧ (State.refuseRun s p ch).hub.led = s.hub.led
    ∧ (State.refuseRun s p ch).hub.seqs = s.hub.seqs := by
  refine ⟨?_, ?_, ?_, ?_, ?_, ?_, ?_, ?_, ?_, ?_, ?_, ?_, ?_, ?_, ?_, ?_, ?_⟩ <;> first | (simp [State.refuseRun]; done)

@[simp] theorem State.refuseRun_keeps_tsu (s : State) (ch : Nat) :
    (State.refuseRun s .tsu ch).phi = s.phi ∧ (State.refuseRun s .tsu ch).hub = s.hub := by
  refine ⟨?_, ?_⟩ <;> first | (simp [State.refuseRun]; done)

@[simp] theorem State.refuseRun_keeps_phi (s : State) (ch : Nat) :
    (State.refuseRun s .phi ch).tsu = s.tsu := by simp [State.refuseRun]

@[simp] theorem State.startRun_keeps (s : State) (p : Part) (ch : Nat) :
    (State.startRun s p ch).pending = s.pending ∧ (State.startRun s p ch).cyc = s.cyc
    ∧ (State.startRun s p ch).freeNext = s.freeNext ∧ (State.startRun s p ch).mdl = s.mdl
    ∧ (State.startRun s p ch).meter = s.meter ∧ (State.startRun s p ch).die = s.die
    ∧ (State.startRun s p ch).tsu.time = s.tsu.time ∧ (State.startRun s p ch).tsu.rings = s.tsu.rings
    ∧ (State.startRun s p ch).tsu.cfg = s.tsu.cfg ∧ (State.startRun s p ch).phi.time = s.phi.time
    ∧ (State.startRun s p ch).phi.rings = s.phi.rings ∧ (State.startRun s p ch).phi.cfg = s.phi.cfg
    ∧ (State.startRun s p ch).hub.storage = s.hub.storage ∧ (State.startRun s p ch).hub.fw.state = s.hub.fw.state
    ∧ (State.startRun s p ch).hub.pairs = s.hub.pairs ∧ (State.startRun s p ch).hub.led = s.hub.led
    ∧ (State.startRun s p ch).hub.seqs = s.hub.seqs := by
  refine ⟨?_, ?_, ?_, ?_, ?_, ?_, ?_, ?_, ?_, ?_, ?_, ?_, ?_, ?_, ?_, ?_, ?_⟩ <;> first | (simp [State.startRun]; done)

@[simp] theorem State.startRun_keeps_tsu (s : State) (ch : Nat) :
    (State.startRun s .tsu ch).phi = s.phi ∧ (State.startRun s .tsu ch).hub = s.hub := by
  refine ⟨?_, ?_⟩ <;> first | (simp [State.startRun]; done)

@[simp] theorem State.startRun_keeps_phi (s : State) (ch : Nat) :
    (State.startRun s .phi ch).tsu = s.tsu := by simp [State.startRun]

@[simp] theorem execCodeDensityRunComplete_keeps (p : Part) (chan : Nat) (hists : List (List Nat)) (s : State) :
    gives (execCodeDensityRunComplete p chan hists s) fun t => t.pending = s.pending ∧ t.cyc = s.cyc ∧ t.mdl = s.mdl
    ∧ t.meter = s.meter ∧ t.die = s.die ∧ t.tsu.cfg = s.tsu.cfg ∧ t.phi.time.acc = s.phi.time.acc
    ∧ t.phi.cfg = s.phi.cfg ∧ t.hub.storage = s.hub.storage ∧ t.hub.fw.state = s.hub.fw.state
    ∧ t.hub.pairs = s.hub.pairs ∧ t.hub.seqs = s.hub.seqs := by
  simp only [execCodeDensityRunComplete] <;> (repeat' split) <;> first | (simp; done) | (simp [*]; done) | (refine gives_and ?_ (gives_and ?_ (gives_and ?_ (gives_and ?_ (gives_and ?_ (gives_and ?_ (gives_and ?_ (gives_and ?_ (gives_and ?_ (gives_and ?_ (gives_and ?_ ?_)))))))))) <;> first | rfl | (simp; done) | (simp [*]; done))

@[simp] theorem execVernierCalComplete_keeps (p : Part) (chan : Nat) (core : Nat) (sums : List Nat) (s : State) :
    gives (execVernierCalComplete p chan core sums s) fun t => t.pending = s.pending ∧ t.cyc = s.cyc ∧ t.mdl = s.mdl
    ∧ t.meter = s.meter ∧ t.die = s.die ∧ t.tsu.cfg = s.tsu.cfg ∧ t.phi.time.acc = s.phi.time.acc
    ∧ t.phi.cfg = s.phi.cfg ∧ t.hub.storage = s.hub.storage ∧ t.hub.fw.state = s.hub.fw.state
    ∧ t.hub.pairs = s.hub.pairs ∧ t.hub.seqs = s.hub.seqs := by
  simp only [execVernierCalComplete] <;> (repeat' split) <;> first | (simp; done) | (simp [*]; done) | (refine gives_and ?_ (gives_and ?_ (gives_and ?_ (gives_and ?_ (gives_and ?_ (gives_and ?_ (gives_and ?_ (gives_and ?_ (gives_and ?_ (gives_and ?_ (gives_and ?_ ?_)))))))))) <;> first | rfl | (simp; done) | (simp [*]; done))

@[simp] theorem execTdcRecalTimer_keeps (p : Part) (chan : Nat) (s : State) :
    gives (execTdcRecalTimer p chan s) fun t => t.pending = s.pending ∧ t.cyc = s.cyc ∧ t.freeNext = s.freeNext
    ∧ t.mdl = s.mdl ∧ t.meter = s.meter ∧ t.die = s.die ∧ t.tsu.time = s.tsu.time ∧ t.tsu.rings = s.tsu.rings
    ∧ t.tsu.cfg = s.tsu.cfg ∧ t.phi.time = s.phi.time ∧ t.phi.rings = s.phi.rings ∧ t.phi.cfg = s.phi.cfg
    ∧ t.hub.storage = s.hub.storage ∧ t.hub.fw.state = s.hub.fw.state ∧ t.hub.pairs = s.hub.pairs
    ∧ t.hub.led = s.hub.led ∧ t.hub.seqs = s.hub.seqs := by
  refine gives_and ?_ (gives_and ?_ (gives_and ?_ (gives_and ?_ (gives_and ?_ (gives_and ?_ (gives_and ?_ (gives_and ?_ (gives_and ?_ (gives_and ?_ (gives_and ?_ (gives_and ?_ (gives_and ?_ (gives_and ?_ (gives_and ?_ (gives_and ?_ ?_))))))))))))))) <;> first | (simp [execTdcRecalTimer]; done)

@[simp] theorem execTdcRecalTimer_keeps_tsu (chan : Nat) (s : State) :
    gives (execTdcRecalTimer .tsu chan s) fun t => t.phi = s.phi ∧ t.hub = s.hub := by
  refine gives_and ?_ ?_ <;> first | (simp [execTdcRecalTimer]; done)

@[simp] theorem execTdcRecalTimer_keeps_phi (chan : Nat) (s : State) :
    gives (execTdcRecalTimer .phi chan s) fun t => t.tsu = s.tsu := by simp [execTdcRecalTimer]

@[simp] theorem State.wakeFast_keeps (s : State) :
    (State.wakeFast s).pending = s.pending ∧ (State.wakeFast s).cyc = s.cyc ∧ (State.wakeFast s).freeNext = s.freeNext
    ∧ (State.wakeFast s).out = s.out ∧ (State.wakeFast s).mdl = s.mdl ∧ (State.wakeFast s).meter = s.meter
    ∧ (State.wakeFast s).die = s.die ∧ (State.wakeFast s).hub = s.hub ∧ (State.wakeFast s).phi = s.phi
    ∧ (State.wakeFast s).tsu.time = s.tsu.time ∧ (State.wakeFast s).tsu.rings = s.tsu.rings
    ∧ (State.wakeFast s).tsu.cfg = s.tsu.cfg := by
  simp only [State.wakeFast] <;> (repeat' split) <;> first | (simp; done) | (simp [*]; done) | (refine ⟨?_, ?_, ?_, ?_, ?_, ?_, ?_, ?_, ?_, ?_, ?_, ?_⟩ <;> first | rfl | (simp; done) | (simp [*]; done))

@[simp] theorem execTemperatureMove_keeps (p : Part) (centi : Int) (s : State) :
    gives (execTemperatureMove p centi s) fun t => t.pending = s.pending ∧ t.cyc = s.cyc ∧ t.freeNext = s.freeNext
    ∧ t.mdl = s.mdl ∧ t.meter = s.meter ∧ t.tsu.time = s.tsu.time ∧ t.tsu.rings = s.tsu.rings
    ∧ t.tsu.cfg = s.tsu.cfg ∧ t.phi.time = s.phi.time ∧ t.phi.rings = s.phi.rings ∧ t.phi.cfg = s.phi.cfg
    ∧ t.hub.storage = s.hub.storage ∧ t.hub.fw.state = s.hub.fw.state ∧ t.hub.pairs = s.hub.pairs
    ∧ t.hub.led = s.hub.led ∧ t.hub.seqs = s.hub.seqs ∧ t.die.sync = s.die.sync ∧ t.die.launches = s.die.launches
    ∧ t.die.dig = s.die.dig ∧ t.die.binds = s.die.binds ∧ t.die.coreEn = s.die.coreEn := by
  simp only [execTemperatureMove] <;> (repeat' split) <;> first | (simp; done) | (simp [*]; done) | (refine gives_and ?_ (gives_and ?_ (gives_and ?_ (gives_and ?_ (gives_and ?_ (gives_and ?_ (gives_and ?_ (gives_and ?_ (gives_and ?_ (gives_and ?_ (gives_and ?_ (gives_and ?_ (gives_and ?_ (gives_and ?_ (gives_and ?_ (gives_and ?_ (gives_and ?_ (gives_and ?_ (gives_and ?_ (gives_and ?_ ?_))))))))))))))))))) <;> first | rfl | (simp; done) | (simp [*]; done))

@[simp] theorem execTemperatureMove_keeps_tsu (centi : Int) (s : State) :
    gives (execTemperatureMove .tsu centi s) fun t => t.phi = s.phi ∧ t.hub = s.hub := by
  refine gives_and ?_ ?_ <;> first | (simp [execTemperatureMove]; done)

@[simp] theorem execTemperatureMove_keeps_phi (centi : Int) (s : State) :
    gives (execTemperatureMove .phi centi s) fun t => t.tsu = s.tsu ∧ t.die = s.die := by
  refine gives_and ?_ ?_ <;> first | (simp [execTemperatureMove]; done)

@[simp] theorem State.measure_keeps (s : State) (p : Part) (ring : Nat) (idx : Nat) (d : Desc) :
    (State.measure s p ring idx d).pending = s.pending ∧ (State.measure s p ring idx d).cyc = s.cyc
    ∧ (State.measure s p ring idx d).mdl = s.mdl ∧ (State.measure s p ring idx d).meter = s.meter
    ∧ (State.measure s p ring idx d).die = s.die ∧ (State.measure s p ring idx d).tsu.time = s.tsu.time
    ∧ (State.measure s p ring idx d).tsu.cfg = s.tsu.cfg ∧ (State.measure s p ring idx d).phi.time = s.phi.time
    ∧ (State.measure s p ring idx d).phi.cfg = s.phi.cfg
    ∧ (State.measure s p ring idx d).hub.storage = s.hub.storage
    ∧ (State.measure s p ring idx d).hub.fw.state = s.hub.fw.state
    ∧ (State.measure s p ring idx d).hub.pairs = s.hub.pairs ∧ (State.measure s p ring idx d).hub.led = s.hub.led
    ∧ (State.measure s p ring idx d).hub.seqs = s.hub.seqs := by
  simp only [State.measure] <;> (repeat' split) <;> first | (simp; done) | (simp [*]; done) | (refine ⟨?_, ?_, ?_, ?_, ?_, ?_, ?_, ?_, ?_, ?_, ?_, ?_, ?_, ?_⟩ <;> first | rfl | (simp; done) | (simp [*]; done))

@[simp] theorem State.measure_keeps_tsu (s : State) (ring : Nat) (idx : Nat) (d : Desc) :
    (State.measure s .tsu ring idx d).phi = s.phi := by simp [State.measure]

@[simp] theorem State.measure_keeps_phi (s : State) (ring : Nat) (idx : Nat) (d : Desc) :
    (State.measure s .phi ring idx d).tsu = s.tsu := by simp [State.measure]

@[simp] theorem State.askMeasure_keeps (s : State) (p : Part) (ring : Nat) (idx : Nat) (d : Desc) :
    (State.askMeasure s p ring idx d).pending = s.pending ∧ (State.askMeasure s p ring idx d).cyc = s.cyc
    ∧ (State.askMeasure s p ring idx d).mdl = s.mdl ∧ (State.askMeasure s p ring idx d).meter = s.meter
    ∧ (State.askMeasure s p ring idx d).die = s.die ∧ (State.askMeasure s p ring idx d).tsu.time = s.tsu.time
    ∧ (State.askMeasure s p ring idx d).tsu.cfg = s.tsu.cfg
    ∧ (State.askMeasure s p ring idx d).phi.time = s.phi.time
    ∧ (State.askMeasure s p ring idx d).phi.cfg = s.phi.cfg
    ∧ (State.askMeasure s p ring idx d).hub.storage = s.hub.storage
    ∧ (State.askMeasure s p ring idx d).hub.fw.state = s.hub.fw.state
    ∧ (State.askMeasure s p ring idx d).hub.pairs = s.hub.pairs
    ∧ (State.askMeasure s p ring idx d).hub.led = s.hub.led
    ∧ (State.askMeasure s p ring idx d).hub.seqs = s.hub.seqs := by
  refine ⟨?_, ?_, ?_, ?_, ?_, ?_, ?_, ?_, ?_, ?_, ?_, ?_, ?_, ?_⟩ <;> first | (simp [State.askMeasure]; done)

@[simp] theorem State.askMeasure_keeps_tsu (s : State) (ring : Nat) (idx : Nat) (d : Desc) :
    (State.askMeasure s .tsu ring idx d).phi = s.phi := by simp [State.askMeasure]

@[simp] theorem execTdcMeasureInterval_keeps (p : Part) (ring : Nat) (idx : Nat) (s : State) :
    gives (execTdcMeasureInterval p ring idx s) fun t => t.pending = s.pending ∧ t.cyc = s.cyc ∧ t.mdl = s.mdl
    ∧ t.meter = s.meter ∧ t.die = s.die ∧ t.tsu.time = s.tsu.time ∧ t.tsu.cfg = s.tsu.cfg ∧ t.phi.time = s.phi.time
    ∧ t.phi.cfg = s.phi.cfg ∧ t.hub.storage = s.hub.storage ∧ t.hub.fw.state = s.hub.fw.state
    ∧ t.hub.pairs = s.hub.pairs ∧ t.hub.led = s.hub.led ∧ t.hub.seqs = s.hub.seqs := by
  simp only [execTdcMeasureInterval, State.runDesc] <;> (repeat' split) <;> first | (simp; done) | (simp [*]; done) | (refine gives_and ?_ (gives_and ?_ (gives_and ?_ (gives_and ?_ (gives_and ?_ (gives_and ?_ (gives_and ?_ (gives_and ?_ (gives_and ?_ (gives_and ?_ (gives_and ?_ (gives_and ?_ (gives_and ?_ ?_)))))))))))) <;> first | rfl | (simp; done) | (simp [*]; done))

@[simp] theorem execTdcMeasureInterval_keeps_tsu (ring : Nat) (idx : Nat) (s : State) :
    gives (execTdcMeasureInterval .tsu ring idx s) fun t => t.phi = s.phi := by simp only [execTdcMeasureInterval, State.runDesc] <;> (repeat' split) <;> first | rfl | (simp; done) | (simp [*]; done)

@[simp] theorem execTdcMeasureFrequency_keeps (p : Part) (ring : Nat) (idx : Nat) (s : State) :
    gives (execTdcMeasureFrequency p ring idx s) fun t => t.pending = s.pending ∧ t.cyc = s.cyc ∧ t.mdl = s.mdl
    ∧ t.meter = s.meter ∧ t.die = s.die ∧ t.tsu.time = s.tsu.time ∧ t.tsu.cfg = s.tsu.cfg ∧ t.phi.time = s.phi.time
    ∧ t.phi.cfg = s.phi.cfg ∧ t.hub.storage = s.hub.storage ∧ t.hub.fw.state = s.hub.fw.state
    ∧ t.hub.pairs = s.hub.pairs ∧ t.hub.led = s.hub.led ∧ t.hub.seqs = s.hub.seqs := by
  simp only [execTdcMeasureFrequency, State.runDesc] <;> (repeat' split) <;> first | (simp; done) | (simp [*]; done) | (refine gives_and ?_ (gives_and ?_ (gives_and ?_ (gives_and ?_ (gives_and ?_ (gives_and ?_ (gives_and ?_ (gives_and ?_ (gives_and ?_ (gives_and ?_ (gives_and ?_ (gives_and ?_ (gives_and ?_ ?_)))))))))))) <;> first | rfl | (simp; done) | (simp [*]; done))

@[simp] theorem execTdcMeasureFrequency_keeps_tsu (ring : Nat) (idx : Nat) (s : State) :
    gives (execTdcMeasureFrequency .tsu ring idx s) fun t => t.phi = s.phi := by simp only [execTdcMeasureFrequency, State.runDesc] <;> (repeat' split) <;> first | rfl | (simp; done) | (simp [*]; done)

@[simp] theorem execTdcMeasureBeacon_keeps (p : Part) (ring : Nat) (idx : Nat) (s : State) :
    gives (execTdcMeasureBeacon p ring idx s) fun t => t.pending = s.pending ∧ t.cyc = s.cyc ∧ t.mdl = s.mdl
    ∧ t.meter = s.meter ∧ t.die = s.die ∧ t.tsu.time = s.tsu.time ∧ t.tsu.cfg = s.tsu.cfg ∧ t.phi.time = s.phi.time
    ∧ t.phi.cfg = s.phi.cfg ∧ t.hub.storage = s.hub.storage ∧ t.hub.fw.state = s.hub.fw.state
    ∧ t.hub.pairs = s.hub.pairs ∧ t.hub.led = s.hub.led ∧ t.hub.seqs = s.hub.seqs := by
  simp only [execTdcMeasureBeacon, State.runDesc] <;> (repeat' split) <;> first | (simp; done) | (simp [*]; done) | (refine gives_and ?_ (gives_and ?_ (gives_and ?_ (gives_and ?_ (gives_and ?_ (gives_and ?_ (gives_and ?_ (gives_and ?_ (gives_and ?_ (gives_and ?_ (gives_and ?_ (gives_and ?_ (gives_and ?_ ?_)))))))))))) <;> first | rfl | (simp; done) | (simp [*]; done))

@[simp] theorem execTdcMeasureBeacon_keeps_tsu (ring : Nat) (idx : Nat) (s : State) :
    gives (execTdcMeasureBeacon .tsu ring idx s) fun t => t.phi = s.phi := by simp only [execTdcMeasureBeacon, State.runDesc] <;> (repeat' split) <;> first | rfl | (simp; done) | (simp [*]; done)

@[simp] theorem execTdcMeasureCodeDensity_keeps (p : Part) (ring : Nat) (idx : Nat) (s : State) :
    gives (execTdcMeasureCodeDensity p ring idx s) fun t => t.pending = s.pending ∧ t.cyc = s.cyc ∧ t.mdl = s.mdl
    ∧ t.meter = s.meter ∧ t.die = s.die ∧ t.tsu.time = s.tsu.time ∧ t.tsu.cfg = s.tsu.cfg ∧ t.phi.time = s.phi.time
    ∧ t.phi.cfg = s.phi.cfg ∧ t.hub.storage = s.hub.storage ∧ t.hub.fw.state = s.hub.fw.state
    ∧ t.hub.pairs = s.hub.pairs ∧ t.hub.led = s.hub.led ∧ t.hub.seqs = s.hub.seqs := by
  simp only [execTdcMeasureCodeDensity, State.runDesc] <;> (repeat' split) <;> first | (simp; done) | (simp [*]; done) | (refine gives_and ?_ (gives_and ?_ (gives_and ?_ (gives_and ?_ (gives_and ?_ (gives_and ?_ (gives_and ?_ (gives_and ?_ (gives_and ?_ (gives_and ?_ (gives_and ?_ (gives_and ?_ (gives_and ?_ ?_)))))))))))) <;> first | rfl | (simp; done) | (simp [*]; done))

@[simp] theorem execTdcMeasureCodeDensity_keeps_tsu (ring : Nat) (idx : Nat) (s : State) :
    gives (execTdcMeasureCodeDensity .tsu ring idx s) fun t => t.phi = s.phi := by simp only [execTdcMeasureCodeDensity, State.runDesc] <;> (repeat' split) <;> first | rfl | (simp; done) | (simp [*]; done)

@[simp] theorem State.measCount_keeps (s : State) (p : Part) (ch : Nat) (m : Meas) (starts : List RawEdge) (ends : List (List RawEdge)) :
    (State.measCount s p ch m starts ends).pending = s.pending ∧ (State.measCount s p ch m starts ends).cyc = s.cyc
    ∧ (State.measCount s p ch m starts ends).freeNext = s.freeNext
    ∧ (State.measCount s p ch m starts ends).out = s.out ∧ (State.measCount s p ch m starts ends).mdl = s.mdl
    ∧ (State.measCount s p ch m starts ends).meter = s.meter ∧ (State.measCount s p ch m starts ends).die = s.die
    ∧ (State.measCount s p ch m starts ends).hub = s.hub ∧ (State.measCount s p ch m starts ends).phi = s.phi
    ∧ (State.measCount s p ch m starts ends).tsu.time = s.tsu.time
    ∧ (State.measCount s p ch m starts ends).tsu.rings = s.tsu.rings
    ∧ (State.measCount s p ch m starts ends).tsu.cfg = s.tsu.cfg := by
  refine ⟨?_, ?_, ?_, ?_, ?_, ?_, ?_, ?_, ?_, ?_, ?_, ?_⟩ <;> first | (simp [State.measCount]; done)

@[simp] theorem State.measCount_keeps_phi (s : State) (ch : Nat) (m : Meas) (starts : List RawEdge) (ends : List (List RawEdge)) :
    (State.measCount s .phi ch m starts ends).tsu = s.tsu := by simp [State.measCount]

@[simp] theorem execTdcMeasureComplete_keeps (p : Part) (chan : Nat) (starts : List RawEdge) (ends : List (List RawEdge)) (s : State) :
    gives (execTdcMeasureComplete p chan starts ends s) fun t => t.pending = s.pending ∧ t.cyc = s.cyc ∧ t.mdl = s.mdl
    ∧ t.meter = s.meter ∧ t.die = s.die ∧ t.tsu.time = s.tsu.time ∧ t.tsu.cfg = s.tsu.cfg ∧ t.phi.time = s.phi.time
    ∧ t.phi.cfg = s.phi.cfg ∧ t.hub.storage = s.hub.storage ∧ t.hub.fw.state = s.hub.fw.state
    ∧ t.hub.pairs = s.hub.pairs ∧ t.hub.led = s.hub.led ∧ t.hub.seqs = s.hub.seqs := by
  simp only [execTdcMeasureComplete] <;> (repeat' split) <;> first | (simp; done) | (simp [*]; done) | (refine gives_and ?_ (gives_and ?_ (gives_and ?_ (gives_and ?_ (gives_and ?_ (gives_and ?_ (gives_and ?_ (gives_and ?_ (gives_and ?_ (gives_and ?_ (gives_and ?_ (gives_and ?_ (gives_and ?_ ?_)))))))))))) <;> first | rfl | (simp; done) | (simp [*]; done))

@[simp] theorem execTdcMeasureComplete_keeps_tsu (chan : Nat) (starts : List RawEdge) (ends : List (List RawEdge)) (s : State) :
    gives (execTdcMeasureComplete .tsu chan starts ends s) fun t => t.phi = s.phi := by simp only [execTdcMeasureComplete] <;> (repeat' split) <;> first | rfl | (simp; done) | (simp [*]; done)

@[simp] theorem execTdcMeasureComplete_keeps_phi (chan : Nat) (starts : List RawEdge) (ends : List (List RawEdge)) (s : State) :
    gives (execTdcMeasureComplete .phi chan starts ends s) fun t => t.tsu = s.tsu := by simp only [execTdcMeasureComplete] <;> (repeat' split) <;> first | rfl | (simp; done) | (simp [*]; done)

@[simp] theorem execTdcMeasureTimeout_keeps (p : Part) (chan : Nat) (starts : List RawEdge) (ends : List (List RawEdge)) (s : State) :
    gives (execTdcMeasureTimeout p chan starts ends s) fun t => t.pending = s.pending ∧ t.cyc = s.cyc ∧ t.mdl = s.mdl
    ∧ t.meter = s.meter ∧ t.die = s.die ∧ t.tsu.time = s.tsu.time ∧ t.tsu.cfg = s.tsu.cfg ∧ t.phi.time = s.phi.time
    ∧ t.phi.cfg = s.phi.cfg ∧ t.hub.storage = s.hub.storage ∧ t.hub.fw.state = s.hub.fw.state
    ∧ t.hub.pairs = s.hub.pairs ∧ t.hub.led = s.hub.led ∧ t.hub.seqs = s.hub.seqs := by
  simp only [execTdcMeasureTimeout] <;> (repeat' split) <;> first | (simp; done) | (simp [*]; done) | (refine gives_and ?_ (gives_and ?_ (gives_and ?_ (gives_and ?_ (gives_and ?_ (gives_and ?_ (gives_and ?_ (gives_and ?_ (gives_and ?_ (gives_and ?_ (gives_and ?_ (gives_and ?_ (gives_and ?_ ?_)))))))))))) <;> first | rfl | (simp; done) | (simp [*]; done))

@[simp] theorem execTdcMeasureTimeout_keeps_tsu (chan : Nat) (starts : List RawEdge) (ends : List (List RawEdge)) (s : State) :
    gives (execTdcMeasureTimeout .tsu chan starts ends s) fun t => t.phi = s.phi := by simp only [execTdcMeasureTimeout] <;> (repeat' split) <;> first | rfl | (simp; done) | (simp [*]; done)

@[simp] theorem execTdcMeasureTimeout_keeps_phi (chan : Nat) (starts : List RawEdge) (ends : List (List RawEdge)) (s : State) :
    gives (execTdcMeasureTimeout .phi chan starts ends s) fun t => t.tsu = s.tsu := by simp only [execTdcMeasureTimeout] <;> (repeat' split) <;> first | rfl | (simp; done) | (simp [*]; done)

@[simp] theorem execRegionWatchResult_keeps (region : Nat) (starts : List RawEdge) (ends : List (List RawEdge)) (s : State) :
    gives (execRegionWatchResult region starts ends s) fun t => t.pending = s.pending ∧ t.cyc = s.cyc
    ∧ t.freeNext = s.freeNext ∧ t.mdl = s.mdl ∧ t.meter = s.meter ∧ t.hub = s.hub ∧ t.phi = s.phi
    ∧ t.tsu.time = s.tsu.time ∧ t.tsu.rings = s.tsu.rings ∧ t.tsu.cfg = s.tsu.cfg ∧ t.die.sync = s.die.sync
    ∧ t.die.launches = s.die.launches ∧ t.die.dig = s.die.dig ∧ t.die.binds = s.die.binds
    ∧ t.die.coreEn = s.die.coreEn := by
  simp only [execRegionWatchResult] <;> (repeat' split) <;> first | (simp; done) | (simp [*]; done) | (refine gives_and ?_ (gives_and ?_ (gives_and ?_ (gives_and ?_ (gives_and ?_ (gives_and ?_ (gives_and ?_ (gives_and ?_ (gives_and ?_ (gives_and ?_ (gives_and ?_ (gives_and ?_ (gives_and ?_ (gives_and ?_ ?_))))))))))))) <;> first | rfl | (simp; done) | (simp [*]; done))

end Sys2Proof.Machine
end

