-- ==== Sys2Proof/Laws/Clocking.lean ====
section
/-!
SUPPORT. What the operations and meanings of Machine/Clocking.lean leave unchanged.
-/

namespace Sys2Proof.Machine

@[simp] theorem execFastWakeRequest_keeps (s : State) :
    gives (execFastWakeRequest s) fun t => t.pending = s.pending ∧ t.cyc = s.cyc ∧ t.freeNext = s.freeNext
    ∧ t.out = s.out ∧ t.mdl = s.mdl ∧ t.meter = s.meter ∧ t.die = s.die ∧ t.hub = s.hub ∧ t.phi = s.phi
    ∧ t.tsu.time = s.tsu.time ∧ t.tsu.rings = s.tsu.rings ∧ t.tsu.cfg = s.tsu.cfg := by
  refine gives_and ?_ (gives_and ?_ (gives_and ?_ (gives_and ?_ (gives_and ?_ (gives_and ?_ (gives_and ?_ (gives_and ?_ (gives_and ?_ (gives_and ?_ (gives_and ?_ ?_)))))))))) <;> first | (simp [execFastWakeRequest]; done)

@[simp] theorem execSpinePllLock_keeps (p : Part) (s : State) :
    gives (execSpinePllLock p s) fun t => t.pending = s.pending ∧ t.cyc = s.cyc ∧ t.freeNext = s.freeNext
    ∧ t.out = s.out ∧ t.mdl = s.mdl ∧ t.meter = s.meter ∧ t.die = s.die ∧ t.hub = s.hub ∧ t.tsu.time = s.tsu.time
    ∧ t.tsu.rings = s.tsu.rings ∧ t.tsu.cfg = s.tsu.cfg ∧ t.phi.time = s.phi.time ∧ t.phi.rings = s.phi.rings
    ∧ t.phi.cfg = s.phi.cfg := by
  simp only [execSpinePllLock] <;> (repeat' split) <;> first | (simp; done) | (simp [*]; done) | (refine gives_and ?_ (gives_and ?_ (gives_and ?_ (gives_and ?_ (gives_and ?_ (gives_and ?_ (gives_and ?_ (gives_and ?_ (gives_and ?_ (gives_and ?_ (gives_and ?_ (gives_and ?_ (gives_and ?_ ?_)))))))))))) <;> first | rfl | (simp; done) | (simp [*]; done))

@[simp] theorem execSpinePllLock_keeps_tsu (s : State) :
    gives (execSpinePllLock .tsu s) fun t => t.phi = s.phi := by simp only [execSpinePllLock] <;> (repeat' split) <;> first | rfl | (simp; done) | (simp [*]; done)

@[simp] theorem execSpinePllLock_keeps_phi (s : State) :
    gives (execSpinePllLock .phi s) fun t => t.tsu = s.tsu := by simp only [execSpinePllLock] <;> (repeat' split) <;> first | rfl | (simp; done) | (simp [*]; done)

@[simp] theorem execSpinePllLockTimeout_keeps (p : Part) (s : State) :
    gives (execSpinePllLockTimeout p s) fun t => t.pending = s.pending ∧ t.cyc = s.cyc ∧ t.freeNext = s.freeNext
    ∧ t.mdl = s.mdl ∧ t.meter = s.meter ∧ t.die = s.die ∧ t.tsu.time = s.tsu.time ∧ t.tsu.rings = s.tsu.rings
    ∧ t.tsu.cfg = s.tsu.cfg ∧ t.phi.time = s.phi.time ∧ t.phi.rings = s.phi.rings ∧ t.phi.cfg = s.phi.cfg
    ∧ t.hub.storage = s.hub.storage ∧ t.hub.fw.state = s.hub.fw.state ∧ t.hub.pairs = s.hub.pairs
    ∧ t.hub.led = s.hub.led ∧ t.hub.seqs = s.hub.seqs := by
  simp only [execSpinePllLockTimeout] <;> (repeat' split) <;> first | (simp; done) | (simp [*]; done) | (refine gives_and ?_ (gives_and ?_ (gives_and ?_ (gives_and ?_ (gives_and ?_ (gives_and ?_ (gives_and ?_ (gives_and ?_ (gives_and ?_ (gives_and ?_ (gives_and ?_ (gives_and ?_ (gives_and ?_ (gives_and ?_ (gives_and ?_ (gives_and ?_ ?_))))))))))))))) <;> first | rfl | (simp; done) | (simp [*]; done))

@[simp] theorem execSpinePllLockTimeout_keeps_tsu (s : State) :
    gives (execSpinePllLockTimeout .tsu s) fun t => t.phi = s.phi := by simp only [execSpinePllLockTimeout] <;> (repeat' split) <;> first | rfl | (simp; done) | (simp [*]; done)

@[simp] theorem execSpinePllLockTimeout_keeps_phi (s : State) :
    gives (execSpinePllLockTimeout .phi s) fun t => t.tsu = s.tsu := by simp only [execSpinePllLockTimeout] <;> (repeat' split) <;> first | rfl | (simp; done) | (simp [*]; done)

@[simp] theorem execFastIdleExpiry_keeps (s : State) :
    gives (execFastIdleExpiry s) fun t => t.pending = s.pending ∧ t.cyc = s.cyc ∧ t.freeNext = s.freeNext
    ∧ t.out = s.out ∧ t.mdl = s.mdl ∧ t.meter = s.meter ∧ t.die = s.die ∧ t.hub = s.hub ∧ t.phi = s.phi
    ∧ t.tsu.time = s.tsu.time ∧ t.tsu.rings = s.tsu.rings ∧ t.tsu.cfg = s.tsu.cfg := by
  refine gives_and ?_ (gives_and ?_ (gives_and ?_ (gives_and ?_ (gives_and ?_ (gives_and ?_ (gives_and ?_ (gives_and ?_ (gives_and ?_ (gives_and ?_ (gives_and ?_ ?_)))))))))) <;> first | (simp [execFastIdleExpiry]; done)

@[simp] theorem State.fastForce_keeps (s : State) (v : Bool) :
    (State.fastForce s v).pending = s.pending ∧ (State.fastForce s v).cyc = s.cyc
    ∧ (State.fastForce s v).freeNext = s.freeNext ∧ (State.fastForce s v).out = s.out
    ∧ (State.fastForce s v).mdl = s.mdl ∧ (State.fastForce s v).meter = s.meter ∧ (State.fastForce s v).die = s.die
    ∧ (State.fastForce s v).hub = s.hub ∧ (State.fastForce s v).phi = s.phi
    ∧ (State.fastForce s v).tsu.time = s.tsu.time ∧ (State.fastForce s v).tsu.rings = s.tsu.rings
    ∧ (State.fastForce s v).tsu.cfg = s.tsu.cfg := by
  simp only [State.fastForce] <;> (repeat' split) <;> first | (simp; done) | (simp [*]; done) | (refine ⟨?_, ?_, ?_, ?_, ?_, ?_, ?_, ?_, ?_, ?_, ?_, ?_⟩ <;> first | rfl | (simp; done) | (simp [*]; done) | ((try simp); refine (foldl_pending _ _ _ fun s a => ?_).trans ?_ <;> (repeat' split) <;> first | with_reducible rfl | (simp; done) | (simp [*]; done)) | ((try simp); refine (foldl_cyc _ _ _ fun s a => ?_).trans ?_ <;> (repeat' split) <;> first | with_reducible rfl | (simp; done) | (simp [*]; done)) | ((try simp); refine (foldl_freeNext _ _ _ fun s a => ?_).trans ?_ <;> (repeat' split) <;> first | with_reducible rfl | (simp; done) | (simp [*]; done)) | ((try simp); refine (foldl_out _ _ _ fun s a => ?_).trans ?_ <;> (repeat' split) <;> first | with_reducible rfl | (simp; done) | (simp [*]; done)) | ((try simp); refine (foldl_mdl _ _ _ fun s a => ?_).trans ?_ <;> (repeat' split) <;> first | with_reducible rfl | (simp; done) | (simp [*]; done)) | ((try simp); refine (foldl_meter _ _ _ fun s a => ?_).trans ?_ <;> (repeat' split) <;> first | with_reducible rfl | (simp; done) | (simp [*]; done)) | ((try simp); refine (foldl_die _ _ _ fun s a => ?_).trans ?_ <;> (repeat' split) <;> first | with_reducible rfl | (simp; done) | (simp [*]; done)) | ((try simp); refine (foldl_hub _ _ _ fun s a => ?_).trans ?_ <;> (repeat' split) <;> first | with_reducible rfl | (simp; done) | (simp [*]; done)) | ((try simp); refine (foldl_phi _ _ _ fun s a => ?_).trans ?_ <;> (repeat' split) <;> first | with_reducible rfl | (simp; done) | (simp [*]; done)) | ((try simp); refine (foldl_tsu_time _ _ _ fun s a => ?_).trans ?_ <;> (repeat' split) <;> first | with_reducible rfl | (simp; done) | (simp [*]; done)) | ((try simp); refine (foldl_tsu_rings _ _ _ fun s a => ?_).trans ?_ <;> (repeat' split) <;> first | with_reducible rfl | (simp; done) | (simp [*]; done)) | ((try simp); refine (foldl_tsu_cfg _ _ _ fun s a => ?_).trans ?_ <;> (repeat' split) <;> first | with_reducible rfl | (simp; done) | (simp [*]; done)))

@[simp] theorem execFastForceWrite_keeps (v : Bool) (s : State) :
    gives (execFastForceWrite v s) fun t => t.pending = s.pending ∧ t.cyc = s.cyc ∧ t.freeNext = s.freeNext
    ∧ t.out = s.out ∧ t.mdl = s.mdl ∧ t.meter = s.meter ∧ t.die = s.die ∧ t.hub = s.hub ∧ t.phi = s.phi
    ∧ t.tsu.time = s.tsu.time ∧ t.tsu.rings = s.tsu.rings ∧ t.tsu.cfg = s.tsu.cfg := by
  refine gives_and ?_ (gives_and ?_ (gives_and ?_ (gives_and ?_ (gives_and ?_ (gives_and ?_ (gives_and ?_ (gives_and ?_ (gives_and ?_ (gives_and ?_ (gives_and ?_ ?_)))))))))) <;> first | (simp [execFastForceWrite]; done)

@[simp] theorem execSpineParity_keeps (region : Nat) (s : State) :
    gives (execSpineParity region s) fun t => t.pending = s.pending ∧ t.cyc = s.cyc ∧ t.freeNext = s.freeNext
    ∧ t.mdl = s.mdl ∧ t.meter = s.meter ∧ t.hub = s.hub ∧ t.phi = s.phi ∧ t.tsu.time = s.tsu.time
    ∧ t.tsu.rings = s.tsu.rings ∧ t.tsu.cfg = s.tsu.cfg ∧ t.die.sync = s.die.sync ∧ t.die.launches = s.die.launches
    ∧ t.die.dig = s.die.dig ∧ t.die.binds = s.die.binds ∧ t.die.coreEn = s.die.coreEn := by
  simp only [execSpineParity] <;> (repeat' split) <;> first | (simp; done) | (simp [*]; done) | (refine gives_and ?_ (gives_and ?_ (gives_and ?_ (gives_and ?_ (gives_and ?_ (gives_and ?_ (gives_and ?_ (gives_and ?_ (gives_and ?_ (gives_and ?_ (gives_and ?_ (gives_and ?_ (gives_and ?_ (gives_and ?_ ?_))))))))))))) <;> first | rfl | (simp; done) | (simp [*]; done))

@[simp] theorem execCoreHtRead_keeps (region : Nat) (core : Nat) (s : State) :
    gives (execCoreHtRead region core s) fun t => t.pending = s.pending ∧ t.cyc = s.cyc ∧ t.mdl = s.mdl
    ∧ t.meter = s.meter ∧ t.hub = s.hub ∧ t.tsu = s.tsu ∧ t.phi = s.phi ∧ t.die.sync = s.die.sync
    ∧ t.die.launches = s.die.launches ∧ t.die.dig = s.die.dig ∧ t.die.binds = s.die.binds
    ∧ t.die.coreEn = s.die.coreEn := by
  refine gives_and ?_ (gives_and ?_ (gives_and ?_ (gives_and ?_ (gives_and ?_ (gives_and ?_ (gives_and ?_ (gives_and ?_ (gives_and ?_ (gives_and ?_ (gives_and ?_ ?_)))))))))) <;> first | (simp [execCoreHtRead]; done)

@[simp] theorem State.endWaitHere_keeps (s : State) (k : Nat) (v : W32) :
    (State.endWaitHere s k v).pending = s.pending ∧ (State.endWaitHere s k v).cyc = s.cyc
    ∧ (State.endWaitHere s k v).freeNext = s.freeNext ∧ (State.endWaitHere s k v).mdl = s.mdl
    ∧ (State.endWaitHere s k v).meter = s.meter ∧ (State.endWaitHere s k v).hub = s.hub
    ∧ (State.endWaitHere s k v).phi = s.phi ∧ (State.endWaitHere s k v).tsu.time = s.tsu.time
    ∧ (State.endWaitHere s k v).tsu.rings = s.tsu.rings ∧ (State.endWaitHere s k v).tsu.cfg = s.tsu.cfg
    ∧ (State.endWaitHere s k v).die.launches = s.die.launches ∧ (State.endWaitHere s k v).die.dig = s.die.dig
    ∧ (State.endWaitHere s k v).die.binds = s.die.binds ∧ (State.endWaitHere s k v).die.coreEn = s.die.coreEn := by
  refine ⟨?_, ?_, ?_, ?_, ?_, ?_, ?_, ?_, ?_, ?_, ?_, ?_, ?_, ?_⟩ <;> first | (simp [State.endWaitHere]; done)

@[simp] theorem State.consumeEdge_keeps (s : State) (r : Nat) (e : Nat × W32) :
    (State.consumeEdge s r e).pending = s.pending ∧ (State.consumeEdge s r e).cyc = s.cyc
    ∧ (State.consumeEdge s r e).freeNext = s.freeNext ∧ (State.consumeEdge s r e).mdl = s.mdl
    ∧ (State.consumeEdge s r e).meter = s.meter ∧ (State.consumeEdge s r e).hub = s.hub
    ∧ (State.consumeEdge s r e).phi = s.phi ∧ (State.consumeEdge s r e).tsu.time = s.tsu.time
    ∧ (State.consumeEdge s r e).tsu.rings = s.tsu.rings ∧ (State.consumeEdge s r e).tsu.cfg = s.tsu.cfg
    ∧ (State.consumeEdge s r e).die.launches = s.die.launches ∧ (State.consumeEdge s r e).die.dig = s.die.dig
    ∧ (State.consumeEdge s r e).die.binds = s.die.binds ∧ (State.consumeEdge s r e).die.coreEn = s.die.coreEn := by
  refine ⟨?_, ?_, ?_, ?_, ?_, ?_, ?_, ?_, ?_, ?_, ?_, ?_, ?_, ?_⟩ <;> first | (simp [State.consumeEdge]; done)

@[simp] theorem State.strobeSlack_keeps (s : State) (r : Nat) (l : W64) (started : List SlotRef) :
    (State.strobeSlack s r l started).pending = s.pending ∧ (State.strobeSlack s r l started).cyc = s.cyc
    ∧ (State.strobeSlack s r l started).freeNext = s.freeNext ∧ (State.strobeSlack s r l started).out = s.out
    ∧ (State.strobeSlack s r l started).mdl = s.mdl ∧ (State.strobeSlack s r l started).meter = s.meter
    ∧ (State.strobeSlack s r l started).hub = s.hub ∧ (State.strobeSlack s r l started).phi = s.phi
    ∧ (State.strobeSlack s r l started).tsu.time = s.tsu.time
    ∧ (State.strobeSlack s r l started).tsu.rings = s.tsu.rings
    ∧ (State.strobeSlack s r l started).tsu.cfg = s.tsu.cfg
    ∧ (State.strobeSlack s r l started).die.sync = s.die.sync
    ∧ (State.strobeSlack s r l started).die.launches = s.die.launches
    ∧ (State.strobeSlack s r l started).die.dig = s.die.dig
    ∧ (State.strobeSlack s r l started).die.binds = s.die.binds
    ∧ (State.strobeSlack s r l started).die.coreEn = s.die.coreEn := by
  simp only [State.strobeSlack] <;> (repeat' split) <;> first | (simp; done) | (simp [*]; done) | (refine ⟨?_, ?_, ?_, ?_, ?_, ?_, ?_, ?_, ?_, ?_, ?_, ?_, ?_, ?_, ?_, ?_⟩ <;> first | rfl | (simp; done) | (simp [*]; done))

@[simp] theorem State.consumeStrobe_keeps (s : State) (r : Nat) (l : W64) :
    (State.consumeStrobe s r l).pending = s.pending ∧ (State.consumeStrobe s r l).cyc = s.cyc
    ∧ (State.consumeStrobe s r l).freeNext = s.freeNext ∧ (State.consumeStrobe s r l).mdl = s.mdl
    ∧ (State.consumeStrobe s r l).meter = s.meter ∧ (State.consumeStrobe s r l).hub = s.hub
    ∧ (State.consumeStrobe s r l).phi = s.phi ∧ (State.consumeStrobe s r l).tsu.time = s.tsu.time
    ∧ (State.consumeStrobe s r l).tsu.rings = s.tsu.rings ∧ (State.consumeStrobe s r l).tsu.cfg = s.tsu.cfg
    ∧ (State.consumeStrobe s r l).die.sync = s.die.sync ∧ (State.consumeStrobe s r l).die.launches = s.die.launches
    ∧ (State.consumeStrobe s r l).die.dig = s.die.dig ∧ (State.consumeStrobe s r l).die.binds = s.die.binds
    ∧ (State.consumeStrobe s r l).die.coreEn = s.die.coreEn := by
  refine ⟨?_, ?_, ?_, ?_, ?_, ?_, ?_, ?_, ?_, ?_, ?_, ?_, ?_, ?_, ?_⟩ <;> first | (simp [State.consumeStrobe]; done)

@[simp] theorem execRegionFifoConsume_keeps (region : Nat) (s : State) :
    gives (execRegionFifoConsume region s) fun t => t.pending = s.pending ∧ t.cyc = s.cyc ∧ t.freeNext = s.freeNext
    ∧ t.mdl = s.mdl ∧ t.meter = s.meter ∧ t.hub = s.hub ∧ t.phi = s.phi ∧ t.tsu.time = s.tsu.time
    ∧ t.tsu.rings = s.tsu.rings ∧ t.tsu.cfg = s.tsu.cfg ∧ t.die.launches = s.die.launches ∧ t.die.dig = s.die.dig
    ∧ t.die.binds = s.die.binds ∧ t.die.coreEn = s.die.coreEn := by
  simp only [execRegionFifoConsume] <;> (repeat' split) <;> first | (simp; done) | (simp [*]; done) | (refine gives_and ?_ (gives_and ?_ (gives_and ?_ (gives_and ?_ (gives_and ?_ (gives_and ?_ (gives_and ?_ (gives_and ?_ (gives_and ?_ (gives_and ?_ (gives_and ?_ (gives_and ?_ (gives_and ?_ ?_)))))))))))) <;> first | rfl | (simp; done) | (simp [*]; done))

@[simp] theorem execCrossingSlip_keeps (region : Nat) (s : State) :
    gives (execCrossingSlip region s) fun t => t.pending = s.pending ∧ t.cyc = s.cyc ∧ t.freeNext = s.freeNext
    ∧ t.mdl = s.mdl ∧ t.meter = s.meter ∧ t.hub = s.hub ∧ t.phi = s.phi ∧ t.tsu.time = s.tsu.time
    ∧ t.tsu.rings = s.tsu.rings ∧ t.tsu.cfg = s.tsu.cfg ∧ t.die.sync = s.die.sync ∧ t.die.launches = s.die.launches
    ∧ t.die.dig = s.die.dig ∧ t.die.binds = s.die.binds ∧ t.die.coreEn = s.die.coreEn := by
  simp only [execCrossingSlip] <;> (repeat' split) <;> first | (simp; done) | (simp [*]; done) | (refine gives_and ?_ (gives_and ?_ (gives_and ?_ (gives_and ?_ (gives_and ?_ (gives_and ?_ (gives_and ?_ (gives_and ?_ (gives_and ?_ (gives_and ?_ (gives_and ?_ (gives_and ?_ (gives_and ?_ (gives_and ?_ ?_))))))))))))) <;> first | rfl | (simp; done) | (simp [*]; done))

@[simp] theorem execRegionPowerChange_keeps (region : Nat) (off : Bool) (s : State) :
    gives (execRegionPowerChange region off s) fun t => t.pending = s.pending ∧ t.cyc = s.cyc ∧ t.freeNext = s.freeNext
    ∧ t.out = s.out ∧ t.mdl = s.mdl ∧ t.meter = s.meter ∧ t.hub = s.hub ∧ t.tsu = s.tsu ∧ t.phi = s.phi
    ∧ t.die.sync = s.die.sync ∧ t.die.launches = s.die.launches ∧ t.die.dig = s.die.dig ∧ t.die.binds = s.die.binds
    ∧ t.die.coreEn = s.die.coreEn := by
  refine gives_and ?_ (gives_and ?_ (gives_and ?_ (gives_and ?_ (gives_and ?_ (gives_and ?_ (gives_and ?_ (gives_and ?_ (gives_and ?_ (gives_and ?_ (gives_and ?_ (gives_and ?_ (gives_and ?_ ?_)))))))))))) <;> first | (simp [execRegionPowerChange]; done)

@[simp] theorem execStretchEvent_keeps (region : Nat) (count : Nat) (s : State) :
    gives (execStretchEvent region count s) fun t => t.pending = s.pending ∧ t.cyc = s.cyc ∧ t.freeNext = s.freeNext
    ∧ t.out = s.out ∧ t.mdl = s.mdl ∧ t.meter = s.meter ∧ t.hub = s.hub ∧ t.phi = s.phi ∧ t.tsu.time = s.tsu.time
    ∧ t.tsu.rings = s.tsu.rings ∧ t.tsu.cfg = s.tsu.cfg ∧ t.die.sync = s.die.sync ∧ t.die.launches = s.die.launches
    ∧ t.die.dig = s.die.dig ∧ t.die.binds = s.die.binds ∧ t.die.coreEn = s.die.coreEn := by
  refine gives_and ?_ (gives_and ?_ (gives_and ?_ (gives_and ?_ (gives_and ?_ (gives_and ?_ (gives_and ?_ (gives_and ?_ (gives_and ?_ (gives_and ?_ (gives_and ?_ (gives_and ?_ (gives_and ?_ (gives_and ?_ (gives_and ?_ ?_)))))))))))))) <;> first | (simp [execStretchEvent]; done)

@[simp] theorem State.applyCals_keeps (s : State) :
    (State.applyCals s).pending = s.pending ∧ (State.applyCals s).cyc = s.cyc
    ∧ (State.applyCals s).freeNext = s.freeNext ∧ (State.applyCals s).out = s.out ∧ (State.applyCals s).mdl = s.mdl
    ∧ (State.applyCals s).meter = s.meter ∧ (State.applyCals s).hub = s.hub ∧ (State.applyCals s).tsu = s.tsu
    ∧ (State.applyCals s).phi = s.phi ∧ (State.applyCals s).die.sync = s.die.sync
    ∧ (State.applyCals s).die.launches = s.die.launches ∧ (State.applyCals s).die.dig = s.die.dig
    ∧ (State.applyCals s).die.binds = s.die.binds ∧ (State.applyCals s).die.coreEn = s.die.coreEn := by
  refine ⟨?_, ?_, ?_, ?_, ?_, ?_, ?_, ?_, ?_, ?_, ?_, ?_, ?_, ?_⟩ <;> first | (simp [State.applyCals]; done)

@[simp] theorem State.takeCal_keeps (s : State) (c : RegionCal) :
    (State.takeCal s c).pending = s.pending ∧ (State.takeCal s c).cyc = s.cyc
    ∧ (State.takeCal s c).freeNext = s.freeNext ∧ (State.takeCal s c).mdl = s.mdl
    ∧ (State.takeCal s c).meter = s.meter ∧ (State.takeCal s c).hub = s.hub ∧ (State.takeCal s c).phi = s.phi
    ∧ (State.takeCal s c).tsu.time = s.tsu.time ∧ (State.takeCal s c).tsu.rings = s.tsu.rings
    ∧ (State.takeCal s c).tsu.cfg = s.tsu.cfg ∧ (State.takeCal s c).die.sync = s.die.sync
    ∧ (State.takeCal s c).die.launches = s.die.launches ∧ (State.takeCal s c).die.dig = s.die.dig
    ∧ (State.takeCal s c).die.binds = s.die.binds ∧ (State.takeCal s c).die.coreEn = s.die.coreEn := by
  refine ⟨?_, ?_, ?_, ?_, ?_, ?_, ?_, ?_, ?_, ?_, ?_, ?_, ?_, ?_, ?_⟩ <;> first | (simp [State.takeCal]; done)

@[simp] theorem execSpineCalRunComplete_keeps (runs : List RegionCal) (s : State) :
    gives (execSpineCalRunComplete runs s) fun t => t.pending = s.pending ∧ t.cyc = s.cyc ∧ t.freeNext = s.freeNext
    ∧ t.mdl = s.mdl ∧ t.meter = s.meter ∧ t.hub = s.hub ∧ t.phi = s.phi ∧ t.tsu.time = s.tsu.time
    ∧ t.tsu.rings = s.tsu.rings ∧ t.tsu.cfg = s.tsu.cfg ∧ t.die.sync = s.die.sync ∧ t.die.launches = s.die.launches
    ∧ t.die.dig = s.die.dig ∧ t.die.binds = s.die.binds ∧ t.die.coreEn = s.die.coreEn := by
  refine gives_and ?_ (gives_and ?_ (gives_and ?_ (gives_and ?_ (gives_and ?_ (gives_and ?_ (gives_and ?_ (gives_and ?_ (gives_and ?_ (gives_and ?_ (gives_and ?_ (gives_and ?_ (gives_and ?_ (gives_and ?_ ?_))))))))))))) <;> first | (simp [execSpineCalRunComplete]; done)

@[simp] theorem execSpineRecalTimer_keeps (s : State) :
    gives (execSpineRecalTimer s) fun t => t.pending = s.pending ∧ t.cyc = s.cyc ∧ t.freeNext = s.freeNext
    ∧ t.out = s.out ∧ t.mdl = s.mdl ∧ t.meter = s.meter ∧ t.hub = s.hub ∧ t.tsu = s.tsu ∧ t.phi = s.phi
    ∧ t.die.sync = s.die.sync ∧ t.die.launches = s.die.launches ∧ t.die.dig = s.die.dig ∧ t.die.binds = s.die.binds
    ∧ t.die.coreEn = s.die.coreEn := by
  refine gives_and ?_ (gives_and ?_ (gives_and ?_ (gives_and ?_ (gives_and ?_ (gives_and ?_ (gives_and ?_ (gives_and ?_ (gives_and ?_ (gives_and ?_ (gives_and ?_ (gives_and ?_ (gives_and ?_ ?_)))))))))))) <;> first | (simp [execSpineRecalTimer]; done)

end Sys2Proof.Machine
end

