-- ==== Sys2Proof/Laws/HubOps.lean ====
section
/-!
SUPPORT. What the operations and meanings of Machine/HubOps.lean leave unchanged.
-/

namespace Sys2Proof.Machine

@[simp] theorem State.updSeq_keeps (s : State) (b : Nat) (f : Seq → Seq) :
    (State.updSeq s b f).pending = s.pending ∧ (State.updSeq s b f).cyc = s.cyc
    ∧ (State.updSeq s b f).freeNext = s.freeNext ∧ (State.updSeq s b f).out = s.out
    ∧ (State.updSeq s b f).mdl = s.mdl ∧ (State.updSeq s b f).meter = s.meter ∧ (State.updSeq s b f).die = s.die
    ∧ (State.updSeq s b f).tsu = s.tsu ∧ (State.updSeq s b f).phi = s.phi
    ∧ (State.updSeq s b f).hub.storage = s.hub.storage ∧ (State.updSeq s b f).hub.fw.state = s.hub.fw.state
    ∧ (State.updSeq s b f).hub.pairs = s.hub.pairs ∧ (State.updSeq s b f).hub.led = s.hub.led := by
  refine ⟨?_, ?_, ?_, ?_, ?_, ?_, ?_, ?_, ?_, ?_, ?_, ?_, ?_⟩ <;> first | (simp [State.updSeq]; done)

@[simp] theorem State.updPath_keeps (s : State) (b : Nat) (g : Nat) (f : List PathMember → List PathMember) :
    (State.updPath s b g f).pending = s.pending ∧ (State.updPath s b g f).cyc = s.cyc
    ∧ (State.updPath s b g f).freeNext = s.freeNext ∧ (State.updPath s b g f).out = s.out
    ∧ (State.updPath s b g f).mdl = s.mdl ∧ (State.updPath s b g f).meter = s.meter
    ∧ (State.updPath s b g f).die = s.die ∧ (State.updPath s b g f).tsu = s.tsu
    ∧ (State.updPath s b g f).phi = s.phi ∧ (State.updPath s b g f).hub.storage = s.hub.storage
    ∧ (State.updPath s b g f).hub.fw.state = s.hub.fw.state ∧ (State.updPath s b g f).hub.pairs = s.hub.pairs
    ∧ (State.updPath s b g f).hub.led = s.hub.led ∧ (State.updPath s b g f).hub.seqs = s.hub.seqs := by
  refine ⟨?_, ?_, ?_, ?_, ?_, ?_, ?_, ?_, ?_, ?_, ?_, ?_, ?_, ?_⟩ <;> first | (simp [State.updPath]; done)

@[simp] theorem State.learnRoute_keeps (s : State) (die : Nat) (port : Nat) :
    (State.learnRoute s die port).pending = s.pending ∧ (State.learnRoute s die port).cyc = s.cyc
    ∧ (State.learnRoute s die port).freeNext = s.freeNext ∧ (State.learnRoute s die port).out = s.out
    ∧ (State.learnRoute s die port).mdl = s.mdl ∧ (State.learnRoute s die port).meter = s.meter
    ∧ (State.learnRoute s die port).die = s.die ∧ (State.learnRoute s die port).tsu = s.tsu
    ∧ (State.learnRoute s die port).phi = s.phi ∧ (State.learnRoute s die port).hub.storage = s.hub.storage
    ∧ (State.learnRoute s die port).hub.fw.state = s.hub.fw.state
    ∧ (State.learnRoute s die port).hub.pairs = s.hub.pairs ∧ (State.learnRoute s die port).hub.led = s.hub.led
    ∧ (State.learnRoute s die port).hub.seqs = s.hub.seqs := by
  refine ⟨?_, ?_, ?_, ?_, ?_, ?_, ?_, ?_, ?_, ?_, ?_, ?_, ?_, ?_⟩ <;> first | (simp [State.learnRoute]; done)

@[simp] theorem State.sendBasin_keeps (s : State) (ports : List Nat) (b : Nat) (g : Nat) (pl : Payload) :
    (State.sendBasin s ports b g pl).pending = s.pending ∧ (State.sendBasin s ports b g pl).cyc = s.cyc
    ∧ (State.sendBasin s ports b g pl).freeNext = s.freeNext ∧ (State.sendBasin s ports b g pl).out = s.out
    ∧ (State.sendBasin s ports b g pl).mdl = s.mdl ∧ (State.sendBasin s ports b g pl).meter = s.meter
    ∧ (State.sendBasin s ports b g pl).die = s.die ∧ (State.sendBasin s ports b g pl).hub = s.hub
    ∧ (State.sendBasin s ports b g pl).tsu = s.tsu ∧ (State.sendBasin s ports b g pl).phi.time = s.phi.time
    ∧ (State.sendBasin s ports b g pl).phi.rings = s.phi.rings
    ∧ (State.sendBasin s ports b g pl).phi.cfg = s.phi.cfg := by
  refine ⟨?_, ?_, ?_, ?_, ?_, ?_, ?_, ?_, ?_, ?_, ?_, ?_⟩ <;> first | (simp [State.sendBasin]; done)

@[simp] theorem State.sendMemberTo_keeps (s : State) (b : Nat) (g : Nat) (action : Nat) (tear : Bool) (step : StepNo) (die : Nat) :
    (State.sendMemberTo s b g action tear step die).pending = s.pending
    ∧ (State.sendMemberTo s b g action tear step die).cyc = s.cyc
    ∧ (State.sendMemberTo s b g action tear step die).freeNext = s.freeNext
    ∧ (State.sendMemberTo s b g action tear step die).out = s.out
    ∧ (State.sendMemberTo s b g action tear step die).mdl = s.mdl
    ∧ (State.sendMemberTo s b g action tear step die).meter = s.meter
    ∧ (State.sendMemberTo s b g action tear step die).die = s.die
    ∧ (State.sendMemberTo s b g action tear step die).tsu = s.tsu
    ∧ (State.sendMemberTo s b g action tear step die).phi.time = s.phi.time
    ∧ (State.sendMemberTo s b g action tear step die).phi.rings = s.phi.rings
    ∧ (State.sendMemberTo s b g action tear step die).phi.cfg = s.phi.cfg
    ∧ (State.sendMemberTo s b g action tear step die).hub.storage = s.hub.storage
    ∧ (State.sendMemberTo s b g action tear step die).hub.fw.state = s.hub.fw.state
    ∧ (State.sendMemberTo s b g action tear step die).hub.pairs = s.hub.pairs
    ∧ (State.sendMemberTo s b g action tear step die).hub.led = s.hub.led
    ∧ (State.sendMemberTo s b g action tear step die).hub.seqs = s.hub.seqs := by
  refine ⟨?_, ?_, ?_, ?_, ?_, ?_, ?_, ?_, ?_, ?_, ?_, ?_, ?_, ?_, ?_, ?_⟩ <;> first | (simp [State.sendMemberTo]; done)

@[simp] theorem State.dropPatch_keeps (s : State) (b : Nat) :
    (State.dropPatch s b).pending = s.pending ∧ (State.dropPatch s b).cyc = s.cyc ∧ (State.dropPatch s b).mdl = s.mdl
    ∧ (State.dropPatch s b).meter = s.meter ∧ (State.dropPatch s b).die = s.die ∧ (State.dropPatch s b).tsu = s.tsu
    ∧ (State.dropPatch s b).phi.time = s.phi.time ∧ (State.dropPatch s b).phi.cfg = s.phi.cfg
    ∧ (State.dropPatch s b).hub.storage = s.hub.storage ∧ (State.dropPatch s b).hub.fw.state = s.hub.fw.state
    ∧ (State.dropPatch s b).hub.pairs = s.hub.pairs ∧ (State.dropPatch s b).hub.led = s.hub.led := by
  simp only [State.dropPatch] <;> (repeat' split) <;> first | (simp; done) | (simp [*]; done) | (refine ⟨?_, ?_, ?_, ?_, ?_, ?_, ?_, ?_, ?_, ?_, ?_, ?_⟩ <;> first | rfl | (simp; done) | (simp [*]; done))

@[simp] theorem State.tideFault_keeps (s : State) (b : Nat) (reason : Nat) :
    (State.tideFault s b reason).pending = s.pending ∧ (State.tideFault s b reason).cyc = s.cyc
    ∧ (State.tideFault s b reason).freeNext = s.freeNext ∧ (State.tideFault s b reason).mdl = s.mdl
    ∧ (State.tideFault s b reason).meter = s.meter ∧ (State.tideFault s b reason).die = s.die := by
  refine ⟨?_, ?_, ?_, ?_, ?_, ?_⟩ <;> first | (induction b generalizing s <;> simp_all [State.tideFault]; done)

@[simp] theorem State.tideFault_keeps2 (s : State) (b : Nat) (reason : Nat) :
    (State.tideFault s b reason).tsu = s.tsu ∧ (State.tideFault s b reason).phi.time = s.phi.time
    ∧ (State.tideFault s b reason).phi.rings = s.phi.rings ∧ (State.tideFault s b reason).phi.cfg = s.phi.cfg
    ∧ (State.tideFault s b reason).hub.storage = s.hub.storage
    ∧ (State.tideFault s b reason).hub.fw.state = s.hub.fw.state := by
  refine ⟨?_, ?_, ?_, ?_, ?_, ?_⟩ <;> first | (induction b generalizing s <;> simp_all [State.tideFault]; done)

@[simp] theorem State.tideFault_keeps3 (s : State) (b : Nat) (reason : Nat) :
    (State.tideFault s b reason).hub.pairs = s.hub.pairs ∧ (State.tideFault s b reason).hub.led = s.hub.led
    ∧ (State.tideFault s b reason).hub.seqs = s.hub.seqs := by
  refine ⟨?_, ?_, ?_⟩ <;> first | (induction b generalizing s <;> simp_all [State.tideFault]; done)

@[simp] theorem State.tearDown_keeps (s : State) (b : Nat) :
    (State.tearDown s b).pending = s.pending ∧ (State.tearDown s b).cyc = s.cyc ∧ (State.tearDown s b).mdl = s.mdl
    ∧ (State.tearDown s b).meter = s.meter ∧ (State.tearDown s b).die = s.die ∧ (State.tearDown s b).tsu = s.tsu
    ∧ (State.tearDown s b).phi.time = s.phi.time ∧ (State.tearDown s b).phi.cfg = s.phi.cfg
    ∧ (State.tearDown s b).hub.storage = s.hub.storage ∧ (State.tearDown s b).hub.fw.state = s.hub.fw.state
    ∧ (State.tearDown s b).hub.pairs = s.hub.pairs ∧ (State.tearDown s b).hub.led = s.hub.led := by
  simp only [State.tearDown] <;> (repeat' split) <;> first | (simp; done) | (simp [*]; done) | (refine ⟨?_, ?_, ?_, ?_, ?_, ?_, ?_, ?_, ?_, ?_, ?_, ?_⟩ <;> first | rfl | (simp; done) | (simp [*]; done))

@[simp] theorem State.tearIfDue_keeps (s : State) (b : Nat) :
    (State.tearIfDue s b).pending = s.pending ∧ (State.tearIfDue s b).cyc = s.cyc ∧ (State.tearIfDue s b).mdl = s.mdl
    ∧ (State.tearIfDue s b).meter = s.meter ∧ (State.tearIfDue s b).die = s.die ∧ (State.tearIfDue s b).tsu = s.tsu
    ∧ (State.tearIfDue s b).phi.time = s.phi.time ∧ (State.tearIfDue s b).phi.cfg = s.phi.cfg
    ∧ (State.tearIfDue s b).hub.storage = s.hub.storage ∧ (State.tearIfDue s b).hub.fw.state = s.hub.fw.state
    ∧ (State.tearIfDue s b).hub.pairs = s.hub.pairs ∧ (State.tearIfDue s b).hub.led = s.hub.led := by
  refine ⟨?_, ?_, ?_, ?_, ?_, ?_, ?_, ?_, ?_, ?_, ?_, ?_⟩ <;> first | (simp [State.tearIfDue]; done)

@[simp] theorem State.enterParked_keeps (s : State) (b : Nat) (r : Nat × Nat) :
    (State.enterParked s b r).pending = s.pending ∧ (State.enterParked s b r).cyc = s.cyc
    ∧ (State.enterParked s b r).mdl = s.mdl ∧ (State.enterParked s b r).meter = s.meter
    ∧ (State.enterParked s b r).die = s.die ∧ (State.enterParked s b r).tsu = s.tsu
    ∧ (State.enterParked s b r).phi.time = s.phi.time ∧ (State.enterParked s b r).phi.cfg = s.phi.cfg
    ∧ (State.enterParked s b r).hub.storage = s.hub.storage
    ∧ (State.enterParked s b r).hub.fw.state = s.hub.fw.state ∧ (State.enterParked s b r).hub.pairs = s.hub.pairs
    ∧ (State.enterParked s b r).hub.led = s.hub.led := by
  refine ⟨?_, ?_, ?_, ?_, ?_, ?_, ?_, ?_, ?_, ?_, ?_, ?_⟩ <;> first | (simp [State.enterParked]; done)

@[simp] theorem State.enterEnded_keeps (s : State) (b : Nat) :
    (State.enterEnded s b).pending = s.pending ∧ (State.enterEnded s b).cyc = s.cyc ∧ (State.enterEnded s b).mdl = s.mdl
    ∧ (State.enterEnded s b).meter = s.meter ∧ (State.enterEnded s b).die = s.die
    ∧ (State.enterEnded s b).tsu = s.tsu ∧ (State.enterEnded s b).phi.time = s.phi.time
    ∧ (State.enterEnded s b).phi.cfg = s.phi.cfg ∧ (State.enterEnded s b).hub.storage = s.hub.storage
    ∧ (State.enterEnded s b).hub.fw.state = s.hub.fw.state ∧ (State.enterEnded s b).hub.pairs = s.hub.pairs
    ∧ (State.enterEnded s b).hub.led = s.hub.led := by
  refine ⟨?_, ?_, ?_, ?_, ?_, ?_, ?_, ?_, ?_, ?_, ?_, ?_⟩ <;> first | (simp [State.enterEnded]; done)

@[simp] theorem State.rest_keeps (s : State) (b : Nat) :
    (State.rest s b).pending = s.pending ∧ (State.rest s b).cyc = s.cyc ∧ (State.rest s b).mdl = s.mdl
    ∧ (State.rest s b).meter = s.meter ∧ (State.rest s b).die = s.die ∧ (State.rest s b).tsu = s.tsu
    ∧ (State.rest s b).phi.time = s.phi.time ∧ (State.rest s b).phi.cfg = s.phi.cfg
    ∧ (State.rest s b).hub.storage = s.hub.storage ∧ (State.rest s b).hub.fw.state = s.hub.fw.state
    ∧ (State.rest s b).hub.pairs = s.hub.pairs ∧ (State.rest s b).hub.led = s.hub.led := by
  simp only [State.rest] <;> (repeat' split) <;> first | (simp; done) | (simp [*]; done) | (refine ⟨?_, ?_, ?_, ?_, ?_, ?_, ?_, ?_, ?_, ?_, ?_, ?_⟩ <;> first | rfl | (simp; done) | (simp [*]; done))

@[simp] theorem State.park_keeps (s : State) (b : Nat) (reason : Nat) (arg : Nat) :
    (State.park s b reason arg).pending = s.pending ∧ (State.park s b reason arg).cyc = s.cyc
    ∧ (State.park s b reason arg).mdl = s.mdl ∧ (State.park s b reason arg).meter = s.meter
    ∧ (State.park s b reason arg).die = s.die ∧ (State.park s b reason arg).tsu = s.tsu
    ∧ (State.park s b reason arg).phi.time = s.phi.time ∧ (State.park s b reason arg).phi.cfg = s.phi.cfg
    ∧ (State.park s b reason arg).hub.storage = s.hub.storage
    ∧ (State.park s b reason arg).hub.fw.state = s.hub.fw.state
    ∧ (State.park s b reason arg).hub.pairs = s.hub.pairs ∧ (State.park s b reason arg).hub.led = s.hub.led := by
  simp only [State.park] <;> (repeat' split) <;> first | (simp; done) | (simp [*]; done) | (refine ⟨?_, ?_, ?_, ?_, ?_, ?_, ?_, ?_, ?_, ?_, ?_, ?_⟩ <;> first | rfl | (simp; done) | (simp [*]; done))

@[simp] theorem State.parkFirm_keeps (s : State) (b : Nat) (reason : Nat) (arg : Nat) :
    (State.parkFirm s b reason arg).pending = s.pending ∧ (State.parkFirm s b reason arg).cyc = s.cyc
    ∧ (State.parkFirm s b reason arg).mdl = s.mdl ∧ (State.parkFirm s b reason arg).meter = s.meter
    ∧ (State.parkFirm s b reason arg).die = s.die ∧ (State.parkFirm s b reason arg).tsu = s.tsu
    ∧ (State.parkFirm s b reason arg).phi.time = s.phi.time ∧ (State.parkFirm s b reason arg).phi.cfg = s.phi.cfg
    ∧ (State.parkFirm s b reason arg).hub.storage = s.hub.storage
    ∧ (State.parkFirm s b reason arg).hub.fw.state = s.hub.fw.state
    ∧ (State.parkFirm s b reason arg).hub.pairs = s.hub.pairs ∧ (State.parkFirm s b reason arg).hub.led = s.hub.led := by
  simp only [State.parkFirm] <;> (repeat' split) <;> first | (simp; done) | (simp [*]; done) | (refine ⟨?_, ?_, ?_, ?_, ?_, ?_, ?_, ?_, ?_, ?_, ?_, ?_⟩ <;> first | rfl | (simp; done) | (simp [*]; done))

@[simp] theorem State.bells_keeps (s : State) (b : Nat) (event : Nat) (n : Nat) :
    (State.bells s b event n).pending = s.pending ∧ (State.bells s b event n).cyc = s.cyc
    ∧ (State.bells s b event n).freeNext = s.freeNext ∧ (State.bells s b event n).out = s.out
    ∧ (State.bells s b event n).mdl = s.mdl ∧ (State.bells s b event n).meter = s.meter
    ∧ (State.bells s b event n).die = s.die ∧ (State.bells s b event n).hub = s.hub
    ∧ (State.bells s b event n).tsu = s.tsu ∧ (State.bells s b event n).phi.time = s.phi.time
    ∧ (State.bells s b event n).phi.rings = s.phi.rings ∧ (State.bells s b event n).phi.cfg = s.phi.cfg := by
  refine ⟨?_, ?_, ?_, ?_, ?_, ?_, ?_, ?_, ?_, ?_, ?_, ?_⟩ <;> first | (simp [State.bells]; done)

@[simp] theorem State.retireBells_keeps (s : State) (b : Nat) (i : Issued) :
    (State.retireBells s b i).pending = s.pending ∧ (State.retireBells s b i).cyc = s.cyc
    ∧ (State.retireBells s b i).freeNext = s.freeNext ∧ (State.retireBells s b i).out = s.out
    ∧ (State.retireBells s b i).mdl = s.mdl ∧ (State.retireBells s b i).meter = s.meter
    ∧ (State.retireBells s b i).die = s.die ∧ (State.retireBells s b i).hub = s.hub
    ∧ (State.retireBells s b i).tsu = s.tsu ∧ (State.retireBells s b i).phi.time = s.phi.time
    ∧ (State.retireBells s b i).phi.rings = s.phi.rings ∧ (State.retireBells s b i).phi.cfg = s.phi.cfg := by
  refine ⟨?_, ?_, ?_, ?_, ?_, ?_, ?_, ?_, ?_, ?_, ?_, ?_⟩ <;> first | (simp [State.retireBells]; done)

@[simp] theorem State.settle_keeps (s : State) (b : Nat) (x2 : Nat) :
    (State.settle s b x2).pending = s.pending ∧ (State.settle s b x2).cyc = s.cyc
    ∧ (State.settle s b x2).freeNext = s.freeNext ∧ (State.settle s b x2).out = s.out
    ∧ (State.settle s b x2).mdl = s.mdl ∧ (State.settle s b x2).meter = s.meter := by
  refine ⟨?_, ?_, ?_, ?_, ?_, ?_⟩ <;> first | (induction x2 generalizing s <;> simp only [State.settle] <;> (repeat' split) <;> simp_all; done)

@[simp] theorem State.settle_keeps2 (s : State) (b : Nat) (x2 : Nat) :
    (State.settle s b x2).die = s.die ∧ (State.settle s b x2).tsu = s.tsu ∧ (State.settle s b x2).phi.time = s.phi.time
    ∧ (State.settle s b x2).phi.rings = s.phi.rings ∧ (State.settle s b x2).phi.cfg = s.phi.cfg
    ∧ (State.settle s b x2).hub.storage = s.hub.storage := by
  refine ⟨?_, ?_, ?_, ?_, ?_, ?_⟩ <;> first | (induction x2 generalizing s <;> simp only [State.settle] <;> (repeat' split) <;> simp_all; done)

@[simp] theorem State.settle_keeps3 (s : State) (b : Nat) (x2 : Nat) :
    (State.settle s b x2).hub.fw.state = s.hub.fw.state ∧ (State.settle s b x2).hub.pairs = s.hub.pairs
    ∧ (State.settle s b x2).hub.led = s.hub.led := by
  refine ⟨?_, ?_, ?_⟩ <;> first | (induction x2 generalizing s <;> simp only [State.settle] <;> (repeat' split) <;> simp_all; done)

@[simp] theorem State.settleAll_keeps (s : State) (b : Nat) :
    (State.settleAll s b).pending = s.pending ∧ (State.settleAll s b).cyc = s.cyc ∧ (State.settleAll s b).mdl = s.mdl
    ∧ (State.settleAll s b).meter = s.meter ∧ (State.settleAll s b).die = s.die ∧ (State.settleAll s b).tsu = s.tsu
    ∧ (State.settleAll s b).phi.time = s.phi.time ∧ (State.settleAll s b).phi.cfg = s.phi.cfg
    ∧ (State.settleAll s b).hub.storage = s.hub.storage ∧ (State.settleAll s b).hub.fw.state = s.hub.fw.state
    ∧ (State.settleAll s b).hub.pairs = s.hub.pairs ∧ (State.settleAll s b).hub.led = s.hub.led := by
  refine ⟨?_, ?_, ?_, ?_, ?_, ?_, ?_, ?_, ?_, ?_, ?_, ?_⟩ <;> first | (simp [State.settleAll]; done)

@[simp] theorem State.freeRoom_keeps (s : State) (b : Nat) (f : Seq → Seq) :
    (State.freeRoom s b f).pending = s.pending ∧ (State.freeRoom s b f).cyc = s.cyc
    ∧ (State.freeRoom s b f).freeNext = s.freeNext ∧ (State.freeRoom s b f).out = s.out
    ∧ (State.freeRoom s b f).mdl = s.mdl ∧ (State.freeRoom s b f).meter = s.meter
    ∧ (State.freeRoom s b f).die = s.die ∧ (State.freeRoom s b f).tsu = s.tsu ∧ (State.freeRoom s b f).phi = s.phi
    ∧ (State.freeRoom s b f).hub.storage = s.hub.storage ∧ (State.freeRoom s b f).hub.fw.state = s.hub.fw.state
    ∧ (State.freeRoom s b f).hub.pairs = s.hub.pairs ∧ (State.freeRoom s b f).hub.led = s.hub.led := by
  refine ⟨?_, ?_, ?_, ?_, ?_, ?_, ?_, ?_, ?_, ?_, ?_, ?_, ?_⟩ <;> first | (simp [State.freeRoom]; done)

@[simp] theorem State.phiAbort_keeps (s : State) (b : Nat) (g : Nat) (j : StepNo) :
    (State.phiAbort s b g j).pending = s.pending ∧ (State.phiAbort s b g j).cyc = s.cyc
    ∧ (State.phiAbort s b g j).freeNext = s.freeNext ∧ (State.phiAbort s b g j).out = s.out
    ∧ (State.phiAbort s b g j).mdl = s.mdl ∧ (State.phiAbort s b g j).meter = s.meter
    ∧ (State.phiAbort s b g j).die = s.die ∧ (State.phiAbort s b g j).tsu = s.tsu
    ∧ (State.phiAbort s b g j).phi.time = s.phi.time ∧ (State.phiAbort s b g j).phi.rings = s.phi.rings
    ∧ (State.phiAbort s b g j).phi.cfg = s.phi.cfg ∧ (State.phiAbort s b g j).hub.storage = s.hub.storage
    ∧ (State.phiAbort s b g j).hub.fw.state = s.hub.fw.state ∧ (State.phiAbort s b g j).hub.pairs = s.hub.pairs
    ∧ (State.phiAbort s b g j).hub.led = s.hub.led ∧ (State.phiAbort s b g j).hub.seqs = s.hub.seqs := by
  refine ⟨?_, ?_, ?_, ?_, ?_, ?_, ?_, ?_, ?_, ?_, ?_, ?_, ?_, ?_, ?_, ?_⟩ <;> first | (simp [State.phiAbort]; done)

@[simp] theorem State.leaveAll_keeps (s : State) (b : Nat) (g : Nat) (step : StepNo) (dies : List Nat) :
    (State.leaveAll s b g step dies).pending = s.pending ∧ (State.leaveAll s b g step dies).cyc = s.cyc
    ∧ (State.leaveAll s b g step dies).freeNext = s.freeNext ∧ (State.leaveAll s b g step dies).out = s.out
    ∧ (State.leaveAll s b g step dies).mdl = s.mdl ∧ (State.leaveAll s b g step dies).meter = s.meter
    ∧ (State.leaveAll s b g step dies).die = s.die ∧ (State.leaveAll s b g step dies).tsu = s.tsu
    ∧ (State.leaveAll s b g step dies).phi.time = s.phi.time
    ∧ (State.leaveAll s b g step dies).phi.rings = s.phi.rings
    ∧ (State.leaveAll s b g step dies).phi.cfg = s.phi.cfg
    ∧ (State.leaveAll s b g step dies).hub.storage = s.hub.storage
    ∧ (State.leaveAll s b g step dies).hub.fw.state = s.hub.fw.state
    ∧ (State.leaveAll s b g step dies).hub.pairs = s.hub.pairs
    ∧ (State.leaveAll s b g step dies).hub.led = s.hub.led ∧ (State.leaveAll s b g step dies).hub.seqs = s.hub.seqs := by
  refine ⟨?_, ?_, ?_, ?_, ?_, ?_, ?_, ?_, ?_, ?_, ?_, ?_, ?_, ?_, ?_, ?_⟩ <;> first | (simp [State.leaveAll]; done)

@[simp] theorem State.cancelSteps_keeps (s : State) (b : Nat) (q : Seq) (f : LaunchPl) (gone : List Issued) :
    (State.cancelSteps s b q f gone).pending = s.pending ∧ (State.cancelSteps s b q f gone).cyc = s.cyc
    ∧ (State.cancelSteps s b q f gone).freeNext = s.freeNext ∧ (State.cancelSteps s b q f gone).out = s.out
    ∧ (State.cancelSteps s b q f gone).mdl = s.mdl ∧ (State.cancelSteps s b q f gone).meter = s.meter
    ∧ (State.cancelSteps s b q f gone).die = s.die ∧ (State.cancelSteps s b q f gone).tsu = s.tsu
    ∧ (State.cancelSteps s b q f gone).phi.time = s.phi.time
    ∧ (State.cancelSteps s b q f gone).phi.rings = s.phi.rings
    ∧ (State.cancelSteps s b q f gone).phi.cfg = s.phi.cfg
    ∧ (State.cancelSteps s b q f gone).hub.storage = s.hub.storage
    ∧ (State.cancelSteps s b q f gone).hub.fw.state = s.hub.fw.state
    ∧ (State.cancelSteps s b q f gone).hub.pairs = s.hub.pairs
    ∧ (State.cancelSteps s b q f gone).hub.led = s.hub.led := by
  refine ⟨?_, ?_, ?_, ?_, ?_, ?_, ?_, ?_, ?_, ?_, ?_, ?_, ?_, ?_, ?_⟩ <;> first | (simp [State.cancelSteps]; done)

@[simp] theorem State.rewind_keeps (s : State) (b : Nat) (q : Seq) (j : StepNo) (gone : List Issued) :
    (State.rewind s b q j gone).pending = s.pending ∧ (State.rewind s b q j gone).cyc = s.cyc
    ∧ (State.rewind s b q j gone).freeNext = s.freeNext ∧ (State.rewind s b q j gone).out = s.out
    ∧ (State.rewind s b q j gone).mdl = s.mdl ∧ (State.rewind s b q j gone).meter = s.meter
    ∧ (State.rewind s b q j gone).die = s.die ∧ (State.rewind s b q j gone).tsu = s.tsu
    ∧ (State.rewind s b q j gone).phi = s.phi ∧ (State.rewind s b q j gone).hub.storage = s.hub.storage
    ∧ (State.rewind s b q j gone).hub.fw.state = s.hub.fw.state
    ∧ (State.rewind s b q j gone).hub.pairs = s.hub.pairs ∧ (State.rewind s b q j gone).hub.led = s.hub.led := by
  simp only [State.rewind] <;> (repeat' split) <;> first | (simp; done) | (simp [*]; done) | (refine ⟨?_, ?_, ?_, ?_, ?_, ?_, ?_, ?_, ?_, ?_, ?_, ?_, ?_⟩ <;> first | rfl | (simp; done) | (simp [*]; done))

@[simp] theorem State.undoChange_keeps (s : State) (b : Nat) (q : Seq) (f : LaunchPl) (gone : List Issued) :
    (State.undoChange s b q f gone).pending = s.pending ∧ (State.undoChange s b q f gone).cyc = s.cyc
    ∧ (State.undoChange s b q f gone).freeNext = s.freeNext ∧ (State.undoChange s b q f gone).out = s.out
    ∧ (State.undoChange s b q f gone).mdl = s.mdl ∧ (State.undoChange s b q f gone).meter = s.meter
    ∧ (State.undoChange s b q f gone).die = s.die ∧ (State.undoChange s b q f gone).tsu = s.tsu
    ∧ (State.undoChange s b q f gone).phi.time = s.phi.time
    ∧ (State.undoChange s b q f gone).phi.rings = s.phi.rings ∧ (State.undoChange s b q f gone).phi.cfg = s.phi.cfg
    ∧ (State.undoChange s b q f gone).hub.storage = s.hub.storage
    ∧ (State.undoChange s b q f gone).hub.fw.state = s.hub.fw.state
    ∧ (State.undoChange s b q f gone).hub.pairs = s.hub.pairs ∧ (State.undoChange s b q f gone).hub.led = s.hub.led := by
  simp only [State.undoChange] <;> (repeat' split) <;> first | (simp; done) | (simp [*]; done) | (refine ⟨?_, ?_, ?_, ?_, ?_, ?_, ?_, ?_, ?_, ?_, ?_, ?_, ?_, ?_, ?_⟩ <;> first | rfl | (simp; done) | (simp [*]; done))

@[simp] theorem State.parkAborted_keeps (s : State) (b : Nat) (q : Seq) (f : LaunchPl) (gone : List Issued) :
    (State.parkAborted s b q f gone).pending = s.pending ∧ (State.parkAborted s b q f gone).cyc = s.cyc
    ∧ (State.parkAborted s b q f gone).mdl = s.mdl ∧ (State.parkAborted s b q f gone).meter = s.meter
    ∧ (State.parkAborted s b q f gone).die = s.die ∧ (State.parkAborted s b q f gone).tsu = s.tsu
    ∧ (State.parkAborted s b q f gone).phi.time = s.phi.time ∧ (State.parkAborted s b q f gone).phi.cfg = s.phi.cfg
    ∧ (State.parkAborted s b q f gone).hub.storage = s.hub.storage
    ∧ (State.parkAborted s b q f gone).hub.fw.state = s.hub.fw.state
    ∧ (State.parkAborted s b q f gone).hub.pairs = s.hub.pairs
    ∧ (State.parkAborted s b q f gone).hub.led = s.hub.led := by
  simp only [State.parkAborted] <;> (repeat' split) <;> first | (simp; done) | (simp [*]; done) | (refine ⟨?_, ?_, ?_, ?_, ?_, ?_, ?_, ?_, ?_, ?_, ?_, ?_⟩ <;> first | rfl | (simp; done) | (simp [*]; done))

@[simp] theorem State.seqAbort_keeps (s : State) (b : Nat) (f : LaunchPl) :
    (State.seqAbort s b f).pending = s.pending ∧ (State.seqAbort s b f).cyc = s.cyc ∧ (State.seqAbort s b f).mdl = s.mdl
    ∧ (State.seqAbort s b f).meter = s.meter ∧ (State.seqAbort s b f).die = s.die
    ∧ (State.seqAbort s b f).tsu = s.tsu ∧ (State.seqAbort s b f).phi.time = s.phi.time
    ∧ (State.seqAbort s b f).phi.cfg = s.phi.cfg ∧ (State.seqAbort s b f).hub.storage = s.hub.storage
    ∧ (State.seqAbort s b f).hub.fw.state = s.hub.fw.state ∧ (State.seqAbort s b f).hub.pairs = s.hub.pairs
    ∧ (State.seqAbort s b f).hub.led = s.hub.led := by
  simp only [State.seqAbort] <;> (repeat' split) <;> first | (simp; done) | (simp [*]; done) | (refine ⟨?_, ?_, ?_, ?_, ?_, ?_, ?_, ?_, ?_, ?_, ?_, ?_⟩ <;> first | rfl | (simp; done) | (simp [*]; done))

@[simp] theorem State.phiStartAbort_keeps (s : State) (b : Nat) (g : Nat) (f : LaunchPl) :
    (State.phiStartAbort s b g f).pending = s.pending ∧ (State.phiStartAbort s b g f).cyc = s.cyc
    ∧ (State.phiStartAbort s b g f).mdl = s.mdl ∧ (State.phiStartAbort s b g f).meter = s.meter
    ∧ (State.phiStartAbort s b g f).die = s.die ∧ (State.phiStartAbort s b g f).tsu = s.tsu
    ∧ (State.phiStartAbort s b g f).phi.time = s.phi.time ∧ (State.phiStartAbort s b g f).phi.cfg = s.phi.cfg
    ∧ (State.phiStartAbort s b g f).hub.storage = s.hub.storage
    ∧ (State.phiStartAbort s b g f).hub.fw.state = s.hub.fw.state
    ∧ (State.phiStartAbort s b g f).hub.pairs = s.hub.pairs ∧ (State.phiStartAbort s b g f).hub.led = s.hub.led := by
  simp only [State.phiStartAbort] <;> (repeat' split) <;> first | (simp; done) | (simp [*]; done) | (refine ⟨?_, ?_, ?_, ?_, ?_, ?_, ?_, ?_, ?_, ?_, ?_, ?_⟩ <;> first | rfl | (simp; done) | (simp [*]; done))

end Sys2Proof.Machine
end

