-- ==== Sys2Proof/Laws/HubWb.lean ====
section
/-!
SUPPORT. What the operations and meanings of Machine/HubWb.lean leave unchanged.
-/

namespace Sys2Proof.Machine

@[simp] theorem State.setOp_keeps (s : State) (o : OpCtx) :
    (State.setOp s o).pending = s.pending ∧ (State.setOp s o).cyc = s.cyc ∧ (State.setOp s o).freeNext = s.freeNext
    ∧ (State.setOp s o).out = s.out ∧ (State.setOp s o).mdl = s.mdl ∧ (State.setOp s o).meter = s.meter
    ∧ (State.setOp s o).die = s.die ∧ (State.setOp s o).tsu = s.tsu ∧ (State.setOp s o).phi = s.phi
    ∧ (State.setOp s o).hub.storage = s.hub.storage ∧ (State.setOp s o).hub.fw.state = s.hub.fw.state
    ∧ (State.setOp s o).hub.pairs = s.hub.pairs ∧ (State.setOp s o).hub.led = s.hub.led
    ∧ (State.setOp s o).hub.seqs = s.hub.seqs := by
  refine ⟨?_, ?_, ?_, ?_, ?_, ?_, ?_, ?_, ?_, ?_, ?_, ?_, ?_, ?_⟩ <;> first | (simp [State.setOp]; done)

@[simp] theorem State.freeOp_keeps (s : State) (b : Nat) (g : Nat) (opid : W32) :
    (State.freeOp s b g opid).pending = s.pending ∧ (State.freeOp s b g opid).cyc = s.cyc
    ∧ (State.freeOp s b g opid).freeNext = s.freeNext ∧ (State.freeOp s b g opid).out = s.out
    ∧ (State.freeOp s b g opid).mdl = s.mdl ∧ (State.freeOp s b g opid).meter = s.meter
    ∧ (State.freeOp s b g opid).die = s.die ∧ (State.freeOp s b g opid).tsu = s.tsu
    ∧ (State.freeOp s b g opid).phi = s.phi ∧ (State.freeOp s b g opid).hub.storage = s.hub.storage
    ∧ (State.freeOp s b g opid).hub.fw.state = s.hub.fw.state ∧ (State.freeOp s b g opid).hub.pairs = s.hub.pairs
    ∧ (State.freeOp s b g opid).hub.led = s.hub.led ∧ (State.freeOp s b g opid).hub.seqs = s.hub.seqs := by
  refine ⟨?_, ?_, ?_, ?_, ?_, ?_, ?_, ?_, ?_, ?_, ?_, ?_, ?_, ?_⟩ <;> first | (simp [State.freeOp]; done)

@[simp] theorem State.wbFault_keeps (s : State) (o : OpCtx) (c : Cause) :
    (State.wbFault s o c).pending = s.pending ∧ (State.wbFault s o c).cyc = s.cyc
    ∧ (State.wbFault s o c).freeNext = s.freeNext ∧ (State.wbFault s o c).mdl = s.mdl
    ∧ (State.wbFault s o c).meter = s.meter ∧ (State.wbFault s o c).die = s.die ∧ (State.wbFault s o c).tsu = s.tsu
    ∧ (State.wbFault s o c).phi.time = s.phi.time ∧ (State.wbFault s o c).phi.rings = s.phi.rings
    ∧ (State.wbFault s o c).phi.cfg = s.phi.cfg ∧ (State.wbFault s o c).hub.storage = s.hub.storage
    ∧ (State.wbFault s o c).hub.fw.state = s.hub.fw.state ∧ (State.wbFault s o c).hub.pairs = s.hub.pairs
    ∧ (State.wbFault s o c).hub.led = s.hub.led ∧ (State.wbFault s o c).hub.seqs = s.hub.seqs := by
  refine ⟨?_, ?_, ?_, ?_, ?_, ?_, ?_, ?_, ?_, ?_, ?_, ?_, ?_, ?_, ?_⟩ <;> first | (simp [State.wbFault]; done)

@[simp] theorem State.countAdds_keeps (s : State) (o : OpCtx) (c : Nat) :
    (State.countAdds s o c).pending = s.pending ∧ (State.countAdds s o c).cyc = s.cyc
    ∧ (State.countAdds s o c).freeNext = s.freeNext ∧ (State.countAdds s o c).out = s.out
    ∧ (State.countAdds s o c).mdl = s.mdl ∧ (State.countAdds s o c).meter = s.meter
    ∧ (State.countAdds s o c).die = s.die ∧ (State.countAdds s o c).hub = s.hub
    ∧ (State.countAdds s o c).tsu = s.tsu ∧ (State.countAdds s o c).phi.time = s.phi.time
    ∧ (State.countAdds s o c).phi.rings = s.phi.rings ∧ (State.countAdds s o c).phi.cfg = s.phi.cfg := by
  refine ⟨?_, ?_, ?_, ?_, ?_, ?_, ?_, ?_, ?_, ?_, ?_, ?_⟩ <;> first | (simp [State.countAdds]; done)

@[simp] theorem State.sendData_keeps (s : State) (o : OpCtx) (c : Nat) (last : Bool) (acc : Bool) (data : List Byte) :
    (State.sendData s o c last acc data).pending = s.pending ∧ (State.sendData s o c last acc data).cyc = s.cyc
    ∧ (State.sendData s o c last acc data).freeNext = s.freeNext ∧ (State.sendData s o c last acc data).out = s.out
    ∧ (State.sendData s o c last acc data).mdl = s.mdl ∧ (State.sendData s o c last acc data).meter = s.meter
    ∧ (State.sendData s o c last acc data).die = s.die ∧ (State.sendData s o c last acc data).hub = s.hub
    ∧ (State.sendData s o c last acc data).tsu = s.tsu ∧ (State.sendData s o c last acc data).phi.time = s.phi.time
    ∧ (State.sendData s o c last acc data).phi.rings = s.phi.rings
    ∧ (State.sendData s o c last acc data).phi.cfg = s.phi.cfg := by
  refine ⟨?_, ?_, ?_, ?_, ?_, ?_, ?_, ?_, ?_, ?_, ?_, ?_⟩ <;> first | (simp [State.sendData]; done)

@[simp] theorem State.sendResult_keeps (s : State) (o : OpCtx) (ports : List Nat) (c : Nat) (fmt : Byte) (last : Bool) (ix : Bool) (ov : Bool) (data : List Byte) :
    (State.sendResult s o ports c fmt last ix ov data).pending = s.pending
    ∧ (State.sendResult s o ports c fmt last ix ov data).cyc = s.cyc
    ∧ (State.sendResult s o ports c fmt last ix ov data).freeNext = s.freeNext
    ∧ (State.sendResult s o ports c fmt last ix ov data).out = s.out
    ∧ (State.sendResult s o ports c fmt last ix ov data).mdl = s.mdl
    ∧ (State.sendResult s o ports c fmt last ix ov data).meter = s.meter
    ∧ (State.sendResult s o ports c fmt last ix ov data).die = s.die
    ∧ (State.sendResult s o ports c fmt last ix ov data).hub = s.hub
    ∧ (State.sendResult s o ports c fmt last ix ov data).tsu = s.tsu
    ∧ (State.sendResult s o ports c fmt last ix ov data).phi.time = s.phi.time
    ∧ (State.sendResult s o ports c fmt last ix ov data).phi.rings = s.phi.rings
    ∧ (State.sendResult s o ports c fmt last ix ov data).phi.cfg = s.phi.cfg := by
  refine ⟨?_, ?_, ?_, ?_, ?_, ?_, ?_, ?_, ?_, ?_, ?_, ?_⟩ <;> first | (simp [State.sendResult]; done)

@[simp] theorem State.sendFailed_keeps (s : State) (o : OpCtx) (ports : List Nat) (cause : Cause) (first : Nat) (count : Nat) :
    (State.sendFailed s o ports cause first count).pending = s.pending
    ∧ (State.sendFailed s o ports cause first count).cyc = s.cyc
    ∧ (State.sendFailed s o ports cause first count).freeNext = s.freeNext
    ∧ (State.sendFailed s o ports cause first count).out = s.out
    ∧ (State.sendFailed s o ports cause first count).mdl = s.mdl
    ∧ (State.sendFailed s o ports cause first count).meter = s.meter
    ∧ (State.sendFailed s o ports cause first count).die = s.die
    ∧ (State.sendFailed s o ports cause first count).hub = s.hub
    ∧ (State.sendFailed s o ports cause first count).tsu = s.tsu
    ∧ (State.sendFailed s o ports cause first count).phi.time = s.phi.time
    ∧ (State.sendFailed s o ports cause first count).phi.rings = s.phi.rings
    ∧ (State.sendFailed s o ports cause first count).phi.cfg = s.phi.cfg := by
  refine ⟨?_, ?_, ?_, ?_, ?_, ?_, ?_, ?_, ?_, ?_, ?_, ?_⟩ <;> first | (simp [State.sendFailed]; done)

@[simp] theorem State.failOp_keeps (s : State) (o : OpCtx) :
    (State.failOp s o).pending = s.pending ∧ (State.failOp s o).cyc = s.cyc ∧ (State.failOp s o).freeNext = s.freeNext
    ∧ (State.failOp s o).mdl = s.mdl ∧ (State.failOp s o).meter = s.meter ∧ (State.failOp s o).die = s.die
    ∧ (State.failOp s o).tsu = s.tsu ∧ (State.failOp s o).phi.time = s.phi.time
    ∧ (State.failOp s o).phi.rings = s.phi.rings ∧ (State.failOp s o).phi.cfg = s.phi.cfg
    ∧ (State.failOp s o).hub.storage = s.hub.storage ∧ (State.failOp s o).hub.fw.state = s.hub.fw.state
    ∧ (State.failOp s o).hub.pairs = s.hub.pairs ∧ (State.failOp s o).hub.led = s.hub.led
    ∧ (State.failOp s o).hub.seqs = s.hub.seqs := by
  refine ⟨?_, ?_, ?_, ?_, ?_, ?_, ?_, ?_, ?_, ?_, ?_, ?_, ?_, ?_, ?_⟩ <;> first | (simp [State.failOp]; done)

@[simp] theorem State.sendResidueChunk_keeps (s : State) (o : OpCtx) (die : Option Nat) (sent : List Kept) (n : Nat) (k : Nat) (p : Nat) :
    (State.sendResidueChunk s o die sent n k p).pending = s.pending
    ∧ (State.sendResidueChunk s o die sent n k p).cyc = s.cyc
    ∧ (State.sendResidueChunk s o die sent n k p).freeNext = s.freeNext
    ∧ (State.sendResidueChunk s o die sent n k p).out = s.out
    ∧ (State.sendResidueChunk s o die sent n k p).mdl = s.mdl
    ∧ (State.sendResidueChunk s o die sent n k p).meter = s.meter
    ∧ (State.sendResidueChunk s o die sent n k p).die = s.die
    ∧ (State.sendResidueChunk s o die sent n k p).hub = s.hub
    ∧ (State.sendResidueChunk s o die sent n k p).tsu = s.tsu
    ∧ (State.sendResidueChunk s o die sent n k p).phi.time = s.phi.time
    ∧ (State.sendResidueChunk s o die sent n k p).phi.rings = s.phi.rings
    ∧ (State.sendResidueChunk s o die sent n k p).phi.cfg = s.phi.cfg := by
  refine ⟨?_, ?_, ?_, ?_, ?_, ?_, ?_, ?_, ?_, ?_, ?_, ?_⟩ <;> first | (simp [State.sendResidueChunk]; done)

@[simp] theorem State.sendResidue_keeps (s : State) (o : OpCtx) (die : Option Nat) (kept : List Kept) (n : Nat) (c : Nat) :
    (State.sendResidue s o die kept n c).pending = s.pending ∧ (State.sendResidue s o die kept n c).cyc = s.cyc
    ∧ (State.sendResidue s o die kept n c).freeNext = s.freeNext ∧ (State.sendResidue s o die kept n c).out = s.out
    ∧ (State.sendResidue s o die kept n c).mdl = s.mdl ∧ (State.sendResidue s o die kept n c).meter = s.meter
    ∧ (State.sendResidue s o die kept n c).die = s.die ∧ (State.sendResidue s o die kept n c).hub = s.hub
    ∧ (State.sendResidue s o die kept n c).tsu = s.tsu ∧ (State.sendResidue s o die kept n c).phi.time = s.phi.time
    ∧ (State.sendResidue s o die kept n c).phi.rings = s.phi.rings
    ∧ (State.sendResidue s o die kept n c).phi.cfg = s.phi.cfg := by
  refine ⟨?_, ?_, ?_, ?_, ?_, ?_, ?_, ?_, ?_, ?_, ?_, ?_⟩ <;> first | (simp [State.sendResidue]; done)

@[simp] theorem State.releasePlain_keeps (s : State) (o : OpCtx) (c : Nat) :
    (State.releasePlain s o c).pending = s.pending ∧ (State.releasePlain s o c).cyc = s.cyc
    ∧ (State.releasePlain s o c).freeNext = s.freeNext ∧ (State.releasePlain s o c).out = s.out
    ∧ (State.releasePlain s o c).mdl = s.mdl ∧ (State.releasePlain s o c).meter = s.meter
    ∧ (State.releasePlain s o c).die = s.die ∧ (State.releasePlain s o c).tsu = s.tsu
    ∧ (State.releasePlain s o c).phi.time = s.phi.time ∧ (State.releasePlain s o c).phi.rings = s.phi.rings
    ∧ (State.releasePlain s o c).phi.cfg = s.phi.cfg ∧ (State.releasePlain s o c).hub.storage = s.hub.storage
    ∧ (State.releasePlain s o c).hub.fw.state = s.hub.fw.state ∧ (State.releasePlain s o c).hub.pairs = s.hub.pairs
    ∧ (State.releasePlain s o c).hub.led = s.hub.led ∧ (State.releasePlain s o c).hub.seqs = s.hub.seqs := by
  refine ⟨?_, ?_, ?_, ?_, ?_, ?_, ?_, ?_, ?_, ?_, ?_, ?_, ?_, ?_, ?_, ?_⟩ <;> first | (simp [State.releasePlain]; done)

@[simp] theorem State.laneFault_keeps (s : State) (o : OpCtx) (lane : Nat) :
    (State.laneFault s o lane).pending = s.pending ∧ (State.laneFault s o lane).cyc = s.cyc
    ∧ (State.laneFault s o lane).freeNext = s.freeNext ∧ (State.laneFault s o lane).mdl = s.mdl
    ∧ (State.laneFault s o lane).meter = s.meter ∧ (State.laneFault s o lane).die = s.die
    ∧ (State.laneFault s o lane).tsu = s.tsu ∧ (State.laneFault s o lane).phi.time = s.phi.time
    ∧ (State.laneFault s o lane).phi.rings = s.phi.rings ∧ (State.laneFault s o lane).phi.cfg = s.phi.cfg
    ∧ (State.laneFault s o lane).hub.storage = s.hub.storage
    ∧ (State.laneFault s o lane).hub.fw.state = s.hub.fw.state ∧ (State.laneFault s o lane).hub.pairs = s.hub.pairs
    ∧ (State.laneFault s o lane).hub.led = s.hub.led ∧ (State.laneFault s o lane).hub.seqs = s.hub.seqs := by
  simp only [State.laneFault] <;> (repeat' split) <;> first | (simp; done) | (simp [*]; done) | (refine ⟨?_, ?_, ?_, ?_, ?_, ?_, ?_, ?_, ?_, ?_, ?_, ?_, ?_, ?_, ?_⟩ <;> first | rfl | (simp; done) | (simp [*]; done))

@[simp] theorem State.failChunks_keeps (s : State) (o : OpCtx) (x2 : List Nat) :
    (State.failChunks s o x2).pending = s.pending ∧ (State.failChunks s o x2).cyc = s.cyc
    ∧ (State.failChunks s o x2).freeNext = s.freeNext ∧ (State.failChunks s o x2).out = s.out
    ∧ (State.failChunks s o x2).mdl = s.mdl ∧ (State.failChunks s o x2).meter = s.meter := by
  refine ⟨?_, ?_, ?_, ?_, ?_, ?_⟩ <;> first | (induction x2 generalizing s <;> simp_all [State.failChunks]; done)

@[simp] theorem State.failChunks_keeps2 (s : State) (o : OpCtx) (x2 : List Nat) :
    (State.failChunks s o x2).die = s.die ∧ (State.failChunks s o x2).hub = s.hub
    ∧ (State.failChunks s o x2).tsu = s.tsu ∧ (State.failChunks s o x2).phi.time = s.phi.time
    ∧ (State.failChunks s o x2).phi.rings = s.phi.rings ∧ (State.failChunks s o x2).phi.cfg = s.phi.cfg := by
  refine ⟨?_, ?_, ?_, ?_, ?_, ?_⟩ <;> first | (induction x2 generalizing s <;> simp_all [State.failChunks]; done)

@[simp] theorem State.failChunk_keeps (s : State) (x : Nat × Nat × W32 × Nat) :
    (State.failChunk s x).pending = s.pending ∧ (State.failChunk s x).cyc = s.cyc
    ∧ (State.failChunk s x).freeNext = s.freeNext ∧ (State.failChunk s x).out = s.out
    ∧ (State.failChunk s x).mdl = s.mdl ∧ (State.failChunk s x).meter = s.meter ∧ (State.failChunk s x).die = s.die
    ∧ (State.failChunk s x).tsu = s.tsu ∧ (State.failChunk s x).phi.time = s.phi.time
    ∧ (State.failChunk s x).phi.rings = s.phi.rings ∧ (State.failChunk s x).phi.cfg = s.phi.cfg
    ∧ (State.failChunk s x).hub.storage = s.hub.storage ∧ (State.failChunk s x).hub.fw.state = s.hub.fw.state
    ∧ (State.failChunk s x).hub.pairs = s.hub.pairs ∧ (State.failChunk s x).hub.led = s.hub.led
    ∧ (State.failChunk s x).hub.seqs = s.hub.seqs := by
  simp only [State.failChunk] <;> (repeat' split) <;> first | (simp; done) | (simp [*]; done) | (refine ⟨?_, ?_, ?_, ?_, ?_, ?_, ?_, ?_, ?_, ?_, ?_, ?_, ?_, ?_, ?_, ?_⟩ <;> first | rfl | (simp; done) | (simp [*]; done))

@[simp] theorem State.laneCheck_keeps (s : State) (o : OpCtx) (c : LaneCheck) :
    (State.laneCheck s o c).pending = s.pending ∧ (State.laneCheck s o c).cyc = s.cyc
    ∧ (State.laneCheck s o c).freeNext = s.freeNext ∧ (State.laneCheck s o c).mdl = s.mdl
    ∧ (State.laneCheck s o c).meter = s.meter ∧ (State.laneCheck s o c).die = s.die
    ∧ (State.laneCheck s o c).tsu = s.tsu ∧ (State.laneCheck s o c).phi.time = s.phi.time
    ∧ (State.laneCheck s o c).phi.rings = s.phi.rings ∧ (State.laneCheck s o c).phi.cfg = s.phi.cfg
    ∧ (State.laneCheck s o c).hub.storage = s.hub.storage ∧ (State.laneCheck s o c).hub.fw.state = s.hub.fw.state
    ∧ (State.laneCheck s o c).hub.pairs = s.hub.pairs ∧ (State.laneCheck s o c).hub.led = s.hub.led
    ∧ (State.laneCheck s o c).hub.seqs = s.hub.seqs := by
  refine ⟨?_, ?_, ?_, ?_, ?_, ?_, ?_, ?_, ?_, ?_, ?_, ?_, ?_, ?_, ?_⟩ <;> first | (simp [State.laneCheck]; done)

@[simp] theorem State.closeOp_keeps (s : State) (o : OpCtx) :
    (State.closeOp s o).pending = s.pending ∧ (State.closeOp s o).cyc = s.cyc ∧ (State.closeOp s o).mdl = s.mdl
    ∧ (State.closeOp s o).meter = s.meter ∧ (State.closeOp s o).die = s.die ∧ (State.closeOp s o).tsu = s.tsu
    ∧ (State.closeOp s o).phi.time = s.phi.time ∧ (State.closeOp s o).phi.cfg = s.phi.cfg
    ∧ (State.closeOp s o).hub.storage = s.hub.storage ∧ (State.closeOp s o).hub.fw.state = s.hub.fw.state
    ∧ (State.closeOp s o).hub.pairs = s.hub.pairs ∧ (State.closeOp s o).hub.led = s.hub.led := by
  simp only [State.closeOp] <;> (repeat' split) <;> first | (simp; done) | (simp [*]; done) | (refine ⟨?_, ?_, ?_, ?_, ?_, ?_, ?_, ?_, ?_, ?_, ?_, ?_⟩ <;> first | rfl | (simp; done) | (simp [*]; done) | ((try simp); refine (foldl_hub_fw_state _ _ _ fun s a => ?_).trans ?_ <;> (repeat' split) <;> first | with_reducible rfl | (simp; done) | (simp [*]; done)))

@[simp] theorem State.closeFull_keeps (s : State) :
    (State.closeFull s).pending = s.pending ∧ (State.closeFull s).cyc = s.cyc ∧ (State.closeFull s).mdl = s.mdl
    ∧ (State.closeFull s).meter = s.meter ∧ (State.closeFull s).die = s.die ∧ (State.closeFull s).tsu = s.tsu
    ∧ (State.closeFull s).phi.time = s.phi.time ∧ (State.closeFull s).phi.cfg = s.phi.cfg
    ∧ (State.closeFull s).hub.storage = s.hub.storage ∧ (State.closeFull s).hub.fw.state = s.hub.fw.state
    ∧ (State.closeFull s).hub.pairs = s.hub.pairs ∧ (State.closeFull s).hub.led = s.hub.led := by
  refine ⟨?_, ?_, ?_, ?_, ?_, ?_, ?_, ?_, ?_, ?_, ?_, ?_⟩ <;> first | (simp [State.closeFull]; done)

end Sys2Proof.Machine
end

