-- ==== Sys2Proof/Laws/Tide.lean ====
section
/-!
SUPPORT. What the operations and meanings of Machine/Tide.lean leave unchanged.
-/

namespace Sys2Proof.Machine

@[simp] theorem execTideLoad_keeps (ring : Nat) (idx : Nat) (data : List Byte) (s : State) :
    gives (execTideLoad ring idx data s) fun t => t.pending = s.pending ∧ t.cyc = s.cyc ∧ t.mdl = s.mdl
    ∧ t.meter = s.meter ∧ t.die = s.die ∧ t.tsu = s.tsu ∧ t.phi.time = s.phi.time ∧ t.phi.cfg = s.phi.cfg
    ∧ t.hub.storage = s.hub.storage ∧ t.hub.fw.state = s.hub.fw.state ∧ t.hub.pairs = s.hub.pairs
    ∧ t.hub.led = s.hub.led := by
  simp only [execTideLoad, State.runBasin, State.runDesc] <;> (repeat' split) <;> first | (simp; done) | (simp [*]; done) | (refine gives_and ?_ (gives_and ?_ (gives_and ?_ (gives_and ?_ (gives_and ?_ (gives_and ?_ (gives_and ?_ (gives_and ?_ (gives_and ?_ (gives_and ?_ (gives_and ?_ ?_)))))))))) <;> first | rfl | (simp; done) | (simp [*]; done))

@[simp] theorem State.joinAll_keeps (s : State) (b : Nat) (g : Nat) (step : StepNo) (dies : List Nat) :
    (State.joinAll s b g step dies).pending = s.pending ∧ (State.joinAll s b g step dies).cyc = s.cyc
    ∧ (State.joinAll s b g step dies).freeNext = s.freeNext ∧ (State.joinAll s b g step dies).out = s.out
    ∧ (State.joinAll s b g step dies).mdl = s.mdl ∧ (State.joinAll s b g step dies).meter = s.meter
    ∧ (State.joinAll s b g step dies).die = s.die ∧ (State.joinAll s b g step dies).tsu = s.tsu
    ∧ (State.joinAll s b g step dies).phi.time = s.phi.time
    ∧ (State.joinAll s b g step dies).phi.rings = s.phi.rings ∧ (State.joinAll s b g step dies).phi.cfg = s.phi.cfg
    ∧ (State.joinAll s b g step dies).hub.storage = s.hub.storage
    ∧ (State.joinAll s b g step dies).hub.fw.state = s.hub.fw.state
    ∧ (State.joinAll s b g step dies).hub.pairs = s.hub.pairs ∧ (State.joinAll s b g step dies).hub.led = s.hub.led := by
  refine ⟨?_, ?_, ?_, ?_, ?_, ?_, ?_, ?_, ?_, ?_, ?_, ?_, ?_, ?_, ?_⟩ <;> first | (simp [State.joinAll]; done)

@[simp] theorem execBasinStart_keeps (ring : Nat) (idx : Nat) (s : State) :
    gives (execBasinStart ring idx s) fun t => t.pending = s.pending ∧ t.cyc = s.cyc ∧ t.mdl = s.mdl ∧ t.meter = s.meter
    ∧ t.die = s.die ∧ t.tsu = s.tsu ∧ t.phi.time = s.phi.time ∧ t.phi.cfg = s.phi.cfg
    ∧ t.hub.storage = s.hub.storage ∧ t.hub.fw.state = s.hub.fw.state ∧ t.hub.pairs = s.hub.pairs
    ∧ t.hub.led = s.hub.led := by
  simp only [execBasinStart, State.runHeld, State.runDesc, State.runBasin] <;> (repeat' split) <;> first | (simp; done) | (simp [*]; done) | (refine gives_and ?_ (gives_and ?_ (gives_and ?_ (gives_and ?_ (gives_and ?_ (gives_and ?_ (gives_and ?_ (gives_and ?_ (gives_and ?_ (gives_and ?_ (gives_and ?_ ?_)))))))))) <;> first | rfl | (simp; done) | (simp [*]; done))

@[simp] theorem execBasinPark_keeps (ring : Nat) (idx : Nat) (s : State) :
    gives (execBasinPark ring idx s) fun t => t.pending = s.pending ∧ t.cyc = s.cyc ∧ t.mdl = s.mdl ∧ t.meter = s.meter
    ∧ t.die = s.die ∧ t.tsu = s.tsu ∧ t.phi.time = s.phi.time ∧ t.phi.cfg = s.phi.cfg
    ∧ t.hub.storage = s.hub.storage ∧ t.hub.fw.state = s.hub.fw.state ∧ t.hub.pairs = s.hub.pairs
    ∧ t.hub.led = s.hub.led := by
  simp only [execBasinPark, State.runHeld, State.runDesc, State.runBasin] <;> (repeat' split) <;> first | (simp; done) | (simp [*]; done) | (refine gives_and ?_ (gives_and ?_ (gives_and ?_ (gives_and ?_ (gives_and ?_ (gives_and ?_ (gives_and ?_ (gives_and ?_ (gives_and ?_ (gives_and ?_ (gives_and ?_ ?_)))))))))) <;> first | rfl | (simp; done) | (simp [*]; done))

@[simp] theorem execBasinResume_keeps (ring : Nat) (idx : Nat) (s : State) :
    gives (execBasinResume ring idx s) fun t => t.pending = s.pending ∧ t.cyc = s.cyc ∧ t.mdl = s.mdl
    ∧ t.meter = s.meter ∧ t.die = s.die ∧ t.tsu = s.tsu ∧ t.phi.time = s.phi.time ∧ t.phi.cfg = s.phi.cfg
    ∧ t.hub.storage = s.hub.storage ∧ t.hub.fw.state = s.hub.fw.state ∧ t.hub.pairs = s.hub.pairs
    ∧ t.hub.led = s.hub.led := by
  simp only [execBasinResume, State.runHeld, State.runDesc, State.runBasin] <;> (repeat' split) <;> first | (simp; done) | (simp [*]; done) | (refine gives_and ?_ (gives_and ?_ (gives_and ?_ (gives_and ?_ (gives_and ?_ (gives_and ?_ (gives_and ?_ (gives_and ?_ (gives_and ?_ (gives_and ?_ (gives_and ?_ ?_)))))))))) <;> first | rfl | (simp; done) | (simp [*]; done))

@[simp] theorem State.finishDestroy_keeps (s : State) (b : Nat) :
    (State.finishDestroy s b).pending = s.pending ∧ (State.finishDestroy s b).cyc = s.cyc
    ∧ (State.finishDestroy s b).mdl = s.mdl ∧ (State.finishDestroy s b).meter = s.meter
    ∧ (State.finishDestroy s b).die = s.die ∧ (State.finishDestroy s b).tsu = s.tsu
    ∧ (State.finishDestroy s b).phi.time = s.phi.time ∧ (State.finishDestroy s b).phi.cfg = s.phi.cfg
    ∧ (State.finishDestroy s b).hub.storage = s.hub.storage
    ∧ (State.finishDestroy s b).hub.fw.state = s.hub.fw.state ∧ (State.finishDestroy s b).hub.pairs = s.hub.pairs
    ∧ (State.finishDestroy s b).hub.led = s.hub.led := by
  simp only [State.finishDestroy] <;> (repeat' split) <;> first | (simp; done) | (simp [*]; done) | (refine ⟨?_, ?_, ?_, ?_, ?_, ?_, ?_, ?_, ?_, ?_, ?_, ?_⟩ <;> first | rfl | (simp; done) | (simp [*]; done))

@[simp] theorem execBasinDestroy_keeps (ring : Nat) (idx : Nat) (s : State) :
    gives (execBasinDestroy ring idx s) fun t => t.pending = s.pending ∧ t.cyc = s.cyc ∧ t.mdl = s.mdl
    ∧ t.meter = s.meter ∧ t.die = s.die ∧ t.tsu = s.tsu ∧ t.phi.time = s.phi.time ∧ t.phi.cfg = s.phi.cfg
    ∧ t.hub.storage = s.hub.storage ∧ t.hub.fw.state = s.hub.fw.state ∧ t.hub.pairs = s.hub.pairs
    ∧ t.hub.led = s.hub.led := by
  simp only [execBasinDestroy, State.runHeld, State.runDesc, State.runBasin] <;> (repeat' split) <;> first | (simp; done) | (simp [*]; done) | (refine gives_and ?_ (gives_and ?_ (gives_and ?_ (gives_and ?_ (gives_and ?_ (gives_and ?_ (gives_and ?_ (gives_and ?_ (gives_and ?_ (gives_and ?_ (gives_and ?_ ?_)))))))))) <;> first | rfl | (simp; done) | (simp [*]; done))

@[simp] theorem execBasinLead_keeps (ring : Nat) (idx : Nat) (s : State) :
    gives (execBasinLead ring idx s) fun t => t.pending = s.pending ∧ t.cyc = s.cyc ∧ t.mdl = s.mdl ∧ t.meter = s.meter
    ∧ t.die = s.die ∧ t.tsu = s.tsu ∧ t.phi.time = s.phi.time ∧ t.phi.cfg = s.phi.cfg
    ∧ t.hub.storage = s.hub.storage ∧ t.hub.fw.state = s.hub.fw.state ∧ t.hub.pairs = s.hub.pairs
    ∧ t.hub.led = s.hub.led := by
  simp only [execBasinLead, State.runHeld, State.runDesc, State.runBasin] <;> (repeat' split) <;> first | (simp; done) | (simp [*]; done) | (refine gives_and ?_ (gives_and ?_ (gives_and ?_ (gives_and ?_ (gives_and ?_ (gives_and ?_ (gives_and ?_ (gives_and ?_ (gives_and ?_ (gives_and ?_ (gives_and ?_ ?_)))))))))) <;> first | rfl | (simp; done) | (simp [*]; done))

@[simp] theorem execMemberList_keeps (ring : Nat) (idx : Nat) (dies : List Nat) (s : State) :
    gives (execMemberList ring idx dies s) fun t => t.pending = s.pending ∧ t.cyc = s.cyc ∧ t.mdl = s.mdl
    ∧ t.meter = s.meter ∧ t.die = s.die ∧ t.tsu = s.tsu ∧ t.phi.time = s.phi.time ∧ t.phi.cfg = s.phi.cfg
    ∧ t.hub.storage = s.hub.storage ∧ t.hub.fw.state = s.hub.fw.state ∧ t.hub.pairs = s.hub.pairs
    ∧ t.hub.led = s.hub.led := by
  simp only [execMemberList, State.runHeld, State.runDesc, State.runBasin] <;> (repeat' split) <;> first | (simp; done) | (simp [*]; done) | (refine gives_and ?_ (gives_and ?_ (gives_and ?_ (gives_and ?_ (gives_and ?_ (gives_and ?_ (gives_and ?_ (gives_and ?_ (gives_and ?_ (gives_and ?_ (gives_and ?_ ?_)))))))))) <;> first | rfl | (simp; done) | (simp [*]; done))

@[simp] theorem State.stopLost_keeps (s : State) (b : Nat) :
    (State.stopLost s b).pending = s.pending ∧ (State.stopLost s b).cyc = s.cyc ∧ (State.stopLost s b).mdl = s.mdl
    ∧ (State.stopLost s b).meter = s.meter ∧ (State.stopLost s b).die = s.die ∧ (State.stopLost s b).tsu = s.tsu
    ∧ (State.stopLost s b).phi.time = s.phi.time ∧ (State.stopLost s b).phi.cfg = s.phi.cfg
    ∧ (State.stopLost s b).hub.storage = s.hub.storage ∧ (State.stopLost s b).hub.fw.state = s.hub.fw.state
    ∧ (State.stopLost s b).hub.pairs = s.hub.pairs ∧ (State.stopLost s b).hub.led = s.hub.led := by
  simp only [State.stopLost] <;> (repeat' split) <;> first | (simp; done) | (simp [*]; done) | (refine ⟨?_, ?_, ?_, ?_, ?_, ?_, ?_, ?_, ?_, ?_, ?_, ?_⟩ <;> first | rfl | (simp; done) | (simp [*]; done))

@[simp] theorem State.advance_keeps (s : State) (b : Nat) (next : Nat) (jump : Bool) :
    (State.advance s b next jump).pending = s.pending ∧ (State.advance s b next jump).cyc = s.cyc
    ∧ (State.advance s b next jump).mdl = s.mdl ∧ (State.advance s b next jump).meter = s.meter
    ∧ (State.advance s b next jump).die = s.die ∧ (State.advance s b next jump).tsu = s.tsu
    ∧ (State.advance s b next jump).phi.time = s.phi.time ∧ (State.advance s b next jump).phi.cfg = s.phi.cfg
    ∧ (State.advance s b next jump).hub.storage = s.hub.storage
    ∧ (State.advance s b next jump).hub.fw.state = s.hub.fw.state
    ∧ (State.advance s b next jump).hub.pairs = s.hub.pairs ∧ (State.advance s b next jump).hub.led = s.hub.led := by
  simp only [State.advance] <;> (repeat' split) <;> first | (simp; done) | (simp [*]; done) | (refine ⟨?_, ?_, ?_, ?_, ?_, ?_, ?_, ?_, ?_, ?_, ?_, ?_⟩ <;> first | rfl | (simp; done) | (simp [*]; done))

@[simp] theorem State.waitAt_keeps (s : State) (b : Nat) (cls : WaitClass) :
    (State.waitAt s b cls).pending = s.pending ∧ (State.waitAt s b cls).cyc = s.cyc ∧ (State.waitAt s b cls).mdl = s.mdl
    ∧ (State.waitAt s b cls).meter = s.meter ∧ (State.waitAt s b cls).die = s.die
    ∧ (State.waitAt s b cls).tsu = s.tsu ∧ (State.waitAt s b cls).phi.time = s.phi.time
    ∧ (State.waitAt s b cls).phi.cfg = s.phi.cfg ∧ (State.waitAt s b cls).hub.storage = s.hub.storage
    ∧ (State.waitAt s b cls).hub.fw.state = s.hub.fw.state ∧ (State.waitAt s b cls).hub.pairs = s.hub.pairs
    ∧ (State.waitAt s b cls).hub.led = s.hub.led := by
  simp only [State.waitAt] <;> (repeat' split) <;> first | (simp; done) | (simp [*]; done) | (refine ⟨?_, ?_, ?_, ?_, ?_, ?_, ?_, ?_, ?_, ?_, ?_, ?_⟩ <;> first | rfl | (simp; done) | (simp [*]; done))

@[simp] theorem execTideNop_keeps (basin : Nat) (s : State) :
    gives (execTideNop basin s) fun t => t.pending = s.pending ∧ t.cyc = s.cyc ∧ t.mdl = s.mdl ∧ t.meter = s.meter
    ∧ t.die = s.die ∧ t.tsu = s.tsu ∧ t.phi.time = s.phi.time ∧ t.phi.cfg = s.phi.cfg
    ∧ t.hub.storage = s.hub.storage ∧ t.hub.fw.state = s.hub.fw.state ∧ t.hub.pairs = s.hub.pairs
    ∧ t.hub.led = s.hub.led := by
  simp only [execTideNop, State.tide] <;> (repeat' split) <;> first | (simp; done) | (simp [*]; done) | (refine gives_and ?_ (gives_and ?_ (gives_and ?_ (gives_and ?_ (gives_and ?_ (gives_and ?_ (gives_and ?_ (gives_and ?_ (gives_and ?_ (gives_and ?_ (gives_and ?_ ?_)))))))))) <;> first | rfl | (simp; done) | (simp [*]; done))

@[simp] theorem State.applyPatch_keeps (s : State) (b : Nat) (p : Patch) :
    (State.applyPatch s b p).pending = s.pending ∧ (State.applyPatch s b p).cyc = s.cyc
    ∧ (State.applyPatch s b p).mdl = s.mdl ∧ (State.applyPatch s b p).meter = s.meter
    ∧ (State.applyPatch s b p).die = s.die ∧ (State.applyPatch s b p).tsu = s.tsu
    ∧ (State.applyPatch s b p).phi.time = s.phi.time ∧ (State.applyPatch s b p).phi.cfg = s.phi.cfg
    ∧ (State.applyPatch s b p).hub.storage = s.hub.storage ∧ (State.applyPatch s b p).hub.fw.state = s.hub.fw.state
    ∧ (State.applyPatch s b p).hub.pairs = s.hub.pairs ∧ (State.applyPatch s b p).hub.led = s.hub.led := by
  simp only [State.applyPatch] <;> (repeat' split) <;> first | (simp; done) | (simp [*]; done) | (refine ⟨?_, ?_, ?_, ?_, ?_, ?_, ?_, ?_, ?_, ?_, ?_, ?_⟩ <;> first | rfl | (simp; done) | (simp [*]; done))

@[simp] theorem State.sendAnnounce_keeps (s : State) (b : Nat) (g : Nat) (i : Issued) :
    (State.sendAnnounce s b g i).pending = s.pending ∧ (State.sendAnnounce s b g i).cyc = s.cyc
    ∧ (State.sendAnnounce s b g i).freeNext = s.freeNext ∧ (State.sendAnnounce s b g i).out = s.out
    ∧ (State.sendAnnounce s b g i).mdl = s.mdl ∧ (State.sendAnnounce s b g i).meter = s.meter
    ∧ (State.sendAnnounce s b g i).die = s.die ∧ (State.sendAnnounce s b g i).hub = s.hub
    ∧ (State.sendAnnounce s b g i).tsu = s.tsu ∧ (State.sendAnnounce s b g i).phi.time = s.phi.time
    ∧ (State.sendAnnounce s b g i).phi.rings = s.phi.rings ∧ (State.sendAnnounce s b g i).phi.cfg = s.phi.cfg := by
  refine ⟨?_, ?_, ?_, ?_, ?_, ?_, ?_, ?_, ?_, ?_, ?_, ?_⟩ <;> first | (simp [State.sendAnnounce]; done)

@[simp] theorem State.updIssued_keeps (s : State) (b : Nat) (step : StepNo) (f : Issued → Issued) :
    (State.updIssued s b step f).pending = s.pending ∧ (State.updIssued s b step f).cyc = s.cyc
    ∧ (State.updIssued s b step f).freeNext = s.freeNext ∧ (State.updIssued s b step f).out = s.out
    ∧ (State.updIssued s b step f).mdl = s.mdl ∧ (State.updIssued s b step f).meter = s.meter
    ∧ (State.updIssued s b step f).die = s.die ∧ (State.updIssued s b step f).tsu = s.tsu
    ∧ (State.updIssued s b step f).phi = s.phi ∧ (State.updIssued s b step f).hub.storage = s.hub.storage
    ∧ (State.updIssued s b step f).hub.fw.state = s.hub.fw.state
    ∧ (State.updIssued s b step f).hub.pairs = s.hub.pairs ∧ (State.updIssued s b step f).hub.led = s.hub.led := by
  refine ⟨?_, ?_, ?_, ?_, ?_, ?_, ?_, ?_, ?_, ?_, ?_, ?_, ?_⟩ <;> first | (simp [State.updIssued]; done)

@[simp] theorem State.tryCommit_keeps (s : State) (b : Nat) (step : StepNo) :
    (State.tryCommit s b step).pending = s.pending ∧ (State.tryCommit s b step).cyc = s.cyc
    ∧ (State.tryCommit s b step).freeNext = s.freeNext ∧ (State.tryCommit s b step).out = s.out
    ∧ (State.tryCommit s b step).mdl = s.mdl ∧ (State.tryCommit s b step).meter = s.meter
    ∧ (State.tryCommit s b step).die = s.die ∧ (State.tryCommit s b step).tsu = s.tsu
    ∧ (State.tryCommit s b step).phi.time = s.phi.time ∧ (State.tryCommit s b step).phi.rings = s.phi.rings
    ∧ (State.tryCommit s b step).phi.cfg = s.phi.cfg ∧ (State.tryCommit s b step).hub.storage = s.hub.storage
    ∧ (State.tryCommit s b step).hub.fw.state = s.hub.fw.state ∧ (State.tryCommit s b step).hub.pairs = s.hub.pairs
    ∧ (State.tryCommit s b step).hub.led = s.hub.led := by
  simp only [State.tryCommit] <;> (repeat' split) <;> first | (simp; done) | (simp [*]; done) | (refine ⟨?_, ?_, ?_, ?_, ?_, ?_, ?_, ?_, ?_, ?_, ?_, ?_, ?_, ?_, ?_⟩ <;> first | rfl | (simp; done) | (simp [*]; done))

@[simp] theorem State.issue_keeps (s : State) (b : Nat) (q : Seq) (e : List Byte) (l : W64) :
    (State.issue s b q e l).pending = s.pending ∧ (State.issue s b q e l).cyc = s.cyc
    ∧ (State.issue s b q e l).mdl = s.mdl ∧ (State.issue s b q e l).meter = s.meter
    ∧ (State.issue s b q e l).die = s.die ∧ (State.issue s b q e l).tsu = s.tsu
    ∧ (State.issue s b q e l).phi.time = s.phi.time ∧ (State.issue s b q e l).phi.cfg = s.phi.cfg
    ∧ (State.issue s b q e l).hub.storage = s.hub.storage ∧ (State.issue s b q e l).hub.fw.state = s.hub.fw.state
    ∧ (State.issue s b q e l).hub.pairs = s.hub.pairs ∧ (State.issue s b q e l).hub.led = s.hub.led := by
  refine ⟨?_, ?_, ?_, ?_, ?_, ?_, ?_, ?_, ?_, ?_, ?_, ?_⟩ <;> first | (simp [State.issue]; done)

@[simp] theorem State.detach_keeps (s : State) (b : Nat) :
    (State.detach s b).pending = s.pending ∧ (State.detach s b).cyc = s.cyc ∧ (State.detach s b).freeNext = s.freeNext
    ∧ (State.detach s b).mdl = s.mdl ∧ (State.detach s b).meter = s.meter ∧ (State.detach s b).die = s.die
    ∧ (State.detach s b).tsu = s.tsu ∧ (State.detach s b).phi.time = s.phi.time
    ∧ (State.detach s b).phi.rings = s.phi.rings ∧ (State.detach s b).phi.cfg = s.phi.cfg
    ∧ (State.detach s b).hub.storage = s.hub.storage ∧ (State.detach s b).hub.fw.state = s.hub.fw.state
    ∧ (State.detach s b).hub.pairs = s.hub.pairs ∧ (State.detach s b).hub.led = s.hub.led := by
  refine ⟨?_, ?_, ?_, ?_, ?_, ?_, ?_, ?_, ?_, ?_, ?_, ?_, ?_, ?_⟩ <;> first | (simp [State.detach]; done)

@[simp] theorem State.followLaunch_keeps (s : State) (b : Nat) (q : Seq) (e : List Byte) :
    (State.followLaunch s b q e).pending = s.pending ∧ (State.followLaunch s b q e).cyc = s.cyc
    ∧ (State.followLaunch s b q e).mdl = s.mdl ∧ (State.followLaunch s b q e).meter = s.meter
    ∧ (State.followLaunch s b q e).die = s.die ∧ (State.followLaunch s b q e).tsu = s.tsu
    ∧ (State.followLaunch s b q e).phi.time = s.phi.time ∧ (State.followLaunch s b q e).phi.cfg = s.phi.cfg
    ∧ (State.followLaunch s b q e).hub.storage = s.hub.storage
    ∧ (State.followLaunch s b q e).hub.fw.state = s.hub.fw.state
    ∧ (State.followLaunch s b q e).hub.pairs = s.hub.pairs ∧ (State.followLaunch s b q e).hub.led = s.hub.led := by
  simp only [State.followLaunch] <;> (repeat' split) <;> first | (simp; done) | (simp [*]; done) | (refine ⟨?_, ?_, ?_, ?_, ?_, ?_, ?_, ?_, ?_, ?_, ?_, ?_⟩ <;> first | rfl | (simp; done) | (simp [*]; done))

@[simp] theorem State.doLaunch_keeps (s : State) (b : Nat) :
    (State.doLaunch s b).pending = s.pending ∧ (State.doLaunch s b).cyc = s.cyc ∧ (State.doLaunch s b).mdl = s.mdl
    ∧ (State.doLaunch s b).meter = s.meter ∧ (State.doLaunch s b).die = s.die ∧ (State.doLaunch s b).tsu = s.tsu
    ∧ (State.doLaunch s b).phi.time = s.phi.time ∧ (State.doLaunch s b).phi.cfg = s.phi.cfg
    ∧ (State.doLaunch s b).hub.storage = s.hub.storage ∧ (State.doLaunch s b).hub.fw.state = s.hub.fw.state
    ∧ (State.doLaunch s b).hub.pairs = s.hub.pairs ∧ (State.doLaunch s b).hub.led = s.hub.led := by
  simp only [State.doLaunch] <;> (repeat' split) <;> first | (simp; done) | (simp [*]; done) | (refine ⟨?_, ?_, ?_, ?_, ?_, ?_, ?_, ?_, ?_, ?_, ?_, ?_⟩ <;> first | rfl | (simp; done) | (simp [*]; done))

@[simp] theorem State.waitFront_keeps (s : State) (b : Nat) :
    (State.waitFront s b).pending = s.pending ∧ (State.waitFront s b).cyc = s.cyc ∧ (State.waitFront s b).mdl = s.mdl
    ∧ (State.waitFront s b).meter = s.meter ∧ (State.waitFront s b).die = s.die ∧ (State.waitFront s b).tsu = s.tsu
    ∧ (State.waitFront s b).phi.time = s.phi.time ∧ (State.waitFront s b).phi.cfg = s.phi.cfg
    ∧ (State.waitFront s b).hub.storage = s.hub.storage ∧ (State.waitFront s b).hub.fw.state = s.hub.fw.state
    ∧ (State.waitFront s b).hub.pairs = s.hub.pairs ∧ (State.waitFront s b).hub.led = s.hub.led := by
  refine ⟨?_, ?_, ?_, ?_, ?_, ?_, ?_, ?_, ?_, ?_, ?_, ?_⟩ <;> first | (simp [State.waitFront]; done)

@[simp] theorem State.memberLaunch_keeps (s : State) (b : Nat) (q : Seq) :
    (State.memberLaunch s b q).pending = s.pending ∧ (State.memberLaunch s b q).cyc = s.cyc
    ∧ (State.memberLaunch s b q).mdl = s.mdl ∧ (State.memberLaunch s b q).meter = s.meter
    ∧ (State.memberLaunch s b q).die = s.die ∧ (State.memberLaunch s b q).tsu = s.tsu
    ∧ (State.memberLaunch s b q).phi.time = s.phi.time ∧ (State.memberLaunch s b q).phi.cfg = s.phi.cfg
    ∧ (State.memberLaunch s b q).hub.storage = s.hub.storage
    ∧ (State.memberLaunch s b q).hub.fw.state = s.hub.fw.state ∧ (State.memberLaunch s b q).hub.pairs = s.hub.pairs
    ∧ (State.memberLaunch s b q).hub.led = s.hub.led := by
  simp only [State.memberLaunch] <;> (repeat' split) <;> first | (simp; done) | (simp [*]; done) | (refine ⟨?_, ?_, ?_, ?_, ?_, ?_, ?_, ?_, ?_, ?_, ?_, ?_⟩ <;> first | rfl | (simp; done) | (simp [*]; done))

@[simp] theorem execTideLaunch_keeps (basin : Nat) (s : State) :
    gives (execTideLaunch basin s) fun t => t.pending = s.pending ∧ t.cyc = s.cyc ∧ t.mdl = s.mdl ∧ t.meter = s.meter
    ∧ t.die = s.die ∧ t.tsu = s.tsu ∧ t.phi.time = s.phi.time ∧ t.phi.cfg = s.phi.cfg
    ∧ t.hub.storage = s.hub.storage ∧ t.hub.fw.state = s.hub.fw.state ∧ t.hub.pairs = s.hub.pairs
    ∧ t.hub.led = s.hub.led := by
  simp only [execTideLaunch, State.tide] <;> (repeat' split) <;> first | (simp; done) | (simp [*]; done) | (refine gives_and ?_ (gives_and ?_ (gives_and ?_ (gives_and ?_ (gives_and ?_ (gives_and ?_ (gives_and ?_ (gives_and ?_ (gives_and ?_ (gives_and ?_ (gives_and ?_ ?_)))))))))) <;> first | rfl | (simp; done) | (simp [*]; done))

@[simp] theorem execAnnounceSend_keeps (basin : Nat) (step : StepNo) (s : State) :
    gives (execAnnounceSend basin step s) fun t => t.pending = s.pending ∧ t.cyc = s.cyc ∧ t.freeNext = s.freeNext
    ∧ t.out = s.out ∧ t.mdl = s.mdl ∧ t.meter = s.meter ∧ t.die = s.die ∧ t.tsu = s.tsu ∧ t.phi.time = s.phi.time
    ∧ t.phi.rings = s.phi.rings ∧ t.phi.cfg = s.phi.cfg ∧ t.hub.storage = s.hub.storage
    ∧ t.hub.fw.state = s.hub.fw.state ∧ t.hub.pairs = s.hub.pairs ∧ t.hub.led = s.hub.led := by
  simp only [execAnnounceSend] <;> (repeat' split) <;> first | (simp; done) | (simp [*]; done) | (refine gives_and ?_ (gives_and ?_ (gives_and ?_ (gives_and ?_ (gives_and ?_ (gives_and ?_ (gives_and ?_ (gives_and ?_ (gives_and ?_ (gives_and ?_ (gives_and ?_ (gives_and ?_ (gives_and ?_ (gives_and ?_ ?_))))))))))))) <;> first | rfl | (simp; done) | (simp [*]; done))

@[simp] theorem execTideGateWait_keeps (basin : Nat) (s : State) :
    gives (execTideGateWait basin s) fun t => t.pending = s.pending ∧ t.cyc = s.cyc ∧ t.mdl = s.mdl ∧ t.meter = s.meter
    ∧ t.die = s.die ∧ t.tsu = s.tsu ∧ t.phi.time = s.phi.time ∧ t.phi.cfg = s.phi.cfg
    ∧ t.hub.storage = s.hub.storage ∧ t.hub.fw.state = s.hub.fw.state ∧ t.hub.pairs = s.hub.pairs
    ∧ t.hub.led = s.hub.led := by
  simp only [execTideGateWait, State.tide] <;> (repeat' split) <;> first | (simp; done) | (simp [*]; done) | (refine gives_and ?_ (gives_and ?_ (gives_and ?_ (gives_and ?_ (gives_and ?_ (gives_and ?_ (gives_and ?_ (gives_and ?_ (gives_and ?_ (gives_and ?_ (gives_and ?_ ?_)))))))))) <;> first | rfl | (simp; done) | (simp [*]; done))

@[simp] theorem State.gateTimedOut_keeps (s : State) (b : Nat) (q : Seq) (gate : Nat) (step : StepNo) :
    (State.gateTimedOut s b q gate step).pending = s.pending ∧ (State.gateTimedOut s b q gate step).cyc = s.cyc
    ∧ (State.gateTimedOut s b q gate step).mdl = s.mdl ∧ (State.gateTimedOut s b q gate step).meter = s.meter
    ∧ (State.gateTimedOut s b q gate step).die = s.die ∧ (State.gateTimedOut s b q gate step).tsu = s.tsu
    ∧ (State.gateTimedOut s b q gate step).phi.time = s.phi.time
    ∧ (State.gateTimedOut s b q gate step).phi.cfg = s.phi.cfg
    ∧ (State.gateTimedOut s b q gate step).hub.storage = s.hub.storage
    ∧ (State.gateTimedOut s b q gate step).hub.fw.state = s.hub.fw.state
    ∧ (State.gateTimedOut s b q gate step).hub.pairs = s.hub.pairs
    ∧ (State.gateTimedOut s b q gate step).hub.led = s.hub.led := by
  refine ⟨?_, ?_, ?_, ?_, ?_, ?_, ?_, ?_, ?_, ?_, ?_, ?_⟩ <;> first | (simp [State.gateTimedOut]; done)

@[simp] theorem execGateWaitTimeout_keeps (basin : Nat) (s : State) :
    gives (execGateWaitTimeout basin s) fun t => t.pending = s.pending ∧ t.cyc = s.cyc ∧ t.mdl = s.mdl
    ∧ t.meter = s.meter ∧ t.die = s.die ∧ t.tsu = s.tsu ∧ t.phi.time = s.phi.time ∧ t.phi.cfg = s.phi.cfg
    ∧ t.hub.storage = s.hub.storage ∧ t.hub.fw.state = s.hub.fw.state ∧ t.hub.pairs = s.hub.pairs
    ∧ t.hub.led = s.hub.led := by
  simp only [execGateWaitTimeout] <;> (repeat' split) <;> first | (simp; done) | (simp [*]; done) | (refine gives_and ?_ (gives_and ?_ (gives_and ?_ (gives_and ?_ (gives_and ?_ (gives_and ?_ (gives_and ?_ (gives_and ?_ (gives_and ?_ (gives_and ?_ (gives_and ?_ ?_)))))))))) <;> first | rfl | (simp; done) | (simp [*]; done))

@[simp] theorem execTideBranch_keeps (basin : Nat) (s : State) :
    gives (execTideBranch basin s) fun t => t.pending = s.pending ∧ t.cyc = s.cyc ∧ t.mdl = s.mdl ∧ t.meter = s.meter
    ∧ t.die = s.die ∧ t.tsu = s.tsu ∧ t.phi.time = s.phi.time ∧ t.phi.cfg = s.phi.cfg
    ∧ t.hub.storage = s.hub.storage ∧ t.hub.fw.state = s.hub.fw.state ∧ t.hub.pairs = s.hub.pairs
    ∧ t.hub.led = s.hub.led := by
  simp only [execTideBranch, State.tide] <;> (repeat' split) <;> first | (simp; done) | (simp [*]; done) | (refine gives_and ?_ (gives_and ?_ (gives_and ?_ (gives_and ?_ (gives_and ?_ (gives_and ?_ (gives_and ?_ (gives_and ?_ (gives_and ?_ (gives_and ?_ (gives_and ?_ ?_)))))))))) <;> first | rfl | (simp; done) | (simp [*]; done))

@[simp] theorem execBranchWaitTimeout_keeps (basin : Nat) (s : State) :
    gives (execBranchWaitTimeout basin s) fun t => t.pending = s.pending ∧ t.cyc = s.cyc ∧ t.mdl = s.mdl
    ∧ t.meter = s.meter ∧ t.die = s.die ∧ t.tsu = s.tsu ∧ t.phi.time = s.phi.time ∧ t.phi.cfg = s.phi.cfg
    ∧ t.hub.storage = s.hub.storage ∧ t.hub.fw.state = s.hub.fw.state ∧ t.hub.pairs = s.hub.pairs
    ∧ t.hub.led = s.hub.led := by
  simp only [execBranchWaitTimeout] <;> (repeat' split) <;> first | (simp; done) | (simp [*]; done) | (refine gives_and ?_ (gives_and ?_ (gives_and ?_ (gives_and ?_ (gives_and ?_ (gives_and ?_ (gives_and ?_ (gives_and ?_ (gives_and ?_ (gives_and ?_ (gives_and ?_ ?_)))))))))) <;> first | rfl | (simp; done) | (simp [*]; done))

@[simp] theorem execTideLoopSet_keeps (basin : Nat) (s : State) :
    gives (execTideLoopSet basin s) fun t => t.pending = s.pending ∧ t.cyc = s.cyc ∧ t.mdl = s.mdl ∧ t.meter = s.meter
    ∧ t.die = s.die ∧ t.tsu = s.tsu ∧ t.phi.time = s.phi.time ∧ t.phi.cfg = s.phi.cfg
    ∧ t.hub.storage = s.hub.storage ∧ t.hub.fw.state = s.hub.fw.state ∧ t.hub.pairs = s.hub.pairs
    ∧ t.hub.led = s.hub.led := by
  simp only [execTideLoopSet, State.tide] <;> (repeat' split) <;> first | (simp; done) | (simp [*]; done) | (refine gives_and ?_ (gives_and ?_ (gives_and ?_ (gives_and ?_ (gives_and ?_ (gives_and ?_ (gives_and ?_ (gives_and ?_ (gives_and ?_ (gives_and ?_ (gives_and ?_ ?_)))))))))) <;> first | rfl | (simp; done) | (simp [*]; done))

@[simp] theorem execTideLoopBack_keeps (basin : Nat) (s : State) :
    gives (execTideLoopBack basin s) fun t => t.pending = s.pending ∧ t.cyc = s.cyc ∧ t.mdl = s.mdl ∧ t.meter = s.meter
    ∧ t.die = s.die ∧ t.tsu = s.tsu ∧ t.phi.time = s.phi.time ∧ t.phi.cfg = s.phi.cfg
    ∧ t.hub.storage = s.hub.storage ∧ t.hub.fw.state = s.hub.fw.state ∧ t.hub.pairs = s.hub.pairs
    ∧ t.hub.led = s.hub.led := by
  simp only [execTideLoopBack, State.tide] <;> (repeat' split) <;> first | (simp; done) | (simp [*]; done) | (refine gives_and ?_ (gives_and ?_ (gives_and ?_ (gives_and ?_ (gives_and ?_ (gives_and ?_ (gives_and ?_ (gives_and ?_ (gives_and ?_ (gives_and ?_ (gives_and ?_ ?_)))))))))) <;> first | rfl | (simp; done) | (simp [*]; done))

@[simp] theorem execTideMeterMark_keeps (basin : Nat) (s : State) :
    gives (execTideMeterMark basin s) fun t => t.pending = s.pending ∧ t.cyc = s.cyc ∧ t.mdl = s.mdl ∧ t.meter = s.meter
    ∧ t.die = s.die ∧ t.tsu = s.tsu ∧ t.phi.time = s.phi.time ∧ t.phi.cfg = s.phi.cfg
    ∧ t.hub.storage = s.hub.storage ∧ t.hub.fw.state = s.hub.fw.state ∧ t.hub.pairs = s.hub.pairs
    ∧ t.hub.led = s.hub.led := by
  simp only [execTideMeterMark, State.tide] <;> (repeat' split) <;> first | (simp; done) | (simp [*]; done) | (refine gives_and ?_ (gives_and ?_ (gives_and ?_ (gives_and ?_ (gives_and ?_ (gives_and ?_ (gives_and ?_ (gives_and ?_ (gives_and ?_ (gives_and ?_ (gives_and ?_ ?_)))))))))) <;> first | rfl | (simp; done) | (simp [*]; done))

@[simp] theorem State.stage_keeps (s : State) (b : Nat) (c : Change) :
    (State.stage s b c).pending = s.pending ∧ (State.stage s b c).cyc = s.cyc
    ∧ (State.stage s b c).freeNext = s.freeNext ∧ (State.stage s b c).out = s.out ∧ (State.stage s b c).mdl = s.mdl
    ∧ (State.stage s b c).meter = s.meter ∧ (State.stage s b c).die = s.die ∧ (State.stage s b c).tsu = s.tsu
    ∧ (State.stage s b c).phi = s.phi ∧ (State.stage s b c).hub.storage = s.hub.storage
    ∧ (State.stage s b c).hub.fw.state = s.hub.fw.state ∧ (State.stage s b c).hub.pairs = s.hub.pairs
    ∧ (State.stage s b c).hub.led = s.hub.led := by
  refine ⟨?_, ?_, ?_, ?_, ?_, ?_, ?_, ?_, ?_, ?_, ?_, ?_, ?_⟩ <;> first | (simp [State.stage]; done)

@[simp] theorem execTideMemberAdd_keeps (basin : Nat) (s : State) :
    gives (execTideMemberAdd basin s) fun t => t.pending = s.pending ∧ t.cyc = s.cyc ∧ t.mdl = s.mdl ∧ t.meter = s.meter
    ∧ t.die = s.die ∧ t.tsu = s.tsu ∧ t.phi.time = s.phi.time ∧ t.phi.cfg = s.phi.cfg
    ∧ t.hub.storage = s.hub.storage ∧ t.hub.fw.state = s.hub.fw.state ∧ t.hub.pairs = s.hub.pairs
    ∧ t.hub.led = s.hub.led := by
  simp only [execTideMemberAdd, State.tide] <;> (repeat' split) <;> first | (simp; done) | (simp [*]; done) | (refine gives_and ?_ (gives_and ?_ (gives_and ?_ (gives_and ?_ (gives_and ?_ (gives_and ?_ (gives_and ?_ (gives_and ?_ (gives_and ?_ (gives_and ?_ (gives_and ?_ ?_)))))))))) <;> first | rfl | (simp; done) | (simp [*]; done))

@[simp] theorem execTideMemberDel_keeps (basin : Nat) (s : State) :
    gives (execTideMemberDel basin s) fun t => t.pending = s.pending ∧ t.cyc = s.cyc ∧ t.mdl = s.mdl ∧ t.meter = s.meter
    ∧ t.die = s.die ∧ t.tsu = s.tsu ∧ t.phi.time = s.phi.time ∧ t.phi.cfg = s.phi.cfg
    ∧ t.hub.storage = s.hub.storage ∧ t.hub.fw.state = s.hub.fw.state ∧ t.hub.pairs = s.hub.pairs
    ∧ t.hub.led = s.hub.led := by
  simp only [execTideMemberDel, State.tide] <;> (repeat' split) <;> first | (simp; done) | (simp [*]; done) | (refine gives_and ?_ (gives_and ?_ (gives_and ?_ (gives_and ?_ (gives_and ?_ (gives_and ?_ (gives_and ?_ (gives_and ?_ (gives_and ?_ (gives_and ?_ (gives_and ?_ ?_)))))))))) <;> first | rfl | (simp; done) | (simp [*]; done))

@[simp] theorem execTidePredSet_keeps (basin : Nat) (s : State) :
    gives (execTidePredSet basin s) fun t => t.pending = s.pending ∧ t.cyc = s.cyc ∧ t.mdl = s.mdl ∧ t.meter = s.meter
    ∧ t.die = s.die ∧ t.tsu = s.tsu ∧ t.phi.time = s.phi.time ∧ t.phi.cfg = s.phi.cfg
    ∧ t.hub.storage = s.hub.storage ∧ t.hub.fw.state = s.hub.fw.state ∧ t.hub.pairs = s.hub.pairs
    ∧ t.hub.led = s.hub.led := by
  simp only [execTidePredSet, State.tide] <;> (repeat' split) <;> first | (simp; done) | (simp [*]; done) | (refine gives_and ?_ (gives_and ?_ (gives_and ?_ (gives_and ?_ (gives_and ?_ (gives_and ?_ (gives_and ?_ (gives_and ?_ (gives_and ?_ (gives_and ?_ (gives_and ?_ ?_)))))))))) <;> first | rfl | (simp; done) | (simp [*]; done))

@[simp] theorem execTidePark_keeps (basin : Nat) (s : State) :
    gives (execTidePark basin s) fun t => t.pending = s.pending ∧ t.cyc = s.cyc ∧ t.mdl = s.mdl ∧ t.meter = s.meter
    ∧ t.die = s.die ∧ t.tsu = s.tsu ∧ t.phi.time = s.phi.time ∧ t.phi.cfg = s.phi.cfg
    ∧ t.hub.storage = s.hub.storage ∧ t.hub.fw.state = s.hub.fw.state ∧ t.hub.pairs = s.hub.pairs
    ∧ t.hub.led = s.hub.led := by
  simp only [execTidePark, State.tide] <;> (repeat' split) <;> first | (simp; done) | (simp [*]; done) | (refine gives_and ?_ (gives_and ?_ (gives_and ?_ (gives_and ?_ (gives_and ?_ (gives_and ?_ (gives_and ?_ (gives_and ?_ (gives_and ?_ (gives_and ?_ (gives_and ?_ ?_)))))))))) <;> first | rfl | (simp; done) | (simp [*]; done))

@[simp] theorem execTideEnd_keeps (basin : Nat) (s : State) :
    gives (execTideEnd basin s) fun t => t.pending = s.pending ∧ t.cyc = s.cyc ∧ t.mdl = s.mdl ∧ t.meter = s.meter
    ∧ t.die = s.die ∧ t.tsu = s.tsu ∧ t.phi.time = s.phi.time ∧ t.phi.cfg = s.phi.cfg
    ∧ t.hub.storage = s.hub.storage ∧ t.hub.fw.state = s.hub.fw.state ∧ t.hub.pairs = s.hub.pairs
    ∧ t.hub.led = s.hub.led := by
  simp only [execTideEnd, State.tide] <;> (repeat' split) <;> first | (simp; done) | (simp [*]; done) | (refine gives_and ?_ (gives_and ?_ (gives_and ?_ (gives_and ?_ (gives_and ?_ (gives_and ?_ (gives_and ?_ (gives_and ?_ (gives_and ?_ (gives_and ?_ (gives_and ?_ ?_)))))))))) <;> first | rfl | (simp; done) | (simp [*]; done))

@[simp] theorem execTideFetchDone_keeps (basin : Nat) (s : State) :
    gives (execTideFetchDone basin s) fun t => t.pending = s.pending ∧ t.cyc = s.cyc ∧ t.freeNext = s.freeNext
    ∧ t.out = s.out ∧ t.mdl = s.mdl ∧ t.meter = s.meter ∧ t.die = s.die ∧ t.tsu = s.tsu ∧ t.phi.time = s.phi.time
    ∧ t.phi.rings = s.phi.rings ∧ t.phi.cfg = s.phi.cfg ∧ t.hub.storage = s.hub.storage
    ∧ t.hub.fw.state = s.hub.fw.state ∧ t.hub.pairs = s.hub.pairs ∧ t.hub.led = s.hub.led := by
  simp only [execTideFetchDone] <;> (repeat' split) <;> first | (simp; done) | (simp [*]; done) | (refine gives_and ?_ (gives_and ?_ (gives_and ?_ (gives_and ?_ (gives_and ?_ (gives_and ?_ (gives_and ?_ (gives_and ?_ (gives_and ?_ (gives_and ?_ (gives_and ?_ (gives_and ?_ (gives_and ?_ (gives_and ?_ ?_))))))))))))) <;> first | rfl | (simp; done) | (simp [*]; done))

@[simp] theorem State.tsuCommit_keeps (s : State) (b : Nat) (step : StepNo) :
    (State.tsuCommit s b step).pending = s.pending ∧ (State.tsuCommit s b step).cyc = s.cyc
    ∧ (State.tsuCommit s b step).freeNext = s.freeNext ∧ (State.tsuCommit s b step).out = s.out
    ∧ (State.tsuCommit s b step).mdl = s.mdl ∧ (State.tsuCommit s b step).meter = s.meter
    ∧ (State.tsuCommit s b step).hub = s.hub ∧ (State.tsuCommit s b step).tsu = s.tsu
    ∧ (State.tsuCommit s b step).phi = s.phi ∧ (State.tsuCommit s b step).die.sync = s.die.sync
    ∧ (State.tsuCommit s b step).die.launches = s.die.launches ∧ (State.tsuCommit s b step).die.dig = s.die.dig
    ∧ (State.tsuCommit s b step).die.binds = s.die.binds ∧ (State.tsuCommit s b step).die.coreEn = s.die.coreEn := by
  refine ⟨?_, ?_, ?_, ?_, ?_, ?_, ?_, ?_, ?_, ?_, ?_, ?_, ?_, ?_⟩ <;> first | (simp [State.tsuCommit]; done)

@[simp] theorem execStepCommitTimer_keeps (basin : Nat) (step : StepNo) (s : State) :
    gives (execStepCommitTimer basin step s) fun t => t.pending = s.pending ∧ t.cyc = s.cyc ∧ t.mdl = s.mdl
    ∧ t.meter = s.meter ∧ t.tsu = s.tsu ∧ t.phi.time = s.phi.time ∧ t.phi.cfg = s.phi.cfg
    ∧ t.hub.storage = s.hub.storage ∧ t.hub.fw.state = s.hub.fw.state ∧ t.hub.pairs = s.hub.pairs
    ∧ t.hub.led = s.hub.led ∧ t.die.sync = s.die.sync ∧ t.die.launches = s.die.launches ∧ t.die.dig = s.die.dig
    ∧ t.die.binds = s.die.binds ∧ t.die.coreEn = s.die.coreEn := by
  simp only [execStepCommitTimer] <;> (repeat' split) <;> first | (simp; done) | (simp [*]; done) | (refine gives_and ?_ (gives_and ?_ (gives_and ?_ (gives_and ?_ (gives_and ?_ (gives_and ?_ (gives_and ?_ (gives_and ?_ (gives_and ?_ (gives_and ?_ (gives_and ?_ (gives_and ?_ (gives_and ?_ (gives_and ?_ (gives_and ?_ ?_)))))))))))))) <;> first | rfl | (simp; done) | (simp [*]; done))

@[simp] theorem execMemberConfirmTimeout_keeps (basin : Nat) (s : State) :
    gives (execMemberConfirmTimeout basin s) fun t => t.pending = s.pending ∧ t.cyc = s.cyc ∧ t.mdl = s.mdl
    ∧ t.meter = s.meter ∧ t.die = s.die ∧ t.tsu = s.tsu ∧ t.phi.time = s.phi.time ∧ t.phi.cfg = s.phi.cfg
    ∧ t.hub.storage = s.hub.storage ∧ t.hub.fw.state = s.hub.fw.state ∧ t.hub.pairs = s.hub.pairs
    ∧ t.hub.led = s.hub.led := by
  simp only [execMemberConfirmTimeout] <;> (repeat' split) <;> first | (simp; done) | (simp [*]; done) | (refine gives_and ?_ (gives_and ?_ (gives_and ?_ (gives_and ?_ (gives_and ?_ (gives_and ?_ (gives_and ?_ (gives_and ?_ (gives_and ?_ (gives_and ?_ (gives_and ?_ ?_)))))))))) <;> first | rfl | (simp; done) | (simp [*]; done))

@[simp] theorem execLeadTimeout_keeps (basin : Nat) (s : State) :
    gives (execLeadTimeout basin s) fun t => t.pending = s.pending ∧ t.cyc = s.cyc ∧ t.freeNext = s.freeNext
    ∧ t.out = s.out ∧ t.mdl = s.mdl ∧ t.meter = s.meter ∧ t.die = s.die ∧ t.tsu = s.tsu ∧ t.phi = s.phi
    ∧ t.hub.storage = s.hub.storage ∧ t.hub.fw.state = s.hub.fw.state ∧ t.hub.pairs = s.hub.pairs
    ∧ t.hub.led = s.hub.led := by
  simp only [execLeadTimeout] <;> (repeat' split) <;> first | (simp; done) | (simp [*]; done) | (refine gives_and ?_ (gives_and ?_ (gives_and ?_ (gives_and ?_ (gives_and ?_ (gives_and ?_ (gives_and ?_ (gives_and ?_ (gives_and ?_ (gives_and ?_ (gives_and ?_ (gives_and ?_ ?_))))))))))) <;> first | rfl | (simp; done) | (simp [*]; done))

@[simp] theorem execAbortWaveComplete_keeps (basin : Nat) (s : State) :
    gives (execAbortWaveComplete basin s) fun t => t.pending = s.pending ∧ t.cyc = s.cyc ∧ t.mdl = s.mdl
    ∧ t.meter = s.meter ∧ t.die = s.die ∧ t.tsu = s.tsu ∧ t.phi.time = s.phi.time ∧ t.phi.cfg = s.phi.cfg
    ∧ t.hub.storage = s.hub.storage ∧ t.hub.fw.state = s.hub.fw.state ∧ t.hub.pairs = s.hub.pairs
    ∧ t.hub.led = s.hub.led := by
  simp only [execAbortWaveComplete] <;> (repeat' split) <;> first | (simp; done) | (simp [*]; done) | (refine gives_and ?_ (gives_and ?_ (gives_and ?_ (gives_and ?_ (gives_and ?_ (gives_and ?_ (gives_and ?_ (gives_and ?_ (gives_and ?_ (gives_and ?_ (gives_and ?_ ?_)))))))))) <;> first | rfl | (simp; done) | (simp [*]; done))

end Sys2Proof.Machine
end

