-- ==== Sys2Proof/Laws/Wave.lean ====
section
/-!
SUPPORT. What the operations and meanings of Machine/Wave.lean leave unchanged.
-/

namespace Sys2Proof.Machine

@[simp] theorem State.forwardOnce_keeps (s : State) (kind : Nat) (b : Nat) (g : Nat) (f : LaunchPl) (ports : List Nat) (pl : Payload) :
    (State.forwardOnce s kind b g f ports pl).pending = s.pending
    ∧ (State.forwardOnce s kind b g f ports pl).cyc = s.cyc
    ∧ (State.forwardOnce s kind b g f ports pl).freeNext = s.freeNext
    ∧ (State.forwardOnce s kind b g f ports pl).out = s.out ∧ (State.forwardOnce s kind b g f ports pl).mdl = s.mdl
    ∧ (State.forwardOnce s kind b g f ports pl).meter = s.meter
    ∧ (State.forwardOnce s kind b g f ports pl).die = s.die ∧ (State.forwardOnce s kind b g f ports pl).hub = s.hub
    ∧ (State.forwardOnce s kind b g f ports pl).tsu = s.tsu
    ∧ (State.forwardOnce s kind b g f ports pl).phi.time = s.phi.time
    ∧ (State.forwardOnce s kind b g f ports pl).phi.rings = s.phi.rings
    ∧ (State.forwardOnce s kind b g f ports pl).phi.cfg = s.phi.cfg := by
  simp only [State.forwardOnce] <;> (repeat' split) <;> first | (simp; done) | (simp [*]; done) | (refine ⟨?_, ?_, ?_, ?_, ?_, ?_, ?_, ?_, ?_, ?_, ?_, ?_⟩ <;> first | rfl | (simp; done) | (simp [*]; done))

@[simp] theorem State.noteStep_keeps (s : State) (b : Nat) (g : Nat) (f : LaunchPl) :
    (State.noteStep s b g f).pending = s.pending ∧ (State.noteStep s b g f).cyc = s.cyc
    ∧ (State.noteStep s b g f).freeNext = s.freeNext ∧ (State.noteStep s b g f).out = s.out
    ∧ (State.noteStep s b g f).mdl = s.mdl ∧ (State.noteStep s b g f).meter = s.meter
    ∧ (State.noteStep s b g f).die = s.die ∧ (State.noteStep s b g f).tsu = s.tsu
    ∧ (State.noteStep s b g f).phi = s.phi ∧ (State.noteStep s b g f).hub.storage = s.hub.storage
    ∧ (State.noteStep s b g f).hub.fw.state = s.hub.fw.state ∧ (State.noteStep s b g f).hub.pairs = s.hub.pairs
    ∧ (State.noteStep s b g f).hub.led = s.hub.led ∧ (State.noteStep s b g f).hub.seqs = s.hub.seqs := by
  refine ⟨?_, ?_, ?_, ?_, ?_, ?_, ?_, ?_, ?_, ?_, ?_, ?_, ?_, ?_⟩ <;> first | (simp [State.noteStep]; done)

@[simp] theorem execAnnounceForward_keeps (port : Nat) (e : Env) (f : LaunchPl) (s : State) :
    gives (execAnnounceForward port e f s) fun t => t.pending = s.pending ∧ t.cyc = s.cyc ∧ t.freeNext = s.freeNext
    ∧ t.out = s.out ∧ t.mdl = s.mdl ∧ t.meter = s.meter ∧ t.die = s.die ∧ t.tsu = s.tsu ∧ t.phi.time = s.phi.time
    ∧ t.phi.rings = s.phi.rings ∧ t.phi.cfg = s.phi.cfg ∧ t.hub.storage = s.hub.storage
    ∧ t.hub.fw.state = s.hub.fw.state ∧ t.hub.pairs = s.hub.pairs ∧ t.hub.led = s.hub.led ∧ t.hub.seqs = s.hub.seqs := by
  simp only [execAnnounceForward, State.onReliable_eq] <;> (repeat' split) <;> first | (simp; done) | (simp [*]; done) | (refine gives_and ?_ (gives_and ?_ (gives_and ?_ (gives_and ?_ (gives_and ?_ (gives_and ?_ (gives_and ?_ (gives_and ?_ (gives_and ?_ (gives_and ?_ (gives_and ?_ (gives_and ?_ (gives_and ?_ (gives_and ?_ (gives_and ?_ ?_)))))))))))))) <;> first | rfl | (simp; done) | (simp [*]; done) | ((try simp); refine (foldl_pending _ _ _ fun s a => ?_).trans ?_ <;> (repeat' split) <;> first | with_reducible rfl | (simp; done) | (simp [*]; done)) | ((try simp); refine (foldl_cyc _ _ _ fun s a => ?_).trans ?_ <;> (repeat' split) <;> first | with_reducible rfl | (simp; done) | (simp [*]; done)) | ((try simp); refine (foldl_freeNext _ _ _ fun s a => ?_).trans ?_ <;> (repeat' split) <;> first | with_reducible rfl | (simp; done) | (simp [*]; done)) | ((try simp); refine (foldl_out _ _ _ fun s a => ?_).trans ?_ <;> (repeat' split) <;> first | with_reducible rfl | (simp; done) | (simp [*]; done)) | ((try simp); refine (foldl_mdl _ _ _ fun s a => ?_).trans ?_ <;> (repeat' split) <;> first | with_reducible rfl | (simp; done) | (simp [*]; done)) | ((try simp); refine (foldl_meter _ _ _ fun s a => ?_).trans ?_ <;> (repeat' split) <;> first | with_reducible rfl | (simp; done) | (simp [*]; done)) | ((try simp); refine (foldl_die _ _ _ fun s a => ?_).trans ?_ <;> (repeat' split) <;> first | with_reducible rfl | (simp; done) | (simp [*]; done)) | ((try simp); refine (foldl_tsu _ _ _ fun s a => ?_).trans ?_ <;> (repeat' split) <;> first | with_reducible rfl | (simp; done) | (simp [*]; done)) | ((try simp); refine (foldl_phi_time _ _ _ fun s a => ?_).trans ?_ <;> (repeat' split) <;> first | with_reducible rfl | (simp; done) | (simp [*]; done)) | ((try simp); refine (foldl_phi_rings _ _ _ fun s a => ?_).trans ?_ <;> (repeat' split) <;> first | with_reducible rfl | (simp; done) | (simp [*]; done)) | ((try simp); refine (foldl_phi_cfg _ _ _ fun s a => ?_).trans ?_ <;> (repeat' split) <;> first | with_reducible rfl | (simp; done) | (simp [*]; done)) | ((try simp); refine (foldl_hub_storage _ _ _ fun s a => ?_).trans ?_ <;> (repeat' split) <;> first | with_reducible rfl | (simp; done) | (simp [*]; done)) | ((try simp); refine (foldl_hub_fw_state _ _ _ fun s a => ?_).trans ?_ <;> (repeat' split) <;> first | with_reducible rfl | (simp; done) | (simp [*]; done)) | ((try simp); refine (foldl_hub_pairs _ _ _ fun s a => ?_).trans ?_ <;> (repeat' split) <;> first | with_reducible rfl | (simp; done) | (simp [*]; done)) | ((try simp); refine (foldl_hub_led _ _ _ fun s a => ?_).trans ?_ <;> (repeat' split) <;> first | with_reducible rfl | (simp; done) | (simp [*]; done)) | ((try simp); refine (foldl_hub_seqs _ _ _ fun s a => ?_).trans ?_ <;> (repeat' split) <;> first | with_reducible rfl | (simp; done) | (simp [*]; done)))

@[simp] theorem execCommitForward_keeps (port : Nat) (e : Env) (f : LaunchPl) (s : State) :
    gives (execCommitForward port e f s) fun t => t.pending = s.pending ∧ t.cyc = s.cyc ∧ t.freeNext = s.freeNext
    ∧ t.out = s.out ∧ t.mdl = s.mdl ∧ t.meter = s.meter ∧ t.die = s.die ∧ t.hub = s.hub ∧ t.tsu = s.tsu
    ∧ t.phi.time = s.phi.time ∧ t.phi.rings = s.phi.rings ∧ t.phi.cfg = s.phi.cfg := by
  simp only [execCommitForward, State.onReliable_eq] <;> (repeat' split) <;> first | (simp; done) | (simp [*]; done) | (refine gives_and ?_ (gives_and ?_ (gives_and ?_ (gives_and ?_ (gives_and ?_ (gives_and ?_ (gives_and ?_ (gives_and ?_ (gives_and ?_ (gives_and ?_ (gives_and ?_ ?_)))))))))) <;> first | rfl | (simp; done) | (simp [*]; done) | ((try simp); refine (foldl_pending _ _ _ fun s a => ?_).trans ?_ <;> (repeat' split) <;> first | with_reducible rfl | (simp; done) | (simp [*]; done)) | ((try simp); refine (foldl_cyc _ _ _ fun s a => ?_).trans ?_ <;> (repeat' split) <;> first | with_reducible rfl | (simp; done) | (simp [*]; done)) | ((try simp); refine (foldl_freeNext _ _ _ fun s a => ?_).trans ?_ <;> (repeat' split) <;> first | with_reducible rfl | (simp; done) | (simp [*]; done)) | ((try simp); refine (foldl_out _ _ _ fun s a => ?_).trans ?_ <;> (repeat' split) <;> first | with_reducible rfl | (simp; done) | (simp [*]; done)) | ((try simp); refine (foldl_mdl _ _ _ fun s a => ?_).trans ?_ <;> (repeat' split) <;> first | with_reducible rfl | (simp; done) | (simp [*]; done)) | ((try simp); refine (foldl_meter _ _ _ fun s a => ?_).trans ?_ <;> (repeat' split) <;> first | with_reducible rfl | (simp; done) | (simp [*]; done)) | ((try simp); refine (foldl_die _ _ _ fun s a => ?_).trans ?_ <;> (repeat' split) <;> first | with_reducible rfl | (simp; done) | (simp [*]; done)) | ((try simp); refine (foldl_hub _ _ _ fun s a => ?_).trans ?_ <;> (repeat' split) <;> first | with_reducible rfl | (simp; done) | (simp [*]; done)) | ((try simp); refine (foldl_tsu _ _ _ fun s a => ?_).trans ?_ <;> (repeat' split) <;> first | with_reducible rfl | (simp; done) | (simp [*]; done)) | ((try simp); refine (foldl_phi_time _ _ _ fun s a => ?_).trans ?_ <;> (repeat' split) <;> first | with_reducible rfl | (simp; done) | (simp [*]; done)) | ((try simp); refine (foldl_phi_rings _ _ _ fun s a => ?_).trans ?_ <;> (repeat' split) <;> first | with_reducible rfl | (simp; done) | (simp [*]; done)) | ((try simp); refine (foldl_phi_cfg _ _ _ fun s a => ?_).trans ?_ <;> (repeat' split) <;> first | with_reducible rfl | (simp; done) | (simp [*]; done)))

@[simp] theorem State.countAck_keeps (s : State) (port : Nat) (b : Nat) (g : Nat) (f : LaunchPl) :
    (State.countAck s port b g f).pending = s.pending ∧ (State.countAck s port b g f).cyc = s.cyc
    ∧ (State.countAck s port b g f).freeNext = s.freeNext ∧ (State.countAck s port b g f).out = s.out
    ∧ (State.countAck s port b g f).mdl = s.mdl ∧ (State.countAck s port b g f).meter = s.meter
    ∧ (State.countAck s port b g f).die = s.die ∧ (State.countAck s port b g f).tsu = s.tsu
    ∧ (State.countAck s port b g f).phi = s.phi ∧ (State.countAck s port b g f).hub.storage = s.hub.storage
    ∧ (State.countAck s port b g f).hub.fw.state = s.hub.fw.state
    ∧ (State.countAck s port b g f).hub.pairs = s.hub.pairs ∧ (State.countAck s port b g f).hub.led = s.hub.led
    ∧ (State.countAck s port b g f).hub.seqs = s.hub.seqs := by
  refine ⟨?_, ?_, ?_, ?_, ?_, ?_, ?_, ?_, ?_, ?_, ?_, ?_, ?_, ?_⟩ <;> first | (simp [State.countAck]; done)

@[simp] theorem State.sendAggregate_keeps (s : State) (b : Nat) (g : Nat) (f : LaunchPl) (total : Nat) :
    (State.sendAggregate s b g f total).pending = s.pending ∧ (State.sendAggregate s b g f total).cyc = s.cyc
    ∧ (State.sendAggregate s b g f total).freeNext = s.freeNext ∧ (State.sendAggregate s b g f total).out = s.out
    ∧ (State.sendAggregate s b g f total).mdl = s.mdl ∧ (State.sendAggregate s b g f total).meter = s.meter
    ∧ (State.sendAggregate s b g f total).die = s.die ∧ (State.sendAggregate s b g f total).hub = s.hub
    ∧ (State.sendAggregate s b g f total).tsu = s.tsu ∧ (State.sendAggregate s b g f total).phi.time = s.phi.time
    ∧ (State.sendAggregate s b g f total).phi.rings = s.phi.rings
    ∧ (State.sendAggregate s b g f total).phi.cfg = s.phi.cfg := by
  refine ⟨?_, ?_, ?_, ?_, ?_, ?_, ?_, ?_, ?_, ?_, ?_, ?_⟩ <;> first | (simp [State.sendAggregate]; done)

@[simp] theorem State.forwardAck_keeps (s : State) (b : Nat) (g : Nat) (f : LaunchPl) :
    (State.forwardAck s b g f).pending = s.pending ∧ (State.forwardAck s b g f).cyc = s.cyc
    ∧ (State.forwardAck s b g f).freeNext = s.freeNext ∧ (State.forwardAck s b g f).out = s.out
    ∧ (State.forwardAck s b g f).mdl = s.mdl ∧ (State.forwardAck s b g f).meter = s.meter
    ∧ (State.forwardAck s b g f).die = s.die ∧ (State.forwardAck s b g f).tsu = s.tsu
    ∧ (State.forwardAck s b g f).phi.time = s.phi.time ∧ (State.forwardAck s b g f).phi.rings = s.phi.rings
    ∧ (State.forwardAck s b g f).phi.cfg = s.phi.cfg ∧ (State.forwardAck s b g f).hub.storage = s.hub.storage
    ∧ (State.forwardAck s b g f).hub.fw.state = s.hub.fw.state ∧ (State.forwardAck s b g f).hub.pairs = s.hub.pairs
    ∧ (State.forwardAck s b g f).hub.led = s.hub.led ∧ (State.forwardAck s b g f).hub.seqs = s.hub.seqs := by
  simp only [State.forwardAck] <;> (repeat' split) <;> first | (simp; done) | (simp [*]; done) | (refine ⟨?_, ?_, ?_, ?_, ?_, ?_, ?_, ?_, ?_, ?_, ?_, ?_, ?_, ?_, ?_, ?_⟩ <;> first | rfl | (simp; done) | (simp [*]; done))

@[simp] theorem State.adopt_keeps (s : State) (b : Nat) (step : StepNo) (l : W64) :
    (State.adopt s b step l).pending = s.pending ∧ (State.adopt s b step l).cyc = s.cyc
    ∧ (State.adopt s b step l).freeNext = s.freeNext ∧ (State.adopt s b step l).out = s.out
    ∧ (State.adopt s b step l).mdl = s.mdl ∧ (State.adopt s b step l).meter = s.meter
    ∧ (State.adopt s b step l).die = s.die ∧ (State.adopt s b step l).tsu = s.tsu
    ∧ (State.adopt s b step l).phi.time = s.phi.time ∧ (State.adopt s b step l).phi.rings = s.phi.rings
    ∧ (State.adopt s b step l).phi.cfg = s.phi.cfg ∧ (State.adopt s b step l).hub.storage = s.hub.storage
    ∧ (State.adopt s b step l).hub.fw.state = s.hub.fw.state ∧ (State.adopt s b step l).hub.pairs = s.hub.pairs
    ∧ (State.adopt s b step l).hub.led = s.hub.led := by
  simp only [State.adopt] <;> (repeat' split) <;> first | (simp; done) | (simp [*]; done) | (refine ⟨?_, ?_, ?_, ?_, ?_, ?_, ?_, ?_, ?_, ?_, ?_, ?_, ?_, ?_, ?_⟩ <;> first | rfl | (simp; done) | (simp [*]; done))

@[simp] theorem State.learnAck_keeps (s : State) (b : Nat) (q : Seq) (f : LaunchPl) (l : W64) :
    (State.learnAck s b q f l).pending = s.pending ∧ (State.learnAck s b q f l).cyc = s.cyc
    ∧ (State.learnAck s b q f l).freeNext = s.freeNext ∧ (State.learnAck s b q f l).mdl = s.mdl
    ∧ (State.learnAck s b q f l).meter = s.meter ∧ (State.learnAck s b q f l).die = s.die
    ∧ (State.learnAck s b q f l).tsu = s.tsu ∧ (State.learnAck s b q f l).phi.time = s.phi.time
    ∧ (State.learnAck s b q f l).phi.rings = s.phi.rings ∧ (State.learnAck s b q f l).phi.cfg = s.phi.cfg
    ∧ (State.learnAck s b q f l).hub.storage = s.hub.storage
    ∧ (State.learnAck s b q f l).hub.fw.state = s.hub.fw.state ∧ (State.learnAck s b q f l).hub.pairs = s.hub.pairs
    ∧ (State.learnAck s b q f l).hub.led = s.hub.led := by
  simp only [State.learnAck] <;> (repeat' split) <;> first | (simp; done) | (simp [*]; done) | (refine ⟨?_, ?_, ?_, ?_, ?_, ?_, ?_, ?_, ?_, ?_, ?_, ?_, ?_, ?_⟩ <;> first | rfl | (simp; done) | (simp [*]; done))

@[simp] theorem State.onRefusal_keeps (s : State) (b : Nat) (q : Seq) (f : LaunchPl) (l : W64) :
    (State.onRefusal s b q f l).pending = s.pending ∧ (State.onRefusal s b q f l).cyc = s.cyc
    ∧ (State.onRefusal s b q f l).mdl = s.mdl ∧ (State.onRefusal s b q f l).meter = s.meter
    ∧ (State.onRefusal s b q f l).die = s.die ∧ (State.onRefusal s b q f l).tsu = s.tsu
    ∧ (State.onRefusal s b q f l).phi.time = s.phi.time ∧ (State.onRefusal s b q f l).phi.cfg = s.phi.cfg
    ∧ (State.onRefusal s b q f l).hub.storage = s.hub.storage
    ∧ (State.onRefusal s b q f l).hub.fw.state = s.hub.fw.state
    ∧ (State.onRefusal s b q f l).hub.pairs = s.hub.pairs ∧ (State.onRefusal s b q f l).hub.led = s.hub.led := by
  refine ⟨?_, ?_, ?_, ?_, ?_, ?_, ?_, ?_, ?_, ?_, ?_, ?_⟩ <;> first | (simp [State.onRefusal]; done)

@[simp] theorem execAckReceive_keeps (port : Nat) (e : Env) (f : LaunchPl) (s : State) :
    gives (execAckReceive port e f s) fun t => t.pending = s.pending ∧ t.cyc = s.cyc ∧ t.mdl = s.mdl ∧ t.meter = s.meter
    ∧ t.die = s.die ∧ t.tsu = s.tsu ∧ t.phi.time = s.phi.time ∧ t.phi.cfg = s.phi.cfg
    ∧ t.hub.storage = s.hub.storage ∧ t.hub.fw.state = s.hub.fw.state ∧ t.hub.pairs = s.hub.pairs
    ∧ t.hub.led = s.hub.led := by
  simp only [execAckReceive, State.onReliable_eq] <;> (repeat' split) <;> first | (simp; done) | (simp [*]; done) | (refine gives_and ?_ (gives_and ?_ (gives_and ?_ (gives_and ?_ (gives_and ?_ (gives_and ?_ (gives_and ?_ (gives_and ?_ (gives_and ?_ (gives_and ?_ (gives_and ?_ ?_)))))))))) <;> first | rfl | (simp; done) | (simp [*]; done) | ((try simp); refine (foldl_pending _ _ _ fun s a => ?_).trans ?_ <;> (repeat' split) <;> first | with_reducible rfl | (simp; done) | (simp [*]; done)) | ((try simp); refine (foldl_cyc _ _ _ fun s a => ?_).trans ?_ <;> (repeat' split) <;> first | with_reducible rfl | (simp; done) | (simp [*]; done)) | ((try simp); refine (foldl_mdl _ _ _ fun s a => ?_).trans ?_ <;> (repeat' split) <;> first | with_reducible rfl | (simp; done) | (simp [*]; done)) | ((try simp); refine (foldl_meter _ _ _ fun s a => ?_).trans ?_ <;> (repeat' split) <;> first | with_reducible rfl | (simp; done) | (simp [*]; done)) | ((try simp); refine (foldl_die _ _ _ fun s a => ?_).trans ?_ <;> (repeat' split) <;> first | with_reducible rfl | (simp; done) | (simp [*]; done)) | ((try simp); refine (foldl_tsu _ _ _ fun s a => ?_).trans ?_ <;> (repeat' split) <;> first | with_reducible rfl | (simp; done) | (simp [*]; done)) | ((try simp); refine (foldl_phi_time _ _ _ fun s a => ?_).trans ?_ <;> (repeat' split) <;> first | with_reducible rfl | (simp; done) | (simp [*]; done)) | ((try simp); refine (foldl_phi_cfg _ _ _ fun s a => ?_).trans ?_ <;> (repeat' split) <;> first | with_reducible rfl | (simp; done) | (simp [*]; done)) | ((try simp); refine (foldl_hub_storage _ _ _ fun s a => ?_).trans ?_ <;> (repeat' split) <;> first | with_reducible rfl | (simp; done) | (simp [*]; done)) | ((try simp); refine (foldl_hub_fw_state _ _ _ fun s a => ?_).trans ?_ <;> (repeat' split) <;> first | with_reducible rfl | (simp; done) | (simp [*]; done)) | ((try simp); refine (foldl_hub_pairs _ _ _ fun s a => ?_).trans ?_ <;> (repeat' split) <;> first | with_reducible rfl | (simp; done) | (simp [*]; done)) | ((try simp); refine (foldl_hub_led _ _ _ fun s a => ?_).trans ?_ <;> (repeat' split) <;> first | with_reducible rfl | (simp; done) | (simp [*]; done)))

@[simp] theorem execCommitCutoff_keeps (basin : Nat) (step : StepNo) (s : State) :
    gives (execCommitCutoff basin step s) fun t => t.pending = s.pending ∧ t.cyc = s.cyc ∧ t.freeNext = s.freeNext
    ∧ t.out = s.out ∧ t.mdl = s.mdl ∧ t.meter = s.meter ∧ t.die = s.die ∧ t.tsu = s.tsu ∧ t.phi = s.phi
    ∧ t.hub.storage = s.hub.storage ∧ t.hub.fw.state = s.hub.fw.state ∧ t.hub.pairs = s.hub.pairs
    ∧ t.hub.led = s.hub.led := by
  simp only [execCommitCutoff] <;> (repeat' split) <;> first | (simp; done) | (simp [*]; done) | (refine gives_and ?_ (gives_and ?_ (gives_and ?_ (gives_and ?_ (gives_and ?_ (gives_and ?_ (gives_and ?_ (gives_and ?_ (gives_and ?_ (gives_and ?_ (gives_and ?_ (gives_and ?_ ?_))))))))))) <;> first | rfl | (simp; done) | (simp [*]; done))

@[simp] theorem execAbortForward_keeps (port : Nat) (e : Env) (f : LaunchPl) (s : State) :
    gives (execAbortForward port e f s) fun t => t.pending = s.pending ∧ t.cyc = s.cyc ∧ t.mdl = s.mdl
    ∧ t.meter = s.meter ∧ t.die = s.die ∧ t.tsu = s.tsu ∧ t.phi.time = s.phi.time ∧ t.phi.cfg = s.phi.cfg
    ∧ t.hub.storage = s.hub.storage ∧ t.hub.fw.state = s.hub.fw.state ∧ t.hub.pairs = s.hub.pairs
    ∧ t.hub.led = s.hub.led := by
  simp only [execAbortForward, State.onReliable_eq] <;> (repeat' split) <;> first | (simp; done) | (simp [*]; done) | (refine gives_and ?_ (gives_and ?_ (gives_and ?_ (gives_and ?_ (gives_and ?_ (gives_and ?_ (gives_and ?_ (gives_and ?_ (gives_and ?_ (gives_and ?_ (gives_and ?_ ?_)))))))))) <;> first | rfl | (simp; done) | (simp [*]; done) | ((try simp); refine (foldl_pending _ _ _ fun s a => ?_).trans ?_ <;> (repeat' split) <;> first | with_reducible rfl | (simp; done) | (simp [*]; done)) | ((try simp); refine (foldl_cyc _ _ _ fun s a => ?_).trans ?_ <;> (repeat' split) <;> first | with_reducible rfl | (simp; done) | (simp [*]; done)) | ((try simp); refine (foldl_mdl _ _ _ fun s a => ?_).trans ?_ <;> (repeat' split) <;> first | with_reducible rfl | (simp; done) | (simp [*]; done)) | ((try simp); refine (foldl_meter _ _ _ fun s a => ?_).trans ?_ <;> (repeat' split) <;> first | with_reducible rfl | (simp; done) | (simp [*]; done)) | ((try simp); refine (foldl_die _ _ _ fun s a => ?_).trans ?_ <;> (repeat' split) <;> first | with_reducible rfl | (simp; done) | (simp [*]; done)) | ((try simp); refine (foldl_tsu _ _ _ fun s a => ?_).trans ?_ <;> (repeat' split) <;> first | with_reducible rfl | (simp; done) | (simp [*]; done)) | ((try simp); refine (foldl_phi_time _ _ _ fun s a => ?_).trans ?_ <;> (repeat' split) <;> first | with_reducible rfl | (simp; done) | (simp [*]; done)) | ((try simp); refine (foldl_phi_cfg _ _ _ fun s a => ?_).trans ?_ <;> (repeat' split) <;> first | with_reducible rfl | (simp; done) | (simp [*]; done)) | ((try simp); refine (foldl_hub_storage _ _ _ fun s a => ?_).trans ?_ <;> (repeat' split) <;> first | with_reducible rfl | (simp; done) | (simp [*]; done)) | ((try simp); refine (foldl_hub_fw_state _ _ _ fun s a => ?_).trans ?_ <;> (repeat' split) <;> first | with_reducible rfl | (simp; done) | (simp [*]; done)) | ((try simp); refine (foldl_hub_pairs _ _ _ fun s a => ?_).trans ?_ <;> (repeat' split) <;> first | with_reducible rfl | (simp; done) | (simp [*]; done)) | ((try simp); refine (foldl_hub_led _ _ _ fun s a => ?_).trans ?_ <;> (repeat' split) <;> first | with_reducible rfl | (simp; done) | (simp [*]; done)))

@[simp] theorem State.joinConfirmed_keeps (s : State) (b : Nat) (die : Nat) (step : StepNo) :
    (State.joinConfirmed s b die step).pending = s.pending ∧ (State.joinConfirmed s b die step).cyc = s.cyc
    ∧ (State.joinConfirmed s b die step).freeNext = s.freeNext ∧ (State.joinConfirmed s b die step).out = s.out
    ∧ (State.joinConfirmed s b die step).mdl = s.mdl ∧ (State.joinConfirmed s b die step).meter = s.meter
    ∧ (State.joinConfirmed s b die step).die = s.die ∧ (State.joinConfirmed s b die step).tsu = s.tsu
    ∧ (State.joinConfirmed s b die step).phi = s.phi
    ∧ (State.joinConfirmed s b die step).hub.storage = s.hub.storage
    ∧ (State.joinConfirmed s b die step).hub.fw.state = s.hub.fw.state
    ∧ (State.joinConfirmed s b die step).hub.pairs = s.hub.pairs
    ∧ (State.joinConfirmed s b die step).hub.led = s.hub.led := by
  refine ⟨?_, ?_, ?_, ?_, ?_, ?_, ?_, ?_, ?_, ?_, ?_, ?_, ?_⟩ <;> first | (simp [State.joinConfirmed]; done)

@[simp] theorem State.purgeConfirmed_keeps (s : State) (b : Nat) (die : Nat) :
    (State.purgeConfirmed s b die).pending = s.pending ∧ (State.purgeConfirmed s b die).cyc = s.cyc
    ∧ (State.purgeConfirmed s b die).mdl = s.mdl ∧ (State.purgeConfirmed s b die).meter = s.meter
    ∧ (State.purgeConfirmed s b die).die = s.die ∧ (State.purgeConfirmed s b die).tsu = s.tsu
    ∧ (State.purgeConfirmed s b die).phi.time = s.phi.time ∧ (State.purgeConfirmed s b die).phi.cfg = s.phi.cfg
    ∧ (State.purgeConfirmed s b die).hub.storage = s.hub.storage
    ∧ (State.purgeConfirmed s b die).hub.fw.state = s.hub.fw.state
    ∧ (State.purgeConfirmed s b die).hub.pairs = s.hub.pairs ∧ (State.purgeConfirmed s b die).hub.led = s.hub.led := by
  refine ⟨?_, ?_, ?_, ?_, ?_, ?_, ?_, ?_, ?_, ?_, ?_, ?_⟩ <;> first | (simp [State.purgeConfirmed]; done)

@[simp] theorem execMemberForward_keeps (port : Nat) (e : Env) (f : MemberPl) (s : State) :
    gives (execMemberForward port e f s) fun t => t.pending = s.pending ∧ t.cyc = s.cyc ∧ t.mdl = s.mdl
    ∧ t.meter = s.meter ∧ t.die = s.die ∧ t.tsu = s.tsu ∧ t.phi.time = s.phi.time ∧ t.phi.cfg = s.phi.cfg
    ∧ t.hub.storage = s.hub.storage ∧ t.hub.fw.state = s.hub.fw.state ∧ t.hub.pairs = s.hub.pairs
    ∧ t.hub.led = s.hub.led := by
  simp only [execMemberForward, State.onReliable_eq] <;> (repeat' split) <;> first | (simp; done) | (simp [*]; done) | (refine gives_and ?_ (gives_and ?_ (gives_and ?_ (gives_and ?_ (gives_and ?_ (gives_and ?_ (gives_and ?_ (gives_and ?_ (gives_and ?_ (gives_and ?_ (gives_and ?_ ?_)))))))))) <;> first | rfl | (simp; done) | (simp [*]; done) | ((try simp); refine (foldl_pending _ _ _ fun s a => ?_).trans ?_ <;> (repeat' split) <;> first | with_reducible rfl | (simp; done) | (simp [*]; done)) | ((try simp); refine (foldl_cyc _ _ _ fun s a => ?_).trans ?_ <;> (repeat' split) <;> first | with_reducible rfl | (simp; done) | (simp [*]; done)) | ((try simp); refine (foldl_mdl _ _ _ fun s a => ?_).trans ?_ <;> (repeat' split) <;> first | with_reducible rfl | (simp; done) | (simp [*]; done)) | ((try simp); refine (foldl_meter _ _ _ fun s a => ?_).trans ?_ <;> (repeat' split) <;> first | with_reducible rfl | (simp; done) | (simp [*]; done)) | ((try simp); refine (foldl_die _ _ _ fun s a => ?_).trans ?_ <;> (repeat' split) <;> first | with_reducible rfl | (simp; done) | (simp [*]; done)) | ((try simp); refine (foldl_tsu _ _ _ fun s a => ?_).trans ?_ <;> (repeat' split) <;> first | with_reducible rfl | (simp; done) | (simp [*]; done)) | ((try simp); refine (foldl_phi_time _ _ _ fun s a => ?_).trans ?_ <;> (repeat' split) <;> first | with_reducible rfl | (simp; done) | (simp [*]; done)) | ((try simp); refine (foldl_phi_cfg _ _ _ fun s a => ?_).trans ?_ <;> (repeat' split) <;> first | with_reducible rfl | (simp; done) | (simp [*]; done)) | ((try simp); refine (foldl_hub_storage _ _ _ fun s a => ?_).trans ?_ <;> (repeat' split) <;> first | with_reducible rfl | (simp; done) | (simp [*]; done)) | ((try simp); refine (foldl_hub_fw_state _ _ _ fun s a => ?_).trans ?_ <;> (repeat' split) <;> first | with_reducible rfl | (simp; done) | (simp [*]; done)) | ((try simp); refine (foldl_hub_pairs _ _ _ fun s a => ?_).trans ?_ <;> (repeat' split) <;> first | with_reducible rfl | (simp; done) | (simp [*]; done)) | ((try simp); refine (foldl_hub_led _ _ _ fun s a => ?_).trans ?_ <;> (repeat' split) <;> first | with_reducible rfl | (simp; done) | (simp [*]; done)))

end Sys2Proof.Machine
end

