-- ==== Sys2Proof/Laws/HallGates.lean ====
section
/-!
SUPPORT. What the operations and meanings of Machine/HallGates.lean leave unchanged.
-/

namespace Sys2Proof.Machine

@[simp] theorem State.updCtx_keeps (s : State) (b : Nat) (g : Nat) (gate : Nat) (f : GateCtx → GateCtx) :
    (State.updCtx s b g gate f).pending = s.pending ∧ (State.updCtx s b g gate f).cyc = s.cyc
    ∧ (State.updCtx s b g gate f).freeNext = s.freeNext ∧ (State.updCtx s b g gate f).out = s.out
    ∧ (State.updCtx s b g gate f).mdl = s.mdl ∧ (State.updCtx s b g gate f).meter = s.meter
    ∧ (State.updCtx s b g gate f).die = s.die ∧ (State.updCtx s b g gate f).tsu = s.tsu
    ∧ (State.updCtx s b g gate f).phi = s.phi ∧ (State.updCtx s b g gate f).hub.storage = s.hub.storage
    ∧ (State.updCtx s b g gate f).hub.fw.state = s.hub.fw.state
    ∧ (State.updCtx s b g gate f).hub.pairs = s.hub.pairs ∧ (State.updCtx s b g gate f).hub.led = s.hub.led
    ∧ (State.updCtx s b g gate f).hub.seqs = s.hub.seqs := by
  refine ⟨?_, ?_, ?_, ?_, ?_, ?_, ?_, ?_, ?_, ?_, ?_, ?_, ?_, ?_⟩ <;> first | (simp [State.updCtx]; done)

@[simp] theorem State.releaseGate_keeps (s : State) (b : Nat) (q : Seq) (c : GateCtx) :
    (State.releaseGate s b q c).pending = s.pending ∧ (State.releaseGate s b q c).cyc = s.cyc
    ∧ (State.releaseGate s b q c).freeNext = s.freeNext ∧ (State.releaseGate s b q c).out = s.out
    ∧ (State.releaseGate s b q c).mdl = s.mdl ∧ (State.releaseGate s b q c).meter = s.meter
    ∧ (State.releaseGate s b q c).die = s.die ∧ (State.releaseGate s b q c).tsu = s.tsu
    ∧ (State.releaseGate s b q c).phi.time = s.phi.time ∧ (State.releaseGate s b q c).phi.rings = s.phi.rings
    ∧ (State.releaseGate s b q c).phi.cfg = s.phi.cfg ∧ (State.releaseGate s b q c).hub.storage = s.hub.storage
    ∧ (State.releaseGate s b q c).hub.fw.state = s.hub.fw.state
    ∧ (State.releaseGate s b q c).hub.pairs = s.hub.pairs ∧ (State.releaseGate s b q c).hub.led = s.hub.led
    ∧ (State.releaseGate s b q c).hub.seqs = s.hub.seqs := by
  refine ⟨?_, ?_, ?_, ?_, ?_, ?_, ?_, ?_, ?_, ?_, ?_, ?_, ?_, ?_, ?_, ?_⟩ <;> first | (simp [State.releaseGate]; done)

@[simp] theorem State.gateCounted_keeps (s : State) (b : Nat) (g : Nat) (gate : Nat) :
    (State.gateCounted s b g gate).pending = s.pending ∧ (State.gateCounted s b g gate).cyc = s.cyc
    ∧ (State.gateCounted s b g gate).freeNext = s.freeNext ∧ (State.gateCounted s b g gate).out = s.out
    ∧ (State.gateCounted s b g gate).mdl = s.mdl ∧ (State.gateCounted s b g gate).meter = s.meter
    ∧ (State.gateCounted s b g gate).die = s.die ∧ (State.gateCounted s b g gate).tsu = s.tsu
    ∧ (State.gateCounted s b g gate).phi.time = s.phi.time ∧ (State.gateCounted s b g gate).phi.rings = s.phi.rings
    ∧ (State.gateCounted s b g gate).phi.cfg = s.phi.cfg
    ∧ (State.gateCounted s b g gate).hub.storage = s.hub.storage
    ∧ (State.gateCounted s b g gate).hub.fw.state = s.hub.fw.state
    ∧ (State.gateCounted s b g gate).hub.pairs = s.hub.pairs ∧ (State.gateCounted s b g gate).hub.led = s.hub.led
    ∧ (State.gateCounted s b g gate).hub.seqs = s.hub.seqs := by
  simp only [State.gateCounted] <;> (repeat' split) <;> first | (simp; done) | (simp [*]; done) | (refine ⟨?_, ?_, ?_, ?_, ?_, ?_, ?_, ?_, ?_, ?_, ?_, ?_, ?_, ?_, ?_, ?_⟩ <;> first | rfl | (simp; done) | (simp [*]; done))

@[simp] theorem execGateArriveReceive_keeps (port : Nat) (e : Env) (f : GatePl) (s : State) :
    gives (execGateArriveReceive port e f s) fun t => t.pending = s.pending ∧ t.cyc = s.cyc ∧ t.freeNext = s.freeNext
    ∧ t.mdl = s.mdl ∧ t.meter = s.meter ∧ t.die = s.die ∧ t.tsu = s.tsu ∧ t.phi.time = s.phi.time
    ∧ t.phi.rings = s.phi.rings ∧ t.phi.cfg = s.phi.cfg ∧ t.hub.storage = s.hub.storage
    ∧ t.hub.fw.state = s.hub.fw.state ∧ t.hub.pairs = s.hub.pairs ∧ t.hub.led = s.hub.led ∧ t.hub.seqs = s.hub.seqs := by
  simp only [execGateArriveReceive, State.onReliable_eq] <;> (repeat' split) <;> first | (simp; done) | (simp [*]; done) | (refine gives_and ?_ (gives_and ?_ (gives_and ?_ (gives_and ?_ (gives_and ?_ (gives_and ?_ (gives_and ?_ (gives_and ?_ (gives_and ?_ (gives_and ?_ (gives_and ?_ (gives_and ?_ (gives_and ?_ (gives_and ?_ ?_))))))))))))) <;> first | rfl | (simp; done) | (simp [*]; done) | ((try simp); refine (foldl_pending _ _ _ fun s a => ?_).trans ?_ <;> (repeat' split) <;> first | with_reducible rfl | (simp; done) | (simp [*]; done)) | ((try simp); refine (foldl_cyc _ _ _ fun s a => ?_).trans ?_ <;> (repeat' split) <;> first | with_reducible rfl | (simp; done) | (simp [*]; done)) | ((try simp); refine (foldl_freeNext _ _ _ fun s a => ?_).trans ?_ <;> (repeat' split) <;> first | with_reducible rfl | (simp; done) | (simp [*]; done)) | ((try simp); refine (foldl_mdl _ _ _ fun s a => ?_).trans ?_ <;> (repeat' split) <;> first | with_reducible rfl | (simp; done) | (simp [*]; done)) | ((try simp); refine (foldl_meter _ _ _ fun s a => ?_).trans ?_ <;> (repeat' split) <;> first | with_reducible rfl | (simp; done) | (simp [*]; done)) | ((try simp); refine (foldl_die _ _ _ fun s a => ?_).trans ?_ <;> (repeat' split) <;> first | with_reducible rfl | (simp; done) | (simp [*]; done)) | ((try simp); refine (foldl_tsu _ _ _ fun s a => ?_).trans ?_ <;> (repeat' split) <;> first | with_reducible rfl | (simp; done) | (simp [*]; done)) | ((try simp); refine (foldl_phi_time _ _ _ fun s a => ?_).trans ?_ <;> (repeat' split) <;> first | with_reducible rfl | (simp; done) | (simp [*]; done)) | ((try simp); refine (foldl_phi_rings _ _ _ fun s a => ?_).trans ?_ <;> (repeat' split) <;> first | with_reducible rfl | (simp; done) | (simp [*]; done)) | ((try simp); refine (foldl_phi_cfg _ _ _ fun s a => ?_).trans ?_ <;> (repeat' split) <;> first | with_reducible rfl | (simp; done) | (simp [*]; done)) | ((try simp); refine (foldl_hub_storage _ _ _ fun s a => ?_).trans ?_ <;> (repeat' split) <;> first | with_reducible rfl | (simp; done) | (simp [*]; done)) | ((try simp); refine (foldl_hub_fw_state _ _ _ fun s a => ?_).trans ?_ <;> (repeat' split) <;> first | with_reducible rfl | (simp; done) | (simp [*]; done)) | ((try simp); refine (foldl_hub_pairs _ _ _ fun s a => ?_).trans ?_ <;> (repeat' split) <;> first | with_reducible rfl | (simp; done) | (simp [*]; done)) | ((try simp); refine (foldl_hub_led _ _ _ fun s a => ?_).trans ?_ <;> (repeat' split) <;> first | with_reducible rfl | (simp; done) | (simp [*]; done)) | ((try simp); refine (foldl_hub_seqs _ _ _ fun s a => ?_).trans ?_ <;> (repeat' split) <;> first | with_reducible rfl | (simp; done) | (simp [*]; done)))

@[simp] theorem execGateContextFree_keeps (basin : Nat) (gen : Nat) (gate : Nat) (s : State) :
    gives (execGateContextFree basin gen gate s) fun t => t.pending = s.pending ∧ t.cyc = s.cyc
    ∧ t.freeNext = s.freeNext ∧ t.out = s.out ∧ t.mdl = s.mdl ∧ t.meter = s.meter ∧ t.die = s.die ∧ t.tsu = s.tsu
    ∧ t.phi = s.phi ∧ t.hub.storage = s.hub.storage ∧ t.hub.fw.state = s.hub.fw.state ∧ t.hub.pairs = s.hub.pairs
    ∧ t.hub.led = s.hub.led ∧ t.hub.seqs = s.hub.seqs := by
  simp only [execGateContextFree] <;> (repeat' split) <;> first | (simp; done) | (simp [*]; done) | (refine gives_and ?_ (gives_and ?_ (gives_and ?_ (gives_and ?_ (gives_and ?_ (gives_and ?_ (gives_and ?_ (gives_and ?_ (gives_and ?_ (gives_and ?_ (gives_and ?_ (gives_and ?_ (gives_and ?_ ?_)))))))))))) <;> first | rfl | (simp; done) | (simp [*]; done))

@[simp] theorem execFollowerReleaseTimer_keeps (basin : Nat) (gate : Nat) (s : State) :
    gives (execFollowerReleaseTimer basin gate s) fun t => t.pending = s.pending ∧ t.cyc = s.cyc
    ∧ t.freeNext = s.freeNext ∧ t.out = s.out ∧ t.mdl = s.mdl ∧ t.meter = s.meter ∧ t.die = s.die ∧ t.tsu = s.tsu
    ∧ t.phi.time = s.phi.time ∧ t.phi.rings = s.phi.rings ∧ t.phi.cfg = s.phi.cfg ∧ t.hub.storage = s.hub.storage
    ∧ t.hub.fw.state = s.hub.fw.state ∧ t.hub.pairs = s.hub.pairs ∧ t.hub.led = s.hub.led ∧ t.hub.seqs = s.hub.seqs := by
  simp only [execFollowerReleaseTimer] <;> (repeat' split) <;> first | (simp; done) | (simp [*]; done) | (refine gives_and ?_ (gives_and ?_ (gives_and ?_ (gives_and ?_ (gives_and ?_ (gives_and ?_ (gives_and ?_ (gives_and ?_ (gives_and ?_ (gives_and ?_ (gives_and ?_ (gives_and ?_ (gives_and ?_ (gives_and ?_ (gives_and ?_ ?_)))))))))))))) <;> first | rfl | (simp; done) | (simp [*]; done))

@[simp] theorem State.noteRelease_keeps (s : State) (b : Nat) (g : Nat) (gate : Nat) (use : W32) (rb : W32) :
    (State.noteRelease s b g gate use rb).pending = s.pending ∧ (State.noteRelease s b g gate use rb).cyc = s.cyc
    ∧ (State.noteRelease s b g gate use rb).freeNext = s.freeNext
    ∧ (State.noteRelease s b g gate use rb).mdl = s.mdl ∧ (State.noteRelease s b g gate use rb).meter = s.meter
    ∧ (State.noteRelease s b g gate use rb).die = s.die ∧ (State.noteRelease s b g gate use rb).tsu = s.tsu
    ∧ (State.noteRelease s b g gate use rb).phi.time = s.phi.time
    ∧ (State.noteRelease s b g gate use rb).phi.rings = s.phi.rings
    ∧ (State.noteRelease s b g gate use rb).phi.cfg = s.phi.cfg
    ∧ (State.noteRelease s b g gate use rb).hub.storage = s.hub.storage
    ∧ (State.noteRelease s b g gate use rb).hub.fw.state = s.hub.fw.state
    ∧ (State.noteRelease s b g gate use rb).hub.pairs = s.hub.pairs
    ∧ (State.noteRelease s b g gate use rb).hub.led = s.hub.led
    ∧ (State.noteRelease s b g gate use rb).hub.seqs = s.hub.seqs := by
  refine ⟨?_, ?_, ?_, ?_, ?_, ?_, ?_, ?_, ?_, ?_, ?_, ?_, ?_, ?_, ?_⟩ <;> first | (simp [State.noteRelease]; done)

@[simp] theorem execGateReleaseForward_keeps (port : Nat) (e : Env) (f : GatePl) (s : State) :
    gives (execGateReleaseForward port e f s) fun t => t.pending = s.pending ∧ t.cyc = s.cyc ∧ t.freeNext = s.freeNext
    ∧ t.mdl = s.mdl ∧ t.meter = s.meter ∧ t.die = s.die ∧ t.tsu = s.tsu ∧ t.phi.time = s.phi.time
    ∧ t.phi.rings = s.phi.rings ∧ t.phi.cfg = s.phi.cfg ∧ t.hub.storage = s.hub.storage
    ∧ t.hub.fw.state = s.hub.fw.state ∧ t.hub.pairs = s.hub.pairs ∧ t.hub.led = s.hub.led ∧ t.hub.seqs = s.hub.seqs := by
  simp only [execGateReleaseForward, State.onReliable_eq] <;> (repeat' split) <;> first | (simp; done) | (simp [*]; done) | (refine gives_and ?_ (gives_and ?_ (gives_and ?_ (gives_and ?_ (gives_and ?_ (gives_and ?_ (gives_and ?_ (gives_and ?_ (gives_and ?_ (gives_and ?_ (gives_and ?_ (gives_and ?_ (gives_and ?_ (gives_and ?_ ?_))))))))))))) <;> first | rfl | (simp; done) | (simp [*]; done) | ((try simp); refine (foldl_pending _ _ _ fun s a => ?_).trans ?_ <;> (repeat' split) <;> first | with_reducible rfl | (simp; done) | (simp [*]; done)) | ((try simp); refine (foldl_cyc _ _ _ fun s a => ?_).trans ?_ <;> (repeat' split) <;> first | with_reducible rfl | (simp; done) | (simp [*]; done)) | ((try simp); refine (foldl_freeNext _ _ _ fun s a => ?_).trans ?_ <;> (repeat' split) <;> first | with_reducible rfl | (simp; done) | (simp [*]; done)) | ((try simp); refine (foldl_mdl _ _ _ fun s a => ?_).trans ?_ <;> (repeat' split) <;> first | with_reducible rfl | (simp; done) | (simp [*]; done)) | ((try simp); refine (foldl_meter _ _ _ fun s a => ?_).trans ?_ <;> (repeat' split) <;> first | with_reducible rfl | (simp; done) | (simp [*]; done)) | ((try simp); refine (foldl_die _ _ _ fun s a => ?_).trans ?_ <;> (repeat' split) <;> first | with_reducible rfl | (simp; done) | (simp [*]; done)) | ((try simp); refine (foldl_tsu _ _ _ fun s a => ?_).trans ?_ <;> (repeat' split) <;> first | with_reducible rfl | (simp; done) | (simp [*]; done)) | ((try simp); refine (foldl_phi_time _ _ _ fun s a => ?_).trans ?_ <;> (repeat' split) <;> first | with_reducible rfl | (simp; done) | (simp [*]; done)) | ((try simp); refine (foldl_phi_rings _ _ _ fun s a => ?_).trans ?_ <;> (repeat' split) <;> first | with_reducible rfl | (simp; done) | (simp [*]; done)) | ((try simp); refine (foldl_phi_cfg _ _ _ fun s a => ?_).trans ?_ <;> (repeat' split) <;> first | with_reducible rfl | (simp; done) | (simp [*]; done)) | ((try simp); refine (foldl_hub_storage _ _ _ fun s a => ?_).trans ?_ <;> (repeat' split) <;> first | with_reducible rfl | (simp; done) | (simp [*]; done)) | ((try simp); refine (foldl_hub_fw_state _ _ _ fun s a => ?_).trans ?_ <;> (repeat' split) <;> first | with_reducible rfl | (simp; done) | (simp [*]; done)) | ((try simp); refine (foldl_hub_pairs _ _ _ fun s a => ?_).trans ?_ <;> (repeat' split) <;> first | with_reducible rfl | (simp; done) | (simp [*]; done)) | ((try simp); refine (foldl_hub_led _ _ _ fun s a => ?_).trans ?_ <;> (repeat' split) <;> first | with_reducible rfl | (simp; done) | (simp [*]; done)) | ((try simp); refine (foldl_hub_seqs _ _ _ fun s a => ?_).trans ?_ <;> (repeat' split) <;> first | with_reducible rfl | (simp; done) | (simp [*]; done)))

@[simp] theorem execHallGateTimeout_keeps (basin : Nat) (gate : Nat) (s : State) :
    gives (execHallGateTimeout basin gate s) fun t => t.pending = s.pending ∧ t.cyc = s.cyc ∧ t.mdl = s.mdl
    ∧ t.meter = s.meter ∧ t.die = s.die ∧ t.tsu = s.tsu ∧ t.phi.time = s.phi.time ∧ t.phi.cfg = s.phi.cfg
    ∧ t.hub.storage = s.hub.storage ∧ t.hub.fw.state = s.hub.fw.state ∧ t.hub.pairs = s.hub.pairs
    ∧ t.hub.led = s.hub.led := by
  simp only [execHallGateTimeout] <;> (repeat' split) <;> first | (simp; done) | (simp [*]; done) | (refine gives_and ?_ (gives_and ?_ (gives_and ?_ (gives_and ?_ (gives_and ?_ (gives_and ?_ (gives_and ?_ (gives_and ?_ (gives_and ?_ (gives_and ?_ (gives_and ?_ ?_)))))))))) <;> first | rfl | (simp; done) | (simp [*]; done))

end Sys2Proof.Machine
end

