-- ==== Sys2Proof/Laws/MeterOps.lean ====
section
/-!
SUPPORT. What the operations and meanings of Machine/MeterOps.lean leave unchanged.
-/

namespace Sys2Proof.Machine

@[simp] theorem State.mtr_keeps (s : State) (f : MeterSt → MeterSt) :
    (State.mtr s f).pending = s.pending ∧ (State.mtr s f).cyc = s.cyc ∧ (State.mtr s f).freeNext = s.freeNext
    ∧ (State.mtr s f).out = s.out ∧ (State.mtr s f).mdl = s.mdl ∧ (State.mtr s f).die = s.die
    ∧ (State.mtr s f).hub = s.hub ∧ (State.mtr s f).tsu = s.tsu ∧ (State.mtr s f).phi = s.phi := by
  refine ⟨?_, ?_, ?_, ?_, ?_, ?_, ?_, ?_, ?_⟩ <;> first | (simp [State.mtr]; done)

@[simp] theorem State.mtrReject_keeps (s : State) :
    (State.mtrReject s).pending = s.pending ∧ (State.mtrReject s).cyc = s.cyc
    ∧ (State.mtrReject s).freeNext = s.freeNext ∧ (State.mtrReject s).out = s.out ∧ (State.mtrReject s).mdl = s.mdl
    ∧ (State.mtrReject s).die = s.die ∧ (State.mtrReject s).hub = s.hub ∧ (State.mtrReject s).tsu = s.tsu
    ∧ (State.mtrReject s).phi = s.phi := by
  refine ⟨?_, ?_, ?_, ?_, ?_, ?_, ?_, ?_, ?_⟩ <;> first | (simp [State.mtrReject]; done)

@[simp] theorem State.mtrLogAs_keeps (s : State) (type : Nat) (detail : Nat) (mid : List Byte) :
    (State.mtrLogAs s type detail mid).pending = s.pending ∧ (State.mtrLogAs s type detail mid).cyc = s.cyc
    ∧ (State.mtrLogAs s type detail mid).freeNext = s.freeNext ∧ (State.mtrLogAs s type detail mid).out = s.out
    ∧ (State.mtrLogAs s type detail mid).mdl = s.mdl ∧ (State.mtrLogAs s type detail mid).die = s.die
    ∧ (State.mtrLogAs s type detail mid).hub = s.hub ∧ (State.mtrLogAs s type detail mid).tsu = s.tsu
    ∧ (State.mtrLogAs s type detail mid).phi = s.phi := by
  refine ⟨?_, ?_, ?_, ?_, ?_, ?_, ?_, ?_, ?_⟩ <;> first | (simp [State.mtrLogAs]; done)

@[simp] theorem State.mtrLog_keeps (s : State) (type : Nat) (detail : Nat) (old : Nat) (new : Nat) :
    (State.mtrLog s type detail old new).pending = s.pending ∧ (State.mtrLog s type detail old new).cyc = s.cyc
    ∧ (State.mtrLog s type detail old new).freeNext = s.freeNext ∧ (State.mtrLog s type detail old new).out = s.out
    ∧ (State.mtrLog s type detail old new).mdl = s.mdl ∧ (State.mtrLog s type detail old new).die = s.die
    ∧ (State.mtrLog s type detail old new).hub = s.hub ∧ (State.mtrLog s type detail old new).tsu = s.tsu
    ∧ (State.mtrLog s type detail old new).phi = s.phi := by
  refine ⟨?_, ?_, ?_, ?_, ?_, ?_, ?_, ?_, ?_⟩ <;> first | (simp [State.mtrLog]; done)

@[simp] theorem State.takeDraft_keeps (s : State) (powerSeal : Bool) :
    (State.takeDraft s powerSeal).pending = s.pending ∧ (State.takeDraft s powerSeal).cyc = s.cyc
    ∧ (State.takeDraft s powerSeal).freeNext = s.freeNext ∧ (State.takeDraft s powerSeal).out = s.out
    ∧ (State.takeDraft s powerSeal).mdl = s.mdl ∧ (State.takeDraft s powerSeal).die = s.die
    ∧ (State.takeDraft s powerSeal).hub = s.hub ∧ (State.takeDraft s powerSeal).tsu = s.tsu
    ∧ (State.takeDraft s powerSeal).phi = s.phi := by
  refine ⟨?_, ?_, ?_, ?_, ?_, ?_, ?_, ?_, ?_⟩ <;> first | (simp [State.takeDraft]; done)

@[simp] theorem State.writeRec_keeps (s : State) (r : RecIn) :
    (State.writeRec s r).pending = s.pending ∧ (State.writeRec s r).cyc = s.cyc
    ∧ (State.writeRec s r).freeNext = s.freeNext ∧ (State.writeRec s r).out = s.out
    ∧ (State.writeRec s r).mdl = s.mdl ∧ (State.writeRec s r).die = s.die ∧ (State.writeRec s r).hub = s.hub
    ∧ (State.writeRec s r).tsu = s.tsu ∧ (State.writeRec s r).phi = s.phi := by
  refine ⟨?_, ?_, ?_, ?_, ?_, ?_, ?_, ?_, ?_⟩ <;> first | (simp [State.writeRec]; done)

@[simp] theorem State.sendBlock_keeps (s : State) (port : Nat) (b : Block) :
    (State.sendBlock s port b).pending = s.pending ∧ (State.sendBlock s port b).cyc = s.cyc
    ∧ (State.sendBlock s port b).freeNext = s.freeNext ∧ (State.sendBlock s port b).out = s.out
    ∧ (State.sendBlock s port b).mdl = s.mdl ∧ (State.sendBlock s port b).die = s.die
    ∧ (State.sendBlock s port b).hub = s.hub ∧ (State.sendBlock s port b).phi = s.phi
    ∧ (State.sendBlock s port b).tsu.time = s.tsu.time ∧ (State.sendBlock s port b).tsu.rings = s.tsu.rings
    ∧ (State.sendBlock s port b).tsu.cfg = s.tsu.cfg := by
  refine ⟨?_, ?_, ?_, ?_, ?_, ?_, ?_, ?_, ?_, ?_, ?_⟩ <;> first | (simp [State.sendBlock]; done)

@[simp] theorem State.sendBlocks_keeps (s : State) (port : Nat) :
    (State.sendBlocks s port).pending = s.pending ∧ (State.sendBlocks s port).cyc = s.cyc
    ∧ (State.sendBlocks s port).freeNext = s.freeNext ∧ (State.sendBlocks s port).out = s.out
    ∧ (State.sendBlocks s port).mdl = s.mdl ∧ (State.sendBlocks s port).die = s.die
    ∧ (State.sendBlocks s port).hub = s.hub ∧ (State.sendBlocks s port).phi = s.phi
    ∧ (State.sendBlocks s port).tsu.time = s.tsu.time ∧ (State.sendBlocks s port).tsu.rings = s.tsu.rings
    ∧ (State.sendBlocks s port).tsu.cfg = s.tsu.cfg := by
  refine ⟨?_, ?_, ?_, ?_, ?_, ?_, ?_, ?_, ?_, ?_, ?_⟩ <;> first | (simp [State.sendBlocks]; done)

@[simp] theorem State.sealBlock_keeps (s : State) :
    (State.sealBlock s).pending = s.pending ∧ (State.sealBlock s).cyc = s.cyc
    ∧ (State.sealBlock s).freeNext = s.freeNext ∧ (State.sealBlock s).out = s.out ∧ (State.sealBlock s).mdl = s.mdl
    ∧ (State.sealBlock s).die = s.die ∧ (State.sealBlock s).hub = s.hub ∧ (State.sealBlock s).phi = s.phi
    ∧ (State.sealBlock s).tsu.time = s.tsu.time ∧ (State.sealBlock s).tsu.rings = s.tsu.rings
    ∧ (State.sealBlock s).tsu.cfg = s.tsu.cfg := by
  simp only [State.sealBlock] <;> (repeat' split) <;> first | (simp; done) | (simp [*]; done) | (refine ⟨?_, ?_, ?_, ?_, ?_, ?_, ?_, ?_, ?_, ?_, ?_⟩ <;> first | rfl | (simp; done) | (simp [*]; done) | ((try simp); refine (foldl_pending _ _ _ fun s a => ?_).trans ?_ <;> (repeat' split) <;> first | with_reducible rfl | (simp; done) | (simp [*]; done)) | ((try simp); refine (foldl_cyc _ _ _ fun s a => ?_).trans ?_ <;> (repeat' split) <;> first | with_reducible rfl | (simp; done) | (simp [*]; done)) | ((try simp); refine (foldl_freeNext _ _ _ fun s a => ?_).trans ?_ <;> (repeat' split) <;> first | with_reducible rfl | (simp; done) | (simp [*]; done)) | ((try simp); refine (foldl_out _ _ _ fun s a => ?_).trans ?_ <;> (repeat' split) <;> first | with_reducible rfl | (simp; done) | (simp [*]; done)) | ((try simp); refine (foldl_mdl _ _ _ fun s a => ?_).trans ?_ <;> (repeat' split) <;> first | with_reducible rfl | (simp; done) | (simp [*]; done)) | ((try simp); refine (foldl_die _ _ _ fun s a => ?_).trans ?_ <;> (repeat' split) <;> first | with_reducible rfl | (simp; done) | (simp [*]; done)) | ((try simp); refine (foldl_hub _ _ _ fun s a => ?_).trans ?_ <;> (repeat' split) <;> first | with_reducible rfl | (simp; done) | (simp [*]; done)) | ((try simp); refine (foldl_phi _ _ _ fun s a => ?_).trans ?_ <;> (repeat' split) <;> first | with_reducible rfl | (simp; done) | (simp [*]; done)) | ((try simp); refine (foldl_tsu_time _ _ _ fun s a => ?_).trans ?_ <;> (repeat' split) <;> first | with_reducible rfl | (simp; done) | (simp [*]; done)) | ((try simp); refine (foldl_tsu_rings _ _ _ fun s a => ?_).trans ?_ <;> (repeat' split) <;> first | with_reducible rfl | (simp; done) | (simp [*]; done)) | ((try simp); refine (foldl_tsu_cfg _ _ _ fun s a => ?_).trans ?_ <;> (repeat' split) <;> first | with_reducible rfl | (simp; done) | (simp [*]; done)))

@[simp] theorem State.sealAll_keeps (s : State) :
    (State.sealAll s).pending = s.pending ∧ (State.sealAll s).cyc = s.cyc ∧ (State.sealAll s).freeNext = s.freeNext
    ∧ (State.sealAll s).out = s.out ∧ (State.sealAll s).mdl = s.mdl ∧ (State.sealAll s).die = s.die
    ∧ (State.sealAll s).hub = s.hub ∧ (State.sealAll s).phi = s.phi ∧ (State.sealAll s).tsu.time = s.tsu.time
    ∧ (State.sealAll s).tsu.rings = s.tsu.rings ∧ (State.sealAll s).tsu.cfg = s.tsu.cfg := by
  refine ⟨?_, ?_, ?_, ?_, ?_, ?_, ?_, ?_, ?_, ?_, ?_⟩ <;> first | (simp [State.sealAll]; done)

@[simp] theorem State.breakSeal_keeps (s : State) (type : Nat) (detail : Nat) (old : Nat) (new : Nat) :
    (State.breakSeal s type detail old new).pending = s.pending ∧ (State.breakSeal s type detail old new).cyc = s.cyc
    ∧ (State.breakSeal s type detail old new).freeNext = s.freeNext
    ∧ (State.breakSeal s type detail old new).out = s.out ∧ (State.breakSeal s type detail old new).mdl = s.mdl
    ∧ (State.breakSeal s type detail old new).die = s.die ∧ (State.breakSeal s type detail old new).hub = s.hub
    ∧ (State.breakSeal s type detail old new).tsu = s.tsu ∧ (State.breakSeal s type detail old new).phi = s.phi := by
  refine ⟨?_, ?_, ?_, ?_, ?_, ?_, ?_, ?_, ?_⟩ <;> first | (simp [State.breakSeal]; done)

@[simp] theorem State.storeFault_keeps (s : State) (c : StoreCheck) :
    (State.storeFault s c).pending = s.pending ∧ (State.storeFault s c).cyc = s.cyc
    ∧ (State.storeFault s c).freeNext = s.freeNext ∧ (State.storeFault s c).mdl = s.mdl
    ∧ (State.storeFault s c).die = s.die ∧ (State.storeFault s c).hub = s.hub ∧ (State.storeFault s c).phi = s.phi
    ∧ (State.storeFault s c).tsu.time = s.tsu.time ∧ (State.storeFault s c).tsu.rings = s.tsu.rings
    ∧ (State.storeFault s c).tsu.cfg = s.tsu.cfg := by
  simp only [State.storeFault] <;> (repeat' split) <;> first | (simp; done) | (simp [*]; done) | (refine ⟨?_, ?_, ?_, ?_, ?_, ?_, ?_, ?_, ?_, ?_⟩ <;> first | rfl | (simp; done) | (simp [*]; done))

@[simp] theorem State.cutTable_keeps (s : State) (no : Nat) :
    (State.cutTable s no).pending = s.pending ∧ (State.cutTable s no).cyc = s.cyc
    ∧ (State.cutTable s no).freeNext = s.freeNext ∧ (State.cutTable s no).out = s.out
    ∧ (State.cutTable s no).mdl = s.mdl ∧ (State.cutTable s no).meter = s.meter ∧ (State.cutTable s no).hub = s.hub
    ∧ (State.cutTable s no).tsu = s.tsu ∧ (State.cutTable s no).phi = s.phi
    ∧ (State.cutTable s no).die.sync = s.die.sync ∧ (State.cutTable s no).die.launches = s.die.launches
    ∧ (State.cutTable s no).die.dig = s.die.dig ∧ (State.cutTable s no).die.binds = s.die.binds
    ∧ (State.cutTable s no).die.coreEn = s.die.coreEn := by
  refine ⟨?_, ?_, ?_, ?_, ?_, ?_, ?_, ?_, ?_, ?_, ?_, ?_, ?_, ?_⟩ <;> first | (simp [State.cutTable]; done)

@[simp] theorem State.closeInterval_keeps (s : State) (cycles : Nat) (since : Nat) (power : Bool) :
    (State.closeInterval s cycles since power).pending = s.pending
    ∧ (State.closeInterval s cycles since power).cyc = s.cyc
    ∧ (State.closeInterval s cycles since power).freeNext = s.freeNext
    ∧ (State.closeInterval s cycles since power).out = s.out
    ∧ (State.closeInterval s cycles since power).mdl = s.mdl
    ∧ (State.closeInterval s cycles since power).hub = s.hub
    ∧ (State.closeInterval s cycles since power).tsu = s.tsu
    ∧ (State.closeInterval s cycles since power).phi = s.phi
    ∧ (State.closeInterval s cycles since power).die.sync = s.die.sync
    ∧ (State.closeInterval s cycles since power).die.launches = s.die.launches
    ∧ (State.closeInterval s cycles since power).die.dig = s.die.dig
    ∧ (State.closeInterval s cycles since power).die.binds = s.die.binds
    ∧ (State.closeInterval s cycles since power).die.coreEn = s.die.coreEn := by
  refine ⟨?_, ?_, ?_, ?_, ?_, ?_, ?_, ?_, ?_, ?_, ?_, ?_, ?_⟩ <;> first | (simp [State.closeInterval]; done)

@[simp] theorem State.allocate_keeps (s : State) (e : Ended) :
    (State.allocate s e).pending = s.pending ∧ (State.allocate s e).cyc = s.cyc
    ∧ (State.allocate s e).freeNext = s.freeNext ∧ (State.allocate s e).out = s.out
    ∧ (State.allocate s e).mdl = s.mdl ∧ (State.allocate s e).die = s.die ∧ (State.allocate s e).hub = s.hub
    ∧ (State.allocate s e).tsu = s.tsu ∧ (State.allocate s e).phi = s.phi := by
  refine ⟨?_, ?_, ?_, ?_, ?_, ?_, ?_, ?_, ?_⟩ <;> first | (simp [State.allocate]; done)

@[simp] theorem State.cutOffNow_keeps (s : State) :
    (State.cutOffNow s).pending = s.pending ∧ (State.cutOffNow s).cyc = s.cyc
    ∧ (State.cutOffNow s).freeNext = s.freeNext ∧ (State.cutOffNow s).out = s.out ∧ (State.cutOffNow s).mdl = s.mdl
    ∧ (State.cutOffNow s).hub = s.hub ∧ (State.cutOffNow s).tsu = s.tsu ∧ (State.cutOffNow s).phi = s.phi
    ∧ (State.cutOffNow s).die.sync = s.die.sync ∧ (State.cutOffNow s).die.launches = s.die.launches
    ∧ (State.cutOffNow s).die.dig = s.die.dig ∧ (State.cutOffNow s).die.binds = s.die.binds
    ∧ (State.cutOffNow s).die.coreEn = s.die.coreEn := by
  refine ⟨?_, ?_, ?_, ?_, ?_, ?_, ?_, ?_, ?_, ?_, ?_, ?_, ?_⟩ <;> first | (simp [State.cutOffNow]; done)

@[simp] theorem State.berthDigest_keeps (s : State) (cores : List Nat) (basin : Nat) (step : StepNo) (l : W64) (digest : List Byte) :
    (State.berthDigest s cores basin step l digest).pending = s.pending
    ∧ (State.berthDigest s cores basin step l digest).cyc = s.cyc
    ∧ (State.berthDigest s cores basin step l digest).freeNext = s.freeNext
    ∧ (State.berthDigest s cores basin step l digest).out = s.out
    ∧ (State.berthDigest s cores basin step l digest).mdl = s.mdl
    ∧ (State.berthDigest s cores basin step l digest).meter = s.meter
    ∧ (State.berthDigest s cores basin step l digest).hub = s.hub
    ∧ (State.berthDigest s cores basin step l digest).tsu = s.tsu
    ∧ (State.berthDigest s cores basin step l digest).phi = s.phi := by
  refine ⟨?_, ?_, ?_, ?_, ?_, ?_, ?_, ?_, ?_⟩ <;> first | (simp [State.berthDigest]; done)

end Sys2Proof.Machine
end

