-- ==== Sys2Proof/Laws/Rings.lean ====
section
/-!
SUPPORT. What the operations and meanings of Machine/Rings.lean leave unchanged.
-/

namespace Sys2Proof.Machine

@[simp] theorem State.ringWrite_keeps (s : State) (p : Part) (i : Nat) (off : Nat) (data : List Byte) :
    (State.ringWrite s p i off data).pending = s.pending ∧ (State.ringWrite s p i off data).cyc = s.cyc
    ∧ (State.ringWrite s p i off data).mdl = s.mdl ∧ (State.ringWrite s p i off data).meter = s.meter
    ∧ (State.ringWrite s p i off data).die = s.die ∧ (State.ringWrite s p i off data).tsu.time = s.tsu.time
    ∧ (State.ringWrite s p i off data).tsu.cfg = s.tsu.cfg ∧ (State.ringWrite s p i off data).phi.time = s.phi.time
    ∧ (State.ringWrite s p i off data).phi.cfg = s.phi.cfg
    ∧ (State.ringWrite s p i off data).hub.storage = s.hub.storage
    ∧ (State.ringWrite s p i off data).hub.fw.state = s.hub.fw.state
    ∧ (State.ringWrite s p i off data).hub.pairs = s.hub.pairs
    ∧ (State.ringWrite s p i off data).hub.led = s.hub.led ∧ (State.ringWrite s p i off data).hub.seqs = s.hub.seqs := by
  simp only [State.ringWrite] <;> (repeat' split) <;> first | (simp; done) | (simp [*]; done) | (refine ⟨?_, ?_, ?_, ?_, ?_, ?_, ?_, ?_, ?_, ?_, ?_, ?_, ?_, ?_⟩ <;> first | rfl | (simp; done) | (simp [*]; done))

@[simp] theorem State.ringWrite_keeps_tsu (s : State) (i : Nat) (off : Nat) (data : List Byte) :
    (State.ringWrite s .tsu i off data).phi = s.phi := by simp only [State.ringWrite] <;> (repeat' split) <;> first | rfl | (simp; done) | (simp [*]; done)

@[simp] theorem State.ringWrite_keeps_phi (s : State) (i : Nat) (off : Nat) (data : List Byte) :
    (State.ringWrite s .phi i off data).tsu = s.tsu := by simp only [State.ringWrite] <;> (repeat' split) <;> first | rfl | (simp; done) | (simp [*]; done)

@[simp] theorem execRingEntryStage_keeps (p : Part) (ring : Nat) (off : Nat) (data : List Byte) (s : State) :
    gives (execRingEntryStage p ring off data s) fun t => t.pending = s.pending ∧ t.cyc = s.cyc ∧ t.mdl = s.mdl
    ∧ t.meter = s.meter ∧ t.die = s.die ∧ t.tsu.time = s.tsu.time ∧ t.tsu.cfg.lcState = s.tsu.cfg.lcState
    ∧ t.tsu.cfg.lcRows = s.tsu.cfg.lcRows ∧ t.phi.time = s.phi.time ∧ t.phi.cfg.lcState = s.phi.cfg.lcState
    ∧ t.phi.cfg.lcRows = s.phi.cfg.lcRows ∧ t.hub.storage = s.hub.storage ∧ t.hub.fw.state = s.hub.fw.state
    ∧ t.hub.pairs = s.hub.pairs ∧ t.hub.led = s.hub.led ∧ t.hub.seqs = s.hub.seqs := by
  simp only [execRingEntryStage, State.viaWindow, State.fwApply] <;> (repeat' split) <;> first | (simp; done) | (simp [*]; done) | (refine gives_and ?_ (gives_and ?_ (gives_and ?_ (gives_and ?_ (gives_and ?_ (gives_and ?_ (gives_and ?_ (gives_and ?_ (gives_and ?_ (gives_and ?_ (gives_and ?_ (gives_and ?_ (gives_and ?_ (gives_and ?_ (gives_and ?_ ?_)))))))))))))) <;> first | rfl | (simp; done) | (simp [*]; done))

@[simp] theorem execRingEntryStage_keeps_tsu (ring : Nat) (off : Nat) (data : List Byte) (s : State) :
    gives (execRingEntryStage .tsu ring off data s) fun t => t.phi = s.phi := by simp [execRingEntryStage, State.viaWindow, State.fwApply]

@[simp] theorem execRingEntryStage_keeps_phi (ring : Nat) (off : Nat) (data : List Byte) (s : State) :
    gives (execRingEntryStage .phi ring off data s) fun t => t.tsu = s.tsu := by simp only [execRingEntryStage, State.viaWindow, State.fwApply] <;> (repeat' split) <;> first | rfl | (simp; done) | (simp [*]; done)

@[simp] theorem execRingEnable_keeps (p : Part) (ring : Nat) (off : Nat) (data : List Byte) (s : State) :
    gives (execRingEnable p ring off data s) fun t => t.pending = s.pending ∧ t.cyc = s.cyc ∧ t.mdl = s.mdl
    ∧ t.meter = s.meter ∧ t.die = s.die ∧ t.tsu.time = s.tsu.time ∧ t.tsu.cfg.lcState = s.tsu.cfg.lcState
    ∧ t.tsu.cfg.lcRows = s.tsu.cfg.lcRows ∧ t.phi.time = s.phi.time ∧ t.phi.cfg.lcState = s.phi.cfg.lcState
    ∧ t.phi.cfg.lcRows = s.phi.cfg.lcRows ∧ t.hub.storage = s.hub.storage ∧ t.hub.fw.state = s.hub.fw.state
    ∧ t.hub.pairs = s.hub.pairs ∧ t.hub.led = s.hub.led ∧ t.hub.seqs = s.hub.seqs := by
  simp only [execRingEnable, State.viaWindow, State.fwApply] <;> (repeat' split) <;> first | (simp; done) | (simp [*]; done) | (refine gives_and ?_ (gives_and ?_ (gives_and ?_ (gives_and ?_ (gives_and ?_ (gives_and ?_ (gives_and ?_ (gives_and ?_ (gives_and ?_ (gives_and ?_ (gives_and ?_ (gives_and ?_ (gives_and ?_ (gives_and ?_ (gives_and ?_ ?_)))))))))))))) <;> first | rfl | (simp; done) | (simp [*]; done))

@[simp] theorem execRingEnable_keeps_tsu (ring : Nat) (off : Nat) (data : List Byte) (s : State) :
    gives (execRingEnable .tsu ring off data s) fun t => t.phi = s.phi := by simp [execRingEnable, State.viaWindow, State.fwApply]

@[simp] theorem execRingEnable_keeps_phi (ring : Nat) (off : Nat) (data : List Byte) (s : State) :
    gives (execRingEnable .phi ring off data s) fun t => t.tsu = s.tsu := by simp only [execRingEnable, State.viaWindow, State.fwApply] <;> (repeat' split) <;> first | rfl | (simp; done) | (simp [*]; done)

@[simp] theorem execRingDisable_keeps (p : Part) (ring : Nat) (off : Nat) (data : List Byte) (s : State) :
    gives (execRingDisable p ring off data s) fun t => t.pending = s.pending ∧ t.cyc = s.cyc ∧ t.mdl = s.mdl
    ∧ t.meter = s.meter ∧ t.die = s.die ∧ t.tsu.time = s.tsu.time ∧ t.tsu.cfg.lcState = s.tsu.cfg.lcState
    ∧ t.tsu.cfg.lcRows = s.tsu.cfg.lcRows ∧ t.phi.time = s.phi.time ∧ t.phi.cfg.lcState = s.phi.cfg.lcState
    ∧ t.phi.cfg.lcRows = s.phi.cfg.lcRows ∧ t.hub.storage = s.hub.storage ∧ t.hub.fw.state = s.hub.fw.state
    ∧ t.hub.pairs = s.hub.pairs ∧ t.hub.led = s.hub.led ∧ t.hub.seqs = s.hub.seqs := by
  simp only [execRingDisable, State.viaWindow, State.fwApply] <;> (repeat' split) <;> first | (simp; done) | (simp [*]; done) | (refine gives_and ?_ (gives_and ?_ (gives_and ?_ (gives_and ?_ (gives_and ?_ (gives_and ?_ (gives_and ?_ (gives_and ?_ (gives_and ?_ (gives_and ?_ (gives_and ?_ (gives_and ?_ (gives_and ?_ (gives_and ?_ (gives_and ?_ ?_)))))))))))))) <;> first | rfl | (simp; done) | (simp [*]; done))

@[simp] theorem execRingDisable_keeps_tsu (ring : Nat) (off : Nat) (data : List Byte) (s : State) :
    gives (execRingDisable .tsu ring off data s) fun t => t.phi = s.phi := by simp [execRingDisable, State.viaWindow, State.fwApply]

@[simp] theorem execRingDisable_keeps_phi (ring : Nat) (off : Nat) (data : List Byte) (s : State) :
    gives (execRingDisable .phi ring off data s) fun t => t.tsu = s.tsu := by simp only [execRingDisable, State.viaWindow, State.fwApply] <;> (repeat' split) <;> first | rfl | (simp; done) | (simp [*]; done)

@[simp] theorem execRingDrainComplete_keeps (p : Part) (ring : Nat) (s : State) :
    gives (execRingDrainComplete p ring s) fun t => t.pending = s.pending ∧ t.cyc = s.cyc ∧ t.freeNext = s.freeNext
    ∧ t.out = s.out ∧ t.mdl = s.mdl ∧ t.meter = s.meter ∧ t.die = s.die ∧ t.hub = s.hub ∧ t.tsu.time = s.tsu.time
    ∧ t.tsu.cfg = s.tsu.cfg ∧ t.phi.time = s.phi.time ∧ t.phi.cfg = s.phi.cfg := by
  simp only [execRingDrainComplete] <;> (repeat' split) <;> first | (simp; done) | (simp [*]; done) | (refine gives_and ?_ (gives_and ?_ (gives_and ?_ (gives_and ?_ (gives_and ?_ (gives_and ?_ (gives_and ?_ (gives_and ?_ (gives_and ?_ (gives_and ?_ (gives_and ?_ ?_)))))))))) <;> first | rfl | (simp; done) | (simp [*]; done))

@[simp] theorem execRingDrainComplete_keeps_tsu (ring : Nat) (s : State) :
    gives (execRingDrainComplete .tsu ring s) fun t => t.phi = s.phi := by simp only [execRingDrainComplete] <;> (repeat' split) <;> first | rfl | (simp; done) | (simp [*]; done)

@[simp] theorem execRingDrainComplete_keeps_phi (ring : Nat) (s : State) :
    gives (execRingDrainComplete .phi ring s) fun t => t.tsu = s.tsu := by simp only [execRingDrainComplete] <;> (repeat' split) <;> first | rfl | (simp; done) | (simp [*]; done)

@[simp] theorem State.badIndex_keeps (s : State) (p : Part) (i : Nat) (seen : List W32) (v : W32) :
    (State.badIndex s p i seen v).pending = s.pending ∧ (State.badIndex s p i seen v).cyc = s.cyc
    ∧ (State.badIndex s p i seen v).freeNext = s.freeNext ∧ (State.badIndex s p i seen v).mdl = s.mdl
    ∧ (State.badIndex s p i seen v).meter = s.meter ∧ (State.badIndex s p i seen v).die = s.die
    ∧ (State.badIndex s p i seen v).tsu.time = s.tsu.time ∧ (State.badIndex s p i seen v).tsu.cfg = s.tsu.cfg
    ∧ (State.badIndex s p i seen v).phi.time = s.phi.time ∧ (State.badIndex s p i seen v).phi.cfg = s.phi.cfg
    ∧ (State.badIndex s p i seen v).hub.storage = s.hub.storage
    ∧ (State.badIndex s p i seen v).hub.fw.state = s.hub.fw.state
    ∧ (State.badIndex s p i seen v).hub.pairs = s.hub.pairs ∧ (State.badIndex s p i seen v).hub.led = s.hub.led
    ∧ (State.badIndex s p i seen v).hub.seqs = s.hub.seqs := by
  refine ⟨?_, ?_, ?_, ?_, ?_, ?_, ?_, ?_, ?_, ?_, ?_, ?_, ?_, ?_, ?_⟩ <;> first | (simp [State.badIndex]; done)

@[simp] theorem State.badIndex_keeps_tsu (s : State) (i : Nat) (seen : List W32) (v : W32) :
    (State.badIndex s .tsu i seen v).phi = s.phi ∧ (State.badIndex s .tsu i seen v).hub = s.hub := by
  refine ⟨?_, ?_⟩ <;> first | (simp [State.badIndex]; done)

@[simp] theorem State.badIndex_keeps_phi (s : State) (i : Nat) (seen : List W32) (v : W32) :
    (State.badIndex s .phi i seen v).tsu = s.tsu := by simp [State.badIndex]

@[simp] theorem State.doorbell_keeps (s : State) (p : Part) (i : Nat) (prod : W32) (cons : W32) :
    (State.doorbell s p i prod cons).pending = s.pending ∧ (State.doorbell s p i prod cons).cyc = s.cyc
    ∧ (State.doorbell s p i prod cons).freeNext = s.freeNext ∧ (State.doorbell s p i prod cons).mdl = s.mdl
    ∧ (State.doorbell s p i prod cons).meter = s.meter ∧ (State.doorbell s p i prod cons).die = s.die
    ∧ (State.doorbell s p i prod cons).tsu.time = s.tsu.time ∧ (State.doorbell s p i prod cons).tsu.cfg = s.tsu.cfg
    ∧ (State.doorbell s p i prod cons).phi.time = s.phi.time ∧ (State.doorbell s p i prod cons).phi.cfg = s.phi.cfg
    ∧ (State.doorbell s p i prod cons).hub.storage = s.hub.storage
    ∧ (State.doorbell s p i prod cons).hub.fw.state = s.hub.fw.state
    ∧ (State.doorbell s p i prod cons).hub.pairs = s.hub.pairs
    ∧ (State.doorbell s p i prod cons).hub.led = s.hub.led ∧ (State.doorbell s p i prod cons).hub.seqs = s.hub.seqs := by
  refine ⟨?_, ?_, ?_, ?_, ?_, ?_, ?_, ?_, ?_, ?_, ?_, ?_, ?_, ?_, ?_⟩ <;> first | (simp [State.doorbell]; done)

@[simp] theorem State.doorbell_keeps_tsu (s : State) (i : Nat) (prod : W32) (cons : W32) :
    (State.doorbell s .tsu i prod cons).phi = s.phi ∧ (State.doorbell s .tsu i prod cons).hub = s.hub := by
  refine ⟨?_, ?_⟩ <;> first | (simp [State.doorbell]; done)

@[simp] theorem State.doorbell_keeps_phi (s : State) (i : Nat) (prod : W32) (cons : W32) :
    (State.doorbell s .phi i prod cons).tsu = s.tsu := by simp [State.doorbell]

@[simp] theorem State.holdNotice_keeps (s : State) (ring : Nat) (prod : W32) (cons : W32) :
    (State.holdNotice s ring prod cons).pending = s.pending ∧ (State.holdNotice s ring prod cons).cyc = s.cyc
    ∧ (State.holdNotice s ring prod cons).freeNext = s.freeNext ∧ (State.holdNotice s ring prod cons).out = s.out
    ∧ (State.holdNotice s ring prod cons).mdl = s.mdl ∧ (State.holdNotice s ring prod cons).meter = s.meter
    ∧ (State.holdNotice s ring prod cons).die = s.die ∧ (State.holdNotice s ring prod cons).hub = s.hub
    ∧ (State.holdNotice s ring prod cons).phi = s.phi ∧ (State.holdNotice s ring prod cons).tsu.time = s.tsu.time
    ∧ (State.holdNotice s ring prod cons).tsu.rings = s.tsu.rings
    ∧ (State.holdNotice s ring prod cons).tsu.cfg = s.tsu.cfg := by
  refine ⟨?_, ?_, ?_, ?_, ?_, ?_, ?_, ?_, ?_, ?_, ?_, ?_⟩ <;> first | (simp [State.holdNotice]; done)

@[simp] theorem execDoorbellWrite_keeps (p : Part) (ring : Nat) (prod : W32) (cons : W32) (s : State) :
    gives (execDoorbellWrite p ring prod cons s) fun t => t.pending = s.pending ∧ t.cyc = s.cyc
    ∧ t.freeNext = s.freeNext ∧ t.mdl = s.mdl ∧ t.meter = s.meter ∧ t.die = s.die ∧ t.tsu.time = s.tsu.time
    ∧ t.tsu.cfg = s.tsu.cfg ∧ t.phi.time = s.phi.time ∧ t.phi.cfg = s.phi.cfg ∧ t.hub.storage = s.hub.storage
    ∧ t.hub.fw.state = s.hub.fw.state ∧ t.hub.pairs = s.hub.pairs ∧ t.hub.led = s.hub.led ∧ t.hub.seqs = s.hub.seqs := by
  simp only [execDoorbellWrite] <;> (repeat' split) <;> first | (simp; done) | (simp [*]; done) | (refine gives_and ?_ (gives_and ?_ (gives_and ?_ (gives_and ?_ (gives_and ?_ (gives_and ?_ (gives_and ?_ (gives_and ?_ (gives_and ?_ (gives_and ?_ (gives_and ?_ (gives_and ?_ (gives_and ?_ (gives_and ?_ ?_))))))))))))) <;> first | rfl | (simp; done) | (simp [*]; done))

@[simp] theorem execDoorbellWrite_keeps_tsu (ring : Nat) (prod : W32) (cons : W32) (s : State) :
    gives (execDoorbellWrite .tsu ring prod cons s) fun t => t.phi = s.phi ∧ t.hub = s.hub := by
  refine gives_and ?_ ?_ <;> first | (simp [execDoorbellWrite]; done)

@[simp] theorem State.judgeDesc_keeps (s : State) (p : Part) (i : Nat) (d : Desc) :
    (State.judgeDesc s p i d).pending = s.pending ∧ (State.judgeDesc s p i d).cyc = s.cyc
    ∧ (State.judgeDesc s p i d).freeNext = s.freeNext ∧ (State.judgeDesc s p i d).mdl = s.mdl
    ∧ (State.judgeDesc s p i d).meter = s.meter ∧ (State.judgeDesc s p i d).die = s.die
    ∧ (State.judgeDesc s p i d).tsu.time = s.tsu.time ∧ (State.judgeDesc s p i d).tsu.cfg = s.tsu.cfg
    ∧ (State.judgeDesc s p i d).phi.time = s.phi.time ∧ (State.judgeDesc s p i d).phi.cfg = s.phi.cfg
    ∧ (State.judgeDesc s p i d).hub.storage = s.hub.storage
    ∧ (State.judgeDesc s p i d).hub.fw.state = s.hub.fw.state ∧ (State.judgeDesc s p i d).hub.pairs = s.hub.pairs
    ∧ (State.judgeDesc s p i d).hub.led = s.hub.led ∧ (State.judgeDesc s p i d).hub.seqs = s.hub.seqs := by
  simp only [State.judgeDesc] <;> (repeat' split) <;> first | (simp; done) | (simp [*]; done) | (refine ⟨?_, ?_, ?_, ?_, ?_, ?_, ?_, ?_, ?_, ?_, ?_, ?_, ?_, ?_, ?_⟩ <;> first | rfl | (simp; done) | (simp [*]; done))

@[simp] theorem State.judgeDesc_keeps_tsu (s : State) (i : Nat) (d : Desc) :
    (State.judgeDesc s .tsu i d).phi = s.phi ∧ (State.judgeDesc s .tsu i d).hub = s.hub := by
  simp only [State.judgeDesc] <;> (repeat' split) <;> first | (simp; done) | (simp [*]; done) | (refine ⟨?_, ?_⟩ <;> first | rfl | (simp; done) | (simp [*]; done))

@[simp] theorem State.judgeDesc_keeps_phi (s : State) (i : Nat) (d : Desc) :
    (State.judgeDesc s .phi i d).tsu = s.tsu := by simp only [State.judgeDesc] <;> (repeat' split) <;> first | rfl | (simp; done) | (simp [*]; done)

@[simp] theorem State.judgeFetched_keeps (s : State) (p : Part) :
    (State.judgeFetched s p).pending = s.pending ∧ (State.judgeFetched s p).cyc = s.cyc
    ∧ (State.judgeFetched s p).freeNext = s.freeNext ∧ (State.judgeFetched s p).mdl = s.mdl
    ∧ (State.judgeFetched s p).meter = s.meter ∧ (State.judgeFetched s p).die = s.die
    ∧ (State.judgeFetched s p).tsu.time = s.tsu.time ∧ (State.judgeFetched s p).tsu.cfg = s.tsu.cfg
    ∧ (State.judgeFetched s p).phi.time = s.phi.time ∧ (State.judgeFetched s p).phi.cfg = s.phi.cfg
    ∧ (State.judgeFetched s p).hub.storage = s.hub.storage ∧ (State.judgeFetched s p).hub.fw.state = s.hub.fw.state
    ∧ (State.judgeFetched s p).hub.pairs = s.hub.pairs ∧ (State.judgeFetched s p).hub.led = s.hub.led
    ∧ (State.judgeFetched s p).hub.seqs = s.hub.seqs := by
  refine ⟨?_, ?_, ?_, ?_, ?_, ?_, ?_, ?_, ?_, ?_, ?_, ?_, ?_, ?_, ?_⟩ <;> first | (simp [State.judgeFetched]; done)

@[simp] theorem State.judgeFetched_keeps_tsu (s : State) :
    (State.judgeFetched s .tsu).phi = s.phi ∧ (State.judgeFetched s .tsu).hub = s.hub := by
  refine ⟨?_, ?_⟩ <;> first | (simp [State.judgeFetched]; done)

@[simp] theorem State.judgeFetched_keeps_phi (s : State) :
    (State.judgeFetched s .phi).tsu = s.tsu := by simp [State.judgeFetched]

@[simp] theorem State.fetchOne_keeps (s : State) (p : Part) (i : Nat) (read : Option (List Byte)) :
    (State.fetchOne s p i read).pending = s.pending ∧ (State.fetchOne s p i read).cyc = s.cyc
    ∧ (State.fetchOne s p i read).mdl = s.mdl ∧ (State.fetchOne s p i read).meter = s.meter
    ∧ (State.fetchOne s p i read).die = s.die ∧ (State.fetchOne s p i read).tsu.time = s.tsu.time
    ∧ (State.fetchOne s p i read).tsu.cfg = s.tsu.cfg ∧ (State.fetchOne s p i read).phi.time = s.phi.time
    ∧ (State.fetchOne s p i read).phi.cfg = s.phi.cfg ∧ (State.fetchOne s p i read).hub.storage = s.hub.storage
    ∧ (State.fetchOne s p i read).hub.fw.state = s.hub.fw.state
    ∧ (State.fetchOne s p i read).hub.pairs = s.hub.pairs ∧ (State.fetchOne s p i read).hub.led = s.hub.led
    ∧ (State.fetchOne s p i read).hub.seqs = s.hub.seqs := by
  simp only [State.fetchOne] <;> (repeat' split) <;> first | (simp; done) | (simp [*]; done) | (refine ⟨?_, ?_, ?_, ?_, ?_, ?_, ?_, ?_, ?_, ?_, ?_, ?_, ?_, ?_⟩ <;> first | rfl | (simp; done) | (simp [*]; done))

@[simp] theorem State.fetchOne_keeps_tsu (s : State) (i : Nat) (read : Option (List Byte)) :
    (State.fetchOne s .tsu i read).phi = s.phi ∧ (State.fetchOne s .tsu i read).hub = s.hub := by
  simp only [State.fetchOne] <;> (repeat' split) <;> first | (simp; done) | (simp [*]; done) | (refine ⟨?_, ?_⟩ <;> first | rfl | (simp; done) | (simp [*]; done))

@[simp] theorem State.fetchOne_keeps_phi (s : State) (i : Nat) (read : Option (List Byte)) :
    (State.fetchOne s .phi i read).tsu = s.tsu := by simp only [State.fetchOne] <;> (repeat' split) <;> first | rfl | (simp; done) | (simp [*]; done)

@[simp] theorem execDescriptorFetch_keeps (p : Part) (descs : List (Option (List Byte))) (s : State) :
    gives (execDescriptorFetch p descs s) fun t => t.pending = s.pending ∧ t.cyc = s.cyc ∧ t.mdl = s.mdl
    ∧ t.meter = s.meter ∧ t.die = s.die ∧ t.tsu.time = s.tsu.time ∧ t.tsu.cfg = s.tsu.cfg ∧ t.phi.time = s.phi.time
    ∧ t.phi.cfg = s.phi.cfg ∧ t.hub.storage = s.hub.storage ∧ t.hub.fw.state = s.hub.fw.state
    ∧ t.hub.pairs = s.hub.pairs ∧ t.hub.led = s.hub.led ∧ t.hub.seqs = s.hub.seqs := by
  simp only [execDescriptorFetch] <;> (repeat' split) <;> first | (simp; done) | (simp [*]; done) | (refine gives_and ?_ (gives_and ?_ (gives_and ?_ (gives_and ?_ (gives_and ?_ (gives_and ?_ (gives_and ?_ (gives_and ?_ (gives_and ?_ (gives_and ?_ (gives_and ?_ (gives_and ?_ (gives_and ?_ ?_)))))))))))) <;> first | rfl | (simp; done) | (simp [*]; done))

@[simp] theorem execDescriptorFetch_keeps_tsu (descs : List (Option (List Byte))) (s : State) :
    gives (execDescriptorFetch .tsu descs s) fun t => t.phi = s.phi ∧ t.hub = s.hub := by
  simp only [execDescriptorFetch] <;> (repeat' split) <;> first | (simp; done) | (simp [*]; done) | (refine gives_and ?_ ?_ <;> first | rfl | (simp; done) | (simp [*]; done))

@[simp] theorem execDescriptorFetch_keeps_phi (descs : List (Option (List Byte))) (s : State) :
    gives (execDescriptorFetch .phi descs s) fun t => t.tsu = s.tsu := by simp only [execDescriptorFetch] <;> (repeat' split) <;> first | rfl | (simp; done) | (simp [*]; done)

@[simp] theorem execIrqHoldoffExpiry_keeps (p : Part) (ring : Nat) (s : State) :
    gives (execIrqHoldoffExpiry p ring s) fun t => t.pending = s.pending ∧ t.cyc = s.cyc ∧ t.freeNext = s.freeNext
    ∧ t.mdl = s.mdl ∧ t.meter = s.meter ∧ t.die = s.die ∧ t.tsu.time = s.tsu.time ∧ t.tsu.cfg = s.tsu.cfg
    ∧ t.phi.time = s.phi.time ∧ t.phi.cfg = s.phi.cfg ∧ t.hub.storage = s.hub.storage
    ∧ t.hub.fw.state = s.hub.fw.state ∧ t.hub.pairs = s.hub.pairs ∧ t.hub.led = s.hub.led ∧ t.hub.seqs = s.hub.seqs := by
  refine gives_and ?_ (gives_and ?_ (gives_and ?_ (gives_and ?_ (gives_and ?_ (gives_and ?_ (gives_and ?_ (gives_and ?_ (gives_and ?_ (gives_and ?_ (gives_and ?_ (gives_and ?_ (gives_and ?_ (gives_and ?_ ?_))))))))))))) <;> first | (simp [execIrqHoldoffExpiry]; done)

@[simp] theorem execIrqHoldoffExpiry_keeps_tsu (ring : Nat) (s : State) :
    gives (execIrqHoldoffExpiry .tsu ring s) fun t => t.phi = s.phi ∧ t.hub = s.hub := by
  refine gives_and ?_ ?_ <;> first | (simp [execIrqHoldoffExpiry]; done)

@[simp] theorem execIrqHoldoffExpiry_keeps_phi (ring : Nat) (s : State) :
    gives (execIrqHoldoffExpiry .phi ring s) fun t => t.tsu = s.tsu := by simp [execIrqHoldoffExpiry]

@[simp] theorem execNop_keeps (p : Part) (ring : Nat) (idx : Nat) (s : State) :
    gives (execNop p ring idx s) fun t => t.pending = s.pending ∧ t.cyc = s.cyc ∧ t.mdl = s.mdl ∧ t.meter = s.meter
    ∧ t.die = s.die ∧ t.tsu.time = s.tsu.time ∧ t.tsu.cfg = s.tsu.cfg ∧ t.phi.time = s.phi.time
    ∧ t.phi.cfg = s.phi.cfg ∧ t.hub.storage = s.hub.storage ∧ t.hub.fw.state = s.hub.fw.state
    ∧ t.hub.pairs = s.hub.pairs ∧ t.hub.led = s.hub.led ∧ t.hub.seqs = s.hub.seqs := by
  simp only [execNop, State.runDesc] <;> (repeat' split) <;> first | (simp; done) | (simp [*]; done) | (refine gives_and ?_ (gives_and ?_ (gives_and ?_ (gives_and ?_ (gives_and ?_ (gives_and ?_ (gives_and ?_ (gives_and ?_ (gives_and ?_ (gives_and ?_ (gives_and ?_ (gives_and ?_ (gives_and ?_ ?_)))))))))))) <;> first | rfl | (simp; done) | (simp [*]; done))

@[simp] theorem execNop_keeps_tsu (ring : Nat) (idx : Nat) (s : State) :
    gives (execNop .tsu ring idx s) fun t => t.phi = s.phi := by simp only [execNop, State.runDesc] <;> (repeat' split) <;> first | rfl | (simp; done) | (simp [*]; done)

@[simp] theorem execNop_keeps_phi (ring : Nat) (idx : Nat) (s : State) :
    gives (execNop .phi ring idx s) fun t => t.tsu = s.tsu := by simp only [execNop, State.runDesc] <;> (repeat' split) <;> first | rfl | (simp; done) | (simp [*]; done)

end Sys2Proof.Machine
end

