-- ==== Sys2Proof/Laws/Pages.lean ====
section
/-!
SUPPORT. What the operations and meanings of Machine/Pages.lean leave unchanged.
-/

namespace Sys2Proof.Machine

@[simp] theorem State.writePage_keeps (s : State) (p : Part) :
    (State.writePage s p).pending = s.pending ∧ (State.writePage s p).cyc = s.cyc
    ∧ (State.writePage s p).freeNext = s.freeNext ∧ (State.writePage s p).mdl = s.mdl
    ∧ (State.writePage s p).meter = s.meter ∧ (State.writePage s p).die = s.die ∧ (State.writePage s p).hub = s.hub
    ∧ (State.writePage s p).tsu.time = s.tsu.time ∧ (State.writePage s p).tsu.rings = s.tsu.rings
    ∧ (State.writePage s p).tsu.cfg = s.tsu.cfg ∧ (State.writePage s p).phi.time = s.phi.time
    ∧ (State.writePage s p).phi.rings = s.phi.rings ∧ (State.writePage s p).phi.cfg = s.phi.cfg := by
  refine ⟨?_, ?_, ?_, ?_, ?_, ?_, ?_, ?_, ?_, ?_, ?_, ?_, ?_⟩ <;> first | (simp [State.writePage]; done)

@[simp] theorem State.writePage_keeps_tsu (s : State) :
    (State.writePage s .tsu).phi = s.phi := by simp [State.writePage]

@[simp] theorem State.writePage_keeps_phi (s : State) :
    (State.writePage s .phi).tsu = s.tsu := by simp [State.writePage]

@[simp] theorem execStateRefresh_keeps (p : Part) (ring : Nat) (idx : Nat) (s : State) :
    gives (execStateRefresh p ring idx s) fun t => t.pending = s.pending ∧ t.cyc = s.cyc ∧ t.mdl = s.mdl
    ∧ t.meter = s.meter ∧ t.die = s.die ∧ t.tsu.time = s.tsu.time ∧ t.tsu.cfg = s.tsu.cfg ∧ t.phi.time = s.phi.time
    ∧ t.phi.cfg = s.phi.cfg ∧ t.hub.storage = s.hub.storage ∧ t.hub.fw.state = s.hub.fw.state
    ∧ t.hub.pairs = s.hub.pairs ∧ t.hub.led = s.hub.led ∧ t.hub.seqs = s.hub.seqs := by
  simp only [execStateRefresh, State.runDesc] <;> (repeat' split) <;> first | (simp; done) | (simp [*]; done) | (refine gives_and ?_ (gives_and ?_ (gives_and ?_ (gives_and ?_ (gives_and ?_ (gives_and ?_ (gives_and ?_ (gives_and ?_ (gives_and ?_ (gives_and ?_ (gives_and ?_ (gives_and ?_ (gives_and ?_ ?_)))))))))))) <;> first | rfl | (simp; done) | (simp [*]; done))

@[simp] theorem execStateRefresh_keeps_tsu (ring : Nat) (idx : Nat) (s : State) :
    gives (execStateRefresh .tsu ring idx s) fun t => t.phi = s.phi := by simp only [execStateRefresh, State.runDesc] <;> (repeat' split) <;> first | rfl | (simp; done) | (simp [*]; done)

@[simp] theorem execStateRefresh_keeps_phi (ring : Nat) (idx : Nat) (s : State) :
    gives (execStateRefresh .phi ring idx s) fun t => t.tsu = s.tsu := by simp only [execStateRefresh, State.runDesc] <;> (repeat' split) <;> first | rfl | (simp; done) | (simp [*]; done)

@[simp] theorem execStatePageUpdate_keeps (p : Part) (s : State) :
    gives (execStatePageUpdate p s) fun t => t.pending = s.pending ∧ t.cyc = s.cyc ∧ t.freeNext = s.freeNext
    ∧ t.mdl = s.mdl ∧ t.meter = s.meter ∧ t.die = s.die ∧ t.hub = s.hub ∧ t.tsu.time = s.tsu.time
    ∧ t.tsu.rings = s.tsu.rings ∧ t.tsu.cfg = s.tsu.cfg ∧ t.phi.time = s.phi.time ∧ t.phi.rings = s.phi.rings
    ∧ t.phi.cfg = s.phi.cfg := by
  refine gives_and ?_ (gives_and ?_ (gives_and ?_ (gives_and ?_ (gives_and ?_ (gives_and ?_ (gives_and ?_ (gives_and ?_ (gives_and ?_ (gives_and ?_ (gives_and ?_ (gives_and ?_ ?_))))))))))) <;> first | (simp [execStatePageUpdate]; done)

@[simp] theorem execStatePageUpdate_keeps_tsu (s : State) :
    gives (execStatePageUpdate .tsu s) fun t => t.phi = s.phi := by simp [execStatePageUpdate]

@[simp] theorem execStatePageUpdate_keeps_phi (s : State) :
    gives (execStatePageUpdate .phi s) fun t => t.tsu = s.tsu := by simp [execStatePageUpdate]

@[simp] theorem State.writeView_keeps (s : State) (ring : Nat) (idx : Nat) (d : Desc) (l : List (List Byte)) :
    (State.writeView s ring idx d l).pending = s.pending ∧ (State.writeView s ring idx d l).cyc = s.cyc
    ∧ (State.writeView s ring idx d l).mdl = s.mdl ∧ (State.writeView s ring idx d l).meter = s.meter
    ∧ (State.writeView s ring idx d l).die = s.die ∧ (State.writeView s ring idx d l).tsu = s.tsu
    ∧ (State.writeView s ring idx d l).phi.time = s.phi.time ∧ (State.writeView s ring idx d l).phi.cfg = s.phi.cfg
    ∧ (State.writeView s ring idx d l).hub.storage = s.hub.storage
    ∧ (State.writeView s ring idx d l).hub.fw.state = s.hub.fw.state
    ∧ (State.writeView s ring idx d l).hub.pairs = s.hub.pairs
    ∧ (State.writeView s ring idx d l).hub.led = s.hub.led ∧ (State.writeView s ring idx d l).hub.seqs = s.hub.seqs := by
  refine ⟨?_, ?_, ?_, ?_, ?_, ?_, ?_, ?_, ?_, ?_, ?_, ?_, ?_⟩ <;> first | (simp [State.writeView]; done)

@[simp] theorem execViewReadGates_keeps (ring : Nat) (idx : Nat) (s : State) :
    gives (execViewReadGates ring idx s) fun t => t.pending = s.pending ∧ t.cyc = s.cyc ∧ t.mdl = s.mdl
    ∧ t.meter = s.meter ∧ t.die = s.die ∧ t.tsu = s.tsu ∧ t.phi.time = s.phi.time ∧ t.phi.cfg = s.phi.cfg
    ∧ t.hub.storage = s.hub.storage ∧ t.hub.fw.state = s.hub.fw.state ∧ t.hub.pairs = s.hub.pairs
    ∧ t.hub.led = s.hub.led ∧ t.hub.seqs = s.hub.seqs := by
  simp only [execViewReadGates, State.runDesc] <;> (repeat' split) <;> first | (simp; done) | (simp [*]; done) | (refine gives_and ?_ (gives_and ?_ (gives_and ?_ (gives_and ?_ (gives_and ?_ (gives_and ?_ (gives_and ?_ (gives_and ?_ (gives_and ?_ (gives_and ?_ (gives_and ?_ (gives_and ?_ ?_))))))))))) <;> first | rfl | (simp; done) | (simp [*]; done))

@[simp] theorem execViewReadShortfall_keeps (ring : Nat) (idx : Nat) (s : State) :
    gives (execViewReadShortfall ring idx s) fun t => t.pending = s.pending ∧ t.cyc = s.cyc ∧ t.mdl = s.mdl
    ∧ t.meter = s.meter ∧ t.die = s.die ∧ t.tsu = s.tsu ∧ t.phi.time = s.phi.time ∧ t.phi.cfg = s.phi.cfg
    ∧ t.hub.storage = s.hub.storage ∧ t.hub.fw.state = s.hub.fw.state ∧ t.hub.pairs = s.hub.pairs
    ∧ t.hub.led = s.hub.led ∧ t.hub.seqs = s.hub.seqs := by
  simp only [execViewReadShortfall, State.runDesc] <;> (repeat' split) <;> first | (simp; done) | (simp [*]; done) | (refine gives_and ?_ (gives_and ?_ (gives_and ?_ (gives_and ?_ (gives_and ?_ (gives_and ?_ (gives_and ?_ (gives_and ?_ (gives_and ?_ (gives_and ?_ (gives_and ?_ (gives_and ?_ ?_))))))))))) <;> first | rfl | (simp; done) | (simp [*]; done))

@[simp] theorem State.heartbeat_keeps (s : State) (p : Part) (v : W64) :
    (State.heartbeat s p v).pending = s.pending ∧ (State.heartbeat s p v).cyc = s.cyc
    ∧ (State.heartbeat s p v).freeNext = s.freeNext ∧ (State.heartbeat s p v).out = s.out
    ∧ (State.heartbeat s p v).mdl = s.mdl ∧ (State.heartbeat s p v).meter = s.meter
    ∧ (State.heartbeat s p v).die = s.die ∧ (State.heartbeat s p v).hub = s.hub
    ∧ (State.heartbeat s p v).tsu.time = s.tsu.time ∧ (State.heartbeat s p v).tsu.rings = s.tsu.rings
    ∧ (State.heartbeat s p v).tsu.cfg = s.tsu.cfg ∧ (State.heartbeat s p v).phi.time = s.phi.time
    ∧ (State.heartbeat s p v).phi.rings = s.phi.rings ∧ (State.heartbeat s p v).phi.cfg = s.phi.cfg := by
  refine ⟨?_, ?_, ?_, ?_, ?_, ?_, ?_, ?_, ?_, ?_, ?_, ?_, ?_, ?_⟩ <;> first | (simp [State.heartbeat]; done)

@[simp] theorem State.heartbeat_keeps_tsu (s : State) (v : W64) :
    (State.heartbeat s .tsu v).phi = s.phi := by simp only [State.heartbeat] <;> (repeat' split) <;> first | rfl | (simp; done) | (simp [*]; done)

@[simp] theorem State.heartbeat_keeps_phi (s : State) (v : W64) :
    (State.heartbeat s .phi v).tsu = s.tsu := by simp only [State.heartbeat] <;> (repeat' split) <;> first | rfl | (simp; done) | (simp [*]; done)

@[simp] theorem execHeartbeatChange_keeps (p : Part) (v : W64) (s : State) :
    gives (execHeartbeatChange p v s) fun t => t.pending = s.pending ∧ t.cyc = s.cyc ∧ t.freeNext = s.freeNext
    ∧ t.out = s.out ∧ t.mdl = s.mdl ∧ t.meter = s.meter ∧ t.die = s.die ∧ t.hub = s.hub ∧ t.tsu.time = s.tsu.time
    ∧ t.tsu.rings = s.tsu.rings ∧ t.tsu.cfg = s.tsu.cfg ∧ t.phi.time = s.phi.time ∧ t.phi.rings = s.phi.rings
    ∧ t.phi.cfg = s.phi.cfg := by
  refine gives_and ?_ (gives_and ?_ (gives_and ?_ (gives_and ?_ (gives_and ?_ (gives_and ?_ (gives_and ?_ (gives_and ?_ (gives_and ?_ (gives_and ?_ (gives_and ?_ (gives_and ?_ (gives_and ?_ ?_)))))))))))) <;> first | (simp [execHeartbeatChange]; done)

@[simp] theorem execHeartbeatChange_keeps_tsu (v : W64) (s : State) :
    gives (execHeartbeatChange .tsu v s) fun t => t.phi = s.phi := by simp [execHeartbeatChange]

@[simp] theorem execHeartbeatChange_keeps_phi (v : W64) (s : State) :
    gives (execHeartbeatChange .phi v s) fun t => t.tsu = s.tsu := by simp [execHeartbeatChange]

@[simp] theorem State.policyPark_keeps (s : State) :
    (State.policyPark s).pending = s.pending ∧ (State.policyPark s).cyc = s.cyc ∧ (State.policyPark s).mdl = s.mdl
    ∧ (State.policyPark s).meter = s.meter ∧ (State.policyPark s).die = s.die ∧ (State.policyPark s).tsu = s.tsu := by
  refine ⟨?_, ?_, ?_, ?_, ?_, ?_⟩ <;> first | (simp only [State.policyPark] <;> (repeat' split) <;> first | with_reducible rfl | (simp; done) | (simp [*]; done) | ((try simp); refine (foldl_pending _ _ _ fun s a => ?_).trans ?_ <;> (repeat' split) <;> first | with_reducible rfl | (simp; done) | (simp [*]; done)); done) | (simp only [State.policyPark] <;> (repeat' split) <;> first | with_reducible rfl | (simp; done) | (simp [*]; done) | ((try simp); refine (foldl_cyc _ _ _ fun s a => ?_).trans ?_ <;> (repeat' split) <;> first | with_reducible rfl | (simp; done) | (simp [*]; done)); done) | (simp only [State.policyPark] <;> (repeat' split) <;> first | with_reducible rfl | (simp; done) | (simp [*]; done) | ((try simp); refine (foldl_mdl _ _ _ fun s a => ?_).trans ?_ <;> (repeat' split) <;> first | with_reducible rfl | (simp; done) | (simp [*]; done)); done) | (simp only [State.policyPark] <;> (repeat' split) <;> first | with_reducible rfl | (simp; done) | (simp [*]; done) | ((try simp); refine (foldl_meter _ _ _ fun s a => ?_).trans ?_ <;> (repeat' split) <;> first | with_reducible rfl | (simp; done) | (simp [*]; done)); done) | (simp only [State.policyPark] <;> (repeat' split) <;> first | with_reducible rfl | (simp; done) | (simp [*]; done) | ((try simp); refine (foldl_die _ _ _ fun s a => ?_).trans ?_ <;> (repeat' split) <;> first | with_reducible rfl | (simp; done) | (simp [*]; done)); done) | (simp only [State.policyPark] <;> (repeat' split) <;> first | with_reducible rfl | (simp; done) | (simp [*]; done) | ((try simp); refine (foldl_tsu _ _ _ fun s a => ?_).trans ?_ <;> (repeat' split) <;> first | with_reducible rfl | (simp; done) | (simp [*]; done)); done)

@[simp] theorem State.policyPark_keeps2 (s : State) :
    (State.policyPark s).phi.time = s.phi.time ∧ (State.policyPark s).phi.cfg = s.phi.cfg
    ∧ (State.policyPark s).hub.storage = s.hub.storage ∧ (State.policyPark s).hub.fw.state = s.hub.fw.state
    ∧ (State.policyPark s).hub.pairs = s.hub.pairs ∧ (State.policyPark s).hub.led = s.hub.led := by
  refine ⟨?_, ?_, ?_, ?_, ?_, ?_⟩ <;> first | (simp only [State.policyPark] <;> (repeat' split) <;> first | with_reducible rfl | (simp; done) | (simp [*]; done) | ((try simp); refine (foldl_phi_time _ _ _ fun s a => ?_).trans ?_ <;> (repeat' split) <;> first | with_reducible rfl | (simp; done) | (simp [*]; done)); done) | (simp only [State.policyPark] <;> (repeat' split) <;> first | with_reducible rfl | (simp; done) | (simp [*]; done) | ((try simp); refine (foldl_phi_cfg _ _ _ fun s a => ?_).trans ?_ <;> (repeat' split) <;> first | with_reducible rfl | (simp; done) | (simp [*]; done)); done) | (simp only [State.policyPark] <;> (repeat' split) <;> first | with_reducible rfl | (simp; done) | (simp [*]; done) | ((try simp); refine (foldl_hub_storage _ _ _ fun s a => ?_).trans ?_ <;> (repeat' split) <;> first | with_reducible rfl | (simp; done) | (simp [*]; done)); done) | (simp only [State.policyPark] <;> (repeat' split) <;> first | with_reducible rfl | (simp; done) | (simp [*]; done) | ((try simp); refine (foldl_hub_fw_state _ _ _ fun s a => ?_).trans ?_ <;> (repeat' split) <;> first | with_reducible rfl | (simp; done) | (simp [*]; done)); done) | (simp only [State.policyPark] <;> (repeat' split) <;> first | with_reducible rfl | (simp; done) | (simp [*]; done) | ((try simp); refine (foldl_hub_pairs _ _ _ fun s a => ?_).trans ?_ <;> (repeat' split) <;> first | with_reducible rfl | (simp; done) | (simp [*]; done)); done) | (simp only [State.policyPark] <;> (repeat' split) <;> first | with_reducible rfl | (simp; done) | (simp [*]; done) | ((try simp); refine (foldl_hub_led _ _ _ fun s a => ?_).trans ?_ <;> (repeat' split) <;> first | with_reducible rfl | (simp; done) | (simp [*]; done)); done)

@[simp] theorem execDriverGone_keeps_tsu (s : State) :
    gives (execDriverGone .tsu s) fun t => t.phi = s.phi ∧ t.hub = s.hub := by
  refine gives_and ?_ ?_ <;> first | (simp [execDriverGone]; done)

@[simp] theorem State.endLapse_keeps (s : State) (p : Part) :
    (State.endLapse s p).pending = s.pending ∧ (State.endLapse s p).cyc = s.cyc ∧ (State.endLapse s p).mdl = s.mdl
    ∧ (State.endLapse s p).meter = s.meter ∧ (State.endLapse s p).die = s.die
    ∧ (State.endLapse s p).tsu.time = s.tsu.time ∧ (State.endLapse s p).tsu.rings = s.tsu.rings
    ∧ (State.endLapse s p).tsu.cfg = s.tsu.cfg ∧ (State.endLapse s p).phi.time = s.phi.time
    ∧ (State.endLapse s p).phi.cfg = s.phi.cfg ∧ (State.endLapse s p).hub.storage = s.hub.storage
    ∧ (State.endLapse s p).hub.fw.state = s.hub.fw.state ∧ (State.endLapse s p).hub.pairs = s.hub.pairs
    ∧ (State.endLapse s p).hub.led = s.hub.led := by
  refine ⟨?_, ?_, ?_, ?_, ?_, ?_, ?_, ?_, ?_, ?_, ?_, ?_, ?_, ?_⟩ <;> first | (simp [State.endLapse]; done)

@[simp] theorem State.endLapse_keeps_tsu (s : State) :
    (State.endLapse s .tsu).phi = s.phi ∧ (State.endLapse s .tsu).hub = s.hub := by
  refine ⟨?_, ?_⟩ <;> first | (simp [State.endLapse]; done)

@[simp] theorem State.endLapse_keeps_phi (s : State) :
    (State.endLapse s .phi).tsu = s.tsu := by simp [State.endLapse]

end Sys2Proof.Machine
end

