-- ==== Sys2Proof/Laws/Ledger.lean ====
section
/-!
SUPPORT. What the operations and meanings of Machine/Ledger.lean leave unchanged.
-/

namespace Sys2Proof.Machine

@[simp] theorem State.putEntry_keeps (s : State) (kind : Nat) (src : Nat) (len : Nat) (body : List Byte) :
    (State.putEntry s kind src len body).pending = s.pending ∧ (State.putEntry s kind src len body).cyc = s.cyc
    ∧ (State.putEntry s kind src len body).freeNext = s.freeNext ∧ (State.putEntry s kind src len body).mdl = s.mdl
    ∧ (State.putEntry s kind src len body).meter = s.meter ∧ (State.putEntry s kind src len body).die = s.die
    ∧ (State.putEntry s kind src len body).tsu = s.tsu ∧ (State.putEntry s kind src len body).phi = s.phi
    ∧ (State.putEntry s kind src len body).hub.storage = s.hub.storage
    ∧ (State.putEntry s kind src len body).hub.fw.state = s.hub.fw.state
    ∧ (State.putEntry s kind src len body).hub.pairs = s.hub.pairs
    ∧ (State.putEntry s kind src len body).hub.seqs = s.hub.seqs := by
  refine ⟨?_, ?_, ?_, ?_, ?_, ?_, ?_, ?_, ?_, ?_, ?_, ?_⟩ <;> first | (simp [State.putEntry]; done)

@[simp] theorem State.writeEntry_keeps (s : State) (kind : Nat) (src : Nat) (body : List Byte) :
    (State.writeEntry s kind src body).pending = s.pending ∧ (State.writeEntry s kind src body).cyc = s.cyc
    ∧ (State.writeEntry s kind src body).freeNext = s.freeNext ∧ (State.writeEntry s kind src body).mdl = s.mdl
    ∧ (State.writeEntry s kind src body).meter = s.meter ∧ (State.writeEntry s kind src body).die = s.die
    ∧ (State.writeEntry s kind src body).tsu = s.tsu ∧ (State.writeEntry s kind src body).phi = s.phi
    ∧ (State.writeEntry s kind src body).hub.storage = s.hub.storage
    ∧ (State.writeEntry s kind src body).hub.fw.state = s.hub.fw.state
    ∧ (State.writeEntry s kind src body).hub.pairs = s.hub.pairs
    ∧ (State.writeEntry s kind src body).hub.seqs = s.hub.seqs := by
  refine ⟨?_, ?_, ?_, ?_, ?_, ?_, ?_, ?_, ?_, ?_, ?_, ?_⟩ <;> first | (simp [State.writeEntry]; done)

@[simp] theorem State.flushLedger_keeps (s : State) (x1 : List (Nat × List Byte)) :
    (State.flushLedger s x1).pending = s.pending ∧ (State.flushLedger s x1).cyc = s.cyc
    ∧ (State.flushLedger s x1).freeNext = s.freeNext ∧ (State.flushLedger s x1).mdl = s.mdl
    ∧ (State.flushLedger s x1).meter = s.meter ∧ (State.flushLedger s x1).die = s.die := by
  refine ⟨?_, ?_, ?_, ?_, ?_, ?_⟩ <;> first | (induction x1 generalizing s <;> simp_all [State.flushLedger]; done)

@[simp] theorem State.flushLedger_keeps2 (s : State) (x1 : List (Nat × List Byte)) :
    (State.flushLedger s x1).tsu = s.tsu ∧ (State.flushLedger s x1).phi = s.phi
    ∧ (State.flushLedger s x1).hub.storage = s.hub.storage ∧ (State.flushLedger s x1).hub.fw.state = s.hub.fw.state
    ∧ (State.flushLedger s x1).hub.pairs = s.hub.pairs ∧ (State.flushLedger s x1).hub.seqs = s.hub.seqs := by
  refine ⟨?_, ?_, ?_, ?_, ?_, ?_⟩ <;> first | (induction x1 generalizing s <;> simp_all [State.flushLedger]; done)

@[simp] theorem State.holdEntry_keeps (s : State) (kind : Nat) (body : List Byte) :
    (State.holdEntry s kind body).pending = s.pending ∧ (State.holdEntry s kind body).cyc = s.cyc
    ∧ (State.holdEntry s kind body).freeNext = s.freeNext ∧ (State.holdEntry s kind body).mdl = s.mdl
    ∧ (State.holdEntry s kind body).meter = s.meter ∧ (State.holdEntry s kind body).die = s.die
    ∧ (State.holdEntry s kind body).tsu = s.tsu ∧ (State.holdEntry s kind body).phi = s.phi
    ∧ (State.holdEntry s kind body).hub.storage = s.hub.storage
    ∧ (State.holdEntry s kind body).hub.fw.state = s.hub.fw.state
    ∧ (State.holdEntry s kind body).hub.pairs = s.hub.pairs ∧ (State.holdEntry s kind body).hub.seqs = s.hub.seqs := by
  refine ⟨?_, ?_, ?_, ?_, ?_, ?_, ?_, ?_, ?_, ?_, ?_, ?_⟩ <;> first | (simp [State.holdEntry]; done)

@[simp] theorem State.ledgerDoorbell_keeps (s : State) (cons : W64) :
    (State.ledgerDoorbell s cons).pending = s.pending ∧ (State.ledgerDoorbell s cons).cyc = s.cyc
    ∧ (State.ledgerDoorbell s cons).freeNext = s.freeNext ∧ (State.ledgerDoorbell s cons).mdl = s.mdl
    ∧ (State.ledgerDoorbell s cons).meter = s.meter ∧ (State.ledgerDoorbell s cons).die = s.die
    ∧ (State.ledgerDoorbell s cons).tsu = s.tsu ∧ (State.ledgerDoorbell s cons).phi = s.phi
    ∧ (State.ledgerDoorbell s cons).hub.storage = s.hub.storage
    ∧ (State.ledgerDoorbell s cons).hub.fw.state = s.hub.fw.state
    ∧ (State.ledgerDoorbell s cons).hub.pairs = s.hub.pairs ∧ (State.ledgerDoorbell s cons).hub.seqs = s.hub.seqs := by
  refine ⟨?_, ?_, ?_, ?_, ?_, ?_, ?_, ?_, ?_, ?_, ?_, ?_⟩ <;> first | (simp [State.ledgerDoorbell]; done)

@[simp] theorem execLedgerDoorbell_keeps (cons : W64) (s : State) :
    gives (execLedgerDoorbell cons s) fun t => t.pending = s.pending ∧ t.cyc = s.cyc ∧ t.freeNext = s.freeNext
    ∧ t.mdl = s.mdl ∧ t.meter = s.meter ∧ t.die = s.die ∧ t.tsu = s.tsu ∧ t.phi = s.phi
    ∧ t.hub.storage = s.hub.storage ∧ t.hub.fw.state = s.hub.fw.state ∧ t.hub.pairs = s.hub.pairs
    ∧ t.hub.seqs = s.hub.seqs := by
  refine gives_and ?_ (gives_and ?_ (gives_and ?_ (gives_and ?_ (gives_and ?_ (gives_and ?_ (gives_and ?_ (gives_and ?_ (gives_and ?_ (gives_and ?_ (gives_and ?_ ?_)))))))))) <;> first | (simp [execLedgerDoorbell]; done)

@[simp] theorem execPollRound_keeps (doorbells : List (Nat × W32 × W32)) (cons : W64) (hb : W64) (overrun : Bool) (s : State) :
    gives (execPollRound doorbells cons hb overrun s) fun t => t.pending = s.pending := by simp [execPollRound]

@[simp] theorem execPollRound_keeps2 (doorbells : List (Nat × W32 × W32)) (cons : W64) (hb : W64) (overrun : Bool) (s : State) :
    gives (execPollRound doorbells cons hb overrun s) fun t => t.cyc = s.cyc := by simp [execPollRound]

@[simp] theorem execPollRound_keeps3 (doorbells : List (Nat × W32 × W32)) (cons : W64) (hb : W64) (overrun : Bool) (s : State) :
    gives (execPollRound doorbells cons hb overrun s) fun t => t.freeNext = s.freeNext := by simp [execPollRound]

@[simp] theorem execPollRound_keeps4 (doorbells : List (Nat × W32 × W32)) (cons : W64) (hb : W64) (overrun : Bool) (s : State) :
    gives (execPollRound doorbells cons hb overrun s) fun t => t.mdl = s.mdl := by simp [execPollRound]

@[simp] theorem execPollRound_keeps5 (doorbells : List (Nat × W32 × W32)) (cons : W64) (hb : W64) (overrun : Bool) (s : State) :
    gives (execPollRound doorbells cons hb overrun s) fun t => t.meter = s.meter := by simp [execPollRound]

@[simp] theorem execPollRound_keeps6 (doorbells : List (Nat × W32 × W32)) (cons : W64) (hb : W64) (overrun : Bool) (s : State) :
    gives (execPollRound doorbells cons hb overrun s) fun t => t.die = s.die := by simp [execPollRound]

@[simp] theorem execPollRound_keeps7 (doorbells : List (Nat × W32 × W32)) (cons : W64) (hb : W64) (overrun : Bool) (s : State) :
    gives (execPollRound doorbells cons hb overrun s) fun t => t.tsu = s.tsu := by simp [execPollRound]

@[simp] theorem execPollRound_keeps8 (doorbells : List (Nat × W32 × W32)) (cons : W64) (hb : W64) (overrun : Bool) (s : State) :
    gives (execPollRound doorbells cons hb overrun s) fun t => t.phi.time = s.phi.time := by simp [execPollRound]

@[simp] theorem execPollRound_keeps9 (doorbells : List (Nat × W32 × W32)) (cons : W64) (hb : W64) (overrun : Bool) (s : State) :
    gives (execPollRound doorbells cons hb overrun s) fun t => t.phi.cfg = s.phi.cfg := by simp [execPollRound]

@[simp] theorem execPollRound_keeps10 (doorbells : List (Nat × W32 × W32)) (cons : W64) (hb : W64) (overrun : Bool) (s : State) :
    gives (execPollRound doorbells cons hb overrun s) fun t => t.hub.storage = s.hub.storage := by simp [execPollRound]

@[simp] theorem execPollRound_keeps11 (doorbells : List (Nat × W32 × W32)) (cons : W64) (hb : W64) (overrun : Bool) (s : State) :
    gives (execPollRound doorbells cons hb overrun s) fun t => t.hub.fw.state = s.hub.fw.state := by simp [execPollRound]

@[simp] theorem execPollRound_keeps12 (doorbells : List (Nat × W32 × W32)) (cons : W64) (hb : W64) (overrun : Bool) (s : State) :
    gives (execPollRound doorbells cons hb overrun s) fun t => t.hub.pairs = s.hub.pairs := by simp [execPollRound]

@[simp] theorem execPollRound_keeps13 (doorbells : List (Nat × W32 × W32)) (cons : W64) (hb : W64) (overrun : Bool) (s : State) :
    gives (execPollRound doorbells cons hb overrun s) fun t => t.hub.seqs = s.hub.seqs := by simp [execPollRound]

@[simp] theorem State.recordAck_keeps (s : State) (port : Nat) (st : Status) (rseq : W64) :
    (State.recordAck s port st rseq).pending = s.pending ∧ (State.recordAck s port st rseq).cyc = s.cyc
    ∧ (State.recordAck s port st rseq).freeNext = s.freeNext ∧ (State.recordAck s port st rseq).out = s.out
    ∧ (State.recordAck s port st rseq).mdl = s.mdl ∧ (State.recordAck s port st rseq).meter = s.meter := by
  refine ⟨?_, ?_, ?_, ?_, ?_, ?_⟩ <;> first | (induction port generalizing s <;> simp_all [State.recordAck]; done)

@[simp] theorem State.recordAck_keeps2 (s : State) (port : Nat) (st : Status) (rseq : W64) :
    (State.recordAck s port st rseq).die = s.die ∧ (State.recordAck s port st rseq).hub = s.hub
    ∧ (State.recordAck s port st rseq).tsu = s.tsu ∧ (State.recordAck s port st rseq).phi.time = s.phi.time
    ∧ (State.recordAck s port st rseq).phi.rings = s.phi.rings
    ∧ (State.recordAck s port st rseq).phi.cfg = s.phi.cfg := by
  refine ⟨?_, ?_, ?_, ?_, ?_, ?_⟩ <;> first | (induction port generalizing s <;> simp_all [State.recordAck]; done)

@[simp] theorem State.ackFull_keeps (s : State) (port : Nat) :
    (State.ackFull s port).pending = s.pending ∧ (State.ackFull s port).cyc = s.cyc ∧ (State.ackFull s port).out = s.out
    ∧ (State.ackFull s port).mdl = s.mdl ∧ (State.ackFull s port).meter = s.meter
    ∧ (State.ackFull s port).die = s.die ∧ (State.ackFull s port).hub = s.hub ∧ (State.ackFull s port).tsu = s.tsu
    ∧ (State.ackFull s port).phi.time = s.phi.time ∧ (State.ackFull s port).phi.rings = s.phi.rings
    ∧ (State.ackFull s port).phi.cfg = s.phi.cfg := by
  refine ⟨?_, ?_, ?_, ?_, ?_, ?_, ?_, ?_, ?_, ?_, ?_⟩ <;> first | (simp [State.ackFull]; done)

@[simp] theorem State.setAnchor_keeps (s : State) (a : Anchor) :
    (State.setAnchor s a).pending = s.pending ∧ (State.setAnchor s a).cyc = s.cyc
    ∧ (State.setAnchor s a).freeNext = s.freeNext ∧ (State.setAnchor s a).out = s.out
    ∧ (State.setAnchor s a).mdl = s.mdl ∧ (State.setAnchor s a).meter = s.meter ∧ (State.setAnchor s a).die = s.die
    ∧ (State.setAnchor s a).tsu = s.tsu ∧ (State.setAnchor s a).phi = s.phi
    ∧ (State.setAnchor s a).hub.storage = s.hub.storage ∧ (State.setAnchor s a).hub.fw.state = s.hub.fw.state
    ∧ (State.setAnchor s a).hub.pairs = s.hub.pairs ∧ (State.setAnchor s a).hub.led = s.hub.led
    ∧ (State.setAnchor s a).hub.seqs = s.hub.seqs := by
  refine ⟨?_, ?_, ?_, ?_, ?_, ?_, ?_, ?_, ?_, ?_, ?_, ?_, ?_, ?_⟩ <;> first | (simp [State.setAnchor]; done)

@[simp] theorem State.cacheBerth_keeps (s : State) (berth : Nat) :
    (State.cacheBerth s berth).pending = s.pending ∧ (State.cacheBerth s berth).cyc = s.cyc
    ∧ (State.cacheBerth s berth).freeNext = s.freeNext ∧ (State.cacheBerth s berth).out = s.out
    ∧ (State.cacheBerth s berth).mdl = s.mdl ∧ (State.cacheBerth s berth).meter = s.meter
    ∧ (State.cacheBerth s berth).die = s.die ∧ (State.cacheBerth s berth).tsu = s.tsu
    ∧ (State.cacheBerth s berth).phi.time = s.phi.time ∧ (State.cacheBerth s berth).phi.rings = s.phi.rings
    ∧ (State.cacheBerth s berth).phi.cfg = s.phi.cfg ∧ (State.cacheBerth s berth).hub.storage = s.hub.storage
    ∧ (State.cacheBerth s berth).hub.fw.state = s.hub.fw.state ∧ (State.cacheBerth s berth).hub.pairs = s.hub.pairs
    ∧ (State.cacheBerth s berth).hub.led = s.hub.led ∧ (State.cacheBerth s berth).hub.seqs = s.hub.seqs := by
  refine ⟨?_, ?_, ?_, ?_, ?_, ?_, ?_, ?_, ?_, ?_, ?_, ?_, ?_, ?_, ?_, ?_⟩ <;> first | (simp [State.cacheBerth]; done)

@[simp] theorem State.addRow_keeps (s : State) (berth : Nat) (share : Nat) (tEnd : W64) (flags : Nat) :
    (State.addRow s berth share tEnd flags).pending = s.pending ∧ (State.addRow s berth share tEnd flags).cyc = s.cyc
    ∧ (State.addRow s berth share tEnd flags).freeNext = s.freeNext
    ∧ (State.addRow s berth share tEnd flags).out = s.out ∧ (State.addRow s berth share tEnd flags).mdl = s.mdl
    ∧ (State.addRow s berth share tEnd flags).meter = s.meter ∧ (State.addRow s berth share tEnd flags).die = s.die
    ∧ (State.addRow s berth share tEnd flags).tsu = s.tsu ∧ (State.addRow s berth share tEnd flags).phi = s.phi
    ∧ (State.addRow s berth share tEnd flags).hub.storage = s.hub.storage
    ∧ (State.addRow s berth share tEnd flags).hub.fw.state = s.hub.fw.state
    ∧ (State.addRow s berth share tEnd flags).hub.pairs = s.hub.pairs
    ∧ (State.addRow s berth share tEnd flags).hub.led = s.hub.led
    ∧ (State.addRow s berth share tEnd flags).hub.seqs = s.hub.seqs := by
  refine ⟨?_, ?_, ?_, ?_, ?_, ?_, ?_, ?_, ?_, ?_, ?_, ?_, ?_, ?_⟩ <;> first | (simp [State.addRow]; done)

@[simp] theorem State.addRecords_keeps (s : State) (data : List Byte) :
    (State.addRecords s data).pending = s.pending ∧ (State.addRecords s data).cyc = s.cyc
    ∧ (State.addRecords s data).freeNext = s.freeNext ∧ (State.addRecords s data).out = s.out
    ∧ (State.addRecords s data).mdl = s.mdl ∧ (State.addRecords s data).meter = s.meter
    ∧ (State.addRecords s data).die = s.die ∧ (State.addRecords s data).tsu = s.tsu
    ∧ (State.addRecords s data).phi.time = s.phi.time ∧ (State.addRecords s data).phi.rings = s.phi.rings
    ∧ (State.addRecords s data).phi.cfg = s.phi.cfg ∧ (State.addRecords s data).hub.storage = s.hub.storage
    ∧ (State.addRecords s data).hub.fw.state = s.hub.fw.state ∧ (State.addRecords s data).hub.pairs = s.hub.pairs
    ∧ (State.addRecords s data).hub.led = s.hub.led ∧ (State.addRecords s data).hub.seqs = s.hub.seqs := by
  refine ⟨?_, ?_, ?_, ?_, ?_, ?_, ?_, ?_, ?_, ?_, ?_, ?_, ?_, ?_, ?_, ?_⟩ <;> first | (simp [State.addRecords]; done)

@[simp] theorem State.writeTransfer_keeps (s : State) (port : Nat) (a : Anchor) (e : Nat) (data : List Byte) :
    (State.writeTransfer s port a e data).pending = s.pending ∧ (State.writeTransfer s port a e data).cyc = s.cyc
    ∧ (State.writeTransfer s port a e data).mdl = s.mdl ∧ (State.writeTransfer s port a e data).meter = s.meter
    ∧ (State.writeTransfer s port a e data).die = s.die ∧ (State.writeTransfer s port a e data).tsu = s.tsu
    ∧ (State.writeTransfer s port a e data).phi.time = s.phi.time
    ∧ (State.writeTransfer s port a e data).phi.rings = s.phi.rings
    ∧ (State.writeTransfer s port a e data).phi.cfg = s.phi.cfg
    ∧ (State.writeTransfer s port a e data).hub.storage = s.hub.storage
    ∧ (State.writeTransfer s port a e data).hub.fw.state = s.hub.fw.state
    ∧ (State.writeTransfer s port a e data).hub.pairs = s.hub.pairs
    ∧ (State.writeTransfer s port a e data).hub.seqs = s.hub.seqs := by
  refine ⟨?_, ?_, ?_, ?_, ?_, ?_, ?_, ?_, ?_, ?_, ?_, ?_, ?_⟩ <;> first | (simp [State.writeTransfer]; done)

@[simp] theorem State.judgeTransfer_keeps (s : State) (port : Nat) (data : List Byte) :
    (State.judgeTransfer s port data).pending = s.pending ∧ (State.judgeTransfer s port data).cyc = s.cyc
    ∧ (State.judgeTransfer s port data).mdl = s.mdl ∧ (State.judgeTransfer s port data).meter = s.meter
    ∧ (State.judgeTransfer s port data).die = s.die ∧ (State.judgeTransfer s port data).tsu = s.tsu
    ∧ (State.judgeTransfer s port data).phi.time = s.phi.time
    ∧ (State.judgeTransfer s port data).phi.rings = s.phi.rings
    ∧ (State.judgeTransfer s port data).phi.cfg = s.phi.cfg
    ∧ (State.judgeTransfer s port data).hub.storage = s.hub.storage
    ∧ (State.judgeTransfer s port data).hub.fw.state = s.hub.fw.state
    ∧ (State.judgeTransfer s port data).hub.pairs = s.hub.pairs
    ∧ (State.judgeTransfer s port data).hub.seqs = s.hub.seqs := by
  simp only [State.judgeTransfer] <;> (repeat' split) <;> first | (simp; done) | (simp [*]; done) | (refine ⟨?_, ?_, ?_, ?_, ?_, ?_, ?_, ?_, ?_, ?_, ?_, ?_, ?_⟩ <;> first | rfl | (simp; done) | (simp [*]; done))

@[simp] theorem execRecordReceive_keeps (port : Nat) (e : Env) (f : RecordPl) (s : State) :
    gives (execRecordReceive port e f s) fun t => t.pending = s.pending ∧ t.cyc = s.cyc ∧ t.mdl = s.mdl
    ∧ t.meter = s.meter ∧ t.die = s.die ∧ t.tsu = s.tsu ∧ t.phi.time = s.phi.time ∧ t.phi.rings = s.phi.rings
    ∧ t.phi.cfg = s.phi.cfg ∧ t.hub.storage = s.hub.storage ∧ t.hub.fw.state = s.hub.fw.state
    ∧ t.hub.pairs = s.hub.pairs ∧ t.hub.seqs = s.hub.seqs := by
  simp only [execRecordReceive, State.onEngine, State.onReliable_eq] <;> (repeat' split) <;> first | (simp; done) | (simp [*]; done) | (refine gives_and ?_ (gives_and ?_ (gives_and ?_ (gives_and ?_ (gives_and ?_ (gives_and ?_ (gives_and ?_ (gives_and ?_ (gives_and ?_ (gives_and ?_ (gives_and ?_ (gives_and ?_ ?_))))))))))) <;> first | rfl | (simp; done) | (simp [*]; done) | ((try simp); refine (foldl_pending _ _ _ fun s a => ?_).trans ?_ <;> (repeat' split) <;> first | with_reducible rfl | (simp; done) | (simp [*]; done)) | ((try simp); refine (foldl_cyc _ _ _ fun s a => ?_).trans ?_ <;> (repeat' split) <;> first | with_reducible rfl | (simp; done) | (simp [*]; done)) | ((try simp); refine (foldl_mdl _ _ _ fun s a => ?_).trans ?_ <;> (repeat' split) <;> first | with_reducible rfl | (simp; done) | (simp [*]; done)) | ((try simp); refine (foldl_meter _ _ _ fun s a => ?_).trans ?_ <;> (repeat' split) <;> first | with_reducible rfl | (simp; done) | (simp [*]; done)) | ((try simp); refine (foldl_die _ _ _ fun s a => ?_).trans ?_ <;> (repeat' split) <;> first | with_reducible rfl | (simp; done) | (simp [*]; done)) | ((try simp); refine (foldl_tsu _ _ _ fun s a => ?_).trans ?_ <;> (repeat' split) <;> first | with_reducible rfl | (simp; done) | (simp [*]; done)) | ((try simp); refine (foldl_phi_time _ _ _ fun s a => ?_).trans ?_ <;> (repeat' split) <;> first | with_reducible rfl | (simp; done) | (simp [*]; done)) | ((try simp); refine (foldl_phi_rings _ _ _ fun s a => ?_).trans ?_ <;> (repeat' split) <;> first | with_reducible rfl | (simp; done) | (simp [*]; done)) | ((try simp); refine (foldl_phi_cfg _ _ _ fun s a => ?_).trans ?_ <;> (repeat' split) <;> first | with_reducible rfl | (simp; done) | (simp [*]; done)) | ((try simp); refine (foldl_hub_storage _ _ _ fun s a => ?_).trans ?_ <;> (repeat' split) <;> first | with_reducible rfl | (simp; done) | (simp [*]; done)) | ((try simp); refine (foldl_hub_fw_state _ _ _ fun s a => ?_).trans ?_ <;> (repeat' split) <;> first | with_reducible rfl | (simp; done) | (simp [*]; done)) | ((try simp); refine (foldl_hub_pairs _ _ _ fun s a => ?_).trans ?_ <;> (repeat' split) <;> first | with_reducible rfl | (simp; done) | (simp [*]; done)) | ((try simp); refine (foldl_hub_seqs _ _ _ fun s a => ?_).trans ?_ <;> (repeat' split) <;> first | with_reducible rfl | (simp; done) | (simp [*]; done)))

@[simp] theorem execLedgerReadbackDone_keeps (s : State) :
    gives (execLedgerReadbackDone s) fun t => t.pending = s.pending ∧ t.cyc = s.cyc ∧ t.freeNext = s.freeNext
    ∧ t.out = s.out ∧ t.mdl = s.mdl ∧ t.meter = s.meter ∧ t.die = s.die ∧ t.tsu = s.tsu ∧ t.phi.time = s.phi.time
    ∧ t.phi.rings = s.phi.rings ∧ t.phi.cfg = s.phi.cfg ∧ t.hub.storage = s.hub.storage
    ∧ t.hub.fw.state = s.hub.fw.state ∧ t.hub.pairs = s.hub.pairs ∧ t.hub.seqs = s.hub.seqs := by
  simp only [execLedgerReadbackDone] <;> (repeat' split) <;> first | (simp; done) | (simp [*]; done) | (refine gives_and ?_ (gives_and ?_ (gives_and ?_ (gives_and ?_ (gives_and ?_ (gives_and ?_ (gives_and ?_ (gives_and ?_ (gives_and ?_ (gives_and ?_ (gives_and ?_ (gives_and ?_ (gives_and ?_ (gives_and ?_ ?_))))))))))))) <;> first | rfl | (simp; done) | (simp [*]; done))

@[simp] theorem execAnchorExpiry_keeps (meter : W64) (s : State) :
    gives (execAnchorExpiry meter s) fun t => t.pending = s.pending ∧ t.cyc = s.cyc ∧ t.freeNext = s.freeNext
    ∧ t.out = s.out ∧ t.mdl = s.mdl ∧ t.meter = s.meter ∧ t.die = s.die ∧ t.tsu = s.tsu ∧ t.phi = s.phi
    ∧ t.hub.storage = s.hub.storage ∧ t.hub.fw.state = s.hub.fw.state ∧ t.hub.pairs = s.hub.pairs
    ∧ t.hub.led = s.hub.led ∧ t.hub.seqs = s.hub.seqs := by
  simp only [execAnchorExpiry] <;> (repeat' split) <;> first | (simp; done) | (simp [*]; done) | (refine gives_and ?_ (gives_and ?_ (gives_and ?_ (gives_and ?_ (gives_and ?_ (gives_and ?_ (gives_and ?_ (gives_and ?_ (gives_and ?_ (gives_and ?_ (gives_and ?_ (gives_and ?_ (gives_and ?_ ?_)))))))))))) <;> first | rfl | (simp; done) | (simp [*]; done))

@[simp] theorem State.closePeriod_keeps (s : State) (end_ : W64) (mark : Option Nat) :
    (State.closePeriod s end_ mark).pending = s.pending ∧ (State.closePeriod s end_ mark).cyc = s.cyc
    ∧ (State.closePeriod s end_ mark).freeNext = s.freeNext ∧ (State.closePeriod s end_ mark).out = s.out
    ∧ (State.closePeriod s end_ mark).mdl = s.mdl ∧ (State.closePeriod s end_ mark).meter = s.meter
    ∧ (State.closePeriod s end_ mark).die = s.die ∧ (State.closePeriod s end_ mark).tsu = s.tsu
    ∧ (State.closePeriod s end_ mark).phi = s.phi ∧ (State.closePeriod s end_ mark).hub.storage = s.hub.storage
    ∧ (State.closePeriod s end_ mark).hub.fw.state = s.hub.fw.state
    ∧ (State.closePeriod s end_ mark).hub.pairs = s.hub.pairs ∧ (State.closePeriod s end_ mark).hub.led = s.hub.led
    ∧ (State.closePeriod s end_ mark).hub.seqs = s.hub.seqs := by
  refine ⟨?_, ?_, ?_, ?_, ?_, ?_, ?_, ?_, ?_, ?_, ?_, ?_, ?_, ?_⟩ <;> first | (simp [State.closePeriod]; done)

@[simp] theorem execTotalsPeriodClose_keeps (s : State) :
    gives (execTotalsPeriodClose s) fun t => t.pending = s.pending ∧ t.cyc = s.cyc ∧ t.freeNext = s.freeNext
    ∧ t.mdl = s.mdl ∧ t.meter = s.meter ∧ t.die = s.die ∧ t.tsu = s.tsu ∧ t.phi = s.phi
    ∧ t.hub.storage = s.hub.storage ∧ t.hub.fw.state = s.hub.fw.state ∧ t.hub.pairs = s.hub.pairs
    ∧ t.hub.seqs = s.hub.seqs := by
  simp only [execTotalsPeriodClose] <;> (repeat' split) <;> first | (simp; done) | (simp [*]; done) | (refine gives_and ?_ (gives_and ?_ (gives_and ?_ (gives_and ?_ (gives_and ?_ (gives_and ?_ (gives_and ?_ (gives_and ?_ (gives_and ?_ (gives_and ?_ (gives_and ?_ ?_)))))))))) <;> first | rfl | (simp; done) | (simp [*]; done))

@[simp] theorem State.emitPeriod_keeps (s : State) (p : Period) :
    (State.emitPeriod s p).pending = s.pending ∧ (State.emitPeriod s p).cyc = s.cyc
    ∧ (State.emitPeriod s p).freeNext = s.freeNext ∧ (State.emitPeriod s p).mdl = s.mdl
    ∧ (State.emitPeriod s p).meter = s.meter ∧ (State.emitPeriod s p).die = s.die
    ∧ (State.emitPeriod s p).tsu = s.tsu ∧ (State.emitPeriod s p).phi = s.phi
    ∧ (State.emitPeriod s p).hub.storage = s.hub.storage ∧ (State.emitPeriod s p).hub.fw.state = s.hub.fw.state
    ∧ (State.emitPeriod s p).hub.pairs = s.hub.pairs ∧ (State.emitPeriod s p).hub.seqs = s.hub.seqs := by
  refine ⟨?_, ?_, ?_, ?_, ?_, ?_, ?_, ?_, ?_, ?_, ?_, ?_⟩ <;> first | (simp [State.emitPeriod]; done)

@[simp] theorem execTotalsEmit_keeps (s : State) :
    gives (execTotalsEmit s) fun t => t.pending = s.pending ∧ t.cyc = s.cyc ∧ t.freeNext = s.freeNext ∧ t.mdl = s.mdl
    ∧ t.meter = s.meter ∧ t.die = s.die ∧ t.tsu = s.tsu ∧ t.phi = s.phi ∧ t.hub.storage = s.hub.storage
    ∧ t.hub.fw.state = s.hub.fw.state ∧ t.hub.pairs = s.hub.pairs ∧ t.hub.seqs = s.hub.seqs := by
  simp only [execTotalsEmit] <;> (repeat' split) <;> first | (simp; done) | (simp [*]; done) | (refine gives_and ?_ (gives_and ?_ (gives_and ?_ (gives_and ?_ (gives_and ?_ (gives_and ?_ (gives_and ?_ (gives_and ?_ (gives_and ?_ (gives_and ?_ (gives_and ?_ ?_)))))))))) <;> first | rfl | (simp; done) | (simp [*]; done))

@[simp] theorem execFunctionLevelReset_keeps (s : State) :
    gives (execFunctionLevelReset s) fun t => t.pending = s.pending ∧ t.cyc = s.cyc ∧ t.freeNext = s.freeNext
    ∧ t.out = s.out ∧ t.mdl = s.mdl ∧ t.meter = s.meter ∧ t.die = s.die ∧ t.tsu = s.tsu := by
  refine gives_and ?_ (gives_and ?_ (gives_and ?_ (gives_and ?_ (gives_and ?_ (gives_and ?_ (gives_and ?_ ?_)))))) <;> first | (simp [execFunctionLevelReset]; done)

end Sys2Proof.Machine
end

