-- ==== Sys2Proof/Laws/Memory.lean ====
section
/-!
SUPPORT. What the operations and meanings of Machine/Memory.lean leave unchanged.
-/

namespace Sys2Proof.Machine

@[simp] theorem State.updPair_keeps (s : State) (i : Nat) (f : MemPair → MemPair) :
    (State.updPair s i f).pending = s.pending ∧ (State.updPair s i f).cyc = s.cyc
    ∧ (State.updPair s i f).freeNext = s.freeNext ∧ (State.updPair s i f).out = s.out
    ∧ (State.updPair s i f).mdl = s.mdl ∧ (State.updPair s i f).meter = s.meter ∧ (State.updPair s i f).die = s.die
    ∧ (State.updPair s i f).tsu = s.tsu ∧ (State.updPair s i f).phi = s.phi
    ∧ (State.updPair s i f).hub.storage = s.hub.storage ∧ (State.updPair s i f).hub.fw.state = s.hub.fw.state
    ∧ (State.updPair s i f).hub.led = s.hub.led ∧ (State.updPair s i f).hub.seqs = s.hub.seqs := by
  refine ⟨?_, ?_, ?_, ?_, ?_, ?_, ?_, ?_, ?_, ?_, ?_, ?_, ?_⟩ <;> first | (simp [State.updPair]; done)

@[simp] theorem State.bringSpare_keeps (s : State) (i : Nat) :
    (State.bringSpare s i).pending = s.pending ∧ (State.bringSpare s i).cyc = s.cyc
    ∧ (State.bringSpare s i).freeNext = s.freeNext ∧ (State.bringSpare s i).out = s.out
    ∧ (State.bringSpare s i).mdl = s.mdl ∧ (State.bringSpare s i).meter = s.meter
    ∧ (State.bringSpare s i).die = s.die ∧ (State.bringSpare s i).tsu = s.tsu
    ∧ (State.bringSpare s i).phi.time = s.phi.time ∧ (State.bringSpare s i).phi.rings = s.phi.rings
    ∧ (State.bringSpare s i).phi.cfg = s.phi.cfg ∧ (State.bringSpare s i).hub.storage = s.hub.storage
    ∧ (State.bringSpare s i).hub.fw.state = s.hub.fw.state ∧ (State.bringSpare s i).hub.led = s.hub.led
    ∧ (State.bringSpare s i).hub.seqs = s.hub.seqs := by
  simp only [State.bringSpare] <;> (repeat' split) <;> first | (simp; done) | (simp [*]; done) | (refine ⟨?_, ?_, ?_, ?_, ?_, ?_, ?_, ?_, ?_, ?_, ?_, ?_, ?_, ?_, ?_⟩ <;> first | rfl | (simp; done) | (simp [*]; done))

@[simp] theorem State.retryAll_keeps (s : State) (p : Part) (cause : W16) :
    (State.retryAll s p cause).pending = s.pending ∧ (State.retryAll s p cause).cyc = s.cyc
    ∧ (State.retryAll s p cause).mdl = s.mdl ∧ (State.retryAll s p cause).meter = s.meter
    ∧ (State.retryAll s p cause).die = s.die ∧ (State.retryAll s p cause).tsu.time = s.tsu.time
    ∧ (State.retryAll s p cause).tsu.cfg = s.tsu.cfg ∧ (State.retryAll s p cause).phi.time = s.phi.time
    ∧ (State.retryAll s p cause).phi.cfg = s.phi.cfg ∧ (State.retryAll s p cause).hub.storage = s.hub.storage
    ∧ (State.retryAll s p cause).hub.fw.state = s.hub.fw.state ∧ (State.retryAll s p cause).hub.pairs = s.hub.pairs
    ∧ (State.retryAll s p cause).hub.led = s.hub.led ∧ (State.retryAll s p cause).hub.seqs = s.hub.seqs := by
  refine ⟨?_, ?_, ?_, ?_, ?_, ?_, ?_, ?_, ?_, ?_, ?_, ?_, ?_, ?_⟩ <;> first | (simp [State.retryAll]; done)

@[simp] theorem State.retryAll_keeps_tsu (s : State) (cause : W16) :
    (State.retryAll s .tsu cause).phi = s.phi := by simp [State.retryAll]

@[simp] theorem State.retryAll_keeps_phi (s : State) (cause : W16) :
    (State.retryAll s .phi cause).tsu = s.tsu := by simp [State.retryAll]

@[simp] theorem State.dropDeadPatches_keeps (s : State) :
    (State.dropDeadPatches s).pending = s.pending ∧ (State.dropDeadPatches s).cyc = s.cyc
    ∧ (State.dropDeadPatches s).freeNext = s.freeNext ∧ (State.dropDeadPatches s).out = s.out
    ∧ (State.dropDeadPatches s).mdl = s.mdl ∧ (State.dropDeadPatches s).meter = s.meter
    ∧ (State.dropDeadPatches s).die = s.die ∧ (State.dropDeadPatches s).tsu = s.tsu
    ∧ (State.dropDeadPatches s).phi = s.phi ∧ (State.dropDeadPatches s).hub.storage = s.hub.storage
    ∧ (State.dropDeadPatches s).hub.fw.state = s.hub.fw.state ∧ (State.dropDeadPatches s).hub.pairs = s.hub.pairs
    ∧ (State.dropDeadPatches s).hub.led = s.hub.led := by
  refine ⟨?_, ?_, ?_, ?_, ?_, ?_, ?_, ?_, ?_, ?_, ?_, ?_, ?_⟩ <;> first | (simp [State.dropDeadPatches]; done)

@[simp] theorem State.fwLost_keeps (s : State) :
    (State.fwLost s).pending = s.pending ∧ (State.fwLost s).cyc = s.cyc ∧ (State.fwLost s).mdl = s.mdl
    ∧ (State.fwLost s).meter = s.meter ∧ (State.fwLost s).die = s.die ∧ (State.fwLost s).tsu = s.tsu
    ∧ (State.fwLost s).phi.time = s.phi.time ∧ (State.fwLost s).phi.cfg = s.phi.cfg
    ∧ (State.fwLost s).hub.storage = s.hub.storage ∧ (State.fwLost s).hub.pairs = s.hub.pairs
    ∧ (State.fwLost s).hub.led = s.hub.led := by
  refine ⟨?_, ?_, ?_, ?_, ?_, ?_, ?_, ?_, ?_, ?_, ?_⟩ <;> first | (simp [State.fwLost]; done)

@[simp] theorem State.loseTables_keeps (s : State) (hit : List Nat) :
    (State.loseTables s hit).pending = s.pending ∧ (State.loseTables s hit).cyc = s.cyc
    ∧ (State.loseTables s hit).mdl = s.mdl ∧ (State.loseTables s hit).meter = s.meter
    ∧ (State.loseTables s hit).die = s.die ∧ (State.loseTables s hit).tsu = s.tsu
    ∧ (State.loseTables s hit).phi.time = s.phi.time ∧ (State.loseTables s hit).phi.cfg = s.phi.cfg
    ∧ (State.loseTables s hit).hub.storage = s.hub.storage ∧ (State.loseTables s hit).hub.fw.state = s.hub.fw.state
    ∧ (State.loseTables s hit).hub.pairs = s.hub.pairs ∧ (State.loseTables s hit).hub.led = s.hub.led := by
  refine ⟨?_, ?_, ?_, ?_, ?_, ?_, ?_, ?_, ?_, ?_, ?_, ?_⟩ <;> first | (simp [State.loseTables]; done)

@[simp] theorem State.dropStaging_keeps (s : State) (r : Nat) :
    (State.dropStaging s r).pending = s.pending ∧ (State.dropStaging s r).cyc = s.cyc
    ∧ (State.dropStaging s r).freeNext = s.freeNext ∧ (State.dropStaging s r).out = s.out
    ∧ (State.dropStaging s r).mdl = s.mdl ∧ (State.dropStaging s r).meter = s.meter
    ∧ (State.dropStaging s r).die = s.die ∧ (State.dropStaging s r).tsu = s.tsu
    ∧ (State.dropStaging s r).phi = s.phi ∧ (State.dropStaging s r).hub.storage = s.hub.storage
    ∧ (State.dropStaging s r).hub.fw.state = s.hub.fw.state ∧ (State.dropStaging s r).hub.pairs = s.hub.pairs
    ∧ (State.dropStaging s r).hub.seqs = s.hub.seqs := by
  refine ⟨?_, ?_, ?_, ?_, ?_, ?_, ?_, ?_, ?_, ?_, ?_, ?_, ?_⟩ <;> first | (simp [State.dropStaging]; done)

@[simp] theorem State.reserveRebuild_keeps (s : State) (pair : Nat) :
    (State.reserveRebuild s pair).pending = s.pending ∧ (State.reserveRebuild s pair).cyc = s.cyc
    ∧ (State.reserveRebuild s pair).freeNext = s.freeNext ∧ (State.reserveRebuild s pair).out = s.out
    ∧ (State.reserveRebuild s pair).mdl = s.mdl ∧ (State.reserveRebuild s pair).meter = s.meter
    ∧ (State.reserveRebuild s pair).die = s.die ∧ (State.reserveRebuild s pair).tsu = s.tsu
    ∧ (State.reserveRebuild s pair).phi.time = s.phi.time ∧ (State.reserveRebuild s pair).phi.rings = s.phi.rings
    ∧ (State.reserveRebuild s pair).phi.cfg = s.phi.cfg ∧ (State.reserveRebuild s pair).hub.storage = s.hub.storage
    ∧ (State.reserveRebuild s pair).hub.fw.state = s.hub.fw.state
    ∧ (State.reserveRebuild s pair).hub.led = s.hub.led ∧ (State.reserveRebuild s pair).hub.seqs = s.hub.seqs := by
  simp only [State.reserveRebuild] <;> (repeat' split) <;> first | (simp; done) | (simp [*]; done) | (refine ⟨?_, ?_, ?_, ?_, ?_, ?_, ?_, ?_, ?_, ?_, ?_, ?_, ?_, ?_, ?_⟩ <;> first | rfl | (simp; done) | (simp [*]; done))

@[simp] theorem State.expelPackage_keeps (s : State) (pkg : Nat) :
    (State.expelPackage s pkg).pending = s.pending ∧ (State.expelPackage s pkg).cyc = s.cyc
    ∧ (State.expelPackage s pkg).freeNext = s.freeNext ∧ (State.expelPackage s pkg).out = s.out
    ∧ (State.expelPackage s pkg).mdl = s.mdl ∧ (State.expelPackage s pkg).meter = s.meter
    ∧ (State.expelPackage s pkg).die = s.die ∧ (State.expelPackage s pkg).tsu = s.tsu
    ∧ (State.expelPackage s pkg).phi.time = s.phi.time ∧ (State.expelPackage s pkg).phi.rings = s.phi.rings
    ∧ (State.expelPackage s pkg).phi.cfg = s.phi.cfg ∧ (State.expelPackage s pkg).hub.storage = s.hub.storage
    ∧ (State.expelPackage s pkg).hub.fw.state = s.hub.fw.state ∧ (State.expelPackage s pkg).hub.led = s.hub.led
    ∧ (State.expelPackage s pkg).hub.seqs = s.hub.seqs := by
  simp only [State.expelPackage] <;> (repeat' split) <;> first | (simp; done) | (simp [*]; done) | (refine ⟨?_, ?_, ?_, ?_, ?_, ?_, ?_, ?_, ?_, ?_, ?_, ?_, ?_, ?_, ?_⟩ <;> first | rfl | (simp; done) | (simp [*]; done))

@[simp] theorem execPairRebuildComplete_keeps (pair : Nat) (s : State) :
    gives (execPairRebuildComplete pair s) fun t => t.pending = s.pending ∧ t.cyc = s.cyc ∧ t.freeNext = s.freeNext
    ∧ t.out = s.out ∧ t.mdl = s.mdl ∧ t.meter = s.meter ∧ t.die = s.die ∧ t.tsu = s.tsu ∧ t.phi.time = s.phi.time
    ∧ t.phi.rings = s.phi.rings ∧ t.phi.cfg = s.phi.cfg ∧ t.hub.storage = s.hub.storage
    ∧ t.hub.fw.state = s.hub.fw.state ∧ t.hub.seqs = s.hub.seqs := by
  simp only [execPairRebuildComplete] <;> (repeat' split) <;> first | (simp; done) | (simp [*]; done) | (refine gives_and ?_ (gives_and ?_ (gives_and ?_ (gives_and ?_ (gives_and ?_ (gives_and ?_ (gives_and ?_ (gives_and ?_ (gives_and ?_ (gives_and ?_ (gives_and ?_ (gives_and ?_ (gives_and ?_ ?_)))))))))))) <;> first | rfl | (simp; done) | (simp [*]; done))

@[simp] theorem execTideUnitDredgeDone_keeps (s : State) :
    gives (execTideUnitDredgeDone s) fun t => t.pending = s.pending ∧ t.cyc = s.cyc ∧ t.freeNext = s.freeNext
    ∧ t.out = s.out ∧ t.mdl = s.mdl ∧ t.meter = s.meter ∧ t.die = s.die ∧ t.tsu = s.tsu ∧ t.phi = s.phi
    ∧ t.hub.storage = s.hub.storage ∧ t.hub.fw.state = s.hub.fw.state ∧ t.hub.pairs = s.hub.pairs
    ∧ t.hub.led = s.hub.led ∧ t.hub.seqs = s.hub.seqs := by
  simp only [execTideUnitDredgeDone] <;> (repeat' split) <;> first | (simp; done) | (simp [*]; done) | (refine gives_and ?_ (gives_and ?_ (gives_and ?_ (gives_and ?_ (gives_and ?_ (gives_and ?_ (gives_and ?_ (gives_and ?_ (gives_and ?_ (gives_and ?_ (gives_and ?_ (gives_and ?_ (gives_and ?_ ?_)))))))))))) <;> first | rfl | (simp; done) | (simp [*]; done))

end Sys2Proof.Machine
end

