-- ==== Sys2Proof/Laws/Units.lean ====
section
/-!
SUPPORT. What the operations and meanings of Machine/Units.lean leave unchanged.
-/

namespace Sys2Proof.Machine

@[simp] theorem execTransientRate_keeps (p : Part) (kind : Nat) (index : Nat) (s : State) :
    gives (execTransientRate p kind index s) fun t => t.pending = s.pending ∧ t.cyc = s.cyc ∧ t.freeNext = s.freeNext
    ∧ t.mdl = s.mdl ∧ t.meter = s.meter ∧ t.die = s.die ∧ t.tsu.time = s.tsu.time ∧ t.tsu.rings = s.tsu.rings
    ∧ t.tsu.cfg = s.tsu.cfg ∧ t.phi.time = s.phi.time ∧ t.phi.rings = s.phi.rings ∧ t.phi.cfg = s.phi.cfg
    ∧ t.hub.storage = s.hub.storage ∧ t.hub.fw.state = s.hub.fw.state ∧ t.hub.pairs = s.hub.pairs
    ∧ t.hub.led = s.hub.led ∧ t.hub.seqs = s.hub.seqs := by
  refine gives_and ?_ (gives_and ?_ (gives_and ?_ (gives_and ?_ (gives_and ?_ (gives_and ?_ (gives_and ?_ (gives_and ?_ (gives_and ?_ (gives_and ?_ (gives_and ?_ (gives_and ?_ (gives_and ?_ (gives_and ?_ (gives_and ?_ (gives_and ?_ ?_))))))))))))))) <;> first | (simp [execTransientRate]; done)

@[simp] theorem execTransientRate_keeps_tsu (kind : Nat) (index : Nat) (s : State) :
    gives (execTransientRate .tsu kind index s) fun t => t.phi = s.phi ∧ t.hub = s.hub := by
  refine gives_and ?_ ?_ <;> first | (simp [execTransientRate]; done)

@[simp] theorem execTransientRate_keeps_phi (kind : Nat) (index : Nat) (s : State) :
    gives (execTransientRate .phi kind index s) fun t => t.tsu = s.tsu := by simp [execTransientRate]

@[simp] theorem State.memberReset_keeps (s : State) (die : W16) (detail : W32) (b : Nat) :
    (State.memberReset s die detail b).pending = s.pending ∧ (State.memberReset s die detail b).cyc = s.cyc
    ∧ (State.memberReset s die detail b).mdl = s.mdl ∧ (State.memberReset s die detail b).meter = s.meter
    ∧ (State.memberReset s die detail b).die = s.die ∧ (State.memberReset s die detail b).tsu = s.tsu := by
  refine ⟨?_, ?_, ?_, ?_, ?_, ?_⟩ <;> first | (induction b generalizing s <;> simp only [State.memberReset] <;> (repeat' split) <;> simp_all; done)

@[simp] theorem State.memberReset_keeps2 (s : State) (die : W16) (detail : W32) (b : Nat) :
    (State.memberReset s die detail b).phi.time = s.phi.time ∧ (State.memberReset s die detail b).phi.cfg = s.phi.cfg
    ∧ (State.memberReset s die detail b).hub.storage = s.hub.storage
    ∧ (State.memberReset s die detail b).hub.fw.state = s.hub.fw.state
    ∧ (State.memberReset s die detail b).hub.pairs = s.hub.pairs
    ∧ (State.memberReset s die detail b).hub.led = s.hub.led := by
  refine ⟨?_, ?_, ?_, ?_, ?_, ?_⟩ <;> first | (induction b generalizing s <;> simp only [State.memberReset] <;> (repeat' split) <;> simp_all; done)

@[simp] theorem execFaultNoteReceive_keeps (port : Nat) (e : Env) (f : NotePl) (s : State) :
    gives (execFaultNoteReceive port e f s) fun t => t.pending = s.pending ∧ t.cyc = s.cyc ∧ t.mdl = s.mdl
    ∧ t.meter = s.meter ∧ t.die = s.die ∧ t.tsu = s.tsu ∧ t.phi.time = s.phi.time ∧ t.phi.cfg = s.phi.cfg
    ∧ t.hub.storage = s.hub.storage ∧ t.hub.fw.state = s.hub.fw.state ∧ t.hub.pairs = s.hub.pairs
    ∧ t.hub.led = s.hub.led := by
  simp only [execFaultNoteReceive, State.onReliable_eq] <;> (repeat' split) <;> first | (simp; done) | (simp [*]; done) | (refine gives_and ?_ (gives_and ?_ (gives_and ?_ (gives_and ?_ (gives_and ?_ (gives_and ?_ (gives_and ?_ (gives_and ?_ (gives_and ?_ (gives_and ?_ (gives_and ?_ ?_)))))))))) <;> first | rfl | (simp; done) | (simp [*]; done) | ((try simp); refine (foldl_pending _ _ _ fun s a => ?_).trans ?_ <;> (repeat' split) <;> first | with_reducible rfl | (simp; done) | (simp [*]; done)) | ((try simp); refine (foldl_cyc _ _ _ fun s a => ?_).trans ?_ <;> (repeat' split) <;> first | with_reducible rfl | (simp; done) | (simp [*]; done)) | ((try simp); refine (foldl_mdl _ _ _ fun s a => ?_).trans ?_ <;> (repeat' split) <;> first | with_reducible rfl | (simp; done) | (simp [*]; done)) | ((try simp); refine (foldl_meter _ _ _ fun s a => ?_).trans ?_ <;> (repeat' split) <;> first | with_reducible rfl | (simp; done) | (simp [*]; done)) | ((try simp); refine (foldl_die _ _ _ fun s a => ?_).trans ?_ <;> (repeat' split) <;> first | with_reducible rfl | (simp; done) | (simp [*]; done)) | ((try simp); refine (foldl_tsu _ _ _ fun s a => ?_).trans ?_ <;> (repeat' split) <;> first | with_reducible rfl | (simp; done) | (simp [*]; done)) | ((try simp); refine (foldl_phi_time _ _ _ fun s a => ?_).trans ?_ <;> (repeat' split) <;> first | with_reducible rfl | (simp; done) | (simp [*]; done)) | ((try simp); refine (foldl_phi_cfg _ _ _ fun s a => ?_).trans ?_ <;> (repeat' split) <;> first | with_reducible rfl | (simp; done) | (simp [*]; done)) | ((try simp); refine (foldl_hub_storage _ _ _ fun s a => ?_).trans ?_ <;> (repeat' split) <;> first | with_reducible rfl | (simp; done) | (simp [*]; done)) | ((try simp); refine (foldl_hub_fw_state _ _ _ fun s a => ?_).trans ?_ <;> (repeat' split) <;> first | with_reducible rfl | (simp; done) | (simp [*]; done)) | ((try simp); refine (foldl_hub_pairs _ _ _ fun s a => ?_).trans ?_ <;> (repeat' split) <;> first | with_reducible rfl | (simp; done) | (simp [*]; done)) | ((try simp); refine (foldl_hub_led _ _ _ fun s a => ?_).trans ?_ <;> (repeat' split) <;> first | with_reducible rfl | (simp; done) | (simp [*]; done)))

@[simp] theorem State.useOscillator_keeps (s : State) (p : Part) (j : Nat) :
    (State.useOscillator s p j).pending = s.pending ∧ (State.useOscillator s p j).cyc = s.cyc
    ∧ (State.useOscillator s p j).freeNext = s.freeNext ∧ (State.useOscillator s p j).out = s.out
    ∧ (State.useOscillator s p j).mdl = s.mdl ∧ (State.useOscillator s p j).meter = s.meter
    ∧ (State.useOscillator s p j).die = s.die ∧ (State.useOscillator s p j).hub = s.hub
    ∧ (State.useOscillator s p j).tsu.time = s.tsu.time ∧ (State.useOscillator s p j).tsu.rings = s.tsu.rings
    ∧ (State.useOscillator s p j).tsu.cfg = s.tsu.cfg ∧ (State.useOscillator s p j).phi.time = s.phi.time
    ∧ (State.useOscillator s p j).phi.rings = s.phi.rings ∧ (State.useOscillator s p j).phi.cfg = s.phi.cfg := by
  refine ⟨?_, ?_, ?_, ?_, ?_, ?_, ?_, ?_, ?_, ?_, ?_, ?_, ?_, ?_⟩ <;> first | (simp [State.useOscillator]; done)

@[simp] theorem State.useOscillator_keeps_tsu (s : State) (j : Nat) :
    (State.useOscillator s .tsu j).phi = s.phi := by simp [State.useOscillator]

@[simp] theorem State.useOscillator_keeps_phi (s : State) (j : Nat) :
    (State.useOscillator s .phi j).tsu = s.tsu := by simp [State.useOscillator]

@[simp] theorem State.deadOscillator_keeps (s : State) (p : Part) (i : Nat) :
    (State.deadOscillator s p i).pending = s.pending ∧ (State.deadOscillator s p i).cyc = s.cyc
    ∧ (State.deadOscillator s p i).freeNext = s.freeNext ∧ (State.deadOscillator s p i).out = s.out
    ∧ (State.deadOscillator s p i).mdl = s.mdl ∧ (State.deadOscillator s p i).meter = s.meter
    ∧ (State.deadOscillator s p i).die = s.die ∧ (State.deadOscillator s p i).hub = s.hub
    ∧ (State.deadOscillator s p i).tsu.time = s.tsu.time ∧ (State.deadOscillator s p i).tsu.rings = s.tsu.rings
    ∧ (State.deadOscillator s p i).tsu.cfg = s.tsu.cfg ∧ (State.deadOscillator s p i).phi.time = s.phi.time
    ∧ (State.deadOscillator s p i).phi.rings = s.phi.rings ∧ (State.deadOscillator s p i).phi.cfg = s.phi.cfg := by
  refine ⟨?_, ?_, ?_, ?_, ?_, ?_, ?_, ?_, ?_, ?_, ?_, ?_, ?_, ?_⟩ <;> first | (simp [State.deadOscillator]; done)

@[simp] theorem State.deadOscillator_keeps_tsu (s : State) (i : Nat) :
    (State.deadOscillator s .tsu i).phi = s.phi := by simp [State.deadOscillator]

@[simp] theorem State.deadOscillator_keeps_phi (s : State) (i : Nat) :
    (State.deadOscillator s .phi i).tsu = s.tsu := by simp [State.deadOscillator]

@[simp] theorem State.restartPll_keeps (s : State) (p : Part) :
    (State.restartPll s p).pending = s.pending ∧ (State.restartPll s p).cyc = s.cyc
    ∧ (State.restartPll s p).freeNext = s.freeNext ∧ (State.restartPll s p).out = s.out
    ∧ (State.restartPll s p).mdl = s.mdl ∧ (State.restartPll s p).meter = s.meter
    ∧ (State.restartPll s p).die = s.die ∧ (State.restartPll s p).hub = s.hub
    ∧ (State.restartPll s p).tsu.time = s.tsu.time ∧ (State.restartPll s p).tsu.rings = s.tsu.rings
    ∧ (State.restartPll s p).tsu.cfg = s.tsu.cfg ∧ (State.restartPll s p).phi.time = s.phi.time
    ∧ (State.restartPll s p).phi.rings = s.phi.rings ∧ (State.restartPll s p).phi.cfg = s.phi.cfg := by
  refine ⟨?_, ?_, ?_, ?_, ?_, ?_, ?_, ?_, ?_, ?_, ?_, ?_, ?_, ?_⟩ <;> first | (simp [State.restartPll]; done)

@[simp] theorem State.restartPll_keeps_tsu (s : State) :
    (State.restartPll s .tsu).phi = s.phi := by simp [State.restartPll]

@[simp] theorem State.restartPll_keeps_phi (s : State) :
    (State.restartPll s .phi).tsu = s.tsu := by simp [State.restartPll]

@[simp] theorem State.failUnit_keeps (s : State) (p : Part) (kind : Nat) (i : Nat) :
    (State.failUnit s p kind i).pending = s.pending ∧ (State.failUnit s p kind i).cyc = s.cyc
    ∧ (State.failUnit s p kind i).mdl = s.mdl ∧ (State.failUnit s p kind i).meter = s.meter
    ∧ (State.failUnit s p kind i).tsu.cfg = s.tsu.cfg ∧ (State.failUnit s p kind i).phi.time.acc = s.phi.time.acc
    ∧ (State.failUnit s p kind i).phi.cfg = s.phi.cfg ∧ (State.failUnit s p kind i).hub.storage = s.hub.storage
    ∧ (State.failUnit s p kind i).hub.fw.state = s.hub.fw.state
    ∧ (State.failUnit s p kind i).hub.pairs = s.hub.pairs ∧ (State.failUnit s p kind i).hub.seqs = s.hub.seqs
    ∧ (State.failUnit s p kind i).die.sync = s.die.sync ∧ (State.failUnit s p kind i).die.launches = s.die.launches
    ∧ (State.failUnit s p kind i).die.dig = s.die.dig ∧ (State.failUnit s p kind i).die.binds = s.die.binds
    ∧ (State.failUnit s p kind i).die.coreEn = s.die.coreEn := by
  simp only [State.failUnit] <;> (repeat' split) <;> first | (simp; done) | (simp [*]; done) | (refine ⟨?_, ?_, ?_, ?_, ?_, ?_, ?_, ?_, ?_, ?_, ?_, ?_, ?_, ?_, ?_, ?_⟩ <;> first | rfl | (simp; done) | (simp [*]; done))

@[simp] theorem State.failUnit_keeps_phi (s : State) (kind : Nat) (i : Nat) :
    (State.failUnit s .phi kind i).tsu = s.tsu ∧ (State.failUnit s .phi kind i).die = s.die := by
  simp only [State.failUnit] <;> (repeat' split) <;> first | (simp; done) | (simp [*]; done) | (refine ⟨?_, ?_⟩ <;> first | rfl | (simp; done) | (simp [*]; done))

@[simp] theorem State.noteDecision_keeps (s : State) (p : Part) (h : HeldFault) :
    (State.noteDecision s p h).pending = s.pending ∧ (State.noteDecision s p h).cyc = s.cyc
    ∧ (State.noteDecision s p h).freeNext = s.freeNext ∧ (State.noteDecision s p h).out = s.out
    ∧ (State.noteDecision s p h).mdl = s.mdl ∧ (State.noteDecision s p h).meter = s.meter
    ∧ (State.noteDecision s p h).die = s.die ∧ (State.noteDecision s p h).tsu = s.tsu
    ∧ (State.noteDecision s p h).phi = s.phi ∧ (State.noteDecision s p h).hub.storage = s.hub.storage
    ∧ (State.noteDecision s p h).hub.fw.state = s.hub.fw.state ∧ (State.noteDecision s p h).hub.pairs = s.hub.pairs
    ∧ (State.noteDecision s p h).hub.led = s.hub.led ∧ (State.noteDecision s p h).hub.seqs = s.hub.seqs := by
  simp only [State.noteDecision] <;> (repeat' split) <;> first | (simp; done) | (simp [*]; done) | (refine ⟨?_, ?_, ?_, ?_, ?_, ?_, ?_, ?_, ?_, ?_, ?_, ?_, ?_, ?_⟩ <;> first | rfl | (simp; done) | (simp [*]; done))

@[simp] theorem State.noteDecision_keeps_tsu (s : State) (h : HeldFault) :
    (State.noteDecision s .tsu h).hub = s.hub := by simp [State.noteDecision]

@[simp] theorem State.recalUnit_keeps (s : State) (p : Part) (ch : Nat) (ring : Nat) (idx : Nat) :
    (State.recalUnit s p ch ring idx).pending = s.pending ∧ (State.recalUnit s p ch ring idx).cyc = s.cyc
    ∧ (State.recalUnit s p ch ring idx).freeNext = s.freeNext ∧ (State.recalUnit s p ch ring idx).out = s.out
    ∧ (State.recalUnit s p ch ring idx).mdl = s.mdl ∧ (State.recalUnit s p ch ring idx).meter = s.meter
    ∧ (State.recalUnit s p ch ring idx).die = s.die ∧ (State.recalUnit s p ch ring idx).hub = s.hub
    ∧ (State.recalUnit s p ch ring idx).tsu.time = s.tsu.time
    ∧ (State.recalUnit s p ch ring idx).tsu.rings = s.tsu.rings
    ∧ (State.recalUnit s p ch ring idx).tsu.cfg = s.tsu.cfg
    ∧ (State.recalUnit s p ch ring idx).phi.time = s.phi.time
    ∧ (State.recalUnit s p ch ring idx).phi.rings = s.phi.rings
    ∧ (State.recalUnit s p ch ring idx).phi.cfg = s.phi.cfg := by
  refine ⟨?_, ?_, ?_, ?_, ?_, ?_, ?_, ?_, ?_, ?_, ?_, ?_, ?_, ?_⟩ <;> first | (simp [State.recalUnit]; done)

@[simp] theorem State.recalUnit_keeps_tsu (s : State) (ch : Nat) (ring : Nat) (idx : Nat) :
    (State.recalUnit s .tsu ch ring idx).phi = s.phi := by simp [State.recalUnit]

@[simp] theorem State.recalUnit_keeps_phi (s : State) (ch : Nat) (ring : Nat) (idx : Nat) :
    (State.recalUnit s .phi ch ring idx).tsu = s.tsu := by simp [State.recalUnit]

@[simp] theorem State.startReturn_keeps (s : State) (p : Part) (kind : Nat) (i : Nat) (ring : Nat) (idx : Nat) :
    (State.startReturn s p kind i ring idx).pending = s.pending ∧ (State.startReturn s p kind i ring idx).cyc = s.cyc
    ∧ (State.startReturn s p kind i ring idx).freeNext = s.freeNext
    ∧ (State.startReturn s p kind i ring idx).out = s.out ∧ (State.startReturn s p kind i ring idx).mdl = s.mdl
    ∧ (State.startReturn s p kind i ring idx).meter = s.meter ∧ (State.startReturn s p kind i ring idx).die = s.die
    ∧ (State.startReturn s p kind i ring idx).hub = s.hub
    ∧ (State.startReturn s p kind i ring idx).tsu.time = s.tsu.time
    ∧ (State.startReturn s p kind i ring idx).tsu.rings = s.tsu.rings
    ∧ (State.startReturn s p kind i ring idx).tsu.cfg = s.tsu.cfg
    ∧ (State.startReturn s p kind i ring idx).phi.time = s.phi.time
    ∧ (State.startReturn s p kind i ring idx).phi.rings = s.phi.rings
    ∧ (State.startReturn s p kind i ring idx).phi.cfg = s.phi.cfg := by
  refine ⟨?_, ?_, ?_, ?_, ?_, ?_, ?_, ?_, ?_, ?_, ?_, ?_, ?_, ?_⟩ <;> first | (simp [State.startReturn]; done)

@[simp] theorem State.startReturn_keeps_tsu (s : State) (kind : Nat) (i : Nat) (ring : Nat) (idx : Nat) :
    (State.startReturn s .tsu kind i ring idx).phi = s.phi := by simp [State.startReturn]

@[simp] theorem State.startReturn_keeps_phi (s : State) (kind : Nat) (i : Nat) (ring : Nat) (idx : Nat) :
    (State.startReturn s .phi kind i ring idx).tsu = s.tsu := by simp [State.startReturn]

@[simp] theorem State.returnUnit_keeps (s : State) (p : Part) (kind : Nat) (i : Nat) :
    (State.returnUnit s p kind i).pending = s.pending ∧ (State.returnUnit s p kind i).cyc = s.cyc
    ∧ (State.returnUnit s p kind i).freeNext = s.freeNext ∧ (State.returnUnit s p kind i).out = s.out
    ∧ (State.returnUnit s p kind i).mdl = s.mdl ∧ (State.returnUnit s p kind i).meter = s.meter
    ∧ (State.returnUnit s p kind i).die = s.die ∧ (State.returnUnit s p kind i).tsu.time = s.tsu.time
    ∧ (State.returnUnit s p kind i).tsu.rings = s.tsu.rings ∧ (State.returnUnit s p kind i).tsu.cfg = s.tsu.cfg
    ∧ (State.returnUnit s p kind i).phi.time = s.phi.time ∧ (State.returnUnit s p kind i).phi.rings = s.phi.rings
    ∧ (State.returnUnit s p kind i).phi.cfg = s.phi.cfg ∧ (State.returnUnit s p kind i).hub.storage = s.hub.storage
    ∧ (State.returnUnit s p kind i).hub.fw.state = s.hub.fw.state
    ∧ (State.returnUnit s p kind i).hub.led = s.hub.led ∧ (State.returnUnit s p kind i).hub.seqs = s.hub.seqs := by
  simp only [State.returnUnit] <;> (repeat' split) <;> first | (simp; done) | (simp [*]; done) | (refine ⟨?_, ?_, ?_, ?_, ?_, ?_, ?_, ?_, ?_, ?_, ?_, ?_, ?_, ?_, ?_, ?_, ?_⟩ <;> first | rfl | (simp; done) | (simp [*]; done) | ((try simp); refine (foldl_pending _ _ _ fun s a => ?_).trans ?_ <;> (repeat' split) <;> first | with_reducible rfl | (simp; done) | (simp [*]; done)) | ((try simp); refine (foldl_cyc _ _ _ fun s a => ?_).trans ?_ <;> (repeat' split) <;> first | with_reducible rfl | (simp; done) | (simp [*]; done)) | ((try simp); refine (foldl_freeNext _ _ _ fun s a => ?_).trans ?_ <;> (repeat' split) <;> first | with_reducible rfl | (simp; done) | (simp [*]; done)) | ((try simp); refine (foldl_out _ _ _ fun s a => ?_).trans ?_ <;> (repeat' split) <;> first | with_reducible rfl | (simp; done) | (simp [*]; done)) | ((try simp); refine (foldl_mdl _ _ _ fun s a => ?_).trans ?_ <;> (repeat' split) <;> first | with_reducible rfl | (simp; done) | (simp [*]; done)) | ((try simp); refine (foldl_meter _ _ _ fun s a => ?_).trans ?_ <;> (repeat' split) <;> first | with_reducible rfl | (simp; done) | (simp [*]; done)) | ((try simp); refine (foldl_die _ _ _ fun s a => ?_).trans ?_ <;> (repeat' split) <;> first | with_reducible rfl | (simp; done) | (simp [*]; done)) | ((try simp); refine (foldl_tsu_time _ _ _ fun s a => ?_).trans ?_ <;> (repeat' split) <;> first | with_reducible rfl | (simp; done) | (simp [*]; done)) | ((try simp); refine (foldl_tsu_rings _ _ _ fun s a => ?_).trans ?_ <;> (repeat' split) <;> first | with_reducible rfl | (simp; done) | (simp [*]; done)) | ((try simp); refine (foldl_tsu_cfg _ _ _ fun s a => ?_).trans ?_ <;> (repeat' split) <;> first | with_reducible rfl | (simp; done) | (simp [*]; done)) | ((try simp); refine (foldl_phi_time _ _ _ fun s a => ?_).trans ?_ <;> (repeat' split) <;> first | with_reducible rfl | (simp; done) | (simp [*]; done)) | ((try simp); refine (foldl_phi_rings _ _ _ fun s a => ?_).trans ?_ <;> (repeat' split) <;> first | with_reducible rfl | (simp; done) | (simp [*]; done)) | ((try simp); refine (foldl_phi_cfg _ _ _ fun s a => ?_).trans ?_ <;> (repeat' split) <;> first | with_reducible rfl | (simp; done) | (simp [*]; done)) | ((try simp); refine (foldl_hub_storage _ _ _ fun s a => ?_).trans ?_ <;> (repeat' split) <;> first | with_reducible rfl | (simp; done) | (simp [*]; done)) | ((try simp); refine (foldl_hub_fw_state _ _ _ fun s a => ?_).trans ?_ <;> (repeat' split) <;> first | with_reducible rfl | (simp; done) | (simp [*]; done)) | ((try simp); refine (foldl_hub_led _ _ _ fun s a => ?_).trans ?_ <;> (repeat' split) <;> first | with_reducible rfl | (simp; done) | (simp [*]; done)) | ((try simp); refine (foldl_hub_seqs _ _ _ fun s a => ?_).trans ?_ <;> (repeat' split) <;> first | with_reducible rfl | (simp; done) | (simp [*]; done)))

@[simp] theorem State.returnUnit_keeps_phi (s : State) (kind : Nat) (i : Nat) :
    (State.returnUnit s .phi kind i).tsu = s.tsu := by simp only [State.returnUnit] <;> (repeat' split) <;> first | with_reducible rfl | (simp; done) | (simp [*]; done) | ((try simp); refine (foldl_tsu _ _ _ fun s a => ?_).trans ?_ <;> (repeat' split) <;> first | with_reducible rfl | (simp; done) | (simp [*]; done))

@[simp] theorem State.endReturns_keeps (s : State) (p : Part) :
    (State.endReturns s p).pending = s.pending ∧ (State.endReturns s p).cyc = s.cyc ∧ (State.endReturns s p).mdl = s.mdl
    ∧ (State.endReturns s p).meter = s.meter ∧ (State.endReturns s p).die = s.die
    ∧ (State.endReturns s p).tsu.time = s.tsu.time ∧ (State.endReturns s p).tsu.cfg = s.tsu.cfg
    ∧ (State.endReturns s p).phi.time = s.phi.time ∧ (State.endReturns s p).phi.cfg = s.phi.cfg
    ∧ (State.endReturns s p).hub.storage = s.hub.storage ∧ (State.endReturns s p).hub.fw.state = s.hub.fw.state
    ∧ (State.endReturns s p).hub.led = s.hub.led ∧ (State.endReturns s p).hub.seqs = s.hub.seqs := by
  refine ⟨?_, ?_, ?_, ?_, ?_, ?_, ?_, ?_, ?_, ?_, ?_, ?_, ?_⟩ <;> first | (simp [State.endReturns]; done)

@[simp] theorem State.endReturns_keeps_phi (s : State) :
    (State.endReturns s .phi).tsu = s.tsu := by simp [State.endReturns]

@[simp] theorem execUnitQuery_keeps (p : Part) (ring : Nat) (idx : Nat) (s : State) :
    gives (execUnitQuery p ring idx s) fun t => t.pending = s.pending ∧ t.cyc = s.cyc ∧ t.mdl = s.mdl
    ∧ t.meter = s.meter ∧ t.die = s.die ∧ t.tsu.time = s.tsu.time ∧ t.tsu.cfg = s.tsu.cfg ∧ t.phi.time = s.phi.time
    ∧ t.phi.cfg = s.phi.cfg ∧ t.hub.storage = s.hub.storage ∧ t.hub.fw.state = s.hub.fw.state
    ∧ t.hub.pairs = s.hub.pairs ∧ t.hub.led = s.hub.led ∧ t.hub.seqs = s.hub.seqs := by
  simp only [execUnitQuery, State.runDesc, State.unitCtrl] <;> (repeat' split) <;> first | (simp; done) | (simp [*]; done) | (refine gives_and ?_ (gives_and ?_ (gives_and ?_ (gives_and ?_ (gives_and ?_ (gives_and ?_ (gives_and ?_ (gives_and ?_ (gives_and ?_ (gives_and ?_ (gives_and ?_ (gives_and ?_ (gives_and ?_ ?_)))))))))))) <;> first | rfl | (simp; done) | (simp [*]; done))

@[simp] theorem execUnitQuery_keeps_tsu (ring : Nat) (idx : Nat) (s : State) :
    gives (execUnitQuery .tsu ring idx s) fun t => t.phi = s.phi := by simp only [execUnitQuery, State.runDesc, State.unitCtrl] <;> (repeat' split) <;> first | rfl | (simp; done) | (simp [*]; done)

@[simp] theorem execUnitQuery_keeps_phi (ring : Nat) (idx : Nat) (s : State) :
    gives (execUnitQuery .phi ring idx s) fun t => t.tsu = s.tsu := by simp only [execUnitQuery, State.runDesc, State.unitCtrl] <;> (repeat' split) <;> first | rfl | (simp; done) | (simp [*]; done)

@[simp] theorem execUnitKeep_keeps (p : Part) (ring : Nat) (idx : Nat) (s : State) :
    gives (execUnitKeep p ring idx s) fun t => t.pending = s.pending ∧ t.cyc = s.cyc ∧ t.mdl = s.mdl ∧ t.meter = s.meter
    ∧ t.die = s.die ∧ t.tsu.time = s.tsu.time ∧ t.tsu.cfg = s.tsu.cfg ∧ t.phi.time = s.phi.time
    ∧ t.phi.cfg = s.phi.cfg ∧ t.hub.storage = s.hub.storage ∧ t.hub.fw.state = s.hub.fw.state
    ∧ t.hub.pairs = s.hub.pairs ∧ t.hub.led = s.hub.led ∧ t.hub.seqs = s.hub.seqs := by
  simp only [execUnitKeep, State.runDesc, State.unitCtrl] <;> (repeat' split) <;> first | (simp; done) | (simp [*]; done) | (refine gives_and ?_ (gives_and ?_ (gives_and ?_ (gives_and ?_ (gives_and ?_ (gives_and ?_ (gives_and ?_ (gives_and ?_ (gives_and ?_ (gives_and ?_ (gives_and ?_ (gives_and ?_ (gives_and ?_ ?_)))))))))))) <;> first | rfl | (simp; done) | (simp [*]; done))

@[simp] theorem execUnitKeep_keeps_tsu (ring : Nat) (idx : Nat) (s : State) :
    gives (execUnitKeep .tsu ring idx s) fun t => t.phi = s.phi := by simp only [execUnitKeep, State.runDesc, State.unitCtrl] <;> (repeat' split) <;> first | rfl | (simp; done) | (simp [*]; done)

@[simp] theorem execUnitKeep_keeps_phi (ring : Nat) (idx : Nat) (s : State) :
    gives (execUnitKeep .phi ring idx s) fun t => t.tsu = s.tsu := by simp only [execUnitKeep, State.runDesc, State.unitCtrl] <;> (repeat' split) <;> first | rfl | (simp; done) | (simp [*]; done)

@[simp] theorem execUnitReturn_keeps (p : Part) (ring : Nat) (idx : Nat) (s : State) :
    gives (execUnitReturn p ring idx s) fun t => t.pending = s.pending ∧ t.cyc = s.cyc ∧ t.mdl = s.mdl
    ∧ t.meter = s.meter ∧ t.die = s.die ∧ t.tsu.time = s.tsu.time ∧ t.tsu.cfg = s.tsu.cfg ∧ t.phi.time = s.phi.time
    ∧ t.phi.cfg = s.phi.cfg ∧ t.hub.storage = s.hub.storage ∧ t.hub.fw.state = s.hub.fw.state
    ∧ t.hub.led = s.hub.led ∧ t.hub.seqs = s.hub.seqs := by
  simp only [execUnitReturn, State.runDesc, State.unitCtrl] <;> (repeat' split) <;> first | (simp; done) | (simp [*]; done) | (refine gives_and ?_ (gives_and ?_ (gives_and ?_ (gives_and ?_ (gives_and ?_ (gives_and ?_ (gives_and ?_ (gives_and ?_ (gives_and ?_ (gives_and ?_ (gives_and ?_ (gives_and ?_ ?_))))))))))) <;> first | rfl | (simp; done) | (simp [*]; done))

@[simp] theorem execUnitReturn_keeps_phi (ring : Nat) (idx : Nat) (s : State) :
    gives (execUnitReturn .phi ring idx s) fun t => t.tsu = s.tsu := by simp only [execUnitReturn, State.runDesc, State.unitCtrl] <;> (repeat' split) <;> first | rfl | (simp; done) | (simp [*]; done)

@[simp] theorem execUnitDisable_keeps (p : Part) (ring : Nat) (idx : Nat) (s : State) :
    gives (execUnitDisable p ring idx s) fun t => t.pending = s.pending ∧ t.cyc = s.cyc ∧ t.mdl = s.mdl
    ∧ t.meter = s.meter ∧ t.die = s.die ∧ t.tsu.time = s.tsu.time ∧ t.tsu.cfg = s.tsu.cfg ∧ t.phi.time = s.phi.time
    ∧ t.phi.cfg = s.phi.cfg ∧ t.hub.storage = s.hub.storage ∧ t.hub.fw.state = s.hub.fw.state
    ∧ t.hub.pairs = s.hub.pairs ∧ t.hub.led = s.hub.led ∧ t.hub.seqs = s.hub.seqs := by
  simp only [execUnitDisable, State.runDesc, State.unitCtrl] <;> (repeat' split) <;> first | (simp; done) | (simp [*]; done) | (refine gives_and ?_ (gives_and ?_ (gives_and ?_ (gives_and ?_ (gives_and ?_ (gives_and ?_ (gives_and ?_ (gives_and ?_ (gives_and ?_ (gives_and ?_ (gives_and ?_ (gives_and ?_ (gives_and ?_ ?_)))))))))))) <;> first | rfl | (simp; done) | (simp [*]; done))

@[simp] theorem execUnitDisable_keeps_tsu (ring : Nat) (idx : Nat) (s : State) :
    gives (execUnitDisable .tsu ring idx s) fun t => t.phi = s.phi := by simp only [execUnitDisable, State.runDesc, State.unitCtrl] <;> (repeat' split) <;> first | rfl | (simp; done) | (simp [*]; done)

@[simp] theorem execUnitDisable_keeps_phi (ring : Nat) (idx : Nat) (s : State) :
    gives (execUnitDisable .phi ring idx s) fun t => t.tsu = s.tsu := by simp only [execUnitDisable, State.runDesc, State.unitCtrl] <;> (repeat' split) <;> first | rfl | (simp; done) | (simp [*]; done)

@[simp] theorem execUnitEnable_keeps (p : Part) (ring : Nat) (idx : Nat) (s : State) :
    gives (execUnitEnable p ring idx s) fun t => t.pending = s.pending ∧ t.cyc = s.cyc ∧ t.mdl = s.mdl
    ∧ t.meter = s.meter ∧ t.die = s.die ∧ t.tsu.time = s.tsu.time ∧ t.tsu.cfg = s.tsu.cfg ∧ t.phi.time = s.phi.time
    ∧ t.phi.cfg = s.phi.cfg ∧ t.hub.storage = s.hub.storage ∧ t.hub.fw.state = s.hub.fw.state
    ∧ t.hub.pairs = s.hub.pairs ∧ t.hub.led = s.hub.led ∧ t.hub.seqs = s.hub.seqs := by
  simp only [execUnitEnable, State.runDesc, State.unitCtrl] <;> (repeat' split) <;> first | (simp; done) | (simp [*]; done) | (refine gives_and ?_ (gives_and ?_ (gives_and ?_ (gives_and ?_ (gives_and ?_ (gives_and ?_ (gives_and ?_ (gives_and ?_ (gives_and ?_ (gives_and ?_ (gives_and ?_ (gives_and ?_ (gives_and ?_ ?_)))))))))))) <;> first | rfl | (simp; done) | (simp [*]; done))

@[simp] theorem execUnitEnable_keeps_tsu (ring : Nat) (idx : Nat) (s : State) :
    gives (execUnitEnable .tsu ring idx s) fun t => t.phi = s.phi := by simp only [execUnitEnable, State.runDesc, State.unitCtrl] <;> (repeat' split) <;> first | rfl | (simp; done) | (simp [*]; done)

@[simp] theorem execUnitEnable_keeps_phi (ring : Nat) (idx : Nat) (s : State) :
    gives (execUnitEnable .phi ring idx s) fun t => t.tsu = s.tsu := by simp only [execUnitEnable, State.runDesc, State.unitCtrl] <;> (repeat' split) <;> first | rfl | (simp; done) | (simp [*]; done)

@[simp] theorem execPortDrainComplete_keeps (p : Part) (port : Nat) (s : State) :
    gives (execPortDrainComplete p port s) fun t => t.pending = s.pending ∧ t.cyc = s.cyc ∧ t.mdl = s.mdl
    ∧ t.meter = s.meter ∧ t.die = s.die ∧ t.tsu.cfg = s.tsu.cfg ∧ t.phi.time.acc = s.phi.time.acc
    ∧ t.phi.cfg = s.phi.cfg ∧ t.hub.storage = s.hub.storage ∧ t.hub.fw.state = s.hub.fw.state
    ∧ t.hub.pairs = s.hub.pairs ∧ t.hub.seqs = s.hub.seqs := by
  simp only [execPortDrainComplete] <;> (repeat' split) <;> first | (simp; done) | (simp [*]; done) | (refine gives_and ?_ (gives_and ?_ (gives_and ?_ (gives_and ?_ (gives_and ?_ (gives_and ?_ (gives_and ?_ (gives_and ?_ (gives_and ?_ (gives_and ?_ (gives_and ?_ ?_)))))))))) <;> first | rfl | (simp; done) | (simp [*]; done))

@[simp] theorem execPortDrainComplete_keeps_phi (port : Nat) (s : State) :
    gives (execPortDrainComplete .phi port s) fun t => t.tsu = s.tsu := by simp only [execPortDrainComplete] <;> (repeat' split) <;> first | rfl | (simp; done) | (simp [*]; done)

end Sys2Proof.Machine
end

