-- ==== Sys2Proof/Laws/Registers.lean ====
section
/-!
SUPPORT. What the operations and meanings of Machine/Registers.lean leave unchanged.
-/

namespace Sys2Proof.Machine

@[simp] theorem State.refuseWrite_keeps (s : State) (p : Part) :
    (State.refuseWrite s p).pending = s.pending ∧ (State.refuseWrite s p).cyc = s.cyc
    ∧ (State.refuseWrite s p).freeNext = s.freeNext ∧ (State.refuseWrite s p).out = s.out
    ∧ (State.refuseWrite s p).mdl = s.mdl ∧ (State.refuseWrite s p).meter = s.meter
    ∧ (State.refuseWrite s p).die = s.die ∧ (State.refuseWrite s p).hub = s.hub
    ∧ (State.refuseWrite s p).tsu.time = s.tsu.time ∧ (State.refuseWrite s p).tsu.rings = s.tsu.rings
    ∧ (State.refuseWrite s p).tsu.cfg.lcState = s.tsu.cfg.lcState
    ∧ (State.refuseWrite s p).tsu.cfg.lcRows = s.tsu.cfg.lcRows ∧ (State.refuseWrite s p).phi.time = s.phi.time
    ∧ (State.refuseWrite s p).phi.rings = s.phi.rings ∧ (State.refuseWrite s p).phi.cfg.lcState = s.phi.cfg.lcState
    ∧ (State.refuseWrite s p).phi.cfg.lcRows = s.phi.cfg.lcRows := by
  refine ⟨?_, ?_, ?_, ?_, ?_, ?_, ?_, ?_, ?_, ?_, ?_, ?_, ?_, ?_, ?_, ?_⟩ <;> first | (simp [State.refuseWrite]; done)

@[simp] theorem State.refuseWrite_keeps_tsu (s : State) :
    (State.refuseWrite s .tsu).phi = s.phi := by simp [State.refuseWrite]

@[simp] theorem State.refuseWrite_keeps_phi (s : State) :
    (State.refuseWrite s .phi).tsu = s.tsu := by simp [State.refuseWrite]

@[simp] theorem State.wrapClr_keeps (s : State) (p : Part) :
    (State.wrapClr s p).pending = s.pending ∧ (State.wrapClr s p).cyc = s.cyc
    ∧ (State.wrapClr s p).freeNext = s.freeNext ∧ (State.wrapClr s p).out = s.out ∧ (State.wrapClr s p).mdl = s.mdl
    ∧ (State.wrapClr s p).meter = s.meter ∧ (State.wrapClr s p).die = s.die ∧ (State.wrapClr s p).hub = s.hub
    ∧ (State.wrapClr s p).tsu.time = s.tsu.time ∧ (State.wrapClr s p).tsu.rings = s.tsu.rings
    ∧ (State.wrapClr s p).tsu.cfg = s.tsu.cfg ∧ (State.wrapClr s p).phi.time = s.phi.time
    ∧ (State.wrapClr s p).phi.rings = s.phi.rings ∧ (State.wrapClr s p).phi.cfg = s.phi.cfg := by
  refine ⟨?_, ?_, ?_, ?_, ?_, ?_, ?_, ?_, ?_, ?_, ?_, ?_, ?_, ?_⟩ <;> first | (simp [State.wrapClr]; done)

@[simp] theorem State.wrapClr_keeps_tsu (s : State) :
    (State.wrapClr s .tsu).phi = s.phi := by simp [State.wrapClr]

@[simp] theorem State.wrapClr_keeps_phi (s : State) :
    (State.wrapClr s .phi).tsu = s.tsu := by simp [State.wrapClr]

@[simp] theorem State.fltCntClr_keeps (s : State) (p : Part) :
    (State.fltCntClr s p).pending = s.pending ∧ (State.fltCntClr s p).cyc = s.cyc
    ∧ (State.fltCntClr s p).freeNext = s.freeNext ∧ (State.fltCntClr s p).out = s.out
    ∧ (State.fltCntClr s p).mdl = s.mdl ∧ (State.fltCntClr s p).meter = s.meter ∧ (State.fltCntClr s p).die = s.die
    ∧ (State.fltCntClr s p).hub = s.hub ∧ (State.fltCntClr s p).tsu.time = s.tsu.time
    ∧ (State.fltCntClr s p).tsu.rings = s.tsu.rings ∧ (State.fltCntClr s p).tsu.cfg = s.tsu.cfg
    ∧ (State.fltCntClr s p).phi.time = s.phi.time ∧ (State.fltCntClr s p).phi.rings = s.phi.rings
    ∧ (State.fltCntClr s p).phi.cfg = s.phi.cfg := by
  refine ⟨?_, ?_, ?_, ?_, ?_, ?_, ?_, ?_, ?_, ?_, ?_, ?_, ?_, ?_⟩ <;> first | (simp [State.fltCntClr]; done)

@[simp] theorem State.fltCntClr_keeps_tsu (s : State) :
    (State.fltCntClr s .tsu).phi = s.phi := by simp [State.fltCntClr]

@[simp] theorem State.fltCntClr_keeps_phi (s : State) :
    (State.fltCntClr s .phi).tsu = s.tsu := by simp [State.fltCntClr]

@[simp] theorem State.noteDropped_keeps (s : State) (p : Part) :
    (State.noteDropped s p).pending = s.pending ∧ (State.noteDropped s p).cyc = s.cyc
    ∧ (State.noteDropped s p).freeNext = s.freeNext ∧ (State.noteDropped s p).out = s.out
    ∧ (State.noteDropped s p).mdl = s.mdl ∧ (State.noteDropped s p).meter = s.meter
    ∧ (State.noteDropped s p).die = s.die ∧ (State.noteDropped s p).hub = s.hub
    ∧ (State.noteDropped s p).tsu.time = s.tsu.time ∧ (State.noteDropped s p).tsu.rings = s.tsu.rings
    ∧ (State.noteDropped s p).tsu.cfg = s.tsu.cfg ∧ (State.noteDropped s p).phi.time = s.phi.time
    ∧ (State.noteDropped s p).phi.rings = s.phi.rings ∧ (State.noteDropped s p).phi.cfg = s.phi.cfg := by
  refine ⟨?_, ?_, ?_, ?_, ?_, ?_, ?_, ?_, ?_, ?_, ?_, ?_, ?_, ?_⟩ <;> first | (simp [State.noteDropped]; done)

@[simp] theorem State.noteDropped_keeps_tsu (s : State) :
    (State.noteDropped s .tsu).phi = s.phi := by simp [State.noteDropped]

@[simp] theorem State.noteDropped_keeps_phi (s : State) :
    (State.noteDropped s .phi).tsu = s.tsu := by simp [State.noteDropped]

@[simp] theorem State.latchNow_keeps (s : State) :
    (State.latchNow s).pending = s.pending ∧ (State.latchNow s).cyc = s.cyc ∧ (State.latchNow s).freeNext = s.freeNext
    ∧ (State.latchNow s).out = s.out ∧ (State.latchNow s).mdl = s.mdl ∧ (State.latchNow s).meter = s.meter
    ∧ (State.latchNow s).die = s.die ∧ (State.latchNow s).hub = s.hub ∧ (State.latchNow s).phi = s.phi
    ∧ (State.latchNow s).tsu.time = s.tsu.time ∧ (State.latchNow s).tsu.rings = s.tsu.rings
    ∧ (State.latchNow s).tsu.cfg.lcState = s.tsu.cfg.lcState ∧ (State.latchNow s).tsu.cfg.lcRows = s.tsu.cfg.lcRows := by
  refine ⟨?_, ?_, ?_, ?_, ?_, ?_, ?_, ?_, ?_, ?_, ?_, ?_, ?_⟩ <;> first | (simp [State.latchNow]; done)

@[simp] theorem State.cntCtrl_keeps (s : State) (p : Part) (w : W32) :
    (State.cntCtrl s p w).pending = s.pending ∧ (State.cntCtrl s p w).cyc = s.cyc
    ∧ (State.cntCtrl s p w).freeNext = s.freeNext ∧ (State.cntCtrl s p w).out = s.out
    ∧ (State.cntCtrl s p w).mdl = s.mdl ∧ (State.cntCtrl s p w).meter = s.meter ∧ (State.cntCtrl s p w).die = s.die
    ∧ (State.cntCtrl s p w).hub = s.hub ∧ (State.cntCtrl s p w).tsu.time = s.tsu.time
    ∧ (State.cntCtrl s p w).tsu.rings = s.tsu.rings ∧ (State.cntCtrl s p w).tsu.cfg.lcState = s.tsu.cfg.lcState
    ∧ (State.cntCtrl s p w).tsu.cfg.lcRows = s.tsu.cfg.lcRows ∧ (State.cntCtrl s p w).phi.time = s.phi.time
    ∧ (State.cntCtrl s p w).phi.rings = s.phi.rings ∧ (State.cntCtrl s p w).phi.cfg = s.phi.cfg := by
  refine ⟨?_, ?_, ?_, ?_, ?_, ?_, ?_, ?_, ?_, ?_, ?_, ?_, ?_, ?_, ?_⟩ <;> first | (simp [State.cntCtrl]; done)

@[simp] theorem State.cntCtrl_keeps_tsu (s : State) (w : W32) :
    (State.cntCtrl s .tsu w).phi = s.phi := by simp [State.cntCtrl]

@[simp] theorem State.cntCtrl_keeps_phi (s : State) (w : W32) :
    (State.cntCtrl s .phi w).tsu = s.tsu := by simp [State.cntCtrl]

@[simp] theorem State.setImage_keeps (s : State) (p : Part) (img : List Byte) :
    (State.setImage s p img).pending = s.pending ∧ (State.setImage s p img).cyc = s.cyc
    ∧ (State.setImage s p img).freeNext = s.freeNext ∧ (State.setImage s p img).out = s.out
    ∧ (State.setImage s p img).mdl = s.mdl ∧ (State.setImage s p img).meter = s.meter
    ∧ (State.setImage s p img).die = s.die ∧ (State.setImage s p img).tsu.time = s.tsu.time
    ∧ (State.setImage s p img).tsu.rings = s.tsu.rings
    ∧ (State.setImage s p img).tsu.cfg.lcState = s.tsu.cfg.lcState
    ∧ (State.setImage s p img).tsu.cfg.lcRows = s.tsu.cfg.lcRows ∧ (State.setImage s p img).phi.time = s.phi.time
    ∧ (State.setImage s p img).phi.rings = s.phi.rings
    ∧ (State.setImage s p img).phi.cfg.lcState = s.phi.cfg.lcState
    ∧ (State.setImage s p img).phi.cfg.lcRows = s.phi.cfg.lcRows
    ∧ (State.setImage s p img).hub.storage = s.hub.storage ∧ (State.setImage s p img).hub.fw.state = s.hub.fw.state
    ∧ (State.setImage s p img).hub.pairs = s.hub.pairs ∧ (State.setImage s p img).hub.led = s.hub.led
    ∧ (State.setImage s p img).hub.seqs = s.hub.seqs := by
  refine ⟨?_, ?_, ?_, ?_, ?_, ?_, ?_, ?_, ?_, ?_, ?_, ?_, ?_, ?_, ?_, ?_, ?_, ?_, ?_, ?_⟩ <;> first | (simp [State.setImage]; done)

@[simp] theorem State.setImage_keeps_tsu (s : State) (img : List Byte) :
    (State.setImage s .tsu img).phi = s.phi := by simp only [State.setImage] <;> (repeat' split) <;> first | rfl | (simp; done) | (simp [*]; done)

@[simp] theorem State.setImage_keeps_phi (s : State) (img : List Byte) :
    (State.setImage s .phi img).tsu = s.tsu := by simp only [State.setImage] <;> (repeat' split) <;> first | rfl | (simp; done) | (simp [*]; done)

@[simp] theorem State.hbAddr_keeps (s : State) (p : Part) (v : Nat) :
    (State.hbAddr s p v).pending = s.pending ∧ (State.hbAddr s p v).cyc = s.cyc
    ∧ (State.hbAddr s p v).freeNext = s.freeNext ∧ (State.hbAddr s p v).out = s.out
    ∧ (State.hbAddr s p v).mdl = s.mdl ∧ (State.hbAddr s p v).meter = s.meter := by
  refine ⟨?_, ?_, ?_, ?_, ?_, ?_⟩ <;> first | (induction v generalizing s <;> simp_all [State.hbAddr]; done)

@[simp] theorem State.hbAddr_keeps2 (s : State) (p : Part) (v : Nat) :
    (State.hbAddr s p v).die = s.die ∧ (State.hbAddr s p v).hub = s.hub ∧ (State.hbAddr s p v).tsu.time = s.tsu.time
    ∧ (State.hbAddr s p v).tsu.rings = s.tsu.rings ∧ (State.hbAddr s p v).tsu.cfg = s.tsu.cfg
    ∧ (State.hbAddr s p v).phi.time = s.phi.time := by
  refine ⟨?_, ?_, ?_, ?_, ?_, ?_⟩ <;> first | (induction v generalizing s <;> simp_all [State.hbAddr]; done)

@[simp] theorem State.hbAddr_keeps3 (s : State) (p : Part) (v : Nat) :
    (State.hbAddr s p v).phi.rings = s.phi.rings ∧ (State.hbAddr s p v).phi.cfg = s.phi.cfg := by
  refine ⟨?_, ?_⟩ <;> first | (induction v generalizing s <;> simp_all [State.hbAddr]; done)

@[simp] theorem State.hbAddr_keeps_tsu (s : State) (v : Nat) :
    (State.hbAddr s .tsu v).phi = s.phi := by induction v generalizing s <;> simp_all [State.hbAddr]

@[simp] theorem State.hbAddr_keeps_phi (s : State) (v : Nat) :
    (State.hbAddr s .phi v).tsu = s.tsu := by induction v generalizing s <;> simp_all [State.hbAddr]

@[simp] theorem State.mbxDone_keeps (s : State) (st : Status) (result : Nat) :
    (State.mbxDone s st result).pending = s.pending ∧ (State.mbxDone s st result).cyc = s.cyc
    ∧ (State.mbxDone s st result).freeNext = s.freeNext ∧ (State.mbxDone s st result).out = s.out
    ∧ (State.mbxDone s st result).mdl = s.mdl ∧ (State.mbxDone s st result).meter = s.meter
    ∧ (State.mbxDone s st result).die = s.die ∧ (State.mbxDone s st result).tsu = s.tsu
    ∧ (State.mbxDone s st result).phi = s.phi ∧ (State.mbxDone s st result).hub.storage = s.hub.storage
    ∧ (State.mbxDone s st result).hub.fw.state = s.hub.fw.state
    ∧ (State.mbxDone s st result).hub.pairs = s.hub.pairs ∧ (State.mbxDone s st result).hub.led = s.hub.led
    ∧ (State.mbxDone s st result).hub.seqs = s.hub.seqs := by
  refine ⟨?_, ?_, ?_, ?_, ?_, ?_, ?_, ?_, ?_, ?_, ?_, ?_, ?_, ?_⟩ <;> first | (simp [State.mbxDone]; done)

@[simp] theorem State.mbxGo_keeps (s : State) (w : W32) :
    (State.mbxGo s w).pending = s.pending ∧ (State.mbxGo s w).cyc = s.cyc ∧ (State.mbxGo s w).freeNext = s.freeNext
    ∧ (State.mbxGo s w).out = s.out ∧ (State.mbxGo s w).mdl = s.mdl ∧ (State.mbxGo s w).meter = s.meter
    ∧ (State.mbxGo s w).die = s.die ∧ (State.mbxGo s w).tsu = s.tsu ∧ (State.mbxGo s w).phi.time = s.phi.time
    ∧ (State.mbxGo s w).phi.rings = s.phi.rings ∧ (State.mbxGo s w).phi.cfg = s.phi.cfg
    ∧ (State.mbxGo s w).hub.storage = s.hub.storage ∧ (State.mbxGo s w).hub.fw.state = s.hub.fw.state
    ∧ (State.mbxGo s w).hub.pairs = s.hub.pairs ∧ (State.mbxGo s w).hub.led = s.hub.led
    ∧ (State.mbxGo s w).hub.seqs = s.hub.seqs := by
  refine ⟨?_, ?_, ?_, ?_, ?_, ?_, ?_, ?_, ?_, ?_, ?_, ?_, ?_, ?_, ?_, ?_⟩ <;> first | (simp [State.mbxGo]; done)

@[simp] theorem State.cfgStatusWrite_keeps (s : State) (p : Part) (w : W32) :
    (State.cfgStatusWrite s p w).pending = s.pending ∧ (State.cfgStatusWrite s p w).cyc = s.cyc
    ∧ (State.cfgStatusWrite s p w).freeNext = s.freeNext ∧ (State.cfgStatusWrite s p w).out = s.out
    ∧ (State.cfgStatusWrite s p w).mdl = s.mdl ∧ (State.cfgStatusWrite s p w).meter = s.meter
    ∧ (State.cfgStatusWrite s p w).die = s.die ∧ (State.cfgStatusWrite s p w).hub = s.hub
    ∧ (State.cfgStatusWrite s p w).tsu.time = s.tsu.time ∧ (State.cfgStatusWrite s p w).tsu.rings = s.tsu.rings
    ∧ (State.cfgStatusWrite s p w).tsu.cfg.lcState = s.tsu.cfg.lcState
    ∧ (State.cfgStatusWrite s p w).tsu.cfg.lcRows = s.tsu.cfg.lcRows
    ∧ (State.cfgStatusWrite s p w).phi.time = s.phi.time ∧ (State.cfgStatusWrite s p w).phi.rings = s.phi.rings
    ∧ (State.cfgStatusWrite s p w).phi.cfg.lcState = s.phi.cfg.lcState
    ∧ (State.cfgStatusWrite s p w).phi.cfg.lcRows = s.phi.cfg.lcRows := by
  refine ⟨?_, ?_, ?_, ?_, ?_, ?_, ?_, ?_, ?_, ?_, ?_, ?_, ?_, ?_, ?_, ?_⟩ <;> first | (simp [State.cfgStatusWrite]; done)

@[simp] theorem State.cfgStatusWrite_keeps_tsu (s : State) (w : W32) :
    (State.cfgStatusWrite s .tsu w).phi = s.phi := by simp [State.cfgStatusWrite]

@[simp] theorem State.cfgStatusWrite_keeps_phi (s : State) (w : W32) :
    (State.cfgStatusWrite s .phi w).tsu = s.tsu := by simp [State.cfgStatusWrite]

@[simp] theorem State.msixWord_keeps (s : State) (k : Nat) (w : W32) :
    (State.msixWord s k w).pending = s.pending ∧ (State.msixWord s k w).cyc = s.cyc
    ∧ (State.msixWord s k w).freeNext = s.freeNext ∧ (State.msixWord s k w).mdl = s.mdl
    ∧ (State.msixWord s k w).meter = s.meter ∧ (State.msixWord s k w).die = s.die
    ∧ (State.msixWord s k w).tsu = s.tsu ∧ (State.msixWord s k w).phi = s.phi
    ∧ (State.msixWord s k w).hub.storage = s.hub.storage ∧ (State.msixWord s k w).hub.fw.state = s.hub.fw.state
    ∧ (State.msixWord s k w).hub.pairs = s.hub.pairs ∧ (State.msixWord s k w).hub.led = s.hub.led
    ∧ (State.msixWord s k w).hub.seqs = s.hub.seqs := by
  refine ⟨?_, ?_, ?_, ?_, ?_, ?_, ?_, ?_, ?_, ?_, ?_, ?_, ?_⟩ <;> first | (simp [State.msixWord]; done)

@[simp] theorem State.nudge_keeps (s : State) (i : Nat) (line : List Byte) :
    (State.nudge s i line).pending = s.pending ∧ (State.nudge s i line).cyc = s.cyc
    ∧ (State.nudge s i line).freeNext = s.freeNext ∧ (State.nudge s i line).mdl = s.mdl
    ∧ (State.nudge s i line).meter = s.meter ∧ (State.nudge s i line).die = s.die
    ∧ (State.nudge s i line).tsu = s.tsu ∧ (State.nudge s i line).phi.time = s.phi.time
    ∧ (State.nudge s i line).phi.cfg = s.phi.cfg ∧ (State.nudge s i line).hub.storage = s.hub.storage
    ∧ (State.nudge s i line).hub.fw.state = s.hub.fw.state ∧ (State.nudge s i line).hub.pairs = s.hub.pairs
    ∧ (State.nudge s i line).hub.led = s.hub.led ∧ (State.nudge s i line).hub.seqs = s.hub.seqs := by
  refine ⟨?_, ?_, ?_, ?_, ?_, ?_, ?_, ?_, ?_, ?_, ?_, ?_, ?_, ?_⟩ <;> first | (simp [State.nudge]; done)

@[simp] theorem State.answerRead_keeps (s : State) (p : Part) (off : Nat) (len : Nat) :
    (State.answerRead s p off len).pending = s.pending ∧ (State.answerRead s p off len).cyc = s.cyc
    ∧ (State.answerRead s p off len).freeNext = s.freeNext ∧ (State.answerRead s p off len).mdl = s.mdl
    ∧ (State.answerRead s p off len).die = s.die ∧ (State.answerRead s p off len).hub = s.hub
    ∧ (State.answerRead s p off len).tsu.time = s.tsu.time ∧ (State.answerRead s p off len).tsu.rings = s.tsu.rings
    ∧ (State.answerRead s p off len).tsu.cfg.lcState = s.tsu.cfg.lcState
    ∧ (State.answerRead s p off len).tsu.cfg.lcRows = s.tsu.cfg.lcRows
    ∧ (State.answerRead s p off len).phi.time = s.phi.time ∧ (State.answerRead s p off len).phi.rings = s.phi.rings
    ∧ (State.answerRead s p off len).phi.cfg.lcState = s.phi.cfg.lcState
    ∧ (State.answerRead s p off len).phi.cfg.lcRows = s.phi.cfg.lcRows := by
  refine ⟨?_, ?_, ?_, ?_, ?_, ?_, ?_, ?_, ?_, ?_, ?_, ?_, ?_, ?_⟩ <;> first | (simp [State.answerRead]; done)

@[simp] theorem State.answerRead_keeps_tsu (s : State) (off : Nat) (len : Nat) :
    (State.answerRead s .tsu off len).phi = s.phi := by simp [State.answerRead]

@[simp] theorem State.answerRead_keeps_phi (s : State) (off : Nat) (len : Nat) :
    (State.answerRead s .phi off len).tsu = s.tsu := by simp [State.answerRead]

@[simp] theorem execTrappedRead_keeps (p : Part) (off : Nat) (len : Nat) (s : State) :
    gives (execTrappedRead p off len s) fun t => t.pending = s.pending ∧ t.cyc = s.cyc ∧ t.mdl = s.mdl ∧ t.die = s.die
    ∧ t.tsu.time = s.tsu.time ∧ t.tsu.rings = s.tsu.rings ∧ t.tsu.cfg.lcState = s.tsu.cfg.lcState
    ∧ t.tsu.cfg.lcRows = s.tsu.cfg.lcRows ∧ t.phi.time = s.phi.time ∧ t.phi.rings = s.phi.rings
    ∧ t.phi.cfg.lcState = s.phi.cfg.lcState ∧ t.phi.cfg.lcRows = s.phi.cfg.lcRows ∧ t.hub.storage = s.hub.storage
    ∧ t.hub.fw.state = s.hub.fw.state ∧ t.hub.pairs = s.hub.pairs ∧ t.hub.led = s.hub.led ∧ t.hub.seqs = s.hub.seqs := by
  simp only [execTrappedRead] <;> (repeat' split) <;> first | (simp; done) | (simp [*]; done) | (refine gives_and ?_ (gives_and ?_ (gives_and ?_ (gives_and ?_ (gives_and ?_ (gives_and ?_ (gives_and ?_ (gives_and ?_ (gives_and ?_ (gives_and ?_ (gives_and ?_ (gives_and ?_ (gives_and ?_ (gives_and ?_ (gives_and ?_ (gives_and ?_ ?_))))))))))))))) <;> first | rfl | (simp; done) | (simp [*]; done))

@[simp] theorem execTrappedRead_keeps_tsu (off : Nat) (len : Nat) (s : State) :
    gives (execTrappedRead .tsu off len s) fun t => t.phi = s.phi ∧ t.hub = s.hub := by
  refine gives_and ?_ ?_ <;> first | (simp [execTrappedRead]; done)

@[simp] theorem execTrappedRead_keeps_phi (off : Nat) (len : Nat) (s : State) :
    gives (execTrappedRead .phi off len s) fun t => t.tsu = s.tsu := by simp only [execTrappedRead] <;> (repeat' split) <;> first | rfl | (simp; done) | (simp [*]; done)

@[simp] theorem execTrapReadTimeout_keeps (s : State) :
    gives (execTrapReadTimeout s) fun t => t.pending = s.pending ∧ t.cyc = s.cyc ∧ t.freeNext = s.freeNext
    ∧ t.mdl = s.mdl ∧ t.meter = s.meter ∧ t.die = s.die ∧ t.tsu = s.tsu ∧ t.phi.time = s.phi.time
    ∧ t.phi.rings = s.phi.rings ∧ t.phi.cfg = s.phi.cfg ∧ t.hub.storage = s.hub.storage
    ∧ t.hub.fw.state = s.hub.fw.state ∧ t.hub.pairs = s.hub.pairs ∧ t.hub.led = s.hub.led ∧ t.hub.seqs = s.hub.seqs := by
  simp only [execTrapReadTimeout] <;> (repeat' split) <;> first | (simp; done) | (simp [*]; done) | (refine gives_and ?_ (gives_and ?_ (gives_and ?_ (gives_and ?_ (gives_and ?_ (gives_and ?_ (gives_and ?_ (gives_and ?_ (gives_and ?_ (gives_and ?_ (gives_and ?_ (gives_and ?_ (gives_and ?_ (gives_and ?_ ?_))))))))))))) <;> first | rfl | (simp; done) | (simp [*]; done))

@[simp] theorem execDbNudge_keeps (ring : Nat) (prod : W32) (cons : W32) (s : State) :
    gives (execDbNudge ring prod cons s) fun t => t.pending = s.pending ∧ t.cyc = s.cyc ∧ t.mdl = s.mdl
    ∧ t.meter = s.meter ∧ t.die = s.die ∧ t.tsu = s.tsu ∧ t.phi.time = s.phi.time
    ∧ t.phi.cfg.lcState = s.phi.cfg.lcState ∧ t.phi.cfg.lcRows = s.phi.cfg.lcRows ∧ t.hub.storage = s.hub.storage
    ∧ t.hub.fw.state = s.hub.fw.state ∧ t.hub.pairs = s.hub.pairs ∧ t.hub.led = s.hub.led ∧ t.hub.seqs = s.hub.seqs := by
  simp only [execDbNudge, State.viaWindow, State.fwApply] <;> (repeat' split) <;> first | (simp; done) | (simp [*]; done) | (refine gives_and ?_ (gives_and ?_ (gives_and ?_ (gives_and ?_ (gives_and ?_ (gives_and ?_ (gives_and ?_ (gives_and ?_ (gives_and ?_ (gives_and ?_ (gives_and ?_ (gives_and ?_ (gives_and ?_ ?_)))))))))))) <;> first | rfl | (simp; done) | (simp [*]; done))

@[simp] theorem execLedgerNudge_keeps (cons : W64) (s : State) :
    gives (execLedgerNudge cons s) fun t => t.pending = s.pending ∧ t.cyc = s.cyc ∧ t.mdl = s.mdl ∧ t.meter = s.meter
    ∧ t.die = s.die ∧ t.tsu = s.tsu ∧ t.phi.time = s.phi.time ∧ t.phi.rings = s.phi.rings
    ∧ t.phi.cfg.lcState = s.phi.cfg.lcState ∧ t.phi.cfg.lcRows = s.phi.cfg.lcRows ∧ t.hub.storage = s.hub.storage
    ∧ t.hub.fw.state = s.hub.fw.state ∧ t.hub.pairs = s.hub.pairs ∧ t.hub.seqs = s.hub.seqs := by
  simp only [execLedgerNudge, State.viaWindow, State.fwApply] <;> (repeat' split) <;> first | (simp; done) | (simp [*]; done) | (refine gives_and ?_ (gives_and ?_ (gives_and ?_ (gives_and ?_ (gives_and ?_ (gives_and ?_ (gives_and ?_ (gives_and ?_ (gives_and ?_ (gives_and ?_ (gives_and ?_ (gives_and ?_ (gives_and ?_ ?_)))))))))))) <;> first | rfl | (simp; done) | (simp [*]; done))

@[simp] theorem execWrapClr_keeps (p : Part) (s : State) :
    gives (execWrapClr p s) fun t => t.pending = s.pending ∧ t.cyc = s.cyc ∧ t.mdl = s.mdl ∧ t.meter = s.meter
    ∧ t.die = s.die ∧ t.tsu.time = s.tsu.time ∧ t.tsu.rings = s.tsu.rings ∧ t.tsu.cfg.lcState = s.tsu.cfg.lcState
    ∧ t.tsu.cfg.lcRows = s.tsu.cfg.lcRows ∧ t.phi.time = s.phi.time ∧ t.phi.rings = s.phi.rings
    ∧ t.phi.cfg.lcState = s.phi.cfg.lcState ∧ t.phi.cfg.lcRows = s.phi.cfg.lcRows ∧ t.hub.storage = s.hub.storage
    ∧ t.hub.fw.state = s.hub.fw.state ∧ t.hub.pairs = s.hub.pairs ∧ t.hub.led = s.hub.led ∧ t.hub.seqs = s.hub.seqs := by
  simp only [execWrapClr, State.viaWindow, State.fwApply] <;> (repeat' split) <;> first | (simp; done) | (simp [*]; done) | (refine gives_and ?_ (gives_and ?_ (gives_and ?_ (gives_and ?_ (gives_and ?_ (gives_and ?_ (gives_and ?_ (gives_and ?_ (gives_and ?_ (gives_and ?_ (gives_and ?_ (gives_and ?_ (gives_and ?_ (gives_and ?_ (gives_and ?_ (gives_and ?_ (gives_and ?_ ?_)))))))))))))))) <;> first | rfl | (simp; done) | (simp [*]; done))

@[simp] theorem execWrapClr_keeps_tsu (s : State) :
    gives (execWrapClr .tsu s) fun t => t.phi = s.phi ∧ t.hub = s.hub := by
  refine gives_and ?_ ?_ <;> first | (simp [execWrapClr, State.viaWindow, State.fwApply]; done)

@[simp] theorem execWrapClr_keeps_phi (s : State) :
    gives (execWrapClr .phi s) fun t => t.tsu = s.tsu := by simp only [execWrapClr, State.viaWindow, State.fwApply] <;> (repeat' split) <;> first | rfl | (simp; done) | (simp [*]; done)

@[simp] theorem execLatchNow_keeps (s : State) :
    gives (execLatchNow s) fun t => t.pending = s.pending ∧ t.cyc = s.cyc ∧ t.freeNext = s.freeNext ∧ t.out = s.out
    ∧ t.mdl = s.mdl ∧ t.meter = s.meter ∧ t.die = s.die ∧ t.hub = s.hub ∧ t.phi = s.phi ∧ t.tsu.time = s.tsu.time
    ∧ t.tsu.rings = s.tsu.rings ∧ t.tsu.cfg.lcState = s.tsu.cfg.lcState ∧ t.tsu.cfg.lcRows = s.tsu.cfg.lcRows := by
  refine gives_and ?_ (gives_and ?_ (gives_and ?_ (gives_and ?_ (gives_and ?_ (gives_and ?_ (gives_and ?_ (gives_and ?_ (gives_and ?_ (gives_and ?_ (gives_and ?_ (gives_and ?_ ?_))))))))))) <;> first | (simp [execLatchNow, State.viaWindow, State.fwApply]; done)

end Sys2Proof.Machine
end

