-- ==== Sys2Proof/Laws/Counters.lean ====
section
/-!
SUPPORT. What the operations and meanings of Machine/Counters.lean leave unchanged.
-/

namespace Sys2Proof.Machine

@[simp] theorem State.takeDigest_keeps (s : State) (msg : List Byte) :
    (State.takeDigest s msg).pending = s.pending ∧ (State.takeDigest s msg).cyc = s.cyc
    ∧ (State.takeDigest s msg).freeNext = s.freeNext ∧ (State.takeDigest s msg).out = s.out
    ∧ (State.takeDigest s msg).mdl = s.mdl ∧ (State.takeDigest s msg).meter = s.meter
    ∧ (State.takeDigest s msg).hub = s.hub ∧ (State.takeDigest s msg).phi = s.phi
    ∧ (State.takeDigest s msg).tsu.time = s.tsu.time ∧ (State.takeDigest s msg).tsu.rings = s.tsu.rings
    ∧ (State.takeDigest s msg).tsu.cfg = s.tsu.cfg ∧ (State.takeDigest s msg).die.sync = s.die.sync
    ∧ (State.takeDigest s msg).die.launches = s.die.launches ∧ (State.takeDigest s msg).die.binds = s.die.binds
    ∧ (State.takeDigest s msg).die.coreEn = s.die.coreEn := by
  refine ⟨?_, ?_, ?_, ?_, ?_, ?_, ?_, ?_, ?_, ?_, ?_, ?_, ?_, ?_, ?_⟩ <;> first | (simp [State.takeDigest]; done)

@[simp] theorem execEngineDigest_keeps (msg : List Byte) (s : State) :
    gives (execEngineDigest msg s) fun t => t.pending = s.pending ∧ t.cyc = s.cyc ∧ t.freeNext = s.freeNext
    ∧ t.out = s.out ∧ t.mdl = s.mdl ∧ t.meter = s.meter ∧ t.hub = s.hub ∧ t.phi = s.phi ∧ t.tsu.time = s.tsu.time
    ∧ t.tsu.rings = s.tsu.rings ∧ t.tsu.cfg = s.tsu.cfg ∧ t.die.sync = s.die.sync ∧ t.die.launches = s.die.launches
    ∧ t.die.binds = s.die.binds ∧ t.die.coreEn = s.die.coreEn := by
  refine gives_and ?_ (gives_and ?_ (gives_and ?_ (gives_and ?_ (gives_and ?_ (gives_and ?_ (gives_and ?_ (gives_and ?_ (gives_and ?_ (gives_and ?_ (gives_and ?_ (gives_and ?_ (gives_and ?_ (gives_and ?_ ?_))))))))))))) <;> first | (simp [execEngineDigest]; done)

@[simp] theorem State.formDigest_keeps (s : State) (basin : Nat) :
    (State.formDigest s basin).pending = s.pending ∧ (State.formDigest s basin).cyc = s.cyc
    ∧ (State.formDigest s basin).freeNext = s.freeNext ∧ (State.formDigest s basin).mdl = s.mdl
    ∧ (State.formDigest s basin).meter = s.meter ∧ (State.formDigest s basin).hub = s.hub
    ∧ (State.formDigest s basin).tsu = s.tsu ∧ (State.formDigest s basin).phi = s.phi := by
  simp only [State.formDigest] <;> (repeat' split) <;> first | (simp; done) | (simp [*]; done) | (refine ⟨?_, ?_, ?_, ?_, ?_, ?_, ?_, ?_⟩ <;> first | rfl | (simp; done) | (simp [*]; done))

@[simp] theorem execStepDigestForm_keeps (basin : Nat) (s : State) :
    gives (execStepDigestForm basin s) fun t => t.pending = s.pending ∧ t.cyc = s.cyc ∧ t.freeNext = s.freeNext
    ∧ t.mdl = s.mdl ∧ t.meter = s.meter ∧ t.hub = s.hub ∧ t.tsu = s.tsu ∧ t.phi = s.phi := by
  simp only [execStepDigestForm] <;> (repeat' split) <;> first | (simp; done) | (simp [*]; done) | (refine gives_and ?_ (gives_and ?_ (gives_and ?_ (gives_and ?_ (gives_and ?_ (gives_and ?_ (gives_and ?_ ?_)))))) <;> first | rfl | (simp; done) | (simp [*]; done))

@[simp] theorem State.endDigests_keeps (s : State) :
    (State.endDigests s).pending = s.pending ∧ (State.endDigests s).cyc = s.cyc
    ∧ (State.endDigests s).freeNext = s.freeNext ∧ (State.endDigests s).mdl = s.mdl
    ∧ (State.endDigests s).meter = s.meter ∧ (State.endDigests s).hub = s.hub ∧ (State.endDigests s).tsu = s.tsu
    ∧ (State.endDigests s).phi = s.phi := by
  refine ⟨?_, ?_, ?_, ?_, ?_, ?_, ?_, ?_⟩ <;> first | (simp [State.endDigests]; done)

@[simp] theorem State.addLatch_keeps (s : State) (p : Part) (x : LatchSt) :
    (State.addLatch s p x).pending = s.pending ∧ (State.addLatch s p x).cyc = s.cyc
    ∧ (State.addLatch s p x).freeNext = s.freeNext ∧ (State.addLatch s p x).out = s.out
    ∧ (State.addLatch s p x).mdl = s.mdl ∧ (State.addLatch s p x).meter = s.meter
    ∧ (State.addLatch s p x).die = s.die ∧ (State.addLatch s p x).hub = s.hub
    ∧ (State.addLatch s p x).tsu.time = s.tsu.time ∧ (State.addLatch s p x).tsu.rings = s.tsu.rings
    ∧ (State.addLatch s p x).tsu.cfg = s.tsu.cfg ∧ (State.addLatch s p x).phi.time = s.phi.time
    ∧ (State.addLatch s p x).phi.rings = s.phi.rings ∧ (State.addLatch s p x).phi.cfg = s.phi.cfg := by
  refine ⟨?_, ?_, ?_, ?_, ?_, ?_, ?_, ?_, ?_, ?_, ?_, ?_, ?_, ?_⟩ <;> first | (simp [State.addLatch]; done)

@[simp] theorem State.addLatch_keeps_tsu (s : State) (x : LatchSt) :
    (State.addLatch s .tsu x).phi = s.phi := by simp [State.addLatch]

@[simp] theorem State.addLatch_keeps_phi (s : State) (x : LatchSt) :
    (State.addLatch s .phi x).tsu = s.tsu := by simp [State.addLatch]

@[simp] theorem State.sawLatch_keeps (s : State) (p : Part) (id : W32) :
    (State.sawLatch s p id).pending = s.pending ∧ (State.sawLatch s p id).cyc = s.cyc
    ∧ (State.sawLatch s p id).freeNext = s.freeNext ∧ (State.sawLatch s p id).out = s.out
    ∧ (State.sawLatch s p id).mdl = s.mdl ∧ (State.sawLatch s p id).meter = s.meter
    ∧ (State.sawLatch s p id).die = s.die ∧ (State.sawLatch s p id).hub = s.hub
    ∧ (State.sawLatch s p id).tsu.time = s.tsu.time ∧ (State.sawLatch s p id).tsu.rings = s.tsu.rings
    ∧ (State.sawLatch s p id).tsu.cfg = s.tsu.cfg ∧ (State.sawLatch s p id).phi.time = s.phi.time
    ∧ (State.sawLatch s p id).phi.rings = s.phi.rings ∧ (State.sawLatch s p id).phi.cfg = s.phi.cfg := by
  refine ⟨?_, ?_, ?_, ?_, ?_, ?_, ?_, ?_, ?_, ?_, ?_, ?_, ?_, ?_⟩ <;> first | (simp [State.sawLatch]; done)

@[simp] theorem State.sawLatch_keeps_tsu (s : State) (id : W32) :
    (State.sawLatch s .tsu id).phi = s.phi := by simp [State.sawLatch]

@[simp] theorem State.sawLatch_keeps_phi (s : State) (id : W32) :
    (State.sawLatch s .phi id).tsu = s.tsu := by simp [State.sawLatch]

@[simp] theorem State.takeLatch_keeps (s : State) (p : Part) (port : Nat) (plane : Plane) (f : LatchPl) :
    (State.takeLatch s p port plane f).pending = s.pending ∧ (State.takeLatch s p port plane f).cyc = s.cyc
    ∧ (State.takeLatch s p port plane f).freeNext = s.freeNext ∧ (State.takeLatch s p port plane f).mdl = s.mdl
    ∧ (State.takeLatch s p port plane f).meter = s.meter ∧ (State.takeLatch s p port plane f).die = s.die
    ∧ (State.takeLatch s p port plane f).tsu.time = s.tsu.time
    ∧ (State.takeLatch s p port plane f).tsu.rings = s.tsu.rings
    ∧ (State.takeLatch s p port plane f).tsu.cfg = s.tsu.cfg
    ∧ (State.takeLatch s p port plane f).phi.time = s.phi.time
    ∧ (State.takeLatch s p port plane f).phi.rings = s.phi.rings
    ∧ (State.takeLatch s p port plane f).phi.cfg = s.phi.cfg
    ∧ (State.takeLatch s p port plane f).hub.storage = s.hub.storage
    ∧ (State.takeLatch s p port plane f).hub.fw.state = s.hub.fw.state
    ∧ (State.takeLatch s p port plane f).hub.pairs = s.hub.pairs
    ∧ (State.takeLatch s p port plane f).hub.led = s.hub.led
    ∧ (State.takeLatch s p port plane f).hub.seqs = s.hub.seqs := by
  refine ⟨?_, ?_, ?_, ?_, ?_, ?_, ?_, ?_, ?_, ?_, ?_, ?_, ?_, ?_, ?_, ?_, ?_⟩ <;> first | (simp [State.takeLatch]; done)

@[simp] theorem State.takeLatch_keeps_tsu (s : State) (port : Nat) (plane : Plane) (f : LatchPl) :
    (State.takeLatch s .tsu port plane f).phi = s.phi ∧ (State.takeLatch s .tsu port plane f).hub = s.hub := by
  refine ⟨?_, ?_⟩ <;> first | (simp [State.takeLatch]; done)

@[simp] theorem State.takeLatch_keeps_phi (s : State) (port : Nat) (plane : Plane) (f : LatchPl) :
    (State.takeLatch s .phi port plane f).tsu = s.tsu := by simp [State.takeLatch]

@[simp] theorem execCounterLatch_keeps (ring : Nat) (idx : Nat) (s : State) :
    gives (execCounterLatch ring idx s) fun t => t.pending = s.pending ∧ t.cyc = s.cyc ∧ t.mdl = s.mdl
    ∧ t.meter = s.meter ∧ t.die = s.die ∧ t.tsu = s.tsu ∧ t.phi.time = s.phi.time ∧ t.phi.cfg = s.phi.cfg
    ∧ t.hub.storage = s.hub.storage ∧ t.hub.fw.state = s.hub.fw.state ∧ t.hub.pairs = s.hub.pairs
    ∧ t.hub.led = s.hub.led ∧ t.hub.seqs = s.hub.seqs := by
  simp only [execCounterLatch, State.runDesc] <;> (repeat' split) <;> first | (simp; done) | (simp [*]; done) | (refine gives_and ?_ (gives_and ?_ (gives_and ?_ (gives_and ?_ (gives_and ?_ (gives_and ?_ (gives_and ?_ (gives_and ?_ (gives_and ?_ (gives_and ?_ (gives_and ?_ (gives_and ?_ ?_))))))))))) <;> first | rfl | (simp; done) | (simp [*]; done))

@[simp] theorem execLatchReceive_keeps (p : Part) (port : Nat) (e : Env) (f : LatchPl) (s : State) :
    gives (execLatchReceive p port e f s) fun t => t.pending = s.pending ∧ t.cyc = s.cyc ∧ t.freeNext = s.freeNext
    ∧ t.mdl = s.mdl ∧ t.meter = s.meter ∧ t.die = s.die ∧ t.tsu.time = s.tsu.time ∧ t.tsu.rings = s.tsu.rings
    ∧ t.tsu.cfg = s.tsu.cfg ∧ t.phi.time = s.phi.time ∧ t.phi.rings = s.phi.rings ∧ t.phi.cfg = s.phi.cfg
    ∧ t.hub.storage = s.hub.storage ∧ t.hub.fw.state = s.hub.fw.state ∧ t.hub.pairs = s.hub.pairs
    ∧ t.hub.led = s.hub.led ∧ t.hub.seqs = s.hub.seqs := by
  simp only [execLatchReceive, State.onReliable_eq] <;> (repeat' split) <;> first | (simp; done) | (simp [*]; done) | (refine gives_and ?_ (gives_and ?_ (gives_and ?_ (gives_and ?_ (gives_and ?_ (gives_and ?_ (gives_and ?_ (gives_and ?_ (gives_and ?_ (gives_and ?_ (gives_and ?_ (gives_and ?_ (gives_and ?_ (gives_and ?_ (gives_and ?_ (gives_and ?_ ?_))))))))))))))) <;> first | rfl | (simp; done) | (simp [*]; done) | ((try simp); refine (foldl_pending _ _ _ fun s a => ?_).trans ?_ <;> (repeat' split) <;> first | with_reducible rfl | (simp; done) | (simp [*]; done)) | ((try simp); refine (foldl_cyc _ _ _ fun s a => ?_).trans ?_ <;> (repeat' split) <;> first | with_reducible rfl | (simp; done) | (simp [*]; done)) | ((try simp); refine (foldl_freeNext _ _ _ fun s a => ?_).trans ?_ <;> (repeat' split) <;> first | with_reducible rfl | (simp; done) | (simp [*]; done)) | ((try simp); refine (foldl_mdl _ _ _ fun s a => ?_).trans ?_ <;> (repeat' split) <;> first | with_reducible rfl | (simp; done) | (simp [*]; done)) | ((try simp); refine (foldl_meter _ _ _ fun s a => ?_).trans ?_ <;> (repeat' split) <;> first | with_reducible rfl | (simp; done) | (simp [*]; done)) | ((try simp); refine (foldl_die _ _ _ fun s a => ?_).trans ?_ <;> (repeat' split) <;> first | with_reducible rfl | (simp; done) | (simp [*]; done)) | ((try simp); refine (foldl_tsu_time _ _ _ fun s a => ?_).trans ?_ <;> (repeat' split) <;> first | with_reducible rfl | (simp; done) | (simp [*]; done)) | ((try simp); refine (foldl_tsu_rings _ _ _ fun s a => ?_).trans ?_ <;> (repeat' split) <;> first | with_reducible rfl | (simp; done) | (simp [*]; done)) | ((try simp); refine (foldl_tsu_cfg _ _ _ fun s a => ?_).trans ?_ <;> (repeat' split) <;> first | with_reducible rfl | (simp; done) | (simp [*]; done)) | ((try simp); refine (foldl_phi_time _ _ _ fun s a => ?_).trans ?_ <;> (repeat' split) <;> first | with_reducible rfl | (simp; done) | (simp [*]; done)) | ((try simp); refine (foldl_phi_rings _ _ _ fun s a => ?_).trans ?_ <;> (repeat' split) <;> first | with_reducible rfl | (simp; done) | (simp [*]; done)) | ((try simp); refine (foldl_phi_cfg _ _ _ fun s a => ?_).trans ?_ <;> (repeat' split) <;> first | with_reducible rfl | (simp; done) | (simp [*]; done)) | ((try simp); refine (foldl_hub_storage _ _ _ fun s a => ?_).trans ?_ <;> (repeat' split) <;> first | with_reducible rfl | (simp; done) | (simp [*]; done)) | ((try simp); refine (foldl_hub_fw_state _ _ _ fun s a => ?_).trans ?_ <;> (repeat' split) <;> first | with_reducible rfl | (simp; done) | (simp [*]; done)) | ((try simp); refine (foldl_hub_pairs _ _ _ fun s a => ?_).trans ?_ <;> (repeat' split) <;> first | with_reducible rfl | (simp; done) | (simp [*]; done)) | ((try simp); refine (foldl_hub_led _ _ _ fun s a => ?_).trans ?_ <;> (repeat' split) <;> first | with_reducible rfl | (simp; done) | (simp [*]; done)) | ((try simp); refine (foldl_hub_seqs _ _ _ fun s a => ?_).trans ?_ <;> (repeat' split) <;> first | with_reducible rfl | (simp; done) | (simp [*]; done)))

@[simp] theorem execLatchReceive_keeps_tsu (port : Nat) (e : Env) (f : LatchPl) (s : State) :
    gives (execLatchReceive .tsu port e f s) fun t => t.phi = s.phi ∧ t.hub = s.hub := by
  simp only [execLatchReceive, State.onReliable_eq] <;> (repeat' split) <;> first | (simp; done) | (simp [*]; done) | (refine gives_and ?_ ?_ <;> first | rfl | (simp; done) | (simp [*]; done) | ((try simp); refine (foldl_phi _ _ _ fun s a => ?_).trans ?_ <;> (repeat' split) <;> first | with_reducible rfl | (simp; done) | (simp [*]; done)) | ((try simp); refine (foldl_hub _ _ _ fun s a => ?_).trans ?_ <;> (repeat' split) <;> first | with_reducible rfl | (simp; done) | (simp [*]; done)))

@[simp] theorem execLatchReceive_keeps_phi (port : Nat) (e : Env) (f : LatchPl) (s : State) :
    gives (execLatchReceive .phi port e f s) fun t => t.tsu = s.tsu := by simp only [execLatchReceive, State.onReliable_eq] <;> (repeat' split) <;> first | with_reducible rfl | (simp; done) | (simp [*]; done) | ((try simp); refine (foldl_tsu _ _ _ fun s a => ?_).trans ?_ <;> (repeat' split) <;> first | with_reducible rfl | (simp; done) | (simp [*]; done))

@[simp] theorem execLatchApply_keeps (p : Part) (chain : List (Nat × Nat × W64)) (s : State) :
    gives (execLatchApply p chain s) fun t => t.pending = s.pending ∧ t.cyc = s.cyc ∧ t.mdl = s.mdl ∧ t.meter = s.meter
    ∧ t.die = s.die ∧ t.tsu.time = s.tsu.time ∧ t.tsu.cfg = s.tsu.cfg ∧ t.phi.time = s.phi.time
    ∧ t.phi.cfg = s.phi.cfg ∧ t.hub.storage = s.hub.storage ∧ t.hub.fw.state = s.hub.fw.state
    ∧ t.hub.pairs = s.hub.pairs ∧ t.hub.led = s.hub.led ∧ t.hub.seqs = s.hub.seqs := by
  simp only [execLatchApply] <;> (repeat' split) <;> first | (simp; done) | (simp [*]; done) | (refine gives_and ?_ (gives_and ?_ (gives_and ?_ (gives_and ?_ (gives_and ?_ (gives_and ?_ (gives_and ?_ (gives_and ?_ (gives_and ?_ (gives_and ?_ (gives_and ?_ (gives_and ?_ (gives_and ?_ ?_)))))))))))) <;> first | rfl | (simp; done) | (simp [*]; done))

@[simp] theorem execLatchApply_keeps_tsu (chain : List (Nat × Nat × W64)) (s : State) :
    gives (execLatchApply .tsu chain s) fun t => t.phi = s.phi := by simp only [execLatchApply] <;> (repeat' split) <;> first | rfl | (simp; done) | (simp [*]; done)

@[simp] theorem execLatchApply_keeps_phi (chain : List (Nat × Nat × W64)) (s : State) :
    gives (execLatchApply .phi chain s) fun t => t.tsu = s.tsu := by simp only [execLatchApply] <;> (repeat' split) <;> first | rfl | (simp; done) | (simp [*]; done)

@[simp] theorem State.applyLatch_keeps (s : State) (p : Part) (x : LatchSt) (host : List Counter) :
    (State.applyLatch s p x host).pending = s.pending ∧ (State.applyLatch s p x host).cyc = s.cyc
    ∧ (State.applyLatch s p x host).mdl = s.mdl ∧ (State.applyLatch s p x host).meter = s.meter
    ∧ (State.applyLatch s p x host).die = s.die ∧ (State.applyLatch s p x host).tsu.time = s.tsu.time
    ∧ (State.applyLatch s p x host).tsu.cfg = s.tsu.cfg ∧ (State.applyLatch s p x host).phi.time = s.phi.time
    ∧ (State.applyLatch s p x host).phi.cfg = s.phi.cfg ∧ (State.applyLatch s p x host).hub.storage = s.hub.storage
    ∧ (State.applyLatch s p x host).hub.fw.state = s.hub.fw.state
    ∧ (State.applyLatch s p x host).hub.pairs = s.hub.pairs ∧ (State.applyLatch s p x host).hub.led = s.hub.led
    ∧ (State.applyLatch s p x host).hub.seqs = s.hub.seqs := by
  refine ⟨?_, ?_, ?_, ?_, ?_, ?_, ?_, ?_, ?_, ?_, ?_, ?_, ?_, ?_⟩ <;> first | (simp [State.applyLatch]; done)

@[simp] theorem State.applyLatch_keeps_tsu (s : State) (x : LatchSt) (host : List Counter) :
    (State.applyLatch s .tsu x host).phi = s.phi := by simp only [State.applyLatch] <;> (repeat' split) <;> first | rfl | (simp; done) | (simp [*]; done)

@[simp] theorem State.applyLatch_keeps_phi (s : State) (x : LatchSt) (host : List Counter) :
    (State.applyLatch s .phi x host).tsu = s.tsu := by simp only [State.applyLatch] <;> (repeat' split) <;> first | rfl | (simp; done) | (simp [*]; done)

@[simp] theorem State.endLatches_keeps (s : State) (p : Part) :
    (State.endLatches s p).pending = s.pending ∧ (State.endLatches s p).cyc = s.cyc ∧ (State.endLatches s p).mdl = s.mdl
    ∧ (State.endLatches s p).meter = s.meter ∧ (State.endLatches s p).die = s.die
    ∧ (State.endLatches s p).tsu.time = s.tsu.time ∧ (State.endLatches s p).tsu.cfg = s.tsu.cfg
    ∧ (State.endLatches s p).phi.time = s.phi.time ∧ (State.endLatches s p).phi.cfg = s.phi.cfg
    ∧ (State.endLatches s p).hub.storage = s.hub.storage ∧ (State.endLatches s p).hub.fw.state = s.hub.fw.state
    ∧ (State.endLatches s p).hub.pairs = s.hub.pairs ∧ (State.endLatches s p).hub.led = s.hub.led
    ∧ (State.endLatches s p).hub.seqs = s.hub.seqs := by
  refine ⟨?_, ?_, ?_, ?_, ?_, ?_, ?_, ?_, ?_, ?_, ?_, ?_, ?_, ?_⟩ <;> first | (simp [State.endLatches]; done)

@[simp] theorem State.endLatches_keeps_tsu (s : State) :
    (State.endLatches s .tsu).phi = s.phi := by simp [State.endLatches]

@[simp] theorem State.endLatches_keeps_phi (s : State) :
    (State.endLatches s .phi).tsu = s.tsu := by simp [State.endLatches]

end Sys2Proof.Machine
end

