-- ==== Sys2Proof/Laws/Crypto.lean ====
section
/-!
SUPPORT. Lengths of digests, and the bytes that a part of a byte string holds.
-/

namespace Sys2Proof.Machine

/-- A round keeps the number of working variables. -/
theorem sha2Round_length {w : Nat} (z : Sha2Shape) (v : List (BitVec w)) (kw : BitVec w × BitVec w) :
    (sha2Round z v kw).length = v.length := by
  unfold sha2Round
  split <;> simp

/-- The rounds of a block keep the number of working variables. -/
theorem sha2Rounds_length {w : Nat} (z : Sha2Shape) (l : List (BitVec w × BitVec w)) (v : List (BitVec w)) :
    (l.foldl (sha2Round z) v).length = v.length := by
  induction l generalizing v with
  | nil => rfl
  | cons x xs ih => rw [List.foldl_cons, ih, sha2Round_length]

/-- A block keeps the number of words of the hash value. -/
theorem sha2Block_length {w : Nat} (z : Sha2Shape) (ks hv : List (BitVec w)) (blk : List Byte) :
    (sha2Block z ks hv blk).length = hv.length := by
  simp [sha2Block, sha2Rounds_length]

/-- The blocks of a message keep the number of words of the hash value. -/
theorem sha2Blocks_length {w : Nat} (z : Sha2Shape) (ks : List (BitVec w)) (l : List (List Byte)) (hv : List (BitVec w)) :
    (l.foldl (sha2Block z ks) hv).length = hv.length := by
  induction l generalizing hv with
  | nil => rfl
  | cons x xs ih => rw [List.foldl_cons, ih, sha2Block_length]

/-- The number of bytes of a number is the one asked for. -/
@[simp] theorem leBytes_length (n v : Nat) : (leBytes n v).length = n := by
  induction n generalizing v with
  | zero => rfl
  | succ n ih => simp [leBytes, ih]

/-- A list of words spells as many bytes as each has. -/
theorem flatMap_beBytes_length {w : Nat} (n : Nat) (l : List (BitVec w)) :
    (l.flatMap (fun x => beBytes n x.toNat)).length = l.length * n := by
  induction l with
  | nil => simp
  | cons x xs ih => rw [List.flatMap_cons, List.length_append, ih]; simp [beBytes, Nat.succ_mul, Nat.add_comm]

/-- A digest of SHA-256 has 32 bytes. -/
@[simp] theorem sha256_length (msg : List Byte) : (sha256 msg).length = 32 := by
  unfold sha256 sha2
  simp only []
  rw [flatMap_beBytes_length, sha2Blocks_length]
  rfl

/-- The part of a byte string between two others. -/
theorem slice_mid {a d b : List Byte} {n k : Nat} (ha : a.length = n) (hd : d.length = k) : slice (a ++ (d ++ b)) n k = d := by
  simp [slice, ← ha, ← hd]

/-- The front of a byte string. -/
theorem slice_front {d b : List Byte} {k : Nat} (hd : d.length = k) : slice (d ++ b) 0 k = d := by
  simp [slice, ← hd]

/-- A part of a byte string has the length asked for. -/
@[simp] theorem slice_length (bs : List Byte) (off n : Nat) : (slice bs off n).length = n := by
  simp only [slice, List.length_append, List.length_take, List.length_drop, List.length_replicate]
  omega

end Sys2Proof.Machine
end

