-- ==== Sys2Proof/Laws/Launch.lean ====
section
/-!
SUPPORT. What the operations and meanings of Machine/Launch.lean leave unchanged.
-/

namespace Sys2Proof.Machine

@[simp] theorem State.sendAck_keeps (s : State) (b : Nat) (g : Nat) (step : StepNo) (bell : W32) (entry : BitVec 24) (st : Status) :
    (State.sendAck s b g step bell entry st).pending = s.pending ∧ (State.sendAck s b g step bell entry st).cyc = s.cyc
    ∧ (State.sendAck s b g step bell entry st).freeNext = s.freeNext
    ∧ (State.sendAck s b g step bell entry st).out = s.out ∧ (State.sendAck s b g step bell entry st).mdl = s.mdl
    ∧ (State.sendAck s b g step bell entry st).meter = s.meter
    ∧ (State.sendAck s b g step bell entry st).die = s.die ∧ (State.sendAck s b g step bell entry st).hub = s.hub
    ∧ (State.sendAck s b g step bell entry st).phi = s.phi
    ∧ (State.sendAck s b g step bell entry st).tsu.time = s.tsu.time
    ∧ (State.sendAck s b g step bell entry st).tsu.rings = s.tsu.rings
    ∧ (State.sendAck s b g step bell entry st).tsu.cfg = s.tsu.cfg := by
  refine ⟨?_, ?_, ?_, ?_, ?_, ?_, ?_, ?_, ?_, ?_, ?_, ?_⟩ <;> first | (simp [State.sendAck]; done)

@[simp] theorem State.addBell_keeps (s : State) (p : Part) (k : FrameKey) (bell : W32) :
    (State.addBell s p k bell).pending = s.pending ∧ (State.addBell s p k bell).cyc = s.cyc
    ∧ (State.addBell s p k bell).freeNext = s.freeNext ∧ (State.addBell s p k bell).out = s.out
    ∧ (State.addBell s p k bell).mdl = s.mdl ∧ (State.addBell s p k bell).meter = s.meter
    ∧ (State.addBell s p k bell).die = s.die ∧ (State.addBell s p k bell).hub = s.hub
    ∧ (State.addBell s p k bell).tsu.time = s.tsu.time ∧ (State.addBell s p k bell).tsu.rings = s.tsu.rings
    ∧ (State.addBell s p k bell).tsu.cfg = s.tsu.cfg ∧ (State.addBell s p k bell).phi.time = s.phi.time
    ∧ (State.addBell s p k bell).phi.rings = s.phi.rings ∧ (State.addBell s p k bell).phi.cfg = s.phi.cfg := by
  refine ⟨?_, ?_, ?_, ?_, ?_, ?_, ?_, ?_, ?_, ?_, ?_, ?_, ?_, ?_⟩ <;> first | (simp [State.addBell]; done)

@[simp] theorem State.addBell_keeps_tsu (s : State) (k : FrameKey) (bell : W32) :
    (State.addBell s .tsu k bell).phi = s.phi := by simp [State.addBell]

@[simp] theorem State.addBell_keeps_phi (s : State) (k : FrameKey) (bell : W32) :
    (State.addBell s .phi k bell).tsu = s.tsu := by simp [State.addBell]

@[simp] theorem State.secondBell_keeps (s : State) (l : Launch) (bell : W32) (entry : BitVec 24) :
    (State.secondBell s l bell entry).pending = s.pending ∧ (State.secondBell s l bell entry).cyc = s.cyc
    ∧ (State.secondBell s l bell entry).freeNext = s.freeNext ∧ (State.secondBell s l bell entry).out = s.out
    ∧ (State.secondBell s l bell entry).mdl = s.mdl ∧ (State.secondBell s l bell entry).meter = s.meter
    ∧ (State.secondBell s l bell entry).hub = s.hub ∧ (State.secondBell s l bell entry).phi = s.phi
    ∧ (State.secondBell s l bell entry).tsu.time = s.tsu.time
    ∧ (State.secondBell s l bell entry).tsu.rings = s.tsu.rings
    ∧ (State.secondBell s l bell entry).tsu.cfg = s.tsu.cfg
    ∧ (State.secondBell s l bell entry).die.sync = s.die.sync
    ∧ (State.secondBell s l bell entry).die.dig = s.die.dig
    ∧ (State.secondBell s l bell entry).die.binds = s.die.binds
    ∧ (State.secondBell s l bell entry).die.coreEn = s.die.coreEn := by
  refine ⟨?_, ?_, ?_, ?_, ?_, ?_, ?_, ?_, ?_, ?_, ?_, ?_, ?_, ?_, ?_⟩ <;> first | (simp [State.secondBell]; done)

@[simp] theorem State.judgeAnnounce_keeps (s : State) (b : Nat) (g : Nat) (f : LaunchPl) (l : W64) :
    (State.judgeAnnounce s b g f l).pending = s.pending ∧ (State.judgeAnnounce s b g f l).cyc = s.cyc
    ∧ (State.judgeAnnounce s b g f l).freeNext = s.freeNext ∧ (State.judgeAnnounce s b g f l).out = s.out
    ∧ (State.judgeAnnounce s b g f l).mdl = s.mdl ∧ (State.judgeAnnounce s b g f l).meter = s.meter
    ∧ (State.judgeAnnounce s b g f l).hub = s.hub ∧ (State.judgeAnnounce s b g f l).phi = s.phi
    ∧ (State.judgeAnnounce s b g f l).tsu.time = s.tsu.time
    ∧ (State.judgeAnnounce s b g f l).tsu.rings = s.tsu.rings ∧ (State.judgeAnnounce s b g f l).tsu.cfg = s.tsu.cfg
    ∧ (State.judgeAnnounce s b g f l).die.sync = s.die.sync
    ∧ (State.judgeAnnounce s b g f l).die.launches = s.die.launches
    ∧ (State.judgeAnnounce s b g f l).die.dig = s.die.dig ∧ (State.judgeAnnounce s b g f l).die.binds = s.die.binds
    ∧ (State.judgeAnnounce s b g f l).die.coreEn = s.die.coreEn := by
  simp only [State.judgeAnnounce] <;> (repeat' split) <;> first | (simp; done) | (simp [*]; done) | (refine ⟨?_, ?_, ?_, ?_, ?_, ?_, ?_, ?_, ?_, ?_, ?_, ?_, ?_, ?_, ?_, ?_⟩ <;> first | rfl | (simp; done) | (simp [*]; done))

@[simp] theorem execAnnounceReceive_keeps (port : Nat) (e : Env) (f : LaunchPl) (s : State) :
    gives (execAnnounceReceive port e f s) fun t => t.pending = s.pending ∧ t.cyc = s.cyc ∧ t.freeNext = s.freeNext
    ∧ t.mdl = s.mdl ∧ t.meter = s.meter ∧ t.hub = s.hub ∧ t.phi = s.phi ∧ t.tsu.time = s.tsu.time
    ∧ t.tsu.rings = s.tsu.rings ∧ t.tsu.cfg = s.tsu.cfg ∧ t.die.sync = s.die.sync ∧ t.die.dig = s.die.dig
    ∧ t.die.binds = s.die.binds ∧ t.die.coreEn = s.die.coreEn := by
  simp only [execAnnounceReceive, State.onEngine, State.onReliable_eq] <;> (repeat' split) <;> first | (simp; done) | (simp [*]; done) | (refine gives_and ?_ (gives_and ?_ (gives_and ?_ (gives_and ?_ (gives_and ?_ (gives_and ?_ (gives_and ?_ (gives_and ?_ (gives_and ?_ (gives_and ?_ (gives_and ?_ (gives_and ?_ (gives_and ?_ ?_)))))))))))) <;> first | rfl | (simp; done) | (simp [*]; done) | ((try simp); refine (foldl_pending _ _ _ fun s a => ?_).trans ?_ <;> (repeat' split) <;> first | with_reducible rfl | (simp; done) | (simp [*]; done)) | ((try simp); refine (foldl_cyc _ _ _ fun s a => ?_).trans ?_ <;> (repeat' split) <;> first | with_reducible rfl | (simp; done) | (simp [*]; done)) | ((try simp); refine (foldl_freeNext _ _ _ fun s a => ?_).trans ?_ <;> (repeat' split) <;> first | with_reducible rfl | (simp; done) | (simp [*]; done)) | ((try simp); refine (foldl_mdl _ _ _ fun s a => ?_).trans ?_ <;> (repeat' split) <;> first | with_reducible rfl | (simp; done) | (simp [*]; done)) | ((try simp); refine (foldl_meter _ _ _ fun s a => ?_).trans ?_ <;> (repeat' split) <;> first | with_reducible rfl | (simp; done) | (simp [*]; done)) | ((try simp); refine (foldl_hub _ _ _ fun s a => ?_).trans ?_ <;> (repeat' split) <;> first | with_reducible rfl | (simp; done) | (simp [*]; done)) | ((try simp); refine (foldl_phi _ _ _ fun s a => ?_).trans ?_ <;> (repeat' split) <;> first | with_reducible rfl | (simp; done) | (simp [*]; done)) | ((try simp); refine (foldl_tsu_time _ _ _ fun s a => ?_).trans ?_ <;> (repeat' split) <;> first | with_reducible rfl | (simp; done) | (simp [*]; done)) | ((try simp); refine (foldl_tsu_rings _ _ _ fun s a => ?_).trans ?_ <;> (repeat' split) <;> first | with_reducible rfl | (simp; done) | (simp [*]; done)) | ((try simp); refine (foldl_tsu_cfg _ _ _ fun s a => ?_).trans ?_ <;> (repeat' split) <;> first | with_reducible rfl | (simp; done) | (simp [*]; done)) | ((try simp); refine (foldl_die_sync _ _ _ fun s a => ?_).trans ?_ <;> (repeat' split) <;> first | with_reducible rfl | (simp; done) | (simp [*]; done)) | ((try simp); refine (foldl_die_dig _ _ _ fun s a => ?_).trans ?_ <;> (repeat' split) <;> first | with_reducible rfl | (simp; done) | (simp [*]; done)) | ((try simp); refine (foldl_die_binds _ _ _ fun s a => ?_).trans ?_ <;> (repeat' split) <;> first | with_reducible rfl | (simp; done) | (simp [*]; done)) | ((try simp); refine (foldl_die_coreEn _ _ _ fun s a => ?_).trans ?_ <;> (repeat' split) <;> first | with_reducible rfl | (simp; done) | (simp [*]; done)))

@[simp] theorem State.armSlots_keeps (s : State) (l : Launch) (x2 : List Nat) :
    (State.armSlots s l x2).pending = s.pending ∧ (State.armSlots s l x2).cyc = s.cyc
    ∧ (State.armSlots s l x2).freeNext = s.freeNext ∧ (State.armSlots s l x2).out = s.out := by
  refine ⟨?_, ?_, ?_, ?_⟩ <;> first | (induction x2 generalizing s <;> simp only [State.armSlots] <;> (repeat' split) <;> simp_all; done)

@[simp] theorem State.armSlots_keeps2 (s : State) (l : Launch) (x2 : List Nat) :
    (State.armSlots s l x2).mdl = s.mdl ∧ (State.armSlots s l x2).meter = s.meter ∧ (State.armSlots s l x2).hub = s.hub
    ∧ (State.armSlots s l x2).tsu = s.tsu := by
  refine ⟨?_, ?_, ?_, ?_⟩ <;> first | (induction x2 generalizing s <;> simp only [State.armSlots] <;> (repeat' split) <;> simp_all; done)

@[simp] theorem State.armSlots_keeps3 (s : State) (l : Launch) (x2 : List Nat) :
    (State.armSlots s l x2).phi = s.phi ∧ (State.armSlots s l x2).die.sync = s.die.sync
    ∧ (State.armSlots s l x2).die.launches = s.die.launches ∧ (State.armSlots s l x2).die.dig = s.die.dig := by
  refine ⟨?_, ?_, ?_, ?_⟩ <;> first | (induction x2 generalizing s <;> simp only [State.armSlots] <;> (repeat' split) <;> simp_all; done)

@[simp] theorem State.armSlots_keeps4 (s : State) (l : Launch) (x2 : List Nat) :
    (State.armSlots s l x2).die.binds = s.die.binds ∧ (State.armSlots s l x2).die.coreEn = s.die.coreEn := by
  refine ⟨?_, ?_⟩ <;> first | (induction x2 generalizing s <;> simp only [State.armSlots] <;> (repeat' split) <;> simp_all; done)

@[simp] theorem State.arm_keeps (s : State) (l : Launch) :
    (State.arm s l).pending = s.pending ∧ (State.arm s l).cyc = s.cyc ∧ (State.arm s l).mdl = s.mdl
    ∧ (State.arm s l).meter = s.meter ∧ (State.arm s l).phi = s.phi ∧ (State.arm s l).tsu.time = s.tsu.time
    ∧ (State.arm s l).tsu.cfg = s.tsu.cfg ∧ (State.arm s l).hub.storage = s.hub.storage
    ∧ (State.arm s l).hub.fw.state = s.hub.fw.state ∧ (State.arm s l).hub.pairs = s.hub.pairs
    ∧ (State.arm s l).hub.led = s.hub.led ∧ (State.arm s l).hub.seqs = s.hub.seqs
    ∧ (State.arm s l).die.binds = s.die.binds ∧ (State.arm s l).die.coreEn = s.die.coreEn := by
  refine ⟨?_, ?_, ?_, ?_, ?_, ?_, ?_, ?_, ?_, ?_, ?_, ?_, ?_, ?_⟩ <;> first | (simp [State.arm]; done)

@[simp] theorem State.judgeRow_keeps (s : State) (x : Fetch) (row : List Byte) :
    (State.judgeRow s x row).pending = s.pending ∧ (State.judgeRow s x row).cyc = s.cyc
    ∧ (State.judgeRow s x row).mdl = s.mdl ∧ (State.judgeRow s x row).meter = s.meter
    ∧ (State.judgeRow s x row).phi = s.phi ∧ (State.judgeRow s x row).tsu.time = s.tsu.time
    ∧ (State.judgeRow s x row).tsu.cfg = s.tsu.cfg ∧ (State.judgeRow s x row).hub.storage = s.hub.storage
    ∧ (State.judgeRow s x row).hub.fw.state = s.hub.fw.state ∧ (State.judgeRow s x row).hub.pairs = s.hub.pairs
    ∧ (State.judgeRow s x row).hub.led = s.hub.led ∧ (State.judgeRow s x row).hub.seqs = s.hub.seqs
    ∧ (State.judgeRow s x row).die.binds = s.die.binds ∧ (State.judgeRow s x row).die.coreEn = s.die.coreEn := by
  simp only [State.judgeRow] <;> (repeat' split) <;> first | (simp; done) | (simp [*]; done) | (refine ⟨?_, ?_, ?_, ?_, ?_, ?_, ?_, ?_, ?_, ?_, ?_, ?_, ?_, ?_⟩ <;> first | rfl | (simp; done) | (simp [*]; done))

@[simp] theorem State.dropFetch_keeps (s : State) (x : Fetch) :
    (State.dropFetch s x).pending = s.pending ∧ (State.dropFetch s x).cyc = s.cyc
    ∧ (State.dropFetch s x).freeNext = s.freeNext ∧ (State.dropFetch s x).out = s.out
    ∧ (State.dropFetch s x).mdl = s.mdl ∧ (State.dropFetch s x).meter = s.meter ∧ (State.dropFetch s x).hub = s.hub
    ∧ (State.dropFetch s x).tsu = s.tsu ∧ (State.dropFetch s x).phi = s.phi
    ∧ (State.dropFetch s x).die.sync = s.die.sync ∧ (State.dropFetch s x).die.launches = s.die.launches
    ∧ (State.dropFetch s x).die.dig = s.die.dig ∧ (State.dropFetch s x).die.binds = s.die.binds
    ∧ (State.dropFetch s x).die.coreEn = s.die.coreEn := by
  refine ⟨?_, ?_, ?_, ?_, ?_, ?_, ?_, ?_, ?_, ?_, ?_, ?_, ?_, ?_⟩ <;> first | (simp [State.dropFetch]; done)

@[simp] theorem State.judgeWaiting_keeps (s : State) (x1 : Nat) :
    (State.judgeWaiting s x1).pending = s.pending := by induction x1 generalizing s <;> simp only [State.judgeWaiting] <;> (repeat' split) <;> simp_all

@[simp] theorem State.judgeWaiting_keeps2 (s : State) (x1 : Nat) :
    (State.judgeWaiting s x1).cyc = s.cyc := by induction x1 generalizing s <;> simp only [State.judgeWaiting] <;> (repeat' split) <;> simp_all

@[simp] theorem State.judgeWaiting_keeps3 (s : State) (x1 : Nat) :
    (State.judgeWaiting s x1).mdl = s.mdl := by induction x1 generalizing s <;> simp only [State.judgeWaiting] <;> (repeat' split) <;> simp_all

@[simp] theorem State.judgeWaiting_keeps4 (s : State) (x1 : Nat) :
    (State.judgeWaiting s x1).meter = s.meter := by induction x1 generalizing s <;> simp only [State.judgeWaiting] <;> (repeat' split) <;> simp_all

@[simp] theorem State.judgeWaiting_keeps5 (s : State) (x1 : Nat) :
    (State.judgeWaiting s x1).phi = s.phi := by induction x1 generalizing s <;> simp only [State.judgeWaiting] <;> (repeat' split) <;> simp_all

@[simp] theorem State.judgeWaiting_keeps6 (s : State) (x1 : Nat) :
    (State.judgeWaiting s x1).tsu.time = s.tsu.time := by induction x1 generalizing s <;> simp only [State.judgeWaiting] <;> (repeat' split) <;> simp_all

@[simp] theorem State.judgeWaiting_keeps7 (s : State) (x1 : Nat) :
    (State.judgeWaiting s x1).tsu.cfg = s.tsu.cfg := by induction x1 generalizing s <;> simp only [State.judgeWaiting] <;> (repeat' split) <;> simp_all

@[simp] theorem State.judgeWaiting_keeps8 (s : State) (x1 : Nat) :
    (State.judgeWaiting s x1).hub.storage = s.hub.storage := by induction x1 generalizing s <;> simp only [State.judgeWaiting] <;> (repeat' split) <;> simp_all

@[simp] theorem State.judgeWaiting_keeps9 (s : State) (x1 : Nat) :
    (State.judgeWaiting s x1).hub.fw.state = s.hub.fw.state := by induction x1 generalizing s <;> simp only [State.judgeWaiting] <;> (repeat' split) <;> simp_all

@[simp] theorem State.judgeWaiting_keeps10 (s : State) (x1 : Nat) :
    (State.judgeWaiting s x1).hub.pairs = s.hub.pairs := by induction x1 generalizing s <;> simp only [State.judgeWaiting] <;> (repeat' split) <;> simp_all

@[simp] theorem State.judgeWaiting_keeps11 (s : State) (x1 : Nat) :
    (State.judgeWaiting s x1).hub.led = s.hub.led := by induction x1 generalizing s <;> simp only [State.judgeWaiting] <;> (repeat' split) <;> simp_all

@[simp] theorem State.judgeWaiting_keeps12 (s : State) (x1 : Nat) :
    (State.judgeWaiting s x1).hub.seqs = s.hub.seqs := by induction x1 generalizing s <;> simp only [State.judgeWaiting] <;> (repeat' split) <;> simp_all

@[simp] theorem State.judgeWaiting_keeps13 (s : State) (x1 : Nat) :
    (State.judgeWaiting s x1).die.binds = s.die.binds := by induction x1 generalizing s <;> simp only [State.judgeWaiting] <;> (repeat' split) <;> simp_all

@[simp] theorem State.judgeWaiting_keeps14 (s : State) (x1 : Nat) :
    (State.judgeWaiting s x1).die.coreEn = s.die.coreEn := by induction x1 generalizing s <;> simp only [State.judgeWaiting] <;> (repeat' split) <;> simp_all

@[simp] theorem State.updLaunch_keeps (s : State) (l : Launch) (f : Launch → Launch) :
    (State.updLaunch s l f).pending = s.pending ∧ (State.updLaunch s l f).cyc = s.cyc
    ∧ (State.updLaunch s l f).freeNext = s.freeNext ∧ (State.updLaunch s l f).out = s.out
    ∧ (State.updLaunch s l f).mdl = s.mdl ∧ (State.updLaunch s l f).meter = s.meter
    ∧ (State.updLaunch s l f).hub = s.hub ∧ (State.updLaunch s l f).tsu = s.tsu
    ∧ (State.updLaunch s l f).phi = s.phi ∧ (State.updLaunch s l f).die.sync = s.die.sync
    ∧ (State.updLaunch s l f).die.dig = s.die.dig ∧ (State.updLaunch s l f).die.binds = s.die.binds
    ∧ (State.updLaunch s l f).die.coreEn = s.die.coreEn := by
  refine ⟨?_, ?_, ?_, ?_, ?_, ?_, ?_, ?_, ?_, ?_, ?_, ?_, ?_⟩ <;> first | (simp [State.updLaunch]; done)

@[simp] theorem execCommitReceive_keeps (port : Nat) (e : Env) (f : LaunchPl) (s : State) :
    gives (execCommitReceive port e f s) fun t => t.pending = s.pending ∧ t.cyc = s.cyc ∧ t.freeNext = s.freeNext
    ∧ t.mdl = s.mdl ∧ t.meter = s.meter ∧ t.hub = s.hub ∧ t.phi = s.phi ∧ t.tsu.time = s.tsu.time
    ∧ t.tsu.rings = s.tsu.rings ∧ t.tsu.cfg = s.tsu.cfg ∧ t.die.sync = s.die.sync ∧ t.die.dig = s.die.dig
    ∧ t.die.binds = s.die.binds ∧ t.die.coreEn = s.die.coreEn := by
  simp only [execCommitReceive, State.onEngine, State.onReliable_eq] <;> (repeat' split) <;> first | (simp; done) | (simp [*]; done) | (refine gives_and ?_ (gives_and ?_ (gives_and ?_ (gives_and ?_ (gives_and ?_ (gives_and ?_ (gives_and ?_ (gives_and ?_ (gives_and ?_ (gives_and ?_ (gives_and ?_ (gives_and ?_ (gives_and ?_ ?_)))))))))))) <;> first | rfl | (simp; done) | (simp [*]; done) | ((try simp); refine (foldl_pending _ _ _ fun s a => ?_).trans ?_ <;> (repeat' split) <;> first | with_reducible rfl | (simp; done) | (simp [*]; done)) | ((try simp); refine (foldl_cyc _ _ _ fun s a => ?_).trans ?_ <;> (repeat' split) <;> first | with_reducible rfl | (simp; done) | (simp [*]; done)) | ((try simp); refine (foldl_freeNext _ _ _ fun s a => ?_).trans ?_ <;> (repeat' split) <;> first | with_reducible rfl | (simp; done) | (simp [*]; done)) | ((try simp); refine (foldl_mdl _ _ _ fun s a => ?_).trans ?_ <;> (repeat' split) <;> first | with_reducible rfl | (simp; done) | (simp [*]; done)) | ((try simp); refine (foldl_meter _ _ _ fun s a => ?_).trans ?_ <;> (repeat' split) <;> first | with_reducible rfl | (simp; done) | (simp [*]; done)) | ((try simp); refine (foldl_hub _ _ _ fun s a => ?_).trans ?_ <;> (repeat' split) <;> first | with_reducible rfl | (simp; done) | (simp [*]; done)) | ((try simp); refine (foldl_phi _ _ _ fun s a => ?_).trans ?_ <;> (repeat' split) <;> first | with_reducible rfl | (simp; done) | (simp [*]; done)) | ((try simp); refine (foldl_tsu_time _ _ _ fun s a => ?_).trans ?_ <;> (repeat' split) <;> first | with_reducible rfl | (simp; done) | (simp [*]; done)) | ((try simp); refine (foldl_tsu_rings _ _ _ fun s a => ?_).trans ?_ <;> (repeat' split) <;> first | with_reducible rfl | (simp; done) | (simp [*]; done)) | ((try simp); refine (foldl_tsu_cfg _ _ _ fun s a => ?_).trans ?_ <;> (repeat' split) <;> first | with_reducible rfl | (simp; done) | (simp [*]; done)) | ((try simp); refine (foldl_die_sync _ _ _ fun s a => ?_).trans ?_ <;> (repeat' split) <;> first | with_reducible rfl | (simp; done) | (simp [*]; done)) | ((try simp); refine (foldl_die_dig _ _ _ fun s a => ?_).trans ?_ <;> (repeat' split) <;> first | with_reducible rfl | (simp; done) | (simp [*]; done)) | ((try simp); refine (foldl_die_binds _ _ _ fun s a => ?_).trans ?_ <;> (repeat' split) <;> first | with_reducible rfl | (simp; done) | (simp [*]; done)) | ((try simp); refine (foldl_die_coreEn _ _ _ fun s a => ?_).trans ?_ <;> (repeat' split) <;> first | with_reducible rfl | (simp; done) | (simp [*]; done)))

@[simp] theorem execCommitDeadline_keeps (basin : Nat) (step : StepNo) (s : State) :
    gives (execCommitDeadline basin step s) fun t => t.pending = s.pending ∧ t.cyc = s.cyc ∧ t.mdl = s.mdl
    ∧ t.meter = s.meter ∧ t.phi = s.phi ∧ t.tsu.time = s.tsu.time ∧ t.tsu.cfg = s.tsu.cfg
    ∧ t.hub.storage = s.hub.storage ∧ t.hub.fw.state = s.hub.fw.state ∧ t.hub.pairs = s.hub.pairs
    ∧ t.hub.led = s.hub.led ∧ t.hub.seqs = s.hub.seqs ∧ t.die.binds = s.die.binds ∧ t.die.coreEn = s.die.coreEn := by
  simp only [execCommitDeadline] <;> (repeat' split) <;> first | (simp; done) | (simp [*]; done) | (refine gives_and ?_ (gives_and ?_ (gives_and ?_ (gives_and ?_ (gives_and ?_ (gives_and ?_ (gives_and ?_ (gives_and ?_ (gives_and ?_ (gives_and ?_ (gives_and ?_ (gives_and ?_ (gives_and ?_ ?_)))))))))))) <;> first | rfl | (simp; done) | (simp [*]; done))

@[simp] theorem execFastReadyCheck_keeps (basin : Nat) (step : StepNo) (s : State) :
    gives (execFastReadyCheck basin step s) fun t => t.pending = s.pending ∧ t.cyc = s.cyc ∧ t.mdl = s.mdl
    ∧ t.meter = s.meter ∧ t.phi = s.phi ∧ t.tsu.time = s.tsu.time ∧ t.tsu.cfg = s.tsu.cfg
    ∧ t.hub.storage = s.hub.storage ∧ t.hub.fw.state = s.hub.fw.state ∧ t.hub.pairs = s.hub.pairs
    ∧ t.hub.led = s.hub.led ∧ t.hub.seqs = s.hub.seqs ∧ t.die.binds = s.die.binds ∧ t.die.coreEn = s.die.coreEn := by
  simp only [execFastReadyCheck] <;> (repeat' split) <;> first | (simp; done) | (simp [*]; done) | (refine gives_and ?_ (gives_and ?_ (gives_and ?_ (gives_and ?_ (gives_and ?_ (gives_and ?_ (gives_and ?_ (gives_and ?_ (gives_and ?_ (gives_and ?_ (gives_and ?_ (gives_and ?_ (gives_and ?_ ?_)))))))))))) <;> first | rfl | (simp; done) | (simp [*]; done))

@[simp] theorem State.markStrobed_keeps (s : State) (l : Launch) :
    (State.markStrobed s l).pending = s.pending ∧ (State.markStrobed s l).cyc = s.cyc
    ∧ (State.markStrobed s l).freeNext = s.freeNext ∧ (State.markStrobed s l).out = s.out
    ∧ (State.markStrobed s l).mdl = s.mdl ∧ (State.markStrobed s l).meter = s.meter
    ∧ (State.markStrobed s l).hub = s.hub ∧ (State.markStrobed s l).tsu = s.tsu
    ∧ (State.markStrobed s l).phi = s.phi ∧ (State.markStrobed s l).die.sync = s.die.sync
    ∧ (State.markStrobed s l).die.dig = s.die.dig ∧ (State.markStrobed s l).die.binds = s.die.binds
    ∧ (State.markStrobed s l).die.coreEn = s.die.coreEn := by
  refine ⟨?_, ?_, ?_, ?_, ?_, ?_, ?_, ?_, ?_, ?_, ?_, ?_, ?_⟩ <;> first | (simp [State.markStrobed]; done)

@[simp] theorem execStrobeDecision_keeps (bell : W64) (s : State) :
    gives (execStrobeDecision bell s) fun t => t.pending = s.pending ∧ t.cyc = s.cyc ∧ t.mdl = s.mdl ∧ t.meter = s.meter
    ∧ t.phi = s.phi ∧ t.tsu.time = s.tsu.time ∧ t.tsu.cfg = s.tsu.cfg ∧ t.hub.storage = s.hub.storage
    ∧ t.hub.fw.state = s.hub.fw.state ∧ t.hub.pairs = s.hub.pairs ∧ t.hub.led = s.hub.led ∧ t.hub.seqs = s.hub.seqs
    ∧ t.die.binds = s.die.binds ∧ t.die.coreEn = s.die.coreEn := by
  refine gives_and ?_ (gives_and ?_ (gives_and ?_ (gives_and ?_ (gives_and ?_ (gives_and ?_ (gives_and ?_ (gives_and ?_ (gives_and ?_ (gives_and ?_ (gives_and ?_ (gives_and ?_ (gives_and ?_ ?_)))))))))))) <;> first | (simp [execStrobeDecision]; done)

@[simp] theorem execDelayLineFire_keeps (region : Nat) (bell : W64) (s : State) :
    gives (execDelayLineFire region bell s) fun t => t.pending = s.pending ∧ t.cyc = s.cyc ∧ t.freeNext = s.freeNext
    ∧ t.mdl = s.mdl ∧ t.meter = s.meter ∧ t.hub = s.hub ∧ t.phi = s.phi ∧ t.tsu.time = s.tsu.time
    ∧ t.tsu.rings = s.tsu.rings ∧ t.tsu.cfg = s.tsu.cfg ∧ t.die.sync = s.die.sync ∧ t.die.dig = s.die.dig
    ∧ t.die.binds = s.die.binds ∧ t.die.coreEn = s.die.coreEn := by
  refine gives_and ?_ (gives_and ?_ (gives_and ?_ (gives_and ?_ (gives_and ?_ (gives_and ?_ (gives_and ?_ (gives_and ?_ (gives_and ?_ (gives_and ?_ (gives_and ?_ (gives_and ?_ (gives_and ?_ ?_)))))))))))) <;> first | (simp [execDelayLineFire]; done)

@[simp] theorem execAbortReceive_keeps (port : Nat) (e : Env) (f : LaunchPl) (s : State) :
    gives (execAbortReceive port e f s) fun t => t.pending = s.pending ∧ t.cyc = s.cyc ∧ t.mdl = s.mdl
    ∧ t.meter = s.meter ∧ t.phi = s.phi ∧ t.tsu.time = s.tsu.time ∧ t.tsu.cfg = s.tsu.cfg
    ∧ t.hub.storage = s.hub.storage ∧ t.hub.fw.state = s.hub.fw.state ∧ t.hub.pairs = s.hub.pairs
    ∧ t.hub.led = s.hub.led ∧ t.hub.seqs = s.hub.seqs ∧ t.die.binds = s.die.binds ∧ t.die.coreEn = s.die.coreEn := by
  simp only [execAbortReceive, State.onEngine, State.onReliable_eq] <;> (repeat' split) <;> first | (simp; done) | (simp [*]; done) | (refine gives_and ?_ (gives_and ?_ (gives_and ?_ (gives_and ?_ (gives_and ?_ (gives_and ?_ (gives_and ?_ (gives_and ?_ (gives_and ?_ (gives_and ?_ (gives_and ?_ (gives_and ?_ (gives_and ?_ ?_)))))))))))) <;> first | rfl | (simp; done) | (simp [*]; done) | ((try simp); refine (foldl_pending _ _ _ fun s a => ?_).trans ?_ <;> (repeat' split) <;> first | with_reducible rfl | (simp; done) | (simp [*]; done)) | ((try simp); refine (foldl_cyc _ _ _ fun s a => ?_).trans ?_ <;> (repeat' split) <;> first | with_reducible rfl | (simp; done) | (simp [*]; done)) | ((try simp); refine (foldl_mdl _ _ _ fun s a => ?_).trans ?_ <;> (repeat' split) <;> first | with_reducible rfl | (simp; done) | (simp [*]; done)) | ((try simp); refine (foldl_meter _ _ _ fun s a => ?_).trans ?_ <;> (repeat' split) <;> first | with_reducible rfl | (simp; done) | (simp [*]; done)) | ((try simp); refine (foldl_phi _ _ _ fun s a => ?_).trans ?_ <;> (repeat' split) <;> first | with_reducible rfl | (simp; done) | (simp [*]; done)) | ((try simp); refine (foldl_tsu_time _ _ _ fun s a => ?_).trans ?_ <;> (repeat' split) <;> first | with_reducible rfl | (simp; done) | (simp [*]; done)) | ((try simp); refine (foldl_tsu_cfg _ _ _ fun s a => ?_).trans ?_ <;> (repeat' split) <;> first | with_reducible rfl | (simp; done) | (simp [*]; done)) | ((try simp); refine (foldl_hub_storage _ _ _ fun s a => ?_).trans ?_ <;> (repeat' split) <;> first | with_reducible rfl | (simp; done) | (simp [*]; done)) | ((try simp); refine (foldl_hub_fw_state _ _ _ fun s a => ?_).trans ?_ <;> (repeat' split) <;> first | with_reducible rfl | (simp; done) | (simp [*]; done)) | ((try simp); refine (foldl_hub_pairs _ _ _ fun s a => ?_).trans ?_ <;> (repeat' split) <;> first | with_reducible rfl | (simp; done) | (simp [*]; done)) | ((try simp); refine (foldl_hub_led _ _ _ fun s a => ?_).trans ?_ <;> (repeat' split) <;> first | with_reducible rfl | (simp; done) | (simp [*]; done)) | ((try simp); refine (foldl_hub_seqs _ _ _ fun s a => ?_).trans ?_ <;> (repeat' split) <;> first | with_reducible rfl | (simp; done) | (simp [*]; done)) | ((try simp); refine (foldl_die_binds _ _ _ fun s a => ?_).trans ?_ <;> (repeat' split) <;> first | with_reducible rfl | (simp; done) | (simp [*]; done)) | ((try simp); refine (foldl_die_coreEn _ _ _ fun s a => ?_).trans ?_ <;> (repeat' split) <;> first | with_reducible rfl | (simp; done) | (simp [*]; done)))

@[simp] theorem execSlotDoneWrite_keeps (core : Nat) (slot : Nat) (s : State) :
    gives (execSlotDoneWrite core slot s) fun t => t.pending = s.pending ∧ t.cyc = s.cyc ∧ t.freeNext = s.freeNext
    ∧ t.out = s.out ∧ t.mdl = s.mdl ∧ t.meter = s.meter ∧ t.hub = s.hub ∧ t.tsu = s.tsu ∧ t.phi = s.phi
    ∧ t.die.sync = s.die.sync ∧ t.die.binds = s.die.binds ∧ t.die.coreEn = s.die.coreEn := by
  refine gives_and ?_ (gives_and ?_ (gives_and ?_ (gives_and ?_ (gives_and ?_ (gives_and ?_ (gives_and ?_ (gives_and ?_ (gives_and ?_ (gives_and ?_ (gives_and ?_ ?_)))))))))) <;> first | (simp [execSlotDoneWrite]; done)

@[simp] theorem execBasinAttach_keeps (ring : Nat) (idx : Nat) (s : State) :
    gives (execBasinAttach ring idx s) fun t => t.pending = s.pending ∧ t.cyc = s.cyc ∧ t.mdl = s.mdl
    ∧ t.meter = s.meter ∧ t.phi = s.phi ∧ t.tsu.time = s.tsu.time ∧ t.tsu.cfg = s.tsu.cfg
    ∧ t.hub.storage = s.hub.storage ∧ t.hub.fw.state = s.hub.fw.state ∧ t.hub.pairs = s.hub.pairs
    ∧ t.hub.led = s.hub.led ∧ t.hub.seqs = s.hub.seqs ∧ t.die.sync = s.die.sync ∧ t.die.launches = s.die.launches
    ∧ t.die.dig = s.die.dig ∧ t.die.binds = s.die.binds ∧ t.die.coreEn = s.die.coreEn := by
  simp only [execBasinAttach, State.runDesc] <;> (repeat' split) <;> first | (simp; done) | (simp [*]; done) | (refine gives_and ?_ (gives_and ?_ (gives_and ?_ (gives_and ?_ (gives_and ?_ (gives_and ?_ (gives_and ?_ (gives_and ?_ (gives_and ?_ (gives_and ?_ (gives_and ?_ (gives_and ?_ (gives_and ?_ (gives_and ?_ (gives_and ?_ (gives_and ?_ ?_))))))))))))))) <;> first | rfl | (simp; done) | (simp [*]; done))

@[simp] theorem execCoresetWrite_keeps (ring : Nat) (idx : Nat) (s : State) :
    gives (execCoresetWrite ring idx s) fun t => t.pending = s.pending ∧ t.cyc = s.cyc ∧ t.mdl = s.mdl
    ∧ t.meter = s.meter ∧ t.phi = s.phi ∧ t.tsu.time = s.tsu.time ∧ t.tsu.cfg = s.tsu.cfg
    ∧ t.hub.storage = s.hub.storage ∧ t.hub.fw.state = s.hub.fw.state ∧ t.hub.pairs = s.hub.pairs
    ∧ t.hub.led = s.hub.led ∧ t.hub.seqs = s.hub.seqs ∧ t.die.sync = s.die.sync ∧ t.die.launches = s.die.launches
    ∧ t.die.dig = s.die.dig ∧ t.die.binds = s.die.binds ∧ t.die.coreEn = s.die.coreEn := by
  simp only [execCoresetWrite, State.runDesc] <;> (repeat' split) <;> first | (simp; done) | (simp [*]; done) | (refine gives_and ?_ (gives_and ?_ (gives_and ?_ (gives_and ?_ (gives_and ?_ (gives_and ?_ (gives_and ?_ (gives_and ?_ (gives_and ?_ (gives_and ?_ (gives_and ?_ (gives_and ?_ (gives_and ?_ (gives_and ?_ (gives_and ?_ (gives_and ?_ ?_))))))))))))))) <;> first | rfl | (simp; done) | (simp [*]; done))

@[simp] theorem execSoftRequest_keeps (request : Nat) (s : State) :
    gives (execSoftRequest request s) fun t => t.pending = s.pending ∧ t.cyc = s.cyc ∧ t.freeNext = s.freeNext
    ∧ t.mdl = s.mdl ∧ t.meter = s.meter ∧ t.hub = s.hub ∧ t.tsu = s.tsu ∧ t.phi = s.phi ∧ t.die.sync = s.die.sync
    ∧ t.die.launches = s.die.launches ∧ t.die.dig = s.die.dig ∧ t.die.binds = s.die.binds
    ∧ t.die.coreEn = s.die.coreEn := by
  refine gives_and ?_ (gives_and ?_ (gives_and ?_ (gives_and ?_ (gives_and ?_ (gives_and ?_ (gives_and ?_ (gives_and ?_ (gives_and ?_ (gives_and ?_ (gives_and ?_ (gives_and ?_ ?_))))))))))) <;> first | (simp [execSoftRequest]; done)

@[simp] theorem execSoftRequestGrant_keeps (s : State) :
    gives (execSoftRequestGrant s) fun t => t.pending = s.pending ∧ t.cyc = s.cyc ∧ t.freeNext = s.freeNext
    ∧ t.mdl = s.mdl ∧ t.meter = s.meter ∧ t.hub = s.hub ∧ t.tsu = s.tsu ∧ t.phi = s.phi ∧ t.die.sync = s.die.sync
    ∧ t.die.launches = s.die.launches ∧ t.die.dig = s.die.dig ∧ t.die.binds = s.die.binds
    ∧ t.die.coreEn = s.die.coreEn := by
  refine gives_and ?_ (gives_and ?_ (gives_and ?_ (gives_and ?_ (gives_and ?_ (gives_and ?_ (gives_and ?_ (gives_and ?_ (gives_and ?_ (gives_and ?_ (gives_and ?_ (gives_and ?_ ?_))))))))))) <;> first | (simp [execSoftRequestGrant]; done)

@[simp] theorem execThrottleDeferTimeout_keeps (request : Nat) (s : State) :
    gives (execThrottleDeferTimeout request s) fun t => t.pending = s.pending ∧ t.cyc = s.cyc ∧ t.freeNext = s.freeNext
    ∧ t.mdl = s.mdl ∧ t.meter = s.meter ∧ t.hub = s.hub ∧ t.phi = s.phi ∧ t.tsu.time = s.tsu.time
    ∧ t.tsu.rings = s.tsu.rings ∧ t.tsu.cfg = s.tsu.cfg ∧ t.die.sync = s.die.sync ∧ t.die.launches = s.die.launches
    ∧ t.die.dig = s.die.dig ∧ t.die.binds = s.die.binds ∧ t.die.coreEn = s.die.coreEn := by
  simp only [execThrottleDeferTimeout] <;> (repeat' split) <;> first | (simp; done) | (simp [*]; done) | (refine gives_and ?_ (gives_and ?_ (gives_and ?_ (gives_and ?_ (gives_and ?_ (gives_and ?_ (gives_and ?_ (gives_and ?_ (gives_and ?_ (gives_and ?_ (gives_and ?_ (gives_and ?_ (gives_and ?_ (gives_and ?_ ?_))))))))))))) <;> first | rfl | (simp; done) | (simp [*]; done))

@[simp] theorem execHardLimit_keeps (s : State) :
    gives (execHardLimit s) fun t => t.pending = s.pending ∧ t.cyc = s.cyc ∧ t.freeNext = s.freeNext ∧ t.out = s.out
    ∧ t.mdl = s.mdl ∧ t.meter = s.meter ∧ t.die = s.die ∧ t.hub = s.hub ∧ t.phi = s.phi ∧ t.tsu.time = s.tsu.time
    ∧ t.tsu.rings = s.tsu.rings ∧ t.tsu.cfg = s.tsu.cfg := by
  refine gives_and ?_ (gives_and ?_ (gives_and ?_ (gives_and ?_ (gives_and ?_ (gives_and ?_ (gives_and ?_ (gives_and ?_ (gives_and ?_ (gives_and ?_ (gives_and ?_ ?_)))))))))) <;> first | (simp [execHardLimit]; done)

@[simp] theorem State.sendMember_keeps (s : State) (b : Nat) (g : Nat) (action : Nat) (tear : Bool) (step : StepNo) :
    (State.sendMember s b g action tear step).pending = s.pending
    ∧ (State.sendMember s b g action tear step).cyc = s.cyc
    ∧ (State.sendMember s b g action tear step).freeNext = s.freeNext
    ∧ (State.sendMember s b g action tear step).out = s.out ∧ (State.sendMember s b g action tear step).mdl = s.mdl
    ∧ (State.sendMember s b g action tear step).meter = s.meter
    ∧ (State.sendMember s b g action tear step).die = s.die ∧ (State.sendMember s b g action tear step).hub = s.hub
    ∧ (State.sendMember s b g action tear step).phi = s.phi
    ∧ (State.sendMember s b g action tear step).tsu.time = s.tsu.time
    ∧ (State.sendMember s b g action tear step).tsu.rings = s.tsu.rings
    ∧ (State.sendMember s b g action tear step).tsu.cfg = s.tsu.cfg := by
  refine ⟨?_, ?_, ?_, ?_, ?_, ?_, ?_, ?_, ?_, ?_, ?_, ?_⟩ <;> first | (simp [State.sendMember]; done)

@[simp] theorem execMemberReceive_keeps (port : Nat) (e : Env) (f : MemberPl) (s : State) :
    gives (execMemberReceive port e f s) fun t => t.pending = s.pending ∧ t.cyc = s.cyc ∧ t.mdl = s.mdl
    ∧ t.meter = s.meter ∧ t.phi = s.phi ∧ t.tsu.time = s.tsu.time ∧ t.tsu.cfg = s.tsu.cfg
    ∧ t.hub.storage = s.hub.storage ∧ t.hub.fw.state = s.hub.fw.state ∧ t.hub.pairs = s.hub.pairs
    ∧ t.hub.led = s.hub.led ∧ t.hub.seqs = s.hub.seqs ∧ t.die.binds = s.die.binds ∧ t.die.coreEn = s.die.coreEn := by
  simp only [execMemberReceive, State.onEngine, State.onReliable_eq] <;> (repeat' split) <;> first | (simp; done) | (simp [*]; done) | (refine gives_and ?_ (gives_and ?_ (gives_and ?_ (gives_and ?_ (gives_and ?_ (gives_and ?_ (gives_and ?_ (gives_and ?_ (gives_and ?_ (gives_and ?_ (gives_and ?_ (gives_and ?_ (gives_and ?_ ?_)))))))))))) <;> first | rfl | (simp; done) | (simp [*]; done) | ((try simp); refine (foldl_pending _ _ _ fun s a => ?_).trans ?_ <;> (repeat' split) <;> first | with_reducible rfl | (simp; done) | (simp [*]; done)) | ((try simp); refine (foldl_cyc _ _ _ fun s a => ?_).trans ?_ <;> (repeat' split) <;> first | with_reducible rfl | (simp; done) | (simp [*]; done)) | ((try simp); refine (foldl_mdl _ _ _ fun s a => ?_).trans ?_ <;> (repeat' split) <;> first | with_reducible rfl | (simp; done) | (simp [*]; done)) | ((try simp); refine (foldl_meter _ _ _ fun s a => ?_).trans ?_ <;> (repeat' split) <;> first | with_reducible rfl | (simp; done) | (simp [*]; done)) | ((try simp); refine (foldl_phi _ _ _ fun s a => ?_).trans ?_ <;> (repeat' split) <;> first | with_reducible rfl | (simp; done) | (simp [*]; done)) | ((try simp); refine (foldl_tsu_time _ _ _ fun s a => ?_).trans ?_ <;> (repeat' split) <;> first | with_reducible rfl | (simp; done) | (simp [*]; done)) | ((try simp); refine (foldl_tsu_cfg _ _ _ fun s a => ?_).trans ?_ <;> (repeat' split) <;> first | with_reducible rfl | (simp; done) | (simp [*]; done)) | ((try simp); refine (foldl_hub_storage _ _ _ fun s a => ?_).trans ?_ <;> (repeat' split) <;> first | with_reducible rfl | (simp; done) | (simp [*]; done)) | ((try simp); refine (foldl_hub_fw_state _ _ _ fun s a => ?_).trans ?_ <;> (repeat' split) <;> first | with_reducible rfl | (simp; done) | (simp [*]; done)) | ((try simp); refine (foldl_hub_pairs _ _ _ fun s a => ?_).trans ?_ <;> (repeat' split) <;> first | with_reducible rfl | (simp; done) | (simp [*]; done)) | ((try simp); refine (foldl_hub_led _ _ _ fun s a => ?_).trans ?_ <;> (repeat' split) <;> first | with_reducible rfl | (simp; done) | (simp [*]; done)) | ((try simp); refine (foldl_hub_seqs _ _ _ fun s a => ?_).trans ?_ <;> (repeat' split) <;> first | with_reducible rfl | (simp; done) | (simp [*]; done)) | ((try simp); refine (foldl_die_binds _ _ _ fun s a => ?_).trans ?_ <;> (repeat' split) <;> first | with_reducible rfl | (simp; done) | (simp [*]; done)) | ((try simp); refine (foldl_die_coreEn _ _ _ fun s a => ?_).trans ?_ <;> (repeat' split) <;> first | with_reducible rfl | (simp; done) | (simp [*]; done)))

@[simp] theorem execBasinPurgeComplete_keeps (basin : Nat) (s : State) :
    gives (execBasinPurgeComplete basin s) fun t => t.pending = s.pending ∧ t.cyc = s.cyc ∧ t.freeNext = s.freeNext
    ∧ t.out = s.out ∧ t.mdl = s.mdl ∧ t.meter = s.meter ∧ t.hub = s.hub ∧ t.phi = s.phi ∧ t.tsu.time = s.tsu.time
    ∧ t.tsu.rings = s.tsu.rings ∧ t.tsu.cfg = s.tsu.cfg ∧ t.die.sync = s.die.sync ∧ t.die.launches = s.die.launches
    ∧ t.die.dig = s.die.dig ∧ t.die.binds = s.die.binds ∧ t.die.coreEn = s.die.coreEn := by
  simp only [execBasinPurgeComplete] <;> (repeat' split) <;> first | (simp; done) | (simp [*]; done) | (refine gives_and ?_ (gives_and ?_ (gives_and ?_ (gives_and ?_ (gives_and ?_ (gives_and ?_ (gives_and ?_ (gives_and ?_ (gives_and ?_ (gives_and ?_ (gives_and ?_ (gives_and ?_ (gives_and ?_ (gives_and ?_ (gives_and ?_ ?_)))))))))))))) <;> first | rfl | (simp; done) | (simp [*]; done))

end Sys2Proof.Machine
end

