-- ==== Sys2Proof/Laws/SyncOps.lean ====
section
/-!
SUPPORT. What the operations and meanings of Machine/SyncOps.lean leave unchanged.
-/

namespace Sys2Proof.Machine

@[simp] theorem State.respond_keeps (s : State) (w : Who) (st : Status) (v : W32) :
    (State.respond s w st v).pending = s.pending ∧ (State.respond s w st v).cyc = s.cyc
    ∧ (State.respond s w st v).mdl = s.mdl ∧ (State.respond s w st v).meter = s.meter
    ∧ (State.respond s w st v).die = s.die ∧ (State.respond s w st v).phi = s.phi
    ∧ (State.respond s w st v).tsu.time = s.tsu.time ∧ (State.respond s w st v).tsu.cfg = s.tsu.cfg
    ∧ (State.respond s w st v).hub.storage = s.hub.storage ∧ (State.respond s w st v).hub.fw.state = s.hub.fw.state
    ∧ (State.respond s w st v).hub.pairs = s.hub.pairs ∧ (State.respond s w st v).hub.led = s.hub.led
    ∧ (State.respond s w st v).hub.seqs = s.hub.seqs := by
  simp only [State.respond] <;> (repeat' split) <;> first | (simp; done) | (simp [*]; done) | (refine ⟨?_, ?_, ?_, ?_, ?_, ?_, ?_, ?_, ?_, ?_, ?_, ?_, ?_⟩ <;> first | rfl | (simp; done) | (simp [*]; done))

@[simp] theorem State.refuse_keeps (s : State) (w : Who) (st : Status) :
    (State.refuse s w st).pending = s.pending ∧ (State.refuse s w st).cyc = s.cyc ∧ (State.refuse s w st).mdl = s.mdl
    ∧ (State.refuse s w st).meter = s.meter ∧ (State.refuse s w st).die = s.die ∧ (State.refuse s w st).phi = s.phi
    ∧ (State.refuse s w st).tsu.time = s.tsu.time ∧ (State.refuse s w st).tsu.cfg = s.tsu.cfg
    ∧ (State.refuse s w st).hub.storage = s.hub.storage ∧ (State.refuse s w st).hub.fw.state = s.hub.fw.state
    ∧ (State.refuse s w st).hub.pairs = s.hub.pairs ∧ (State.refuse s w st).hub.led = s.hub.led
    ∧ (State.refuse s w st).hub.seqs = s.hub.seqs := by
  refine ⟨?_, ?_, ?_, ?_, ?_, ?_, ?_, ?_, ?_, ?_, ?_, ?_, ?_⟩ <;> first | (simp [State.refuse]; done)

@[simp] theorem State.addWaiter_keeps (s : State) (w : Who) (r : SyncReq) (operand : W32) :
    (State.addWaiter s w r operand).pending = s.pending ∧ (State.addWaiter s w r operand).cyc = s.cyc
    ∧ (State.addWaiter s w r operand).freeNext = s.freeNext ∧ (State.addWaiter s w r operand).mdl = s.mdl
    ∧ (State.addWaiter s w r operand).meter = s.meter ∧ (State.addWaiter s w r operand).hub = s.hub
    ∧ (State.addWaiter s w r operand).tsu = s.tsu ∧ (State.addWaiter s w r operand).phi = s.phi
    ∧ (State.addWaiter s w r operand).die.launches = s.die.launches
    ∧ (State.addWaiter s w r operand).die.dig = s.die.dig ∧ (State.addWaiter s w r operand).die.binds = s.die.binds
    ∧ (State.addWaiter s w r operand).die.coreEn = s.die.coreEn := by
  simp only [State.addWaiter] <;> (repeat' split) <;> first | (simp; done) | (simp [*]; done) | (refine ⟨?_, ?_, ?_, ?_, ?_, ?_, ?_, ?_, ?_, ?_, ?_, ?_⟩ <;> first | rfl | (simp; done) | (simp [*]; done))

@[simp] theorem State.arriveGate_keeps (s : State) (g : Nat) (who : Nat) :
    ((State.arriveGate s g who).2).pending = s.pending ∧ ((State.arriveGate s g who).2).cyc = s.cyc
    ∧ ((State.arriveGate s g who).2).freeNext = s.freeNext ∧ ((State.arriveGate s g who).2).out = s.out
    ∧ ((State.arriveGate s g who).2).mdl = s.mdl ∧ ((State.arriveGate s g who).2).meter = s.meter
    ∧ ((State.arriveGate s g who).2).hub = s.hub ∧ ((State.arriveGate s g who).2).tsu = s.tsu
    ∧ ((State.arriveGate s g who).2).phi = s.phi ∧ ((State.arriveGate s g who).2).die.launches = s.die.launches
    ∧ ((State.arriveGate s g who).2).die.dig = s.die.dig ∧ ((State.arriveGate s g who).2).die.binds = s.die.binds
    ∧ ((State.arriveGate s g who).2).die.coreEn = s.die.coreEn := by
  simp only [State.arriveGate] <;> (repeat' split) <;> first | (simp; done) | (simp [*]; done) | (refine ⟨?_, ?_, ?_, ?_, ?_, ?_, ?_, ?_, ?_, ?_, ?_, ?_, ?_⟩ <;> first | rfl | (simp; done) | (simp [*]; done))

@[simp] theorem State.doSync_keeps (s : State) (w : Who) (r : SyncReq) :
    (State.doSync s w r).pending = s.pending ∧ (State.doSync s w r).cyc = s.cyc ∧ (State.doSync s w r).mdl = s.mdl
    ∧ (State.doSync s w r).meter = s.meter ∧ (State.doSync s w r).phi = s.phi
    ∧ (State.doSync s w r).tsu.time = s.tsu.time ∧ (State.doSync s w r).tsu.cfg = s.tsu.cfg
    ∧ (State.doSync s w r).hub.storage = s.hub.storage ∧ (State.doSync s w r).hub.fw.state = s.hub.fw.state
    ∧ (State.doSync s w r).hub.pairs = s.hub.pairs ∧ (State.doSync s w r).hub.led = s.hub.led
    ∧ (State.doSync s w r).hub.seqs = s.hub.seqs ∧ (State.doSync s w r).die.launches = s.die.launches
    ∧ (State.doSync s w r).die.dig = s.die.dig ∧ (State.doSync s w r).die.binds = s.die.binds
    ∧ (State.doSync s w r).die.coreEn = s.die.coreEn := by
  simp only [State.doSync] <;> (repeat' split) <;> first | (simp; done) | (simp [*]; done) | (refine ⟨?_, ?_, ?_, ?_, ?_, ?_, ?_, ?_, ?_, ?_, ?_, ?_, ?_, ?_, ?_, ?_⟩ <;> first | rfl | (simp; done) | (simp [*]; done))

@[simp] theorem State.markDouble_keeps (s : State) (w : Who) (r : SyncReq) :
    (State.markDouble s w r).pending = s.pending ∧ (State.markDouble s w r).cyc = s.cyc
    ∧ (State.markDouble s w r).freeNext = s.freeNext ∧ (State.markDouble s w r).out = s.out
    ∧ (State.markDouble s w r).mdl = s.mdl ∧ (State.markDouble s w r).meter = s.meter
    ∧ (State.markDouble s w r).hub = s.hub ∧ (State.markDouble s w r).tsu = s.tsu
    ∧ (State.markDouble s w r).phi = s.phi ∧ (State.markDouble s w r).die.launches = s.die.launches
    ∧ (State.markDouble s w r).die.dig = s.die.dig ∧ (State.markDouble s w r).die.binds = s.die.binds
    ∧ (State.markDouble s w r).die.coreEn = s.die.coreEn := by
  simp only [State.markDouble] <;> (repeat' split) <;> first | (simp; done) | (simp [*]; done) | (refine ⟨?_, ?_, ?_, ?_, ?_, ?_, ?_, ?_, ?_, ?_, ?_, ?_, ?_⟩ <;> first | rfl | (simp; done) | (simp [*]; done))

@[simp] theorem State.syncRequest_keeps (s : State) (w : Who) (r : SyncReq) :
    (State.syncRequest s w r).pending = s.pending ∧ (State.syncRequest s w r).cyc = s.cyc
    ∧ (State.syncRequest s w r).mdl = s.mdl ∧ (State.syncRequest s w r).meter = s.meter
    ∧ (State.syncRequest s w r).phi = s.phi ∧ (State.syncRequest s w r).tsu.time = s.tsu.time
    ∧ (State.syncRequest s w r).tsu.cfg = s.tsu.cfg ∧ (State.syncRequest s w r).hub.storage = s.hub.storage
    ∧ (State.syncRequest s w r).hub.fw.state = s.hub.fw.state ∧ (State.syncRequest s w r).hub.pairs = s.hub.pairs
    ∧ (State.syncRequest s w r).hub.led = s.hub.led ∧ (State.syncRequest s w r).hub.seqs = s.hub.seqs
    ∧ (State.syncRequest s w r).die.launches = s.die.launches ∧ (State.syncRequest s w r).die.dig = s.die.dig
    ∧ (State.syncRequest s w r).die.binds = s.die.binds ∧ (State.syncRequest s w r).die.coreEn = s.die.coreEn := by
  simp only [State.syncRequest] <;> (repeat' split) <;> first | (simp; done) | (simp [*]; done) | (refine ⟨?_, ?_, ?_, ?_, ?_, ?_, ?_, ?_, ?_, ?_, ?_, ?_, ?_, ?_, ?_, ?_⟩ <;> first | rfl | (simp; done) | (simp [*]; done))

@[simp] theorem State.markTimeout_keeps (s : State) (x : Waiter) :
    (State.markTimeout s x).pending = s.pending ∧ (State.markTimeout s x).cyc = s.cyc
    ∧ (State.markTimeout s x).freeNext = s.freeNext ∧ (State.markTimeout s x).out = s.out
    ∧ (State.markTimeout s x).mdl = s.mdl ∧ (State.markTimeout s x).meter = s.meter
    ∧ (State.markTimeout s x).hub = s.hub ∧ (State.markTimeout s x).tsu = s.tsu
    ∧ (State.markTimeout s x).phi = s.phi ∧ (State.markTimeout s x).die.launches = s.die.launches
    ∧ (State.markTimeout s x).die.dig = s.die.dig ∧ (State.markTimeout s x).die.binds = s.die.binds
    ∧ (State.markTimeout s x).die.coreEn = s.die.coreEn := by
  refine ⟨?_, ?_, ?_, ?_, ?_, ?_, ?_, ?_, ?_, ?_, ?_, ?_, ?_⟩ <;> first | (simp [State.markTimeout]; done)

@[simp] theorem State.putDump_keeps (s : State) (addr : Nat) (bytes : List Byte) :
    (State.putDump s addr bytes).pending = s.pending ∧ (State.putDump s addr bytes).cyc = s.cyc
    ∧ (State.putDump s addr bytes).freeNext = s.freeNext ∧ (State.putDump s addr bytes).mdl = s.mdl
    ∧ (State.putDump s addr bytes).meter = s.meter ∧ (State.putDump s addr bytes).hub = s.hub
    ∧ (State.putDump s addr bytes).tsu = s.tsu ∧ (State.putDump s addr bytes).phi = s.phi
    ∧ (State.putDump s addr bytes).die.launches = s.die.launches ∧ (State.putDump s addr bytes).die.dig = s.die.dig
    ∧ (State.putDump s addr bytes).die.binds = s.die.binds ∧ (State.putDump s addr bytes).die.coreEn = s.die.coreEn := by
  refine ⟨?_, ?_, ?_, ?_, ?_, ?_, ?_, ?_, ?_, ?_, ?_, ?_⟩ <;> first | (simp [State.putDump]; done)

@[simp] theorem State.syncDump_keeps (s : State) (addr : Nat) (trigger : Nat) (cause : W16) :
    (State.syncDump s addr trigger cause).pending = s.pending ∧ (State.syncDump s addr trigger cause).cyc = s.cyc
    ∧ (State.syncDump s addr trigger cause).freeNext = s.freeNext
    ∧ (State.syncDump s addr trigger cause).mdl = s.mdl ∧ (State.syncDump s addr trigger cause).meter = s.meter
    ∧ (State.syncDump s addr trigger cause).hub = s.hub ∧ (State.syncDump s addr trigger cause).tsu = s.tsu
    ∧ (State.syncDump s addr trigger cause).phi = s.phi
    ∧ (State.syncDump s addr trigger cause).die.launches = s.die.launches
    ∧ (State.syncDump s addr trigger cause).die.dig = s.die.dig
    ∧ (State.syncDump s addr trigger cause).die.binds = s.die.binds
    ∧ (State.syncDump s addr trigger cause).die.coreEn = s.die.coreEn := by
  refine ⟨?_, ?_, ?_, ?_, ?_, ?_, ?_, ?_, ?_, ?_, ?_, ?_⟩ <;> first | (simp [State.syncDump]; done)

@[simp] theorem State.applySignal_keeps (s : State) (e : PendEntry) :
    (State.applySignal s e).pending = s.pending ∧ (State.applySignal s e).cyc = s.cyc
    ∧ (State.applySignal s e).mdl = s.mdl ∧ (State.applySignal s e).meter = s.meter
    ∧ (State.applySignal s e).phi = s.phi ∧ (State.applySignal s e).tsu.time = s.tsu.time
    ∧ (State.applySignal s e).tsu.cfg = s.tsu.cfg ∧ (State.applySignal s e).hub.storage = s.hub.storage
    ∧ (State.applySignal s e).hub.fw.state = s.hub.fw.state ∧ (State.applySignal s e).hub.pairs = s.hub.pairs
    ∧ (State.applySignal s e).hub.led = s.hub.led ∧ (State.applySignal s e).hub.seqs = s.hub.seqs
    ∧ (State.applySignal s e).die.launches = s.die.launches ∧ (State.applySignal s e).die.dig = s.die.dig
    ∧ (State.applySignal s e).die.binds = s.die.binds ∧ (State.applySignal s e).die.coreEn = s.die.coreEn := by
  refine ⟨?_, ?_, ?_, ?_, ?_, ?_, ?_, ?_, ?_, ?_, ?_, ?_, ?_, ?_, ?_, ?_⟩ <;> first | (simp [State.applySignal]; done)

@[simp] theorem State.parkSignal_keeps (s : State) (e : PendEntry) :
    (State.parkSignal s e).pending = s.pending ∧ (State.parkSignal s e).cyc = s.cyc
    ∧ (State.parkSignal s e).freeNext = s.freeNext ∧ (State.parkSignal s e).out = s.out
    ∧ (State.parkSignal s e).mdl = s.mdl ∧ (State.parkSignal s e).meter = s.meter
    ∧ (State.parkSignal s e).hub = s.hub ∧ (State.parkSignal s e).phi = s.phi
    ∧ (State.parkSignal s e).tsu.time = s.tsu.time ∧ (State.parkSignal s e).tsu.rings = s.tsu.rings
    ∧ (State.parkSignal s e).tsu.cfg = s.tsu.cfg ∧ (State.parkSignal s e).die.launches = s.die.launches
    ∧ (State.parkSignal s e).die.dig = s.die.dig ∧ (State.parkSignal s e).die.binds = s.die.binds
    ∧ (State.parkSignal s e).die.coreEn = s.die.coreEn := by
  simp only [State.parkSignal] <;> (repeat' split) <;> first | (simp; done) | (simp [*]; done) | (refine ⟨?_, ?_, ?_, ?_, ?_, ?_, ?_, ?_, ?_, ?_, ?_, ?_, ?_, ?_, ?_⟩ <;> first | rfl | (simp; done) | (simp [*]; done))

@[simp] theorem State.refuseSignal_keeps (s : State) (e : PendEntry) (reason : Nat) :
    (State.refuseSignal s e reason).pending = s.pending ∧ (State.refuseSignal s e reason).cyc = s.cyc
    ∧ (State.refuseSignal s e reason).freeNext = s.freeNext ∧ (State.refuseSignal s e reason).mdl = s.mdl
    ∧ (State.refuseSignal s e reason).meter = s.meter ∧ (State.refuseSignal s e reason).hub = s.hub
    ∧ (State.refuseSignal s e reason).phi = s.phi ∧ (State.refuseSignal s e reason).tsu.time = s.tsu.time
    ∧ (State.refuseSignal s e reason).tsu.rings = s.tsu.rings ∧ (State.refuseSignal s e reason).tsu.cfg = s.tsu.cfg
    ∧ (State.refuseSignal s e reason).die.launches = s.die.launches
    ∧ (State.refuseSignal s e reason).die.dig = s.die.dig ∧ (State.refuseSignal s e reason).die.binds = s.die.binds
    ∧ (State.refuseSignal s e reason).die.coreEn = s.die.coreEn := by
  refine ⟨?_, ?_, ?_, ?_, ?_, ?_, ?_, ?_, ?_, ?_, ?_, ?_, ?_, ?_⟩ <;> first | (simp [State.refuseSignal]; done)

@[simp] theorem State.acceptSignal_keeps (s : State) (e : PendEntry) (sep : Bool) :
    (State.acceptSignal s e sep).pending = s.pending ∧ (State.acceptSignal s e sep).cyc = s.cyc
    ∧ (State.acceptSignal s e sep).mdl = s.mdl ∧ (State.acceptSignal s e sep).meter = s.meter
    ∧ (State.acceptSignal s e sep).phi = s.phi ∧ (State.acceptSignal s e sep).tsu.time = s.tsu.time
    ∧ (State.acceptSignal s e sep).tsu.cfg = s.tsu.cfg ∧ (State.acceptSignal s e sep).hub.storage = s.hub.storage
    ∧ (State.acceptSignal s e sep).hub.fw.state = s.hub.fw.state
    ∧ (State.acceptSignal s e sep).hub.pairs = s.hub.pairs ∧ (State.acceptSignal s e sep).hub.led = s.hub.led
    ∧ (State.acceptSignal s e sep).hub.seqs = s.hub.seqs
    ∧ (State.acceptSignal s e sep).die.launches = s.die.launches ∧ (State.acceptSignal s e sep).die.dig = s.die.dig
    ∧ (State.acceptSignal s e sep).die.binds = s.die.binds ∧ (State.acceptSignal s e sep).die.coreEn = s.die.coreEn := by
  simp only [State.acceptSignal] <;> (repeat' split) <;> first | (simp; done) | (simp [*]; done) | (refine ⟨?_, ?_, ?_, ?_, ?_, ?_, ?_, ?_, ?_, ?_, ?_, ?_, ?_, ?_, ?_, ?_⟩ <;> first | rfl | (simp; done) | (simp [*]; done))

@[simp] theorem State.acceptSignals_keeps (s : State) (x1 : List PendEntry) :
    (State.acceptSignals s x1).pending = s.pending ∧ (State.acceptSignals s x1).cyc = s.cyc
    ∧ (State.acceptSignals s x1).mdl = s.mdl ∧ (State.acceptSignals s x1).meter = s.meter
    ∧ (State.acceptSignals s x1).phi = s.phi ∧ (State.acceptSignals s x1).tsu.time = s.tsu.time := by
  refine ⟨?_, ?_, ?_, ?_, ?_, ?_⟩ <;> first | (induction x1 generalizing s <;> simp_all [State.acceptSignals]; done)

@[simp] theorem State.acceptSignals_keeps2 (s : State) (x1 : List PendEntry) :
    (State.acceptSignals s x1).tsu.cfg = s.tsu.cfg ∧ (State.acceptSignals s x1).hub.storage = s.hub.storage
    ∧ (State.acceptSignals s x1).hub.fw.state = s.hub.fw.state ∧ (State.acceptSignals s x1).hub.pairs = s.hub.pairs
    ∧ (State.acceptSignals s x1).hub.led = s.hub.led ∧ (State.acceptSignals s x1).hub.seqs = s.hub.seqs := by
  refine ⟨?_, ?_, ?_, ?_, ?_, ?_⟩ <;> first | (induction x1 generalizing s <;> simp_all [State.acceptSignals]; done)

@[simp] theorem State.acceptSignals_keeps3 (s : State) (x1 : List PendEntry) :
    (State.acceptSignals s x1).die.launches = s.die.launches ∧ (State.acceptSignals s x1).die.dig = s.die.dig
    ∧ (State.acceptSignals s x1).die.binds = s.die.binds ∧ (State.acceptSignals s x1).die.coreEn = s.die.coreEn := by
  refine ⟨?_, ?_, ?_, ?_⟩ <;> first | (induction x1 generalizing s <;> simp_all [State.acceptSignals]; done)

@[simp] theorem State.freePendAt_keeps (s : State) (i : Nat) :
    (State.freePendAt s i).pending = s.pending ∧ (State.freePendAt s i).cyc = s.cyc ∧ (State.freePendAt s i).mdl = s.mdl
    ∧ (State.freePendAt s i).meter = s.meter ∧ (State.freePendAt s i).phi = s.phi
    ∧ (State.freePendAt s i).tsu.time = s.tsu.time ∧ (State.freePendAt s i).tsu.cfg = s.tsu.cfg
    ∧ (State.freePendAt s i).hub.storage = s.hub.storage ∧ (State.freePendAt s i).hub.fw.state = s.hub.fw.state
    ∧ (State.freePendAt s i).hub.pairs = s.hub.pairs ∧ (State.freePendAt s i).hub.led = s.hub.led
    ∧ (State.freePendAt s i).hub.seqs = s.hub.seqs ∧ (State.freePendAt s i).die.launches = s.die.launches
    ∧ (State.freePendAt s i).die.dig = s.die.dig ∧ (State.freePendAt s i).die.binds = s.die.binds
    ∧ (State.freePendAt s i).die.coreEn = s.die.coreEn := by
  refine ⟨?_, ?_, ?_, ?_, ?_, ?_, ?_, ?_, ?_, ?_, ?_, ?_, ?_, ?_, ?_, ?_⟩ <;> first | (simp [State.freePendAt]; done)

end Sys2Proof.Machine
end

