-- ==== Sys2Proof/Laws/ResetOps.lean ====
section
/-!
SUPPORT. What the operations and meanings of Machine/ResetOps.lean leave unchanged.
-/

namespace Sys2Proof.Machine

@[simp] theorem State.timeReset_keeps (s : State) (p : Part) (refOk : Bool) (parityOk : Bool) :
    (State.timeReset s p refOk parityOk).pending = s.pending ∧ (State.timeReset s p refOk parityOk).cyc = s.cyc
    ∧ (State.timeReset s p refOk parityOk).freeNext = s.freeNext ∧ (State.timeReset s p refOk parityOk).out = s.out
    ∧ (State.timeReset s p refOk parityOk).mdl = s.mdl ∧ (State.timeReset s p refOk parityOk).meter = s.meter
    ∧ (State.timeReset s p refOk parityOk).die = s.die
    ∧ (State.timeReset s p refOk parityOk).tsu.time.acc = s.tsu.time.acc
    ∧ (State.timeReset s p refOk parityOk).tsu.rings = s.tsu.rings
    ∧ (State.timeReset s p refOk parityOk).tsu.cfg = s.tsu.cfg
    ∧ (State.timeReset s p refOk parityOk).phi.time.acc = s.phi.time.acc
    ∧ (State.timeReset s p refOk parityOk).phi.rings = s.phi.rings
    ∧ (State.timeReset s p refOk parityOk).phi.cfg = s.phi.cfg
    ∧ (State.timeReset s p refOk parityOk).hub.storage = s.hub.storage
    ∧ (State.timeReset s p refOk parityOk).hub.fw.state = s.hub.fw.state
    ∧ (State.timeReset s p refOk parityOk).hub.pairs = s.hub.pairs
    ∧ (State.timeReset s p refOk parityOk).hub.led = s.hub.led
    ∧ (State.timeReset s p refOk parityOk).hub.seqs = s.hub.seqs := by
  simp only [State.timeReset] <;> (repeat' split) <;> first | (simp; done) | (simp [*]; done) | (refine ⟨?_, ?_, ?_, ?_, ?_, ?_, ?_, ?_, ?_, ?_, ?_, ?_, ?_, ?_, ?_, ?_, ?_, ?_⟩ <;> first | rfl | (simp; done) | (simp [*]; done))

@[simp] theorem State.timeReset_keeps_tsu (s : State) (refOk : Bool) (parityOk : Bool) :
    (State.timeReset s .tsu refOk parityOk).phi = s.phi ∧ (State.timeReset s .tsu refOk parityOk).hub = s.hub := by
  simp only [State.timeReset] <;> (repeat' split) <;> first | (simp; done) | (simp [*]; done) | (refine ⟨?_, ?_⟩ <;> first | rfl | (simp; done) | (simp [*]; done))

@[simp] theorem State.timeReset_keeps_phi (s : State) (refOk : Bool) (parityOk : Bool) :
    (State.timeReset s .phi refOk parityOk).tsu = s.tsu := by simp only [State.timeReset] <;> (repeat' split) <;> first | rfl | (simp; done) | (simp [*]; done)

@[simp] theorem State.sendNote_keeps (s : State) (port : Nat) :
    (State.sendNote s port).pending = s.pending ∧ (State.sendNote s port).cyc = s.cyc
    ∧ (State.sendNote s port).freeNext = s.freeNext ∧ (State.sendNote s port).mdl = s.mdl
    ∧ (State.sendNote s port).meter = s.meter ∧ (State.sendNote s port).die = s.die
    ∧ (State.sendNote s port).hub = s.hub ∧ (State.sendNote s port).phi = s.phi
    ∧ (State.sendNote s port).tsu.time = s.tsu.time ∧ (State.sendNote s port).tsu.rings = s.tsu.rings
    ∧ (State.sendNote s port).tsu.cfg = s.tsu.cfg := by
  simp only [State.sendNote] <;> (repeat' split) <;> first | (simp; done) | (simp [*]; done) | (refine ⟨?_, ?_, ?_, ?_, ?_, ?_, ?_, ?_, ?_, ?_, ?_⟩ <;> first | rfl | (simp; done) | (simp [*]; done))

@[simp] theorem State.tsuMemberReset_keeps (s : State) (detail : Nat) :
    (State.tsuMemberReset s detail).pending = s.pending ∧ (State.tsuMemberReset s detail).cyc = s.cyc
    ∧ (State.tsuMemberReset s detail).mdl = s.mdl ∧ (State.tsuMemberReset s detail).meter = s.meter
    ∧ (State.tsuMemberReset s detail).phi = s.phi ∧ (State.tsuMemberReset s detail).tsu.time = s.tsu.time
    ∧ (State.tsuMemberReset s detail).tsu.cfg = s.tsu.cfg
    ∧ (State.tsuMemberReset s detail).hub.storage = s.hub.storage
    ∧ (State.tsuMemberReset s detail).hub.fw.state = s.hub.fw.state
    ∧ (State.tsuMemberReset s detail).hub.pairs = s.hub.pairs ∧ (State.tsuMemberReset s detail).hub.led = s.hub.led
    ∧ (State.tsuMemberReset s detail).hub.seqs = s.hub.seqs
    ∧ (State.tsuMemberReset s detail).die.binds = s.die.binds
    ∧ (State.tsuMemberReset s detail).die.coreEn = s.die.coreEn := by
  refine ⟨?_, ?_, ?_, ?_, ?_, ?_, ?_, ?_, ?_, ?_, ?_, ?_, ?_, ?_⟩ <;> first | (simp [State.tsuMemberReset]; done)

@[simp] theorem State.retryFetched_keeps (s : State) (p : Part) (cause : W16) :
    (State.retryFetched s p cause).pending = s.pending ∧ (State.retryFetched s p cause).cyc = s.cyc
    ∧ (State.retryFetched s p cause).mdl = s.mdl ∧ (State.retryFetched s p cause).meter = s.meter
    ∧ (State.retryFetched s p cause).die = s.die ∧ (State.retryFetched s p cause).tsu.time = s.tsu.time
    ∧ (State.retryFetched s p cause).tsu.cfg = s.tsu.cfg ∧ (State.retryFetched s p cause).phi.time = s.phi.time
    ∧ (State.retryFetched s p cause).phi.cfg = s.phi.cfg
    ∧ (State.retryFetched s p cause).hub.storage = s.hub.storage
    ∧ (State.retryFetched s p cause).hub.fw.state = s.hub.fw.state
    ∧ (State.retryFetched s p cause).hub.pairs = s.hub.pairs ∧ (State.retryFetched s p cause).hub.led = s.hub.led
    ∧ (State.retryFetched s p cause).hub.seqs = s.hub.seqs := by
  refine ⟨?_, ?_, ?_, ?_, ?_, ?_, ?_, ?_, ?_, ?_, ?_, ?_, ?_, ?_⟩ <;> first | (simp [State.retryFetched]; done)

@[simp] theorem State.retryFetched_keeps_tsu (s : State) (cause : W16) :
    (State.retryFetched s .tsu cause).phi = s.phi := by simp [State.retryFetched]

@[simp] theorem State.retryFetched_keeps_phi (s : State) (cause : W16) :
    (State.retryFetched s .phi cause).tsu = s.tsu := by simp [State.retryFetched]

@[simp] theorem State.tsuDredge_keeps (s : State) (die : Bool) (detail : Nat) :
    (State.tsuDredge s die detail).pending = s.pending ∧ (State.tsuDredge s die detail).cyc = s.cyc
    ∧ (State.tsuDredge s die detail).freeNext = s.freeNext ∧ (State.tsuDredge s die detail).out = s.out
    ∧ (State.tsuDredge s die detail).mdl = s.mdl ∧ (State.tsuDredge s die detail).meter = s.meter
    ∧ (State.tsuDredge s die detail).hub = s.hub ∧ (State.tsuDredge s die detail).phi = s.phi
    ∧ (State.tsuDredge s die detail).tsu.time = s.tsu.time := by
  refine ⟨?_, ?_, ?_, ?_, ?_, ?_, ?_, ?_, ?_⟩ <;> first | (simp [State.tsuDredge]; done)

@[simp] theorem State.updEngine_keeps (s : State) (p : Part) (n : Nat) (f : EngineSt → EngineSt) :
    (State.updEngine s p n f).pending = s.pending ∧ (State.updEngine s p n f).cyc = s.cyc
    ∧ (State.updEngine s p n f).freeNext = s.freeNext ∧ (State.updEngine s p n f).out = s.out
    ∧ (State.updEngine s p n f).mdl = s.mdl ∧ (State.updEngine s p n f).meter = s.meter
    ∧ (State.updEngine s p n f).die = s.die ∧ (State.updEngine s p n f).hub = s.hub
    ∧ (State.updEngine s p n f).tsu.time = s.tsu.time ∧ (State.updEngine s p n f).tsu.rings = s.tsu.rings
    ∧ (State.updEngine s p n f).tsu.cfg = s.tsu.cfg ∧ (State.updEngine s p n f).phi.time = s.phi.time
    ∧ (State.updEngine s p n f).phi.rings = s.phi.rings ∧ (State.updEngine s p n f).phi.cfg = s.phi.cfg := by
  refine ⟨?_, ?_, ?_, ?_, ?_, ?_, ?_, ?_, ?_, ?_, ?_, ?_, ?_, ?_⟩ <;> first | (simp [State.updEngine]; done)

@[simp] theorem State.updEngine_keeps_tsu (s : State) (n : Nat) (f : EngineSt → EngineSt) :
    (State.updEngine s .tsu n f).phi = s.phi := by simp [State.updEngine]

@[simp] theorem State.updEngine_keeps_phi (s : State) (n : Nat) (f : EngineSt → EngineSt) :
    (State.updEngine s .phi n f).tsu = s.tsu := by simp [State.updEngine]

@[simp] theorem State.endCtls_keeps (s : State) (p : Part) (n : Nat) (st : Status) (cause : W16) :
    (State.endCtls s p n st cause).pending = s.pending ∧ (State.endCtls s p n st cause).cyc = s.cyc
    ∧ (State.endCtls s p n st cause).mdl = s.mdl ∧ (State.endCtls s p n st cause).meter = s.meter
    ∧ (State.endCtls s p n st cause).die = s.die ∧ (State.endCtls s p n st cause).tsu.time = s.tsu.time
    ∧ (State.endCtls s p n st cause).tsu.cfg = s.tsu.cfg ∧ (State.endCtls s p n st cause).phi.time = s.phi.time
    ∧ (State.endCtls s p n st cause).phi.cfg = s.phi.cfg
    ∧ (State.endCtls s p n st cause).hub.storage = s.hub.storage
    ∧ (State.endCtls s p n st cause).hub.fw.state = s.hub.fw.state
    ∧ (State.endCtls s p n st cause).hub.pairs = s.hub.pairs ∧ (State.endCtls s p n st cause).hub.led = s.hub.led
    ∧ (State.endCtls s p n st cause).hub.seqs = s.hub.seqs := by
  refine ⟨?_, ?_, ?_, ?_, ?_, ?_, ?_, ?_, ?_, ?_, ?_, ?_, ?_, ?_⟩ <;> first | (simp [State.endCtls]; done)

@[simp] theorem State.endCtls_keeps_tsu (s : State) (n : Nat) (st : Status) (cause : W16) :
    (State.endCtls s .tsu n st cause).phi = s.phi := by simp [State.endCtls]

@[simp] theorem State.endCtls_keeps_phi (s : State) (n : Nat) (st : Status) (cause : W16) :
    (State.endCtls s .phi n st cause).tsu = s.tsu := by simp [State.endCtls]

@[simp] theorem State.endHung_keeps (s : State) :
    (State.endHung s).pending = s.pending ∧ (State.endHung s).cyc = s.cyc ∧ (State.endHung s).mdl = s.mdl
    ∧ (State.endHung s).meter = s.meter ∧ (State.endHung s).die = s.die ∧ (State.endHung s).phi = s.phi
    ∧ (State.endHung s).tsu.time = s.tsu.time ∧ (State.endHung s).tsu.cfg = s.tsu.cfg
    ∧ (State.endHung s).hub.storage = s.hub.storage ∧ (State.endHung s).hub.fw.state = s.hub.fw.state
    ∧ (State.endHung s).hub.pairs = s.hub.pairs ∧ (State.endHung s).hub.led = s.hub.led
    ∧ (State.endHung s).hub.seqs = s.hub.seqs := by
  refine ⟨?_, ?_, ?_, ?_, ?_, ?_, ?_, ?_, ?_, ?_, ?_, ?_, ?_⟩ <;> first | (simp [State.endHung]; done)

@[simp] theorem State.tsuReset_keeps (s : State) (die : Bool) (refOk : Bool) (parityOk : Bool) (trigger : Nat) (cause : W16) :
    (State.tsuReset s die refOk parityOk trigger cause).pending = s.pending
    ∧ (State.tsuReset s die refOk parityOk trigger cause).cyc = s.cyc
    ∧ (State.tsuReset s die refOk parityOk trigger cause).mdl = s.mdl
    ∧ (State.tsuReset s die refOk parityOk trigger cause).meter = s.meter
    ∧ (State.tsuReset s die refOk parityOk trigger cause).phi = s.phi
    ∧ (State.tsuReset s die refOk parityOk trigger cause).tsu.time.acc = s.tsu.time.acc
    ∧ (State.tsuReset s die refOk parityOk trigger cause).hub.storage = s.hub.storage
    ∧ (State.tsuReset s die refOk parityOk trigger cause).hub.fw.state = s.hub.fw.state
    ∧ (State.tsuReset s die refOk parityOk trigger cause).hub.pairs = s.hub.pairs
    ∧ (State.tsuReset s die refOk parityOk trigger cause).hub.led = s.hub.led
    ∧ (State.tsuReset s die refOk parityOk trigger cause).hub.seqs = s.hub.seqs := by
  refine ⟨?_, ?_, ?_, ?_, ?_, ?_, ?_, ?_, ?_, ?_, ?_⟩ <;> first | (simp [State.tsuReset]; done)

@[simp] theorem State.tsuApply_keeps (s : State) (b : List Byte) :
    (State.tsuApply s b).pending = s.pending ∧ (State.tsuApply s b).cyc = s.cyc
    ∧ (State.tsuApply s b).freeNext = s.freeNext ∧ (State.tsuApply s b).out = s.out
    ∧ (State.tsuApply s b).mdl = s.mdl ∧ (State.tsuApply s b).meter = s.meter ∧ (State.tsuApply s b).hub = s.hub
    ∧ (State.tsuApply s b).phi = s.phi ∧ (State.tsuApply s b).tsu.time = s.tsu.time
    ∧ (State.tsuApply s b).tsu.rings = s.tsu.rings ∧ (State.tsuApply s b).tsu.cfg.lcState = s.tsu.cfg.lcState
    ∧ (State.tsuApply s b).tsu.cfg.lcRows = s.tsu.cfg.lcRows ∧ (State.tsuApply s b).die.sync = s.die.sync
    ∧ (State.tsuApply s b).die.launches = s.die.launches ∧ (State.tsuApply s b).die.dig = s.die.dig
    ∧ (State.tsuApply s b).die.binds = s.die.binds ∧ (State.tsuApply s b).die.coreEn = s.die.coreEn := by
  refine ⟨?_, ?_, ?_, ?_, ?_, ?_, ?_, ?_, ?_, ?_, ?_, ?_, ?_, ?_, ?_, ?_, ?_⟩ <;> first | (simp [State.tsuApply]; done)

@[simp] theorem State.phiStart_keeps (s : State) (time : TimeSt) (seq : W64) :
    (State.phiStart s time seq).pending = s.pending ∧ (State.phiStart s time seq).cyc = s.cyc
    ∧ (State.phiStart s time seq).freeNext = s.freeNext ∧ (State.phiStart s time seq).out = s.out
    ∧ (State.phiStart s time seq).mdl = s.mdl ∧ (State.phiStart s time seq).meter = s.meter
    ∧ (State.phiStart s time seq).die = s.die ∧ (State.phiStart s time seq).tsu = s.tsu
    ∧ (State.phiStart s time seq).phi.cfg.lcState = s.phi.cfg.lcState
    ∧ (State.phiStart s time seq).phi.cfg.lcRows = s.phi.cfg.lcRows
    ∧ (State.phiStart s time seq).hub.storage = s.hub.storage := by
  refine ⟨?_, ?_, ?_, ?_, ?_, ?_, ?_, ?_, ?_, ?_, ?_⟩ <;> first | (simp [State.phiStart]; done)

@[simp] theorem State.chipReset_keeps (s : State) (refOk : Bool) (parityOk : Bool) :
    (State.chipReset s refOk parityOk).pending = s.pending ∧ (State.chipReset s refOk parityOk).cyc = s.cyc
    ∧ (State.chipReset s refOk parityOk).freeNext = s.freeNext ∧ (State.chipReset s refOk parityOk).out = s.out
    ∧ (State.chipReset s refOk parityOk).mdl = s.mdl ∧ (State.chipReset s refOk parityOk).meter = s.meter
    ∧ (State.chipReset s refOk parityOk).die = s.die ∧ (State.chipReset s refOk parityOk).tsu = s.tsu
    ∧ (State.chipReset s refOk parityOk).phi.cfg.lcState = s.phi.cfg.lcState
    ∧ (State.chipReset s refOk parityOk).phi.cfg.lcRows = s.phi.cfg.lcRows
    ∧ (State.chipReset s refOk parityOk).hub.storage = s.hub.storage := by
  refine ⟨?_, ?_, ?_, ?_, ?_, ?_, ?_, ?_, ?_, ?_, ?_⟩ <;> first | (simp [State.chipReset]; done)

@[simp] theorem State.modulePowerOff_keeps (s : State) :
    (State.modulePowerOff s).pending = s.pending ∧ (State.modulePowerOff s).cyc = s.cyc
    ∧ (State.modulePowerOff s).freeNext = s.freeNext ∧ (State.modulePowerOff s).out = s.out
    ∧ (State.modulePowerOff s).mdl = s.mdl ∧ (State.modulePowerOff s).meter = s.meter
    ∧ (State.modulePowerOff s).die = s.die ∧ (State.modulePowerOff s).tsu = s.tsu
    ∧ (State.modulePowerOff s).phi.cfg.lcState = s.phi.cfg.lcState
    ∧ (State.modulePowerOff s).phi.cfg.lcRows = s.phi.cfg.lcRows
    ∧ (State.modulePowerOff s).hub.storage = s.hub.storage := by
  refine ⟨?_, ?_, ?_, ?_, ?_, ?_, ?_, ?_, ?_, ?_, ?_⟩ <;> first | (simp [State.modulePowerOff]; done)

@[simp] theorem State.syncReset_keeps (s : State) :
    (State.syncReset s).pending = s.pending ∧ (State.syncReset s).cyc = s.cyc ∧ (State.syncReset s).mdl = s.mdl
    ∧ (State.syncReset s).meter = s.meter ∧ (State.syncReset s).phi = s.phi
    ∧ (State.syncReset s).tsu.time = s.tsu.time ∧ (State.syncReset s).tsu.cfg = s.tsu.cfg
    ∧ (State.syncReset s).hub.storage = s.hub.storage ∧ (State.syncReset s).hub.fw.state = s.hub.fw.state
    ∧ (State.syncReset s).hub.pairs = s.hub.pairs ∧ (State.syncReset s).hub.led = s.hub.led
    ∧ (State.syncReset s).hub.seqs = s.hub.seqs ∧ (State.syncReset s).die.binds = s.die.binds
    ∧ (State.syncReset s).die.coreEn = s.die.coreEn := by
  refine ⟨?_, ?_, ?_, ?_, ?_, ?_, ?_, ?_, ?_, ?_, ?_, ?_, ?_, ?_⟩ <;> first | (simp [State.syncReset]; done)

@[simp] theorem State.launchReset_keeps (s : State) :
    (State.launchReset s).pending = s.pending ∧ (State.launchReset s).cyc = s.cyc ∧ (State.launchReset s).mdl = s.mdl
    ∧ (State.launchReset s).meter = s.meter ∧ (State.launchReset s).phi = s.phi
    ∧ (State.launchReset s).tsu.time = s.tsu.time ∧ (State.launchReset s).tsu.cfg = s.tsu.cfg
    ∧ (State.launchReset s).hub.storage = s.hub.storage ∧ (State.launchReset s).hub.fw.state = s.hub.fw.state
    ∧ (State.launchReset s).hub.pairs = s.hub.pairs ∧ (State.launchReset s).hub.led = s.hub.led
    ∧ (State.launchReset s).hub.seqs = s.hub.seqs ∧ (State.launchReset s).die.binds = s.die.binds
    ∧ (State.launchReset s).die.coreEn = s.die.coreEn := by
  refine ⟨?_, ?_, ?_, ?_, ?_, ?_, ?_, ?_, ?_, ?_, ?_, ?_, ?_, ?_⟩ <;> first | (simp [State.launchReset]; done)

@[simp] theorem State.wbReset_keeps (s : State) :
    (State.wbReset s).pending = s.pending ∧ (State.wbReset s).cyc = s.cyc ∧ (State.wbReset s).mdl = s.mdl
    ∧ (State.wbReset s).meter = s.meter ∧ (State.wbReset s).phi = s.phi ∧ (State.wbReset s).tsu.time = s.tsu.time
    ∧ (State.wbReset s).tsu.cfg = s.tsu.cfg ∧ (State.wbReset s).hub.storage = s.hub.storage
    ∧ (State.wbReset s).hub.fw.state = s.hub.fw.state ∧ (State.wbReset s).hub.pairs = s.hub.pairs
    ∧ (State.wbReset s).hub.led = s.hub.led ∧ (State.wbReset s).hub.seqs = s.hub.seqs
    ∧ (State.wbReset s).die.binds = s.die.binds ∧ (State.wbReset s).die.coreEn = s.die.coreEn := by
  refine ⟨?_, ?_, ?_, ?_, ?_, ?_, ?_, ?_, ?_, ?_, ?_, ?_, ?_, ?_⟩ <;> first | (simp [State.wbReset]; done)

@[simp] theorem State.measureReset_keeps (s : State) :
    (State.measureReset s).pending = s.pending ∧ (State.measureReset s).cyc = s.cyc ∧ (State.measureReset s).mdl = s.mdl
    ∧ (State.measureReset s).meter = s.meter ∧ (State.measureReset s).phi = s.phi
    ∧ (State.measureReset s).tsu.time = s.tsu.time ∧ (State.measureReset s).tsu.cfg = s.tsu.cfg
    ∧ (State.measureReset s).hub.storage = s.hub.storage ∧ (State.measureReset s).hub.fw.state = s.hub.fw.state
    ∧ (State.measureReset s).hub.pairs = s.hub.pairs ∧ (State.measureReset s).hub.led = s.hub.led
    ∧ (State.measureReset s).hub.seqs = s.hub.seqs ∧ (State.measureReset s).die.sync = s.die.sync
    ∧ (State.measureReset s).die.launches = s.die.launches ∧ (State.measureReset s).die.dig = s.die.dig
    ∧ (State.measureReset s).die.binds = s.die.binds ∧ (State.measureReset s).die.coreEn = s.die.coreEn := by
  refine ⟨?_, ?_, ?_, ?_, ?_, ?_, ?_, ?_, ?_, ?_, ?_, ?_, ?_, ?_, ?_, ?_, ?_⟩ <;> first | (simp [State.measureReset]; done)

end Sys2Proof.Machine
end

