-- ==== Sys2Proof/Laws/FwOps.lean ====
section
/-!
SUPPORT. What the operations and meanings of Machine/FwOps.lean leave unchanged.
-/

namespace Sys2Proof.Machine

@[simp] theorem State.ldrGo_keeps (s : State) (image : Option (List Byte)) :
    (State.ldrGo s image).pending = s.pending ∧ (State.ldrGo s image).cyc = s.cyc
    ∧ (State.ldrGo s image).freeNext = s.freeNext ∧ (State.ldrGo s image).out = s.out
    ∧ (State.ldrGo s image).mdl = s.mdl ∧ (State.ldrGo s image).meter = s.meter ∧ (State.ldrGo s image).die = s.die
    ∧ (State.ldrGo s image).tsu = s.tsu ∧ (State.ldrGo s image).phi = s.phi
    ∧ (State.ldrGo s image).hub.storage = s.hub.storage ∧ (State.ldrGo s image).hub.pairs = s.hub.pairs
    ∧ (State.ldrGo s image).hub.led = s.hub.led ∧ (State.ldrGo s image).hub.seqs = s.hub.seqs := by
  simp only [State.ldrGo] <;> (repeat' split) <;> first | (simp; done) | (simp [*]; done) | (refine ⟨?_, ?_, ?_, ?_, ?_, ?_, ?_, ?_, ?_, ?_, ?_, ?_, ?_⟩ <;> first | rfl | (simp; done) | (simp [*]; done))

@[simp] theorem State.fwDomainReset_keeps (s : State) :
    (State.fwDomainReset s).pending = s.pending ∧ (State.fwDomainReset s).cyc = s.cyc
    ∧ (State.fwDomainReset s).freeNext = s.freeNext ∧ (State.fwDomainReset s).out = s.out
    ∧ (State.fwDomainReset s).mdl = s.mdl ∧ (State.fwDomainReset s).meter = s.meter
    ∧ (State.fwDomainReset s).die = s.die ∧ (State.fwDomainReset s).tsu = s.tsu
    ∧ (State.fwDomainReset s).phi.time = s.phi.time ∧ (State.fwDomainReset s).phi.rings = s.phi.rings
    ∧ (State.fwDomainReset s).phi.cfg.lcState = s.phi.cfg.lcState
    ∧ (State.fwDomainReset s).phi.cfg.lcRows = s.phi.cfg.lcRows
    ∧ (State.fwDomainReset s).hub.storage = s.hub.storage ∧ (State.fwDomainReset s).hub.fw.state = s.hub.fw.state
    ∧ (State.fwDomainReset s).hub.pairs = s.hub.pairs ∧ (State.fwDomainReset s).hub.led = s.hub.led
    ∧ (State.fwDomainReset s).hub.seqs = s.hub.seqs := by
  refine ⟨?_, ?_, ?_, ?_, ?_, ?_, ?_, ?_, ?_, ?_, ?_, ?_, ?_, ?_, ?_, ?_, ?_⟩ <;> first | (simp [State.fwDomainReset]; done)

@[simp] theorem State.answerReads_keeps (s : State) (l : List TrapRead) :
    (State.answerReads s l).pending = s.pending ∧ (State.answerReads s l).cyc = s.cyc
    ∧ (State.answerReads s l).mdl = s.mdl ∧ (State.answerReads s l).die = s.die
    ∧ (State.answerReads s l).tsu = s.tsu ∧ (State.answerReads s l).phi.time = s.phi.time
    ∧ (State.answerReads s l).phi.rings = s.phi.rings ∧ (State.answerReads s l).phi.cfg.lcState = s.phi.cfg.lcState
    ∧ (State.answerReads s l).phi.cfg.lcRows = s.phi.cfg.lcRows
    ∧ (State.answerReads s l).hub.storage = s.hub.storage ∧ (State.answerReads s l).hub.fw.state = s.hub.fw.state
    ∧ (State.answerReads s l).hub.pairs = s.hub.pairs ∧ (State.answerReads s l).hub.led = s.hub.led
    ∧ (State.answerReads s l).hub.seqs = s.hub.seqs := by
  refine ⟨?_, ?_, ?_, ?_, ?_, ?_, ?_, ?_, ?_, ?_, ?_, ?_, ?_, ?_⟩ <;> first | (simp [State.answerReads]; done)

@[simp] theorem State.fwRestart_keeps (s : State) (named : List Nat) :
    (State.fwRestart s named).pending = s.pending ∧ (State.fwRestart s named).cyc = s.cyc
    ∧ (State.fwRestart s named).mdl = s.mdl ∧ (State.fwRestart s named).meter = s.meter
    ∧ (State.fwRestart s named).die = s.die ∧ (State.fwRestart s named).tsu = s.tsu
    ∧ (State.fwRestart s named).phi.time = s.phi.time
    ∧ (State.fwRestart s named).phi.cfg.lcState = s.phi.cfg.lcState
    ∧ (State.fwRestart s named).phi.cfg.lcRows = s.phi.cfg.lcRows
    ∧ (State.fwRestart s named).hub.storage = s.hub.storage ∧ (State.fwRestart s named).hub.pairs = s.hub.pairs
    ∧ (State.fwRestart s named).hub.led = s.hub.led := by
  refine ⟨?_, ?_, ?_, ?_, ?_, ?_, ?_, ?_, ?_, ?_, ?_, ?_⟩ <;> first | (simp [State.fwRestart]; done)

@[simp] theorem State.countFails_keeps (s : State) (named : List Nat) (fails : Nat → Nat) :
    (State.countFails s named fails).pending = s.pending ∧ (State.countFails s named fails).cyc = s.cyc
    ∧ (State.countFails s named fails).freeNext = s.freeNext ∧ (State.countFails s named fails).out = s.out
    ∧ (State.countFails s named fails).mdl = s.mdl ∧ (State.countFails s named fails).meter = s.meter
    ∧ (State.countFails s named fails).die = s.die ∧ (State.countFails s named fails).tsu = s.tsu
    ∧ (State.countFails s named fails).phi = s.phi ∧ (State.countFails s named fails).hub.storage = s.hub.storage
    ∧ (State.countFails s named fails).hub.fw.state = s.hub.fw.state
    ∧ (State.countFails s named fails).hub.pairs = s.hub.pairs
    ∧ (State.countFails s named fails).hub.led = s.hub.led ∧ (State.countFails s named fails).hub.seqs = s.hub.seqs := by
  refine ⟨?_, ?_, ?_, ?_, ?_, ?_, ?_, ?_, ?_, ?_, ?_, ?_, ?_, ?_⟩ <;> first | (simp [State.countFails]; done)

@[simp] theorem State.handoverFails_keeps (s : State) (h : Handover) :
    (State.handoverFails s h).pending = s.pending ∧ (State.handoverFails s h).cyc = s.cyc
    ∧ (State.handoverFails s h).mdl = s.mdl ∧ (State.handoverFails s h).meter = s.meter
    ∧ (State.handoverFails s h).die = s.die ∧ (State.handoverFails s h).tsu = s.tsu
    ∧ (State.handoverFails s h).phi.time = s.phi.time
    ∧ (State.handoverFails s h).phi.cfg.lcState = s.phi.cfg.lcState
    ∧ (State.handoverFails s h).phi.cfg.lcRows = s.phi.cfg.lcRows
    ∧ (State.handoverFails s h).hub.storage = s.hub.storage ∧ (State.handoverFails s h).hub.pairs = s.hub.pairs
    ∧ (State.handoverFails s h).hub.led = s.hub.led := by
  refine ⟨?_, ?_, ?_, ?_, ?_, ?_, ?_, ?_, ?_, ?_, ?_, ?_⟩ <;> first | (simp [State.handoverFails]; done)

end Sys2Proof.Machine
end

