-- ==== Sys2Proof/Laws/LifeCycle.lean ====
section
/-!
SUPPORT. What the operations and meanings of Machine/LifeCycle.lean leave unchanged.
-/

namespace Sys2Proof.Machine

@[simp] theorem State.phiApply_keeps (s : State) (b : List Byte) :
    (State.phiApply s b).pending = s.pending ∧ (State.phiApply s b).cyc = s.cyc ∧ (State.phiApply s b).mdl = s.mdl
    ∧ (State.phiApply s b).meter = s.meter ∧ (State.phiApply s b).die = s.die ∧ (State.phiApply s b).tsu = s.tsu
    ∧ (State.phiApply s b).phi.time.acc = s.phi.time.acc ∧ (State.phiApply s b).phi.cfg.lcState = s.phi.cfg.lcState
    ∧ (State.phiApply s b).phi.cfg.lcRows = s.phi.cfg.lcRows ∧ (State.phiApply s b).hub.fw.state = s.hub.fw.state
    ∧ (State.phiApply s b).hub.pairs = s.hub.pairs ∧ (State.phiApply s b).hub.seqs = s.hub.seqs := by
  refine ⟨?_, ?_, ?_, ?_, ?_, ?_, ?_, ?_, ?_, ?_, ?_, ?_⟩ <;> first | (simp [State.phiApply]; done)

@[simp] theorem execCfgLoad_keeps (p : Part) (ring : Nat) (idx : Nat) (block : List Byte) (s : State) :
    gives (execCfgLoad p ring idx block s) fun t => t.pending = s.pending ∧ t.cyc = s.cyc ∧ t.mdl = s.mdl
    ∧ t.meter = s.meter ∧ t.die = s.die ∧ t.tsu.time = s.tsu.time ∧ t.tsu.cfg.lcState = s.tsu.cfg.lcState
    ∧ t.tsu.cfg.lcRows = s.tsu.cfg.lcRows ∧ t.phi.time = s.phi.time ∧ t.phi.cfg.lcState = s.phi.cfg.lcState
    ∧ t.phi.cfg.lcRows = s.phi.cfg.lcRows ∧ t.hub.storage = s.hub.storage ∧ t.hub.fw.state = s.hub.fw.state
    ∧ t.hub.pairs = s.hub.pairs ∧ t.hub.led = s.hub.led ∧ t.hub.seqs = s.hub.seqs := by
  simp only [execCfgLoad, State.runDesc] <;> (repeat' split) <;> first | (simp; done) | (simp [*]; done) | (refine gives_and ?_ (gives_and ?_ (gives_and ?_ (gives_and ?_ (gives_and ?_ (gives_and ?_ (gives_and ?_ (gives_and ?_ (gives_and ?_ (gives_and ?_ (gives_and ?_ (gives_and ?_ (gives_and ?_ (gives_and ?_ (gives_and ?_ ?_)))))))))))))) <;> first | rfl | (simp; done) | (simp [*]; done))

@[simp] theorem execCfgLoad_keeps_tsu (ring : Nat) (idx : Nat) (block : List Byte) (s : State) :
    gives (execCfgLoad .tsu ring idx block s) fun t => t.phi = s.phi := by simp only [execCfgLoad, State.runDesc] <;> (repeat' split) <;> first | rfl | (simp; done) | (simp [*]; done)

@[simp] theorem execCfgLoad_keeps_phi (ring : Nat) (idx : Nat) (block : List Byte) (s : State) :
    gives (execCfgLoad .phi ring idx block s) fun t => t.tsu = s.tsu := by simp only [execCfgLoad, State.runDesc] <;> (repeat' split) <;> first | rfl | (simp; done) | (simp [*]; done)

end Sys2Proof.Machine
end

