-- ==== Sys2Proof/Laws/Meter.lean ====
section
/-!
SUPPORT. What the operations and meanings of Machine/Meter.lean leave unchanged.
-/

namespace Sys2Proof.Machine

@[simp] theorem execAdcSample_keeps (frame : List Byte) (retry : List Byte) (s : State) :
    gives (execAdcSample frame retry s) fun t => t.pending = s.pending ∧ t.cyc = s.cyc ∧ t.freeNext = s.freeNext
    ∧ t.mdl = s.mdl ∧ t.die = s.die ∧ t.hub = s.hub ∧ t.phi = s.phi ∧ t.tsu.time = s.tsu.time
    ∧ t.tsu.rings = s.tsu.rings ∧ t.tsu.cfg = s.tsu.cfg := by
  simp only [execAdcSample] <;> (repeat' split) <;> first | (simp; done) | (simp [*]; done) | (refine gives_and ?_ (gives_and ?_ (gives_and ?_ (gives_and ?_ (gives_and ?_ (gives_and ?_ (gives_and ?_ (gives_and ?_ (gives_and ?_ ?_)))))))) <;> first | rfl | (simp; done) | (simp [*]; done))

@[simp] theorem execMeterIntervalClose_keeps (cycles : Nat) (since : Nat) (s : State) :
    gives (execMeterIntervalClose cycles since s) fun t => t.pending = s.pending ∧ t.cyc = s.cyc
    ∧ t.freeNext = s.freeNext ∧ t.out = s.out ∧ t.mdl = s.mdl ∧ t.hub = s.hub ∧ t.tsu = s.tsu ∧ t.phi = s.phi
    ∧ t.die.sync = s.die.sync ∧ t.die.launches = s.die.launches ∧ t.die.dig = s.die.dig ∧ t.die.binds = s.die.binds
    ∧ t.die.coreEn = s.die.coreEn := by
  simp only [execMeterIntervalClose] <;> (repeat' split) <;> first | (simp; done) | (simp [*]; done) | (refine gives_and ?_ (gives_and ?_ (gives_and ?_ (gives_and ?_ (gives_and ?_ (gives_and ?_ (gives_and ?_ (gives_and ?_ (gives_and ?_ (gives_and ?_ (gives_and ?_ (gives_and ?_ ?_))))))))))) <;> first | rfl | (simp; done) | (simp [*]; done))

@[simp] theorem execIntervalTableHandoff_keeps (addr : Nat) (table : Option TableIn) (s : State) :
    gives (execIntervalTableHandoff addr table s) fun t => t.pending = s.pending ∧ t.cyc = s.cyc
    ∧ t.freeNext = s.freeNext ∧ t.mdl = s.mdl ∧ t.hub = s.hub ∧ t.tsu = s.tsu ∧ t.phi = s.phi
    ∧ t.die.sync = s.die.sync ∧ t.die.launches = s.die.launches ∧ t.die.dig = s.die.dig ∧ t.die.binds = s.die.binds
    ∧ t.die.coreEn = s.die.coreEn := by
  simp only [execIntervalTableHandoff] <;> (repeat' split) <;> first | (simp; done) | (simp [*]; done) | (refine gives_and ?_ (gives_and ?_ (gives_and ?_ (gives_and ?_ (gives_and ?_ (gives_and ?_ (gives_and ?_ (gives_and ?_ (gives_and ?_ (gives_and ?_ (gives_and ?_ ?_)))))))))) <;> first | rfl | (simp; done) | (simp [*]; done))

@[simp] theorem execInputCutoff_keeps (check : StoreCheck) (s : State) :
    gives (execInputCutoff check s) fun t => t.pending = s.pending ∧ t.cyc = s.cyc ∧ t.freeNext = s.freeNext
    ∧ t.mdl = s.mdl ∧ t.die = s.die ∧ t.hub = s.hub ∧ t.phi = s.phi ∧ t.tsu.time = s.tsu.time
    ∧ t.tsu.rings = s.tsu.rings ∧ t.tsu.cfg = s.tsu.cfg := by
  simp only [execInputCutoff] <;> (repeat' split) <;> first | (simp; done) | (simp [*]; done) | (refine gives_and ?_ (gives_and ?_ (gives_and ?_ (gives_and ?_ (gives_and ?_ (gives_and ?_ (gives_and ?_ (gives_and ?_ (gives_and ?_ ?_)))))))) <;> first | rfl | (simp; done) | (simp [*]; done))

@[simp] theorem State.activity_keeps (s : State) (report : W32) :
    (State.activity s report).pending = s.pending ∧ (State.activity s report).cyc = s.cyc
    ∧ (State.activity s report).freeNext = s.freeNext ∧ (State.activity s report).out = s.out
    ∧ (State.activity s report).mdl = s.mdl ∧ (State.activity s report).meter = s.meter
    ∧ (State.activity s report).hub = s.hub ∧ (State.activity s report).phi = s.phi
    ∧ (State.activity s report).tsu.time = s.tsu.time ∧ (State.activity s report).tsu.rings = s.tsu.rings
    ∧ (State.activity s report).tsu.cfg = s.tsu.cfg := by
  refine ⟨?_, ?_, ?_, ?_, ?_, ?_, ?_, ?_, ?_, ?_, ?_⟩ <;> first | (simp [State.activity]; done)

@[simp] theorem execActivityReport_keeps (report : W32) (s : State) :
    gives (execActivityReport report s) fun t => t.pending = s.pending ∧ t.cyc = s.cyc ∧ t.freeNext = s.freeNext
    ∧ t.out = s.out ∧ t.mdl = s.mdl ∧ t.meter = s.meter ∧ t.hub = s.hub ∧ t.phi = s.phi ∧ t.tsu.time = s.tsu.time
    ∧ t.tsu.rings = s.tsu.rings ∧ t.tsu.cfg = s.tsu.cfg := by
  refine gives_and ?_ (gives_and ?_ (gives_and ?_ (gives_and ?_ (gives_and ?_ (gives_and ?_ (gives_and ?_ (gives_and ?_ (gives_and ?_ (gives_and ?_ ?_))))))))) <;> first | (simp [execActivityReport]; done)

@[simp] theorem execBerthBind_keeps (ring : Nat) (idx : Nat) (s : State) :
    gives (execBerthBind ring idx s) fun t => t.pending = s.pending ∧ t.cyc = s.cyc ∧ t.mdl = s.mdl ∧ t.meter = s.meter
    ∧ t.phi = s.phi ∧ t.tsu.time = s.tsu.time ∧ t.tsu.cfg = s.tsu.cfg ∧ t.hub.storage = s.hub.storage
    ∧ t.hub.fw.state = s.hub.fw.state ∧ t.hub.pairs = s.hub.pairs ∧ t.hub.led = s.hub.led ∧ t.hub.seqs = s.hub.seqs
    ∧ t.die.sync = s.die.sync ∧ t.die.launches = s.die.launches ∧ t.die.dig = s.die.dig
    ∧ t.die.coreEn = s.die.coreEn := by
  simp only [execBerthBind, State.runDesc] <;> (repeat' split) <;> first | (simp; done) | (simp [*]; done) | (refine gives_and ?_ (gives_and ?_ (gives_and ?_ (gives_and ?_ (gives_and ?_ (gives_and ?_ (gives_and ?_ (gives_and ?_ (gives_and ?_ (gives_and ?_ (gives_and ?_ (gives_and ?_ (gives_and ?_ (gives_and ?_ (gives_and ?_ ?_)))))))))))))) <;> first | rfl | (simp; done) | (simp [*]; done))

@[simp] theorem execPowerFail_keeps (cycles : Nat) (since : Nat) (s : State) :
    gives (execPowerFail cycles since s) fun t => t.pending = s.pending ∧ t.cyc = s.cyc ∧ t.freeNext = s.freeNext
    ∧ t.out = s.out ∧ t.mdl = s.mdl ∧ t.hub = s.hub ∧ t.tsu = s.tsu ∧ t.phi = s.phi ∧ t.die.sync = s.die.sync
    ∧ t.die.launches = s.die.launches ∧ t.die.dig = s.die.dig ∧ t.die.binds = s.die.binds
    ∧ t.die.coreEn = s.die.coreEn := by
  refine gives_and ?_ (gives_and ?_ (gives_and ?_ (gives_and ?_ (gives_and ?_ (gives_and ?_ (gives_and ?_ (gives_and ?_ (gives_and ?_ (gives_and ?_ (gives_and ?_ (gives_and ?_ ?_))))))))))) <;> first | (simp [execPowerFail]; done)

@[simp] theorem execMeterStart_keeps (strapMaster : Bool) (masters : Nat) (romOk : Bool) (paramOk : Bool) (s : State) :
    gives (execMeterStart strapMaster masters romOk paramOk s) fun t => t.pending = s.pending ∧ t.cyc = s.cyc
    ∧ t.freeNext = s.freeNext ∧ t.mdl = s.mdl ∧ t.die = s.die ∧ t.hub = s.hub ∧ t.phi = s.phi
    ∧ t.tsu.time = s.tsu.time ∧ t.tsu.rings = s.tsu.rings ∧ t.tsu.cfg = s.tsu.cfg := by
  refine gives_and ?_ (gives_and ?_ (gives_and ?_ (gives_and ?_ (gives_and ?_ (gives_and ?_ (gives_and ?_ (gives_and ?_ (gives_and ?_ ?_)))))))) <;> first | (simp [execMeterStart]; done)

@[simp] theorem execTamperOpen_keeps (s : State) :
    gives (execTamperOpen s) fun t => t.pending = s.pending ∧ t.cyc = s.cyc ∧ t.freeNext = s.freeNext ∧ t.out = s.out
    ∧ t.mdl = s.mdl ∧ t.die = s.die ∧ t.hub = s.hub ∧ t.tsu = s.tsu ∧ t.phi = s.phi := by
  refine gives_and ?_ (gives_and ?_ (gives_and ?_ (gives_and ?_ (gives_and ?_ (gives_and ?_ (gives_and ?_ (gives_and ?_ ?_))))))) <;> first | (simp [execTamperOpen]; done)

@[simp] theorem execTamperClose_keeps (s : State) :
    gives (execTamperClose s) fun t => t.pending = s.pending ∧ t.cyc = s.cyc ∧ t.freeNext = s.freeNext ∧ t.out = s.out
    ∧ t.mdl = s.mdl ∧ t.die = s.die ∧ t.hub = s.hub ∧ t.tsu = s.tsu ∧ t.phi = s.phi := by
  refine gives_and ?_ (gives_and ?_ (gives_and ?_ (gives_and ?_ (gives_and ?_ (gives_and ?_ (gives_and ?_ (gives_and ?_ ?_))))))) <;> first | (simp [execTamperClose]; done)

@[simp] theorem execBlockSealTimer_keeps (s : State) :
    gives (execBlockSealTimer s) fun t => t.pending = s.pending ∧ t.cyc = s.cyc ∧ t.freeNext = s.freeNext
    ∧ t.out = s.out ∧ t.mdl = s.mdl ∧ t.die = s.die ∧ t.hub = s.hub ∧ t.tsu = s.tsu ∧ t.phi = s.phi := by
  refine gives_and ?_ (gives_and ?_ (gives_and ?_ (gives_and ?_ (gives_and ?_ (gives_and ?_ (gives_and ?_ (gives_and ?_ ?_))))))) <;> first | (simp [execBlockSealTimer]; done)

@[simp] theorem execBlockSealed_keeps (check : StoreCheck) (s : State) :
    gives (execBlockSealed check s) fun t => t.pending = s.pending ∧ t.cyc = s.cyc ∧ t.freeNext = s.freeNext
    ∧ t.mdl = s.mdl ∧ t.die = s.die ∧ t.hub = s.hub ∧ t.phi = s.phi ∧ t.tsu.time = s.tsu.time
    ∧ t.tsu.rings = s.tsu.rings ∧ t.tsu.cfg = s.tsu.cfg := by
  refine gives_and ?_ (gives_and ?_ (gives_and ?_ (gives_and ?_ (gives_and ?_ (gives_and ?_ (gives_and ?_ (gives_and ?_ (gives_and ?_ ?_)))))))) <;> first | (simp [execBlockSealed]; done)

@[simp] theorem State.dropResends_keeps (s : State) (rseq : Nat) :
    (State.dropResends s rseq).pending = s.pending ∧ (State.dropResends s rseq).cyc = s.cyc
    ∧ (State.dropResends s rseq).freeNext = s.freeNext ∧ (State.dropResends s rseq).out = s.out
    ∧ (State.dropResends s rseq).mdl = s.mdl ∧ (State.dropResends s rseq).meter = s.meter
    ∧ (State.dropResends s rseq).die = s.die ∧ (State.dropResends s rseq).hub = s.hub
    ∧ (State.dropResends s rseq).phi = s.phi ∧ (State.dropResends s rseq).tsu.time = s.tsu.time
    ∧ (State.dropResends s rseq).tsu.rings = s.tsu.rings ∧ (State.dropResends s rseq).tsu.cfg = s.tsu.cfg := by
  refine ⟨?_, ?_, ?_, ?_, ?_, ?_, ?_, ?_, ?_, ?_, ?_, ?_⟩ <;> first | (simp [State.dropResends]; done)

@[simp] theorem execRecordAckReceive_keeps (port : Nat) (e : Env) (f : RecAckPl) (check : StoreCheck) (s : State) :
    gives (execRecordAckReceive port e f check s) fun t => t.pending = s.pending ∧ t.cyc = s.cyc
    ∧ t.freeNext = s.freeNext ∧ t.mdl = s.mdl ∧ t.die = s.die ∧ t.hub = s.hub ∧ t.phi = s.phi
    ∧ t.tsu.time = s.tsu.time ∧ t.tsu.rings = s.tsu.rings ∧ t.tsu.cfg = s.tsu.cfg := by
  simp only [execRecordAckReceive, State.onEngine, State.onReliable_eq] <;> (repeat' split) <;> first | (simp; done) | (simp [*]; done) | (refine gives_and ?_ (gives_and ?_ (gives_and ?_ (gives_and ?_ (gives_and ?_ (gives_and ?_ (gives_and ?_ (gives_and ?_ (gives_and ?_ ?_)))))))) <;> first | rfl | (simp; done) | (simp [*]; done) | ((try simp); refine (foldl_pending _ _ _ fun s a => ?_).trans ?_ <;> (repeat' split) <;> first | with_reducible rfl | (simp; done) | (simp [*]; done)) | ((try simp); refine (foldl_cyc _ _ _ fun s a => ?_).trans ?_ <;> (repeat' split) <;> first | with_reducible rfl | (simp; done) | (simp [*]; done)) | ((try simp); refine (foldl_freeNext _ _ _ fun s a => ?_).trans ?_ <;> (repeat' split) <;> first | with_reducible rfl | (simp; done) | (simp [*]; done)) | ((try simp); refine (foldl_mdl _ _ _ fun s a => ?_).trans ?_ <;> (repeat' split) <;> first | with_reducible rfl | (simp; done) | (simp [*]; done)) | ((try simp); refine (foldl_die _ _ _ fun s a => ?_).trans ?_ <;> (repeat' split) <;> first | with_reducible rfl | (simp; done) | (simp [*]; done)) | ((try simp); refine (foldl_hub _ _ _ fun s a => ?_).trans ?_ <;> (repeat' split) <;> first | with_reducible rfl | (simp; done) | (simp [*]; done)) | ((try simp); refine (foldl_phi _ _ _ fun s a => ?_).trans ?_ <;> (repeat' split) <;> first | with_reducible rfl | (simp; done) | (simp [*]; done)) | ((try simp); refine (foldl_tsu_time _ _ _ fun s a => ?_).trans ?_ <;> (repeat' split) <;> first | with_reducible rfl | (simp; done) | (simp [*]; done)) | ((try simp); refine (foldl_tsu_rings _ _ _ fun s a => ?_).trans ?_ <;> (repeat' split) <;> first | with_reducible rfl | (simp; done) | (simp [*]; done)) | ((try simp); refine (foldl_tsu_cfg _ _ _ fun s a => ?_).trans ?_ <;> (repeat' split) <;> first | with_reducible rfl | (simp; done) | (simp [*]; done)))

@[simp] theorem execRecordResendTimer_keeps (s : State) :
    gives (execRecordResendTimer s) fun t => t.pending = s.pending ∧ t.cyc = s.cyc ∧ t.freeNext = s.freeNext
    ∧ t.out = s.out ∧ t.mdl = s.mdl ∧ t.die = s.die ∧ t.hub = s.hub ∧ t.phi = s.phi ∧ t.tsu.time = s.tsu.time
    ∧ t.tsu.rings = s.tsu.rings ∧ t.tsu.cfg = s.tsu.cfg := by
  simp only [execRecordResendTimer] <;> (repeat' split) <;> first | (simp; done) | (simp [*]; done) | (refine gives_and ?_ (gives_and ?_ (gives_and ?_ (gives_and ?_ (gives_and ?_ (gives_and ?_ (gives_and ?_ (gives_and ?_ (gives_and ?_ (gives_and ?_ ?_))))))))) <;> first | rfl | (simp; done) | (simp [*]; done))

@[simp] theorem State.refuseParam_keeps (s : State) (ring : Nat) (idx : Nat) (code : Nat) (v : W64) (st : Status) :
    (State.refuseParam s ring idx code v st).pending = s.pending ∧ (State.refuseParam s ring idx code v st).cyc = s.cyc
    ∧ (State.refuseParam s ring idx code v st).mdl = s.mdl ∧ (State.refuseParam s ring idx code v st).die = s.die
    ∧ (State.refuseParam s ring idx code v st).phi = s.phi
    ∧ (State.refuseParam s ring idx code v st).tsu.time = s.tsu.time
    ∧ (State.refuseParam s ring idx code v st).tsu.cfg = s.tsu.cfg
    ∧ (State.refuseParam s ring idx code v st).hub.storage = s.hub.storage
    ∧ (State.refuseParam s ring idx code v st).hub.fw.state = s.hub.fw.state
    ∧ (State.refuseParam s ring idx code v st).hub.pairs = s.hub.pairs
    ∧ (State.refuseParam s ring idx code v st).hub.led = s.hub.led
    ∧ (State.refuseParam s ring idx code v st).hub.seqs = s.hub.seqs := by
  refine ⟨?_, ?_, ?_, ?_, ?_, ?_, ?_, ?_, ?_, ?_, ?_, ?_⟩ <;> first | (simp [State.refuseParam]; done)

@[simp] theorem execMtrParam_keeps (ring : Nat) (idx : Nat) (s : State) :
    gives (execMtrParam ring idx s) fun t => t.pending = s.pending ∧ t.cyc = s.cyc ∧ t.mdl = s.mdl ∧ t.die = s.die
    ∧ t.phi = s.phi ∧ t.tsu.time = s.tsu.time ∧ t.tsu.cfg = s.tsu.cfg ∧ t.hub.storage = s.hub.storage
    ∧ t.hub.fw.state = s.hub.fw.state ∧ t.hub.pairs = s.hub.pairs ∧ t.hub.led = s.hub.led ∧ t.hub.seqs = s.hub.seqs := by
  simp only [execMtrParam, State.runDesc] <;> (repeat' split) <;> first | (simp; done) | (simp [*]; done) | (refine gives_and ?_ (gives_and ?_ (gives_and ?_ (gives_and ?_ (gives_and ?_ (gives_and ?_ (gives_and ?_ (gives_and ?_ (gives_and ?_ (gives_and ?_ (gives_and ?_ ?_)))))))))) <;> first | rfl | (simp; done) | (simp [*]; done))

@[simp] theorem execMtrStateSeal_keeps (ring : Nat) (idx : Nat) (cycles : Nat) (since : Nat) (s : State) :
    gives (execMtrStateSeal ring idx cycles since s) fun t => t.pending = s.pending ∧ t.cyc = s.cyc ∧ t.mdl = s.mdl
    ∧ t.phi = s.phi ∧ t.tsu.time = s.tsu.time ∧ t.tsu.cfg = s.tsu.cfg ∧ t.hub.storage = s.hub.storage
    ∧ t.hub.fw.state = s.hub.fw.state ∧ t.hub.pairs = s.hub.pairs ∧ t.hub.led = s.hub.led ∧ t.hub.seqs = s.hub.seqs
    ∧ t.die.sync = s.die.sync ∧ t.die.launches = s.die.launches ∧ t.die.dig = s.die.dig ∧ t.die.binds = s.die.binds
    ∧ t.die.coreEn = s.die.coreEn := by
  simp only [execMtrStateSeal, State.runDesc] <;> (repeat' split) <;> first | (simp; done) | (simp [*]; done) | (refine gives_and ?_ (gives_and ?_ (gives_and ?_ (gives_and ?_ (gives_and ?_ (gives_and ?_ (gives_and ?_ (gives_and ?_ (gives_and ?_ (gives_and ?_ (gives_and ?_ (gives_and ?_ (gives_and ?_ (gives_and ?_ (gives_and ?_ ?_)))))))))))))) <;> first | rfl | (simp; done) | (simp [*]; done))

@[simp] theorem execMtrStateOpen_keeps (ring : Nat) (idx : Nat) (cycles : Nat) (since : Nat) (s : State) :
    gives (execMtrStateOpen ring idx cycles since s) fun t => t.pending = s.pending ∧ t.cyc = s.cyc ∧ t.mdl = s.mdl
    ∧ t.phi = s.phi ∧ t.tsu.time = s.tsu.time ∧ t.tsu.cfg = s.tsu.cfg ∧ t.hub.storage = s.hub.storage
    ∧ t.hub.fw.state = s.hub.fw.state ∧ t.hub.pairs = s.hub.pairs ∧ t.hub.led = s.hub.led ∧ t.hub.seqs = s.hub.seqs
    ∧ t.die.sync = s.die.sync ∧ t.die.launches = s.die.launches ∧ t.die.dig = s.die.dig ∧ t.die.binds = s.die.binds
    ∧ t.die.coreEn = s.die.coreEn := by
  simp only [execMtrStateOpen, State.runDesc] <;> (repeat' split) <;> first | (simp; done) | (simp [*]; done) | (refine gives_and ?_ (gives_and ?_ (gives_and ?_ (gives_and ?_ (gives_and ?_ (gives_and ?_ (gives_and ?_ (gives_and ?_ (gives_and ?_ (gives_and ?_ (gives_and ?_ (gives_and ?_ (gives_and ?_ (gives_and ?_ (gives_and ?_ ?_)))))))))))))) <;> first | rfl | (simp; done) | (simp [*]; done))

@[simp] theorem execMtrLogRead_keeps (ring : Nat) (idx : Nat) (s : State) :
    gives (execMtrLogRead ring idx s) fun t => t.pending = s.pending ∧ t.cyc = s.cyc ∧ t.mdl = s.mdl ∧ t.meter = s.meter
    ∧ t.die = s.die ∧ t.phi = s.phi ∧ t.tsu.time = s.tsu.time ∧ t.tsu.cfg = s.tsu.cfg
    ∧ t.hub.storage = s.hub.storage ∧ t.hub.fw.state = s.hub.fw.state ∧ t.hub.pairs = s.hub.pairs
    ∧ t.hub.led = s.hub.led ∧ t.hub.seqs = s.hub.seqs := by
  simp only [execMtrLogRead, State.runDesc] <;> (repeat' split) <;> first | (simp; done) | (simp [*]; done) | (refine gives_and ?_ (gives_and ?_ (gives_and ?_ (gives_and ?_ (gives_and ?_ (gives_and ?_ (gives_and ?_ (gives_and ?_ (gives_and ?_ (gives_and ?_ (gives_and ?_ (gives_and ?_ ?_))))))))))) <;> first | rfl | (simp; done) | (simp [*]; done))

@[simp] theorem execMtrMirrorRead_keeps (s : State) :
    gives (execMtrMirrorRead s) fun t => t.pending = s.pending ∧ t.cyc = s.cyc ∧ t.freeNext = s.freeNext ∧ t.mdl = s.mdl
    ∧ t.die = s.die ∧ t.hub = s.hub ∧ t.tsu = s.tsu ∧ t.phi = s.phi := by
  refine gives_and ?_ (gives_and ?_ (gives_and ?_ (gives_and ?_ (gives_and ?_ (gives_and ?_ (gives_and ?_ ?_)))))) <;> first | (simp [execMtrMirrorRead]; done)

end Sys2Proof.Machine
end

