-- ==== Sys2Proof/Laws/Module.lean ====
section
/-!
SUPPORT. What the operations and meanings of Machine/Module.lean leave unchanged.
-/

namespace Sys2Proof.Machine

@[simp] theorem State.convertersOff_keeps (s : State) :
    (State.convertersOff s).pending = s.pending ∧ (State.convertersOff s).cyc = s.cyc
    ∧ (State.convertersOff s).freeNext = s.freeNext ∧ (State.convertersOff s).out = s.out
    ∧ (State.convertersOff s).meter = s.meter ∧ (State.convertersOff s).die = s.die
    ∧ (State.convertersOff s).tsu = s.tsu ∧ (State.convertersOff s).phi.cfg.lcState = s.phi.cfg.lcState
    ∧ (State.convertersOff s).phi.cfg.lcRows = s.phi.cfg.lcRows
    ∧ (State.convertersOff s).hub.storage = s.hub.storage := by
  refine ⟨?_, ?_, ?_, ?_, ?_, ?_, ?_, ?_, ?_, ?_⟩ <;> first | (simp [State.convertersOff]; done)

@[simp] theorem State.convertersStart_keeps (s : State) :
    (State.convertersStart s).pending = s.pending ∧ (State.convertersStart s).cyc = s.cyc
    ∧ (State.convertersStart s).freeNext = s.freeNext ∧ (State.convertersStart s).out = s.out
    ∧ (State.convertersStart s).meter = s.meter ∧ (State.convertersStart s).die = s.die
    ∧ (State.convertersStart s).hub = s.hub ∧ (State.convertersStart s).tsu = s.tsu
    ∧ (State.convertersStart s).phi = s.phi := by
  refine ⟨?_, ?_, ?_, ?_, ?_, ?_, ?_, ?_, ?_⟩ <;> first | (simp [State.convertersStart]; done)

@[simp] theorem execInputUndervoltage_keeps (mv : Nat) (s : State) :
    gives (execInputUndervoltage mv s) fun t => t.pending = s.pending ∧ t.cyc = s.cyc ∧ t.freeNext = s.freeNext
    ∧ t.out = s.out ∧ t.meter = s.meter ∧ t.die = s.die ∧ t.tsu = s.tsu ∧ t.phi.cfg.lcState = s.phi.cfg.lcState
    ∧ t.phi.cfg.lcRows = s.phi.cfg.lcRows ∧ t.hub.storage = s.hub.storage := by
  refine gives_and ?_ (gives_and ?_ (gives_and ?_ (gives_and ?_ (gives_and ?_ (gives_and ?_ (gives_and ?_ (gives_and ?_ (gives_and ?_ ?_)))))))) <;> first | (simp [execInputUndervoltage]; done)

@[simp] theorem execInputOvervoltage_keeps (mv : Nat) (s : State) :
    gives (execInputOvervoltage mv s) fun t => t.pending = s.pending ∧ t.cyc = s.cyc ∧ t.freeNext = s.freeNext
    ∧ t.out = s.out ∧ t.meter = s.meter ∧ t.die = s.die ∧ t.tsu = s.tsu ∧ t.phi.cfg.lcState = s.phi.cfg.lcState
    ∧ t.phi.cfg.lcRows = s.phi.cfg.lcRows ∧ t.hub.storage = s.hub.storage := by
  refine gives_and ?_ (gives_and ?_ (gives_and ?_ (gives_and ?_ (gives_and ?_ (gives_and ?_ (gives_and ?_ (gives_and ?_ (gives_and ?_ ?_)))))))) <;> first | (simp [execInputOvervoltage]; done)

@[simp] theorem execInputRecovery_keeps (mv : Nat) (s : State) :
    gives (execInputRecovery mv s) fun t => t.pending = s.pending ∧ t.cyc = s.cyc ∧ t.freeNext = s.freeNext
    ∧ t.out = s.out ∧ t.meter = s.meter ∧ t.die = s.die ∧ t.hub = s.hub ∧ t.tsu = s.tsu ∧ t.phi = s.phi := by
  refine gives_and ?_ (gives_and ?_ (gives_and ?_ (gives_and ?_ (gives_and ?_ (gives_and ?_ (gives_and ?_ (gives_and ?_ ?_))))))) <;> first | (simp [execInputRecovery]; done)

@[simp] theorem execPresentPinBreak_keeps (s : State) :
    gives (execPresentPinBreak s) fun t => t.pending = s.pending ∧ t.cyc = s.cyc ∧ t.freeNext = s.freeNext
    ∧ t.out = s.out ∧ t.meter = s.meter ∧ t.die = s.die ∧ t.tsu = s.tsu ∧ t.phi.cfg.lcState = s.phi.cfg.lcState
    ∧ t.phi.cfg.lcRows = s.phi.cfg.lcRows ∧ t.hub.storage = s.hub.storage := by
  refine gives_and ?_ (gives_and ?_ (gives_and ?_ (gives_and ?_ (gives_and ?_ (gives_and ?_ (gives_and ?_ (gives_and ?_ (gives_and ?_ ?_)))))))) <;> first | (simp [execPresentPinBreak]; done)

@[simp] theorem execPresentPinMate_keeps (s : State) :
    gives (execPresentPinMate s) fun t => t.pending = s.pending ∧ t.cyc = s.cyc ∧ t.freeNext = s.freeNext
    ∧ t.out = s.out ∧ t.meter = s.meter ∧ t.die = s.die ∧ t.hub = s.hub ∧ t.tsu = s.tsu ∧ t.phi = s.phi := by
  refine gives_and ?_ (gives_and ?_ (gives_and ?_ (gives_and ?_ (gives_and ?_ (gives_and ?_ (gives_and ?_ (gives_and ?_ ?_))))))) <;> first | (simp [execPresentPinMate]; done)

@[simp] theorem State.smbusRead_keeps (s : State) (pec : Bool) (data : List Byte) :
    (State.smbusRead s pec data).pending = s.pending ∧ (State.smbusRead s pec data).cyc = s.cyc
    ∧ (State.smbusRead s pec data).freeNext = s.freeNext ∧ (State.smbusRead s pec data).mdl = s.mdl
    ∧ (State.smbusRead s pec data).meter = s.meter ∧ (State.smbusRead s pec data).die = s.die
    ∧ (State.smbusRead s pec data).hub = s.hub ∧ (State.smbusRead s pec data).tsu = s.tsu
    ∧ (State.smbusRead s pec data).phi = s.phi := by
  refine ⟨?_, ?_, ?_, ?_, ?_, ?_, ?_, ?_, ?_⟩ <;> first | (simp [State.smbusRead]; done)

@[simp] theorem execSmbusStatus_keeps (pec : Bool) (overcurrent : Bool) (s : State) :
    gives (execSmbusStatus pec overcurrent s) fun t => t.pending = s.pending ∧ t.cyc = s.cyc ∧ t.freeNext = s.freeNext
    ∧ t.meter = s.meter ∧ t.die = s.die ∧ t.hub = s.hub ∧ t.tsu = s.tsu ∧ t.phi = s.phi := by
  refine gives_and ?_ (gives_and ?_ (gives_and ?_ (gives_and ?_ (gives_and ?_ (gives_and ?_ (gives_and ?_ ?_)))))) <;> first | (simp [execSmbusStatus]; done)

@[simp] theorem execSmbusVinMv_keeps (pec : Bool) (mv : W16) (s : State) :
    gives (execSmbusVinMv pec mv s) fun t => t.pending = s.pending ∧ t.cyc = s.cyc ∧ t.freeNext = s.freeNext
    ∧ t.mdl = s.mdl ∧ t.meter = s.meter ∧ t.die = s.die ∧ t.hub = s.hub ∧ t.tsu = s.tsu ∧ t.phi = s.phi := by
  refine gives_and ?_ (gives_and ?_ (gives_and ?_ (gives_and ?_ (gives_and ?_ (gives_and ?_ (gives_and ?_ (gives_and ?_ ?_))))))) <;> first | (simp [execSmbusVinMv]; done)

@[simp] theorem execSmbusIinMa_keeps (pec : Bool) (ma : W16) (s : State) :
    gives (execSmbusIinMa pec ma s) fun t => t.pending = s.pending ∧ t.cyc = s.cyc ∧ t.freeNext = s.freeNext
    ∧ t.mdl = s.mdl ∧ t.meter = s.meter ∧ t.die = s.die ∧ t.hub = s.hub ∧ t.tsu = s.tsu ∧ t.phi = s.phi := by
  refine gives_and ?_ (gives_and ?_ (gives_and ?_ (gives_and ?_ (gives_and ?_ (gives_and ?_ (gives_and ?_ (gives_and ?_ ?_))))))) <;> first | (simp [execSmbusIinMa]; done)

@[simp] theorem execSmbusPinDw_keeps (pec : Bool) (dw : W16) (s : State) :
    gives (execSmbusPinDw pec dw s) fun t => t.pending = s.pending ∧ t.cyc = s.cyc ∧ t.freeNext = s.freeNext
    ∧ t.mdl = s.mdl ∧ t.meter = s.meter ∧ t.die = s.die ∧ t.hub = s.hub ∧ t.tsu = s.tsu ∧ t.phi = s.phi := by
  refine gives_and ?_ (gives_and ?_ (gives_and ?_ (gives_and ?_ (gives_and ?_ (gives_and ?_ (gives_and ?_ (gives_and ?_ ?_))))))) <;> first | (simp [execSmbusPinDw]; done)

@[simp] theorem execSmbusTemps_keeps (pec : Bool) (phidor : Byte) (memory : Byte) (inlet : Byte) (converter : Byte) (s : State) :
    gives (execSmbusTemps pec phidor memory inlet converter s) fun t => t.pending = s.pending ∧ t.cyc = s.cyc
    ∧ t.freeNext = s.freeNext ∧ t.mdl = s.mdl ∧ t.meter = s.meter ∧ t.die = s.die ∧ t.hub = s.hub ∧ t.tsu = s.tsu
    ∧ t.phi = s.phi := by
  refine gives_and ?_ (gives_and ?_ (gives_and ?_ (gives_and ?_ (gives_and ?_ (gives_and ?_ (gives_and ?_ (gives_and ?_ ?_))))))) <;> first | (simp [execSmbusTemps]; done)

@[simp] theorem State.ctrlWrite_keeps (s : State) (off : Bool) (clear : Bool) :
    (State.ctrlWrite s off clear).pending = s.pending ∧ (State.ctrlWrite s off clear).cyc = s.cyc
    ∧ (State.ctrlWrite s off clear).freeNext = s.freeNext ∧ (State.ctrlWrite s off clear).out = s.out
    ∧ (State.ctrlWrite s off clear).meter = s.meter ∧ (State.ctrlWrite s off clear).die = s.die
    ∧ (State.ctrlWrite s off clear).tsu = s.tsu ∧ (State.ctrlWrite s off clear).phi.cfg.lcState = s.phi.cfg.lcState
    ∧ (State.ctrlWrite s off clear).phi.cfg.lcRows = s.phi.cfg.lcRows
    ∧ (State.ctrlWrite s off clear).hub.storage = s.hub.storage := by
  refine ⟨?_, ?_, ?_, ?_, ?_, ?_, ?_, ?_, ?_, ?_⟩ <;> first | (simp [State.ctrlWrite]; done)

@[simp] theorem execSmbusConvertersOff_keeps (pec : Bool) (clear : Bool) (s : State) :
    gives (execSmbusConvertersOff pec clear s) fun t => t.pending = s.pending ∧ t.cyc = s.cyc ∧ t.freeNext = s.freeNext
    ∧ t.out = s.out ∧ t.meter = s.meter ∧ t.die = s.die ∧ t.tsu = s.tsu ∧ t.phi.cfg.lcState = s.phi.cfg.lcState
    ∧ t.phi.cfg.lcRows = s.phi.cfg.lcRows ∧ t.hub.storage = s.hub.storage := by
  refine gives_and ?_ (gives_and ?_ (gives_and ?_ (gives_and ?_ (gives_and ?_ (gives_and ?_ (gives_and ?_ (gives_and ?_ (gives_and ?_ ?_)))))))) <;> first | (simp [execSmbusConvertersOff]; done)

@[simp] theorem execSmbusConvertersOn_keeps (pec : Bool) (clear : Bool) (s : State) :
    gives (execSmbusConvertersOn pec clear s) fun t => t.pending = s.pending ∧ t.cyc = s.cyc ∧ t.freeNext = s.freeNext
    ∧ t.out = s.out ∧ t.meter = s.meter ∧ t.die = s.die ∧ t.tsu = s.tsu ∧ t.phi.cfg.lcState = s.phi.cfg.lcState
    ∧ t.phi.cfg.lcRows = s.phi.cfg.lcRows ∧ t.hub.storage = s.hub.storage := by
  refine gives_and ?_ (gives_and ?_ (gives_and ?_ (gives_and ?_ (gives_and ?_ (gives_and ?_ (gives_and ?_ (gives_and ?_ (gives_and ?_ ?_)))))))) <;> first | (simp [execSmbusConvertersOn]; done)

@[simp] theorem execSmbusClearFaults_keeps (pec : Bool) (off : Bool) (s : State) :
    gives (execSmbusClearFaults pec off s) fun t => t.pending = s.pending ∧ t.cyc = s.cyc ∧ t.freeNext = s.freeNext
    ∧ t.out = s.out ∧ t.meter = s.meter ∧ t.die = s.die ∧ t.tsu = s.tsu ∧ t.phi.cfg.lcState = s.phi.cfg.lcState
    ∧ t.phi.cfg.lcRows = s.phi.cfg.lcRows ∧ t.hub.storage = s.hub.storage := by
  refine gives_and ?_ (gives_and ?_ (gives_and ?_ (gives_and ?_ (gives_and ?_ (gives_and ?_ (gives_and ?_ (gives_and ?_ (gives_and ?_ ?_)))))))) <;> first | (simp [execSmbusClearFaults]; done)

@[simp] theorem execSmbusModuleId_keeps (pec : Bool) (s : State) :
    gives (execSmbusModuleId pec s) fun t => t.pending = s.pending ∧ t.cyc = s.cyc ∧ t.freeNext = s.freeNext
    ∧ t.mdl = s.mdl ∧ t.meter = s.meter ∧ t.die = s.die ∧ t.hub = s.hub ∧ t.tsu = s.tsu ∧ t.phi = s.phi := by
  refine gives_and ?_ (gives_and ?_ (gives_and ?_ (gives_and ?_ (gives_and ?_ (gives_and ?_ (gives_and ?_ (gives_and ?_ ?_))))))) <;> first | (simp [execSmbusModuleId]; done)

end Sys2Proof.Machine
end

