-- ==== Sys2Proof/Laws/Resets.lean ====
section
/-!
SUPPORT. What the operations and meanings of Machine/Resets.lean leave unchanged.
-/

namespace Sys2Proof.Machine

@[simp] theorem execEngineResetStepTimeout_keeps_phi (engine : Nat) (refOk : Bool) (parityOk : Bool) (s : State) :
    gives (execEngineResetStepTimeout .phi engine refOk parityOk s) fun t => t.tsu = s.tsu ∧ t.die = s.die := by
  refine gives_and ?_ ?_ <;> first | (simp [execEngineResetStepTimeout]; done)

@[simp] theorem State.ringReturn_keeps (s : State) :
    (State.ringReturn s).pending = s.pending ∧ (State.ringReturn s).cyc = s.cyc ∧ (State.ringReturn s).mdl = s.mdl
    ∧ (State.ringReturn s).meter = s.meter ∧ (State.ringReturn s).phi = s.phi
    ∧ (State.ringReturn s).tsu.time = s.tsu.time ∧ (State.ringReturn s).tsu.cfg = s.tsu.cfg
    ∧ (State.ringReturn s).hub.storage = s.hub.storage ∧ (State.ringReturn s).hub.fw.state = s.hub.fw.state
    ∧ (State.ringReturn s).hub.pairs = s.hub.pairs ∧ (State.ringReturn s).hub.led = s.hub.led
    ∧ (State.ringReturn s).hub.seqs = s.hub.seqs ∧ (State.ringReturn s).die.launches = s.die.launches
    ∧ (State.ringReturn s).die.dig = s.die.dig ∧ (State.ringReturn s).die.binds = s.die.binds
    ∧ (State.ringReturn s).die.coreEn = s.die.coreEn := by
  refine ⟨?_, ?_, ?_, ?_, ?_, ?_, ?_, ?_, ?_, ?_, ?_, ?_, ?_, ?_, ?_, ?_⟩ <;> first | (simp [State.ringReturn]; done)

@[simp] theorem State.deliver_keeps (s : State) (engine : Nat) (item : List Byte) :
    (State.deliver s engine item).pending = s.pending ∧ (State.deliver s engine item).cyc = s.cyc
    ∧ (State.deliver s engine item).mdl = s.mdl ∧ (State.deliver s engine item).meter = s.meter
    ∧ (State.deliver s engine item).phi = s.phi ∧ (State.deliver s engine item).tsu.time.acc = s.tsu.time.acc
    ∧ (State.deliver s engine item).tsu.time.state = s.tsu.time.state
    ∧ (State.deliver s engine item).tsu.cfg = s.tsu.cfg ∧ (State.deliver s engine item).hub.storage = s.hub.storage
    ∧ (State.deliver s engine item).hub.fw.state = s.hub.fw.state
    ∧ (State.deliver s engine item).hub.pairs = s.hub.pairs ∧ (State.deliver s engine item).hub.led = s.hub.led
    ∧ (State.deliver s engine item).hub.seqs = s.hub.seqs := by
  simp only [State.deliver] <;> (repeat' split) <;> first | (simp; done) | (simp [*]; done) | (refine ⟨?_, ?_, ?_, ?_, ?_, ?_, ?_, ?_, ?_, ?_, ?_, ?_, ?_⟩ <;> first | rfl | (simp; done) | (simp [*]; done))

@[simp] theorem execEngineResetDone_keeps (p : Part) (engine : Nat) (s : State) :
    gives (execEngineResetDone p engine s) fun t => t.pending = s.pending ∧ t.cyc = s.cyc ∧ t.mdl = s.mdl
    ∧ t.meter = s.meter ∧ t.tsu.time.acc = s.tsu.time.acc ∧ t.tsu.time.state = s.tsu.time.state
    ∧ t.tsu.cfg = s.tsu.cfg ∧ t.phi.time = s.phi.time ∧ t.phi.cfg = s.phi.cfg ∧ t.hub.storage = s.hub.storage
    ∧ t.hub.fw.state = s.hub.fw.state ∧ t.hub.pairs = s.hub.pairs ∧ t.hub.led = s.hub.led ∧ t.hub.seqs = s.hub.seqs := by
  refine gives_and ?_ (gives_and ?_ (gives_and ?_ (gives_and ?_ (gives_and ?_ (gives_and ?_ (gives_and ?_ (gives_and ?_ (gives_and ?_ (gives_and ?_ (gives_and ?_ (gives_and ?_ (gives_and ?_ ?_)))))))))))) <;> first | (simp [execEngineResetDone]; done)

@[simp] theorem execEngineResetDone_keeps_tsu (engine : Nat) (s : State) :
    gives (execEngineResetDone .tsu engine s) fun t => t.phi = s.phi := by simp [execEngineResetDone]

@[simp] theorem execTsuWarmReset_keeps (refOk : Bool) (parityOk : Bool) (s : State) :
    gives (execTsuWarmReset refOk parityOk s) fun t => t.pending = s.pending ∧ t.cyc = s.cyc ∧ t.mdl = s.mdl
    ∧ t.meter = s.meter ∧ t.phi = s.phi ∧ t.tsu.time.acc = s.tsu.time.acc ∧ t.hub.storage = s.hub.storage
    ∧ t.hub.fw.state = s.hub.fw.state ∧ t.hub.pairs = s.hub.pairs ∧ t.hub.led = s.hub.led ∧ t.hub.seqs = s.hub.seqs := by
  refine gives_and ?_ (gives_and ?_ (gives_and ?_ (gives_and ?_ (gives_and ?_ (gives_and ?_ (gives_and ?_ (gives_and ?_ (gives_and ?_ (gives_and ?_ ?_))))))))) <;> first | (simp [execTsuWarmReset]; done)

@[simp] theorem execDieReset_keeps (refOk : Bool) (parityOk : Bool) (s : State) :
    gives (execDieReset refOk parityOk s) fun t => t.pending = s.pending ∧ t.cyc = s.cyc ∧ t.mdl = s.mdl
    ∧ t.meter = s.meter ∧ t.phi = s.phi ∧ t.tsu.time.acc = s.tsu.time.acc ∧ t.hub.storage = s.hub.storage
    ∧ t.hub.fw.state = s.hub.fw.state ∧ t.hub.pairs = s.hub.pairs ∧ t.hub.led = s.hub.led ∧ t.hub.seqs = s.hub.seqs := by
  refine gives_and ?_ (gives_and ?_ (gives_and ?_ (gives_and ?_ (gives_and ?_ (gives_and ?_ (gives_and ?_ (gives_and ?_ (gives_and ?_ (gives_and ?_ ?_))))))))) <;> first | (simp [execDieReset]; done)

@[simp] theorem execChipReset_keeps (key : W32) (refOk : Bool) (parityOk : Bool) (s : State) :
    gives (execChipReset key refOk parityOk s) fun t => t.pending = s.pending ∧ t.cyc = s.cyc ∧ t.freeNext = s.freeNext
    ∧ t.out = s.out ∧ t.mdl = s.mdl ∧ t.meter = s.meter ∧ t.die = s.die ∧ t.tsu = s.tsu
    ∧ t.phi.cfg.lcState = s.phi.cfg.lcState ∧ t.phi.cfg.lcRows = s.phi.cfg.lcRows ∧ t.hub.storage = s.hub.storage := by
  refine gives_and ?_ (gives_and ?_ (gives_and ?_ (gives_and ?_ (gives_and ?_ (gives_and ?_ (gives_and ?_ (gives_and ?_ (gives_and ?_ (gives_and ?_ ?_))))))))) <;> first | (simp [execChipReset]; done)

@[simp] theorem execModulePowerOn_keeps (s : State) :
    gives (execModulePowerOn s) fun t => t.pending = s.pending ∧ t.cyc = s.cyc ∧ t.freeNext = s.freeNext ∧ t.out = s.out
    ∧ t.mdl = s.mdl ∧ t.meter = s.meter ∧ t.die = s.die ∧ t.tsu = s.tsu ∧ t.phi.cfg.lcState = s.phi.cfg.lcState
    ∧ t.phi.cfg.lcRows = s.phi.cfg.lcRows ∧ t.hub.storage = s.hub.storage := by
  refine gives_and ?_ (gives_and ?_ (gives_and ?_ (gives_and ?_ (gives_and ?_ (gives_and ?_ (gives_and ?_ (gives_and ?_ (gives_and ?_ (gives_and ?_ ?_))))))))) <;> first | (simp [execModulePowerOn]; done)

@[simp] theorem execDredgeDone_keeps (p : Part) (s : State) :
    gives (execDredgeDone p s) fun t => t.pending = s.pending ∧ t.cyc = s.cyc ∧ t.freeNext = s.freeNext ∧ t.out = s.out
    ∧ t.mdl = s.mdl ∧ t.meter = s.meter ∧ t.tsu.time = s.tsu.time ∧ t.tsu.rings = s.tsu.rings
    ∧ t.tsu.cfg.lcState = s.tsu.cfg.lcState ∧ t.tsu.cfg.lcRows = s.tsu.cfg.lcRows ∧ t.phi.time = s.phi.time
    ∧ t.phi.rings = s.phi.rings ∧ t.phi.cfg.lcState = s.phi.cfg.lcState ∧ t.phi.cfg.lcRows = s.phi.cfg.lcRows
    ∧ t.hub.storage = s.hub.storage ∧ t.hub.pairs = s.hub.pairs ∧ t.hub.led = s.hub.led ∧ t.hub.seqs = s.hub.seqs
    ∧ t.die.sync = s.die.sync ∧ t.die.launches = s.die.launches ∧ t.die.dig = s.die.dig ∧ t.die.binds = s.die.binds
    ∧ t.die.coreEn = s.die.coreEn := by
  simp only [execDredgeDone] <;> (repeat' split) <;> first | (simp; done) | (simp [*]; done) | (refine gives_and ?_ (gives_and ?_ (gives_and ?_ (gives_and ?_ (gives_and ?_ (gives_and ?_ (gives_and ?_ (gives_and ?_ (gives_and ?_ (gives_and ?_ (gives_and ?_ (gives_and ?_ (gives_and ?_ (gives_and ?_ (gives_and ?_ (gives_and ?_ (gives_and ?_ (gives_and ?_ (gives_and ?_ (gives_and ?_ (gives_and ?_ (gives_and ?_ ?_))))))))))))))))))))) <;> first | rfl | (simp; done) | (simp [*]; done))

@[simp] theorem execDredgeDone_keeps_tsu (s : State) :
    gives (execDredgeDone .tsu s) fun t => t.phi = s.phi ∧ t.hub = s.hub := by
  simp only [execDredgeDone] <;> (repeat' split) <;> first | (simp; done) | (simp [*]; done) | (refine gives_and ?_ ?_ <;> first | rfl | (simp; done) | (simp [*]; done))

@[simp] theorem execDredgeDone_keeps_phi (s : State) :
    gives (execDredgeDone .phi s) fun t => t.tsu = s.tsu ∧ t.die = s.die := by
  simp only [execDredgeDone] <;> (repeat' split) <;> first | (simp; done) | (simp [*]; done) | (refine gives_and ?_ ?_ <;> first | rfl | (simp; done) | (simp [*]; done))

@[simp] theorem execUnitEngineReset_keeps (p : Part) (ring : Nat) (idx : Nat) (s : State) :
    gives (execUnitEngineReset p ring idx s) fun t => t.pending = s.pending ∧ t.cyc = s.cyc ∧ t.mdl = s.mdl
    ∧ t.meter = s.meter ∧ t.die = s.die ∧ t.tsu.time = s.tsu.time ∧ t.tsu.cfg = s.tsu.cfg ∧ t.phi.time = s.phi.time
    ∧ t.phi.cfg = s.phi.cfg ∧ t.hub.storage = s.hub.storage ∧ t.hub.fw.state = s.hub.fw.state
    ∧ t.hub.pairs = s.hub.pairs ∧ t.hub.led = s.hub.led ∧ t.hub.seqs = s.hub.seqs := by
  simp only [execUnitEngineReset, State.runDesc, State.unitCtrl] <;> (repeat' split) <;> first | (simp; done) | (simp [*]; done) | (refine gives_and ?_ (gives_and ?_ (gives_and ?_ (gives_and ?_ (gives_and ?_ (gives_and ?_ (gives_and ?_ (gives_and ?_ (gives_and ?_ (gives_and ?_ (gives_and ?_ (gives_and ?_ (gives_and ?_ ?_)))))))))))) <;> first | rfl | (simp; done) | (simp [*]; done))

@[simp] theorem execUnitEngineReset_keeps_tsu (ring : Nat) (idx : Nat) (s : State) :
    gives (execUnitEngineReset .tsu ring idx s) fun t => t.phi = s.phi := by simp only [execUnitEngineReset, State.runDesc, State.unitCtrl] <;> (repeat' split) <;> first | rfl | (simp; done) | (simp [*]; done)

@[simp] theorem execUnitEngineReset_keeps_phi (ring : Nat) (idx : Nat) (s : State) :
    gives (execUnitEngineReset .phi ring idx s) fun t => t.tsu = s.tsu := by simp only [execUnitEngineReset, State.runDesc, State.unitCtrl] <;> (repeat' split) <;> first | rfl | (simp; done) | (simp [*]; done)

end Sys2Proof.Machine
end

