-- ==== Sys2Proof/Laws/Sync.lean ====
section
/-!
SUPPORT. What the operations and meanings of Machine/Sync.lean leave unchanged.
-/

namespace Sys2Proof.Machine

@[simp] theorem execFlagSet_keeps (core : Nat) (ctx : Nat) (index : Nat) (s : State) :
    gives (execFlagSet core ctx index s) fun t => t.pending = s.pending ∧ t.cyc = s.cyc ∧ t.mdl = s.mdl
    ∧ t.meter = s.meter ∧ t.phi = s.phi ∧ t.tsu.time = s.tsu.time ∧ t.tsu.cfg = s.tsu.cfg
    ∧ t.hub.storage = s.hub.storage ∧ t.hub.fw.state = s.hub.fw.state ∧ t.hub.pairs = s.hub.pairs
    ∧ t.hub.led = s.hub.led ∧ t.hub.seqs = s.hub.seqs ∧ t.die.launches = s.die.launches ∧ t.die.dig = s.die.dig
    ∧ t.die.binds = s.die.binds ∧ t.die.coreEn = s.die.coreEn := by
  refine gives_and ?_ (gives_and ?_ (gives_and ?_ (gives_and ?_ (gives_and ?_ (gives_and ?_ (gives_and ?_ (gives_and ?_ (gives_and ?_ (gives_and ?_ (gives_and ?_ (gives_and ?_ (gives_and ?_ (gives_and ?_ (gives_and ?_ ?_)))))))))))))) <;> first | (simp [execFlagSet]; done)

@[simp] theorem execFlagClear_keeps (core : Nat) (ctx : Nat) (index : Nat) (s : State) :
    gives (execFlagClear core ctx index s) fun t => t.pending = s.pending ∧ t.cyc = s.cyc ∧ t.mdl = s.mdl
    ∧ t.meter = s.meter ∧ t.phi = s.phi ∧ t.tsu.time = s.tsu.time ∧ t.tsu.cfg = s.tsu.cfg
    ∧ t.hub.storage = s.hub.storage ∧ t.hub.fw.state = s.hub.fw.state ∧ t.hub.pairs = s.hub.pairs
    ∧ t.hub.led = s.hub.led ∧ t.hub.seqs = s.hub.seqs ∧ t.die.launches = s.die.launches ∧ t.die.dig = s.die.dig
    ∧ t.die.binds = s.die.binds ∧ t.die.coreEn = s.die.coreEn := by
  refine gives_and ?_ (gives_and ?_ (gives_and ?_ (gives_and ?_ (gives_and ?_ (gives_and ?_ (gives_and ?_ (gives_and ?_ (gives_and ?_ (gives_and ?_ (gives_and ?_ (gives_and ?_ (gives_and ?_ (gives_and ?_ (gives_and ?_ ?_)))))))))))))) <;> first | (simp [execFlagClear]; done)

@[simp] theorem execFlagTest_keeps (core : Nat) (ctx : Nat) (index : Nat) (consume : Bool) (s : State) :
    gives (execFlagTest core ctx index consume s) fun t => t.pending = s.pending ∧ t.cyc = s.cyc ∧ t.mdl = s.mdl
    ∧ t.meter = s.meter ∧ t.phi = s.phi ∧ t.tsu.time = s.tsu.time ∧ t.tsu.cfg = s.tsu.cfg
    ∧ t.hub.storage = s.hub.storage ∧ t.hub.fw.state = s.hub.fw.state ∧ t.hub.pairs = s.hub.pairs
    ∧ t.hub.led = s.hub.led ∧ t.hub.seqs = s.hub.seqs ∧ t.die.launches = s.die.launches ∧ t.die.dig = s.die.dig
    ∧ t.die.binds = s.die.binds ∧ t.die.coreEn = s.die.coreEn := by
  refine gives_and ?_ (gives_and ?_ (gives_and ?_ (gives_and ?_ (gives_and ?_ (gives_and ?_ (gives_and ?_ (gives_and ?_ (gives_and ?_ (gives_and ?_ (gives_and ?_ (gives_and ?_ (gives_and ?_ (gives_and ?_ (gives_and ?_ ?_)))))))))))))) <;> first | (simp [execFlagTest]; done)

@[simp] theorem execFlagWait_keeps (core : Nat) (ctx : Nat) (index : Nat) (consume : Bool) (timeoutUs : Nat) (s : State) :
    gives (execFlagWait core ctx index consume timeoutUs s) fun t => t.pending = s.pending ∧ t.cyc = s.cyc
    ∧ t.mdl = s.mdl ∧ t.meter = s.meter ∧ t.phi = s.phi ∧ t.tsu.time = s.tsu.time ∧ t.tsu.cfg = s.tsu.cfg
    ∧ t.hub.storage = s.hub.storage ∧ t.hub.fw.state = s.hub.fw.state ∧ t.hub.pairs = s.hub.pairs
    ∧ t.hub.led = s.hub.led ∧ t.hub.seqs = s.hub.seqs ∧ t.die.launches = s.die.launches ∧ t.die.dig = s.die.dig
    ∧ t.die.binds = s.die.binds ∧ t.die.coreEn = s.die.coreEn := by
  refine gives_and ?_ (gives_and ?_ (gives_and ?_ (gives_and ?_ (gives_and ?_ (gives_and ?_ (gives_and ?_ (gives_and ?_ (gives_and ?_ (gives_and ?_ (gives_and ?_ (gives_and ?_ (gives_and ?_ (gives_and ?_ (gives_and ?_ ?_)))))))))))))) <;> first | (simp [execFlagWait]; done)

@[simp] theorem execTallyAdd_keeps (core : Nat) (ctx : Nat) (index : Nat) (operand : W32) (s : State) :
    gives (execTallyAdd core ctx index operand s) fun t => t.pending = s.pending ∧ t.cyc = s.cyc ∧ t.mdl = s.mdl
    ∧ t.meter = s.meter ∧ t.phi = s.phi ∧ t.tsu.time = s.tsu.time ∧ t.tsu.cfg = s.tsu.cfg
    ∧ t.hub.storage = s.hub.storage ∧ t.hub.fw.state = s.hub.fw.state ∧ t.hub.pairs = s.hub.pairs
    ∧ t.hub.led = s.hub.led ∧ t.hub.seqs = s.hub.seqs ∧ t.die.launches = s.die.launches ∧ t.die.dig = s.die.dig
    ∧ t.die.binds = s.die.binds ∧ t.die.coreEn = s.die.coreEn := by
  refine gives_and ?_ (gives_and ?_ (gives_and ?_ (gives_and ?_ (gives_and ?_ (gives_and ?_ (gives_and ?_ (gives_and ?_ (gives_and ?_ (gives_and ?_ (gives_and ?_ (gives_and ?_ (gives_and ?_ (gives_and ?_ (gives_and ?_ ?_)))))))))))))) <;> first | (simp [execTallyAdd]; done)

@[simp] theorem execTallyRead_keeps (core : Nat) (ctx : Nat) (index : Nat) (s : State) :
    gives (execTallyRead core ctx index s) fun t => t.pending = s.pending ∧ t.cyc = s.cyc ∧ t.mdl = s.mdl
    ∧ t.meter = s.meter ∧ t.phi = s.phi ∧ t.tsu.time = s.tsu.time ∧ t.tsu.cfg = s.tsu.cfg
    ∧ t.hub.storage = s.hub.storage ∧ t.hub.fw.state = s.hub.fw.state ∧ t.hub.pairs = s.hub.pairs
    ∧ t.hub.led = s.hub.led ∧ t.hub.seqs = s.hub.seqs ∧ t.die.launches = s.die.launches ∧ t.die.dig = s.die.dig
    ∧ t.die.binds = s.die.binds ∧ t.die.coreEn = s.die.coreEn := by
  refine gives_and ?_ (gives_and ?_ (gives_and ?_ (gives_and ?_ (gives_and ?_ (gives_and ?_ (gives_and ?_ (gives_and ?_ (gives_and ?_ (gives_and ?_ (gives_and ?_ (gives_and ?_ (gives_and ?_ (gives_and ?_ (gives_and ?_ ?_)))))))))))))) <;> first | (simp [execTallyRead]; done)

@[simp] theorem execTallyWait_keeps (core : Nat) (ctx : Nat) (index : Nat) (operand : W32) (timeoutUs : Nat) (s : State) :
    gives (execTallyWait core ctx index operand timeoutUs s) fun t => t.pending = s.pending ∧ t.cyc = s.cyc
    ∧ t.mdl = s.mdl ∧ t.meter = s.meter ∧ t.phi = s.phi ∧ t.tsu.time = s.tsu.time ∧ t.tsu.cfg = s.tsu.cfg
    ∧ t.hub.storage = s.hub.storage ∧ t.hub.fw.state = s.hub.fw.state ∧ t.hub.pairs = s.hub.pairs
    ∧ t.hub.led = s.hub.led ∧ t.hub.seqs = s.hub.seqs ∧ t.die.launches = s.die.launches ∧ t.die.dig = s.die.dig
    ∧ t.die.binds = s.die.binds ∧ t.die.coreEn = s.die.coreEn := by
  refine gives_and ?_ (gives_and ?_ (gives_and ?_ (gives_and ?_ (gives_and ?_ (gives_and ?_ (gives_and ?_ (gives_and ?_ (gives_and ?_ (gives_and ?_ (gives_and ?_ (gives_and ?_ (gives_and ?_ (gives_and ?_ (gives_and ?_ ?_)))))))))))))) <;> first | (simp [execTallyWait]; done)

@[simp] theorem execDgArrive_keeps (core : Nat) (ctx : Nat) (gate : Nat) (s : State) :
    gives (execDgArrive core ctx gate s) fun t => t.pending = s.pending ∧ t.cyc = s.cyc ∧ t.mdl = s.mdl
    ∧ t.meter = s.meter ∧ t.phi = s.phi ∧ t.tsu.time = s.tsu.time ∧ t.tsu.cfg = s.tsu.cfg
    ∧ t.hub.storage = s.hub.storage ∧ t.hub.fw.state = s.hub.fw.state ∧ t.hub.pairs = s.hub.pairs
    ∧ t.hub.led = s.hub.led ∧ t.hub.seqs = s.hub.seqs ∧ t.die.launches = s.die.launches ∧ t.die.dig = s.die.dig
    ∧ t.die.binds = s.die.binds ∧ t.die.coreEn = s.die.coreEn := by
  refine gives_and ?_ (gives_and ?_ (gives_and ?_ (gives_and ?_ (gives_and ?_ (gives_and ?_ (gives_and ?_ (gives_and ?_ (gives_and ?_ (gives_and ?_ (gives_and ?_ (gives_and ?_ (gives_and ?_ (gives_and ?_ (gives_and ?_ ?_)))))))))))))) <;> first | (simp [execDgArrive]; done)

@[simp] theorem execDgArriveWait_keeps (core : Nat) (ctx : Nat) (gate : Nat) (timeoutUs : Nat) (s : State) :
    gives (execDgArriveWait core ctx gate timeoutUs s) fun t => t.pending = s.pending ∧ t.cyc = s.cyc ∧ t.mdl = s.mdl
    ∧ t.meter = s.meter ∧ t.phi = s.phi ∧ t.tsu.time = s.tsu.time ∧ t.tsu.cfg = s.tsu.cfg
    ∧ t.hub.storage = s.hub.storage ∧ t.hub.fw.state = s.hub.fw.state ∧ t.hub.pairs = s.hub.pairs
    ∧ t.hub.led = s.hub.led ∧ t.hub.seqs = s.hub.seqs ∧ t.die.launches = s.die.launches ∧ t.die.dig = s.die.dig
    ∧ t.die.binds = s.die.binds ∧ t.die.coreEn = s.die.coreEn := by
  refine gives_and ?_ (gives_and ?_ (gives_and ?_ (gives_and ?_ (gives_and ?_ (gives_and ?_ (gives_and ?_ (gives_and ?_ (gives_and ?_ (gives_and ?_ (gives_and ?_ (gives_and ?_ (gives_and ?_ (gives_and ?_ (gives_and ?_ ?_)))))))))))))) <;> first | (simp [execDgArriveWait]; done)

@[simp] theorem execDgWait_keeps (core : Nat) (ctx : Nat) (gate : Nat) (operand : W32) (timeoutUs : Nat) (s : State) :
    gives (execDgWait core ctx gate operand timeoutUs s) fun t => t.pending = s.pending ∧ t.cyc = s.cyc ∧ t.mdl = s.mdl
    ∧ t.meter = s.meter ∧ t.phi = s.phi ∧ t.tsu.time = s.tsu.time ∧ t.tsu.cfg = s.tsu.cfg
    ∧ t.hub.storage = s.hub.storage ∧ t.hub.fw.state = s.hub.fw.state ∧ t.hub.pairs = s.hub.pairs
    ∧ t.hub.led = s.hub.led ∧ t.hub.seqs = s.hub.seqs ∧ t.die.launches = s.die.launches ∧ t.die.dig = s.die.dig
    ∧ t.die.binds = s.die.binds ∧ t.die.coreEn = s.die.coreEn := by
  refine gives_and ?_ (gives_and ?_ (gives_and ?_ (gives_and ?_ (gives_and ?_ (gives_and ?_ (gives_and ?_ (gives_and ?_ (gives_and ?_ (gives_and ?_ (gives_and ?_ (gives_and ?_ (gives_and ?_ (gives_and ?_ (gives_and ?_ ?_)))))))))))))) <;> first | (simp [execDgWait]; done)

@[simp] theorem execHgArriveWait_keeps (core : Nat) (ctx : Nat) (proxy : Nat) (timeoutUs : Nat) (s : State) :
    gives (execHgArriveWait core ctx proxy timeoutUs s) fun t => t.pending = s.pending ∧ t.cyc = s.cyc ∧ t.mdl = s.mdl
    ∧ t.meter = s.meter ∧ t.phi = s.phi ∧ t.tsu.time = s.tsu.time ∧ t.tsu.cfg = s.tsu.cfg
    ∧ t.hub.storage = s.hub.storage ∧ t.hub.fw.state = s.hub.fw.state ∧ t.hub.pairs = s.hub.pairs
    ∧ t.hub.led = s.hub.led ∧ t.hub.seqs = s.hub.seqs ∧ t.die.launches = s.die.launches ∧ t.die.dig = s.die.dig
    ∧ t.die.binds = s.die.binds ∧ t.die.coreEn = s.die.coreEn := by
  refine gives_and ?_ (gives_and ?_ (gives_and ?_ (gives_and ?_ (gives_and ?_ (gives_and ?_ (gives_and ?_ (gives_and ?_ (gives_and ?_ (gives_and ?_ (gives_and ?_ (gives_and ?_ (gives_and ?_ (gives_and ?_ (gives_and ?_ ?_)))))))))))))) <;> first | (simp [execHgArriveWait]; done)

@[simp] theorem execHgWait_keeps (core : Nat) (ctx : Nat) (proxy : Nat) (operand : W32) (timeoutUs : Nat) (s : State) :
    gives (execHgWait core ctx proxy operand timeoutUs s) fun t => t.pending = s.pending ∧ t.cyc = s.cyc ∧ t.mdl = s.mdl
    ∧ t.meter = s.meter ∧ t.phi = s.phi ∧ t.tsu.time = s.tsu.time ∧ t.tsu.cfg = s.tsu.cfg
    ∧ t.hub.storage = s.hub.storage ∧ t.hub.fw.state = s.hub.fw.state ∧ t.hub.pairs = s.hub.pairs
    ∧ t.hub.led = s.hub.led ∧ t.hub.seqs = s.hub.seqs ∧ t.die.launches = s.die.launches ∧ t.die.dig = s.die.dig
    ∧ t.die.binds = s.die.binds ∧ t.die.coreEn = s.die.coreEn := by
  refine gives_and ?_ (gives_and ?_ (gives_and ?_ (gives_and ?_ (gives_and ?_ (gives_and ?_ (gives_and ?_ (gives_and ?_ (gives_and ?_ (gives_and ?_ (gives_and ?_ (gives_and ?_ (gives_and ?_ (gives_and ?_ (gives_and ?_ ?_)))))))))))))) <;> first | (simp [execHgWait]; done)

@[simp] theorem execSyncWaitTimeout_keeps (waiter : Nat) (s : State) :
    gives (execSyncWaitTimeout waiter s) fun t => t.pending = s.pending ∧ t.cyc = s.cyc ∧ t.mdl = s.mdl
    ∧ t.meter = s.meter ∧ t.phi = s.phi ∧ t.tsu.time = s.tsu.time ∧ t.tsu.cfg = s.tsu.cfg
    ∧ t.hub.storage = s.hub.storage ∧ t.hub.fw.state = s.hub.fw.state ∧ t.hub.pairs = s.hub.pairs
    ∧ t.hub.led = s.hub.led ∧ t.hub.seqs = s.hub.seqs ∧ t.die.launches = s.die.launches ∧ t.die.dig = s.die.dig
    ∧ t.die.binds = s.die.binds ∧ t.die.coreEn = s.die.coreEn := by
  simp only [execSyncWaitTimeout] <;> (repeat' split) <;> first | (simp; done) | (simp [*]; done) | (refine gives_and ?_ (gives_and ?_ (gives_and ?_ (gives_and ?_ (gives_and ?_ (gives_and ?_ (gives_and ?_ (gives_and ?_ (gives_and ?_ (gives_and ?_ (gives_and ?_ (gives_and ?_ (gives_and ?_ (gives_and ?_ (gives_and ?_ ?_)))))))))))))) <;> first | rfl | (simp; done) | (simp [*]; done))

@[simp] theorem execDgGateTimeout_keeps (waiter : Nat) (s : State) :
    gives (execDgGateTimeout waiter s) fun t => t.pending = s.pending ∧ t.cyc = s.cyc ∧ t.mdl = s.mdl
    ∧ t.meter = s.meter ∧ t.phi = s.phi ∧ t.tsu.time = s.tsu.time ∧ t.tsu.cfg = s.tsu.cfg
    ∧ t.hub.storage = s.hub.storage ∧ t.hub.fw.state = s.hub.fw.state ∧ t.hub.pairs = s.hub.pairs
    ∧ t.hub.led = s.hub.led ∧ t.hub.seqs = s.hub.seqs ∧ t.die.launches = s.die.launches ∧ t.die.dig = s.die.dig
    ∧ t.die.binds = s.die.binds ∧ t.die.coreEn = s.die.coreEn := by
  simp only [execDgGateTimeout] <;> (repeat' split) <;> first | (simp; done) | (simp [*]; done) | (refine gives_and ?_ (gives_and ?_ (gives_and ?_ (gives_and ?_ (gives_and ?_ (gives_and ?_ (gives_and ?_ (gives_and ?_ (gives_and ?_ (gives_and ?_ (gives_and ?_ (gives_and ?_ (gives_and ?_ (gives_and ?_ (gives_and ?_ ?_)))))))))))))) <;> first | rfl | (simp; done) | (simp [*]; done))

@[simp] theorem execGateConfig_keeps (ring : Nat) (idx : Nat) (s : State) :
    gives (execGateConfig ring idx s) fun t => t.pending = s.pending ∧ t.cyc = s.cyc ∧ t.mdl = s.mdl ∧ t.meter = s.meter
    ∧ t.phi = s.phi ∧ t.tsu.time = s.tsu.time ∧ t.tsu.cfg = s.tsu.cfg ∧ t.hub.storage = s.hub.storage
    ∧ t.hub.fw.state = s.hub.fw.state ∧ t.hub.pairs = s.hub.pairs ∧ t.hub.led = s.hub.led ∧ t.hub.seqs = s.hub.seqs
    ∧ t.die.launches = s.die.launches ∧ t.die.dig = s.die.dig ∧ t.die.binds = s.die.binds
    ∧ t.die.coreEn = s.die.coreEn := by
  simp only [execGateConfig, State.runDesc] <;> (repeat' split) <;> first | (simp; done) | (simp [*]; done) | (refine gives_and ?_ (gives_and ?_ (gives_and ?_ (gives_and ?_ (gives_and ?_ (gives_and ?_ (gives_and ?_ (gives_and ?_ (gives_and ?_ (gives_and ?_ (gives_and ?_ (gives_and ?_ (gives_and ?_ (gives_and ?_ (gives_and ?_ ?_)))))))))))))) <;> first | rfl | (simp; done) | (simp [*]; done))

@[simp] theorem execProxyBind_keeps (ring : Nat) (idx : Nat) (s : State) :
    gives (execProxyBind ring idx s) fun t => t.pending = s.pending ∧ t.cyc = s.cyc ∧ t.mdl = s.mdl ∧ t.meter = s.meter
    ∧ t.phi = s.phi ∧ t.tsu.time = s.tsu.time ∧ t.tsu.cfg = s.tsu.cfg ∧ t.hub.storage = s.hub.storage
    ∧ t.hub.fw.state = s.hub.fw.state ∧ t.hub.pairs = s.hub.pairs ∧ t.hub.led = s.hub.led ∧ t.hub.seqs = s.hub.seqs
    ∧ t.die.launches = s.die.launches ∧ t.die.dig = s.die.dig ∧ t.die.binds = s.die.binds
    ∧ t.die.coreEn = s.die.coreEn := by
  simp only [execProxyBind, State.runDesc] <;> (repeat' split) <;> first | (simp; done) | (simp [*]; done) | (refine gives_and ?_ (gives_and ?_ (gives_and ?_ (gives_and ?_ (gives_and ?_ (gives_and ?_ (gives_and ?_ (gives_and ?_ (gives_and ?_ (gives_and ?_ (gives_and ?_ (gives_and ?_ (gives_and ?_ (gives_and ?_ (gives_and ?_ ?_)))))))))))))) <;> first | rfl | (simp; done) | (simp [*]; done))

@[simp] theorem execProxyUnbind_keeps (ring : Nat) (idx : Nat) (s : State) :
    gives (execProxyUnbind ring idx s) fun t => t.pending = s.pending ∧ t.cyc = s.cyc ∧ t.mdl = s.mdl
    ∧ t.meter = s.meter ∧ t.phi = s.phi ∧ t.tsu.time = s.tsu.time ∧ t.tsu.cfg = s.tsu.cfg
    ∧ t.hub.storage = s.hub.storage ∧ t.hub.fw.state = s.hub.fw.state ∧ t.hub.pairs = s.hub.pairs
    ∧ t.hub.led = s.hub.led ∧ t.hub.seqs = s.hub.seqs ∧ t.die.launches = s.die.launches ∧ t.die.dig = s.die.dig
    ∧ t.die.binds = s.die.binds ∧ t.die.coreEn = s.die.coreEn := by
  simp only [execProxyUnbind, State.runDesc] <;> (repeat' split) <;> first | (simp; done) | (simp [*]; done) | (refine gives_and ?_ (gives_and ?_ (gives_and ?_ (gives_and ?_ (gives_and ?_ (gives_and ?_ (gives_and ?_ (gives_and ?_ (gives_and ?_ (gives_and ?_ (gives_and ?_ (gives_and ?_ (gives_and ?_ (gives_and ?_ (gives_and ?_ ?_)))))))))))))) <;> first | rfl | (simp; done) | (simp [*]; done))

@[simp] theorem State.setReleased_keeps (s : State) (p : Nat) (u : W32) :
    (State.setReleased s p u).pending = s.pending ∧ (State.setReleased s p u).cyc = s.cyc
    ∧ (State.setReleased s p u).freeNext = s.freeNext ∧ (State.setReleased s p u).out = s.out
    ∧ (State.setReleased s p u).mdl = s.mdl ∧ (State.setReleased s p u).meter = s.meter
    ∧ (State.setReleased s p u).hub = s.hub ∧ (State.setReleased s p u).tsu = s.tsu
    ∧ (State.setReleased s p u).phi = s.phi ∧ (State.setReleased s p u).die.launches = s.die.launches
    ∧ (State.setReleased s p u).die.dig = s.die.dig ∧ (State.setReleased s p u).die.binds = s.die.binds
    ∧ (State.setReleased s p u).die.coreEn = s.die.coreEn := by
  refine ⟨?_, ?_, ?_, ?_, ?_, ?_, ?_, ?_, ?_, ?_, ?_, ?_, ?_⟩ <;> first | (simp [State.setReleased]; done)

@[simp] theorem State.applyRelease_keeps (s : State) (p : Nat) (gate : Nat) (u : W32) (rb : W64) :
    (State.applyRelease s p gate u rb).pending = s.pending ∧ (State.applyRelease s p gate u rb).cyc = s.cyc
    ∧ (State.applyRelease s p gate u rb).mdl = s.mdl ∧ (State.applyRelease s p gate u rb).meter = s.meter
    ∧ (State.applyRelease s p gate u rb).phi = s.phi ∧ (State.applyRelease s p gate u rb).tsu.time = s.tsu.time
    ∧ (State.applyRelease s p gate u rb).tsu.cfg = s.tsu.cfg
    ∧ (State.applyRelease s p gate u rb).hub.storage = s.hub.storage
    ∧ (State.applyRelease s p gate u rb).hub.fw.state = s.hub.fw.state
    ∧ (State.applyRelease s p gate u rb).hub.pairs = s.hub.pairs
    ∧ (State.applyRelease s p gate u rb).hub.led = s.hub.led
    ∧ (State.applyRelease s p gate u rb).hub.seqs = s.hub.seqs
    ∧ (State.applyRelease s p gate u rb).die.launches = s.die.launches
    ∧ (State.applyRelease s p gate u rb).die.dig = s.die.dig
    ∧ (State.applyRelease s p gate u rb).die.binds = s.die.binds
    ∧ (State.applyRelease s p gate u rb).die.coreEn = s.die.coreEn := by
  refine ⟨?_, ?_, ?_, ?_, ?_, ?_, ?_, ?_, ?_, ?_, ?_, ?_, ?_, ?_, ?_, ?_⟩ <;> first | (simp [State.applyRelease]; done)

@[simp] theorem State.markBellDiff_keeps (s : State) (b : Nat) (g : Nat) (gate : Nat) :
    (State.markBellDiff s b g gate).pending = s.pending ∧ (State.markBellDiff s b g gate).cyc = s.cyc
    ∧ (State.markBellDiff s b g gate).freeNext = s.freeNext ∧ (State.markBellDiff s b g gate).out = s.out
    ∧ (State.markBellDiff s b g gate).mdl = s.mdl ∧ (State.markBellDiff s b g gate).meter = s.meter
    ∧ (State.markBellDiff s b g gate).hub = s.hub ∧ (State.markBellDiff s b g gate).tsu = s.tsu
    ∧ (State.markBellDiff s b g gate).phi = s.phi ∧ (State.markBellDiff s b g gate).die.launches = s.die.launches
    ∧ (State.markBellDiff s b g gate).die.dig = s.die.dig ∧ (State.markBellDiff s b g gate).die.binds = s.die.binds
    ∧ (State.markBellDiff s b g gate).die.coreEn = s.die.coreEn := by
  refine ⟨?_, ?_, ?_, ?_, ?_, ?_, ?_, ?_, ?_, ?_, ?_, ?_, ?_⟩ <;> first | (simp [State.markBellDiff]; done)

@[simp] theorem execGateReleaseReceive_keeps (port : Nat) (e : Env) (f : GatePl) (s : State) :
    gives (execGateReleaseReceive port e f s) fun t => t.pending = s.pending ∧ t.cyc = s.cyc ∧ t.mdl = s.mdl
    ∧ t.meter = s.meter ∧ t.phi = s.phi ∧ t.tsu.time = s.tsu.time ∧ t.tsu.cfg = s.tsu.cfg
    ∧ t.hub.storage = s.hub.storage ∧ t.hub.fw.state = s.hub.fw.state ∧ t.hub.pairs = s.hub.pairs
    ∧ t.hub.led = s.hub.led ∧ t.hub.seqs = s.hub.seqs ∧ t.die.launches = s.die.launches ∧ t.die.dig = s.die.dig
    ∧ t.die.binds = s.die.binds ∧ t.die.coreEn = s.die.coreEn := by
  simp only [execGateReleaseReceive, State.onEngine, State.onReliable_eq] <;> (repeat' split) <;> first | (simp; done) | (simp [*]; done) | (refine gives_and ?_ (gives_and ?_ (gives_and ?_ (gives_and ?_ (gives_and ?_ (gives_and ?_ (gives_and ?_ (gives_and ?_ (gives_and ?_ (gives_and ?_ (gives_and ?_ (gives_and ?_ (gives_and ?_ (gives_and ?_ (gives_and ?_ ?_)))))))))))))) <;> first | rfl | (simp; done) | (simp [*]; done) | ((try simp); refine (foldl_pending _ _ _ fun s a => ?_).trans ?_ <;> (repeat' split) <;> first | with_reducible rfl | (simp; done) | (simp [*]; done)) | ((try simp); refine (foldl_cyc _ _ _ fun s a => ?_).trans ?_ <;> (repeat' split) <;> first | with_reducible rfl | (simp; done) | (simp [*]; done)) | ((try simp); refine (foldl_mdl _ _ _ fun s a => ?_).trans ?_ <;> (repeat' split) <;> first | with_reducible rfl | (simp; done) | (simp [*]; done)) | ((try simp); refine (foldl_meter _ _ _ fun s a => ?_).trans ?_ <;> (repeat' split) <;> first | with_reducible rfl | (simp; done) | (simp [*]; done)) | ((try simp); refine (foldl_phi _ _ _ fun s a => ?_).trans ?_ <;> (repeat' split) <;> first | with_reducible rfl | (simp; done) | (simp [*]; done)) | ((try simp); refine (foldl_tsu_time _ _ _ fun s a => ?_).trans ?_ <;> (repeat' split) <;> first | with_reducible rfl | (simp; done) | (simp [*]; done)) | ((try simp); refine (foldl_tsu_cfg _ _ _ fun s a => ?_).trans ?_ <;> (repeat' split) <;> first | with_reducible rfl | (simp; done) | (simp [*]; done)) | ((try simp); refine (foldl_hub_storage _ _ _ fun s a => ?_).trans ?_ <;> (repeat' split) <;> first | with_reducible rfl | (simp; done) | (simp [*]; done)) | ((try simp); refine (foldl_hub_fw_state _ _ _ fun s a => ?_).trans ?_ <;> (repeat' split) <;> first | with_reducible rfl | (simp; done) | (simp [*]; done)) | ((try simp); refine (foldl_hub_pairs _ _ _ fun s a => ?_).trans ?_ <;> (repeat' split) <;> first | with_reducible rfl | (simp; done) | (simp [*]; done)) | ((try simp); refine (foldl_hub_led _ _ _ fun s a => ?_).trans ?_ <;> (repeat' split) <;> first | with_reducible rfl | (simp; done) | (simp [*]; done)) | ((try simp); refine (foldl_hub_seqs _ _ _ fun s a => ?_).trans ?_ <;> (repeat' split) <;> first | with_reducible rfl | (simp; done) | (simp [*]; done)) | ((try simp); refine (foldl_die_launches _ _ _ fun s a => ?_).trans ?_ <;> (repeat' split) <;> first | with_reducible rfl | (simp; done) | (simp [*]; done)) | ((try simp); refine (foldl_die_dig _ _ _ fun s a => ?_).trans ?_ <;> (repeat' split) <;> first | with_reducible rfl | (simp; done) | (simp [*]; done)) | ((try simp); refine (foldl_die_binds _ _ _ fun s a => ?_).trans ?_ <;> (repeat' split) <;> first | with_reducible rfl | (simp; done) | (simp [*]; done)) | ((try simp); refine (foldl_die_coreEn _ _ _ fun s a => ?_).trans ?_ <;> (repeat' split) <;> first | with_reducible rfl | (simp; done) | (simp [*]; done)))

@[simp] theorem execGateReleaseBell_keeps (proxy : Nat) (s : State) :
    gives (execGateReleaseBell proxy s) fun t => t.pending = s.pending ∧ t.cyc = s.cyc ∧ t.mdl = s.mdl
    ∧ t.meter = s.meter ∧ t.phi = s.phi ∧ t.tsu.time = s.tsu.time ∧ t.tsu.cfg = s.tsu.cfg
    ∧ t.hub.storage = s.hub.storage ∧ t.hub.fw.state = s.hub.fw.state ∧ t.hub.pairs = s.hub.pairs
    ∧ t.hub.led = s.hub.led ∧ t.hub.seqs = s.hub.seqs ∧ t.die.launches = s.die.launches ∧ t.die.dig = s.die.dig
    ∧ t.die.binds = s.die.binds ∧ t.die.coreEn = s.die.coreEn := by
  simp only [execGateReleaseBell] <;> (repeat' split) <;> first | (simp; done) | (simp [*]; done) | (refine gives_and ?_ (gives_and ?_ (gives_and ?_ (gives_and ?_ (gives_and ?_ (gives_and ?_ (gives_and ?_ (gives_and ?_ (gives_and ?_ (gives_and ?_ (gives_and ?_ (gives_and ?_ (gives_and ?_ (gives_and ?_ (gives_and ?_ ?_)))))))))))))) <;> first | rfl | (simp; done) | (simp [*]; done))

@[simp] theorem execProxyBackstopTimeout_keeps (proxy : Nat) (s : State) :
    gives (execProxyBackstopTimeout proxy s) fun t => t.pending = s.pending ∧ t.cyc = s.cyc ∧ t.mdl = s.mdl
    ∧ t.meter = s.meter ∧ t.phi = s.phi ∧ t.tsu.time = s.tsu.time ∧ t.tsu.cfg = s.tsu.cfg
    ∧ t.hub.storage = s.hub.storage ∧ t.hub.fw.state = s.hub.fw.state ∧ t.hub.pairs = s.hub.pairs
    ∧ t.hub.led = s.hub.led ∧ t.hub.seqs = s.hub.seqs ∧ t.die.launches = s.die.launches ∧ t.die.dig = s.die.dig
    ∧ t.die.binds = s.die.binds ∧ t.die.coreEn = s.die.coreEn := by
  simp only [execProxyBackstopTimeout] <;> (repeat' split) <;> first | (simp; done) | (simp [*]; done) | (refine gives_and ?_ (gives_and ?_ (gives_and ?_ (gives_and ?_ (gives_and ?_ (gives_and ?_ (gives_and ?_ (gives_and ?_ (gives_and ?_ (gives_and ?_ (gives_and ?_ (gives_and ?_ (gives_and ?_ (gives_and ?_ (gives_and ?_ ?_)))))))))))))) <;> first | rfl | (simp; done) | (simp [*]; done))

@[simp] theorem execGateArriveHoldEnd_keeps (proxy : Nat) (s : State) :
    gives (execGateArriveHoldEnd proxy s) fun t => t.pending = s.pending ∧ t.cyc = s.cyc ∧ t.freeNext = s.freeNext
    ∧ t.out = s.out ∧ t.mdl = s.mdl ∧ t.meter = s.meter ∧ t.hub = s.hub ∧ t.phi = s.phi ∧ t.tsu.time = s.tsu.time
    ∧ t.tsu.rings = s.tsu.rings ∧ t.tsu.cfg = s.tsu.cfg ∧ t.die.launches = s.die.launches ∧ t.die.dig = s.die.dig
    ∧ t.die.binds = s.die.binds ∧ t.die.coreEn = s.die.coreEn := by
  refine gives_and ?_ (gives_and ?_ (gives_and ?_ (gives_and ?_ (gives_and ?_ (gives_and ?_ (gives_and ?_ (gives_and ?_ (gives_and ?_ (gives_and ?_ (gives_and ?_ (gives_and ?_ (gives_and ?_ (gives_and ?_ ?_))))))))))))) <;> first | (simp [execGateArriveHoldEnd]; done)

@[simp] theorem execSyncOp_keeps (ring : Nat) (idx : Nat) (s : State) :
    gives (execSyncOp ring idx s) fun t => t.pending = s.pending ∧ t.cyc = s.cyc ∧ t.mdl = s.mdl ∧ t.meter = s.meter
    ∧ t.phi = s.phi ∧ t.tsu.time = s.tsu.time ∧ t.tsu.cfg = s.tsu.cfg ∧ t.hub.storage = s.hub.storage
    ∧ t.hub.fw.state = s.hub.fw.state ∧ t.hub.pairs = s.hub.pairs ∧ t.hub.led = s.hub.led ∧ t.hub.seqs = s.hub.seqs
    ∧ t.die.launches = s.die.launches ∧ t.die.dig = s.die.dig ∧ t.die.binds = s.die.binds
    ∧ t.die.coreEn = s.die.coreEn := by
  simp only [execSyncOp, State.runDesc] <;> (repeat' split) <;> first | (simp; done) | (simp [*]; done) | (refine gives_and ?_ (gives_and ?_ (gives_and ?_ (gives_and ?_ (gives_and ?_ (gives_and ?_ (gives_and ?_ (gives_and ?_ (gives_and ?_ (gives_and ?_ (gives_and ?_ (gives_and ?_ (gives_and ?_ (gives_and ?_ (gives_and ?_ ?_)))))))))))))) <;> first | rfl | (simp; done) | (simp [*]; done))

@[simp] theorem execRemoteSignal_keeps (bytes : List Byte) (written : Nat) (s : State) :
    gives (execRemoteSignal bytes written s) fun t => t.pending = s.pending ∧ t.cyc = s.cyc ∧ t.mdl = s.mdl
    ∧ t.meter = s.meter ∧ t.phi = s.phi ∧ t.tsu.time = s.tsu.time ∧ t.tsu.cfg = s.tsu.cfg
    ∧ t.hub.storage = s.hub.storage ∧ t.hub.fw.state = s.hub.fw.state ∧ t.hub.pairs = s.hub.pairs
    ∧ t.hub.led = s.hub.led ∧ t.hub.seqs = s.hub.seqs ∧ t.die.launches = s.die.launches ∧ t.die.dig = s.die.dig
    ∧ t.die.binds = s.die.binds ∧ t.die.coreEn = s.die.coreEn := by
  simp only [execRemoteSignal] <;> (repeat' split) <;> first | (simp; done) | (simp [*]; done) | (refine gives_and ?_ (gives_and ?_ (gives_and ?_ (gives_and ?_ (gives_and ?_ (gives_and ?_ (gives_and ?_ (gives_and ?_ (gives_and ?_ (gives_and ?_ (gives_and ?_ (gives_and ?_ (gives_and ?_ (gives_and ?_ (gives_and ?_ ?_)))))))))))))) <;> first | rfl | (simp; done) | (simp [*]; done))

@[simp] theorem execDataMoverPacketReport_keeps (sender : W16) (tag : W16) (written : Nat) (s : State) :
    gives (execDataMoverPacketReport sender tag written s) fun t => t.pending = s.pending ∧ t.cyc = s.cyc
    ∧ t.mdl = s.mdl ∧ t.meter = s.meter ∧ t.phi = s.phi ∧ t.tsu.time = s.tsu.time ∧ t.tsu.cfg = s.tsu.cfg
    ∧ t.hub.storage = s.hub.storage ∧ t.hub.fw.state = s.hub.fw.state ∧ t.hub.pairs = s.hub.pairs
    ∧ t.hub.led = s.hub.led ∧ t.hub.seqs = s.hub.seqs ∧ t.die.launches = s.die.launches ∧ t.die.dig = s.die.dig
    ∧ t.die.binds = s.die.binds ∧ t.die.coreEn = s.die.coreEn := by
  refine gives_and ?_ (gives_and ?_ (gives_and ?_ (gives_and ?_ (gives_and ?_ (gives_and ?_ (gives_and ?_ (gives_and ?_ (gives_and ?_ (gives_and ?_ (gives_and ?_ (gives_and ?_ (gives_and ?_ (gives_and ?_ (gives_and ?_ ?_)))))))))))))) <;> first | (simp [execDataMoverPacketReport]; done)

@[simp] theorem execPendTimeout_keeps (entry : Nat) (s : State) :
    gives (execPendTimeout entry s) fun t => t.pending = s.pending ∧ t.cyc = s.cyc ∧ t.mdl = s.mdl ∧ t.meter = s.meter
    ∧ t.phi = s.phi ∧ t.tsu.time = s.tsu.time ∧ t.tsu.cfg = s.tsu.cfg ∧ t.hub.storage = s.hub.storage
    ∧ t.hub.fw.state = s.hub.fw.state ∧ t.hub.pairs = s.hub.pairs ∧ t.hub.led = s.hub.led ∧ t.hub.seqs = s.hub.seqs
    ∧ t.die.launches = s.die.launches ∧ t.die.dig = s.die.dig ∧ t.die.binds = s.die.binds
    ∧ t.die.coreEn = s.die.coreEn := by
  simp only [execPendTimeout] <;> (repeat' split) <;> first | (simp; done) | (simp [*]; done) | (refine gives_and ?_ (gives_and ?_ (gives_and ?_ (gives_and ?_ (gives_and ?_ (gives_and ?_ (gives_and ?_ (gives_and ?_ (gives_and ?_ (gives_and ?_ (gives_and ?_ (gives_and ?_ (gives_and ?_ (gives_and ?_ (gives_and ?_ ?_)))))))))))))) <;> first | rfl | (simp; done) | (simp [*]; done))

@[simp] theorem execCtxSave_keeps (ring : Nat) (idx : Nat) (s : State) :
    gives (execCtxSave ring idx s) fun t => t.pending = s.pending ∧ t.cyc = s.cyc ∧ t.mdl = s.mdl ∧ t.meter = s.meter
    ∧ t.phi = s.phi ∧ t.tsu.time = s.tsu.time ∧ t.tsu.cfg = s.tsu.cfg ∧ t.hub.storage = s.hub.storage
    ∧ t.hub.fw.state = s.hub.fw.state ∧ t.hub.pairs = s.hub.pairs ∧ t.hub.led = s.hub.led ∧ t.hub.seqs = s.hub.seqs
    ∧ t.die.launches = s.die.launches ∧ t.die.dig = s.die.dig ∧ t.die.binds = s.die.binds
    ∧ t.die.coreEn = s.die.coreEn := by
  simp only [execCtxSave, State.runDesc] <;> (repeat' split) <;> first | (simp; done) | (simp [*]; done) | (refine gives_and ?_ (gives_and ?_ (gives_and ?_ (gives_and ?_ (gives_and ?_ (gives_and ?_ (gives_and ?_ (gives_and ?_ (gives_and ?_ (gives_and ?_ (gives_and ?_ (gives_and ?_ (gives_and ?_ (gives_and ?_ (gives_and ?_ ?_)))))))))))))) <;> first | rfl | (simp; done) | (simp [*]; done))

@[simp] theorem State.loadImage_keeps (s : State) (c : Nat) (img : List Byte) :
    (State.loadImage s c img).pending = s.pending ∧ (State.loadImage s c img).cyc = s.cyc
    ∧ (State.loadImage s c img).freeNext = s.freeNext ∧ (State.loadImage s c img).out = s.out
    ∧ (State.loadImage s c img).mdl = s.mdl ∧ (State.loadImage s c img).meter = s.meter
    ∧ (State.loadImage s c img).hub = s.hub ∧ (State.loadImage s c img).tsu = s.tsu
    ∧ (State.loadImage s c img).phi = s.phi ∧ (State.loadImage s c img).die.launches = s.die.launches
    ∧ (State.loadImage s c img).die.dig = s.die.dig ∧ (State.loadImage s c img).die.binds = s.die.binds
    ∧ (State.loadImage s c img).die.coreEn = s.die.coreEn := by
  refine ⟨?_, ?_, ?_, ?_, ?_, ?_, ?_, ?_, ?_, ?_, ?_, ?_, ?_⟩ <;> first | (simp [State.loadImage]; done)

@[simp] theorem State.rearm_keeps (s : State) (k : Nat) :
    (State.rearm s k).pending = s.pending ∧ (State.rearm s k).cyc = s.cyc ∧ (State.rearm s k).mdl = s.mdl
    ∧ (State.rearm s k).meter = s.meter ∧ (State.rearm s k).phi = s.phi ∧ (State.rearm s k).tsu.time = s.tsu.time
    ∧ (State.rearm s k).tsu.cfg = s.tsu.cfg ∧ (State.rearm s k).hub.storage = s.hub.storage
    ∧ (State.rearm s k).hub.fw.state = s.hub.fw.state ∧ (State.rearm s k).hub.pairs = s.hub.pairs
    ∧ (State.rearm s k).hub.led = s.hub.led ∧ (State.rearm s k).hub.seqs = s.hub.seqs
    ∧ (State.rearm s k).die.launches = s.die.launches ∧ (State.rearm s k).die.dig = s.die.dig
    ∧ (State.rearm s k).die.binds = s.die.binds ∧ (State.rearm s k).die.coreEn = s.die.coreEn := by
  simp only [State.rearm] <;> (repeat' split) <;> first | (simp; done) | (simp [*]; done) | (refine ⟨?_, ?_, ?_, ?_, ?_, ?_, ?_, ?_, ?_, ?_, ?_, ?_, ?_, ?_, ?_, ?_⟩ <;> first | rfl | (simp; done) | (simp [*]; done))

@[simp] theorem execCtxRestore_keeps (ring : Nat) (idx : Nat) (img : List Byte) (s : State) :
    gives (execCtxRestore ring idx img s) fun t => t.pending = s.pending ∧ t.cyc = s.cyc ∧ t.mdl = s.mdl
    ∧ t.meter = s.meter ∧ t.phi = s.phi ∧ t.tsu.time = s.tsu.time ∧ t.tsu.cfg = s.tsu.cfg
    ∧ t.hub.storage = s.hub.storage ∧ t.hub.fw.state = s.hub.fw.state ∧ t.hub.pairs = s.hub.pairs
    ∧ t.hub.led = s.hub.led ∧ t.hub.seqs = s.hub.seqs ∧ t.die.launches = s.die.launches ∧ t.die.dig = s.die.dig
    ∧ t.die.binds = s.die.binds ∧ t.die.coreEn = s.die.coreEn := by
  simp only [execCtxRestore, State.runDesc] <;> (repeat' split) <;> first | (simp; done) | (simp [*]; done) | (refine gives_and ?_ (gives_and ?_ (gives_and ?_ (gives_and ?_ (gives_and ?_ (gives_and ?_ (gives_and ?_ (gives_and ?_ (gives_and ?_ (gives_and ?_ (gives_and ?_ (gives_and ?_ (gives_and ?_ (gives_and ?_ (gives_and ?_ ?_)))))))))))))) <;> first | rfl | (simp; done) | (simp [*]; done))

@[simp] theorem State.clearSticky_keeps (s : State) (kind : Nat) (i : Nat) :
    (State.clearSticky s kind i).pending = s.pending ∧ (State.clearSticky s kind i).cyc = s.cyc
    ∧ (State.clearSticky s kind i).freeNext = s.freeNext ∧ (State.clearSticky s kind i).out = s.out
    ∧ (State.clearSticky s kind i).mdl = s.mdl ∧ (State.clearSticky s kind i).meter = s.meter
    ∧ (State.clearSticky s kind i).hub = s.hub ∧ (State.clearSticky s kind i).tsu = s.tsu
    ∧ (State.clearSticky s kind i).phi = s.phi ∧ (State.clearSticky s kind i).die.launches = s.die.launches
    ∧ (State.clearSticky s kind i).die.dig = s.die.dig ∧ (State.clearSticky s kind i).die.binds = s.die.binds
    ∧ (State.clearSticky s kind i).die.coreEn = s.die.coreEn := by
  simp only [State.clearSticky] <;> (repeat' split) <;> first | (simp; done) | (simp [*]; done) | (refine ⟨?_, ?_, ?_, ?_, ?_, ?_, ?_, ?_, ?_, ?_, ?_, ?_, ?_⟩ <;> first | rfl | (simp; done) | (simp [*]; done))

@[simp] theorem execSyncView_keeps (ring : Nat) (idx : Nat) (s : State) :
    gives (execSyncView ring idx s) fun t => t.pending = s.pending ∧ t.cyc = s.cyc ∧ t.mdl = s.mdl ∧ t.meter = s.meter
    ∧ t.phi = s.phi ∧ t.tsu.time = s.tsu.time ∧ t.tsu.cfg = s.tsu.cfg ∧ t.hub.storage = s.hub.storage
    ∧ t.hub.fw.state = s.hub.fw.state ∧ t.hub.pairs = s.hub.pairs ∧ t.hub.led = s.hub.led ∧ t.hub.seqs = s.hub.seqs
    ∧ t.die.launches = s.die.launches ∧ t.die.dig = s.die.dig ∧ t.die.binds = s.die.binds
    ∧ t.die.coreEn = s.die.coreEn := by
  simp only [execSyncView, State.runDesc] <;> (repeat' split) <;> first | (simp; done) | (simp [*]; done) | (refine gives_and ?_ (gives_and ?_ (gives_and ?_ (gives_and ?_ (gives_and ?_ (gives_and ?_ (gives_and ?_ (gives_and ?_ (gives_and ?_ (gives_and ?_ (gives_and ?_ (gives_and ?_ (gives_and ?_ (gives_and ?_ (gives_and ?_ ?_)))))))))))))) <;> first | rfl | (simp; done) | (simp [*]; done))

@[simp] theorem execSyncDump_keeps (ring : Nat) (idx : Nat) (s : State) :
    gives (execSyncDump ring idx s) fun t => t.pending = s.pending ∧ t.cyc = s.cyc ∧ t.mdl = s.mdl ∧ t.meter = s.meter
    ∧ t.phi = s.phi ∧ t.tsu.time = s.tsu.time ∧ t.tsu.cfg = s.tsu.cfg ∧ t.hub.storage = s.hub.storage
    ∧ t.hub.fw.state = s.hub.fw.state ∧ t.hub.pairs = s.hub.pairs ∧ t.hub.led = s.hub.led ∧ t.hub.seqs = s.hub.seqs
    ∧ t.die.launches = s.die.launches ∧ t.die.dig = s.die.dig ∧ t.die.binds = s.die.binds
    ∧ t.die.coreEn = s.die.coreEn := by
  simp only [execSyncDump, State.runDesc] <;> (repeat' split) <;> first | (simp; done) | (simp [*]; done) | (refine gives_and ?_ (gives_and ?_ (gives_and ?_ (gives_and ?_ (gives_and ?_ (gives_and ?_ (gives_and ?_ (gives_and ?_ (gives_and ?_ (gives_and ?_ (gives_and ?_ (gives_and ?_ (gives_and ?_ (gives_and ?_ (gives_and ?_ ?_)))))))))))))) <;> first | rfl | (simp; done) | (simp [*]; done))

end Sys2Proof.Machine
end

