-- ==== Sys2Proof/Laws/Timeout.lean ====
section
/-!
SUPPORT. What the operations and meanings of Machine/Timeout.lean leave unchanged.
-/

namespace Sys2Proof.Machine

@[simp] theorem State.forgetCommand_keeps (s : State) (p : Part) (ring : Nat) (idx : Nat) :
    (State.forgetCommand s p ring idx).pending = s.pending ∧ (State.forgetCommand s p ring idx).cyc = s.cyc
    ∧ (State.forgetCommand s p ring idx).freeNext = s.freeNext ∧ (State.forgetCommand s p ring idx).out = s.out
    ∧ (State.forgetCommand s p ring idx).mdl = s.mdl ∧ (State.forgetCommand s p ring idx).meter = s.meter
    ∧ (State.forgetCommand s p ring idx).die = s.die ∧ (State.forgetCommand s p ring idx).tsu.time = s.tsu.time
    ∧ (State.forgetCommand s p ring idx).tsu.rings = s.tsu.rings
    ∧ (State.forgetCommand s p ring idx).tsu.cfg = s.tsu.cfg
    ∧ (State.forgetCommand s p ring idx).phi.time = s.phi.time
    ∧ (State.forgetCommand s p ring idx).phi.rings = s.phi.rings
    ∧ (State.forgetCommand s p ring idx).phi.cfg = s.phi.cfg
    ∧ (State.forgetCommand s p ring idx).hub.storage = s.hub.storage
    ∧ (State.forgetCommand s p ring idx).hub.fw.state = s.hub.fw.state
    ∧ (State.forgetCommand s p ring idx).hub.pairs = s.hub.pairs
    ∧ (State.forgetCommand s p ring idx).hub.led = s.hub.led := by
  refine ⟨?_, ?_, ?_, ?_, ?_, ?_, ?_, ?_, ?_, ?_, ?_, ?_, ?_, ?_, ?_, ?_, ?_⟩ <;> first | (simp [State.forgetCommand]; done)

@[simp] theorem State.forgetCommand_keeps_tsu (s : State) (ring : Nat) (idx : Nat) :
    (State.forgetCommand s .tsu ring idx).phi = s.phi := by simp [State.forgetCommand]

@[simp] theorem State.forgetCommand_keeps_phi (s : State) (ring : Nat) (idx : Nat) :
    (State.forgetCommand s .phi ring idx).tsu = s.tsu := by simp [State.forgetCommand]

@[simp] theorem State.recordTimeout_keeps (s : State) (p : Part) (ring : Nat) (d : Desc) (unit : Nat) :
    (State.recordTimeout s p ring d unit).pending = s.pending ∧ (State.recordTimeout s p ring d unit).cyc = s.cyc
    ∧ (State.recordTimeout s p ring d unit).freeNext = s.freeNext
    ∧ (State.recordTimeout s p ring d unit).mdl = s.mdl ∧ (State.recordTimeout s p ring d unit).meter = s.meter
    ∧ (State.recordTimeout s p ring d unit).die = s.die
    ∧ (State.recordTimeout s p ring d unit).tsu.time = s.tsu.time
    ∧ (State.recordTimeout s p ring d unit).tsu.rings = s.tsu.rings
    ∧ (State.recordTimeout s p ring d unit).tsu.cfg = s.tsu.cfg
    ∧ (State.recordTimeout s p ring d unit).phi.time = s.phi.time
    ∧ (State.recordTimeout s p ring d unit).phi.rings = s.phi.rings
    ∧ (State.recordTimeout s p ring d unit).phi.cfg = s.phi.cfg
    ∧ (State.recordTimeout s p ring d unit).hub.storage = s.hub.storage
    ∧ (State.recordTimeout s p ring d unit).hub.fw.state = s.hub.fw.state
    ∧ (State.recordTimeout s p ring d unit).hub.pairs = s.hub.pairs
    ∧ (State.recordTimeout s p ring d unit).hub.led = s.hub.led
    ∧ (State.recordTimeout s p ring d unit).hub.seqs = s.hub.seqs := by
  refine ⟨?_, ?_, ?_, ?_, ?_, ?_, ?_, ?_, ?_, ?_, ?_, ?_, ?_, ?_, ?_, ?_, ?_⟩ <;> first | (simp [State.recordTimeout]; done)

@[simp] theorem State.recordTimeout_keeps_tsu (s : State) (ring : Nat) (d : Desc) (unit : Nat) :
    (State.recordTimeout s .tsu ring d unit).phi = s.phi ∧ (State.recordTimeout s .tsu ring d unit).hub = s.hub := by
  refine ⟨?_, ?_⟩ <;> first | (simp [State.recordTimeout]; done)

@[simp] theorem State.recordTimeout_keeps_phi (s : State) (ring : Nat) (d : Desc) (unit : Nat) :
    (State.recordTimeout s .phi ring d unit).tsu = s.tsu := by simp [State.recordTimeout]

@[simp] theorem execCommandTimeout_keeps (p : Part) (ring : Nat) (idx : Nat) (hung : Option Nat) (s : State) :
    gives (execCommandTimeout p ring idx hung s) fun t => t.pending = s.pending ∧ t.cyc = s.cyc ∧ t.mdl = s.mdl
    ∧ t.meter = s.meter ∧ t.die = s.die ∧ t.tsu.time = s.tsu.time ∧ t.tsu.cfg = s.tsu.cfg ∧ t.phi.time = s.phi.time
    ∧ t.phi.cfg.lcState = s.phi.cfg.lcState ∧ t.phi.cfg.lcRows = s.phi.cfg.lcRows ∧ t.hub.storage = s.hub.storage
    ∧ t.hub.pairs = s.hub.pairs ∧ t.hub.led = s.hub.led := by
  simp only [execCommandTimeout] <;> (repeat' split) <;> first | (simp; done) | (simp [*]; done) | (refine gives_and ?_ (gives_and ?_ (gives_and ?_ (gives_and ?_ (gives_and ?_ (gives_and ?_ (gives_and ?_ (gives_and ?_ (gives_and ?_ (gives_and ?_ (gives_and ?_ (gives_and ?_ ?_))))))))))) <;> first | rfl | (simp; done) | (simp [*]; done))

@[simp] theorem execCommandTimeout_keeps_tsu (ring : Nat) (idx : Nat) (hung : Option Nat) (s : State) :
    gives (execCommandTimeout .tsu ring idx hung s) fun t => t.phi = s.phi := by simp only [execCommandTimeout] <;> (repeat' split) <;> first | rfl | (simp; done) | (simp [*]; done)

@[simp] theorem execCommandTimeout_keeps_phi (ring : Nat) (idx : Nat) (hung : Option Nat) (s : State) :
    gives (execCommandTimeout .phi ring idx hung s) fun t => t.tsu = s.tsu := by simp only [execCommandTimeout] <;> (repeat' split) <;> first | rfl | (simp; done) | (simp [*]; done)

end Sys2Proof.Machine
end

