-- ==== Sys2Proof/Laws/WeighTsu.lean ====
section
/-!
SUPPORT. What the operations and meanings of Machine/WeighTsu.lean leave unchanged.
-/

namespace Sys2Proof.Machine

@[simp] theorem State.sendContrib_keeps (s : State) (o : WbOp) :
    (State.sendContrib s o).pending = s.pending ∧ (State.sendContrib s o).cyc = s.cyc
    ∧ (State.sendContrib s o).freeNext = s.freeNext ∧ (State.sendContrib s o).out = s.out
    ∧ (State.sendContrib s o).mdl = s.mdl ∧ (State.sendContrib s o).meter = s.meter
    ∧ (State.sendContrib s o).die = s.die ∧ (State.sendContrib s o).hub = s.hub
    ∧ (State.sendContrib s o).phi = s.phi ∧ (State.sendContrib s o).tsu.time = s.tsu.time
    ∧ (State.sendContrib s o).tsu.rings = s.tsu.rings ∧ (State.sendContrib s o).tsu.cfg = s.tsu.cfg := by
  refine ⟨?_, ?_, ?_, ?_, ?_, ?_, ?_, ?_, ?_, ?_, ?_, ?_⟩ <;> first | (simp [State.sendContrib]; done)

@[simp] theorem State.submitWb_keeps (s : State) (req : List Byte) (data : List Byte) :
    ((State.submitWb s req data).2).pending = s.pending ∧ ((State.submitWb s req data).2).cyc = s.cyc
    ∧ ((State.submitWb s req data).2).freeNext = s.freeNext ∧ ((State.submitWb s req data).2).mdl = s.mdl
    ∧ ((State.submitWb s req data).2).meter = s.meter ∧ ((State.submitWb s req data).2).hub = s.hub
    ∧ ((State.submitWb s req data).2).phi = s.phi ∧ ((State.submitWb s req data).2).tsu.time = s.tsu.time
    ∧ ((State.submitWb s req data).2).tsu.rings = s.tsu.rings ∧ ((State.submitWb s req data).2).tsu.cfg = s.tsu.cfg
    ∧ ((State.submitWb s req data).2).die.sync = s.die.sync
    ∧ ((State.submitWb s req data).2).die.launches = s.die.launches
    ∧ ((State.submitWb s req data).2).die.dig = s.die.dig ∧ ((State.submitWb s req data).2).die.binds = s.die.binds
    ∧ ((State.submitWb s req data).2).die.coreEn = s.die.coreEn := by
  simp only [State.submitWb] <;> (repeat' split) <;> first | (simp; done) | (simp [*]; done) | (refine ⟨?_, ?_, ?_, ?_, ?_, ?_, ?_, ?_, ?_, ?_, ?_, ?_, ?_, ?_, ?_⟩ <;> first | rfl | (simp; done) | (simp [*]; done))

@[simp] theorem execWbSubmit_keeps (desc : Option (Nat × Nat)) (req : List Byte) (data : List Byte) (s : State) :
    gives (execWbSubmit desc req data s) fun t => t.pending = s.pending ∧ t.cyc = s.cyc ∧ t.mdl = s.mdl
    ∧ t.meter = s.meter ∧ t.phi = s.phi ∧ t.tsu.time = s.tsu.time ∧ t.tsu.cfg = s.tsu.cfg
    ∧ t.hub.storage = s.hub.storage ∧ t.hub.fw.state = s.hub.fw.state ∧ t.hub.pairs = s.hub.pairs
    ∧ t.hub.led = s.hub.led ∧ t.hub.seqs = s.hub.seqs ∧ t.die.sync = s.die.sync ∧ t.die.launches = s.die.launches
    ∧ t.die.dig = s.die.dig ∧ t.die.binds = s.die.binds ∧ t.die.coreEn = s.die.coreEn := by
  simp only [execWbSubmit, State.runDesc] <;> (repeat' split) <;> first | (simp; done) | (simp [*]; done) | (refine gives_and ?_ (gives_and ?_ (gives_and ?_ (gives_and ?_ (gives_and ?_ (gives_and ?_ (gives_and ?_ (gives_and ?_ (gives_and ?_ (gives_and ?_ (gives_and ?_ (gives_and ?_ (gives_and ?_ (gives_and ?_ (gives_and ?_ (gives_and ?_ ?_))))))))))))))) <;> first | rfl | (simp; done) | (simp [*]; done))

@[simp] theorem State.closeWb_keeps (s : State) (o : WbOp) (port : Nat) :
    (State.closeWb s o port).pending = s.pending ∧ (State.closeWb s o port).cyc = s.cyc
    ∧ (State.closeWb s o port).freeNext = s.freeNext ∧ (State.closeWb s o port).mdl = s.mdl
    ∧ (State.closeWb s o port).meter = s.meter ∧ (State.closeWb s o port).hub = s.hub
    ∧ (State.closeWb s o port).phi = s.phi ∧ (State.closeWb s o port).tsu.time = s.tsu.time
    ∧ (State.closeWb s o port).tsu.rings = s.tsu.rings ∧ (State.closeWb s o port).tsu.cfg = s.tsu.cfg
    ∧ (State.closeWb s o port).die.sync = s.die.sync ∧ (State.closeWb s o port).die.launches = s.die.launches
    ∧ (State.closeWb s o port).die.dig = s.die.dig ∧ (State.closeWb s o port).die.binds = s.die.binds
    ∧ (State.closeWb s o port).die.coreEn = s.die.coreEn := by
  refine ⟨?_, ?_, ?_, ?_, ?_, ?_, ?_, ?_, ?_, ?_, ?_, ?_, ?_, ?_, ?_⟩ <;> first | (simp [State.closeWb]; done)

@[simp] theorem State.closeReady_keeps (s : State) :
    (State.closeReady s).pending = s.pending ∧ (State.closeReady s).cyc = s.cyc
    ∧ (State.closeReady s).freeNext = s.freeNext ∧ (State.closeReady s).mdl = s.mdl
    ∧ (State.closeReady s).meter = s.meter ∧ (State.closeReady s).hub = s.hub := by
  refine ⟨?_, ?_, ?_, ?_, ?_, ?_⟩ <;> first | (simp only [State.closeReady] <;> (repeat' split) <;> first | with_reducible rfl | (simp; done) | (simp [*]; done) | ((try simp); refine (foldl_pending _ _ _ fun s a => ?_).trans ?_ <;> (repeat' split) <;> first | with_reducible rfl | (simp; done) | (simp [*]; done)); done) | (simp only [State.closeReady] <;> (repeat' split) <;> first | with_reducible rfl | (simp; done) | (simp [*]; done) | ((try simp); refine (foldl_cyc _ _ _ fun s a => ?_).trans ?_ <;> (repeat' split) <;> first | with_reducible rfl | (simp; done) | (simp [*]; done)); done) | (simp only [State.closeReady] <;> (repeat' split) <;> first | with_reducible rfl | (simp; done) | (simp [*]; done) | ((try simp); refine (foldl_freeNext _ _ _ fun s a => ?_).trans ?_ <;> (repeat' split) <;> first | with_reducible rfl | (simp; done) | (simp [*]; done)); done) | (simp only [State.closeReady] <;> (repeat' split) <;> first | with_reducible rfl | (simp; done) | (simp [*]; done) | ((try simp); refine (foldl_mdl _ _ _ fun s a => ?_).trans ?_ <;> (repeat' split) <;> first | with_reducible rfl | (simp; done) | (simp [*]; done)); done) | (simp only [State.closeReady] <;> (repeat' split) <;> first | with_reducible rfl | (simp; done) | (simp [*]; done) | ((try simp); refine (foldl_meter _ _ _ fun s a => ?_).trans ?_ <;> (repeat' split) <;> first | with_reducible rfl | (simp; done) | (simp [*]; done)); done) | (simp only [State.closeReady] <;> (repeat' split) <;> first | with_reducible rfl | (simp; done) | (simp [*]; done) | ((try simp); refine (foldl_hub _ _ _ fun s a => ?_).trans ?_ <;> (repeat' split) <;> first | with_reducible rfl | (simp; done) | (simp [*]; done)); done)

@[simp] theorem State.closeReady_keeps2 (s : State) :
    (State.closeReady s).phi = s.phi ∧ (State.closeReady s).tsu.time = s.tsu.time
    ∧ (State.closeReady s).tsu.rings = s.tsu.rings ∧ (State.closeReady s).tsu.cfg = s.tsu.cfg
    ∧ (State.closeReady s).die.sync = s.die.sync ∧ (State.closeReady s).die.launches = s.die.launches := by
  refine ⟨?_, ?_, ?_, ?_, ?_, ?_⟩ <;> first | (simp only [State.closeReady] <;> (repeat' split) <;> first | with_reducible rfl | (simp; done) | (simp [*]; done) | ((try simp); refine (foldl_phi _ _ _ fun s a => ?_).trans ?_ <;> (repeat' split) <;> first | with_reducible rfl | (simp; done) | (simp [*]; done)); done) | (simp only [State.closeReady] <;> (repeat' split) <;> first | with_reducible rfl | (simp; done) | (simp [*]; done) | ((try simp); refine (foldl_tsu_time _ _ _ fun s a => ?_).trans ?_ <;> (repeat' split) <;> first | with_reducible rfl | (simp; done) | (simp [*]; done)); done) | (simp only [State.closeReady] <;> (repeat' split) <;> first | with_reducible rfl | (simp; done) | (simp [*]; done) | ((try simp); refine (foldl_tsu_rings _ _ _ fun s a => ?_).trans ?_ <;> (repeat' split) <;> first | with_reducible rfl | (simp; done) | (simp [*]; done)); done) | (simp only [State.closeReady] <;> (repeat' split) <;> first | with_reducible rfl | (simp; done) | (simp [*]; done) | ((try simp); refine (foldl_tsu_cfg _ _ _ fun s a => ?_).trans ?_ <;> (repeat' split) <;> first | with_reducible rfl | (simp; done) | (simp [*]; done)); done) | (simp only [State.closeReady] <;> (repeat' split) <;> first | with_reducible rfl | (simp; done) | (simp [*]; done) | ((try simp); refine (foldl_die_sync _ _ _ fun s a => ?_).trans ?_ <;> (repeat' split) <;> first | with_reducible rfl | (simp; done) | (simp [*]; done)); done) | (simp only [State.closeReady] <;> (repeat' split) <;> first | with_reducible rfl | (simp; done) | (simp [*]; done) | ((try simp); refine (foldl_die_launches _ _ _ fun s a => ?_).trans ?_ <;> (repeat' split) <;> first | with_reducible rfl | (simp; done) | (simp [*]; done)); done)

@[simp] theorem State.closeReady_keeps3 (s : State) :
    (State.closeReady s).die.dig = s.die.dig ∧ (State.closeReady s).die.binds = s.die.binds
    ∧ (State.closeReady s).die.coreEn = s.die.coreEn := by
  refine ⟨?_, ?_, ?_⟩ <;> first | (simp only [State.closeReady] <;> (repeat' split) <;> first | with_reducible rfl | (simp; done) | (simp [*]; done) | ((try simp); refine (foldl_die_dig _ _ _ fun s a => ?_).trans ?_ <;> (repeat' split) <;> first | with_reducible rfl | (simp; done) | (simp [*]; done)); done) | (simp only [State.closeReady] <;> (repeat' split) <;> first | with_reducible rfl | (simp; done) | (simp [*]; done) | ((try simp); refine (foldl_die_binds _ _ _ fun s a => ?_).trans ?_ <;> (repeat' split) <;> first | with_reducible rfl | (simp; done) | (simp [*]; done)); done) | (simp only [State.closeReady] <;> (repeat' split) <;> first | with_reducible rfl | (simp; done) | (simp [*]; done) | ((try simp); refine (foldl_die_coreEn _ _ _ fun s a => ?_).trans ?_ <;> (repeat' split) <;> first | with_reducible rfl | (simp; done) | (simp [*]; done)); done)

@[simp] theorem State.finishJudged_keeps (s : State) :
    (State.finishJudged s).pending = s.pending ∧ (State.finishJudged s).cyc = s.cyc ∧ (State.finishJudged s).mdl = s.mdl
    ∧ (State.finishJudged s).meter = s.meter ∧ (State.finishJudged s).phi = s.phi
    ∧ (State.finishJudged s).tsu.time = s.tsu.time ∧ (State.finishJudged s).tsu.cfg = s.tsu.cfg
    ∧ (State.finishJudged s).hub.storage = s.hub.storage ∧ (State.finishJudged s).hub.fw.state = s.hub.fw.state
    ∧ (State.finishJudged s).hub.pairs = s.hub.pairs ∧ (State.finishJudged s).hub.led = s.hub.led
    ∧ (State.finishJudged s).hub.seqs = s.hub.seqs ∧ (State.finishJudged s).die.sync = s.die.sync
    ∧ (State.finishJudged s).die.launches = s.die.launches ∧ (State.finishJudged s).die.dig = s.die.dig
    ∧ (State.finishJudged s).die.binds = s.die.binds ∧ (State.finishJudged s).die.coreEn = s.die.coreEn := by
  refine ⟨?_, ?_, ?_, ?_, ?_, ?_, ?_, ?_, ?_, ?_, ?_, ?_, ?_, ?_, ?_, ?_, ?_⟩ <;> first | (simp [State.finishJudged]; done)

@[simp] theorem State.checkReady_keeps (s : State) (o : WbOp) :
    (State.checkReady s o).pending = s.pending ∧ (State.checkReady s o).cyc = s.cyc ∧ (State.checkReady s o).mdl = s.mdl
    ∧ (State.checkReady s o).meter = s.meter ∧ (State.checkReady s o).phi = s.phi
    ∧ (State.checkReady s o).tsu.time = s.tsu.time ∧ (State.checkReady s o).tsu.cfg = s.tsu.cfg
    ∧ (State.checkReady s o).hub.storage = s.hub.storage ∧ (State.checkReady s o).hub.fw.state = s.hub.fw.state
    ∧ (State.checkReady s o).hub.pairs = s.hub.pairs ∧ (State.checkReady s o).hub.led = s.hub.led
    ∧ (State.checkReady s o).hub.seqs = s.hub.seqs ∧ (State.checkReady s o).die.binds = s.die.binds
    ∧ (State.checkReady s o).die.coreEn = s.die.coreEn := by
  refine ⟨?_, ?_, ?_, ?_, ?_, ?_, ?_, ?_, ?_, ?_, ?_, ?_, ?_, ?_⟩ <;> first | (simp [State.checkReady]; done)

@[simp] theorem State.planeDiff_keeps (s : State) (o : WbOp) :
    (State.planeDiff s o).pending = s.pending ∧ (State.planeDiff s o).cyc = s.cyc
    ∧ (State.planeDiff s o).freeNext = s.freeNext ∧ (State.planeDiff s o).mdl = s.mdl
    ∧ (State.planeDiff s o).meter = s.meter ∧ (State.planeDiff s o).die = s.die ∧ (State.planeDiff s o).hub = s.hub
    ∧ (State.planeDiff s o).phi = s.phi ∧ (State.planeDiff s o).tsu.time = s.tsu.time
    ∧ (State.planeDiff s o).tsu.rings = s.tsu.rings ∧ (State.planeDiff s o).tsu.cfg = s.tsu.cfg := by
  refine ⟨?_, ?_, ?_, ?_, ?_, ?_, ?_, ?_, ?_, ?_, ?_⟩ <;> first | (simp [State.planeDiff]; done)

@[simp] theorem State.writeCopy_keeps (s : State) (o : WbOp) (c : Nat) (x : ChunkCopy) :
    (State.writeCopy s o c x).pending = s.pending ∧ (State.writeCopy s o c x).cyc = s.cyc
    ∧ (State.writeCopy s o c x).freeNext = s.freeNext ∧ (State.writeCopy s o c x).mdl = s.mdl
    ∧ (State.writeCopy s o c x).meter = s.meter ∧ (State.writeCopy s o c x).hub = s.hub
    ∧ (State.writeCopy s o c x).tsu = s.tsu ∧ (State.writeCopy s o c x).phi = s.phi
    ∧ (State.writeCopy s o c x).die.sync = s.die.sync ∧ (State.writeCopy s o c x).die.launches = s.die.launches
    ∧ (State.writeCopy s o c x).die.dig = s.die.dig ∧ (State.writeCopy s o c x).die.binds = s.die.binds
    ∧ (State.writeCopy s o c x).die.coreEn = s.die.coreEn := by
  refine ⟨?_, ?_, ?_, ?_, ?_, ?_, ?_, ?_, ?_, ?_, ?_, ?_, ?_⟩ <;> first | (simp [State.writeCopy]; done)

@[simp] theorem execWbResultReceive_keeps (port : Nat) (e : Env) (f : WbPl) (s : State) :
    gives (execWbResultReceive port e f s) fun t => t.pending = s.pending ∧ t.cyc = s.cyc ∧ t.freeNext = s.freeNext
    ∧ t.mdl = s.mdl ∧ t.meter = s.meter ∧ t.hub = s.hub ∧ t.phi = s.phi ∧ t.tsu.time = s.tsu.time
    ∧ t.tsu.rings = s.tsu.rings ∧ t.tsu.cfg = s.tsu.cfg ∧ t.die.sync = s.die.sync ∧ t.die.launches = s.die.launches
    ∧ t.die.dig = s.die.dig ∧ t.die.binds = s.die.binds ∧ t.die.coreEn = s.die.coreEn := by
  simp only [execWbResultReceive, State.onWb, State.onEngine, State.onReliable_eq] <;> (repeat' split) <;> first | (simp; done) | (simp [*]; done) | (refine gives_and ?_ (gives_and ?_ (gives_and ?_ (gives_and ?_ (gives_and ?_ (gives_and ?_ (gives_and ?_ (gives_and ?_ (gives_and ?_ (gives_and ?_ (gives_and ?_ (gives_and ?_ (gives_and ?_ (gives_and ?_ ?_))))))))))))) <;> first | rfl | (simp; done) | (simp [*]; done) | ((try simp); refine (foldl_pending _ _ _ fun s a => ?_).trans ?_ <;> (repeat' split) <;> first | with_reducible rfl | (simp; done) | (simp [*]; done)) | ((try simp); refine (foldl_cyc _ _ _ fun s a => ?_).trans ?_ <;> (repeat' split) <;> first | with_reducible rfl | (simp; done) | (simp [*]; done)) | ((try simp); refine (foldl_freeNext _ _ _ fun s a => ?_).trans ?_ <;> (repeat' split) <;> first | with_reducible rfl | (simp; done) | (simp [*]; done)) | ((try simp); refine (foldl_mdl _ _ _ fun s a => ?_).trans ?_ <;> (repeat' split) <;> first | with_reducible rfl | (simp; done) | (simp [*]; done)) | ((try simp); refine (foldl_meter _ _ _ fun s a => ?_).trans ?_ <;> (repeat' split) <;> first | with_reducible rfl | (simp; done) | (simp [*]; done)) | ((try simp); refine (foldl_hub _ _ _ fun s a => ?_).trans ?_ <;> (repeat' split) <;> first | with_reducible rfl | (simp; done) | (simp [*]; done)) | ((try simp); refine (foldl_phi _ _ _ fun s a => ?_).trans ?_ <;> (repeat' split) <;> first | with_reducible rfl | (simp; done) | (simp [*]; done)) | ((try simp); refine (foldl_tsu_time _ _ _ fun s a => ?_).trans ?_ <;> (repeat' split) <;> first | with_reducible rfl | (simp; done) | (simp [*]; done)) | ((try simp); refine (foldl_tsu_rings _ _ _ fun s a => ?_).trans ?_ <;> (repeat' split) <;> first | with_reducible rfl | (simp; done) | (simp [*]; done)) | ((try simp); refine (foldl_tsu_cfg _ _ _ fun s a => ?_).trans ?_ <;> (repeat' split) <;> first | with_reducible rfl | (simp; done) | (simp [*]; done)) | ((try simp); refine (foldl_die_sync _ _ _ fun s a => ?_).trans ?_ <;> (repeat' split) <;> first | with_reducible rfl | (simp; done) | (simp [*]; done)) | ((try simp); refine (foldl_die_launches _ _ _ fun s a => ?_).trans ?_ <;> (repeat' split) <;> first | with_reducible rfl | (simp; done) | (simp [*]; done)) | ((try simp); refine (foldl_die_dig _ _ _ fun s a => ?_).trans ?_ <;> (repeat' split) <;> first | with_reducible rfl | (simp; done) | (simp [*]; done)) | ((try simp); refine (foldl_die_binds _ _ _ fun s a => ?_).trans ?_ <;> (repeat' split) <;> first | with_reducible rfl | (simp; done) | (simp [*]; done)) | ((try simp); refine (foldl_die_coreEn _ _ _ fun s a => ?_).trans ?_ <;> (repeat' split) <;> first | with_reducible rfl | (simp; done) | (simp [*]; done)))

@[simp] theorem execWbResidueChunkReceive_keeps (port : Nat) (e : Env) (f : WbPl) (s : State) :
    gives (execWbResidueChunkReceive port e f s) fun t => t.pending = s.pending ∧ t.cyc = s.cyc ∧ t.mdl = s.mdl
    ∧ t.meter = s.meter ∧ t.phi = s.phi ∧ t.tsu.time = s.tsu.time ∧ t.tsu.cfg = s.tsu.cfg
    ∧ t.hub.storage = s.hub.storage ∧ t.hub.fw.state = s.hub.fw.state ∧ t.hub.pairs = s.hub.pairs
    ∧ t.hub.led = s.hub.led ∧ t.hub.seqs = s.hub.seqs ∧ t.die.binds = s.die.binds ∧ t.die.coreEn = s.die.coreEn := by
  simp only [execWbResidueChunkReceive, State.onWb, State.onEngine, State.onReliable_eq] <;> (repeat' split) <;> first | (simp; done) | (simp [*]; done) | (refine gives_and ?_ (gives_and ?_ (gives_and ?_ (gives_and ?_ (gives_and ?_ (gives_and ?_ (gives_and ?_ (gives_and ?_ (gives_and ?_ (gives_and ?_ (gives_and ?_ (gives_and ?_ (gives_and ?_ ?_)))))))))))) <;> first | rfl | (simp; done) | (simp [*]; done) | ((try simp); refine (foldl_pending _ _ _ fun s a => ?_).trans ?_ <;> (repeat' split) <;> first | with_reducible rfl | (simp; done) | (simp [*]; done)) | ((try simp); refine (foldl_cyc _ _ _ fun s a => ?_).trans ?_ <;> (repeat' split) <;> first | with_reducible rfl | (simp; done) | (simp [*]; done)) | ((try simp); refine (foldl_mdl _ _ _ fun s a => ?_).trans ?_ <;> (repeat' split) <;> first | with_reducible rfl | (simp; done) | (simp [*]; done)) | ((try simp); refine (foldl_meter _ _ _ fun s a => ?_).trans ?_ <;> (repeat' split) <;> first | with_reducible rfl | (simp; done) | (simp [*]; done)) | ((try simp); refine (foldl_phi _ _ _ fun s a => ?_).trans ?_ <;> (repeat' split) <;> first | with_reducible rfl | (simp; done) | (simp [*]; done)) | ((try simp); refine (foldl_tsu_time _ _ _ fun s a => ?_).trans ?_ <;> (repeat' split) <;> first | with_reducible rfl | (simp; done) | (simp [*]; done)) | ((try simp); refine (foldl_tsu_cfg _ _ _ fun s a => ?_).trans ?_ <;> (repeat' split) <;> first | with_reducible rfl | (simp; done) | (simp [*]; done)) | ((try simp); refine (foldl_hub_storage _ _ _ fun s a => ?_).trans ?_ <;> (repeat' split) <;> first | with_reducible rfl | (simp; done) | (simp [*]; done)) | ((try simp); refine (foldl_hub_fw_state _ _ _ fun s a => ?_).trans ?_ <;> (repeat' split) <;> first | with_reducible rfl | (simp; done) | (simp [*]; done)) | ((try simp); refine (foldl_hub_pairs _ _ _ fun s a => ?_).trans ?_ <;> (repeat' split) <;> first | with_reducible rfl | (simp; done) | (simp [*]; done)) | ((try simp); refine (foldl_hub_led _ _ _ fun s a => ?_).trans ?_ <;> (repeat' split) <;> first | with_reducible rfl | (simp; done) | (simp [*]; done)) | ((try simp); refine (foldl_hub_seqs _ _ _ fun s a => ?_).trans ?_ <;> (repeat' split) <;> first | with_reducible rfl | (simp; done) | (simp [*]; done)) | ((try simp); refine (foldl_die_binds _ _ _ fun s a => ?_).trans ?_ <;> (repeat' split) <;> first | with_reducible rfl | (simp; done) | (simp [*]; done)) | ((try simp); refine (foldl_die_coreEn _ _ _ fun s a => ?_).trans ?_ <;> (repeat' split) <;> first | with_reducible rfl | (simp; done) | (simp [*]; done)))

@[simp] theorem execWbClosedReceive_keeps (port : Nat) (e : Env) (f : WbPl) (s : State) :
    gives (execWbClosedReceive port e f s) fun t => t.pending = s.pending ∧ t.cyc = s.cyc ∧ t.freeNext = s.freeNext
    ∧ t.out = s.out ∧ t.mdl = s.mdl ∧ t.meter = s.meter ∧ t.hub = s.hub ∧ t.phi = s.phi ∧ t.tsu.time = s.tsu.time
    ∧ t.tsu.rings = s.tsu.rings ∧ t.tsu.cfg = s.tsu.cfg ∧ t.die.sync = s.die.sync ∧ t.die.launches = s.die.launches
    ∧ t.die.dig = s.die.dig ∧ t.die.binds = s.die.binds ∧ t.die.coreEn = s.die.coreEn := by
  simp only [execWbClosedReceive, State.onWb, State.onEngine, State.onReliable_eq] <;> (repeat' split) <;> first | (simp; done) | (simp [*]; done) | (refine gives_and ?_ (gives_and ?_ (gives_and ?_ (gives_and ?_ (gives_and ?_ (gives_and ?_ (gives_and ?_ (gives_and ?_ (gives_and ?_ (gives_and ?_ (gives_and ?_ (gives_and ?_ (gives_and ?_ (gives_and ?_ (gives_and ?_ ?_)))))))))))))) <;> first | rfl | (simp; done) | (simp [*]; done) | ((try simp); refine (foldl_pending _ _ _ fun s a => ?_).trans ?_ <;> (repeat' split) <;> first | with_reducible rfl | (simp; done) | (simp [*]; done)) | ((try simp); refine (foldl_cyc _ _ _ fun s a => ?_).trans ?_ <;> (repeat' split) <;> first | with_reducible rfl | (simp; done) | (simp [*]; done)) | ((try simp); refine (foldl_freeNext _ _ _ fun s a => ?_).trans ?_ <;> (repeat' split) <;> first | with_reducible rfl | (simp; done) | (simp [*]; done)) | ((try simp); refine (foldl_out _ _ _ fun s a => ?_).trans ?_ <;> (repeat' split) <;> first | with_reducible rfl | (simp; done) | (simp [*]; done)) | ((try simp); refine (foldl_mdl _ _ _ fun s a => ?_).trans ?_ <;> (repeat' split) <;> first | with_reducible rfl | (simp; done) | (simp [*]; done)) | ((try simp); refine (foldl_meter _ _ _ fun s a => ?_).trans ?_ <;> (repeat' split) <;> first | with_reducible rfl | (simp; done) | (simp [*]; done)) | ((try simp); refine (foldl_hub _ _ _ fun s a => ?_).trans ?_ <;> (repeat' split) <;> first | with_reducible rfl | (simp; done) | (simp [*]; done)) | ((try simp); refine (foldl_phi _ _ _ fun s a => ?_).trans ?_ <;> (repeat' split) <;> first | with_reducible rfl | (simp; done) | (simp [*]; done)) | ((try simp); refine (foldl_tsu_time _ _ _ fun s a => ?_).trans ?_ <;> (repeat' split) <;> first | with_reducible rfl | (simp; done) | (simp [*]; done)) | ((try simp); refine (foldl_tsu_rings _ _ _ fun s a => ?_).trans ?_ <;> (repeat' split) <;> first | with_reducible rfl | (simp; done) | (simp [*]; done)) | ((try simp); refine (foldl_tsu_cfg _ _ _ fun s a => ?_).trans ?_ <;> (repeat' split) <;> first | with_reducible rfl | (simp; done) | (simp [*]; done)) | ((try simp); refine (foldl_die_sync _ _ _ fun s a => ?_).trans ?_ <;> (repeat' split) <;> first | with_reducible rfl | (simp; done) | (simp [*]; done)) | ((try simp); refine (foldl_die_launches _ _ _ fun s a => ?_).trans ?_ <;> (repeat' split) <;> first | with_reducible rfl | (simp; done) | (simp [*]; done)) | ((try simp); refine (foldl_die_dig _ _ _ fun s a => ?_).trans ?_ <;> (repeat' split) <;> first | with_reducible rfl | (simp; done) | (simp [*]; done)) | ((try simp); refine (foldl_die_binds _ _ _ fun s a => ?_).trans ?_ <;> (repeat' split) <;> first | with_reducible rfl | (simp; done) | (simp [*]; done)) | ((try simp); refine (foldl_die_coreEn _ _ _ fun s a => ?_).trans ?_ <;> (repeat' split) <;> first | with_reducible rfl | (simp; done) | (simp [*]; done)))

@[simp] theorem execWbFailedReceive_keeps (port : Nat) (e : Env) (f : WbPl) (s : State) :
    gives (execWbFailedReceive port e f s) fun t => t.pending = s.pending ∧ t.cyc = s.cyc ∧ t.mdl = s.mdl
    ∧ t.meter = s.meter ∧ t.phi = s.phi ∧ t.tsu.time = s.tsu.time ∧ t.tsu.cfg = s.tsu.cfg
    ∧ t.hub.storage = s.hub.storage ∧ t.hub.fw.state = s.hub.fw.state ∧ t.hub.pairs = s.hub.pairs
    ∧ t.hub.led = s.hub.led ∧ t.hub.seqs = s.hub.seqs ∧ t.die.binds = s.die.binds ∧ t.die.coreEn = s.die.coreEn := by
  simp only [execWbFailedReceive, State.onWb, State.onEngine, State.onReliable_eq] <;> (repeat' split) <;> first | (simp; done) | (simp [*]; done) | (refine gives_and ?_ (gives_and ?_ (gives_and ?_ (gives_and ?_ (gives_and ?_ (gives_and ?_ (gives_and ?_ (gives_and ?_ (gives_and ?_ (gives_and ?_ (gives_and ?_ (gives_and ?_ (gives_and ?_ ?_)))))))))))) <;> first | rfl | (simp; done) | (simp [*]; done) | ((try simp); refine (foldl_pending _ _ _ fun s a => ?_).trans ?_ <;> (repeat' split) <;> first | with_reducible rfl | (simp; done) | (simp [*]; done)) | ((try simp); refine (foldl_cyc _ _ _ fun s a => ?_).trans ?_ <;> (repeat' split) <;> first | with_reducible rfl | (simp; done) | (simp [*]; done)) | ((try simp); refine (foldl_mdl _ _ _ fun s a => ?_).trans ?_ <;> (repeat' split) <;> first | with_reducible rfl | (simp; done) | (simp [*]; done)) | ((try simp); refine (foldl_meter _ _ _ fun s a => ?_).trans ?_ <;> (repeat' split) <;> first | with_reducible rfl | (simp; done) | (simp [*]; done)) | ((try simp); refine (foldl_phi _ _ _ fun s a => ?_).trans ?_ <;> (repeat' split) <;> first | with_reducible rfl | (simp; done) | (simp [*]; done)) | ((try simp); refine (foldl_tsu_time _ _ _ fun s a => ?_).trans ?_ <;> (repeat' split) <;> first | with_reducible rfl | (simp; done) | (simp [*]; done)) | ((try simp); refine (foldl_tsu_cfg _ _ _ fun s a => ?_).trans ?_ <;> (repeat' split) <;> first | with_reducible rfl | (simp; done) | (simp [*]; done)) | ((try simp); refine (foldl_hub_storage _ _ _ fun s a => ?_).trans ?_ <;> (repeat' split) <;> first | with_reducible rfl | (simp; done) | (simp [*]; done)) | ((try simp); refine (foldl_hub_fw_state _ _ _ fun s a => ?_).trans ?_ <;> (repeat' split) <;> first | with_reducible rfl | (simp; done) | (simp [*]; done)) | ((try simp); refine (foldl_hub_pairs _ _ _ fun s a => ?_).trans ?_ <;> (repeat' split) <;> first | with_reducible rfl | (simp; done) | (simp [*]; done)) | ((try simp); refine (foldl_hub_led _ _ _ fun s a => ?_).trans ?_ <;> (repeat' split) <;> first | with_reducible rfl | (simp; done) | (simp [*]; done)) | ((try simp); refine (foldl_hub_seqs _ _ _ fun s a => ?_).trans ?_ <;> (repeat' split) <;> first | with_reducible rfl | (simp; done) | (simp [*]; done)) | ((try simp); refine (foldl_die_binds _ _ _ fun s a => ?_).trans ?_ <;> (repeat' split) <;> first | with_reducible rfl | (simp; done) | (simp [*]; done)) | ((try simp); refine (foldl_die_coreEn _ _ _ fun s a => ?_).trans ?_ <;> (repeat' split) <;> first | with_reducible rfl | (simp; done) | (simp [*]; done)))

@[simp] theorem execWbTimeout_keeps (basin : Nat) (gen : Nat) (opid : W32) (s : State) :
    gives (execWbTimeout basin gen opid s) fun t => t.pending = s.pending ∧ t.cyc = s.cyc ∧ t.mdl = s.mdl
    ∧ t.meter = s.meter ∧ t.phi = s.phi ∧ t.tsu.time = s.tsu.time ∧ t.tsu.cfg = s.tsu.cfg
    ∧ t.hub.storage = s.hub.storage ∧ t.hub.fw.state = s.hub.fw.state ∧ t.hub.pairs = s.hub.pairs
    ∧ t.hub.led = s.hub.led ∧ t.hub.seqs = s.hub.seqs ∧ t.die.binds = s.die.binds ∧ t.die.coreEn = s.die.coreEn := by
  simp only [execWbTimeout] <;> (repeat' split) <;> first | (simp; done) | (simp [*]; done) | (refine gives_and ?_ (gives_and ?_ (gives_and ?_ (gives_and ?_ (gives_and ?_ (gives_and ?_ (gives_and ?_ (gives_and ?_ (gives_and ?_ (gives_and ?_ (gives_and ?_ (gives_and ?_ (gives_and ?_ ?_)))))))))))) <;> first | rfl | (simp; done) | (simp [*]; done))

@[simp] theorem execWbDataHoldEnd_keeps (basin : Nat) (gen : Nat) (opid : W32) (s : State) :
    gives (execWbDataHoldEnd basin gen opid s) fun t => t.pending = s.pending ∧ t.cyc = s.cyc ∧ t.freeNext = s.freeNext
    ∧ t.mdl = s.mdl ∧ t.meter = s.meter ∧ t.hub = s.hub ∧ t.phi = s.phi ∧ t.tsu.time = s.tsu.time
    ∧ t.tsu.rings = s.tsu.rings ∧ t.tsu.cfg = s.tsu.cfg ∧ t.die.sync = s.die.sync ∧ t.die.launches = s.die.launches
    ∧ t.die.dig = s.die.dig ∧ t.die.binds = s.die.binds ∧ t.die.coreEn = s.die.coreEn := by
  simp only [execWbDataHoldEnd] <;> (repeat' split) <;> first | (simp; done) | (simp [*]; done) | (refine gives_and ?_ (gives_and ?_ (gives_and ?_ (gives_and ?_ (gives_and ?_ (gives_and ?_ (gives_and ?_ (gives_and ?_ (gives_and ?_ (gives_and ?_ (gives_and ?_ (gives_and ?_ (gives_and ?_ (gives_and ?_ ?_))))))))))))) <;> first | rfl | (simp; done) | (simp [*]; done))

end Sys2Proof.Machine
end

