-- ==== Sys2Proof/Laws/Tick.lean ====
section
/-!
SUPPORT. What the operations and meanings of Machine/Tick.lean leave unchanged.
-/

namespace Sys2Proof.Machine

@[simp] theorem State.showTransition_keeps (s : State) (p : Part) :
    (State.showTransition s p).pending = s.pending ∧ (State.showTransition s p).cyc = s.cyc
    ∧ (State.showTransition s p).freeNext = s.freeNext ∧ (State.showTransition s p).mdl = s.mdl
    ∧ (State.showTransition s p).meter = s.meter ∧ (State.showTransition s p).die = s.die
    ∧ (State.showTransition s p).hub = s.hub ∧ (State.showTransition s p).tsu.time.acc = s.tsu.time.acc
    ∧ (State.showTransition s p).tsu.time.state = s.tsu.time.state
    ∧ (State.showTransition s p).tsu.rings = s.tsu.rings ∧ (State.showTransition s p).tsu.cfg = s.tsu.cfg
    ∧ (State.showTransition s p).phi.time.acc = s.phi.time.acc
    ∧ (State.showTransition s p).phi.time.state = s.phi.time.state
    ∧ (State.showTransition s p).phi.rings = s.phi.rings ∧ (State.showTransition s p).phi.cfg = s.phi.cfg := by
  refine ⟨?_, ?_, ?_, ?_, ?_, ?_, ?_, ?_, ?_, ?_, ?_, ?_, ?_, ?_, ?_⟩ <;> first | (simp [State.showTransition]; done)

@[simp] theorem State.showTransition_keeps_tsu (s : State) :
    (State.showTransition s .tsu).phi = s.phi := by simp only [State.showTransition] <;> (repeat' split) <;> first | rfl | (simp; done) | (simp [*]; done)

@[simp] theorem State.showTransition_keeps_phi (s : State) :
    (State.showTransition s .phi).tsu = s.tsu := by simp only [State.showTransition] <;> (repeat' split) <;> first | rfl | (simp; done) | (simp [*]; done)

@[simp] theorem State.tickFast_keeps (s : State) :
    (State.tickFast s).pending = s.pending ∧ (State.tickFast s).cyc = s.cyc ∧ (State.tickFast s).freeNext = s.freeNext
    ∧ (State.tickFast s).out = s.out ∧ (State.tickFast s).mdl = s.mdl ∧ (State.tickFast s).meter = s.meter
    ∧ (State.tickFast s).die = s.die ∧ (State.tickFast s).hub = s.hub ∧ (State.tickFast s).phi = s.phi
    ∧ (State.tickFast s).tsu.time = s.tsu.time ∧ (State.tickFast s).tsu.rings = s.tsu.rings
    ∧ (State.tickFast s).tsu.cfg = s.tsu.cfg := by
  refine ⟨?_, ?_, ?_, ?_, ?_, ?_, ?_, ?_, ?_, ?_, ?_, ?_⟩ <;> first | (simp [State.tickFast]; done)

@[simp] theorem State.tickRegions_keeps (s : State) :
    (State.tickRegions s).pending = s.pending ∧ (State.tickRegions s).cyc = s.cyc
    ∧ (State.tickRegions s).freeNext = s.freeNext ∧ (State.tickRegions s).out = s.out
    ∧ (State.tickRegions s).mdl = s.mdl ∧ (State.tickRegions s).meter = s.meter ∧ (State.tickRegions s).hub = s.hub
    ∧ (State.tickRegions s).tsu = s.tsu ∧ (State.tickRegions s).phi = s.phi
    ∧ (State.tickRegions s).die.sync = s.die.sync ∧ (State.tickRegions s).die.launches = s.die.launches
    ∧ (State.tickRegions s).die.dig = s.die.dig ∧ (State.tickRegions s).die.binds = s.die.binds
    ∧ (State.tickRegions s).die.coreEn = s.die.coreEn := by
  refine ⟨?_, ?_, ?_, ?_, ?_, ?_, ?_, ?_, ?_, ?_, ?_, ?_, ?_, ?_⟩ <;> first | (simp [State.tickRegions]; done)

@[simp] theorem State.meterWord_keeps (s : State) :
    (State.meterWord s).pending = s.pending ∧ (State.meterWord s).cyc = s.cyc
    ∧ (State.meterWord s).freeNext = s.freeNext ∧ (State.meterWord s).out = s.out ∧ (State.meterWord s).mdl = s.mdl
    ∧ (State.meterWord s).die = s.die ∧ (State.meterWord s).hub = s.hub ∧ (State.meterWord s).tsu = s.tsu
    ∧ (State.meterWord s).phi = s.phi := by
  refine ⟨?_, ?_, ?_, ?_, ?_, ?_, ?_, ?_, ?_⟩ <;> first | (simp [State.meterWord]; done)

@[simp] theorem State.nextCycle_keeps (s : State) :
    (State.nextCycle s).pending = s.pending ∧ (State.nextCycle s).freeNext = s.freeNext
    ∧ (State.nextCycle s).out = s.out ∧ (State.nextCycle s).mdl = s.mdl ∧ (State.nextCycle s).die = s.die
    ∧ (State.nextCycle s).tsu.rings = s.tsu.rings ∧ (State.nextCycle s).tsu.cfg = s.tsu.cfg
    ∧ (State.nextCycle s).phi.rings = s.phi.rings ∧ (State.nextCycle s).phi.cfg = s.phi.cfg
    ∧ (State.nextCycle s).hub.storage = s.hub.storage ∧ (State.nextCycle s).hub.fw.state = s.hub.fw.state
    ∧ (State.nextCycle s).hub.pairs = s.hub.pairs ∧ (State.nextCycle s).hub.led = s.hub.led
    ∧ (State.nextCycle s).hub.seqs = s.hub.seqs := by
  refine ⟨?_, ?_, ?_, ?_, ?_, ?_, ?_, ?_, ?_, ?_, ?_, ?_, ?_, ?_⟩ <;> first | (simp [State.nextCycle]; done)

end Sys2Proof.Machine
end

