-- ==== Sys2Proof/Laws/Step.lean ====
section
/-!
SUPPORT. What the operations and meanings of Machine/Step.lean leave unchanged.
-/

namespace Sys2Proof.Machine

@[simp] theorem State.withFetchWord_keeps (s : State) (nbits : Nat) (w : Nat) :
    (State.withFetchWord s nbits w).cyc = s.cyc ∧ (State.withFetchWord s nbits w).freeNext = s.freeNext
    ∧ (State.withFetchWord s nbits w).out = s.out ∧ (State.withFetchWord s nbits w).mdl = s.mdl
    ∧ (State.withFetchWord s nbits w).meter = s.meter ∧ (State.withFetchWord s nbits w).die = s.die
    ∧ (State.withFetchWord s nbits w).hub = s.hub ∧ (State.withFetchWord s nbits w).tsu = s.tsu
    ∧ (State.withFetchWord s nbits w).phi = s.phi := by
  simp only [State.withFetchWord] <;> (repeat' split) <;> first | (simp; done) | (simp [*]; done) | (refine ⟨?_, ?_, ?_, ?_, ?_, ?_, ?_, ?_, ?_⟩ <;> first | rfl | (simp; done) | (simp [*]; done))

end Sys2Proof.Machine
end

