-- ==== Sys2Proof/Laws/Tab.lean ====
section
/-!
SUPPORT. Reads of a table after its operations, and the order of its keys.
-/

namespace Sys2Proof.Machine

variable {α : Type}

/-- A read after a write gives the value written at its key, and any other entry as before. -/
theorem tabGet?_set (t : Tab α) (x y : Nat) (v : α) : tabGet? (tabSet t x v) y = if x = y then some v else tabGet? t y := by
  induction t with
  | nil => simp [tabSet, tabGet?]
  | cons a t ih =>
    obtain ⟨k, w⟩ := a
    by_cases h1 : x < k
    · rw [show tabSet ((k, w) :: t) x v = (x, v) :: (k, w) :: t by simp [tabSet, h1]]
      simp [tabGet?]
    · by_cases h2 : x = k
      · subst h2
        by_cases h3 : x = y <;> simp [tabSet, tabGet?, h3]
      · simp only [tabSet, h1, h2, tabGet?, if_false]
        by_cases h3 : k = y
        · subst h3; simp [h2]
        · simp [h3, ih]

/-- The entry just written. -/
@[simp] theorem tabGet?_set_same (t : Tab α) (x : Nat) (v : α) : tabGet? (tabSet t x v) x = some v := by simp [tabGet?_set]

/-- Another entry than the one written. -/
theorem tabGet?_set_other (t : Tab α) {x y : Nat} (v : α) (h : y ≠ x) : tabGet? (tabSet t x v) y = tabGet? t y := by
  simp [tabGet?_set, Ne.symm h]

/-- The entry just written, read with a default. -/
@[simp] theorem tabGet_set_same (d : α) (t : Tab α) (x : Nat) (v : α) : tabGet d (tabSet t x v) x = v := by simp [tabGet]

/-- Another entry than the one written, read with a default. -/
theorem tabGet_set_other (d : α) (t : Tab α) {x y : Nat} (v : α) (h : y ≠ x) : tabGet d (tabSet t x v) y = tabGet d t y := by
  simp [tabGet, tabGet?_set_other t v h]

/-- A changed entry is the change of what stood there, or of the default. -/
@[simp] theorem tabGet_mod_same (d : α) (t : Tab α) (x : Nat) (f : α → α) : tabGet d (tabMod d t x f) x = f (tabGet d t x) := by
  simp [tabMod]

/-- A change of one entry leaves the others. -/
theorem tabGet_mod_other (d : α) (t : Tab α) {x y : Nat} (f : α → α) (h : y ≠ x) : tabGet d (tabMod d t x f) y = tabGet d t y :=
  tabGet_set_other d t _ h

/-- A change of an entry that exists, and of no other. -/
theorem tabGet?_adj (t : Tab α) (x y : Nat) (f : α → α) :
    tabGet? (tabAdj t x f) y = if y = x then (tabGet? t y).map f else tabGet? t y := by
  induction t with
  | nil => simp [tabAdj, tabGet?]
  | cons a t ih =>
    obtain ⟨k, w⟩ := a
    simp only [tabAdj] at ih
    by_cases h1 : k = x
    · by_cases h2 : k = y
      · simp [tabAdj, tabGet?, ← h1, ← h2]
      · simp [tabAdj, tabGet?, h1, ih, show ¬ x = y from h1 ▸ h2]
    · by_cases h2 : k = y
      · simp [tabAdj, tabGet?, h1, ← h2]
      · simp [tabAdj, tabGet?, h1, h2, ih]

/-- A removed entry is gone, and no other. -/
theorem tabGet?_del (t : Tab α) (x y : Nat) : tabGet? (tabDel t x) y = if y = x then none else tabGet? t y := by
  induction t with
  | nil => simp [tabDel, tabGet?]
  | cons a t ih =>
    obtain ⟨k, w⟩ := a
    simp only [tabDel] at ih
    by_cases h1 : k = x
    · by_cases h2 : y = x
      · simp [tabDel, h1, h2] at ih ⊢; exact ih
      · simp [tabDel, tabGet?, h1, h2, Ne.symm h2] at ih ⊢; exact ih
    · by_cases h2 : k = y
      · simp [tabDel, tabGet?, ← h2, h1]
      · simp [tabDel, tabGet?, h1, h2, ih]

/-- A write keeps the keys rising. -/
theorem tabSorted_set (t : Tab α) (x : Nat) (v : α) (h : tabSorted t = true) : tabSorted (tabSet t x v) = true := by
  induction t with
  | nil => rfl
  | cons a t ih =>
    obtain ⟨k, w⟩ := a
    by_cases h1 : x < k
    · simp [tabSet, tabSorted, h1, h]
    · by_cases h2 : x = k
      · subst h2
        cases t with
        | nil => simp [tabSet, tabSorted]
        | cons b t => simpa [tabSet, tabSorted] using h
      · have hk : k < x := by omega
        cases t with
        | nil => simp [tabSet, tabSorted, h1, h2, hk]
        | cons b t =>
          obtain ⟨j, u⟩ := b
          simp only [tabSorted, Bool.and_eq_true, decide_eq_true_eq] at h
          have := ih h.2
          simp only [tabSet, h1, h2, if_false] at this ⊢
          split <;> rename_i h3
          · simp [tabSorted, hk, h3, h.2]
          · split <;> rename_i h4
            · subst h4
              simp only [Nat.lt_irrefl, if_false, if_true] at this
              simp [tabSorted, hk, this]
            · simp only [h3, h4, if_false] at this
              simp [tabSorted, h.1, this]

end Sys2Proof.Machine
end

