-- ==== Sys2Proof/WellFormed.lean ====
section
/-!
DEFINITION. Commands whose operands the interfaces of the block can carry: port, ring and core numbers that exist, fields within
their widths, byte strings of the length that the spec gives.
-/

namespace Sys2Proof

/-- A port of a part (R1): ports A and B of a TSU, `P0` to `P511` and `U0` to `U15` of a Phidor. -/
def portOk : Part → Nat → Bool
  | .tsu, i => i < 2
  | .phi, i => i < 528

/-- A port that trains (R1, R68): a port of the part, or on a Phidor the spare tail of a bundle, numbered 528 to 559 for `B0` to `B31`
and 560 and 561 for `UB0` and `UB1`. -/
def trainOk : Part → Nat → Bool
  | .tsu, i => i < 2
  | .phi, i => i < 562

/-- A ring of a part (R284). -/
def ringOk : Part → Nat → Bool
  | .tsu, i => i < 64
  | .phi, i => i < 4096

/-- A TDC channel of a part by its code (R69). -/
def chanOk : Part → Nat → Bool
  | .tsu, i => i < 34
  | .phi, i => i < 581

/-- An engine of the TSU, or a hardware unit of the Phidor (R370, R373). -/
def engineOk : Part → Nat → Bool
  | .tsu, i => i < 6
  | .phi, i => i < 8

/-- A kind of unit (the spares table of chapter 13). -/
def kindOk (_ : Part) (kind : Nat) : Bool := kind < 10

/-- What a descriptor read brings: 64 bytes, or nothing when the read failed (R291, R314). -/
def descOk : Option (List Byte) → Bool
  | some b => b.length == 64
  | none => true

/-- A command is well formed. -/
def Instr.wellFormed : Instr → Bool
  | .aonPowerOn => true
  | .refClockLost _ => true
  | .htParity _ => true
  | .holdoverWindowExpiry _ => true
  | .htHoldEnd _ => true
  | .planeRevert => true
  | .beaconLoss p port => portOk p port
  | .lighthouseObtainHt => true
  | .traceWindowExpiry => true
  | .referenceLost => true
  | .referenceValid => true
  | .ppsEdge chan core _ _ => chanOk .phi chan && core < 3
  | .ppsOffsetSend => true
  | .ptpMessage port _ _ _ => port < 2
  | .leapSecond => true
  | .htEpoch ring idx => ringOk .phi ring && idx < 2 ^ 32
  | .htEpochClear ring idx => ringOk .phi ring && idx < 2 ^ 32
  | .htLoad _ => true
  | .htSnapGo _ => true
  | .htSaveTimer => true
  | .signalDetected p port => trainOk p port
  | .clockRecoveryLock p port => trainOk p port
  | .blockLockAcquired p port => trainOk p port
  | .linkIdentSend p port => trainOk p port
  | .linkIdentReceive p port _ _ => trainOk p port
  | .linkTrainTimeout p port => trainOk p port
  | .linkRetryTimer p port => trainOk p port
  | .blockLockLost p port => portOk p port
  | .frameReceiveError p port _ => portOk p port
  | .linkCtrlAck p port _ => portOk p port
  | .linkCtrlNak p port _ _ => portOk p port
  | .linkAckTimer p port => portOk p port
  | .retxTimeout p port => portOk p port
  | .laneTransmit p port => portOk p port
  | .beaconReqSend p port core => portOk p port && core < 3
  | .beaconReqReceive p port core _ _ => portOk p port && core < 3
  | .beaconRespSend p port core => portOk p port && core < 3
  | .beaconRespReceive p port core _ _ => portOk p port && core < 3
  | .beaconFuSend p port => portOk p port
  | .beaconFuReceive p port _ _ => portOk p port
  | .beaconExchangeAbandon p port => portOk p port
  | .linkCtrlCalStart p port _ => portOk p port
  | .linkCtrlTurn p port _ _ => portOk p port
  | .linkCtrlCalEnd p port _ => portOk p port
  | .linkCtrlRetrain p port _ => portOk p port
  | .asymCalComplete p port => portOk p port
  | .asymRecalTimer port => portOk .tsu port
  | .linkRecal p ring idx => ringOk p ring && idx < 2 ^ 32
  | .timeInfoSend port => portOk .phi port
  | .timeInfoReceive p port _ _ => portOk p port
  | .lighthouseMaster ring idx => ringOk .phi ring && idx < 2 ^ 32
  | .tdcConversionDone p chan input _ _ _ => chanOk p chan && input < 9
  | .codeDensityRunComplete p chan hists => chanOk p chan && hists.length == 9
  | .vernierCalComplete p chan core sums => chanOk p chan && core < 3 && sums.length == 4
  | .tdcRecalTimer p chan => chanOk p chan
  | .temperatureMove _ _ => true
  | .tdcMeasureInterval p ring idx => ringOk p ring && idx < 2 ^ 32
  | .tdcMeasureFrequency p ring idx => ringOk p ring && idx < 2 ^ 32
  | .tdcMeasureBeacon p ring idx => ringOk p ring && idx < 2 ^ 32
  | .tdcMeasureCodeDensity p ring idx => ringOk p ring && idx < 2 ^ 32
  | .tdcMeasureComplete p chan starts ends => chanOk p chan && starts.length == ends.length
  | .tdcMeasureTimeout p chan starts ends => chanOk p chan && starts.length == ends.length
  | .regionWatchResult region starts ends => region < 16 && starts.length == ends.length
  | .fastWakeRequest => true
  | .spinePllLock _ => true
  | .spinePllLockTimeout _ => true
  | .fastIdleExpiry => true
  | .fastForceWrite _ => true
  | .spineParity region => region < 16
  | .coreHtRead region core => region < 16 && core < 192
  | .regionFifoConsume region => region < 16
  | .crossingSlip region => region < 16
  | .regionPowerChange region _ => region < 16
  | .stretchEvent region _ => region < 16
  | .spineCalRunComplete runs => runs.all (fun r => r.region < 16)
  | .spineRecalTimer => true
  | .basinCreate ring idx dies => ringOk .phi ring && idx < 2 ^ 32 && dies.all (· < 65536)
  | .tideLoad ring idx _ => ringOk .phi ring && idx < 2 ^ 32
  | .basinStart ring idx => ringOk .phi ring && idx < 2 ^ 32
  | .basinPark ring idx => ringOk .phi ring && idx < 2 ^ 32
  | .basinResume ring idx => ringOk .phi ring && idx < 2 ^ 32
  | .basinDestroy ring idx => ringOk .phi ring && idx < 2 ^ 32
  | .basinLead ring idx => ringOk .phi ring && idx < 2 ^ 32
  | .memberList ring idx dies => ringOk .phi ring && idx < 2 ^ 32 && dies.all (· < 65536)
  | .tideNop basin => basin < 4096
  | .tideLaunch basin => basin < 4096
  | .announceSend basin _ => basin < 4096
  | .tideReduce basin => basin < 4096
  | .tideGateWait basin => basin < 4096
  | .gateWaitTimeout basin => basin < 4096
  | .tideBranch basin => basin < 4096
  | .branchWaitTimeout basin => basin < 4096
  | .tideLoopSet basin => basin < 4096
  | .tideLoopBack basin => basin < 4096
  | .tideMeterMark basin => basin < 4096
  | .tideMemberAdd basin => basin < 4096
  | .tideMemberDel basin => basin < 4096
  | .tidePredSet basin => basin < 4096
  | .tidePark basin => basin < 4096
  | .tideEnd basin => basin < 4096
  | .tideFetchDone basin => basin < 4096
  | .stepCommitTimer basin _ => basin < 4096
  | .memberConfirmTimeout basin => basin < 4096
  | .leadTimeout basin => basin < 4096
  | .abortWaveComplete basin => basin < 4096
  | .announceReceive port _ _ => portOk .tsu port
  | .launchRowFetched basin _ _ _ => basin < 4096
  | .rowFetchTimeout basin _ => basin < 4096
  | .announceForward port _ _ => portOk .phi port
  | .ackReceive port _ _ => portOk .phi port
  | .commitCutoff basin _ => basin < 4096
  | .commitReceive port _ _ => portOk .tsu port
  | .commitForward port _ _ => portOk .phi port
  | .commitDeadline basin _ => basin < 4096
  | .fastReadyCheck basin _ => basin < 4096
  | .strobeDecision _ => true
  | .delayLineFire region _ => region < 16
  | .abortReceive port _ _ => portOk .tsu port
  | .abortForward port _ _ => portOk .phi port
  | .slotDoneWrite core slot => core < 192 && slot < 4
  | .basinAttach ring idx => ringOk .tsu ring && idx < 2 ^ 32
  | .coresetWrite ring idx => ringOk .tsu ring && idx < 2 ^ 32
  | .softRequest _ => true
  | .softRequestGrant => true
  | .throttleDeferTimeout _ => true
  | .hardLimit => true
  | .memberReceive port _ _ => portOk .tsu port
  | .memberForward port _ _ => portOk .phi port
  | .basinPurgeComplete basin => basin < 4096
  | .flagSet core ctx index => core < 192 && ctx < 8 && index < 9216
  | .flagClear core ctx index => core < 192 && ctx < 8 && index < 9216
  | .flagTest core ctx index _ => core < 192 && ctx < 8 && index < 9216
  | .flagWait core ctx index _ timeoutUs => core < 192 && ctx < 8 && index < 9216 && timeoutUs < 2 ^ 32
  | .tallyAdd core ctx index _ => core < 192 && ctx < 8 && index < 9216
  | .tallyRead core ctx index => core < 192 && ctx < 8 && index < 9216
  | .tallyWait core ctx index _ timeoutUs => core < 192 && ctx < 8 && index < 9216 && timeoutUs < 2 ^ 32
  | .dgArrive core ctx gate => core < 192 && ctx < 8 && gate < 256
  | .dgArriveWait core ctx gate timeoutUs => core < 192 && ctx < 8 && gate < 256 && timeoutUs < 2 ^ 32
  | .dgWait core ctx gate _ timeoutUs => core < 192 && ctx < 8 && gate < 256 && timeoutUs < 2 ^ 32
  | .hgArriveWait core ctx proxy timeoutUs => core < 192 && ctx < 8 && proxy < 1024 && timeoutUs < 2 ^ 32
  | .hgWait core ctx proxy _ timeoutUs => core < 192 && ctx < 8 && proxy < 1024 && timeoutUs < 2 ^ 32
  | .syncWaitTimeout waiter => waiter < 2304
  | .dgGateTimeout waiter => waiter < 2304
  | .gateConfig ring idx => ringOk .tsu ring && idx < 2 ^ 32
  | .proxyBind ring idx => ringOk .tsu ring && idx < 2 ^ 32
  | .proxyUnbind ring idx => ringOk .tsu ring && idx < 2 ^ 32
  | .gateArriveReceive port _ _ => portOk .phi port
  | .gateContextFree basin gen gate => basin < 4096 && gen < 65536 && gate < 4096
  | .followerReleaseTimer basin gate => basin < 4096 && gate < 4096
  | .gateReleaseReceive port _ _ => portOk .tsu port
  | .gateReleaseForward port _ _ => portOk .phi port
  | .gateReleaseBell proxy => proxy < 1024
  | .hallGateTimeout basin gate => basin < 4096 && gate < 4096
  | .proxyBackstopTimeout proxy => proxy < 1024
  | .gateArriveHoldEnd proxy => proxy < 1024
  | .syncOp ring idx => ringOk .tsu ring && idx < 2 ^ 32
  | .remoteSignal bytes _ => bytes.length == 16
  | .dataMoverPacketReport _ _ _ => true
  | .pendTimeout entry => entry < 256
  | .ctxSave ring idx => ringOk .tsu ring && idx < 2 ^ 32
  | .ctxRestore ring idx _ => ringOk .tsu ring && idx < 2 ^ 32
  | .syncView ring idx => ringOk .tsu ring && idx < 2 ^ 32
  | .syncDump ring idx => ringOk .tsu ring && idx < 2 ^ 32
  | .wbSubmit _ req _ => req.length == 48
  | .wbDataReceive port _ f _ => portOk .phi port && f.data.length == 24
  | .wbResultReceive port _ f => portOk .tsu port && f.data.length == 24
  | .wbResultForward port _ f => portOk .phi port && f.data.length == 24
  | .wbResidueChunkReceive port _ f => portOk .tsu port && f.data.length == 24
  | .wbClosedReceive port _ f => portOk .tsu port && f.data.length == 24
  | .wbFailedReceive port _ f => portOk .tsu port && f.data.length == 24
  | .wbAckOk port _ _ => portOk .phi port
  | .wbAckParity port _ _ _ _ => portOk .phi port
  | .wbTimeout basin gen _ => basin < 4096 && gen < 65536
  | .wbDataHoldEnd basin gen _ => basin < 4096 && gen < 65536
  | .adcSample _ _ => true
  | .meterIntervalClose _ _ => true
  | .intervalTableHandoff addr _ => addr < 8
  | .inputCutoff _ => true
  | .activityReport _ => true
  | .berthBind ring idx => ringOk .tsu ring && idx < 2 ^ 32
  | .powerFail _ _ => true
  | .meterStart _ _ _ _ => true
  | .tamperOpen => true
  | .blockSealTimer => true
  | .blockSealed _ => true
  | .recordAckReceive port _ _ _ => portOk .tsu port
  | .recordResendTimer => true
  | .mtrParam ring idx => ringOk .tsu ring && idx < 2 ^ 32
  | .mtrStateSeal ring idx _ _ => ringOk .tsu ring && idx < 2 ^ 32
  | .mtrStateOpen ring idx _ _ => ringOk .tsu ring && idx < 2 ^ 32
  | .mtrLogRead ring idx => ringOk .tsu ring && idx < 2 ^ 32
  | .mtrMirrorRead => true
  | .ringEntryStage p ring _ data => ringOk p ring && data.length ≤ 8
  | .ringEnable p ring _ data => ringOk p ring && data.length ≤ 8
  | .ringDisable p ring _ data => ringOk p ring && data.length ≤ 8
  | .ringDrainComplete p ring => ringOk p ring
  | .doorbellWrite p ring _ _ => ringOk p ring
  | .pollRound doorbells _ _ _ => doorbells.all (fun d => d.1 < 4096)
  | .descriptorFetch _ descs => descs.length ≤ 16 && descs.all descOk
  | .commandTimeout p ring idx hung => ringOk p ring && idx < 2 ^ 32 && hung.all (· < 8)
  | .irqHoldoffExpiry p ring => ringOk p ring
  | .nop p ring idx => ringOk p ring && idx < 2 ^ 32
  | .stateRefresh p ring idx => ringOk p ring && idx < 2 ^ 32
  | .statePageUpdate _ => true
  | .viewReadGates ring idx => ringOk .phi ring && idx < 2 ^ 32
  | .viewReadShortfall ring idx => ringOk .phi ring && idx < 2 ^ 32
  | .heartbeatChange _ _ => true
  | .driverGone _ => true
  | .ledgerDoorbell _ => true
  | .functionLevelReset => true
  | .patrolRead pkg _ _ _ => pkg < 24
  | .resilverComplete pair => pair < 10
  | .pairRebuildComplete pair => pair < 10
  | .tideUnitDredgeDone => true
  | .recordReceive port _ f => portOk .phi port && f.data.length == 20
  | .ledgerReadbackDone => true
  | .anchorExpiry _ => true
  | .totalsPeriodClose => true
  | .totalsEmit => true
  | .ldrGo _ => true
  | .fwImageStarted => true
  | .trappedWrite _ _ data => data.length ≤ 8
  | .trappedRead _ _ _ => true
  | .trapReadTimeout => true
  | .fwWatchdog cores => cores.all (· < 8)
  | .fwRestartDone _ => true
  | .journalCheckpoint => true
  | .fwHandover ring idx _ => ringOk .phi ring && idx < 2 ^ 32
  | .handoverQuiescent => true
  | .quiesceTimeout => true
  | .thermHigh _ => true
  | .thermTrip _ => true
  | .supplyRange _ _ _ => true
  | .logFetch => true
  | .fwInfo => true
  | .transientRate p kind index => kindOk p kind && index < 2 ^ 24
  | .faultNoteReceive port _ _ => portOk .phi port
  | .engineStall p engine => engineOk p engine
  | .engineResetStepTimeout p engine _ _ => engineOk p engine
  | .engineResetDone p engine => engineOk p engine
  | .tsuWarmReset _ _ => true
  | .dieReset _ _ => true
  | .chipReset _ _ _ => true
  | .modulePowerOn => true
  | .dredgeDone _ => true
  | .portDrainComplete p port => portOk p port
  | .unitQuery p ring idx => ringOk p ring && idx < 2 ^ 32
  | .unitExpel p ring idx => ringOk p ring && idx < 2 ^ 32
  | .unitKeep p ring idx => ringOk p ring && idx < 2 ^ 32
  | .unitReturn p ring idx => ringOk p ring && idx < 2 ^ 32
  | .unitEngineReset p ring idx => ringOk p ring && idx < 2 ^ 32
  | .unitDisable p ring idx => ringOk p ring && idx < 2 ^ 32
  | .unitEnable p ring idx => ringOk p ring && idx < 2 ^ 32
  | .engineDigest msg => msg.length == 48
  | .stepDigestForm basin => basin < 4096
  | .counterLatch ring idx => ringOk .phi ring && idx < 2 ^ 32
  | .latchReceive p port _ _ => portOk p port
  | .latchApply _ _ => true
  | .latchNow => true
  | .wrapClr _ => true
  | .fltCntClr _ _ => true
  | .cfgLoad p ring idx _ => ringOk p ring && idx < 2 ^ 32
  | .lcChange p ring idx _ _ _ => ringOk p ring && idx < 2 ^ 32
  | .watchWrite region _ data => region < 16 && data.length ≤ 8
  | .ledgerRegWrite _ data => data.length ≤ 8
  | .dbNudge ring _ _ => ringOk .phi ring
  | .ledgerNudge _ => true
  | .inputUndervoltage _ => true
  | .inputOvervoltage _ => true
  | .inputRecovery _ => true
  | .presentPinBreak => true
  | .presentPinMate => true
  | .smbusStatus _ _ => true
  | .smbusVinMv _ _ => true
  | .smbusIinMa _ _ => true
  | .smbusPinDw _ _ => true
  | .smbusTemps _ _ _ _ _ => true
  | .smbusConvertersOff _ _ => true
  | .smbusConvertersOn _ _ => true
  | .smbusClearFaults _ _ => true
  | .smbusModuleId _ => true
  | .slewComplete _ => true
  | .blockLockAfterTurn p port => portOk p port
  | .managementPortFault => true
  | .ppsOutEdge => true
  | .tamperClose => true
  | .thermHighClear _ => true
  | .relayedClosedReceive port _ f => portOk .phi port && f.data.length == 24

end Sys2Proof
end

