-- ==== Sys2Proof/Tests/Slice0.lean ====
section
/-!
SUPPORT. The model's own tests: for each statement a state and operands that meet the hypotheses of each of its clauses, the worked
examples of the spec, and an ill-formed command for each check of WellFormed.
-/

namespace Sys2Proof.Tests

set_option Elab.async false

open Sys2Proof.Machine

/-- The Phidor's configuration bytes: number 7 of tier 1, uplink 512, dies 0 to 100, ports 0 to 7 and 512 to 519. -/
def phiImg : List Byte :=
  splice (splice phiResetImage 16 [0, 1, 7, 0, 0, 2, 0xFF, 0xFF, 0, 0, 100, 0, 0xFF]) 92 [0xFF]

/-- A port that is `UP`. -/
def upPort (ch : Nat) : Port := { lstate := .up, channel := ch, blockLock := true, headersOk := true }

/-- A TSU in service at HT 5 s. -/
def tsuUp : PartCore :=
  { time := { acc := BitVec.ofNat 112 (5000000000 * 2 ^ 48), state := .locked, everLocked := true },
    ports := [(0, upPort 0), (1, upPort 1)], clk := { running := true },
    cfg := { image := tsuResetImage, inForce := some [], startStep := 5 } }

/-- A Phidor in service at HT 5 s. -/
def phiUp : PartCore :=
  { time := { acc := BitVec.ofNat 112 (5000000000 * 2 ^ 48), state := .locked, everLocked := true },
    ports := [(0, upPort 0), (1, upPort 1), (512, upPort 0), (513, upPort 1)],
    cfg := { image := phiImg, inForce := some [], startStep := 3 } }

/-- Both parts in service, firmware running, the meter section started. -/
def base : State :=
  { State.reset with tsu := tsuUp, phi := phiUp, hub := { fw := { state := .running } }, meter := { down := false } }

/-- The Phidor is a lighthouse of tier 3 with sister port 513, and the master. -/
def lh : State := { base with phi.cfg.image := splice phiImg 16 [2, 3, 7, 0, 0xFF, 0xFF, 1, 2] }

/-- A descriptor with index 0. -/
def mk (op : Byte) (payload : List Byte) : Desc := ⟨0, [op, 0, 0, 0] ++ zeros 12 ++ padTo 48 payload, false, 0, false, true⟩

/-- Ring 3 holds one fetched descriptor. -/
def withD (s : State) (p : Part) (d : Desc) : State :=
  s.updRing p 3 fun _ => { entry := { sizeLog2 := 6, en := true }, rstate := .enabled, inflight := [d], fetched := 1, prod := 1 }

/-- Changes a part's time. -/
def wt (s : State) (p : Part) (f : TimeSt → TimeSt) : State := s.updTime p f

/-- An envelope of plane A. -/
def env (seq : Byte) : Env := ⟨0, false, false, seq, 0, 0, 0⟩

/-- Forty head bytes completed to a frame with good check bits. -/
def sealFrame (head : List Byte) : List Byte :=
  let body := head ++ leBytes 5 (bpar head) ++ zeros 1
  body ++ leOf 2 (crc16 body)

/-- A plain frame. -/
def frame (pl : Payload) (seq : Byte) : Frame := ⟨0, false, false, seq, 0, 0, 0, pl⟩

/-- An exchange of the child that waits for its answer. -/
def exch0 : Exchange :=
  { xid := 4, swap := false, startNs := 4999990000, t1 := some 100, t2 := none, t3 := none, t4 := none, t4Acc := 0, t4Cycles := 0,
    t4Rate := 0, fu := none, rxError := false }

/-- An envelope of plane A for basin 3, generation 1. -/
def envB : Env := ⟨0, false, false, 0, 0, 3, 1⟩

/-- The TSU holds basin 3 in generation 1, in which step 5 has been strobed. -/
def withB (s : State) : State := { s with die.basins := [(3, { gen := 1, joinStep := 0, strobed := [(5, 4999000000)] })] }

/-- Every region holds accepted values. -/
def withR (s : State) : State := { s with die.spine.regions := (List.range 16).map fun i => (i, { calOk := true, stepFs := 5000 }) }

/-- A launch of step 5 of basin 3 at an instant, on core 7. -/
def lau (l : W64) (ph : LPhase) : Launch :=
  { basin := 3, gen := 1, step := 5, bell := l.setWidth 32, lNs := l, entry := 2, coreset := 4, mask := 0x80, ring := false,
    kernel := 9, arg := 8, committed := true, checked := false, phase := ph, aborted := false }

/-- A launch payload for step 5. -/
def lpl (bell : W32) : LaunchPl := ⟨5, bell, 2, 0, 1, false, 0, 1, 4⟩

/-- Calibration results of a region that are accepted whatever its fuses say. -/
def calGood (r : Nat) : RegionCal :=
  { region := r, mean0 := Config.retFuse r + Config.strobeFuse r, mean128 := Config.retFuse r + Config.strobeFuse r + 640000,
    mean255 := Config.retFuse r + Config.strobeFuse r + 1275000, meanTap := Config.retFuse r + Config.spineFuse r, sigma0 := 0,
    sigma128 := 0, sigma255 := 0, sigmaTap := 0 }

/-- A weighbridge request: sum of 3 FP32 elements of step 5 of basin 3, operation 7. -/
def wbReq : List Byte := [1, 1, 3, 0, 3, 0, 1, 0, 5, 0, 0, 0, 0, 0, 7, 0] ++ zeros 48

/-- An open weighbridge operation of the TSU. -/
def wbo : WbOp := wbRequest wbReq (zeros 12) 4999000000 0

/-- A weighbridge payload. -/
def wpl (chunk : W16) (fmt : Byte) (data : List Byte) : WbPl := ⟨7 + 5 * 256, chunk, fmt, false, false, false, false, padTo 24 data⟩

/-- A sequencer of basin 3, generation 1, with entry 0 given. -/
def sq (e : List Byte) (st : BState) : Seq :=
  { gen := 1, k := 10, onAbort := true, retryMax := 3, annLeadUs := 10, waitUs := 100, leadTimeoutUs := 20, entries := 4,
    table := [(0, padTo 32 e)], members := [1, 2], ever := [1, 2], state := st, role := .leader, firstStep := 1 }

/-- The Phidor sequences basin 3, with dies 1 and 2 below ports 0 and 1. -/
def withQ (s : State) (q : Seq) : State :=
  { s with hub.seqs := [(3, q)], hub.paths := [⟨3, 1, [⟨1, 0, 0, none⟩, ⟨2, 1, 0, none⟩]⟩], hub.lastGen := [(3, 1)] }

/-- Dies 1 and 2 of basin 3 are below ports 0 and 1 of a Phidor that does not sequence it. -/
def withP (s : State) : State := { s with hub.paths := [⟨3, 1, [⟨1, 0, 0, none⟩, ⟨2, 1, 0, none⟩]⟩] }

/-- A snapshot. -/
def snap0 : Snap := ⟨0, List.replicate 8 0, List.replicate 16 {}, [], [], [1, 2], false, 0, 0, 0⟩

/-- An issued step. -/
def iss (l : W64) : Issued := ⟨1, l, 1024, 0, [1, 2], snap0, false, false, false, false, [], none, [], 0, 0, .none, false, []⟩

/-- An operation context that the sequencing Phidor has opened: sum of 3 FP32 elements. -/
def opx : OpCtx := { basin := 3, gen := 1, opid := 7 + 5 * 256, fmt := 0x11, opened := true, step := 5, len := 3, ranks := [1, 2] }

/-- The meter section is the master and measures, with unit gains. -/
def mtr : State :=
  { base with meter := { down := false, strapMaster := true, params := [(1, 16777216), (2, 0), (3, 16777216), (4, 0)] } }

/-- An ADC frame with the two codes 5 and 7. -/
def adc57 : List Byte := [5, 0, 0, 7, 0, 0, 0] ++ [crc8 [5, 0, 0, 7, 0, 0, 0]]

/-- An interval that has ended. -/
def ended1 : Ended := ⟨4, 4000000000, 4100000000, 4100000000, 100000, 9, 1, 8, 0, 0, 0, 2, 3, []⟩

/-- A gate payload. -/
def gpl (use count : W32) : GatePl := ⟨2, use, count, 5000200000, 1, false⟩

/-- The bytes of a transfer of one record: meter 5, `FIRST` and `RSEQ` 3. -/
def xfer : List Byte :=
  leBytes 4 0x4D424C4B ++ [1] ++ zeros 11 ++ leBytes 8 5 ++ leBytes 8 3 ++ [1, 0] ++ zeros 198 ++ leBytes 8 3 ++ zeros 120

/-- A reliable record frame's payload. -/
def rpl (chunk : W16) (last : Bool) : RecordPl := ⟨3, chunk, last, []⟩

/-- A unit of a kind in a state. -/
def un (k i : Nat) (st : UState) : UnitSt := { kind := k, index := i, state := st }

/-- Ring 3 is in a state with an entry. -/
def ringIs (s : State) (p : Part) (r : Ring) : State := s.updRing p 3 fun _ => r

/-- The first 32 bytes of the header of an image with a body of 4,096 bytes. -/
def fwFixed : List Byte := leBytes 4 0x46424D48 ++ [1] ++ zeros 7 ++ leBytes 4 4096 ++ zeros 16

/-- A header with a digest and no signature. -/
def fwHeader (digest : List Byte) : List Byte := fwFixed ++ (digest ++ zeros 64)

/-- A firmware image with a body of 4,096 zero bytes. -/
def fwImg : List Byte := fwHeader (sha256 (zeros 4096)) ++ zeros 4096

/-- A configuration block made of the configuration bytes of an image. -/
def cfgBlock (p : Part) (img : List Byte) : List Byte :=
  let n := match p with | .tsu => 128 | .phi => 256
  let body := leBytes 4 0x54484346 ++ ([1, match p with | .tsu => 0 | .phi => 1] : List Byte) ++ leBytes 2 n ++ leBytes 4 9 ++ zeros 4
    ++ (img.drop 16).take (n - 20)
  body ++ leOf 4 (crc32c body)

/-- A part without a configuration that takes a descriptor. -/
def uncfg : State := { base with tsu.cfg.inForce := none, tsu.cfg.startStep := 4, phi.cfg.inForce := none }

/-- The engines 1 of both parts are in a reset step since HT 1 s. -/
def engIn (n : Nat) : State :=
  { base with tsu.engines := [(1, { step := n, stepNs := 1000000000 })], phi.engines := [(1, { step := n, stepNs := 1000000000 })] }

/-- A handover that waits. -/
def hand (stopped : Bool) : State :=
  { withD base .phi { mk 0x42 [] with started := true } with
    hub.fw.state := .handover, hub.fw.handover := some ⟨3, 0, [1], 1000000000, 100, stopped⟩, hub.fw.retained := some [2] }

/-- A ring entry. -/
def rent : RingEntry := { descBase := 0x10000, cplBase := 0x23000, dbAddr := 0x4040, sizeLog2 := 6, en := true, irqEn := true, vector := 63, holdoffUs := 500 }

/-- The header and body of `fwImg` are accepted in `FACTORY`, where no signature is asked for (R343, R417). -/
theorem fwImg_ok : imageOk 0 4224 fwImg = true := by
  have hfix : fwFixed.length = 32 := by decide
  have hl : ∀ d : List Byte, d.length = 32 → (fwHeader d).length = 128 := fun d h => by
    simp [fwHeader, h, zeros, hfix]
  have hd := sha256_length (zeros 4096)
  have hb : slice fwImg 128 4096 = zeros 4096 := by
    have := slice_mid (b := []) (hl _ hd) (List.length_replicate (n := 4096) (a := (0 : Byte)))
    rwa [List.append_nil] at this
  have hp : padTo 128 fwImg = fwHeader (sha256 (zeros 4096)) := slice_front (hl _ hd)
  have hs : slice (fwHeader (sha256 (zeros 4096))) 32 32 = sha256 (zeros 4096) := slice_mid hfix hd
  have hf : ∀ d : List Byte, field (fwHeader d) 0 4 = 0x46424D48 ∧ field (fwHeader d) 4 1 = 1 ∧ field (fwHeader d) 12 4 = 4096
      ∧ field (fwHeader d) 20 4 = 0 := fun d => by
    have ht : ∀ off n, off + n ≤ 32 → slice (fwHeader d) off n = slice (fwHeader []) off n := fun off n h => by
      unfold slice fwHeader
      rw [List.drop_append_of_le_length (by simp [hfix]; omega), List.drop_append_of_le_length (by simp [hfix]; omega),
        List.take_append_of_le_length (by simp [hfix]; omega), List.take_append_of_le_length (by simp [hfix]; omega)]
    simp only [field, ht 0 4 (by omega), ht 4 1 (by omega), ht 12 4 (by omega), ht 20 4 (by omega)]
    decide +kernel
  obtain ⟨h0, h1, h2, h3⟩ := hf (sha256 (zeros 4096))
  unfold imageOk
  simp only [hp, h0, h1, h2, h3, hb, hs, beq_self_eq_true]
  rfl

/-- The results of `calGood` are accepted whatever the fuses say (R102, R103). -/
theorem calGood_ok (k : Nat) : calAccept (calGood k) = true := by
  unfold calAccept calValues calGood
  dsimp only
  generalize Config.retFuse k = r
  generalize Config.strobeFuse k = t
  generalize Config.spineFuse k = u
  have h : ((r + t + 1275000 : Int) - (r + t)).tdiv 255 = 5000 := by
    rw [show (r + t + 1275000 : Int) - (r + t) = 5000 * 255 by omega]; rfl
  simp [h]
  omega

/-- Blocks as a lane carries them after the 58 bits before them. -/
def wire (before : BitVec 58) : List Block66 → List Block66
  | [] => []
  | b :: bs => (b.1, scramble before b.2) :: wire ((scramble before b.2).extractLsb' 6 58) bs

/-- The blocks of a frame's bytes as a lane carries them. -/
def onWire (bytes : List Byte) : List Block66 := wire 5 (frameBlocks bytes)

/-- A measurement in `INTERVAL` mode of two samples, from stop 0 to stop 1. -/
def meas0 : Meas :=
  { ring := 3, idx := 0, mode := 0, m := 1, gate := 1, prescale := 0, startIn := 0, stopIn := 1, timeoutUs := 100, addr := 64, startNs := 0,
    t0Ns := 0, samples := [], stale := false, figures := none }

/-- A raw edge at an instant. -/
def edgeAt (ns : Nat) : RawEdge := ⟨BitVec.ofNat 112 (ns * 2 ^ 48), 8 * 2 ^ 48, 0, 0⟩

/-- The start edges of two samples. -/
def starts2 : List RawEdge := [edgeAt 1000, edgeAt 2000]

/-- The edges after them. -/
def ends2 : List (List RawEdge) := [[edgeAt 1100], [edgeAt 2110]]

/-- A state in which channel M17 of the TSU runs that measurement. -/
def measuring : State := (withD base .tsu (mk 0x06 [])).updChan .tsu 33 fun c => { c with meas := some meas0 }

/-- What the measurement takes of samples. -/
def reduced (n : Nat) : List Int × Bool × Bool × W64 := measuring.measSamples .tsu 33 meas0 n (edgesOf starts2 ends2)

/-- The watch of region 3 runs. -/
def watching : State := { base with die.spine.watches := [(3, { en := true, running := true, curM := 1 })] }

/-- What it takes of samples. -/
def watched : List Int × Bool × Bool × W64 := (watching.chan .tsu 19).reduce (watching.tdcRecalS .tsu) (fun _ => 1) true 2 (watching.ns .tsu) (edgesOf starts2 ends2)

/-- A state in which every channel of the TSU has its first tables and constants and nothing keeps the fast logic running. -/
def idling : State :=
  { base with
    tsu.clk.idleSince := some 5, tsu.time.acc := BitVec.ofNat 112 (5000010000 * 2 ^ 48)
    tsu.tdc.chans := ([0, 1, 2].map fun i => (i, { cores := (List.range 3).map fun k => (k, { state := 1 }) }))
      ++ (List.range 18).map fun i => (i + 16, { tables := (List.range 9).map fun k => (k, { state := 1 }) }) }

/-- A return is over 2^62 ns after its start, whatever it takes. -/
theorem returns_end (p : Part) (r : UnitReturn) : (r.takesNs p : Int) ≤ 2 ^ 62 := by
  unfold UnitReturn.takesNs
  omega

/-- The check value of CRC-32C: the digits 1 to 9 (R402). -/
theorem test_crc32c : crc32c [0x31, 0x32, 0x33, 0x34, 0x35, 0x36, 0x37, 0x38, 0x39] = 0xE3069283 := by decide +kernel

/-- The example of R21: 0x0000_0080 received at 0x0000_0012_FFFF_FF00. -/
theorem test_stamp : expandStamp 0x12FFFFFF00 0x80 = 0x1300000080 := by decide +kernel

/-- A property of the state that a result answers, false of a stop. -/
def next? (r : Result) (f : State → Bool) : Bool :=
  match r with
  | .next t => f t
  | _ => false

/-- A core waits for 1 on a tally that stands at a value: whether the wait completes. -/
def waitCompletes (v : W32) : Bool :=
  next? (Machine.exec (.tallyWait 0 0 3 1 0) { base with die.sync.tallies := [(3, { value := v })] }) fun t =>
    (tabGet {} t.die.sync.tallies 3).lastWait == 1 && t.die.sync.waiters.isEmpty

/-- The example of R187: a wait for 1 goes on while the tally stands at 0xFFFF_FFFE, and completes when it stands at 1. -/
theorem test_tally_wait : waitCompletes 0xFFFFFFFE = false ∧ waitCompletes 1 = true := by decide +kernel

/-- The worked example of R78 and R80: the first two bins of a run, and the third. -/
theorem test_bins : (densityTable ([58982, 72090, 65536] ++ List.replicate 13 65536) 0 0).1.centre.take 3 = [461, 1485, 2560] := by
  decide +kernel

/-- The worked example of order independence (R235, R236): 2^24, 1 and -2^24 in `FP32`, and the first two alone. -/
theorem test_weighbridge_sum :
    (mergeAll ([0x4B800000, 0x3F800000, 0xCB800000].map (accOf 2))).result 2 = ⟨0x3F800000, false, false⟩
      ∧ (mergeAll ([0xCB800000, 0x3F800000, 0x4B800000].map (accOf 2))).result 2 = ⟨0x3F800000, false, false⟩
      ∧ (mergeAll ([0x4B800000, 0x3F800000].map (accOf 2))).result 2 = ⟨0x4B800000, true, false⟩ := by decide +kernel

/-- The worked example of `MANIFEST` (R238): expert 0 of five members. -/
theorem test_manifest : manifestElem [3, 2, 0, 7, 1] = ([0, 3, 5, 5, 12], 13) := by decide +kernel

/-- The worked example of one meter interval (R264 to R267): the shares of berths 0, 41 and 1,203. -/
theorem test_shares :
    ((mtr.allocate ⟨4, 5100273664, 5234491392, 5234491392, 134218, 288568115200, 0, 0, 0, 0, 3, 100, 1024,
        [(0, ⟨4, 580, [⟨41, 60000, 0, 0, [], 0⟩, ⟨1203, 25999, 0, 0, [], 0⟩]⟩)]⟩).meter.openRecs.map
      fun r => (field r 40 4, field r 64 8, field r 72 8, field r 80 8))
    = [(0, 14001, 100000, 40402421810), (41, 60000, 100000, 173140869120), (1203, 25999, 100000, 75024824270)] := by
  decide +kernel

/-- The worked example of TSU ring 5 (chapter 16): the two words that hold its size, its interrupt and its hold-off. -/
theorem test_ring_words :
    ringEntryOf (zeros 24 ++ leBytes 4 0x00050306 ++ leBytes 4 0x32)
      = { sizeLog2 := 6, en := true, irqEn := true, vector := 5, holdoffUs := 50 } := by decide +kernel

/-- The sample of the meter's fragment (R256): what an ADC frame's bytes say, and a frame whose check byte is wrong. -/
theorem test_adc : adcCodes adc57 = some (5, 7) ∧ adcCodes (adc57.take 7 ++ [0]) = none := by decide +kernel

/-- A frame's 48 bytes pass the blocks of R42 and the scrambler of R39 and come back. -/
theorem test_blocks :
    (onWire (sealFrame ([1, 4] ++ zeros 38))).length = 7 ∧ rxBad 5 (onWire (sealFrame ([1, 4] ++ zeros 38))) = 0
      ∧ rxBytes 5 (onWire (sealFrame ([1, 4] ++ zeros 38))) = sealFrame ([1, 4] ++ zeros 38) := by decide +kernel

/-- The step of R102 is truncated to whole fs before it is compared (R4). -/
theorem test_step_truncated :
    (calValues { calGood 0 with mean0 := 0, mean255 := 255 * 5500 + 100 }).2.2 = 5500 := by decide +kernel

/-- Every check of WellFormed refuses its ill-formed command. -/
theorem test_ill_formed :
    ([
    .beaconLoss .tsu 2,
    .beaconLoss .phi 528,
    .timeInfoSend 528,
    .beaconReqSend .tsu 0 3,
    .nop .tsu 64 0,
    .nop .phi 4096 0,
    .nop .tsu 0 4294967296,
    .tdcRecalTimer .tsu 34,
    .tdcConversionDone .tsu 0 9 0 0 false,
    .codeDensityRunComplete .tsu 0 [],
    .vernierCalComplete .tsu 0 0 [],
    .crossingSlip 16,
    .coreHtRead 0 192,
    .spineCalRunComplete [calGood 16],
    .memberList 0 0 [65536],
    .tideNop 4096,
    .slotDoneWrite 0 4,
    .flagSet 0 8 0,
    .flagSet 0 0 9216,
    .flagWait 0 0 0 true 4294967296,
    .dgArrive 0 0 256,
    .gateReleaseBell 1024,
    .syncWaitTimeout 2304,
    .gateContextFree 0 65536 0,
    .followerReleaseTimer 0 4096,
    .remoteSignal [] 0,
    .pendTimeout 256,
    .wbSubmit none [] [],
    .wbDataReceive 0 (env 0) { wpl 0 0 [] with data := [] } none,
    .intervalTableHandoff 8 none,
    .ringEntryStage .tsu 0 0 (zeros 9),
    .pollRound [(4096, 0, 0)] 0 0 false,
    .descriptorFetch .tsu [some []],
    .descriptorFetch .tsu (List.replicate 17 none),
    .patrolRead 24 false false false,
    .resilverComplete 10,
    .recordReceive 0 (env 0) (rpl 0 true),
    .fwWatchdog [8],
    .commandTimeout .phi 0 0 (some 8),
    .transientRate .tsu 10 0,
    .transientRate .tsu 0 16777216,
    .engineStall .tsu 6,
    .engineStall .phi 8,
    .engineDigest [],
    .watchWrite 16 0 []] : List Instr).all (fun c => !c.wellFormed) = true := by decide +kernel

/-- Commands at the last number that each check takes are well formed. -/
theorem test_well_formed :
    ([.beaconLoss .tsu 1, .beaconLoss .phi 527, .nop .tsu 63 4294967295, .nop .phi 4095 0, .tdcRecalTimer .phi 580, .crossingSlip 15,
      .coreHtRead 15 191, .tideNop 4095, .slotDoneWrite 191 3, .flagSet 191 7 9215, .dgArrive 0 0 255, .gateReleaseBell 1023,
      .syncWaitTimeout 2303, .pendTimeout 255, .patrolRead 23 false false false, .resilverComplete 9, .engineStall .tsu 5, .engineStall .phi 7,
      .watchWrite 15 0 (zeros 8)] : List Instr).all Instr.wellFormed = true := by decide +kernel

/-- Each hypothesis of `TimePowerOnAndFault` is met. -/
theorem witness_TimePowerOnAndFault :
    (∃ (s : State) (p : Part), ((s.part p).time.refClk = true))
    ∧ (∃ (s : State) (p : Part), ((s.part p).time.parityGood = true)) :=
  ⟨⟨base, .tsu, by decide +kernel⟩,
   ⟨base, .tsu, by decide +kernel⟩⟩

/-- Each hypothesis of `TimeStateChanges` is met. -/
theorem witness_TimeStateChanges :
    (∃ (s : State) (p : Part), ((s.part p).time.state = .holdover ∧ (s.ns p - (s.part p).time.holdoverNs).toInt ≥ 100000000))
    ∧ (∃ (s : State) (p : Part), ((s.part p).time.holding = true ∧ (s.part p).time.holdLeft = 0))
    ∧ (∃ (s : State) (p : Part), ((s.part p).time.slewAdj ≠ 0 ∧ (s.part p).time.slewLeft = 0))
    ∧ (∃ (s : State), (s.revert = true) ∧ (s.tsu.time.state = .locked) ∧ (s.tsu.time.planeSel ≠ s.planePref) ∧ (s.standbyConditions = true) ∧ (heldFor
      s.tsu.time.ns s.tsu.time.standbySince 1000000000 = true))
    ∧ (∃ (s : State) (p : Part) (port : Nat), (s.exchPort p port = true) ∧ ((s.port p port).valid = true) ∧ ((s.port p port).lstate ≠ .up)) :=
  ⟨⟨wt base .tsu (fun t => { t with state := .holdover, holdoverNs := 1 }), .tsu, by decide +kernel⟩,
   ⟨wt base .tsu (fun t => { t with holding := true }), .tsu, by decide +kernel⟩,
   ⟨wt base .tsu (fun t => { t with slewAdj := 7 }), .tsu, by decide +kernel⟩,
   ⟨(wt base .tsu (fun t => { t with planeSel := 1, standbySince := some 0 })).updPort .tsu 0 (fun q => { q with valid := true, formed := true }),
    by decide +kernel⟩,
   ⟨(base.updPort .tsu 1 fun q => { q with valid := true, lstate := .cal }), .tsu, 1, by decide +kernel⟩⟩

/-- Each hypothesis of `TimeLoadAndEpoch` is met. -/
theorem witness_TimeLoadAndEpoch :
    (∃ (s : State), (s.writeLost 0x0348 = false))
    ∧ (∃ (s : State), (s.writeLost 0x0348 = true))
    ∧ (∃ (s : State), (s.reaches .tsu 0x0300 4))
    ∧ (∃ (s : State), (s.reaches .phi 0x1100 4))
    ∧ (∃ (s : State) (ring : Nat) (idx : Nat) (d : Desc), (s.ready .phi ring idx 0x03 d) ∧ (d.plBit 12 0 = false) ∧ (d.pl 8 4 ≤ 999999999) ∧ (s.master =
      true) ∧ (s.phi.time.state = .free) ∧ (s.hub.lh.refValid = false))
    ∧ (∃ (s : State) (ring : Nat) (idx : Nat) (d : Desc), (s.ready .phi ring idx 0x03 d) ∧ (d.plBit 12 0 = true) ∧ (s.lighthouse = true)) :=
  ⟨⟨wt base .tsu (fun t => { t with state := .free }), by decide +kernel⟩,
   ⟨{ base with tsu.cycs.dredged := some (0, 2) }, by decide +kernel⟩,
   ⟨base, by unfold State.reaches; decide +kernel⟩,
   ⟨base, by unfold State.reaches; decide +kernel⟩,
   ⟨withD (wt lh .phi fun t => { t with state := .free }) .phi (mk 0x03 (leBytes 8 77 ++ leBytes 4 999999999)), 3, 0, mk 0x03 (leBytes 8 77 ++ leBytes 4
    999999999), by unfold State.ready; decide +kernel⟩,
   ⟨withD lh .phi (mk 0x03 (zeros 12 ++ [1])), 3, 0, mk 0x03 (zeros 12 ++ [1]), by unfold State.ready; decide +kernel⟩⟩

/-- Each hypothesis of `LighthouseSources` is met. -/
theorem witness_LighthouseSources :
    (∃ (s : State) (e : Epoch) (h : Ht80), (s.lighthouse = true) ∧ (s.phi.time.state = .free) ∧ ((s.port .phi s.sister).lstate ≠ .up) ∧
      (s.hub.storage.epoch = some e) ∧ (s.hub.lh.refValid = false) ∧ (s.hub.storage.savedHt = some h))
    ∧ (∃ (s : State), (s.lighthouse = true ∧ s.phi.time.trace = .holdover
        ∧ (s.ns .phi - s.hub.lh.traceLostNs).toInt ≥ 1000000000 * (s.traceWindowS
      : Int)))
    ∧ (∃ (s : State), (s.lighthouse = true) ∧ (s.master = true) ∧ (s.phi.time.trace = .traceable))
    ∧ (∃ (s : State), (s.lighthouse = true) ∧ (s.master = true) ∧ (s.hub.lh.ptpGood = true) ∧ (s.phi.time.state = .locked))
    ∧ (∃ (s : State), (s.lighthouse = true ∧ s.phi.time.state = .locked
        ∧ (s.hub.storage.savedHt = none ∨ (s.ns .phi - s.hub.storage.savedNs).toInt
      ≥ 1000000000)))
    ∧ (∃ (s : State), (s.lighthouse = true ∧ s.hub.lh.ptpPort = 0)) :=
  ⟨⟨{ wt lh .phi (fun t => { t with state := .free }) with hub.storage.epoch := some ⟨5, 6⟩, hub.storage.savedHt := some 9, phi.ports := [] }, ⟨5, 6⟩, 9,
    by decide +kernel⟩,
   ⟨wt lh .phi fun t => { t with trace := .holdover, acc := BitVec.ofNat 112 (4000000000000 * 2 ^ 48) }, by decide +kernel⟩,
   ⟨wt lh .phi fun t => { t with trace := .traceable }, by decide +kernel⟩,
   ⟨{ lh with hub.lh.ptpSlave := true, hub.lh.ptpTimeTraceable := true, hub.lh.ptpFreqTraceable := true, hub.lh.ptpAgree := true }, by decide +kernel⟩,
   ⟨lh, by decide +kernel⟩,
   ⟨lh, by decide +kernel⟩⟩

/-- Each hypothesis of `LighthouseReference` is met. -/
theorem witness_LighthouseReference :
    (∃ (s : State) (chan : Nat) (core : Nat) (c : Nat) (n : Nat), (s.lighthouse = true) ∧ (isVernier .phi chan = true) ∧ (s.fastRuns .phi = true) ∧
      (s.armedIdle .phi chan core = true) ∧ (vernierGood c n = true) ∧ (((s.chan .phi chan).core core).state ≠ 0))
    ∧ (∃ (s : State) (stamp : Int) (ptp : Int) (label : Int), (s.hub.lh.edge = some stamp) ∧ (ptp = s.hub.lh.ptpSecond.toNat * 65536000000000 + (stamp -
      s.hub.lh.ptpStamp.toNat)) ∧ (label * 65536000000000 ≤ ptp + 32768000000000) ∧ (ptp + 32768000000000 < (label + 1) * 65536000000000) ∧
      (s.hub.lh.lostCyc ≠ some s.cyc))
    ∧ (∃ (s : State) (stamp : Int) (ptp : Int) (label : Int), (s.hub.lh.edge = some stamp) ∧ (ptp = s.hub.lh.ptpSecond.toNat * 65536000000000 + (stamp -
      s.hub.lh.ptpStamp.toNat)) ∧ (label * 65536000000000 ≤ ptp + 32768000000000) ∧ (ptp + 32768000000000 < (label + 1) * 65536000000000) ∧
      (s.hub.lh.lostCyc = some s.cyc))
    ∧ (∃ (s : State), (s.lighthouse = true) ∧ (s.master = false) ∧ (s.hub.lh.ppsNew = true) ∧ ((s.port .phi s.sister).lstate = .up) ∧ ((s.port .phi
      s.sister).admin = .enabled) ∧ (s.phi.configured = true) ∧ (s.phi.cfg.lcState ≠ 4))
    ∧ (∃ (s : State) (port : Nat) (m : PtpMsg) (slave : Bool) (tt : Bool) (ft : Bool) (utc : W16) (l61 : Bool) (l59 : Bool), (s.master = true) ∧ (port =
      s.hub.lh.ptpPort) ∧ (port < 2) ∧ (m.domain = s.ptpDomain) ∧ (m.udp = s.ptpUdp) ∧ (m.multicast = true) ∧ (m.body = .announce slave tt ft utc l61
      l59))
    ∧ (∃ (s : State), (s.master = true) ∧ (s.phi.time.leap61 = true) ∧ (((taiOf s.phi.time.epoch (s.ht .phi) / 65536000000000 : Nat) -
      s.phi.time.taiUtcS.toInt) % 86400 = 1))
    ∧ (∃ (s : State) (above : Nat), (above = taiOf s.phi.time.epoch (s.ht .phi) % 65536000000000) ∧ ((s.phi.time.state = .locked ∨ s.phi.time.state =
      .holdover) ∧ (above : Int) * 2 ^ 32 < s.phi.time.inc)) :=
  ⟨⟨(lh.updChan .phi 560 fun c => { c with cores := [(1, { state := 1 })] }), 560, 1, 5, 9, by decide +kernel⟩,
   ⟨{ lh with hub.lh.edge := some (5000000000 * 65536), hub.lh.ptpSecond := 100, hub.lh.ptpStamp := BitVec.ofNat 80 (5000000000 * 65536) }, 5000000000 *
    65536, 100 * 65536000000000, 100, by decide +kernel⟩,
   ⟨{ lh with hub.lh.edge := some (5000000000 * 65536), hub.lh.ptpSecond := 100, hub.lh.ptpStamp := BitVec.ofNat 80 (5000000000 * 65536), hub.lh.lostCyc := some 0 },
    5000000000 * 65536, 100 * 65536000000000, 100, by decide +kernel⟩,
   ⟨{ wt lh .phi (fun t => { t with masterPlane := 1 }) with hub.lh.ppsKnown := true, hub.lh.ppsNew := true }, by decide +kernel⟩,
   ⟨lh, 0, ⟨lh.ptpDomain, lh.ptpUdp, true, .announce true true true 37 true false⟩, true, true, true, 37, true, false, by decide +kernel⟩,
   ⟨wt lh .phi fun t => { t with leap61 := true, epoch := ⟨86396, 0⟩ }, by decide +kernel⟩,
   ⟨lh, 0, by decide +kernel⟩⟩

/-- Each hypothesis of `LinkTraining` is met. -/
theorem witness_LinkTraining :
    (∃ (s : State) (p : Part) (port : Nat), ((s.portExists p port = true ∨ s.tailPorts p port ≠ []) ∧ s.portsTrain p = true ∧ s.clusterShut p port =
      false
        ∧ (s.port p port).lstate = .down ∧ (s.port p port).admin = .enabled ∧ (s.port p port).cableFault = false
        ∧ (s.port p
      port).linkFailed = false))
    ∧ (∃ (s : State) (p : Part) (port : Nat), ((s.port p port).lstate = .signal))
    ∧ (∃ (s : State) (p : Part) (port : Nat), ((s.port p port).lstate = .blockLock))
    ∧ (∃ (s : State) (p : Part) (port : Nat), ((s.port p port).lstate = .down ∧ (s.port p port).linkFailed = true
        ∧ (s.ns p - (s.port p
      port).retryNs).toInt ≥ 10000000000))
    ∧ (∃ (s : State) (p : Part) (port : Nat), ((s.port p port).waitLock = true))
    ∧ (∃ (s : State) (p : Part) (port : Nat), ((s.port p port).lstate = .ident) ∧ ((s.port p port).identSentNs = none ∨ ∃ x, (s.port p port).identSentNs =
      some x ∧ (s.ns p - x).toInt ≥ 10000) ∧ (s.maySend p (.linkIdent (s.identOf p port)) = true) ∧ ((s.port p port).waitLock = false))
    ∧ (∃ (s : State) (p : Part) (port : Nat) (e : Env) (f : IdentPl), (port < 528) ∧ ((s.port p port).lstate = .ident) ∧ (e.plane = s.expectedPlane p port)
      ∧ (s.topologyOk p port f = true) ∧ ((s.rxCount p port e).dieTwice p port f = false))
    ∧ (∃ (s : State) (tail : Nat) (port : Nat) (e : Env) (f : IdentPl), (528 ≤ tail) ∧ (s.identPort .phi tail f = some port) ∧ (port < 528) ∧ ((s.port .phi
      tail).lstate = .ident) ∧ (e.plane = s.expectedPlane .phi port) ∧ (s.topologyOk .phi port f = true) ∧ (s.dieTwice .phi port f = false) ∧ ((s.port
      .phi tail).identHeld = some f)) :=
  ⟨⟨(base.updPort .tsu 0 fun q => { q with lstate := .down }), .tsu, 0, by decide +kernel⟩,
   ⟨(base.updPort .tsu 0 fun q => { q with lstate := .signal }), .tsu, 0, by decide +kernel⟩,
   ⟨(base.updPort .tsu 0 fun q => { q with lstate := .blockLock }), .tsu, 0, by decide +kernel⟩,
   ⟨(base.updPort .tsu 0 fun q => { q with lstate := .down, linkFailed := true, retryNs := 5000000000 - 10000000000 }), .tsu, 0, by decide +kernel⟩,
   ⟨(base.updPort .tsu 0 fun q => { q with waitLock := true }), .tsu, 0, by decide +kernel⟩,
   ⟨(base.updPort .tsu 0 fun q => { q with lstate := .ident }), .tsu, 0, by decide +kernel⟩,
   ⟨(base.updPort .tsu 0 fun q => { q with lstate := .ident }), .tsu, 0, env 0, ⟨true, 1, 7, 3, 0, 9⟩, by decide +kernel⟩,
   ⟨(({ base with phi.units := [⟨0, 16, .freeSpare, 0, 0, 0, false⟩] }.updPort .phi 528 fun q =>
    { q with lstate := .ident, identHeld := some ⟨false, 0, 7, 1, 0, 9⟩ }).updPort .phi 3 fun q =>
    { q with lstate := .down, cableFault := true, lastPeer := some ⟨false, 0, 7, 1, 0, 9⟩ }), 528, 3, env 0, ⟨false, 0, 7, 1, 0, 9⟩,
    by decide +kernel⟩⟩

/-- Each hypothesis of `LinkErrors` is met. -/
theorem witness_LinkErrors :
    (∃ (s : State) (p : Part) (port : Nat), ((s.port p port).lstate = .signal) ∧ ((s.ns p - (s.port p port).entryNs).toInt ≥ 1000000) ∧ ((s.port p
      port).fails < 2) ∧ ((s.port p port).valid = false))
    ∧ (∃ (s : State) (p : Part) (port : Nat), ((s.port p port).lstate = .up) ∧ ((s.port p port).waitLock = false) ∧ ((s.port p port).lossNs = none) ∧
      ((s.port p port).valid = false))
    ∧ (∃ (s : State) (p : Part) (port : Nat) (b : BitVec 58) (l : List Block66), ((s.port p port).receives = true) ∧ (0 < rxBad b l))
    ∧ (∃ (s : State) (p : Part) (port : Nat) (b : BitVec 58) (l : List Block66), ((s.port p port).receives = true) ∧ (rxBad b l = 0) ∧ (checkFrame (rxBytes
      b l) = .unknown))
    ∧ (∃ (s : State) (p : Part) (port : Nat) (b : BitVec 58) (l : List Block66), ((s.port p port).receives = true) ∧ (rxBad b l = 0) ∧ (checkFrame (rxBytes
      b l) = .wrongRel))
    ∧ (∃ (s : State) (p : Part) (port : Nat) (b : BitVec 58) (l : List Block66), ((s.port p port).receives = true) ∧ (rxBad b l = 0) ∧ (checkFrame (rxBytes
      b l) = .corrupt) ∧ ((s.port p port).rxRetry = false) ∧ ((s.port p port).beaconFail = false) ∧ (p = .tsu → (byteAt (rxBytes b l) 0).toNat % 64 ≠
      0x11) ∧ (s.maySend p (.linkCtrl { code := 2, arg := (s.port p port).rxNext }) = true)) :=
  ⟨⟨(base.updPort .tsu 0 fun q => { q with lstate := .signal }), .tsu, 0, by decide +kernel⟩,
   ⟨base, .tsu, 0, by decide +kernel⟩,
   ⟨base, .tsu, 0, 5, [(0, 7), (1, 7)], by decide +kernel⟩,
   ⟨base, .tsu, 0, 5, onWire (sealFrame ([63] ++ zeros 39)), by decide +kernel⟩,
   ⟨base, .tsu, 0, 5, onWire (sealFrame ([1, 4] ++ zeros 38)), by decide +kernel⟩,
   ⟨base, .tsu, 0, 5, onWire ([0, 4] ++ zeros 46), by decide +kernel⟩⟩

/-- Each hypothesis of `LinkRetry` is met. -/
theorem witness_LinkRetry :
    (∃ (s : State) (p : Part) (port : Nat), ((s.port p port).receives = true))
    ∧ (∃ (s : State) (p : Part) (port : Nat) (e : Env) (arg : Byte) (x : Sent), ((s.port p port).receives = true) ∧ (ackReplay e.lack (s.port p port).replay
      = [x]) ∧ (x.frame.lseq = arg) ∧ (x.retx = false))
    ∧ (∃ (s : State) (p : Part) (port : Nat) (x : W64), ((s.port p port).ackOwed = some x) ∧ ((s.ns p - x).toInt ≥ 1000) ∧ ((s.port p port).waitLock =
      false) ∧ (s.maySend p (.linkCtrl { code := 1, arg := 0 }) = true))
    ∧ (∃ (s : State) (p : Part) (port : Nat) (x : Sent) (l : List Sent), ((s.port p port).replay = x :: l) ∧ ((s.ns p - x.sentNs).toInt ≥ 4000) ∧ (∀ y ∈ x
      :: l, y.retx = false) ∧ ((s.port p port).waitLock = false)) :=
  ⟨⟨base, .tsu, 0, by decide +kernel⟩,
   ⟨(base.updPort .tsu 0 fun q => { q with replay := [⟨frame (.latch ⟨0, 1⟩) 9, 5, false⟩] }), .tsu, 0, env 0, 9, ⟨frame (.latch ⟨0, 1⟩) 9, 5, false⟩,
    by decide +kernel⟩,
   ⟨(base.updPort .tsu 0 fun q => { q with ackOwed := some 5 }), .tsu, 0, 5, by decide +kernel⟩,
   ⟨(base.updPort .tsu 0 fun q => { q with replay := [⟨frame (.latch ⟨0, 1⟩) 9, 5, false⟩] }), .tsu, 0, ⟨frame (.latch ⟨0, 1⟩) 9, 5, false⟩, [],
    by decide +kernel⟩⟩

/-- Each hypothesis of `LaneTransmission` is met. -/
theorem witness_LaneTransmission :
    ∃ (s : State) (p : Part) (port : Nat) (i : Nat) (cls : Nat) (f : Frame), ((s.port p port).lstate = .up) ∧ ((s.port p port).waitLock = false) ∧
    (s.pickFrame p port = some (i, cls)) ∧ ((s.port p port).queue[i]? = some f) :=
  ⟨(base.updPort .tsu 0 fun q => { q with queue := [frame (.latch ⟨0, 1⟩) 0] }), .tsu, 0, 0, 2, frame (.latch ⟨0, 1⟩) 0, by decide +kernel⟩

/-- Each hypothesis of `BeaconExchange` is met. -/
theorem witness_BeaconExchange :
    (∃ (s : State) (p : Part) (port : Nat), (s.exchPort p port = true) ∧ ((s.port p port).exchanges = true) ∧ ((s.port p port).exch = none) ∧
      (s.readyBefore p (s.ns p - BitVec.ofNat 64 ((s.ns p - BitVec.ofNat 64 (beaconPhase p port (s.portExp p port))).toNat % 2 ^ s.portExp p port)) =
      true) ∧ ((s.part p).configured = true) ∧ ((s.part p).cfg.lcState ≠ 4) ∧ ((s.ns p - BitVec.ofNat 64 (beaconPhase p port (s.portExp p
      port))).toNat % 2 ^ s.portExp p port < 16) ∧ ((s.port p port).xid = 0))
    ∧ (∃ (s : State) (p : Part) (port : Nat), ((s.port p port).exchanges = true) ∧ (s.parentPort p port = true) ∧ ((s.port p port).beaconFail = false))
    ∧ (∃ (s : State) (p : Part) (port : Nat) (a : Answer), ((s.port p port).answer = some a) ∧ (a.sentNs = none) ∧ ((s.port p port).exchanges = true) ∧
      ((s.ns p - a.recvNs).toInt ≥ 1000) ∧ ((s.ns p - a.recvNs).toInt ≤ 2000) ∧ ((s.part p).configured = true) ∧ ((s.part p).cfg.lcState ≠ 4))
    ∧ (∃ (s : State) (p : Part) (port : Nat) (f : RespPl) (x : Exchange), ((s.port p port).exchanges = true) ∧ (s.measureShut p = false) ∧ ((s.port p
      port).exch = some x) ∧ (x.xid = f.xid) ∧ (x.swap = f.swap))
    ∧ (∃ (s : State) (p : Part) (port : Nat) (a : Answer) (x : W64) (v2 : Ht80) (v3 : Ht80), ((s.port p port).answer = some a) ∧ (a.sentNs = some x) ∧
      (a.failed = false) ∧ (a.t2 = some v2) ∧ (a.t3 = some v3) ∧ ((s.ns p - x).toInt ≤ 8000) ∧ ((s.port p port).exchanges = true) ∧ ((s.part
      p).configured = true) ∧ ((s.part p).cfg.lcState ≠ 4))
    ∧ (∃ (s : State) (p : Part) (port : Nat) (f : FuPl) (x : Exchange), ((s.port p port).exchanges = true) ∧ (s.exchPort p port = true) ∧ (s.measureShut p =
      false) ∧ ((s.port p port).exch = some x) ∧ (x.xid = f.xid) ∧ (x.swap = f.swap) ∧ (x.t4 = none) ∧ (f.pstate = 2 ∨ f.pstate = 3 ∨ (s.port p
      port).valid = false))
    ∧ (∃ (s : State) (p : Part) (port : Nat) (x : Exchange), ((s.port p port).exch = some x) ∧ ((s.ns p - x.startNs).toInt ≥ 16000) ∧ ((s.port p
      port).beaconFail = false)) :=
  ⟨⟨wt base .tsu (fun t => { t with acc := BitVec.ofNat 112 (65536 * 80000 * 2 ^ 48) }), .tsu, 0, by decide +kernel⟩,
   ⟨base, .phi, 1, by decide +kernel⟩,
   ⟨(base.updPort .phi 1 fun q => { q with answer := some ⟨4, false, 4999998500, none, none, none, false⟩ }), .phi, 1, ⟨4, false, 4999998500, none, none,
    none, false⟩, by decide +kernel⟩,
   ⟨(base.updPort .tsu 0 fun q => { q with exch := some exch0 }), .tsu, 0, ⟨4, false⟩, exch0, by decide +kernel⟩,
   ⟨(base.updPort .phi 1 fun q => { q with answer := some ⟨4, false, 4999998500, some 4999999000, some 7, some 9, false⟩ }), .phi, 1, ⟨4, false,
    4999998500, some 4999999000, some 7, some 9, false⟩, 4999999000, 7, 9, by decide +kernel⟩,
   ⟨(base.updPort .tsu 0 fun q => { q with exch := some exch0 }), .tsu, 0, ⟨4, false, true, 2, 7, 9, 1⟩, exch0, by decide +kernel⟩,
   ⟨(base.updPort .tsu 0 fun q => { q with exch := some { exch0 with startNs := 4999980000 } }), .tsu, 0, { exch0 with startNs := 4999980000 },
    by decide +kernel⟩⟩

/-- Each hypothesis of `BeaconTheta` is met. -/
theorem witness_BeaconTheta :
    ∃ (s : State) (p : Part) (port : Nat) (f : FuPl) (x : Exchange) (t1 : Ht80) (t4 : Ht80) (cal : Calib), ((s.port p port).exchanges = true) ∧
    (s.exchPort p port = true) ∧ (s.measureShut p = false) ∧ ((s.port p port).exch = some x) ∧ ((s.port p port).beaconFail = false) ∧ (x.xid = f.xid)
    ∧ (x.swap = f.swap) ∧ (x.t1 = some t1) ∧ (x.t4 = some t4) ∧ (f.valid = true) ∧ (f.pstate = 2 ∨ f.pstate = 3) ∧ (x.swap = false) ∧ ((s.port p
    port).calib = some cal) ∧ (cal.cur = []) ∧ (cal.quads < 1024) :=
  ⟨(base.updPort .tsu 0 fun q => { q with exch := some { exch0 with t4 := some 900 }, calib := some ⟨3, [], 0, 0, 1, true, false, false⟩ }), .tsu, 0,
    ⟨4, false, true, 2, 70, 90, 1⟩, { exch0 with t4 := some 900 }, 100, 900, ⟨3, [], 0, 0, 1, true, false, false⟩, by decide +kernel⟩

/-- Each hypothesis of `AsymmetryCalibration` is met. -/
theorem witness_AsymmetryCalibration :
    (∃ (s : State) (p : Part) (port : Nat), (s.childPort p port = true) ∧ ((s.port p port).lstate = .cal) ∧ ((s.port p port).calib = none) ∧ (s.calibFree
      p port = true))
    ∧ (∃ (s : State) (p : Part) (port : Nat) (b : Bool), (s.childPort p port = true) ∧ ((s.port p port).calib.isSome = true) ∧ ((s.port p port).waitLock =
      false) ∧ ((s.port p port).exch = none) ∧ ((s.port p port).swapped ≠ b) ∧ ((s.part p).configured = true) ∧ ((s.part p).cfg.lcState ≠ 4))
    ∧ (∃ (s : State) (p : Part) (port : Nat), (s.childPort p port = true) ∧ ((s.port p port).exchanges = true) ∧ ((s.port p port).calib = none) ∧ ((s.port p
      port).calRun = true) ∧ ((s.part p).configured = true) ∧ ((s.part p).cfg.lcState ≠ 4))
    ∧ (∃ (s : State) (p : Part) (port : Nat) (c : Calib), ((s.port p port).calib = some c) ∧ (c.quads = 1024) ∧ (c.attempt = 1) ∧ ((1024 * c.sumSq - c.sumA
      * c.sumA) * 1000000 ≤ (8 * 65536 * 1024) * (8 * 65536 * 1024)) ∧ ((c.sumA.tdiv 1024).natAbs ≤ 65536) ∧ (tabGet? (s.port p port).asymBy
      (s.portChan p port) = none) ∧ ((s.port p port).lstate = .up) ∧ ((s.port p port).recalRing = none))
    ∧ (∃ (s : State) (port : Nat), (port < 2) ∧ (s.asymRecalS ≠ 0) ∧ ((s.port .tsu port).lstate = .up) ∧ ((s.port .tsu port).calib = none) ∧ ((s.port .tsu
      port).waitLock = false) ∧ ((s.ns .tsu - (s.port .tsu port).asymNs).toInt ≥ 1000000000 * (s.asymRecalS : Int)) ∧ ((s.port .tsu (otherPort
      port)).lstate = .up) ∧ ((s.port .tsu (otherPort port)).calib = none))
    ∧ (∃ (s : State) (p : Part) (ring : Nat) (idx : Nat) (port : Nat) (d : Desc), (s.ready p ring idx 0x04 d) ∧ (d.pl 0 2 = port) ∧ ((p = .tsu ∧ port < 2 ∧
      (s.port .tsu (otherPort port)).lstate = .up) ∨ (p = .phi ∧ 512 ≤ port ∧ port < 528)) ∧ (s.childPort p port = true) ∧ ((s.port p port).lstate =
      .up) ∧ ((s.port p port).calib = none) ∧ (s.calibFree p port = true) ∧ (s.measureShut p = false))
    ∧ (∃ (s : State) (ring : Nat) (idx : Nat) (d : Desc), (s.ready .tsu ring idx 0x04 d) ∧ (s.measureShut .tsu = true) ∧ ((s.engine .tsu 4).heldItems.length
      < 64)) :=
  ⟨⟨(base.updPort .tsu 0 fun q => { q with lstate := .cal }), .tsu, 0, by decide +kernel⟩,
   ⟨(base.updPort .tsu 0 fun q => { q with calib := some ⟨3, [], 0, 0, 1, true, false, false⟩ }), .tsu, 0, true, by decide +kernel⟩,
   ⟨(base.updPort .tsu 0 fun q => { q with swapped := true, calRun := true }), .tsu, 0, by decide +kernel⟩,
   ⟨(base.updPort .tsu 0 fun q => { q with calib := some ⟨1024, [], 2048, 4096, 1, true, false, false⟩ }), .tsu, 0, ⟨1024, [], 2048, 4096, 1, true,
    false, false⟩, by decide +kernel⟩,
   ⟨wt base .tsu (fun t => { t with acc := BitVec.ofNat 112 (800000000000 * 2 ^ 48) }), 0, by decide +kernel⟩,
   ⟨withD base .tsu (mk 0x04 [1, 0]), .tsu, 3, 0, 1, mk 0x04 [1, 0], by unfold State.ready; decide +kernel⟩,
   ⟨{ withD base .tsu (mk 0x04 [1, 0]) with tsu.engines := [(4, { step := 1 })] }, 3, 0, mk 0x04 [1, 0], by unfold State.ready; decide +kernel⟩⟩

/-- Each hypothesis of `TimeInfoAndMaster` is met. -/
theorem witness_TimeInfoAndMaster :
    (∃ (s : State) (port : Nat), ((s.port .phi port).lstate = .up) ∧ ((s.port .phi port).admin = .enabled) ∧ (s.towards .phi port = false) ∧ ((s.port .phi
      port).infoLast ≠ some (s.infoOf 0)) ∧ (s.phi.configured = true) ∧ (s.phi.cfg.lcState ≠ 4))
    ∧ (∃ (s : State) (port : Nat) (e : Env), ((s.port .tsu port).lstate = .up) ∧ ((s.port .tsu port).waitLock = false) ∧ (e.lseq = (s.port .tsu
      port).rxNext) ∧ (e.retx = false) ∧ (port = s.tsu.time.planeSel.toNat))
    ∧ (∃ (s : State) (ring : Nat) (idx : Nat) (d : Desc), (s.ready .phi ring idx 0x05 d) ∧ (s.lighthouse = true) ∧ (s.master = false) ∧ (bit1 (d.plBit 0 0)
      = s.phiPlane)) :=
  ⟨⟨base, 1, by decide +kernel⟩,
   ⟨base, 0, env 0, by decide +kernel⟩,
   ⟨withD (wt lh .phi fun t => { t with masterPlane := 1 }) .phi (mk 0x05 [0]), 3, 0, mk 0x05 [0], by unfold State.ready; decide +kernel⟩⟩

/-- Each hypothesis of `TdcChannels` is met. -/
theorem witness_TdcChannels :
    (∃ (s : State) (p : Part) (chan : Nat) (input : Nat) (a : Nat) (b : Nat) (port : Nat) (cv : Conv) (an : Answer), ((s.chan p chan).convs.find? (fun x
      => x.input == input) = some cv) ∧ (isVernier p chan = false) ∧ (cv.use = .t2 port) ∧ (cv.cyc + 2 ≤ s.cyc) ∧ (a < 32) ∧ (b < 16) ∧ (cv.tabState ≠
      0) ∧ ((s.port p port).answer = some an))
    ∧ (∃ (s : State) (p : Part) (chan : Nat) (hs : List (List Nat)), (chanExists p chan = true) ∧ (isVernier p chan = false) ∧ (s.fastRuns p = true) ∧
      (hs.length = 9) ∧ ((s.chan p chan).calRun = true) ∧ ((s.chan p chan).altSource = false) ∧ ((s.chan p chan).attempt = 0) ∧ ((s.part
      p).tdc.srcFailed.contains (s.sourceOf p chan) = false) ∧ (∀ h ∈ hs, (densityTable h (nb (s.sourceOf p chan != ownSource p chan)) (s.ns p)).2 =
      true ∧ (densityTable h (nb (s.sourceOf p chan != ownSource p chan)) (s.ns p)).1.dnlMax < 7812))
    ∧ (∃ (s : State) (p : Part) (chan : Nat) (core : Nat) (sums : List Nat), (chanExists p chan = true) ∧ (isVernier p chan = true) ∧ (s.fastRuns p = true)
      ∧ (core < 3) ∧ (sums.length = 4) ∧ (core ≠ ((s.chan p chan).rotateDue s.cyc).calCore) ∧ (((s.chan p chan).core core).state = 0) ∧ (((s.chan p
      chan).core core).attempt = 0) ∧ (2192 * 2 ^ 32 ≤ (vernierFit sums).1 * 10000000) ∧ ((vernierFit sums).1 * 10000000 ≤ 2692 * 2 ^ 32) ∧
      ((vernierFit sums).2.2 * 1000 ≤ 2 ^ 32) ∧ ((((vernierFit sums).1 * 1000000000).tdiv (2 ^ 32) - 244200).natAbs < 12000))
    ∧ (∃ (s : State) (p : Part) (chan : Nat), (chanExists p chan = true) ∧ (isVernier p chan = false) ∧ (s.tdcRecalS p ≠ 0) ∧ ((s.chan p chan).calRun =
      false) ∧ (s.noSource p chan = false) ∧ ((s.ns p - (s.chan p chan).schedNs).toInt ≥ 1000000000 * (s.tdcRecalS p : Int)))
    ∧ (∃ (s : State) (p : Part) (ring : Nat) (idx : Nat) (ch : Nat) (mode : Nat) (d : Desc) (c : Instr), (s.ready p ring idx 0x06 d) ∧ (d.pl 0 2 = ch) ∧
      (d.plBits 2 1 0 3 = mode) ∧ (s.measureShut p = false) ∧ (measureBad p d = false) ∧ (s.measureUnsupported p ch mode = false) ∧ ((mode == 1 && p
      == .tsu && 16 ≤ ch && ch < 32 && s.watchOn (ch - 16)) = false) ∧ ((s.chan p ch).meas = none) ∧ ((s.chan p ch).failed = false) ∧ (outOfUse
      (s.unit p (chanKind p ch) ch).state = false) ∧ (mode = 3 → isVernier p ch = false → s.noSource p ch = false) ∧ ((mode = 0 ∧ c =
      .tdcMeasureInterval p ring idx) ∨ (mode = 1 ∧ c = .tdcMeasureFrequency p ring idx) ∨ (mode = 2 ∧ c = .tdcMeasureBeacon p ring idx) ∨ (mode = 3 ∧
      c = .tdcMeasureCodeDensity p ring idx)))
    ∧ (∃ (s : State) (p : Part) (chan : Nat) (starts : List RawEdge) (ends : List (List RawEdge)) (m : Meas) (d : Desc) (g : List Int) (above : Bool) (stale
      : Bool) (t0 : W64), ((s.chan p chan).meas = some m) ∧ (m.mode ≠ 3) ∧ (s.measSamples p chan m (2 ^ m.m) (edgesOf starts ends) = (g, above, stale,
      t0)) ∧ (g.length = 2 ^ m.m) ∧ (s.measEdges p chan m (edgesOf starts ends) = true) ∧ (s.desc? p m.ring m.idx = some d))
    ∧ (∃ (s : State) (p : Part) (chan : Nat) (m : Meas) (d : Desc) (a : Int) (b : Int) (lo : Int) (hi : Int) (k : Nat), ((s.chan p chan).meas = some m) ∧
      (m.mode = 3) ∧ (m.figures = some (a, b, lo, hi, k)) ∧ (s.desc? p m.ring m.idx = some d))
    ∧ (∃ (s : State) (p : Part) (chan : Nat) (starts : List RawEdge) (ends : List (List RawEdge)) (m : Meas) (d : Desc) (g : List Int) (above : Bool) (stale
      : Bool) (t0 : W64), ((s.chan p chan).meas = some m) ∧ ((s.ns p - m.startNs).toInt ≥ 1000 * (m.timeoutUs : Int)) ∧ (s.measSamples p chan m (2 ^
      m.m - 1) (edgesOf starts ends) = (g, above, stale, t0)) ∧ (s.measEdges p chan m (edgesOf starts ends) = true) ∧ (s.desc? p m.ring m.idx = some
      d))
    ∧ (∃ (s : State) (r : Nat) (ch : Nat) (starts : List RawEdge) (ends : List (List RawEdge)) (w : WatchSt) (g : List Int) (above : Bool) (stale : Bool)
      (t0 : W64), (r < 16) ∧ (s.tdcFor .tsu (16 + r) = some ch) ∧ (tabGet {} s.die.spine.watches r = w) ∧ (w.en = true) ∧ (w.running = true) ∧
      ((s.chan .tsu ch).reduce (s.tdcRecalS .tsu) (fun _ => 1) true (2 ^ w.curM) (s.ns .tsu) (edgesOf starts ends) = (g, above, stale, t0)) ∧
      (s.edgesReal .tsu ch (fun _ => 1) true w.curGate s.tsu.clk.runSinceNs (edgesOf starts ends) = true) ∧ (g.length = 2 ^ w.curM)) :=
  ⟨⟨(({ base with cyc := 9 }.updChan .phi 1 fun c => { c with convs := [⟨.t2 1, 5, 0, ⟨0, 0⟩, [], 1, 0, 0, false⟩] }).updPort .phi 1 fun q =>
    { q with answer := some ⟨4, false, 5, some 6, none, none, false⟩ }), .phi, 1, 5, 31, 15, 1, ⟨.t2 1, 5, 0, ⟨0, 0⟩, [], 1, 0, 0, false⟩, ⟨4, false,
    5, some 6, none, none, false⟩, by decide +kernel⟩,
   ⟨(base.updChan .tsu 16 fun c => { c with calRun := true }), .tsu, 16, List.replicate 9 (List.replicate 16 65536), by decide +kernel⟩,
   ⟨base, .tsu, 0, 1, [0, 262144, 524288, 786432], by decide +kernel⟩,
   ⟨wt base .tsu (fun t => { t with acc := BitVec.ofNat 112 (300000000000 * 2 ^ 48) }), .tsu, 16, by decide +kernel⟩,
   ⟨withD base .tsu (mk 0x06 [33, 0, 0, 3, 0x10, 0, 1, 0, 100, 0, 0, 0, 64]), .tsu, 3, 0, 33, 0, mk 0x06 [33, 0, 0, 3, 0x10, 0, 1, 0, 100, 0, 0, 0, 64],
    .tdcMeasureInterval .tsu 3 0, by unfold State.ready; decide +kernel⟩,
   ⟨measuring, .tsu, 33, starts2, ends2, meas0, mk 0x06 [], (reduced 2).1, (reduced 2).2.1, (reduced 2).2.2.1, (reduced 2).2.2.2, by decide +kernel⟩,
   ⟨measuring.updChan .tsu 33 (fun c => { c with meas := some { meas0 with mode := 3, figures := some (1, 2, 3, 4, 5) } }), .tsu, 33,
    { meas0 with mode := 3, figures := some (1, 2, 3, 4, 5) }, mk 0x06 [], 1, 2, 3, 4, 5, by decide +kernel⟩,
   ⟨measuring, .tsu, 33, starts2, ends2, meas0, mk 0x06 [], (reduced 1).1, (reduced 1).2.1, (reduced 1).2.2.1, (reduced 1).2.2.2, by decide +kernel⟩,
   ⟨watching, 3, 19, starts2, ends2, { en := true, running := true, curM := 1 }, watched.1, watched.2.1, watched.2.2.1, watched.2.2.2, by decide +kernel⟩⟩

/-- Each hypothesis of `FastLogic` is met. -/
theorem witness_FastLogic :
    (∃ (s : State), (s.tsu.clk.soscDead = false) ∧ (s.tsu.clk.running = false) ∧ (s.tsu.clk.starting = false) ∧ (s.tsu.clk.stopCyc ≠ some s.cyc))
    ∧ (∃ (s : State), (s.tsu.clk.soscDead = false) ∧ (s.tsu.clk.running = false) ∧ (s.tsu.clk.starting = false) ∧ (s.tsu.clk.stopCyc = some s.cyc))
    ∧ (∃ (s : State) (p : Part), ((s.part p).clk.starting = true))
    ∧ (∃ (s : State) (p : Part), ((s.part p).clk.starting = true) ∧ ((s.ns p - (s.part p).clk.startNs).toInt ≥ 2500) ∧ ((s.part p).clk.pllFails = 0))
    ∧ (∃ (s : State), (s.tsu.clk.running = true ∧ s.keepRunning = false
        ∧ ∃ x, s.tsu.clk.idleSince = some x ∧ (s.ns .tsu - x).toInt ≥ 1000 *
      (s.fastIdleUs : Int)))
    ∧ (∃ (s : State), (s.writeLost 0x0804 = false)) :=
  ⟨⟨{ base with tsu.clk.running := false }, by decide +kernel⟩,
   ⟨{ base with tsu.clk.running := false, tsu.clk.stopCyc := some 0 }, by decide +kernel⟩,
   ⟨{ base with tsu.clk.starting := true, tsu.clk.running := false }, .tsu, by decide +kernel⟩,
   ⟨{ base with tsu.clk.starting := true, tsu.clk.running := false }, .tsu, by decide +kernel⟩,
   ⟨idling, by decide +kernel, by decide +kernel, 5, rfl, by decide +kernel⟩,
   ⟨{ base with tsu.clk.running := false }, by decide +kernel⟩⟩

/-- Each hypothesis of `SpineAndRegions` is met. -/
theorem witness_SpineAndRegions :
    (∃ (s : State) (r : Nat), (r < 16) ∧ ((s.region r).parityAt = none))
    ∧ (∃ (s : State), (s.tsu.configured = true))
    ∧ (∃ (n : Nat), (n < 16))
    ∧ (∃ (s : State) (l : List RegionCal), (s.die.spine.calRun = true) ∧ (s.tsu.clk.running = true) ∧ (s.spineChanReady = true) ∧ (l.map (·.region) =
      List.range 16) ∧ (∀ c ∈ l, calAccept c = true) ∧ (∀ e ∈ s.die.spine.regions, e.2.calAttempt = 0) ∧ (s.calMayApply = true))
    ∧ (∃ (s : State), (s.spineRecalS ≠ 0 ∧ s.die.spine.calRun = false ∧ s.spineChan = true
        ∧ (s.ns .tsu - s.die.spine.calNs).toInt ≥ 1000000000 *
      (s.spineRecalS : Int)))
    ∧ (∃ (s : State) (r : Nat) (e : FifoEntry) (es : List FifoEntry), ((s.region r).fifo = e :: es) ∧ ((s.region r).off = false) ∧ (e.bell = none) ∧
      (e.edges = []) ∧ (e.slipped = false) ∧ ((s.region r).waiting = []))
    ∧ (∃ (s : State) (r : Nat) (e : FifoEntry) (l : W64), ((s.region r).fifo = [e]) ∧ ((s.region r).off = false) ∧ (e.bell = some l) ∧ (e.launch = true) ∧
      (e.edges = []) ∧ (e.wakes = []) ∧ (e.slipped = false) ∧ ((s.region r).waiting = []))
    ∧ (∃ (s : State) (r : Nat) (e : FifoEntry) (es : List FifoEntry), ((s.region r).fifo = e :: es) ∧ ((s.region r).off = false) ∧ (e.slipped = false) ∧
      (e.exempt = false) ∧ ((s.tsu.time.acc - e.wAcc).toInt ≥ (s.crossMarginNs : Int) * 2 ^ 48) ∧ ((s.region r).waiting = [])) :=
  ⟨⟨base, 15, by decide +kernel⟩,
   ⟨base, by decide +kernel⟩,
   ⟨15, by decide +kernel⟩,
   ⟨({ base with die.spine.calRun := true }.updChan .tsu 32 fun c => { c with tables := (List.range 9).map fun i => (i, { state := 1 }) }), (List.range
    16).map calGood, by decide +kernel, by decide +kernel, by decide +kernel, by decide +kernel,
    (by intro c h; obtain ⟨k, -, rfl⟩ := List.mem_map.mp h; exact calGood_ok k), by decide +kernel, by decide +kernel⟩,
   ⟨wt base .tsu (fun t => { t with acc := BitVec.ofNat 112 (300000000000 * 2 ^ 48) }), by decide +kernel⟩,
   ⟨{ base with die.spine.regions := [(3, { fifo := [⟨5, none, false, [], [⟨40, 1, 0, 9⟩], false, false⟩, ⟨6, none, false, [], [], false, false⟩] })] },
    3, ⟨5, none, false, [], [⟨40, 1, 0, 9⟩], false, false⟩, [⟨6, none, false, [], [], false, false⟩], by decide +kernel⟩,
   ⟨{ base with die.spine.regions := [(3, { fifo := [⟨5, some 7, true, [], [], false, false⟩] })] }, 3, ⟨5, some 7, true, [], [], false, false⟩, 7,
    by decide +kernel⟩,
   ⟨{ base with die.spine.regions := [(3, { fifo := [⟨5, some 7, true, [], [], false, false⟩] })] }, 3, ⟨5, some 7, true, [], [], false, false⟩, [],
    by decide +kernel⟩⟩

/-- Each hypothesis of `LaunchArming` is met. -/
theorem witness_LaunchArming :
    (∃ (s : State) (port : Nat) (b : Nat) (g : Nat) (e : Env) (f : LaunchPl) (l : W64) (a : Attach), (s.inOrder .tsu port e) ∧ (s.engineShut .tsu 2 =
      false) ∧ (e.basin.toNat = b) ∧ (e.gen.toNat = g) ∧ (s.tsu.inService = false) ∧ (s.holds b g = true) ∧ (s.tsu.time.expands = true) ∧ (expandStamp
      (s.ns .tsu) f.bell = l) ∧ (stampNear (s.ns .tsu) l = true) ∧ (s.fenced b l = false) ∧ (s.key? .tsu b g f.step 0 = none) ∧ (s.launchOk l = true)
      ∧ (s.regionsReady = true) ∧ (later (s.ns .tsu) (nsAdd l (-3000)) = false) ∧ (tabGet? s.die.attaches b = some a) ∧ (a.gen = g) ∧ (f.entry.toNat <
      a.rows))
    ∧ (∃ (s : State) (b : Nat) (step : StepNo) (row : List Byte) (x : Fetch) (cs : CoreSet), (s.fetch? b step = some x) ∧ (∀ y ∈ s.die.fetches, y.row =
      none) ∧ (s.rowWaits x = false) ∧ ((s.ns .tsu - x.recvNs).toInt ≤ 800) ∧ ((byteAt row 4).getLsbD 7 = true) ∧ (tabGet? s.die.coresets (field row 4
      1 % 64) = some cs) ∧ (cs.valid = true) ∧ (cs.owner = x.basin) ∧ ((coresOf cs.mask).all s.coreEnabled = true) ∧ (s.armedLaunches = []) ∧
      (((coresOf cs.mask).any fun c => (s.freeSlot c).isNone) = false))
    ∧ (∃ (s : State) (b : Nat) (step : StepNo) (x : Fetch), (s.fetch? b step = some x) ∧ (∀ y ∈ s.die.fetches, y.row = none) ∧ ((s.ns .tsu - x.recvNs).toInt
      ≥ 800))
    ∧ (∃ (s : State) (port : Nat) (b : Nat) (g : Nat) (e : Env) (f : LaunchPl) (x : Launch), (s.inOrder .tsu port e) ∧ (s.engineShut .tsu 2 = false) ∧
      (e.basin.toNat = b) ∧ (e.gen.toNat = g) ∧ (s.holds b g = true) ∧ (s.tsu.time.expands = true) ∧ (stampNear (s.ns .tsu) (expandStamp (s.ns .tsu)
      f.bell) = true) ∧ (s.key? .tsu b g f.step 1 = none) ∧ (s.armed? b g f.step = some x) ∧ (x.bell = f.bell) ∧ (x.checked = false) ∧ (later (s.ns
      .tsu) (nsAdd x.lNs (-2000)) = false))
    ∧ (∃ (s : State) (b : Nat) (step : StepNo) (l : Launch), (s.die.launches.find? (fun l => l.basin == b && l.step == step && l.phase == .armed) = some l)
      ∧ ((s.ns .tsu - nsAdd l.lNs (-2000)).toInt ≥ 0))
    ∧ (∃ (s : State) (b : Nat) (step : StepNo) (l : Launch), (s.die.launches.find? (fun l => l.basin == b && l.step == step && l.phase == .armed) = some l)
      ∧ ((s.ns .tsu - nsAdd l.lNs (-1000)).toInt ≥ 0) ∧ (s.tsu.clk.running = false ∨ s.tsu.clk.fast = false)) :=
  ⟨⟨{ withR (withB base) with die.attaches := [(3, ⟨1, 16, 64⟩)] }, 0, 3, 1, envB, lpl (BitVec.ofNat 32 5000010000), 5000010000, ⟨1, 16, 64⟩,
    by unfold State.inOrder; decide +kernel⟩,
   ⟨{ withB base with die.fetches := [⟨3, 1, 5, 0, 5000010000, 2, 4999999900, 0, 0, none⟩], die.coresets := [(4, ⟨0x80, 3, true, false⟩)] }, 3, 5, [9, 0,
    0, 0, 0x84] ++ zeros 27, ⟨3, 1, 5, 0, 5000010000, 2, 4999999900, 0, 0, none⟩, ⟨0x80, 3, true, false⟩, by decide +kernel⟩,
   ⟨{ withB base with die.fetches := [⟨3, 1, 5, 0, 5000010000, 2, 4999999000, 0, 0, none⟩] }, 3, 5, ⟨3, 1, 5, 0, 5000010000, 2, 4999999000, 0, 0, none⟩,
    by decide +kernel⟩,
   ⟨{ withB base with die.launches := [{ lau 5000010000 .armed with committed := false }] }, 0, 3, 1, envB, lpl (BitVec.ofNat 32 5000010000),
    { lau 5000010000 .armed with committed := false }, by unfold State.inOrder; decide +kernel⟩,
   ⟨{ withB base with die.launches := [lau 5000001000 .armed] }, 3, 5, lau 5000001000 .armed, by decide +kernel⟩,
   ⟨{ withB base with die.launches := [lau 5000000500 .armed] }, 3, 5, lau 5000000500 .armed, by decide +kernel⟩⟩

/-- Each hypothesis of `LaunchStrobe` is met. -/
theorem witness_LaunchStrobe :
    (∃ (s : State) (l : Launch), (s.die.launches = [l]) ∧ (l.phase = .armed) ∧ (l.committed = true) ∧ (l.mask ≠ 0) ∧ (s.launchOk l.lNs = true) ∧ ((s.ns
      .tsu - nsAdd l.lNs (-128)).toInt ≥ 0))
    ∧ (∃ (s : State) (r : Nat) (l : Launch), (s.die.launches = [l]) ∧ (l.phase = .decided) ∧ (r ∈ s.regionsOf l.mask) ∧ (s.die.sync.proxies = []) ∧
      (s.tsu.clk.fast = true) ∧ (s.tsu.configured = true) ∧ ((s.region r).fired ≠ some l.lNs) ∧ ((s.ns .tsu - nsAdd l.lNs (-((leadSplit (s.region
      r).strobeDlyFs (s.region r).stepFs).1 : Int))).toInt ≥ 0))
    ∧ (∃ (s : State) (core : Nat) (slot : Nat), (slot < 4) ∧ ((s.slot core slot).state = .started ∨ (s.slot core slot).state = .aborted))
    ∧ (∃ (s : State) (port : Nat) (e : Env) (f : LaunchPl) (x : BasinSt), (s.inOrder .tsu port e) ∧ (s.engineShut .tsu 2 = false) ∧ (s.basin? e.basin.toNat
      = some x) ∧ (x.gen = e.gen.toNat) ∧ (x.applied = []) ∧ (s.key? .tsu e.basin.toNat e.gen.toNat f.step 2 = none))
    ∧ (∃ (s : State) (b : Nat) (step : StepNo) (l : W64) (x : BasinSt), (s.basin? b = some x) ∧ ((step, l) ∈ x.strobed) ∧ ((s.ns .tsu - nsAdd l 20000).toInt
      ≥ 0) ∧ (step ∉ x.undone) ∧ (step ∉ x.committed)) :=
  ⟨⟨{ withB base with die.launches := [lau 5000000128 .armed] }, lau 5000000128 .armed, by decide +kernel⟩,
   ⟨{ withR (withB base) with die.launches := [lau 5000000000 .decided], tsu.clk.fast := true }, 0, lau 5000000000 .decided, by decide +kernel⟩,
   ⟨{ withB base with die.slots := [(28, { state := .started, basin := 3, gen := 1, step := 5 })] }, 7, 0, by decide +kernel⟩,
   ⟨{ withB base with die.launches := [lau 5000010000 .armed] }, 0, envB, lpl 0, { gen := 1, joinStep := 0, strobed := [(5, 4999000000)] },
    by unfold State.inOrder; decide +kernel⟩,
   ⟨withB base, 3, 5, 4999000000, { gen := 1, joinStep := 0, strobed := [(5, 4999000000)] }, by decide +kernel⟩⟩

/-- Each hypothesis of `LaunchTablesAndThrottling` is met. -/
theorem witness_LaunchTablesAndThrottling :
    (∃ (s : State) (ring : Nat) (idx : Nat) (b : Nat) (d : Desc), (s.ready .tsu ring idx 0x20 d) ∧ (d.pl 0 2 % 4096 = b) ∧ (s.tsu.inService = false) ∧
      (d.plBits 4 4 0 25 ≠ 0) ∧ (d.plBits 4 4 0 25 ≤ 16777216) ∧ (d.pl 8 8 % 64 = 0) ∧ (s.basin? b = none ∨ s.holds b (d.pl 2 2) = true) ∧ (s.purging
      b = false) ∧ ((s.armedLaunches.any fun l => l.basin == b) = false) ∧ ((s.die.slots.any fun e => e.2.basin == b && e.2.state != .empty) = false))
    ∧ (∃ (s : State) (ring : Nat) (idx : Nat) (i : Nat) (d : Desc), (s.ready .tsu ring idx 0x21 d) ∧ (d.plBits 0 1 0 6 = i) ∧ ((coresOf (BitVec.ofNat 192
      (d.pl 8 24))).all s.coreEnabled = true) ∧ ((s.die.launches.any fun l => l.coreset == i && (l.phase != .strobed || s.slotsOpen l)) = false))
    ∧ (∃ (s : State) (port : Nat) (e : Env) (f : MemberPl), (s.inOrder .tsu port e) ∧ (s.engineShut .tsu 2 = false) ∧ (f.die = s.dieNum) ∧ (f.action = 0) ∧
      (s.basin? e.basin.toNat = none) ∧ (s.tsu.inService = false))
    ∧ (∃ (s : State) (b : Nat) (x : BasinSt), (s.basin? b = some x) ∧ (x.purging = true))
    ∧ (∃ (s : State), (s.ringFlight = false) ∧ (s.ringBellDue = true))
    ∧ (∃ (s : State) (r : Nat) (q : SoftReq), (s.die.soft.find? (fun q => q.id == r) = some q) ∧ ((s.ns .tsu - q.sinceNs).toInt ≥ 1000 * (s.throttleDeferUs
      : Int))) :=
  ⟨⟨withD base .tsu (mk 0x20 [3, 0, 1, 0, 16, 0, 0, 0, 64]), 3, 0, 3, mk 0x20 [3, 0, 1, 0, 16, 0, 0, 0, 64], by unfold State.ready; decide +kernel⟩,
   ⟨withD (withB base) .tsu (mk 0x21 ([63, 0, 3, 0, 0, 0, 0, 0] ++ [0xFF])), 3, 0, 63, mk 0x21 ([63, 0, 3, 0, 0, 0, 0, 0] ++ [0xFF]),
    by unfold State.ready; decide +kernel⟩,
   ⟨base, 0, envB, ⟨0, 0, false, 9⟩, by unfold State.inOrder; decide +kernel⟩,
   ⟨{ base with die.basins := [(3, { gen := 1, joinStep := 0, purging := true })] }, 3, { gen := 1, joinStep := 0, purging := true }, by decide +kernel⟩,
   ⟨{ base with die.soft := [⟨4, 5⟩, ⟨6, 7⟩] }, by decide +kernel⟩,
   ⟨{ base with die.soft := [⟨4, 5⟩, ⟨6, 7⟩] }, 6, ⟨6, 7⟩, by decide +kernel⟩⟩

/-- Each hypothesis of `FlagRequests` is met. -/
theorem witness_FlagRequests :
    (∃ (s : State) (i : Nat), (s.portClosed 1 = false) ∧ (i < 9216) ∧ (s.coreEnabled (i / 48) = true) ∧ (s.die.sync.unloaded.contains (i / 48) = false) ∧
      (s.waitersOn [0x04] i = []))
    ∧ (∃ (s : State) (i : Nat), (s.portClosed 1 = false) ∧ (i < 9216) ∧ (s.coreEnabled (i / 48) = true) ∧ (s.die.sync.unloaded.contains (i / 48) = false) ∧
      ((s.flag i).setCyc ≠ some s.cyc))
    ∧ (∃ (s : State) (core : Nat) (i : Nat) (consume : _), (s.portClosed 1 = false) ∧ (i < 9216) ∧ (s.coreEnabled (i / 48) = true) ∧
      (s.die.sync.unloaded.contains (i / 48) = false) ∧ (core = i / 48) ∧ (consume = true → s.takers i = []))
    ∧ (∃ (s : State) (core : Nat) (i : Nat) (lim : _), (s.portClosed 1 = false) ∧ (i < 9216) ∧ (s.coreEnabled (i / 48) = true) ∧
      (s.die.sync.unloaded.contains (i / 48) = false) ∧ (core = i / 48) ∧ (lim ≤ 100000000) ∧ (s.takers i = [])) :=
  ⟨⟨base, 8447, by decide +kernel⟩,
   ⟨{ base with die.sync.flags := [(100, { value := true })] }, 100, by decide +kernel⟩,
   ⟨{ base with die.sync.flags := [(100, { value := true })] }, 2, 100, true, by decide +kernel⟩,
   ⟨{ base with die.sync.flags := [(100, { value := true })] }, 2, 100, 100000000, by decide +kernel⟩⟩

/-- Each hypothesis of `TallyRequests` is met. -/
theorem witness_TallyRequests :
    (∃ (s : State) (i : Nat) (n : W32), (s.portClosed 1 = false) ∧ (i < 3072) ∧ (s.coreEnabled (i / 16) = true) ∧ (s.die.sync.unloaded.contains (i / 16) =
      false) ∧ ((s.tally i).window = 0) ∧ (0 < n.toNat) ∧ (n.toNat ≤ 65535))
    ∧ (∃ (s : State) (core : Nat) (i : Nat), (s.portClosed 1 = false) ∧ (i < 3072) ∧ (s.coreEnabled (i / 16) = true) ∧ (s.die.sync.unloaded.contains (i /
      16) = false) ∧ ((s.tally i).window = 0) ∧ (core = i / 16))
    ∧ (∃ (s : State) (core : Nat) (i : Nat) (lim : Nat), (s.portClosed 1 = false) ∧ (i < 3072) ∧ (s.coreEnabled (i / 16) = true) ∧
      (s.die.sync.unloaded.contains (i / 16) = false) ∧ ((s.tally i).window = 0) ∧ (core = i / 16) ∧ (lim ≤ 100000000)) :=
  ⟨⟨base, 2815, 65535, by decide +kernel⟩,
   ⟨base, 7, 112, by decide +kernel⟩,
   ⟨base, 7, 112, 100, by decide +kernel⟩⟩

/-- Each hypothesis of `DieGateRequests` is met. -/
theorem witness_DieGateRequests :
    (∃ (s : State) (core : Nat) (g : Nat), (s.portClosed 1 = false) ∧ (g < 256) ∧ ((s.gate g).mask.getLsbD core = true) ∧ ((s.gate g).arrived.getLsbD core
      = false) ∧ (s.waitersOn [0x21, 0x22] g = []))
    ∧ (∃ (s : State) (core : Nat) (g : Nat) (lim : _), (s.portClosed 1 = false) ∧ (g < 256) ∧ (lim ≤ 100000000) ∧ ((s.gate g).mask.getLsbD core = true) ∧
      ((s.gate g).arrived.getLsbD core = false) ∧ (((s.gate g).arrived ||| 1#193 <<< core) &&& (s.gate g).mask ≠ (s.gate g).mask))
    ∧ (∃ (s : State) (g : Nat) (lim : Nat), (s.portClosed 1 = false) ∧ (g < 256) ∧ (lim ≤ 100000000)) :=
  ⟨⟨{ base with die.sync.gates := [(9, { mask := 0x80 })] }, 7, 9, by decide +kernel⟩,
   ⟨{ base with die.sync.gates := [(255, { mask := 0x180 })] }, 7, 255, 5, by decide +kernel⟩,
   ⟨base, 9, 100, by decide +kernel⟩⟩

/-- Each hypothesis of `ProxyRequests` is met. -/
theorem witness_ProxyRequests :
    (∃ (s : State) (core : Nat) (q : Nat) (lim : Nat), (s.portClosed 1 = false) ∧ (q < 1024) ∧ (lim ≤ 100000000) ∧ ((s.proxy q).bound = true) ∧ (s.purging
      (s.proxy q).basin = false) ∧ ((s.proxy q).mask.getLsbD core = true) ∧ ((s.proxy q).arrived.getLsbD core = false) ∧ (s.abortedSlot core (s.proxy
      q).basin = false))
    ∧ (∃ (s : State) (q : Nat) (lim : Nat), (s.portClosed 1 = false) ∧ (q < 1024) ∧ (lim ≤ 100000000) ∧ ((s.proxy q).bound = true) ∧ (s.purging (s.proxy
      q).basin = false)) :=
  ⟨⟨{ withB base with die.sync.proxies := [(1023, { bound := true, basin := 3, gen := 1, gate := 2, mask := 0x180 })] }, 7, 1023, 100, by decide +kernel⟩,
   ⟨{ withB base with die.sync.proxies := [(5, { bound := true, basin := 3, gen := 1, gate := 2, mask := 0x80 })] }, 5, 100, by decide +kernel⟩⟩

/-- Each hypothesis of `SyncTimeouts` is met. -/
theorem witness_SyncTimeouts :
    (∃ (s : State) (k : Nat) (x : Waiter), (tabGet? s.die.sync.waiters k = some x) ∧ (x.cmd = none) ∧ (x.sop ∈ [0x04, 0x12, 0x28, 0x29]) ∧ (x.timeoutUs ≠
      0) ∧ ((s.ns .tsu - x.startNs).toInt ≥ 1000 * (x.timeoutUs : Int)) ∧ (s.waitHolds k x = false))
    ∧ (∃ (s : State) (k : Nat) (x : Waiter), (tabGet? s.die.sync.waiters k = some x) ∧ (x.cmd = none) ∧ (x.sop = 0x21) ∧ ((s.gate x.index).timeoutUs ≠ 0) ∧
      (x.timeoutUs = 0) ∧ ((s.ns .tsu - x.startNs).toInt ≥ 1000 * ((s.gate x.index).timeoutUs : Int)))
    ∧ (∃ (s : State) (q : Nat) (x : W64), ((s.proxy q).sentNs = some x) ∧ ((s.ns .tsu - x).toInt ≥ 1000 * (((s.proxy q).timeoutUs + 100 : Nat) : Int)) ∧
      (s.waitersOn [0x28, 0x29] q = []))
    ∧ (∃ (s : State) (q : Nat), ((s.proxy q).heldFrame = true ∧ s.anyAbortWithin (s.proxy q).basin 60000 = false)) :=
  ⟨⟨{ base with die.sync.waiters := [(57, ⟨0x04, false, 100, 1, 10, 5, none⟩)] }, 57, ⟨0x04, false, 100, 1, 10, 5, none⟩, by decide +kernel⟩,
   ⟨{ base with die.sync.gates := [(9, { mask := 0x180, arrived := 0x80, timeoutUs := 10 })], die.sync.waiters := [(57, ⟨0x21, false, 9, 1, 0, 5, none⟩)] },
    57, ⟨0x21, false, 9, 1, 0, 5, none⟩, by decide +kernel⟩,
   ⟨{ withB base with die.sync.proxies := [(5, { bound := true, basin := 3, gen := 1, gate := 2, mask := 0x80, arrived := 0x80, sentNs := some 5, timeoutUs := 10 })] },
    5, 5, by decide +kernel⟩,
   ⟨{ withB base with die.sync.proxies := [(5, { bound := true, basin := 3, gen := 1, gate := 2, mask := 0x80, arrived := 0x80, heldFrame := true })] },
    5, by decide +kernel⟩⟩

/-- Each hypothesis of `GateConfiguration` is met. -/
theorem witness_GateConfiguration :
    (∃ (s : State) (ring : Nat) (idx : Nat) (g : Nat) (d : Desc), (s.ready .tsu ring idx 0x22 d) ∧ (d.pl 0 1 = g) ∧ (s.portClosed 1 = false) ∧ (d.pl 4 4 ≤
      100000000) ∧ (s.badMask (BitVec.ofNat 193 (d.pl 8 25)) = false) ∧ ((s.gate g).arrived = 0) ∧ (s.waitersOn [0x21, 0x22] g = []))
    ∧ (∃ (s : State) (ring : Nat) (idx : Nat) (q : Nat) (b : Nat) (d : Desc), (s.ready .tsu ring idx 0x23 d) ∧ (d.plBit 41 0 = false) ∧ (d.plBits 0 2 0 10 =
      q) ∧ (d.plBits 4 2 0 12 = b) ∧ (s.portClosed 1 = false) ∧ (d.pl 12 4 ≠ 0) ∧ (d.pl 12 4 ≤ 100000000) ∧ (s.badMask (BitVec.ofNat 193 (d.pl 16 25))
      = false) ∧ (s.basin? b = none ∨ s.holds b (d.pl 6 2) = true) ∧ (s.purging b = false) ∧ ((s.proxy q).bound = false) ∧ ((s.die.sync.proxies.any
      fun e => e.2.bound && e.2.basin == b && e.2.gate == d.plBits 2 2 0 12) = false))
    ∧ (∃ (s : State) (ring : Nat) (idx : Nat) (q : Nat) (d : Desc), (s.ready .tsu ring idx 0x23 d) ∧ (d.plBit 41 0 = true) ∧ (d.plBits 0 2 0 10 = q) ∧
      (s.portClosed 1 = false) ∧ (s.proxyBusy q = false)) :=
  ⟨⟨withD base .tsu (mk 0x22 ([9, 0, 0, 0, 100, 0, 0, 0, 0x80] ++ zeros 23 ++ [1])), 3, 0, 9, mk 0x22 ([9, 0, 0, 0, 100, 0, 0, 0, 0x80] ++ zeros 23 ++
    [1]), by unfold State.ready; decide +kernel⟩,
   ⟨withD (withB base) .tsu (mk 0x23 [5, 0, 2, 0, 3, 0, 1, 0, 0, 0, 0, 0, 100, 0, 0, 0, 0x80]), 3, 0, 5, 3, mk 0x23 [5, 0, 2, 0, 3, 0, 1, 0, 0, 0, 0, 0,
    100, 0, 0, 0, 0x80], by unfold State.ready; decide +kernel⟩,
   ⟨withD { withB base with die.sync.proxies := [(5, { bound := true, basin := 3, gen := 1, gate := 2, mask := 0x80 })] } .tsu (mk 0x23 ([5] ++ zeros 40
    ++ [1])), 3, 0, 5, mk 0x23 ([5] ++ zeros 40 ++ [1]), by unfold State.ready; decide +kernel⟩⟩

/-- Each hypothesis of `GateReleaseAtTsu` is met. -/
theorem witness_GateReleaseAtTsu :
    (∃ (s : State) (port : Nat) (q : Nat) (e : Env) (f : GatePl) (rb : W64), (s.inOrder .tsu port e) ∧ (s.engineShut .tsu 1 = false) ∧ (s.holds
      e.basin.toNat e.gen.toNat = true) ∧ (s.tsu.time.expands = true) ∧ (expandStamp (s.ns .tsu) f.relBell = rb) ∧ (stampNear (s.ns .tsu) rb = true) ∧
      (s.relKey? .tsu e.basin.toNat e.gen.toNat f.gate.toNat f.use = none) ∧ ((s.proxiesOf e.basin.toNat e.gen.toNat).filter (fun p => (s.proxy
      p).gate == f.gate.toNat) = [q]) ∧ (f.use = (s.proxy q).released + 1) ∧ (later (s.ns .tsu) (nsAdd rb (-128)) = false))
    ∧ (∃ (s : State) (q : Nat) (u : W32) (rb : W64), ((s.proxy q).pend = some (u, rb)) ∧ ((s.ns .tsu - rb).toInt ≥ 0) ∧ (s.waitersOn [0x28, 0x29] q = [])) :=
  ⟨⟨{ withB base with die.sync.proxies := [(5, { bound := true, basin := 3, gen := 1, gate := 2, mask := 0x80, arrived := 0x80 })] }, 0, 5, envB, ⟨2, 1,
    4, BitVec.ofNat 32 5000010000, 0, false⟩, 5000010000, by unfold State.inOrder; decide +kernel⟩,
   ⟨{ withB base with die.sync.proxies := [(5, { bound := true, basin := 3, gen := 1, gate := 2, mask := 0x80, arrived := 0x80, pend := some (1, 4999999999) })] },
    5, 1, 4999999999, by decide +kernel⟩⟩

/-- Each hypothesis of `RemoteSignals` is met. -/
theorem witness_RemoteSignals :
    (∃ (s : State) (ring : Nat) (idx : Nat) (i : Nat) (d : Desc), (s.ready .tsu ring idx 0x24 d) ∧ (d.pl 16 8 % 8 = 0) ∧ (d.pl 0 1 = 1) ∧ (d.pl 2 2 = i) ∧
      (d.pl 8 4 = 0) ∧ (s.portClosed 1 = false) ∧ (i < 9216) ∧ (s.coreEnabled (i / 48) = true) ∧ (s.die.sync.unloaded.contains (i / 48) = false) ∧
      (s.waitersOn [0x04] i = []))
    ∧ (∃ (s : State) (bytes : List Byte) (i : Nat), (field bytes 0 1 = 1) ∧ ((byteAt bytes 1).getLsbD 0 = false) ∧ (field bytes 2 2 = i) ∧ (s.portClosed 1 =
      false) ∧ (i < 9216) ∧ (s.coreEnabled (i / 48) = true) ∧ (s.die.sync.unloaded.contains (i / 48) = false) ∧ ((s.flag i).mode = 1) ∧ (s.waitersOn
      [0x04] i = []))
    ∧ (∃ (s : State) (bytes : List Byte) (n : Nat) (i : Nat) (k : Nat), (field bytes 0 1 = 1) ∧ ((byteAt bytes 1).getLsbD 0 = true) ∧ (field bytes 2 2 = i)
      ∧ (s.portClosed 1 = false) ∧ (i < 9216) ∧ (s.coreEnabled (i / 48) = true) ∧ (s.die.sync.unloaded.contains (i / 48) = false) ∧ ((s.flag i).mode =
      2) ∧ (n < field bytes 12 4) ∧ (s.freePend = some k))
    ∧ (∃ (s : State) (sender : W16) (tag : W16) (n : Nat) (i : Nat) (e : PendEntry), (s.die.sync.pend = [(i, e)]) ∧ (e.sender = sender) ∧ (e.tag = tag) ∧ (n
      < e.pkts))
    ∧ (∃ (s : State) (sender : W16) (tag : W16) (n : Nat) (i : Nat) (e : PendEntry), (s.die.sync.pend = [(i, e)]) ∧ (s.die.sync.pendFull = []) ∧ (e.sender =
      sender) ∧ (e.tag = tag) ∧ (e.pkts ≤ n) ∧ (e.sop = 1) ∧ (s.waitersOn [0x04] e.index = []))
    ∧ (∃ (s : State) (i : Nat) (e : PendEntry), (tabGet? s.die.sync.pend i = some e) ∧ (e.sop = 1) ∧ (s.die.sync.pendFull = []) ∧ ((s.ns .tsu -
      e.sinceNs).toInt ≥ 1000 * (s.pendTimeoutUs : Int))) :=
  ⟨⟨withD base .tsu (mk 0x24 ([1, 0, 100, 0] ++ zeros 12 ++ [64])), 3, 0, 100, mk 0x24 ([1, 0, 100, 0] ++ zeros 12 ++ [64]),
    by unfold State.ready; decide +kernel⟩,
   ⟨{ base with die.sync.flags := [(100, { mode := 1 })] }, [1, 0, 100, 0] ++ zeros 12, 100, by decide +kernel⟩,
   ⟨{ base with die.sync.flags := [(100, { mode := 2 })] }, [1, 1, 100, 0] ++ zeros 8 ++ [4, 0, 0, 0], 2, 100, 0, by decide +kernel⟩,
   ⟨{ base with die.sync.pend := [(3, ⟨1, 100, 0, 8, 9, 4, 0, 5, 5⟩)] }, 8, 9, 3, 3, ⟨1, 100, 0, 8, 9, 4, 0, 5, 5⟩, by decide +kernel⟩,
   ⟨{ base with die.sync.pend := [(3, ⟨1, 100, 0, 8, 9, 4, 0, 5, 5⟩)] }, 8, 9, 4, 3, ⟨1, 100, 0, 8, 9, 4, 0, 5, 5⟩, by decide +kernel⟩,
   ⟨{ base with die.sync.pend := [(3, ⟨1, 100, 0, 8, 9, 4, 0, 5, 5⟩)] }, 3, ⟨1, 100, 0, 8, 9, 4, 0, 5, 5⟩, by decide +kernel⟩⟩

set_option maxRecDepth 100000 in
/-- Each hypothesis of `SyncContextsAndViews` is met. -/
theorem witness_SyncContextsAndViews :
    (∃ (s : State) (ring : Nat) (idx : Nat) (c : Nat) (d : Desc), (s.ready .tsu ring idx 0x25 d) ∧ (d.pl 0 2 = c) ∧ (s.portClosed 1 = false) ∧
      (s.coreEnabled c = true) ∧ (d.pl 8 8 % 64 = 0) ∧ ((s.die.sync.pend.any fun e => e.2.core == c) = false) ∧ (s.die.sync.unloaded.contains c =
      false) ∧ (∀ i, i < 48 → s.takers (48 * c + i) = []) ∧ (∀ i, i < 16 → (s.tally (16 * c + i)).addCyc ≠ some s.cyc))
    ∧ (∃ (s : State) (ring : Nat) (idx : Nat) (c : Nat) (d : Desc) (img : List Byte), (s.ready .tsu ring idx 0x26 d) ∧ (d.pl 0 2 = c) ∧ (s.portClosed 1 =
      false) ∧ (s.coreEnabled c = true) ∧ (d.pl 8 8 % 64 = 0) ∧ (field img 380 4 = (crc32c (img.take 380)).toNat) ∧ (field img 0 1 = 1) ∧
      (((List.range 64).any fun i => field img (16 + i / 4) 1 / 4 ^ (i % 4) % 4 == 3) = false) ∧ (((List.range 16).any fun i => field img (160 + 4 *
      i) 4 ≥ 2 ^ 31) = false) ∧ (s.die.sync.unloaded.contains c = true))
    ∧ (∃ (s : State) (ring : Nat) (idx : Nat) (d : Desc), (s.ready .tsu ring idx 0x27 d) ∧ (s.portClosed 1 = false) ∧ (d.pl 4 2 ≠ 0) ∧ (d.pl 4 2 ≤ 4096) ∧
      (d.pl 8 8 % 64 = 0) ∧ (viewRange (d.plBits 0 1 0 3) (d.pl 2 2) (d.pl 4 2) = true) ∧ (d.plBit 0 7 = false))
    ∧ (∃ (s : State) (ring : Nat) (idx : Nat) (d : Desc), (s.ready .tsu ring idx 0x28 d) ∧ (s.portClosed 1 = false) ∧ (d.pl 8 8 % 64 = 0)) :=
  ⟨⟨withD base .tsu (mk 0x25 [7, 0, 0, 0, 0, 0, 0, 0, 64]), 3, 0, 7, mk 0x25 [7, 0, 0, 0, 0, 0, 0, 0, 64], by unfold State.ready; decide +kernel⟩,
   ⟨withD { base with die.sync.unloaded := [7] } .tsu (mk 0x26 [7, 0, 0, 0, 0, 0, 0, 0, 64]), 3, 0, 7, mk 0x26 [7, 0, 0, 0, 0, 0, 0, 0, 64], [1] ++ zeros
    379 ++ leOf 4 (crc32c ([1] ++ zeros 379)), by unfold State.ready; decide +kernel⟩,
   ⟨withD base .tsu (mk 0x27 [4, 0, 0, 0, 2, 0, 0, 0, 64]), 3, 0, mk 0x27 [4, 0, 0, 0, 2, 0, 0, 0, 64], by unfold State.ready; decide +kernel⟩,
   ⟨withD base .tsu (mk 0x28 [0, 0, 0, 0, 0, 0, 0, 0, 64]), 3, 0, mk 0x28 [0, 0, 0, 0, 0, 0, 0, 0, 64], by unfold State.ready; decide +kernel⟩⟩

/-- Each hypothesis of `WeighbridgeAtTsu` is met. -/
theorem witness_WeighbridgeAtTsu :
    (∃ (s : State) (req : List Byte) (data : List Byte) (o : WbOp), (o =
      { wbRequest req data (s.ns .tsu) 0 with bell := shortStamp (s.strobedL (field req 4 2 % 4096) (BitVec.ofNat 48 (field req 8 6))) }) ∧ (s.judgeWb
      o (field req 24 8) = .ok) ∧ (s.abortWithin o.basin o.step 60000 = false))
    ∧ (∃ (s : State) (req : List Byte) (data : List Byte) (o : WbOp) (st : _), (o =
      { wbRequest req data (s.ns .tsu) 0 with bell := shortStamp (s.strobedL (field req 4 2 % 4096) (BitVec.ofNat 48 (field req 8 6))) }) ∧ (s.judgeWb
      o (field req 24 8) = st) ∧ (st ≠ .ok))
    ∧ (∃ (s : State) (port : Nat) (e : Env) (f : WbPl) (o : WbOp), (s.inOrder .tsu port e) ∧ (s.engineShut .tsu 3 = false) ∧ (s.holds e.basin.toNat
      e.gen.toNat = true) ∧ (s.wbOp? e.basin.toNat e.gen.toNat f.opid = some o) ∧ (f.fmt.toNat / 16 ≠ 15) ∧ (gathered o.wbop = false) ∧ (f.chunk.toNat
      < o.chunks) ∧ (o.mayCome f.chunk.toNat e.plane = true) ∧ (o.verified f.chunk.toNat = false) ∧ (∀ y, tabGet? o.copies f.chunk.toNat = some y →
      y.cyc ≠ s.cyc))
    ∧ (∃ (s : State) (port : Nat) (e : Env) (f : WbPl) (o : WbOp), (s.inOrder .tsu port e) ∧ (s.engineShut .tsu 3 = false) ∧ (s.holds e.basin.toNat
      e.gen.toNat = true) ∧ (s.wbOp? e.basin.toNat e.gen.toNat f.opid = some o) ∧ (f.fmt = 0xFD) ∧ (o.ready = false) ∧ (o.fen = false) ∧ (o.chunks ≤
      f.chunk.toNat) ∧ ((List.range o.chunks).all ((o.residues f.chunk.toNat f.data).foldl (fun o x => o.verify e.plane x) o).verified = true))
    ∧ (∃ (s : State) (port : Nat) (e : Env) (f : WbPl) (o : WbOp), (s.inOrder .tsu port e) ∧ (s.engineShut .tsu 3 = false) ∧ (s.holds e.basin.toNat
      e.gen.toNat = true) ∧ (s.wbOp? e.basin.toNat e.gen.toNat f.opid = some o) ∧ (f.fmt = 0xFE) ∧ (o.closedHeld = none))
    ∧ (∃ (s : State) (port : Nat) (e : Env) (f : WbPl) (o : WbOp) (x : WbOp), (s.inOrder .tsu port e) ∧ (s.engineShut .tsu 3 = false) ∧ (s.holds
      e.basin.toNat e.gen.toNat = true) ∧ (s.wbOp? e.basin.toNat e.gen.toNat f.opid = some o) ∧ (f.fmt = 0xFF) ∧ (field f.data 0 2 ≠
      Cause.wbMismatch.code) ∧ (field f.data 8 4 = 0xFFFFFFFF) ∧ (x =
      { o with failed := o.failed ++ ((List.range o.chunks).filter (fun c => !o.verified c)).map (fun c => (c, e.plane, BitVec.ofNat 16 (field f.data 0 2))) })
      ∧ (∀ c, c < o.chunks → x.lost c = false))
    ∧ (∃ (s : State) (o : WbOp) (port : Nat), (s.pending = []) ∧ (s.die.wbOps = [o]) ∧ (o.ready = true) ∧ (o.closedHeld = some port))
    ∧ (∃ (s : State) (b : Nat) (g : Nat) (opid : W32) (o : WbOp), (s.wbOp? b g opid = some o) ∧ (o.ready = false) ∧ ((s.ns .tsu - o.acceptNs).toInt ≥ 1000 *
      (s.wbTimeoutUs : Int)))
    ∧ (∃ (s : State) (b : Nat) (g : Nat) (opid : W32) (h : WbHold) (o : WbOp), (s.die.wbHolds.find? (fun h => h.basin == b && h.gen == g && h.opid == opid)
      = some h) ∧ (s.wbOp? b g opid = some o) ∧ (s.abortWithin b h.step 60000 = false)) :=
  ⟨⟨withB base, wbReq, zeros 12, { wbRequest wbReq (zeros 12) 5000000000 0 with bell := 4999000000 }, by decide +kernel⟩,
   ⟨base, wbReq, zeros 12, { wbRequest wbReq (zeros 12) 5000000000 0 with bell := 0 }, .fenced, by decide +kernel⟩,
   ⟨{ withB base with die.wbOps := [wbo] }, 0, envB, wpl 0 1 [5], wbo, by unfold State.inOrder; decide +kernel⟩,
   ⟨{ withB base with die.wbOps := [{ wbo with copies := [(0, ⟨0, 0, true, false, false, zeros 24, 0⟩)] }] }, 0, envB, wpl 1 0xFD [],
    { wbo with copies := [(0, ⟨0, 0, true, false, false, zeros 24, 0⟩)] }, by unfold State.inOrder; decide +kernel⟩,
   ⟨{ withB base with die.wbOps := [wbo] }, 0, envB, wpl 0 0xFE [], wbo, by unfold State.inOrder; decide +kernel⟩,
   ⟨{ withB base with die.wbOps := [wbo] }, 0, envB, wpl 0 0xFF [5, 5, 0, 0, 0, 0, 0, 0, 0xFF, 0xFF, 0xFF, 0xFF], wbo,
    { wbo with failed := [(0, 0, 0x505)] }, by unfold State.inOrder; decide +kernel⟩,
   ⟨{ withB base with die.wbOps := [{ wbo with ready := true, closedHeld := some 0 }] }, { wbo with ready := true, closedHeld := some 0 }, 0,
    by decide +kernel⟩,
   ⟨wt { withB base with die.wbOps := [wbo] } .tsu (fun t => { t with acc := BitVec.ofNat 112 (5009000000 * 2 ^ 48) }), 3, 1, 7 + 5 * 256, wbo,
    by decide +kernel⟩,
   ⟨{ withB base with die.wbOps := [wbo], die.wbHolds := [⟨3, 1, 5, 7 + 5 * 256⟩] }, 3, 1, 7 + 5 * 256, ⟨3, 1, 5, 7 + 5 * 256⟩, wbo, by decide +kernel⟩⟩

/-- Each hypothesis of `WeighbridgeAtPhidor` is met. -/
theorem witness_WeighbridgeAtPhidor :
    (∃ (s : State) (port : Nat) (b : Nat) (g : Nat) (e : Env) (f : WbPl), (s.inOrder .phi port e) ∧ (s.engineShut .phi 6 = false) ∧ (e.basin.toNat = b) ∧
      (e.gen.toNat = g) ∧ (s.sequences b g = false) ∧ (s.wbDiscards b g f.opid = false) ∧ ((s.memberPorts b g).contains port = true) ∧ (s.op? b g
      f.opid = none) ∧ (creditFree 8192 (s.counted 1) (s.hub.ops.map (·.basin)) b = true) ∧ (f.fmt.toNat / 16 < 7))
    ∧ (∃ (s : State) (port : Nat) (b : Nat) (g : Nat) (e : Env) (f : WbPl), (s.inOrder .phi port e) ∧ (s.engineShut .phi 6 = false) ∧ (e.basin.toNat = b) ∧
      (e.gen.toNat = g) ∧ (s.sequences b g = false) ∧ (e.up = false) ∧ (f.fmt.toNat / 16 < 7))
    ∧ (∃ (s : State) (port : Nat) (b : Nat) (g : Nat) (e : Env) (f : WbPl), (s.inOrder .phi port e) ∧ (s.engineShut .phi 6 = false) ∧ (e.basin.toNat = b) ∧
      (e.gen.toNat = g) ∧ (s.sequences b g = false) ∧ (e.up = false) ∧ (f.fmt = 0xFE))
    ∧ (∃ (s : State) (port : Nat) (b : Nat) (g : Nat) (e : Env) (f : WbPl), (s.inOrder .phi port e) ∧ (s.engineShut .phi 6 = false) ∧ (e.basin.toNat = b) ∧
      (e.gen.toNat = g) ∧ (s.sequences b g = false) ∧ (e.up = true) ∧ (f.fmt = 0xFE))
    ∧ (∃ (s : State) (port : Nat) (b : Nat) (g : Nat) (e : Env) (f : WbAckPl) (o : OpCtx), (s.inOrder .phi port e) ∧ (s.engineShut .phi 6 = false) ∧
      (e.basin.toNat = b) ∧ (e.gen.toNat = g) ∧ (s.sequences b g = true) ∧ (s.op? b g f.opid = some o) ∧ (o.opened = true) ∧ (f.status = 0x00))
    ∧ (∃ (s : State) (port : Nat) (b : Nat) (g : Nat) (e : Env) (f : WbAckPl) (o : OpCtx), (s.inOrder .phi port e) ∧ (s.engineShut .phi 6 = false) ∧
      (e.basin.toNat = b) ∧ (e.gen.toNat = g) ∧ (s.sequences b g = true) ∧ (s.op? b g f.opid = some o) ∧ (o.opened = true) ∧ (f.status = 0x0B) ∧
      (gathered o.wbop = false))
    ∧ (∃ (s : State) (o : OpCtx), (s.pending = []) ∧ (s.hub.ops = [o]) ∧ (o.opened = true) ∧ (o.full = true)) :=
  ⟨⟨withP base, 0, 3, 1, envB, wpl 0 0x11 [5], by unfold State.inOrder; decide +kernel⟩,
   ⟨withP base, 512, 3, 1, envB, wpl 0 0x11 [5], by unfold State.inOrder; decide +kernel⟩,
   ⟨withP { base with hub.ops := [opx] }, 512, 3, 1, envB, wpl 0 0xFE [5], by unfold State.inOrder; decide +kernel⟩,
   ⟨withP { base with hub.ops := [opx] }, 0, 3, 1, { envB with up := true }, wpl 0 0xFE [5], by unfold State.inOrder; decide +kernel⟩,
   ⟨{ withQ base (sq [] .running) with hub.ops := [opx] }, 0, 3, 1, envB, ⟨7 + 5 * 256, 1, 0⟩, opx, by unfold State.inOrder; decide +kernel⟩,
   ⟨{ withQ base (sq [] .running) with hub.ops := [opx] }, 0, 3, 1, envB, ⟨7 + 5 * 256, 2, 0x0B⟩, opx, by unfold State.inOrder; decide +kernel⟩,
   ⟨{ withQ base (sq [] .running) with hub.ops := [{ opx with acks := [1, 2], state := .released, full := true }] },
    { opx with acks := [1, 2], state := .released, full := true }, by decide +kernel⟩⟩

set_option maxRecDepth 100000 in
/-- Each hypothesis of `BasinLoading` is met. -/
theorem witness_BasinLoading :
    (∃ (s : State) (ring : Nat) (idx : Nat) (b : Nat) (pair : Nat) (dies : List Nat) (d : Desc), (s.ready .phi ring idx 0x10 d) ∧ (s.basinRoom b = true) ∧
      (d.plBits 0 2 0 12 = b) ∧ (s.phi.inService = false) ∧ (d.pl 8 4 ≤ 65536) ∧ (s.createOk d (takeDies dies (d.pl 8 4)) = true) ∧ (s.seq? b = none)
      ∧ (d.pl 2 2 ≠ 0) ∧ (tabGet? s.hub.lastGen b ≠ some (d.pl 2 2)) ∧ (s.pairFor (d.pl 12 4) = some pair) ∧ (s.hub.seqs.length < 256))
    ∧ (∃ (s : State) (ring : Nat) (idx : Nat) (b : Nat) (first : Nat) (n : Nat) (data : List Byte) (d : Desc) (q : Seq), (s.ready .phi ring idx 0x11 d) ∧
      (s.basinRoom b = true) ∧ (d.plBits 0 2 0 12 = b) ∧ (d.plBits 4 4 0 24 = first) ∧ (d.pl 8 4 = n) ∧ (s.seq? b = some q) ∧ (d.plBits 26 1 1 7 = 0)
      ∧ (d.pl 27 1 = 0) ∧ (n ≠ 0) ∧ (n ≤ 16777216) ∧ (d.pl 12 8 % 64 = 0) ∧ (first + n ≤ q.entries) ∧ (q.gen = d.pl 2 2) ∧ (crc32c (padTo (32 * n)
      data) = BitVec.ofNat 32 (d.pl 28 4)) ∧ (d.plBit 26 0 = false) ∧ (q.state = .loading ∨ q.state = .parked))
    ∧ (∃ (s : State) (ring : Nat) (idx : Nat) (b : Nat) (first : Nat) (n : Nat) (data : List Byte) (d : Desc) (q : Seq), (s.ready .phi ring idx 0x11 d) ∧
      (s.basinRoom b = true) ∧ (d.plBits 0 2 0 12 = b) ∧ (d.plBits 4 4 0 24 = first) ∧ (d.pl 8 4 = n) ∧ (s.seq? b = some q) ∧ (d.plBits 26 1 1 7 = 0)
      ∧ (d.pl 27 1 = 0) ∧ (n ≠ 0) ∧ (n ≤ 16777216) ∧ (d.pl 12 8 % 64 = 0) ∧ (first + n ≤ q.entries) ∧ (q.gen = d.pl 2 2) ∧ (crc32c (padTo (32 * n)
      data) = BitVec.ofNat 32 (d.pl 28 4)) ∧ (d.plBit 26 0 = true) ∧ (q.runs = true) ∧ (n ≤ 65536) ∧ (q.patch = none) ∧ (stepLater (BitVec.ofNat 48
      (d.pl 20 6)) q.lastIssued = true))
    ∧ (∃ (s : State) (ring : Nat) (idx : Nat) (b : Nat) (d : Desc) (q : Seq), (s.ready .phi ring idx 0x12 d) ∧ (s.basinRoom b = true) ∧ (d.plBits 0 2 0 12 =
      b) ∧ (s.seq? b = some q) ∧ (q.gen = d.pl 2 2) ∧ (q.state = .loading) ∧ (d.pl 10 2 = 0) ∧ (d.plBits 12 4 0 24 < q.entries) ∧ (q.crc =
      BitVec.ofNat 32 (d.pl 24 4)) ∧ (q.firstBad = none) ∧ ((BitVec.ofNat 64 (d.pl 16 8)).toNat % 2 ^ q.k = 0) ∧ (s.engineShut .phi 5 = false))
    ∧ (∃ (s : State) (ring : Nat) (idx : Nat) (b : Nat) (d : Desc) (q : Seq), (s.ready .phi ring idx 0x17 d) ∧ (s.basinRoom b = true) ∧ (d.plBits 0 2 0 12 =
      b) ∧ (s.seq? b = some q) ∧ (q.gen = d.pl 2 2) ∧ (0 < d.pl 8 4) ∧ (d.pl 8 4 ≤ 65536) ∧ (d.pl 12 8 % 64 = 0) ∧ (∀ i ∈ q.issued, d.pl 4 1 ∉
      i.lists)) :=
  ⟨⟨withD base .phi (mk 0x10 ([3, 0, 1, 0, 10, 1, 0, 0, 2, 0, 0, 0, 64, 0, 0, 0] ++ zeros 8 ++ [100])), 3, 0, 3, 0, [1, 2], mk 0x10 ([3, 0, 1, 0, 10, 1,
    0, 0, 2, 0, 0, 0, 64, 0, 0, 0] ++ zeros 8 ++ [100]), by unfold State.ready; decide +kernel⟩,
   ⟨withD (withQ base (sq [] .loading)) .phi (mk 0x11 ([3, 0, 1, 0, 1, 0, 0, 0, 2, 0, 0, 0] ++ zeros 16 ++ leOf 4 (crc32c (zeros 64)))), 3, 0, 3, 1, 2,
    [], mk 0x11 ([3, 0, 1, 0, 1, 0, 0, 0, 2, 0, 0, 0] ++ zeros 16 ++ leOf 4 (crc32c (zeros 64))), sq [] .loading,
    by unfold State.ready; decide +kernel⟩,
   ⟨withD (withQ base (sq [] .running)) .phi (mk 0x11 ([3, 0, 1, 0, 1, 0, 0, 0, 2, 0, 0, 0] ++ zeros 8 ++ [9, 0, 0, 0, 0, 0, 1, 0] ++ leOf 4 (crc32c
    (zeros 64)))), 3, 0, 3, 1, 2, [], mk 0x11 ([3, 0, 1, 0, 1, 0, 0, 0, 2, 0, 0, 0] ++ zeros 8 ++ [9, 0, 0, 0, 0, 0, 1, 0] ++ leOf 4 (crc32c (zeros
    64))), sq [] .running, by unfold State.ready; decide +kernel⟩,
   ⟨withD (withQ base (sq [] .loading)) .phi (mk 0x12 ([3, 0, 1, 0, 1, 0, 0, 0, 0, 0, 0, 0, 3, 0, 0, 0, 0, 0, 8, 0, 0, 0, 0, 0] ++ leOf 4 (sq []
    .loading).crc)), 3, 0, 3, mk 0x12 ([3, 0, 1, 0, 1, 0, 0, 0, 0, 0, 0, 0, 3, 0, 0, 0, 0, 0, 8, 0, 0, 0, 0, 0] ++ leOf 4 (sq [] .loading).crc), sq []
    .loading, by unfold State.ready; decide +kernel⟩,
   ⟨withD (withQ base (sq [] .running)) .phi (mk 0x17 [3, 0, 1, 0, 5, 0, 0, 0, 2, 0, 0, 0, 64]), 3, 0, 3, mk 0x17 [3, 0, 1, 0, 5, 0, 0, 0, 2, 0, 0, 0,
    64], sq [] .running, by unfold State.ready; decide +kernel⟩⟩

/-- Each hypothesis of `BasinControl` is met. -/
theorem witness_BasinControl :
    (∃ (s : State) (ring : Nat) (idx : Nat) (b : Nat) (op : Nat) (d : Desc) (q : Seq), (s.ready .phi ring idx op d) ∧ (s.basinRoom b = true) ∧ (d.plBits 0
      2 0 12 = b) ∧ (s.seq? b = some q) ∧ (q.gen = d.pl 2 2) ∧ (op = 0x13) ∧ (q.state = .running) ∧ (q.parkReq = none) ∧ (q.issued ≠ []))
    ∧ (∃ (s : State) (ring : Nat) (idx : Nat) (b : Nat) (op : Nat) (d : Desc) (q : Seq), (s.ready .phi ring idx op d) ∧ (s.basinRoom b = true) ∧ (d.plBits 0
      2 0 12 = b) ∧ (s.seq? b = some q) ∧ (q.gen = d.pl 2 2) ∧ (op = 0x13) ∧ (q.state = .waiting) ∧ (q.parkReq = none) ∧ (q.issued = []) ∧ (q.ending =
      false) ∧ (q.tear = false))
    ∧ (∃ (s : State) (ring : Nat) (idx : Nat) (b : Nat) (op : Nat) (d : Desc) (q : Seq), (s.ready .phi ring idx op d) ∧ (s.basinRoom b = true) ∧ (d.plBits 0
      2 0 12 = b) ∧ (s.seq? b = some q) ∧ (q.gen = d.pl 2 2) ∧ (op = 0x14) ∧ (q.state = .parked) ∧ (s.engineShut .phi 5 = true))
    ∧ (∃ (s : State) (ring : Nat) (idx : Nat) (b : Nat) (op : Nat) (d : Desc) (q : Seq), (s.ready .phi ring idx op d) ∧ (s.basinRoom b = true) ∧ (d.plBits 0
      2 0 12 = b) ∧ (s.seq? b = some q) ∧ (q.gen = d.pl 2 2) ∧ (op = 0x14) ∧ (q.state = .parked) ∧ (q.tableLost = false) ∧ (q.reason ≠ 12) ∧
      (s.engineShut .phi 5 = false))
    ∧ (∃ (s : State) (ring : Nat) (idx : Nat) (b : Nat) (op : Nat) (d : Desc) (q : Seq), (s.ready .phi ring idx op d) ∧ (s.basinRoom b = true) ∧ (d.plBits 0
      2 0 12 = b) ∧ (s.seq? b = some q) ∧ (q.gen = d.pl 2 2) ∧ (op = 0x15) ∧ (q.state ≠ .destroying) ∧ (q.runs = false))
    ∧ (∃ (s : State) (ring : Nat) (idx : Nat) (b : Nat) (op : Nat) (d : Desc) (q : Seq), (s.ready .phi ring idx op d) ∧ (s.basinRoom b = true) ∧ (d.plBits 0
      2 0 12 = b) ∧ (s.seq? b = some q) ∧ (q.gen = d.pl 2 2) ∧ (op = 0x15) ∧ (q.runs = true) ∧ (q.issued ≠ []))
    ∧ (∃ (s : State) (ring : Nat) (idx : Nat) (b : Nat) (op : Nat) (d : Desc) (q : Seq), (s.ready .phi ring idx op d) ∧ (s.basinRoom b = true) ∧ (d.plBits 0
      2 0 12 = b) ∧ (s.seq? b = some q) ∧ (q.gen = d.pl 2 2) ∧ (op = 0x15) ∧ (q.state = .waiting) ∧ (q.parkReq = none) ∧ (q.issued = []) ∧ (q.ending =
      false))
    ∧ (∃ (s : State) (ring : Nat) (idx : Nat) (b : Nat) (op : Nat) (d : Desc) (q : Seq), (s.ready .phi ring idx op d) ∧ (s.basinRoom b = true) ∧ (d.plBits 0
      2 0 12 = b) ∧ (s.seq? b = some q) ∧ (q.gen = d.pl 2 2) ∧ (op = 0x15) ∧ (q.state = .destroying) ∧ (q.ever.all q.purged.contains = false))
    ∧ (∃ (s : State) (ring : Nat) (idx : Nat) (b : Nat) (op : Nat) (d : Desc) (q : Seq), (s.ready .phi ring idx op d) ∧ (s.basinRoom b = true) ∧ (d.plBits 0
      2 0 12 = b) ∧ (s.seq? b = some q) ∧ (q.gen = d.pl 2 2) ∧ (op = 0x15) ∧ (q.state = .destroying) ∧ (q.ever.all q.purged.contains = true))
    ∧ (∃ (s : State) (ring : Nat) (idx : Nat) (b : Nat) (op : Nat) (d : Desc) (q : Seq), (s.ready .phi ring idx op d) ∧ (s.basinRoom b = true) ∧ (d.plBits 0
      2 0 12 = b) ∧ (s.seq? b = some q) ∧ (q.gen = d.pl 2 2) ∧ (op = 0x16) ∧ (q.role ≠ .detached)) :=
  ⟨⟨withD (withQ base { sq [] .running with issued := [iss 5000100000] }) .phi (mk 0x13 [3, 0, 1, 0]), 3, 0, 3, 0x13, mk 0x13 [3, 0, 1, 0],
    { sq [] .running with issued := [iss 5000100000] }, by unfold State.ready; decide +kernel⟩,
   ⟨withD (withQ base (sq [] .waiting)) .phi (mk 0x13 [3, 0, 1, 0]), 3, 0, 3, 0x13, mk 0x13 [3, 0, 1, 0], sq [] .waiting,
    by unfold State.ready; decide +kernel⟩,
   ⟨{ withD (withQ base (sq [] .parked)) .phi (mk 0x14 [3, 0, 1, 0]) with phi.engines := [(5, { step := 1 })] }, 3, 0, 3, 0x14, mk 0x14 [3, 0, 1, 0], sq
    [] .parked, by unfold State.ready; decide +kernel⟩,
   ⟨withD (withQ base (sq [] .parked)) .phi (mk 0x14 [3, 0, 1, 0]), 3, 0, 3, 0x14, mk 0x14 [3, 0, 1, 0], sq [] .parked,
    by unfold State.ready; decide +kernel⟩,
   ⟨withD (withQ base (sq [] .parked)) .phi (mk 0x15 [3, 0, 1, 0]), 3, 0, 3, 0x15, mk 0x15 [3, 0, 1, 0], sq [] .parked,
    by unfold State.ready; decide +kernel⟩,
   ⟨withD (withQ base { sq [] .running with issued := [iss 5000100000] }) .phi (mk 0x15 [3, 0, 1, 0]), 3, 0, 3, 0x15, mk 0x15 [3, 0, 1, 0],
    { sq [] .running with issued := [iss 5000100000] }, by unfold State.ready; decide +kernel⟩,
   ⟨withD (withQ base (sq [] .waiting)) .phi (mk 0x15 [3, 0, 1, 0]), 3, 0, 3, 0x15, mk 0x15 [3, 0, 1, 0], sq [] .waiting,
    by unfold State.ready; decide +kernel⟩,
   ⟨withD (withQ base { sq [] .destroying with purged := [1] }) .phi (mk 0x15 [3, 0, 1, 0]), 3, 0, 3, 0x15, mk 0x15 [3, 0, 1, 0],
    { sq [] .destroying with purged := [1] }, by unfold State.ready; decide +kernel⟩,
   ⟨withD (withQ base { sq [] .destroying with purged := [1, 2] }) .phi (mk 0x15 [3, 0, 1, 0]), 3, 0, 3, 0x15, mk 0x15 [3, 0, 1, 0],
    { sq [] .destroying with purged := [1, 2] }, by unfold State.ready; decide +kernel⟩,
   ⟨withD (withQ base (sq [] .running)) .phi (mk 0x16 [3, 0, 1, 0, 1]), 3, 0, 3, 0x16, mk 0x16 [3, 0, 1, 0, 1], sq [] .running,
    by unfold State.ready; decide +kernel⟩⟩

set_option maxRecDepth 100000 in
/-- Each hypothesis of `TideEntries` is met. -/
theorem witness_TideEntries :
    (∃ (s : State) (b : Nat) (op : Nat) (q : Seq) (e : List Byte), (s.atEntry b op q) ∧ (q.entry q.pc = e) ∧ (op = 0x00))
    ∧ (∃ (s : State) (b : Nat) (op : Nat) (q : Seq) (e : List Byte), (s.atEntry b op q) ∧ (q.entry q.pc = e) ∧ (op = 0x04) ∧ (field e 5 1 % 32 = 0))
    ∧ (∃ (s : State) (b : Nat) (op : Nat) (q : Seq) (e : List Byte) (p : _), (s.atEntry b op q) ∧ (q.entry q.pc = e) ∧ (op = 0x04) ∧ (field e 5 1 % 32 ≠ 0)
      ∧ (q.preds.getD (field e 4 1 % 16) {} = p) ∧ (p.valid = true))
    ∧ (∃ (s : State) (b : Nat) (op : Nat) (q : Seq) (e : List Byte) (p : _), (s.atEntry b op q) ∧ (q.entry q.pc = e) ∧ (op = 0x04) ∧ (field e 5 1 % 32 ≠ 0)
      ∧ (q.preds.getD (field e 4 1 % 16) {} = p) ∧ (p.valid = false))
    ∧ (∃ (s : State) (b : Nat) (op : Nat) (q : Seq) (e : List Byte), (s.atEntry b op q) ∧ (q.entry q.pc = e) ∧ (op = 0x05))
    ∧ (∃ (s : State) (b : Nat) (op : Nat) (q : Seq) (e : List Byte), (s.atEntry b op q) ∧ (q.entry q.pc = e) ∧ (op = 0x06) ∧ (q.lctr.getD (field e 4 1 % 8)
      0 ≤ 1))
    ∧ (∃ (s : State) (b : Nat) (op : Nat) (q : Seq) (e : List Byte), (s.atEntry b op q) ∧ (q.entry q.pc = e) ∧ (op = 0x06) ∧ (1 < q.lctr.getD (field e 4 1 %
      8) 0))
    ∧ (∃ (s : State) (b : Nat) (op : Nat) (q : Seq) (e : List Byte), (s.atEntry b op q) ∧ (q.entry q.pc = e) ∧ (op = 0x07))
    ∧ (∃ (s : State) (b : Nat) (op : Nat) (q : Seq) (e : List Byte), (s.atEntry b op q) ∧ (q.entry q.pc = e) ∧ (op = 0x08))
    ∧ (∃ (s : State) (b : Nat) (op : Nat) (q : Seq) (e : List Byte), (s.atEntry b op q) ∧ (q.entry q.pc = e) ∧ (op = 0x09))
    ∧ (∃ (s : State) (b : Nat) (op : Nat) (q : Seq) (e : List Byte), (s.atEntry b op q) ∧ (q.entry q.pc = e) ∧ (op = 0x0A)) :=
  ⟨⟨withQ base (sq [] .running), 3, 0, sq [] .running, zeros 32, by unfold State.atEntry; decide +kernel⟩,
   ⟨withQ base (sq [4, 0, 0, 0, 0, 0, 0, 0, 2] .running), 3, 4, sq [4, 0, 0, 0, 0, 0, 0, 0, 2] .running, padTo 32 [4, 0, 0, 0, 0, 0, 0, 0, 2],
    by unfold State.atEntry; decide +kernel⟩,
   ⟨withQ base { sq [4, 0, 0, 0, 0, 1, 0, 0, 2] .running with preds := [{ valid := true, zero := true }] }, 3, 4,
    { sq [4, 0, 0, 0, 0, 1, 0, 0, 2] .running with preds := [{ valid := true, zero := true }] }, padTo 32 [4, 0, 0, 0, 0, 1, 0, 0, 2],
    { valid := true, zero := true }, by unfold State.atEntry; decide +kernel⟩,
   ⟨withQ base (sq [4, 0, 0, 0, 0, 1, 0, 0, 2] .running), 3, 4, sq [4, 0, 0, 0, 0, 1, 0, 0, 2] .running, padTo 32 [4, 0, 0, 0, 0, 1, 0, 0, 2], {},
    by unfold State.atEntry; decide +kernel⟩,
   ⟨withQ base (sq [5, 0, 0, 0, 7, 0, 0, 0, 9] .running), 3, 5, sq [5, 0, 0, 0, 7, 0, 0, 0, 9] .running, padTo 32 [5, 0, 0, 0, 7, 0, 0, 0, 9],
    by unfold State.atEntry; decide +kernel⟩,
   ⟨withQ base (sq [6, 0, 0, 0, 7, 0, 0, 0, 3] .running), 3, 6, sq [6, 0, 0, 0, 7, 0, 0, 0, 3] .running, padTo 32 [6, 0, 0, 0, 7, 0, 0, 0, 3],
    by unfold State.atEntry; decide +kernel⟩,
   ⟨withQ base { sq [6, 0, 0, 0, 0, 0, 0, 0, 3] .running with lctr := [2] }, 3, 6, { sq [6, 0, 0, 0, 0, 0, 0, 0, 3] .running with lctr := [2] }, padTo 32
    [6, 0, 0, 0, 0, 0, 0, 0, 3], by unfold State.atEntry; decide +kernel⟩,
   ⟨withQ base (sq [7, 0, 0, 0, 7, 0, 0, 0, 3] .running), 3, 7, sq [7, 0, 0, 0, 7, 0, 0, 0, 3] .running, padTo 32 [7, 0, 0, 0, 7, 0, 0, 0, 3],
    by unfold State.atEntry; decide +kernel⟩,
   ⟨withQ base (sq [8, 0, 0, 0, 7] .running), 3, 8, sq [8, 0, 0, 0, 7] .running, padTo 32 [8, 0, 0, 0, 7], by unfold State.atEntry; decide +kernel⟩,
   ⟨withQ base (sq [9, 0, 0, 0, 7] .running), 3, 9, sq [9, 0, 0, 0, 7] .running, padTo 32 [9, 0, 0, 0, 7], by unfold State.atEntry; decide +kernel⟩,
   ⟨withQ base (sq [10, 0, 0, 0, 7, 0, 0, 0, 5] .running), 3, 10, sq [10, 0, 0, 0, 7, 0, 0, 0, 5] .running, padTo 32 [10, 0, 0, 0, 7, 0, 0, 0, 5],
    by unfold State.atEntry; decide +kernel⟩⟩

/-- Each hypothesis of `TideSteps` is met. -/
theorem witness_TideSteps :
    (∃ (s : State) (b : Nat) (op : Nat) (q : Seq) (e : List Byte), (s.atEntry b op q) ∧ (q.entry q.pc = e) ∧ (op = 0x01) ∧ (q.role = .leader) ∧ (q.patch =
      none) ∧ (q.depth < 16) ∧ (q.changes = []) ∧ (q.joinWait = []) ∧ ((q.issuedAny && q.lastIssued == BitVec.allOnes 48) = false))
    ∧ (∃ (s : State) (b : Nat) (op : Nat) (q : Seq) (e : List Byte) (opid : _), (s.atEntry b op q) ∧ (q.entry q.pc = e) ∧ (op = 0x02) ∧ (opid = opidOf
      q.lastIssued (field e 8 1)) ∧ (s.op? b q.gen opid = none) ∧ (comboOk (field e 4 1) (field e 5 1) = true) ∧ ((gathered (field e 4 1) &&
      q.members.length * (field e 6 2 % 8192) > 16777216) = false) ∧ (q.members ≠ []) ∧ (0 < field e 6 2 % 8192) ∧ (creditFree 8192 (s.counted 1)
      (s.hub.ops.map (·.basin)) b = true))
    ∧ (∃ (s : State) (b : Nat) (op : Nat) (q : Seq) (e : List Byte) (rb : _) (rs : _), (s.atEntry b op q) ∧ (q.entry q.pc = e) ∧ (op = 0x03) ∧ (s.gateHits b
      q (field e 4 2 % 4096) = rb :: rs))
    ∧ (∃ (s : State) (b : Nat) (op : Nat) (q : Seq) (e : List Byte), (s.atEntry b op q) ∧ (q.entry q.pc = e) ∧ (op = 0x03) ∧ (s.gateHits b q (field e 4 2 %
      4096) = []))
    ∧ (∃ (s : State) (b : Nat) (op : Nat) (q : Seq) (e : List Byte), (s.atEntry b op q) ∧ (q.entry q.pc = e) ∧ (op = 0x0B) ∧ (q.tear = false))
    ∧ (∃ (s : State) (b : Nat) (op : Nat) (q : Seq) (e : List Byte), (s.atEntry b op q) ∧ (q.entry q.pc = e) ∧ (op = 0x0C) ∧ (q.tear = false)) :=
  ⟨⟨withQ base (sq [1, 0, 0, 0, 7] .running), 3, 1, sq [1, 0, 0, 0, 7] .running, padTo 32 [1, 0, 0, 0, 7], by unfold State.atEntry; decide +kernel⟩,
   ⟨withQ base { sq [2, 0, 0, 0, 1, 1, 3, 0, 9] .running with lastIssued := 1, issued := [iss 5000100000] }, 3, 2,
    { sq [2, 0, 0, 0, 1, 1, 3, 0, 9] .running with lastIssued := 1, issued := [iss 5000100000] }, padTo 32 [2, 0, 0, 0, 1, 1, 3, 0, 9], 265,
    by unfold State.atEntry; decide +kernel⟩,
   ⟨{ withQ base { sq [3, 0, 0, 0, 5] .running with issuedAny := true, lastL := 5000000000 } with hub.gates := [{ basin := 3, gen := 1, gate := 5, released := 1, releases := [(BitVec.ofNat 32 5000200000, 5000100000)] }] },
    3, 3, { sq [3, 0, 0, 0, 5] .running with issuedAny := true, lastL := 5000000000 }, padTo 32 [3, 0, 0, 0, 5], 5000200000, [],
    by unfold State.atEntry; decide +kernel⟩,
   ⟨withQ base { sq [3, 0, 0, 0, 5] .running with issuedAny := true }, 3, 3, { sq [3, 0, 0, 0, 5] .running with issuedAny := true }, padTo 32 [3, 0, 0,
    0, 5], by unfold State.atEntry; decide +kernel⟩,
   ⟨withQ base (sq [11, 0, 0, 0, 5] .running), 3, 11, sq [11, 0, 0, 0, 5] .running, padTo 32 [11, 0, 0, 0, 5], by unfold State.atEntry; decide +kernel⟩,
   ⟨withQ base (sq [12, 0, 0, 0, 5] .running), 3, 12, sq [12, 0, 0, 0, 5] .running, padTo 32 [12, 0, 0, 0, 5], by unfold State.atEntry; decide +kernel⟩⟩

/-- Each hypothesis of `SequencerTimers` is met. -/
theorem witness_SequencerTimers :
    (∃ (s : State) (b : Nat) (q : Seq) (step : _) (i : _), (s.seq? b = some q) ∧ (q.issued.find? (fun i => i.step == step) = some i) ∧ (i.announced =
      false) ∧ (q.role ≠ .detached) ∧ ((s.ns .phi - nsAdd i.l (-(1000 * (q.annLeadUs : Int)))).toInt ≥ 0))
    ∧ (∃ (s : State) (b : Nat) (q : Seq) (w : _), (s.seq? b = some q) ∧ (q.live = true) ∧ (q.state = .waiting) ∧ (q.opAt q.pc = 0x03) ∧ (q.waitNs = some w)
      ∧ (q.issuedAny = true) ∧ (q.rewait = false) ∧ (s.gateHits b q (field (q.entry q.pc) 4 2 % 4096) = []) ∧ ((s.ns .phi - q.lastL).toInt ≥ 1000 *
      ((if field (q.entry q.pc) 8 4 = 0 then q.waitUs else field (q.entry q.pc) 8 4 : Nat) : Int)))
    ∧ (∃ (s : State) (b : Nat) (q : Seq) (w : _), (s.seq? b = some q) ∧ (q.live = true) ∧ (q.tear = false) ∧ (q.state = .waiting) ∧ (q.opAt q.pc = 0x04) ∧
      (q.waitNs = some w) ∧ ((s.ns .phi - w).toInt ≥ 1000 * ((if field (q.entry q.pc) 12 4 = 0 then q.waitUs else field (q.entry q.pc) 12 4 : Nat) :
      Int)) ∧ ((q.preds.getD (field (q.entry q.pc) 4 1 % 16) {}).valid = false))
    ∧ (∃ (s : State) (b : Nat) (q : Seq), (s.seq? b = some q) ∧ (q.winLeft ≠ none ∧ q.tableLost = false))
    ∧ (∃ (s : State) (b : Nat) (q : Seq) (i : _), (s.seq? b = some q) ∧ (q.issued = [i]) ∧ (i.committed = false) ∧ (i.ops = []) ∧ (q.parkReq = none) ∧
      (q.ending = false) ∧ (q.changes = []) ∧ ((s.ns .phi - nsAdd i.l 20000).toInt ≥ 0))
    ∧ (∃ (s : State) (b : Nat) (q : Seq) (x : _), (s.seq? b = some q) ∧ (q.joinNs = some x) ∧ (q.joinWait ≠ []) ∧ (q.runs = true) ∧ (q.halted = false) ∧
      (q.tear = false) ∧ ((s.ns .phi - x).toInt ≥ 1000 * (q.waitUs : Int)))
    ∧ (∃ (s : State) (b : Nat) (q : Seq) (w : _), (s.seq? b = some q) ∧ (q.waitNs = some w) ∧ (q.live = true ∧ q.role = .follower ∧ q.state = .waiting ∧
      q.opAt q.pc = 0x01
        ∧ (∀ x ∈ q.learned, x.step ≠ q.nextStep) ∧ (s.ns .phi - w).toInt ≥ 1000 * (q.leadTimeoutUs : Int)))
    ∧ (∃ (s : State) (b : Nat) (q : Seq) (x : _), (s.seq? b = some q) ∧ (q.waveNs = some x) ∧ (q.parkReq = none) ∧ (q.ending = false) ∧ ((s.ns .phi -
      x).toInt ≥ 0)) :=
  ⟨⟨withQ base { sq [] .running with issued := [iss 5000001000] }, 3, { sq [] .running with issued := [iss 5000001000] }, 1, iss 5000001000,
    by decide +kernel⟩,
   ⟨withQ base { sq [3, 0, 0, 0, 5] .waiting with issuedAny := true, waitNs := some 5, issued := [iss 5000001000], lastIssued := 1 }, 3,
    { sq [3, 0, 0, 0, 5] .waiting with issuedAny := true, waitNs := some 5, issued := [iss 5000001000], lastIssued := 1 }, 5, by decide +kernel⟩,
   ⟨withQ base { sq [4, 0, 0, 0, 5, 1] .waiting with waitNs := some 5 }, 3, { sq [4, 0, 0, 0, 5, 1] .waiting with waitNs := some 5 }, 5,
    by decide +kernel⟩,
   ⟨withQ base { sq [] .running with winLeft := some 0 }, 3, { sq [] .running with winLeft := some 0 }, by decide +kernel⟩,
   ⟨withQ base { sq [] .running with issued := [iss 4999000000], lastIssued := 1 }, 3,
    { sq [] .running with issued := [iss 4999000000], lastIssued := 1 }, iss 4999000000, by decide +kernel⟩,
   ⟨withQ base { sq [] .running with joinWait := [1], joinNs := some 5 }, 3, { sq [] .running with joinWait := [1], joinNs := some 5 }, 5,
    by decide +kernel⟩,
   ⟨withQ base { sq [1] .waiting with role := .follower, waitNs := some 5 }, 3, { sq [1] .waiting with role := .follower, waitNs := some 5 }, 5,
    by decide +kernel⟩,
   ⟨withQ base { sq [] .running with waveNs := some 5 }, 3, { sq [] .running with waveNs := some 5 }, 5, by decide +kernel⟩⟩

/-- Each hypothesis of `WaveAtPhidor` is met. -/
theorem witness_WaveAtPhidor :
    (∃ (s : State) (port : Nat) (e : Env), (s.inOrder .phi port e))
    ∧ (∃ (s : State) (port : Nat) (b : Nat) (g : Nat) (e : Env) (f : LaunchPl), (s.inOrder .phi port e) ∧ (e.basin.toNat = b) ∧ (e.gen.toNat = g) ∧
      (s.sequences b g = false) ∧ (s.key? .phi b g f.step 0 = none))
    ∧ (∃ (s : State) (port : Nat) (b : Nat) (g : Nat) (e : Env) (f : LaunchPl), (s.inOrder .phi port e) ∧ (e.basin.toNat = b) ∧ (e.gen.toNat = g) ∧
      (s.sequences b g = false) ∧ (s.key? .phi b g f.step 1 = none))
    ∧ (∃ (s : State) (port : Nat) (b : Nat) (g : Nat) (e : Env) (f : LaunchPl) (k : _), (s.inOrder .phi port e) ∧ (e.basin.toNat = b) ∧ (e.gen.toNat = g) ∧
      (s.sequences b g = false) ∧ (s.key? .phi b g f.step 1 = some k) ∧ (k.bells.contains f.bell = true))
    ∧ (∃ (s : State) (port : Nat) (b : Nat) (g : Nat) (e : Env) (f : LaunchPl), (s.inOrder .phi port e) ∧ (e.basin.toNat = b) ∧ (e.gen.toNat = g) ∧ (s.key?
      .phi b g f.step 2 = none))
    ∧ (∃ (s : State) (port : Nat) (b : Nat) (g : Nat) (e : Env) (f : LaunchPl), (s.inOrder .phi port e) ∧ (e.basin.toNat = b) ∧ (e.gen.toNat = g) ∧
      (f.status = 0) ∧ (∀ c ∈ s.hub.acks, ¬(c.basin = b ∧ c.gen = g ∧ c.step = f.step ∧ c.bell = f.bell)) ∧ (s.seq? b = none))
    ∧ (∃ (s : State) (port : Nat) (b : Nat) (g : Nat) (e : Env) (f : LaunchPl) (q : _) (i : _), (s.inOrder .phi port e) ∧ (e.basin.toNat = b) ∧ (e.gen.toNat
      = g) ∧ (f.status = 0) ∧ (∀ c ∈ s.hub.acks, ¬(c.basin = b ∧ c.gen = g ∧ c.step = f.step ∧ c.bell = f.bell)) ∧ (s.seq? b = some q) ∧ (q.gen = g) ∧
      (q.role = .leader) ∧ (q.runs = true) ∧ (s.phi.time.expands = true) ∧ (stampNear (s.ns .phi) (expandStamp (s.ns .phi) f.bell) = true) ∧ (q.dead
      (s.ns .phi) f.step f.bell = false) ∧ (q.issued.find? (fun i => i.step == f.step) = some i) ∧ (shortStamp i.l = f.bell) ∧ (i.commitSent = false)
      ∧ (i.cut = false) ∧ (f.count.toNat = i.members.length) ∧ ((s.cutoff i.l - s.ns .phi).toInt ≥ 0))
    ∧ (∃ (s : State) (b : Nat) (q : Seq) (step : StepNo), (s.seq? b = some q) ∧ (q.issued.any (fun i => i.step == step && !i.commitSent && later (s.ns .phi)
      (s.cutoff i.l)) = true))
    ∧ (∃ (s : State) (port : Nat) (b : Nat) (g : Nat) (p : Nat) (e : Env) (f : MemberPl), (s.inOrder .phi port e) ∧ (e.basin.toNat = b) ∧ (e.gen.toNat = g)
      ∧ (f.tear = false) ∧ (f.action = 0) ∧ (port = s.uplink) ∧ (s.routeDie f.die.toNat = [p]))
    ∧ (∃ (s : State) (port : Nat) (b : Nat) (g : Nat) (e : Env) (f : MemberPl), (s.inOrder .phi port e) ∧ (e.basin.toNat = b) ∧ (e.gen.toNat = g) ∧ (f.tear
      = false) ∧ (f.action = 2) ∧ (port ≠ s.uplink) ∧ (s.sequences b g = false)) :=
  ⟨⟨withP base, 512, envB, by unfold State.inOrder; decide +kernel⟩,
   ⟨withP base, 512, 3, 1, envB, lpl 5000100000, by unfold State.inOrder; decide +kernel⟩,
   ⟨withP base, 512, 3, 1, envB, lpl 5000100000, by unfold State.inOrder; decide +kernel⟩,
   ⟨{ withP base with phi.keys := [⟨3, 1, 5, 1, [705132704], 6000000000⟩] }, 512, 3, 1, envB, lpl 705132704, ⟨3, 1, 5, 1, [705132704], 6000000000⟩,
    by unfold State.inOrder; decide +kernel⟩,
   ⟨withP base, 512, 3, 1, envB, lpl 5000100000, by unfold State.inOrder; decide +kernel⟩,
   ⟨withP base, 0, 3, 1, envB, lpl 705132704, by unfold State.inOrder; decide +kernel⟩,
   ⟨withQ base { sq [] .running with issued := [{ iss 5000100000 with step := 5, announced := true }], issuedAny := true, lastIssued := 5 }, 0, 3, 1,
    envB, { lpl 705132704 with count := 2 },
    { sq [] .running with issued := [{ iss 5000100000 with step := 5, announced := true }], issuedAny := true, lastIssued := 5 },
    { iss 5000100000 with step := 5, announced := true }, by unfold State.inOrder; decide +kernel⟩,
   ⟨withQ base { sq [] .running with issued := [iss 5000001000] }, 3, { sq [] .running with issued := [iss 5000001000] }, 1, by decide +kernel⟩,
   ⟨{ base with hub.routes := [(1, 0)] }, 512, 3, 1, 0, envB, ⟨1, 0, false, 9⟩, by unfold State.inOrder; decide +kernel⟩,
   ⟨withP base, 0, 3, 1, envB, ⟨1, 2, false, 9⟩, by unfold State.inOrder; decide +kernel⟩⟩

/-- Each hypothesis of `HallGates` is met. -/
theorem witness_HallGates :
    (∃ (s : State) (port : Nat) (b : Nat) (g : Nat) (e : Env) (f : GatePl), (s.inOrder .phi port e) ∧ (e.basin.toNat = b) ∧ (e.gen.toNat = g) ∧ (∀ d ∈
      s.hub.discards, ¬(d.basin = b ∧ d.gen = g)) ∧ ((s.memberPorts b g).contains port = true) ∧ (s.seq? b = none) ∧ (s.gateCtx? b g f.gate.toNat =
      none) ∧ (creditFree 65536 (s.counted 8) (s.hub.gates.map (·.basin)) b = true))
    ∧ (∃ (s : State) (port : Nat) (b : Nat) (g : Nat) (e : Env) (f : GatePl) (q : _) (c : _), (s.inOrder .phi port e) ∧ (e.basin.toNat = b) ∧ (e.gen.toNat =
      g) ∧ (∀ d ∈ s.hub.discards, ¬(d.basin = b ∧ d.gen = g)) ∧ ((s.memberPorts b g).contains port = true) ∧ (s.seq? b = some q) ∧ (q.gen = g) ∧
      (q.role = .leader) ∧ (s.gateCtx? b g f.gate.toNat = some c) ∧ (f.use = c.released + 1) ∧ (c.counts = []) ∧ (0 < s.gateMembers b g) ∧
      (s.gateMembers b g ≤ f.count.toNat))
    ∧ (∃ (s : State) (port : Nat) (b : Nat) (g : Nat) (e : Env) (f : GatePl) (c : GateCtx), (s.inOrder .phi port e) ∧ (e.basin.toNat = b) ∧ (e.gen.toNat =
      g) ∧ (s.gateCtx? b g f.gate.toNat = some c) ∧ ((f.use - c.released).toInt > 0) ∧ (∀ k ∈ s.phi.relKeys, ¬(k.basin = b ∧ k.gen = g ∧ k.gate =
      f.gate.toNat ∧ k.use = f.use)))
    ∧ (∃ (s : State) (port : Nat) (b : Nat) (g : Nat) (e : Env) (f : GatePl), (s.inOrder .phi port e) ∧ (e.basin.toNat = b) ∧ (e.gen.toNat = g) ∧
      (s.gateCtx? b g f.gate.toNat = none) ∧ (s.sequences b g = true) ∧ (creditFree 65536 (s.counted 8) (s.hub.gates.map (·.basin)) b = true) ∧ (∀ k ∈
      s.phi.relKeys, ¬(k.basin = b ∧ k.gen = g ∧ k.gate = f.gate.toNat ∧ k.use = f.use)))
    ∧ (∃ (s : State) (b : Nat) (g : Nat) (gate : Nat) (c : GateCtx) (x : W64), (s.gateCtx? b g gate = some c) ∧ (c.lastRelNs = some x) ∧ (s.sequences b g =
      false ∧ c.counts = [] ∧ (s.ns .phi - x).toInt ≥ 100000))
    ∧ (∃ (s : State) (b : Nat) (gate : Nat) (q : Seq) (c : GateCtx) (x : W64), (s.seq? b = some q) ∧ (s.gateCtx? b q.gen gate = some c) ∧ (c.fullNs = some
      x) ∧ (q.role = .follower ∧ (s.ns .phi - x).toInt ≥ 4000))
    ∧ (∃ (s : State) (b : Nat) (gate : Nat) (q : Seq) (c : GateCtx) (x : W64), (s.seq? b = some q) ∧ (s.gateCtx? b q.gen gate = some c) ∧ (c.firstNs = some
      x) ∧ (c.full = false) ∧ (q.role ≠ .detached) ∧ ((s.ns .phi - x).toInt ≥ 1000 * (q.waitUs : Int))) :=
  ⟨⟨withP base, 0, 3, 1, envB, gpl 1 1, by unfold State.inOrder; decide +kernel⟩,
   ⟨{ withQ base { sq [] .running with issuedAny := true, lastIssued := 1, lastL := 5000000000 } with hub.gates := [{ basin := 3, gen := 1, gate := 2, released := 0 }] },
    0, 3, 1, envB, gpl 1 2, { sq [] .running with issuedAny := true, lastIssued := 1, lastL := 5000000000 },
    { basin := 3, gen := 1, gate := 2, released := 0 }, by unfold State.inOrder; decide +kernel⟩,
   ⟨{ withP base with hub.gates := [{ basin := 3, gen := 1, gate := 2, released := 0 }] }, 512, 3, 1, envB, gpl 1 2,
    { basin := 3, gen := 1, gate := 2, released := 0 }, by unfold State.inOrder; decide +kernel⟩,
   ⟨withQ base (sq [] .running), 0, 3, 1, envB, gpl 1 2, by unfold State.inOrder; decide +kernel⟩,
   ⟨{ withP base with hub.gates := [{ basin := 3, gen := 1, gate := 2, released := 0, lastRelNs := some 5 }] }, 3, 1, 2,
    { basin := 3, gen := 1, gate := 2, released := 0, lastRelNs := some 5 }, 5, by decide +kernel⟩,
   ⟨{ withQ base { sq [] .running with role := .follower } with hub.gates := [{ basin := 3, gen := 1, gate := 2, released := 0, fullNs := some 5, full := true }] },
    3, 2, { sq [] .running with role := .follower }, { basin := 3, gen := 1, gate := 2, released := 0, fullNs := some 5, full := true }, 5,
    by decide +kernel⟩,
   ⟨{ withQ base (sq [] .running) with hub.gates := [{ basin := 3, gen := 1, gate := 2, released := 0, firstNs := some 5 }] }, 3, 2, sq [] .running,
    { basin := 3, gen := 1, gate := 2, released := 0, firstNs := some 5 }, 5, by decide +kernel⟩⟩

/-- Each hypothesis of `MeterIntervals` is met. -/
theorem witness_MeterIntervals :
    (∃ (s : State) (frame : List Byte) (v : Int) (i : Int) (uv : Int) (ua : Int), (s.meter.metering = true) ∧ (adcCodes frame = some (v, i)) ∧ (uv = v *
      (s.meter.param 0x01).toNat / 2 ^ 24 + (s.meter.param 0x02).toInt) ∧ (ua = i * (s.meter.param 0x03).toNat / 2 ^ 24 + (s.meter.param 0x04).toInt))
    ∧ (∃ (s : State) (frame : List Byte) (retry : List Byte) (v : Int) (i : Int), (s.meter.metering = true) ∧ (adcCodes frame = none) ∧ (adcCodes retry =
      some (v, i)))
    ∧ (∃ (s : State) (frame : List Byte) (retry : List Byte), (s.meter.metering = true) ∧ (adcCodes frame = none) ∧ (adcCodes retry = none) ∧
      (s.meter.missed ≠ 256))
    ∧ (∃ (s : State) (cycles : Nat), (s.meter.metering = true) ∧ ((s.htStopped = false ∧ s.gridReached = true ∧ s.meter.storeFull = false) ∨ (s.htStopped =
      true ∧ 2 ^ s.meter.exp ≤ meterNs cycles)))
    ∧ (∃ (s : State) (no : Nat) (unbound : Nat) (uses : Tab BerthUse) (rest : List (Nat × Nat × Tab BerthUse)), (s.meter.metering = true) ∧ (s.die.cutUses =
      (no, unbound, uses) :: rest))
    ∧ (∃ (s : State) (addr : Nat), (s.meter.metering = true) ∧ (1 ≤ addr) ∧ (addr ≤ 7))
    ∧ (∃ (s : State) (k : StoreCheck) (e : Ended) (es : List Ended), (k.both = none) ∧ (s.meter.metering = true) ∧ (s.meter.ended = e :: es) ∧ (e.closedNs +
      5000000 ≤ s.mtrNs))
    ∧ (∃ (s : State) (r : W32), (3 ≤ s.tsu.cfg.startStep) ∧ ((tabGet {} s.tsu.engines 5 : EngineSt).step = 0) ∧ (s.cutNow = false) ∧ (s.reportBerth (r.toNat
      % 2048) = 0))
    ∧ (∃ (s : State) (r : W32) (b : _), (3 ≤ s.tsu.cfg.startStep) ∧ ((tabGet {} s.tsu.engines 5 : EngineSt).step = 0) ∧ (s.cutNow = false) ∧ (s.reportBerth
      (r.toNat % 2048) = b) ∧ (b ≠ 0))
    ∧ (∃ (s : State) (l : _) (no : _) (un : _) (uses : _), (3 ≤ s.tsu.cfg.startStep) ∧ ((tabGet {} s.tsu.engines 5 : EngineSt).step = 0) ∧ (s.die.cutCyc =
      some s.cyc) ∧ (s.die.cutUses = l ++ [(no, un, uses)]))
    ∧ (∃ (s : State) (ring : Nat) (idx : Nat) (d : Desc), (s.ready .tsu ring idx 0x30 d) ∧ (s.coreEnabled (d.pl 0 2) = true) ∧ (d.plBits 4 4 0 20 = 0 ∨
      s.meterHigh = false ∨ s.berthBound (d.plBits 4 4 0 20) = true)) :=
  ⟨⟨mtr, adc57, 5, 7, 5, 7, by decide +kernel⟩,
   ⟨mtr, adc57.take 7 ++ [0], adc57, 5, 7, by decide +kernel⟩,
   ⟨mtr, [], [], by decide +kernel⟩,
   ⟨mtr, 12500, by decide +kernel⟩,
   ⟨{ mtr with die.cutUses := [(4, 9, [(2, { units := 3 })])], meter.ended := [ended1] }, 4, 9, [(2, { units := 3 })], [], by decide +kernel⟩,
   ⟨{ mtr with meter.ended := [ended1] }, 7, by decide +kernel⟩,
   ⟨{ mtr with cyc := 1000000000000,  meter.ended := [ended1] }, {}, ended1, [], by decide +kernel⟩,
   ⟨base, 2048 * 5 + 9, by decide +kernel⟩,
   ⟨{ base with die.binds := [(9, [⟨2, 5, none⟩])] }, 2048 * 5 + 9, 2, by decide +kernel⟩,
   ⟨{ base with cyc := 40, die.cutCyc := some 40, die.cutUses := [(4, 9, [])], die.binds := [(9, [⟨2, 5, none⟩])] }, [], 4, 9, [], by decide +kernel⟩,
   ⟨withD mtr .tsu (mk 0x30 [7, 0, 1, 0, 5]), 3, 0, mk 0x30 [7, 0, 1, 0, 5], by unfold State.ready; decide +kernel⟩⟩

/-- Each hypothesis of `MeterBlocks` is met. -/
theorem witness_MeterBlocks :
    (∃ (s : State), (s.meter.metering = true) ∧ (s.meter.openRecs ≠ []) ∧ (s.meter.openNs + 1000000 * (s.meter.param 0x11).toNat ≤ s.mtrNs))
    ∧ (∃ (s : State) (k : StoreCheck) (d : Draft) (ds : List Draft), (k.both = none) ∧ (s.meter.metering = true) ∧ (s.meter.drafts = d :: ds))
    ∧ (∃ (s : State) (port : Nat) (e : Env) (f : RecAckPl) (k : StoreCheck), (k.both = none) ∧ (s.inOrder .tsu port e) ∧ (s.engineShut .tsu 5 = false) ∧
      (s.meter.metering = true) ∧ (f.status = 0x00))
    ∧ (∃ (s : State) (port : Nat) (e : Env) (f : RecAckPl) (k : StoreCheck), (k.both = none) ∧ (s.inOrder .tsu port e) ∧ (s.engineShut .tsu 5 = false) ∧
      (s.meter.metering = true) ∧ (f.status = 0x0C))
    ∧ (∃ (s : State) (b : Block) (bs : List Block) (x : Nat), (s.meter.metering = true) ∧ (s.meter.blocks = b :: bs) ∧ (s.meter.waitUntil = none) ∧
      (b.sentNs = some x) ∧ (x + 1000000 * s.mtrAckMs ≤ s.mtrNs))
    ∧ (∃ (s : State), (s.meter.metering = true))
    ∧ (∃ (s : State), (s.meter.metering = true) ∧ (s.meter.mstate = .meterSealed)) :=
  ⟨⟨{ mtr with cyc := 1000000000000,  meter.openRecs := [zeros 96] }, by decide +kernel⟩,
   ⟨{ mtr with meter.drafts := [⟨[zeros 96], 1, false, .meterOpen, 0⟩] }, {}, ⟨[zeros 96], 1, false, .meterOpen, 0⟩, [], by decide +kernel⟩,
   ⟨{ mtr with meter.blocks := [⟨1, [5], [[6]], some 5, false⟩], meter.rseq := 1 }, 0, env 0, ⟨1, 0⟩, {}, by unfold State.inOrder; decide +kernel⟩,
   ⟨mtr, 0, env 0, ⟨1, 0x0C⟩, { single := 2 }, by unfold State.inOrder; decide +kernel⟩,
   ⟨{ mtr with cyc := 1000000000000,  meter.blocks := [⟨1, [5], [[6]], some 5, false⟩], meter.rseq := 1 }, ⟨1, [5], [[6]], some 5, false⟩, [], 5,
    by decide +kernel⟩,
   ⟨mtr, by decide +kernel⟩,
   ⟨{ mtr with meter.mstate := .meterSealed }, by decide +kernel⟩⟩

/-- Each hypothesis of `MeterCommands` is met. -/
theorem witness_MeterCommands :
    (∃ (s : State) (ring : Nat) (idx : Nat) (op : Nat) (d : Desc), (s.ready .tsu ring idx op d) ∧ (s.meter.metering = true) ∧ (op = 0x31) ∧ (paramInRange
      true (d.pl 0 1) (BitVec.ofNat 64 (d.pl 8 8)) = true) ∧ (s.meter.logLow = false) ∧ (s.meter.mstate = .meterOpen) ∧ (¬(d.pl 0 1 = 0x05 ∧
      s.meter.accepted 0x05 ≠ 0)))
    ∧ (∃ (s : State) (ring : Nat) (idx : Nat) (op : Nat) (d : Desc), (s.ready .tsu ring idx op d) ∧ (s.meter.metering = true) ∧ (op = 0x31) ∧ (paramInRange
      true (d.pl 0 1) (BitVec.ofNat 64 (d.pl 8 8)) = true) ∧ (s.meter.logLow = false) ∧ (s.meter.mstate ≠ .meterOpen) ∧ (0x10 ≤ d.pl 0 1) ∧
      (s.meter.evtCnt ≠ 2 ^ 32 - 1))
    ∧ (∃ (s : State) (ring : Nat) (idx : Nat) (op : Nat) (d : Desc), (s.ready .tsu ring idx op d) ∧ (s.meter.metering = true) ∧ (op = 0x31) ∧ (paramInRange
      true (d.pl 0 1) (BitVec.ofNat 64 (d.pl 8 8)) = true) ∧ (s.meter.logLow = false) ∧ (s.meter.mstate ≠ .meterOpen) ∧ (d.pl 0 1 < 0x10))
    ∧ (∃ (s : State) (ring : Nat) (idx : Nat) (op : Nat) (d : Desc), (s.ready .tsu ring idx op d) ∧ (s.meter.metering = true) ∧ (op = 0x32) ∧ (d.plBits 0 1
      0 2 = 1) ∧ (s.meter.mstate = .meterOpen) ∧ (s.tsu.cfg.lcState = 2) ∧ (s.meter.tamperOpen = false) ∧ (s.meter.param 0x05 ≠ 0) ∧
      (s.meter.sealEpoch ≠ 65535) ∧ (s.meter.logLow = false))
    ∧ (∃ (s : State) (ring : Nat) (idx : Nat) (op : Nat) (d : Desc), (s.ready .tsu ring idx op d) ∧ (s.meter.metering = true) ∧ (op = 0x32) ∧ (d.plBits 0 1
      0 2 = 0) ∧ (s.meter.mstate ≠ .meterOpen) ∧ (s.tsu.cfg.lcState = 2 ∨ s.tsu.cfg.lcState = 3) ∧ (s.meter.storeRecs = 0))
    ∧ (∃ (s : State) (ring : Nat) (idx : Nat) (op : Nat) (d : Desc), (s.ready .tsu ring idx op d) ∧ (s.meter.metering = true) ∧ (op = 0x33) ∧ (d.pl 4 4 ≠ 0)
      ∧ (d.pl 4 4 ≤ 65536) ∧ (d.pl 8 8 % 64 = 0)) :=
  ⟨⟨withD mtr .tsu (mk 0x31 [5, 0, 0, 0, 0, 0, 0, 0, 9]), 3, 0, 0x31, mk 0x31 [5, 0, 0, 0, 0, 0, 0, 0, 9], by unfold State.ready; decide +kernel⟩,
   ⟨withD { mtr with meter.mstate := .meterSealed } .tsu (mk 0x31 [0x13, 0, 0, 0, 0, 0, 0, 0, 1]), 3, 0, 0x31, mk 0x31 [0x13, 0, 0, 0, 0, 0, 0, 0, 1],
    by unfold State.ready; decide +kernel⟩,
   ⟨withD { mtr with meter.mstate := .meterSealed } .tsu (mk 0x31 [5, 0, 0, 0, 0, 0, 0, 0, 1]), 3, 0, 0x31, mk 0x31 [5, 0, 0, 0, 0, 0, 0, 0, 1],
    by unfold State.ready; decide +kernel⟩,
   ⟨withD { mtr with meter.params := [(1, 16777216), (5, 9)], tsu.cfg.lcState := 2 } .tsu (mk 0x32 [1]), 3, 0, 0x32, mk 0x32 [1],
    by unfold State.ready; decide +kernel⟩,
   ⟨withD { mtr with meter.mstate := .sealBroken, tsu.cfg.lcState := 3 } .tsu (mk 0x32 [0]), 3, 0, 0x32, mk 0x32 [0],
    by unfold State.ready; decide +kernel⟩,
   ⟨withD { mtr with meter.log := [zeros 64, zeros 64] } .tsu (mk 0x33 [0, 0, 0, 0, 5, 0, 0, 0, 64]), 3, 0, 0x33, mk 0x33 [0, 0, 0, 0, 5, 0, 0, 0, 64],
    by unfold State.ready; decide +kernel⟩⟩

/-- Each hypothesis of `RingService` is met. -/
theorem witness_RingService :
    (∃ (s : State) (p : Part) (ring : Nat) (off : Nat) (data : List Byte), (ring < ringCount p) ∧ (off + data.length ≤ 32) ∧ (s.reaches p (ringOffset p
      ring off) data.length) ∧ (s.flrNow p = false) ∧ (p = .tsu → 3 ≤ s.tsu.cfg.startStep) ∧ (touchesEn off data.length = false) ∧ ((s.ring p
      ring).rstate = .disabled ∨ (s.ring p ring).rstate = .draining))
    ∧ (∃ (s : State) (p : Part) (ring : Nat) (off : Nat) (data : List Byte) (en : _), (ring < ringCount p) ∧ (off + data.length ≤ 32) ∧ (s.reaches p
      (ringOffset p ring off) data.length) ∧ (s.flrNow p = false) ∧ (p = .tsu → 3 ≤ s.tsu.cfg.startStep) ∧ (touchesEn off data.length = true) ∧ (en =
      ringEntryOf (entryMask (splice (s.ring p ring).stagedWords off data))) ∧ (en.en = true) ∧ ((ringEntryOf (splice (zeros 32) off data)).en = true)
      ∧ ((s.ring p ring).rstate = .disabled) ∧ (en.ok p = true))
    ∧ (∃ (s : State) (p : Part) (ring : Nat) (off : Nat) (data : List Byte), (ring < ringCount p) ∧ (off + data.length ≤ 32) ∧ (s.reaches p (ringOffset p
      ring off) data.length) ∧ (s.flrNow p = false) ∧ (p = .tsu → 3 ≤ s.tsu.cfg.startStep) ∧ (touchesEn off data.length = true) ∧ ((ringEntryOf
      (entryMask (splice (s.ring p ring).stagedWords off data))).en = false) ∧ ((ringEntryOf (splice (zeros 32) off data)).en = false) ∧ ((s.ring p
      ring).rstate = .enabled) ∧ ((s.ring p ring).enCyc ≠ some s.cyc))
    ∧ (∃ (s : State) (ring : Nat) (off : Nat) (data : List Byte), (ring < 4096) ∧ (off + data.length ≤ 32) ∧ (touchesEn off data.length = false) ∧
      (s.reaches .phi (ringOffset .phi ring off) data.length) ∧ (s.flrNow .phi = true))
    ∧ (∃ (s : State) (p : Part) (ring : Nat), ((s.ring p ring).rstate = .draining) ∧ ((s.ring p ring).inflight = [] ∧ (s.ring p ring).held = []))
    ∧ (∃ (s : State) (p : Part) (ring : Nat) (prod : W32) (cons : W32), (ring < ringCount p) ∧ (s.watches p = true) ∧ (s.ringHeld p = false) ∧ ((s.ring p
      ring).rstate ≠ .disabled) ∧ ((cons - (s.ring p ring).cplCons).toNat ≤ ((s.ring p ring).cplProd - (s.ring p ring).cplCons).toNat) ∧ ((prod -
      (s.ring p ring).fetched).toNat ≤ 2 ^ (s.ring p ring).entry.sizeLog2))
    ∧ (∃ (s : State) (p : Part), (s.watches p = false))
    ∧ (∃ (s : State) (p : Part) (i : Nat) (bytes : List Byte) (d : Desc), (s.ringHeld p = false) ∧ (s.nextRing p = some i) ∧ (d = ⟨(s.ring p i).fetched,
      padTo 64 bytes, false, 0, false, false⟩) ∧ (s.ringsWait p = false) ∧ (∀ l, (s.ring p i).lastDseq = some l → (d.dseq - l).toInt > 0) ∧
      (s.headerStatus p false d.opcode = none))
    ∧ (∃ (s : State) (p : Part) (ring : Nat) (x : W64), ((s.ring p ring).irqPend = true) ∧ ((s.ring p ring).lastIrqNs = some x) ∧ ((s.ns p - x).toInt ≥ 1000
      * ((s.ring p ring).entry.holdoffUs : Int))) :=
  ⟨⟨base, .tsu, 63, 0, zeros 8, by unfold State.reaches; decide +kernel⟩,
   ⟨ringIs base .tsu { stagedWords := zeros 32 }, .tsu, 3, 24, [6, 3, 5, 0], { sizeLog2 := 6, en := true, irqEn := true, vector := 5 },
    by unfold State.reaches; decide +kernel⟩,
   ⟨ringIs base .tsu { entry := { sizeLog2 := 6, en := true }, rstate := .enabled, stagedWords := zeros 32 }, .tsu, 3, 24, [6, 0, 0, 0],
    by unfold State.reaches; decide +kernel⟩,
   ⟨{ base with phi.cycs.flr := some 0 }, 3, 0, zeros 8, by unfold State.reaches; decide +kernel⟩,
   ⟨ringIs base .tsu { entry := { sizeLog2 := 6 }, rstate := .draining }, .tsu, 3, by decide +kernel⟩,
   ⟨ringIs base .tsu { entry := { sizeLog2 := 6, en := true }, rstate := .enabled, fetched := 5, prod := 5, cplProd := 4, cplCons := 2 }, .tsu, 3, 69, 4,
    by decide +kernel⟩,
   ⟨base, .phi, by decide +kernel⟩,
   ⟨ringIs base .tsu { entry := { sizeLog2 := 6, en := true }, rstate := .enabled, fetched := 5, prod := 6 }, .tsu, 3, [1], ⟨5, padTo 64 [1], false, 0,
    false, false⟩, by decide +kernel, by decide +kernel, by decide +kernel, by decide +kernel,
    by intro l h; exact absurd (show (none : Option W64) = some l from h) (by simp), by decide +kernel⟩,
   ⟨ringIs base .tsu
    { entry := { sizeLog2 := 6, en := true, irqEn := true, vector := 3, holdoffUs := 65535 }, rstate := .enabled, irqPend := true, lastIrqNs := some 5 },
    .tsu, 3, 5, by decide +kernel⟩⟩

/-- Each hypothesis of `CommandsAndPages` is met. -/
theorem witness_CommandsAndPages :
    (∃ (s : State) (p : Part) (ring : Nat) (idx : Nat) (d : Desc), (s.ready p ring idx 0x01 d))
    ∧ (∃ (s : State) (p : Part) (ring : Nat) (idx : Nat) (n : Nat) (d : Desc), (s.desc? p ring idx = some d) ∧ (d.started = true) ∧ (d.limit = some n) ∧
      ((s.ns p - d.startNs).toInt ≥ 1000000 * (n : Int)) ∧ (p = .phi → d.opcode ≠ 0x42))
    ∧ (∃ (s : State) (p : Part) (ring : Nat) (idx : Nat) (d : Desc), (s.ready p ring idx 0x02 d))
    ∧ (∃ (s : State) (p : Part), (s.ringHeld p = false) ∧ ((s.part p).page.changeNs ≠ none))
    ∧ (∃ (s : State) (ring : Nat) (idx : Nat) (b : Nat) (d : Desc) (bs : _), (s.ready .phi ring idx 0x18 d) ∧ (d.plBits 2 2 0 12 = b) ∧ (s.sequences b (d.pl
      4 2) = true) ∧ (d.pl 16 8 % 64 = 0) ∧ (1 ≤ d.pl 24 4) ∧ (d.plBit 0 0 = false) ∧ (d.pl 24 4 ≤ 4096) ∧ (((((s.gateView.filter (fun c => c.basin ==
      b)).map s.gateEntry).take (d.pl 24 4)).flatten) = bs))
    ∧ (∃ (s : State) (ring : Nat) (idx : Nat) (b : Nat) (d : Desc) (bs : _) (o : _), (s.ready .phi ring idx 0x18 d) ∧ (d.plBits 2 2 0 12 = b) ∧ (s.sequences
      b (d.pl 4 2) = true) ∧ (d.pl 16 8 % 64 = 0) ∧ (1 ≤ d.pl 24 4) ∧ (d.plBit 0 0 = true) ∧ (d.pl 24 4 ≤ 528) ∧ (s.op? b (d.pl 4 2) (BitVec.ofNat 32
      (d.pl 8 4)) = some o) ∧ (o.opened = true) ∧ (((s.shortfall o 0xFFFF).take (d.pl 24 4)).flatten = bs))
    ∧ (∃ (s : State) (p : Part), ((s.part p).page.hbAddr ≠ 0) ∧ (s.watches p = true))
    ∧ (∃ (s : State) (p : Part), ((s.part p).page.driver = .present) ∧ (s.hbTimeoutMs p ≠ 0) ∧ ((s.ns p - (s.part p).page.hbLastNs).toInt ≥ 1000000 *
      (s.hbTimeoutMs p : Int)))
    ∧ (∃ (s : State) (p : Part), ((s.part p).page.lapse = true) ∧ ((s.part p).page.driver = .present)) :=
  ⟨⟨withD base .tsu (mk 1 []), .tsu, 3, 0, mk 1 [], by unfold State.ready; decide +kernel⟩,
   ⟨withD base .tsu { mk 0x20 [] with started := true }, .tsu, 3, 0, 10, { mk 0x20 [] with started := true }, by decide +kernel⟩,
   ⟨withD { base with tsu.page.stateAddr := 0x4000 } .tsu (mk 2 []), .tsu, 3, 0, mk 2 [], by unfold State.ready; decide +kernel⟩,
   ⟨{ base with tsu.page.changeNs := some 5 }, .tsu, by decide +kernel⟩,
   ⟨withD { withQ base (sq [] .running) with hub.gates := [{ basin := 3, gen := 1, gate := 2, released := 0 }] } .phi (mk 0x18 ([0, 0, 3, 0, 1, 0] ++
    zeros 10 ++ [64, 0, 0, 0, 0, 0, 0, 0, 1])), 3, 0, 3, mk 0x18 ([0, 0, 3, 0, 1, 0] ++ zeros 10 ++ [64, 0, 0, 0, 0, 0, 0, 0, 1]), _,
    by unfold State.ready; decide +kernel, by decide +kernel, by decide +kernel, by decide +kernel, by decide +kernel, by decide +kernel,
    by decide +kernel, rfl⟩,
   ⟨withD { withQ base (sq [] .running) with hub.ops := [opx] } .phi (mk 0x18 ([1, 0, 3, 0, 1, 0, 0, 0, 7, 5, 0, 0] ++ zeros 4 ++ [64, 0, 0, 0, 0, 0, 0,
    0, 9])), 3, 0, 3, mk 0x18 ([1, 0, 3, 0, 1, 0, 0, 0, 7, 5, 0, 0] ++ zeros 4 ++ [64, 0, 0, 0, 0, 0, 0, 0, 9]), _, opx,
    by unfold State.ready; decide +kernel, by decide +kernel, by decide +kernel, by decide +kernel, by decide +kernel, by decide +kernel,
    by decide +kernel, by decide +kernel, by decide +kernel, rfl⟩,
   ⟨{ base with tsu.page.hbAddr := 0x8000 }, .tsu, by decide +kernel⟩,
   ⟨{ base with tsu.page.driver := .present }, .tsu, by decide +kernel⟩,
   ⟨{ base with tsu.page.lapse := true, tsu.page.driver := .present }, .tsu, by decide +kernel⟩⟩

/-- Each hypothesis of `LedgerAndTransfers` is met. -/
theorem witness_LedgerAndTransfers :
    (∃ (s : State), (s.watches .phi = true) ∧ (s.hub.led.base ≠ 0) ∧ (s.hub.led.waiting = []))
    ∧ (∃ (s : State), (s.watches .phi = false))
    ∧ (∃ (s : State), (s.phi.page.cxlCache = false) ∧ ((s.ns .phi - s.phi.page.pollNs).toInt ≥ 1000 * (s.pollUs : Int)))
    ∧ (∃ (s : State) (port : Nat) (e : Env) (f : RecordPl), (s.inOrder .phi port e) ∧ (s.engineShut .phi 7 = false) ∧ (s.tier = 1) ∧ (port < 512) ∧ (tabGet?
      s.hub.transfers port = none) ∧ (f.chunk = 0) ∧ (f.last = false))
    ∧ (∃ (s : State) (port : Nat) (e : Env) (f : RecordPl) (x : _), (s.inOrder .phi port e) ∧ (s.engineShut .phi 7 = false) ∧ (s.tier = 1) ∧ (port < 512) ∧
      (tabGet? s.hub.transfers port = some x) ∧ (x.bad = false) ∧ (f.rseq = x.rseq) ∧ (f.chunk ≠ 0) ∧ (f.chunk.toNat = x.next) ∧ (x.next < 2058) ∧
      (f.last = false))
    ∧ (∃ (s : State) (port : Nat) (e : Env) (f : RecordPl) (x : _) (data : _) (meter : _), (s.inOrder .phi port e) ∧ (s.engineShut .phi 7 = false) ∧ (s.tier
      = 1) ∧ (port < 512) ∧ (tabGet? s.hub.transfers port = some x) ∧ (x.bad = false) ∧ (f.rseq = x.rseq) ∧ (f.chunk ≠ 0) ∧ (f.chunk.toNat = x.next) ∧
      (x.next < 2058) ∧ (f.last = true) ∧ (data = x.data ++ padTo 20 f.data) ∧ (transferValid f.rseq data = true) ∧ (192 + 160 * field data 32 2 ≤
      data.length) ∧ (meter = BitVec.ofNat 64 (field data 16 8)) ∧ (s.anchor? meter = none) ∧ (s.stagingUsed * 10 < s.stagingSize * 9))
    ∧ (∃ (s : State) (r : Readback) (rs : List Readback), (s.hub.led.readback = r :: rs))
    ∧ (∃ (s : State) (meter : W64) (a : Anchor), (s.anchor? meter = some a) ∧ ((s.ns .phi - a.lastNs).toInt ≥ 3600000000000))
    ∧ (∃ (s : State), (∀ m ∈ s.hub.marksDue, (s.ns .phi - m.l).toInt < 0) ∧ ((s.ns .phi - s.totalsGrid).toInt ≥ 0))
    ∧ (∃ (s : State) (p : Period) (ps : List Period), (s.hub.closing = p :: ps) ∧ ((s.ns .phi - p.endNs).toInt ≥ 1000000 * (s.totalsGraceMs : Int))) :=
  ⟨⟨{ base with hub.led.base := 0x1000, phi.page.cxlCache := true }, by decide +kernel⟩,
   ⟨{ base with hub.led.base := 0x1000 }, by decide +kernel⟩,
   ⟨{ base with hub.led.base := 0x1000 }, by decide +kernel⟩,
   ⟨base, 0, env 0, rpl 0 false, by unfold State.inOrder; decide +kernel⟩,
   ⟨{ base with hub.transfers := [(0, ⟨3, 2057, zeros 40, false⟩)] }, 0, env 0, rpl 2057 false, ⟨3, 2057, zeros 40, false⟩,
    by unfold State.inOrder; decide +kernel⟩,
   ⟨{ base with hub.transfers := [(0, ⟨3, 17, xfer.take 340, false⟩)] }, 0, env 0, rpl 17 true, ⟨3, 17, xfer.take 340, false⟩, padTo 360 (xfer.take 340),
    5, by unfold State.inOrder; decide +kernel⟩,
   ⟨{ base with hub.led.readback := [⟨0, 5, 6⟩, ⟨1, 5, 7⟩] }, ⟨0, 5, 6⟩, [⟨1, 5, 7⟩], by decide +kernel⟩,
   ⟨wt { base with hub.anchors := [⟨5, some 3, some 3, none, 0⟩] } .phi (fun t => { t with acc := BitVec.ofNat 112 (3600000000000 * 2 ^ 48) }), 5, ⟨5,
    some 3, some 3, none, 0⟩, by decide +kernel⟩,
   ⟨wt base .phi (fun t => { t with acc := BitVec.ofNat 112 (2 ^ 36 * 2 ^ 48) }), by decide +kernel⟩,
   ⟨wt { base with hub.closing := [{ endNs := 5 }] } .phi (fun t => { t with acc := BitVec.ofNat 112 (2 ^ 36 * 2 ^ 48) }), { endNs := 5 }, [],
    by decide +kernel⟩⟩

/-- Each hypothesis of `MemoryPairs` is met. -/
theorem witness_MemoryPairs :
    (∃ (s : State) (pkg : Nat) (i : Nat), (pkg < 24) ∧ (s.pairOf pkg = some i))
    ∧ (∃ (s : State) (pkg : Nat) (i : Nat), (pkg < 24) ∧ (s.pairOf pkg = some i))
    ∧ (∃ (s : State) (pkg : Nat) (i : Nat), (pkg < 24) ∧ (s.pairOf pkg = some i) ∧ ((s.hub.pairs.getD i {}).lost = false))
    ∧ (∃ (s : State) (pair : Nat) (x : Nat) (m : MemPair), (s.hub.pairs.getD pair {} = m) ∧ (m.resilver = some x) ∧ (m.a = none))
    ∧ (∃ (s : State) (pair : Nat) (x : Nat) (y : Nat), (pair < 10) ∧ ((s.hub.pairs.getD pair {}).lost = true) ∧ ((s.hub.pairs.getD pair {}).rebuild = some
      (some x, some y)))
    ∧ (∃ (s : State) (pair : Nat) (x : Nat) (y : Nat), (pair < 10) ∧ (¬(2 ≤ pair ∧ pair < 8)) ∧ ((s.hub.pairs.getD pair {}).lost = true) ∧
      ((s.hub.pairs.getD pair {}).rebuild = none) ∧ (s.spareBelow 0 = some x) ∧ (s.spareBelow (x + 1) = some y))
    ∧ (∃ (s : State) (pair : Nat) (n : Nat) (rest : List (Nat × Nat)), (s.hub.dredging = (pair, n) :: rest)) :=
  ⟨⟨base, 19, 9, by decide +kernel⟩,
   ⟨base, 3, 1, by decide +kernel⟩,
   ⟨base, 3, 1, by decide +kernel⟩,
   ⟨{ base with hub.pairs := [{ b := some 1, resilver := some 20 }] ++ base.hub.pairs.drop 1 }, 0, 20, { b := some 1, resilver := some 20 },
    by decide +kernel⟩,
   ⟨{ base with hub.pairs := [{ lost := true, rebuild := some (some 20, some 21) }] ++ base.hub.pairs.drop 1 }, 0, 20, 21, by decide +kernel⟩,
   ⟨{ base with hub.pairs := [{ lost := true }] ++ base.hub.pairs.drop 1 }, 0, 20, 21, by decide +kernel⟩,
   ⟨{ base with hub.dredging := [(1, 5)] }, 1, 5, [], by decide +kernel⟩⟩

/-- Each hypothesis of `UnitControl` is met. -/
theorem witness_UnitControl :
    (∃ (s : State) (p : Part) (kind : Nat) (i : Nat), ((s.unit p kind i).rateNoted = false) ∧ ((s.unit p kind i).transient - (s.unit p kind i).winBase >
      s.transientWarn p))
    ∧ (∃ (s : State) (port : Nat) (e : Env) (f : NotePl), (s.inOrder .phi port e) ∧ (f.cause ≠ Cause.memberReset.w))
    ∧ (∃ (s : State) (p : Part) (ring : Nat) (idx : Nat) (kind : Nat) (action : Nat) (i : Nat) (d : Desc) (st : _), (s.ready p ring idx 0x43 d) ∧
      (d.unitCtrl = (kind, action, i)) ∧ (s.unitRefused p kind action i = some st) ∧ (action = 0))
    ∧ (∃ (s : State) (p : Part) (ring : Nat) (idx : Nat) (kind : Nat) (action : Nat) (i : Nat) (d : Desc), (s.ready p ring idx 0x43 d) ∧ (d.unitCtrl =
      (kind, action, i)) ∧ (s.unitRefused p kind action i = none) ∧ (action = 0))
    ∧ (∃ (s : State) (p : Part) (ring : Nat) (idx : Nat) (kind : Nat) (action : Nat) (i : Nat) (d : Desc) (x : _), (s.ready p ring idx 0x43 d) ∧ (d.unitCtrl
      = (kind, action, i)) ∧ (s.unitRefused p kind action i = none) ∧ (action = 1) ∧ (p = .phi) ∧ (kind = 5) ∧ (s.freeUnit .phi 5 = some x))
    ∧ (∃ (s : State) (p : Part) (ring : Nat) (idx : Nat) (kind : Nat) (action : Nat) (i : Nat) (d : Desc), (s.ready p ring idx 0x43 d) ∧ (d.unitCtrl =
      (kind, action, i)) ∧ (s.unitRefused p kind action i = none) ∧ (action = 2))
    ∧ (∃ (s : State) (p : Part) (ring : Nat) (idx : Nat) (kind : Nat) (action : Nat) (i : Nat) (d : Desc), (s.ready p ring idx 0x43 d) ∧ (d.unitCtrl =
      (kind, action, i)) ∧ (s.unitRefused p kind action i = none) ∧ (action = 3) ∧ (2 ≤ kind))
    ∧ (∃ (s : State) (p : Part) (ring : Nat) (idx : Nat) (kind : Nat) (action : Nat) (i : Nat) (d : Desc), (s.ready p ring idx 0x43 d) ∧ (d.unitCtrl =
      (kind, action, i)) ∧ (s.unitRefused p kind action i = none) ∧ (action = 3) ∧ (kind ≤ 1))
    ∧ (∃ (s : State) (p : Part) (ring : Nat) (idx : Nat) (kind : Nat) (action : Nat) (i : Nat) (d : Desc), (s.ready p ring idx 0x43 d) ∧ (d.unitCtrl =
      (kind, action, i)) ∧ (s.unitRefused p kind action i = none) ∧ (action = 5) ∧ ((s.port p i).admin = .enabled) ∧ ((s.port p i).enCyc ≠ some
      s.cyc))
    ∧ (∃ (s : State) (p : Part) (ring : Nat) (idx : Nat) (kind : Nat) (action : Nat) (i : Nat) (d : Desc), (s.ready p ring idx 0x43 d) ∧ (d.unitCtrl =
      (kind, action, i)) ∧ (s.unitRefused p kind action i = none) ∧ (action = 6) ∧ ((s.port p i).admin = .disabled))
    ∧ (∃ (s : State) (p : Part) (port : Nat), ((s.port p port).admin = .draining) ∧ ((s.port p port).queue = []) ∧ ((s.port p port).replay = []))
    ∧ (∃ (s : State) (p : Part) (r : UnitReturn), ((s.part p).gov.returns = [r]) ∧ (r.kind ≠ 6) ∧ ((s.unit p r.kind r.index).state = .expelled) ∧ ((s.desc?
      p r.ring r.idx).isSome = true) ∧ ((s.ns p - r.sinceNs).toInt ≥ (r.takesNs p : Int))) :=
  ⟨⟨{ base with tsu.units := [{ un 8 0 .inService with transient := 65 }] }, .tsu, 8, 0, by decide +kernel⟩,
   ⟨base, 0, env 0, ⟨false, 1, 0x0301, 5, 6⟩, by unfold State.inOrder; decide +kernel⟩,
   ⟨withD base .tsu (mk 0x43 [10, 0, 0, 0, 1]), .tsu, 3, 0, 10, 0, 1, mk 0x43 [10, 0, 0, 0, 1], .badDesc, by unfold State.ready; decide +kernel⟩,
   ⟨withD base .tsu (mk 0x43 [8, 0, 0, 0, 1]), .tsu, 3, 0, 8, 0, 1, mk 0x43 [8, 0, 0, 0, 1], by unfold State.ready; decide +kernel⟩,
   ⟨withD base .phi (mk 0x43 [5, 1, 0, 0, 1]), .phi, 3, 0, 5, 1, 1, mk 0x43 [5, 1, 0, 0, 1], 320, by unfold State.ready; decide +kernel⟩,
   ⟨withD { base with tsu.units := [un 0 1 .suspect] } .tsu (mk 0x43 [0, 2, 0, 0, 1]), .tsu, 3, 0, 0, 2, 1, mk 0x43 [0, 2, 0, 0, 1],
    by unfold State.ready; decide +kernel⟩,
   ⟨withD { base with phi.units := [un 5 1 .expelled] } .phi (mk 0x43 [5, 3, 0, 0, 1]), .phi, 3, 0, 5, 3, 1, mk 0x43 [5, 3, 0, 0, 1],
    by unfold State.ready; decide +kernel⟩,
   ⟨withD { base with tsu.units := [un 0 1 .expelled] } .tsu (mk 0x43 [0, 3, 0, 0, 1]), .tsu, 3, 0, 0, 3, 1, mk 0x43 [0, 3, 0, 0, 1],
    by unfold State.ready; decide +kernel⟩,
   ⟨withD base .tsu (mk 0x43 [8, 5, 0, 0, 1]), .tsu, 3, 0, 8, 5, 1, mk 0x43 [8, 5, 0, 0, 1], by unfold State.ready; decide +kernel⟩,
   ⟨withD (base.updPort .tsu 1 fun q => { q with admin := .disabled, lstate := .down }) .tsu (mk 0x43 [8, 6, 0, 0, 1]), .tsu, 3, 0, 8, 6, 1, mk 0x43 [8,
    6, 0, 0, 1], by unfold State.ready; decide +kernel⟩,
   ⟨(base.updPort .tsu 1 fun q => { q with admin := .draining }), .tsu, 1, by decide +kernel⟩,
   ⟨{ withD base .tsu (mk 0x43 [2, 3]) with tsu.units := [un 2 0 .expelled], tsu.gov.returns := [⟨2, 0, 3, 0, 0 - 2 ^ 62⟩] }, .tsu, ⟨2, 0, 3, 0, 0 - 2 ^
    62⟩, by decide +kernel, by decide +kernel, by decide +kernel, by decide +kernel, (Int.le_trans (returns_end _ _) (by decide +kernel))⟩⟩

/-- Each hypothesis of `DigestsAndLatches` is met. -/
theorem witness_DigestsAndLatches :
    (∃ (s : State) (msg : List Byte) (i : Nat), (3 ≤ s.tsu.cfg.startStep) ∧ (s.engineShut .tsu 5 = false) ∧ (field msg 0 1 < 192) ∧ (i < 4) ∧ ((s.slot
      (field msg 0 1) i).state = .started) ∧ ((s.slot (field msg 0 1) i).basin = field msg 2 2 % 4096) ∧ ((s.slot (field msg 0 1) i).gen = field msg 4
      2) ∧ ((s.slot (field msg 0 1) i).step = BitVec.ofNat 48 (field msg 6 6)))
    ∧ (∃ (s : State) (b : Nat) (l : Launch) (c : Chain), (s.nextDigest b = some l) ∧ (tabGet? s.die.dig.chains b = some c) ∧ (s.slotsOpen l = false))
    ∧ (∃ (s : State) (ring : Nat) (idx : Nat) (d : Desc), (s.ready .phi ring idx 0x07 d) ∧ (BitVec.ofNat 32 (d.pl 8 4) ≠ 0) ∧ (20000 ≤ (BitVec.ofNat 64
      (d.pl 0 8) - s.ns .phi).toInt) ∧ ((BitVec.ofNat 64 (d.pl 0 8) - s.ns .phi).toInt ≤ 900000000) ∧ (s.phi.time.state = .locked ∨ s.phi.time.state =
      .holdover) ∧ (s.phi.cnt.pending.length < 4))
    ∧ (∃ (s : State) (port : Nat) (e : Env) (f : LatchPl) (at_ : W64), (s.inOrder .tsu port e) ∧ (s.latchSeen .tsu f.latchId = none) ∧ (s.tsu.time.expands =
      true) ∧ (at_ = expandStamp (s.ns .tsu) f.at_) ∧ (stampNear (s.ns .tsu) at_ = true) ∧ (s.tsu.cnt.pending.length < 4))
    ∧ (∃ (s : State) (p : Part) (x : LatchSt) (rest : List LatchSt), ((s.part p).cnt.pending = x :: rest) ∧ ((s.ns p - x.atNs).toInt ≥ 0))
    ∧ (∃ (s : State) (p : Part) (x : LatchSt) (host : List Counter) (t : State), (t = s.applyLatch p x host) ∧ (x.ring = none) ∧ ((s.part p).cnt.cntAddr ≠
      0)) :=
  ⟨⟨{ base with die.slots := [(28, { state := .started, basin := 3, gen := 1, step := 5 })] }, [7, 1, 3, 0, 1, 0, 5] ++ zeros 41, 0, by decide +kernel⟩,
   ⟨{ withB base with die.launches := [lau 4999000000 .strobed], die.dig.chains := [(3, { gen := 1 })] }, 3, lau 4999000000 .strobed, { gen := 1 },
    by decide +kernel⟩,
   ⟨withD base .phi (mk 0x07 (leBytes 8 5000100000 ++ [9])), 3, 0, mk 0x07 (leBytes 8 5000100000 ++ [9]), by unfold State.ready; decide +kernel⟩,
   ⟨base, 0, env 0, ⟨705132704, 9⟩, 5000100000, by unfold State.inOrder; decide +kernel⟩,
   ⟨{ base with tsu.cnt.pending := [⟨5, 9, 0, none, false, false⟩], tsu.cnt.cntAddr := 64 }, .tsu, ⟨5, 9, 0, none, false, false⟩, [], by decide +kernel⟩,
   ⟨{ base with tsu.cnt.cntAddr := 64 }, .tsu, ⟨5, 9, 0, none, false, false⟩, [], _, rfl, by decide +kernel, by decide +kernel⟩⟩

/-- Each hypothesis of `RegisterAccess` is met. -/
theorem witness_RegisterAccess :
    (∃ (s : State) (p : Part) (off : Nat) (a : W64), (off = (match p with | .tsu => 0x0A00 | .phi => 0x2000)) ∧ (s.reaches p off 8) ∧ (a.toNat % 4096 =
      0))
    ∧ (∃ (s : State) (p : Part) (off : Nat) (a : W64), (off = (match p with | .tsu => 0x0A00 | .phi => 0x2000)) ∧ (s.reaches p off 8) ∧ (a.toNat % 4096 ≠
      0))
    ∧ (∃ (off : Nat) (data : List Byte), (accessOk off data.length = false))
    ∧ (∃ (s : State) (p : Part), (s.reaches p (match p with | .tsu => 0x0200 | .phi => 0x1020) 4))
    ∧ (∃ (s : State) (off : Nat) (data : List Byte), (accessOk off data.length = true) ∧ (s.writeLost off = true))
    ∧ (∃ (s : State) (w : W32), (s.reaches .phi 0x4000 4) ∧ (s.hub.fw.mbxBusy = true) ∧ (w.getLsbD 31 = true))
    ∧ (∃ (off : Nat) (len : Nat), (accessOk off len = true) ∧ (off ≠ 0x0B40))
    ∧ (∃ (s : State), (s.phi.cfg.startStep ≤ 1))
    ∧ (∃ (s : State) (off : Nat), (2 ≤ s.phi.cfg.startStep) ∧ (hardBlock off = false) ∧ (s.hub.fw.prompt = false))
    ∧ (∃ (s : State) (r : TrapRead) (rs : List TrapRead), (s.hub.fw.trapReads = r :: rs) ∧ ((s.ns .phi - r.atNs).toInt ≥ 50000))
    ∧ (∃ (s : State) (r : Nat) (off : Nat) (data : List Byte), (r < 16) ∧ (off % 4 = 0) ∧ (off < 28) ∧ (data.length = 4) ∧ (s.reaches .tsu (0x0500 + 32 * r
      + off) 4))
    ∧ (∃ (s : State) (r : Nat) (data : List Byte) (v : List Byte), (r < 16) ∧ (data.length = 8) ∧ (s.reaches .tsu (0x0518 + 32 * r) 8) ∧ (v = splice
      (s.wideBytes .tsu (0x0500 + 32 * r) 32) 24 data) ∧ ((byteAt v 0).getLsbD 0 = true) ∧ ((byteAt v 0).toNat / 2 % 8 ≤ 6) ∧ ((byteAt v 1).toNat % 32
      ≤ 20) ∧ (1 ≤ field v 2 2) ∧ ((BitVec.ofNat 64 (field v 8 8)).toInt ≤ (BitVec.ofNat 64 (field v 16 8)).toInt) ∧ ((s.chan .tsu (16 + r)).meas =
      none) ∧ ((s.watch r).running = false))
    ∧ (∃ (s : State) (v : W64), (s.reaches .phi 0x2010 8) ∧ (s.hub.led.base = 0) ∧ (v.toNat % 4096 = 0))
    ∧ (∃ (s : State) (ring : Nat) (prod : W32) (cons : W32), (s.reaches .phi 0x040000 4) ∧ (ring < 4096) ∧ ((s.ring .phi ring).rstate = .enabled) ∧ ((cons -
      (s.ring .phi ring).cplCons).toNat ≤ ((s.ring .phi ring).cplProd - (s.ring .phi ring).cplCons).toNat) ∧ ((prod - (s.ring .phi
      ring).fetched).toNat ≤ 2 ^ (s.ring .phi ring).entry.sizeLog2))
    ∧ (∃ (s : State), (s.reaches .phi 0x044000 4) ∧ (s.hub.led.base ≠ 0))
    ∧ (∃ (s : State) (p : Part), (s.reaches p (cntCtrlAt p) 4))
    ∧ (∃ (s : State), (s.reaches .tsu 0x0C00 4) ∧ (s.tsu.cnt.localId ≠ 0) ∧ (s.tsu.cnt.pending.length < 4))
    ∧ (∃ (s : State) (p : Part) (rest : W32), (s.reaches p (match p with | .tsu => 0x0D08 | .phi => 0x3008) 4) ∧ (6 ≤ rest.toNat % 32) ∧ (rest.toNat % 32 ≤
      20) ∧ (rest.toNat / 65536 % 2048 ≤ 63)) :=
  ⟨⟨base, .tsu, 0x0A00, 0x7000, by unfold State.reaches; decide +kernel⟩,
   ⟨base, .tsu, 0x0A00, 0x7001, by unfold State.reaches; decide +kernel⟩,
   ⟨0x302, [1, 2, 3, 4], by decide +kernel⟩,
   ⟨{ base with tsu.cfg.wrRej := true, tsu.cfg.accErr := true }, .tsu, by unfold State.reaches; decide +kernel⟩,
   ⟨{ base with tsu.cycs.dredged := some (0, 0) }, 0x0A00, zeros 8, by decide +kernel⟩,
   ⟨{ base with hub.fw.mbxBusy := true }, 0x80000002, by unfold State.reaches; decide +kernel⟩,
   ⟨0x300, 4, by decide +kernel⟩,
   ⟨{ base with phi.cfg.startStep := 1 }, by decide +kernel⟩,
   ⟨{ base with hub.fw.state := .restarting }, 0x2000, by decide +kernel⟩,
   ⟨{ base with hub.fw.trapReads := [⟨0x2000, 8, 4999000000, 0⟩] }, ⟨0x2000, 8, 4999000000, 0⟩, [], by decide +kernel⟩,
   ⟨base, 15, 24, [1, 2, 3, 4], by unfold State.reaches; decide +kernel⟩,
   ⟨{ base with tsu.cfg.regHold := [(0x0500, 0x00010201), (0x0508, 5), (0x0510, 9)] }, 0, leBytes 8 0, splice
    ({ base with tsu.cfg.regHold := [(0x0500, 0x00010201), (0x0508, 5), (0x0510, 9)] }.wideBytes .tsu 0x0500 32) 24 (leBytes 8 0),
    by unfold State.reaches; decide +kernel⟩,
   ⟨base, 0x9000, by unfold State.reaches; decide +kernel⟩,
   ⟨ringIs base .phi { entry := { sizeLog2 := 6, en := true }, rstate := .enabled, fetched := 1, prod := 1, cplProd := 5, cplCons := 2 }, 3, 65, 5,
    by unfold State.reaches; decide +kernel⟩,
   ⟨{ base with hub.led.base := 0x9000, hub.led.prod := 7 }, by unfold State.reaches; decide +kernel⟩,
   ⟨base, .tsu, by unfold State.reaches; decide +kernel⟩,
   ⟨{ base with tsu.cnt.localId := 4 }, by unfold State.reaches; decide +kernel⟩,
   ⟨base, .tsu, 0x003F0006, by unfold State.reaches; decide +kernel⟩⟩

/-- Each hypothesis of `FirmwareComplex` is met. -/
theorem witness_FirmwareComplex :
    (∃ (s : State), (2 ≤ s.phi.cfg.startStep) ∧ (s.hub.fw.ldrStatus = 0))
    ∧ (∃ (s : State), (2 ≤ s.phi.cfg.startStep) ∧ (s.hub.fw.ldrStatus ∈ [1, 4, 5]))
    ∧ (∃ (s : State) (img : _), (2 ≤ s.phi.cfg.startStep) ∧ (s.hub.fw.ldrStatus ∈ [1, 4, 5]) ∧ (imageOk s.phi.cfg.lcState s.hub.fw.ldrLen.toNat img = true))
    ∧ (∃ (s : State) (h : List Byte), (s.hub.fw.trapQueue = []) ∧ (s.hub.fw.trapReads = []) ∧ (s.hub.fw.owed = false) ∧ (s.hub.fw.loading = some (h, true)))
    ∧ (∃ (s : State) (h : List Byte), (s.hub.fw.trapQueue = []) ∧ (s.hub.fw.trapReads = []) ∧ (s.hub.fw.owed = false) ∧ (s.hub.fw.loading = some (h,
      false)))
    ∧ (∃ (s : State), (s.hub.fw.trapQueue = []) ∧ (s.hub.fw.trapReads = []) ∧ (s.hub.fw.owed = false) ∧ (s.hub.fw.state = .restarting) ∧ ((s.ns .phi -
      s.hub.fw.dogNs).toInt ≤ 50000000))
    ∧ (∃ (s : State) (x : Handover), (s.hub.fw.trapQueue = []) ∧ (s.hub.fw.trapReads = []) ∧ (s.hub.fw.owed = false) ∧ (s.hub.fw.handover = some x) ∧
      (s.hub.fw.state = .handover) ∧ (x.stopped = false) ∧ ((s.ns .phi - x.startNs).toInt ≥ 1000000 * (x.quiesceMs : Int)))
    ∧ (∃ (s : State) (cores : List Nat) (named : List Nat), (s.complexCores.filter cores.contains = named) ∧ (named ≠ []) ∧ (4 ≤ s.complexCores.length) ∧
      (s.hub.fw.state = .running) ∧ (s.hub.fw.dogCores = []))
    ∧ (∃ (s : State), (s.hub.fwCommits = true))
    ∧ (∃ (s : State) (ring : Nat) (idx : Nat) (d : Desc) (image : List Byte) (h : List Byte), (s.ready .phi ring idx 0x42 d) ∧ (d.pl 0 8 % 4096 = 0) ∧ (d.pl
      12 4 ≤ 1000) ∧ (imageOk s.phi.cfg.lcState (d.pl 8 4) image = true) ∧ (s.hub.fw.retained = some h) ∧ (field ((padTo 128 image).take 128) 18 2 ≤
      field h 16 2))
    ∧ (∃ (s : State) (x : Handover), (s.hub.fw.handover = some x) ∧ (s.hub.fw.state = .handover ∧ x.stopped = false ∧ s.quiescent x = true))
    ∧ (∃ (s : State) (c : Nat), (100 ≤ c ∧ s.hub.fw.thermSlow = false ∧ 1 ≤ s.phi.cfg.startStep))
    ∧ (∃ (s : State) (c : Nat), (c ≤ 95 ∧ s.hub.fw.thermSlow = true))
    ∧ (∃ (s : State) (c : Nat), (115 ≤ c ∧ s.phi.cfg.startStep ≠ 0))
    ∧ (∃ (s : State), (1 ≤ s.phi.cfg.startStep))
    ∧ (∃ (s : State) (l : _), (s.hub.fw.mbxBusy = true) ∧ (s.hub.fw.state = .running) ∧ (s.hub.fw.mbxRun = 1) ∧ (s.hub.fw.history.filter (fun e =>
      s.hub.fw.mbxArg.toNat ≤ field e 0 8 && field e 0 8 < s.hub.fw.mbxArg.toNat + s.hub.fw.mbxCount.toNat) = l))
    ∧ (∃ (s : State) (h : _), (s.hub.fw.mbxBusy = true) ∧ (s.hub.fw.state = .running) ∧ (s.hub.fw.mbxRun = 2) ∧ (s.hub.fw.retained = some h)) :=
  ⟨⟨{ base with hub.fw.ldrStatus := 0, phi.cfg.startStep := 2 }, by decide +kernel⟩,
   ⟨{ base with hub.fw.ldrStatus := 1 }, by decide +kernel⟩,
   ⟨{ base with hub.fw.ldrStatus := 1, hub.fw.ldrLen := 4224, phi.cfg.lcState := 0 }, fwImg, by decide, by decide, fwImg_ok⟩,
   ⟨{ base with hub.fw.loading := some ([1], true), hub.fw.state := .starting }, [1], by decide +kernel⟩,
   ⟨{ base with hub.fw.loading := some ([1], false), hub.fw.state := .starting }, [1], by decide +kernel⟩,
   ⟨{ base with hub.fw.state := .restarting, hub.fw.dogNs := 4999000000 }, by decide +kernel⟩,
   ⟨hand false, ⟨3, 0, [1], 1000000000, 100, false⟩, by decide +kernel⟩,
   ⟨base, [1, 2], base.complexCores.filter [1, 2].contains, by decide +kernel⟩,
   ⟨base, by decide +kernel⟩,
   ⟨{ withD base .phi (mk 0x42 (leBytes 8 0x8000 ++ leBytes 4 4224 ++ leBytes 4 10)) with hub.fw.retained := some (zeros 128), phi.cfg.lcState := 0 }, 3,
    0, mk 0x42 (leBytes 8 0x8000 ++ leBytes 4 4224 ++ leBytes 4 10), fwImg, zeros 128, by unfold State.ready; decide +kernel, by decide +kernel,
    by decide +kernel, fwImg_ok, by decide +kernel, by decide +kernel⟩,
   ⟨hand false, ⟨3, 0, [1], 1000000000, 100, false⟩, by decide +kernel⟩,
   ⟨base, 100, by decide +kernel⟩,
   ⟨{ base with hub.fw.thermSlow := true }, 95, by decide +kernel⟩,
   ⟨base, 115, by decide +kernel⟩,
   ⟨base, by decide +kernel⟩,
   ⟨{ base with hub.fw.mbxBusy := true, hub.fw.mbxRun := 1, hub.fw.mbxArg := 3, hub.fw.mbxCount := 2, hub.fw.mbxAddr := 64, hub.fw.history := [leBytes 64 3] },
    [leBytes 64 3], by decide +kernel⟩,
   ⟨{ base with hub.fw.mbxBusy := true, hub.fw.mbxRun := 2, hub.fw.retained := some [1, 2] }, [1, 2], by decide +kernel⟩⟩

set_option maxRecDepth 100000 in
/-- Each hypothesis of `ResetsAndLifeCycle` is met. -/
theorem witness_ResetsAndLifeCycle :
    (∃ (s : State) (p : Part) (n : Nat), (unitValid p (match p with | .tsu => 4 | .phi => 9) n = true) ∧ ((s.engine p n).step = 0) ∧ ((s.engine p
      n).outOfService = false) ∧ (∀ e ∈ (s.part p).engines, e.2.step < 3) ∧ ((s.ns p - tabGet 0 (s.part p).took n).toInt ≥ 1000 * (s.stallUs p :
      Int)))
    ∧ (∃ (s : State) (p : Part) (n : Nat), ((s.engine p n).step = 1) ∧ ((s.ns p - (s.engine p n).stepNs).toInt ≥ 50000))
    ∧ (∃ (s : State) (p : Part) (n : Nat), (p = .tsu) ∧ ((s.engine p n).step = 2) ∧ ((s.ns p - (s.engine p n).stepNs).toInt ≥ 60000))
    ∧ (∃ (s : State) (p : Part) (n : Nat), ((s.engine p n).step = 1 ∨ (s.engine p n).step = 2) ∧ ((s.engine p n).ctls = []) ∧ ((s.engine p n).heldItems =
      []) ∧ (¬(p = .tsu ∧ n = 0)))
    ∧ (∃ (s : State), (2 ≤ s.phi.cfg.startStep))
    ∧ (∃ (key : _), (key ≠ 0x43485052))
    ∧ (∃ (s : State), (s.mdl.convOn = true ∧ s.mdl.heldReset = false ∧ s.phi.cfg.startStep = 0))
    ∧ (∃ (s : State), (s.tsu.cfg.startStep = 2) ∧ (s.tsu.cfg.inForce = none))
    ∧ (∃ (s : State), (s.phi.cfg.startStep = 1))
    ∧ (∃ (s : State), (s.phi.cfg.startStep = 2) ∧ (s.hub.fw.goNow.map (·.1) ≠ some s.cyc))
    ∧ (∃ (s : State) (p : Part) (ring : Nat) (idx : Nat) (kind : Nat) (i : Nat) (d : Desc), (s.ready p ring idx 0x43 d) ∧ (d.unitCtrl = (kind, 4, i)) ∧
      (s.unitRefused p kind 4 i = none) ∧ (∀ e ∈ (s.part p).engines, e.2.step < 3))
    ∧ (∃ (s : State) (p : Part) (i : Nat) (e : EngineSt), ((s.part p).engines.filter (fun x => x.2.asked) = [(i, e)]) ∧ ((s.part p).engines.any (fun x =>
      x.2.step ≥ 3) = false) ∧ (tabGet {} (s.part p).engines i = e) ∧ (e.step = 0))
    ∧ (∃ (s : State) (p : Part) (i : Nat) (e : EngineSt) (j : _), ((s.part p).engines.filter (fun x => x.2.asked) = [(i, e)]) ∧ ((s.part p).engines.any (fun
      x => x.2.step ≥ 3) = false) ∧ (tabGet {} (s.part p).engines i = e) ∧ (e.step = 0) ∧ (j ≠ i))
    ∧ (∃ (s : State) (p : Part) (ring : Nat) (idx : Nat) (d : Desc) (block : List Byte) (b : List Byte), (s.ready p ring idx 0x40 d) ∧ (d.pl 0 8 % 64 = 0) ∧
      (b = (padTo (d.pl 8 2) block).take (d.pl 8 2)) ∧ ((s.part p).cfg.block = none) ∧ (blockRefused p (d.pl 8 2) b = none))
    ∧ (∃ (s : State) (p : Part) (ring : Nat) (idx : Nat) (d : Desc) (block : List Byte) (b : List Byte) (code : _) (off : _), (s.ready p ring idx 0x40 d) ∧
      (d.pl 0 8 % 64 = 0) ∧ (b = (padTo (d.pl 8 2) block).take (d.pl 8 2)) ∧ ((s.part p).cfg.block = none) ∧ (blockRefused p (d.pl 8 2) b = some
      (code, off)))
    ∧ (∃ (s : State) (p : Part) (ring : Nat) (idx : Nat) (b : List Byte), ((s.part p).cfg.asked = some (ring, idx, b)))
    ∧ (∃ (s : State) (p : Part) (ring : Nat) (idx : Nat) (b : List Byte), ((s.part p).cfg.asked = some (ring, idx, b)) ∧ (p = .tsu))
    ∧ (∃ (s : State) (p : Part) (ring : Nat) (idx : Nat) (b : List Byte), ((s.part p).cfg.asked = some (ring, idx, b)) ∧ (p = .phi))
    ∧ (∃ (s : State) (p : Part) (ring : Nat) (idx : Nat) (d : Desc) (token : List Byte), (s.ready p ring idx 0x41 d) ∧ (s.lcRefused p (d.plBits 0 1 0 3)
      (d.pl 8 8) token = none))
    ∧ (∃ (s : State) (p : Part) (ring : Nat) (idx : Nat) (d : Desc) (token : List Byte) (st : _), (s.ready p ring idx 0x41 d) ∧ (s.lcRefused p (d.plBits 0 1
      0 3) (d.pl 8 8) token = some st)) :=
  ⟨⟨base, .tsu, 1, by decide +kernel⟩,
   ⟨engIn 1, .tsu, 1, by decide +kernel⟩,
   ⟨engIn 2, .tsu, 1, by decide +kernel⟩,
   ⟨engIn 1, .tsu, 1, by decide +kernel⟩,
   ⟨withQ base (sq [] .running), by decide +kernel⟩,
   ⟨5, by decide +kernel⟩,
   ⟨{ base with phi.cfg.startStep := 0, mdl.convOn := true }, by decide +kernel⟩,
   ⟨{ base with tsu.cfg.startStep := 2, tsu.cfg.inForce := none }, by decide +kernel⟩,
   ⟨{ base with phi.cfg.startStep := 1 }, by decide +kernel⟩,
   ⟨{ base with phi.cfg.startStep := 2 }, by decide +kernel⟩,
   ⟨withD base .tsu (mk 0x43 [4, 4, 0, 0, 1]), .tsu, 3, 0, 4, 1, mk 0x43 [4, 4, 0, 0, 1], by unfold State.ready; decide +kernel⟩,
   ⟨{ base with tsu.engines := [(1, { asked := true, ctls := [(3, 0)] })] }, .tsu, 1, { asked := true, ctls := [(3, 0)] }, by decide +kernel⟩,
   ⟨{ base with tsu.engines := [(1, { asked := true, ctls := [(3, 0)] })] }, .tsu, 1, { asked := true, ctls := [(3, 0)] }, 2, by decide +kernel⟩,
   ⟨withD uncfg .phi (mk 0x40 (leBytes 8 64 ++ leBytes 2 256)), .phi, 3, 0, mk 0x40 (leBytes 8 64 ++ leBytes 2 256), cfgBlock .phi (splice phiImg 92
    [1]), cfgBlock .phi (splice phiImg 92 [1]), by unfold State.ready; decide +kernel⟩,
   ⟨withD uncfg .tsu (mk 0x40 (leBytes 8 64 ++ leBytes 2 128)), .tsu, 3, 0, mk 0x40 (leBytes 8 64 ++ leBytes 2 128), [], zeros 128, 1, 0,
    by unfold State.ready; decide +kernel⟩,
   ⟨{ withD base .tsu (mk 0x40 []) with tsu.cfg.asked := some (3, 0, cfgBlock .tsu tsuResetImage), tsu.cfg.inForce := none }, .tsu, 3, 0, cfgBlock .tsu
    tsuResetImage, by decide +kernel⟩,
   ⟨{ withD base .tsu (mk 0x40 []) with tsu.cfg.asked := some (3, 0, cfgBlock .tsu tsuResetImage), tsu.cfg.inForce := none }, .tsu, 3, 0, cfgBlock .tsu
    tsuResetImage, by decide +kernel⟩,
   ⟨{ withD base .phi (mk 0x40 []) with phi.cfg.asked := some (3, 0, cfgBlock .phi phiImg), phi.cfg.inForce := none }, .phi, 3, 0, cfgBlock .phi phiImg,
    by decide +kernel⟩,
   ⟨{ withD base .tsu (mk 0x41 [2]) with tsu.cfg.lcState := 1 }, .tsu, 3, 0, mk 0x41 [2], [], by unfold State.ready; decide +kernel⟩,
   ⟨{ withD base .phi (mk 0x41 [0]) with phi.cfg.lcState := 2 }, .phi, 3, 0, mk 0x41 [0], [], .conflict, by unfold State.ready; decide +kernel⟩⟩

/-- Each hypothesis of `ModuleSupply` is met. -/
theorem witness_ModuleSupply :
    (∃ (mv : Nat), (mv < 38000))
    ∧ (∃ (mv : Nat), (62000 < mv))
    ∧ (∃ (s : State) (mv : Nat), (39500 < mv ∧ mv < 61000 ∧ s.mdl.present = true))
    ∧ (∃ (s : State), (s.mdl.present = false))
    ∧ (∃ (pec : Bool), (pec = true))
    ∧ (∃ (pec : Bool), (pec = true)) :=
  ⟨⟨37999, by decide +kernel⟩,
   ⟨62001, by decide +kernel⟩,
   ⟨{ base with mdl.present := true }, 39501, by decide +kernel⟩,
   ⟨{ base with mdl.present := false }, by decide +kernel⟩,
   ⟨true, by decide +kernel⟩,
   ⟨true, by decide +kernel⟩⟩

/-- Each hypothesis of `LifeCycleChanges` is met. -/
theorem witness_LifeCycleChanges :
    (∃ (s : State) (p : Part) (ring : Nat) (idx : Nat) (d : Desc), (s.ready p ring idx 0x41 d) ∧ (d.plBits 0 1 0 3 ≤ 4) ∧ (d.pl 8 8 % 64 = 0) ∧ (31 ≤
      (s.part p).cfg.lcRows) ∧ (d.plBits 0 1 0 3 ≠ 4))
    ∧ (∃ (s : State) (p : Part) (ring : Nat) (idx : Nat) (d : Desc), (s.ready p ring idx 0x41 d) ∧ (d.plBits 0 1 0 3 ≤ 4) ∧ (d.pl 8 8 % 64 = 0) ∧ ((s.part
      p).cfg.lcRows < 31 ∨ d.plBits 0 1 0 3 = 4) ∧ (¬ lcAllowed (s.part p).cfg.lcState (d.plBits 0 1 0 3) ∨ (p = .tsu ∧ d.plBits 0 1 0 3 = 4 ∧
      s.meter.storeRecs ≠ 0))) :=
  ⟨⟨{ withD base .tsu (mk 0x41 [3]) with tsu.cfg.lcRows := 31, tsu.cfg.lcState := 2 }, .tsu, 3, 0, mk 0x41 [3], by unfold State.ready; decide +kernel⟩,
   ⟨{ withD base .tsu (mk 0x41 [4]) with tsu.cfg.lcState := 2, meter.blocks := [⟨1, [2], [[3]], none, false⟩] }, .tsu, 3, 0, mk 0x41 [4],
    by unfold State.ready lcAllowed; decide +kernel⟩⟩

/-- The hypotheses of `StepRunsFront` and `OnlyTheseCommandsMoveHt` are met: a `NOP` in front, which moves no HT. -/
theorem witness_StepRunsFront :
    (∃ (s : State) (c : Instr) (rest : List Instr), s.pending = c :: rest)
    ∧ (∃ (c : Instr) (s t : State) (p : Part), Machine.exec c s = .next t ∧ movesHt p c = false) :=
  ⟨⟨{ base with pending := [.nop .tsu 3 0] }, .nop .tsu 3 0, [], rfl⟩,
   ⟨.nop .tsu 3 0, base, base, .tsu, rfl, rfl⟩⟩

/-- The hypotheses of `IdleCycle` are met, also with a slew under way, with a hold, and in `FAULT`. -/
theorem witness_IdleCycle :
    (∃ s : State, s.pending = [] ∧ 1 ≤ s.phi.cfg.startStep ∧ s.phi.time.state ≠ .fault ∧ s.phi.time.holdLeft = 0)
    ∧ (∃ s : State, s.pending = [] ∧ 1 ≤ s.phi.cfg.startStep ∧ s.phi.time.state ≠ .fault ∧ s.phi.time.freeInc < s.phi.time.holdLeft)
    ∧ (∃ s : State, s.pending = [] ∧ s.tsu.time.state = .fault)
    ∧ (∃ s : State, s.pending = [] ∧ s.resolved) ∧ (∃ s : State, s.pending = [] ∧ s.resolved ∧ s.phi.cfg.startStep = 0) :=
  ⟨⟨wt base .phi fun k => { k with slewAdj := 5, slewLeft := 3 }, by decide +kernel⟩,
   ⟨wt base .phi fun k => { k with holdLeft := 2 ^ 60 }, by decide +kernel⟩,
   ⟨wt base .tsu fun k => { k with state := .fault }, by decide +kernel⟩,
   ⟨base, rfl, by unfold State.workResolved; decide +kernel, fun p => by cases p <;> (unfold State.partResolved; decide +kernel)⟩,
   ⟨{ base with phi.cfg.startStep := 0 }, rfl,
     ⟨by unfold State.workResolved; decide +kernel, fun p => by cases p <;> (unfold State.partResolved; decide +kernel)⟩, rfl⟩⟩

/-- The hypotheses of `LifeCycleInvariant` are met: the state after reset, and its next step. -/
theorem witness_LifeCycleInvariant : ∃ s t : State, s.lifeCycleOk ∧ step s = .next t :=
  ⟨State.reset, State.reset.tick, fun p => by cases p <;> decide, rfl⟩

/-- A Phidor in `FACTORY` with an `LC_CHANGE` to `PROVISIONED` in front takes it. -/
theorem lcFront_changes : ∃ s : State, s.phi.cfg.lcState = 0 ∧ next? (step s) (fun t => t.phi.cfg.lcState == 1) = true :=
  ⟨{ withD base .phi (mk 0x41 [1]) with pending := [.lcChange .phi 3 0 [] true true] }, by decide +kernel⟩

/-- The hypotheses of the first clause of `LifeCycleChanges` are met. -/
theorem witness_LifeCycleChanges_first :
    ∃ (s t : State) (p : Part), step s = .next t ∧ (t.part p).cfg.lcState ≠ (s.part p).cfg.lcState := by
  obtain ⟨s, h0, h⟩ := lcFront_changes
  rcases e : step s with t | f | r
  · rw [e] at h
    have h1 : t.phi.cfg.lcState = 1 := by simpa [next?] using h
    exact ⟨s, t, .phi, e, by show t.phi.cfg.lcState ≠ s.phi.cfg.lcState; omega⟩
  · rw [e] at h; cases h
  · rw [e] at h; cases h

/-- The hypotheses of `StampExpansion` are met: a candidate, and two candidates as near. -/
theorem witness_StampExpansion :
    (∃ (st : W32) (c : W64), c.extractLsb' 0 32 = st) ∧ (∃ (h : W64) (st : W32), st - h.extractLsb' 0 32 = 0x80000000#32) :=
  ⟨⟨7, 7, by decide⟩, ⟨0x100000001, 0x80000001, by decide⟩⟩

/-- The hypotheses of `RingEntryLayout` are met, by an entry that is accepted and by one at the end of every width. -/
theorem witness_RingEntryLayout :
    (∃ e : RingEntry, e.descBase < 2 ^ 64 ∧ e.cplBase < 2 ^ 64 ∧ e.dbAddr < 2 ^ 64 ∧ e.sizeLog2 < 32 ∧ e.vector < 2 ^ 16
      ∧ e.holdoffUs < 2 ^ 16 ∧ e.ok .tsu = true)
    ∧ (∃ e : RingEntry, e.descBase < 2 ^ 64 ∧ e.cplBase < 2 ^ 64 ∧ e.dbAddr < 2 ^ 64 ∧ e.sizeLog2 < 32 ∧ e.vector < 2 ^ 16
      ∧ e.holdoffUs < 2 ^ 16 ∧ e.ok .phi = false)
    ∧ (∃ (s : State) (i k : Nat), i < ringCount .phi ∧ k < 8 ∧ (s.ring .phi i).stagedWords = rent.bytes) :=
  ⟨⟨rent, by decide +kernel⟩, ⟨⟨2 ^ 64 - 1, 2 ^ 64 - 1, 2 ^ 64 - 1, 31, true, true, 65535, 65535⟩, by decide +kernel⟩,
   ⟨ringIs base .phi { entry := rent, stagedWords := rent.bytes }, 3, 7, by decide +kernel⟩⟩

/-- The hypothesis of `TimeStatusBlock` is met by both parts. -/
theorem witness_TimeStatusBlock : ∃ s : State, s.reaches .tsu 0x0300 4 ∧ s.reaches .phi 0x1100 4 :=
  ⟨base, by unfold State.reaches; decide +kernel⟩

/-- What `ResetState` says of the registers (R426). -/
theorem test_reset_registers :
    State.reset.readReg .tsu 0x0D08 4 = 6 ∧ State.reset.readReg .phi 0x300C 4 = 1000 ∧ State.reset.readReg .tsu 0x0500 4 = 0x10000
      ∧ State.reset.readReg .tsu 0x0510 8 = 0x7FFFFFFFFFFFFFFF := by decide +kernel

end Sys2Proof.Tests
end

/-!
PROOFS. Register accesses (R7, R345, R364, R394, R423, R424, R427, R431, R433 to R437): what a write that reaches a part's window does, by
the word or the wide register at its offset, the answers to reads, and the registers with a command of their own.
-/

namespace Sys2Proof.Machine

/-! ### Bytes -/

/-- The number that the bytes of a number spell is the number modulo their range. -/
theorem leNat_leBytes (n v : Nat) : leNat (leBytes n v) = v % 256 ^ n := by
  induction n generalizing v with
  | zero => simp [leBytes, leNat, Nat.mod_one]
  | succ n ih =>
    have hsplit : v % (256 * 256 ^ n) = v % 256 + 256 * (v / 256 % 256 ^ n) := Nat.mod_mul
    simp [leBytes, leNat, ih, Nat.pow_succ', hsplit]

/-- A word is read back from its bytes. -/
theorem leNat_leOf {w n : Nat} (v : BitVec w) (h : w ≤ 8 * n) : leNat (leOf n v) = v.toNat := by
  have hpow : 2 ^ w ≤ 256 ^ n := by
    calc 2 ^ w ≤ 2 ^ (8 * n) := Nat.pow_le_pow_right (by decide) h
      _ = 256 ^ n := by rw [Nat.pow_mul]
  rw [leOf, leNat_leBytes, Nat.mod_eq_of_lt (Nat.lt_of_lt_of_le v.isLt hpow)]

@[simp] theorem leOf_length {w : Nat} (n : Nat) (v : BitVec w) : (leOf n v).length = n := by simp [leOf]

/-- A field that is the whole of a byte string. -/
theorem field_whole {bs : List Byte} {n : Nat} (h : bs.length = n) : field bs 0 n = leNat bs := by
  simp [field, slice, ← h]

/-- Bytes laid over a whole byte string replace it. -/
theorem splice_whole {bs new : List Byte} (h : new.length = bs.length) : splice bs 0 new = new := by
  simp [splice, ← h]

/-- A list of words spells four bytes for each. -/
theorem flatMap_words_length {α : Type} (l : List α) (f : α → List Byte) (h : ∀ x, (f x).length = 4) :
    (l.flatMap f).length = 4 * l.length := by
  induction l with
  | nil => rfl
  | cons x xs ih => rw [List.flatMap_cons, List.length_append, h, ih, List.length_cons]; omega

/-- A wide register has as many bytes as its length says. -/
theorem State.wideBytes_length (s : State) (p : Part) (base : Nat) {len : Nat} (h : 4 ∣ len) :
    (s.wideBytes p base len).length = len := by
  have hwords : (s.wideBytes p base len).length = 4 * (List.range (len / 4)).length := by
    refine flatMap_words_length _ _ fun i => ?_
    dsimp only
    split <;> simp
  rw [hwords, List.length_range, Nat.mul_div_cancel' h]

/-! ### The window -/

/-- The state in which a part applies a write that it takes at once: the Phidor has counted the trap, traced it and put the change in its
journal (R345, R347, R357). -/
def State.taken (s : State) (p : Part) (off : Nat) (data : List Byte) : State :=
  match p with
  | .tsu => s
  | .phi =>
    let t := (s.count .phi 0x1603 0 1).traceTrap off (leNat data) true
    if fwDomain off then t else t.journalRec ([2] ++ leBytes 4 off ++ data)

theorem State.taken_tsu (s : State) (off : Nat) (data : List Byte) : s.taken .tsu off data = s := rfl

/-- What firmware does before it applies a write leaves all but its log, its journal and the counters. -/
@[simp] theorem State.taken_keeps (s : State) (p : Part) (off : Nat) (data : List Byte) :
    (s.taken p off data).cyc = s.cyc ∧ (s.taken p off data).tsu = s.tsu ∧ (s.taken p off data).die = s.die
    ∧ (s.taken p off data).meter = s.meter ∧ (s.taken p off data).mdl = s.mdl
    ∧ (s.taken p off data).phi.time = s.phi.time ∧ (s.taken p off data).phi.rings = s.phi.rings
    ∧ (s.taken p off data).phi.page = s.phi.page ∧ (s.taken p off data).phi.flt = s.phi.flt
    ∧ (s.taken p off data).phi.cfg = s.phi.cfg ∧ (s.taken p off data).phi.cycs = s.phi.cycs
    ∧ (s.taken p off data).hub.led = s.hub.led ∧ (s.taken p off data).hub.seqs = s.hub.seqs := by
  cases p with
  | tsu => simp [State.taken]
  | phi => by_cases h : fwDomain off = true <;> simp [State.taken, h]

/-- Firmware's log and its trace leave the mailbox alone. -/
@[simp] theorem State.fwEntry_keeps_mailbox (s : State) (core level kind role code arg0 : Nat) (args : List Nat) :
    (s.fwEntry core level kind role code arg0 args).hub.fw.mbxBusy = s.hub.fw.mbxBusy
    ∧ (s.fwEntry core level kind role code arg0 args).hub.fw.mbxRun = s.hub.fw.mbxRun := by
  simp only [State.fwEntry]
  split <;> simp

@[simp] theorem State.traceTrap_keeps_mailbox (s : State) (off value : Nat) (write : Bool) :
    (s.traceTrap off value write).hub.fw.mbxBusy = s.hub.fw.mbxBusy
    ∧ (s.traceTrap off value write).hub.fw.mbxRun = s.hub.fw.mbxRun := by
  have htrace : ∀ (s : State) (a b c d : Nat), (s.trace a b c d).hub.fw.mbxBusy = s.hub.fw.mbxBusy
      ∧ (s.trace a b c d).hub.fw.mbxRun = s.hub.fw.mbxRun := by
    intro s a b c d
    simp only [State.trace]
    split <;> simp
  simp only [State.traceTrap]
  split <;> simp [htrace]

@[simp] theorem State.taken_keeps_mailbox (s : State) (p : Part) (off : Nat) (data : List Byte) :
    (s.taken p off data).hub.fw.mbxBusy = s.hub.fw.mbxBusy ∧ (s.taken p off data).hub.fw.mbxRun = s.hub.fw.mbxRun := by
  cases p with
  | tsu => exact ⟨rfl, rfl⟩
  | phi => by_cases h : fwDomain off = true <;> simp [State.taken, h, State.journalRec]

theorem FwSt.running_of_prompt {f : FwSt} (h : f.prompt = true) : f.state = .running := by
  simp only [FwSt.prompt, Bool.and_eq_true, beq_iff_eq] at h
  obtain ⟨⟨⟨hrun, -⟩, -⟩, -⟩ := h
  exact hrun

/-- A write that reaches a part takes effect (R345, R423, R437). -/
theorem State.viaWindow_reaches {s : State} {p : Part} {off : Nat} {data : List Byte} (h : s.reaches p off data.length)
    (k : State → State) (line : List Byte) : s.viaWindow p off data k line = .next (k (s.taken p off data)) := by
  obtain ⟨hacc, htsu, hphi⟩ := h
  cases p with
  | tsu => simp [State.viaWindow, State.taken, hacc, htsu rfl]
  | phi =>
    obtain ⟨hstep, hprompt⟩ := hphi rfl
    have hrun := FwSt.running_of_prompt hprompt
    simp [State.viaWindow, State.fwApply, State.taken, hacc, hprompt, hrun, show ¬ s.phi.cfg.startStep ≤ 1 by omega]

/-- A write without a row of its own that reaches a part, outside the blocks that hardware serves (R345). -/
theorem exec_trappedWrite_reaches {s : State} {p : Part} {off : Nat} {data : List Byte} (h : s.reaches p off data.length)
    (hb : p = .phi → hardBlock off = false) :
    exec (.trappedWrite p off data) s = .next ((s.taken p off data).regWrite p off data []) := by
  show execTrappedWrite p off data s = _
  have hsoft : ¬ (p = .phi ∧ hardBlock off = true) := by
    rintro ⟨hp, hh⟩
    simp [hb hp] at hh
  rw [execTrappedWrite, if_neg hsoft, State.viaWindow_reaches h]

/-! ### Words and wide registers -/

/-- A write of 4 bytes to a register that is neither a ring entry, nor wide, nor a configuration register. -/
theorem State.regWrite_word {off : Nat} {p : Part} (s : State) (w : W32) (line : List Byte) (hr : ringAt p off = none)
    (hw : wideAt p off = none) (hi : ¬ ((imageAt p).1 ≤ off ∧ off < (imageAt p).1 + (imageAt p).2)) :
    s.regWrite p off (leOf 4 w) line = match p with | .tsu => s.tsuWord off w | .phi => s.phiWord off w line := by
  have htake : (leOf 4 w).take 4 = leOf 4 w := List.take_of_length_le (by simp)
  cases p <;>
    simp [State.regWrite, State.regWord, hr, hw, hi, htake, leNat_leOf w (show 32 ≤ 8 * 4 by decide)]

/-- The words held of a wide register are gone once its highest is written (R424). -/
def State.dropHeld (s : State) (p : Part) (base len : Nat) : State :=
  s.upd p fun c => { c with cfg.regHold := c.cfg.regHold.filter (fun e => e.1 < base || base + len ≤ e.1) }

/-- The highest words of a wide register put it in force, with the words held (R424). -/
theorem State.regWrite_top {p : Part} {off base len : Nat} {data : List Byte} (s : State) (line : List Byte)
    (hr : ringAt p off = none) (hw : wideAt p off = some (base, len)) (htop : off + data.length = base + len) :
    s.regWrite p off data line
      = (s.dropHeld p base len).applyWide p base (splice (s.wideBytes p base len) (off - base) data) := by
  simp [State.regWrite, State.wideWrite, State.dropHeld, hr, hw, htop]

/-- A register of 8 bytes that is written at once takes what is written (R424). -/
theorem State.regWrite_eight {p : Part} {off : Nat} (s : State) (v : W64) (line : List Byte)
    (hr : ringAt p off = none) (hw : wideAt p off = some (off, 8)) :
    s.regWrite p off (leOf 8 v) line = (s.dropHeld p off 8).applyWide p off (leOf 8 v) := by
  rw [State.regWrite_top s line hr hw (by simp), Nat.sub_self, splice_whole]
  rw [State.wideBytes_length _ _ _ (by decide), leOf_length]

/-- A word below the highest of a wide register is held (R424). -/
theorem State.regWrite_below {p : Part} {off base len : Nat} {data : List Byte} (s : State) (line : List Byte)
    (hr : ringAt p off = none) (hw : wideAt p off = some (base, len)) (hlen : data.length = 4) (htop : off + 4 ≠ base + len) :
    s.regWrite p off data line
      = s.upd p fun c => { c with cfg.regHold := tabSet c.cfg.regHold off (BitVec.ofNat 32 (leNat data)) } := by
  simp [State.regWrite, State.wideWrite, hr, hw, hlen, htop]

/-- The number that a register of 8 bytes takes. -/
theorem field_leOf_eight (v : W64) : field (leOf 8 v) 0 8 = v.toNat := by
  rw [field_whole (leOf_length 8 v), leNat_leOf v (by decide)]

/-! ### What a write does -/

@[simp] theorem State.accept_true (s : State) (p : Part) (t : State) : s.accept p true t = t := rfl

@[simp] theorem State.accept_false (s : State) (p : Part) (t : State) : s.accept p false t = s.refuseWrite p := rfl

/-- A refused write of the TSU sets `WR_REJ` and leaves its pages (R427). -/
@[simp] theorem State.refuseWrite_tsu (s : State) :
    (s.refuseWrite .tsu).tsu.cfg.wrRej = true ∧ (s.refuseWrite .tsu).tsu.page = s.tsu.page := ⟨rfl, rfl⟩

/-- A refused write of the Phidor sets `WR_REJ` and leaves its pages (R427). -/
@[simp] theorem State.refuseWrite_phi (s : State) :
    (s.refuseWrite .phi).phi.cfg.wrRej = true ∧ (s.refuseWrite .phi).phi.page = s.phi.page := ⟨rfl, rfl⟩

/-- The offset of `STATE_ADDR`. -/
def stateAddrAt : Part → Nat
  | .tsu => 0x0A00
  | .phi => 0x2000

/-- A write of `STATE_ADDR` takes the address of a page and is refused otherwise (R427). -/
theorem exec_stateAddr_write {s : State} {p : Part} (a : W64) (h : s.reaches p (stateAddrAt p) 8) :
    exec (.trappedWrite p (stateAddrAt p) (leOf 8 a)) s
      = let u := (s.taken p (stateAddrAt p) (leOf 8 a)).dropHeld p (stateAddrAt p) 8
        .next (u.accept p (a.toNat % 4096 == 0) (u.upd p fun c => { c with page.stateAddr := a })) := by
  rw [exec_trappedWrite_reaches (by simpa using h) (by rintro rfl; decide),
    State.regWrite_eight _ _ _ (by cases p <;> decide) (by cases p <;> decide)]
  cases p <;> simp [State.applyWide, stateAddrAt, field_leOf_eight]

theorem stateAddr_takes_page {s : State} {p : Part} {a : W64} (h : s.reaches p (stateAddrAt p) 8)
    (ha : a.toNat % 4096 = 0) :
    Answers (.trappedWrite p (stateAddrAt p) (leOf 8 a)) s fun t =>
      (t.part p).page.stateAddr = a ∧ (t.part p).time = (s.part p).time ∧ (t.part p).rings = (s.part p).rings ∧ t.die = s.die
        ∧ t.meter = s.meter := by
  refine ⟨_, exec_stateAddr_write a h, ?_⟩
  cases p <;> simp [ha, State.dropHeld]

theorem stateAddr_refuses_rest {s : State} {p : Part} {a : W64} (h : s.reaches p (stateAddrAt p) 8)
    (ha : a.toNat % 4096 ≠ 0) :
    Answers (.trappedWrite p (stateAddrAt p) (leOf 8 a)) s fun t =>
      (t.part p).page.stateAddr = (s.part p).page.stateAddr ∧ (t.part p).cfg.wrRej = true ∧ (t.part p).time = (s.part p).time
        ∧ (t.part p).rings = (s.part p).rings ∧ t.die = s.die ∧ t.meter = s.meter := by
  refine ⟨_, exec_stateAddr_write a h, ?_⟩
  rw [show (a.toNat % 4096 == 0) = false by simpa using ha]
  cases p <;> simp [State.dropHeld]

/-- The offset of `CFG_STATUS`. -/
def cfgStatusAt : Part → Nat
  | .tsu => 0x0200
  | .phi => 0x1020

/-- A W1C bit of `CFG_STATUS` that is written with 1 stays only when hardware sets it in the cycle of the write (R7). -/
theorem cfgStatus_clears {s : State} {p : Part} (w : W32) (h : s.reaches p (cfgStatusAt p) 4) :
    Answers (.trappedWrite p (cfgStatusAt p) (leOf 4 w)) s fun t =>
      (t.part p).cfg.wrRej = ((s.part p).cfg.wrRej && (!w.getLsbD 2 || (s.part p).cycs.sets.contains (.wrRej, s.cyc)))
        ∧ (t.part p).cfg.accErr = ((s.part p).cfg.accErr && (!w.getLsbD 3 || (s.part p).cycs.sets.contains (.accErr, s.cyc)))
        ∧ (t.part p).time = (s.part p).time ∧ (t.part p).rings = (s.part p).rings ∧ t.die = s.die ∧ t.meter = s.meter := by
  refine ⟨(s.taken p (cfgStatusAt p) (leOf 4 w)).cfgStatusWrite p w, ?_, ?_⟩
  · rw [exec_trappedWrite_reaches (by simpa using h) (by rintro rfl; decide),
      State.regWrite_word _ _ _ (by cases p <;> decide) (by cases p <;> decide) (by cases p <;> decide)]
    cases p <;> simp [State.tsuWord, State.phiWord, cfgStatusAt]
  · cases p <;> simp [State.cfgStatusWrite, State.afterW1c]

/-- `GO` while `BUSY` is ignored but for `MBX_REJ`, and `REQ` is stored (R435). -/
theorem State.mbxGo_busy {s : State} {w : W32} (hbusy : s.hub.fw.mbxBusy = true) (hgo : w.getLsbD 31 = true) :
    s.mbxGo w = { s with hub.fw.mbxReq := w.toNat % 256, hub.fw.mbxRej := true }.noteSet .phi .mbxRej := by
  simp only [State.mbxGo, hbusy, hgo, Bool.not_true, Bool.false_eq_true, if_false, if_true]

/-- `GO` while `BUSY` sets `MBX_REJ` and starts nothing; `REQ` is stored all the same (R6, R435). -/
theorem mailbox_busy_rejects {s : State} {w : W32} (h : s.reaches .phi 0x4000 4) (hbusy : s.hub.fw.mbxBusy = true)
    (hgo : w.getLsbD 31 = true) :
    Answers (.trappedWrite .phi 0x4000 (leOf 4 w)) s fun t =>
      t.hub.fw.mbxReq = w.toNat % 256 ∧ t.hub.fw.mbxRej = true ∧ t.hub.fw.mbxRun = s.hub.fw.mbxRun ∧ t.hub.fw.mbxBusy = true
        ∧ t.phi.time = s.phi.time ∧ t.phi.rings = s.phi.rings ∧ t.hub.seqs = s.hub.seqs ∧ t.mdl = s.mdl ∧ s.sameTsu t := by
  refine ⟨(s.taken .phi 0x4000 (leOf 4 w)).mbxGo w, ?_, ?_⟩
  · rw [exec_trappedWrite_reaches (by simpa using h) (fun _ => by decide),
      State.regWrite_word _ _ _ (by decide) (by decide) (by decide)]
    simp [State.phiWord]
  · rw [State.mbxGo_busy (by simpa using hbusy) hgo]
    simp [State.sameTsu, hbusy]

theorem trappedWrite_misaligned {s : State} {off : Nat} {data : List Byte} (h : accessOk off data.length = false) :
    Answers (.trappedWrite .tsu off data) s fun t =>
      t.tsu.cfg.accErr = true ∧ t = { s with tsu.cfg.accErr := true, tsu.cycs := t.tsu.cycs } := by
  refine ⟨s.accessError .tsu, ?_, rfl, rfl⟩
  show execTrappedWrite .tsu off data s = _
  simp [execTrappedWrite, State.viaWindow, h]

theorem trappedWrite_lost {s : State} {off : Nat} {data : List Byte} (h : accessOk off data.length = true)
    (hl : s.writeLost off = true) : exec (.trappedWrite .tsu off data) s = .next s := by
  show execTrappedWrite .tsu off data s = _
  simp [execTrappedWrite, State.viaWindow, h, hl]

/-! ### Reads -/

theorem trappedRead_tsu {s : State} {off len : Nat} (h : accessOk off len = true) (hoff : off ≠ 0x0B40) :
    exec (.trappedRead .tsu off len) s = .next { s with out := s.out ++ [.regRead .tsu (s.readReg .tsu off len)] } := by
  show execTrappedRead .tsu off len s = _
  simp [execTrappedRead, State.answerRead, State.emit, h, hoff]

/-- A Phidor in a chip reset answers a read with all ones (R369). -/
theorem trappedRead_inReset {s : State} {off len : Nat} (h : s.phi.cfg.startStep ≤ 1) :
    exec (.trappedRead .phi off len) s
      = .next { s with out := s.out ++ [.regRead .phi (BitVec.ofNat 64 (2 ^ (8 * len) - 1))] } := by
  show execTrappedRead .phi off len s = _
  simp [execTrappedRead, State.emit, h]

/-- A read of the Phidor's window that firmware does not take as it comes waits behind the writes before it (R345). -/
theorem trappedRead_waits {s : State} {off len : Nat} (h : 2 ≤ s.phi.cfg.startStep) (hb : hardBlock off = false)
    (hp : s.hub.fw.prompt = false) : Answers (.trappedRead .phi off len) s fun t =>
      t.hub.fw.trapReads = s.hub.fw.trapReads ++ [⟨off, len, s.ns .phi, s.hub.fw.trapQueue.length⟩] ∧ t.out = s.out
        ∧ t.phi.time = s.phi.time ∧ s.sameTsu t := by
  have hstep : ¬ s.phi.cfg.startStep ≤ 1 := by omega
  show gives (execTrappedRead .phi off len s) _
  simp [execTrappedRead, State.sameTsu, State.ns, hstep, hb, hp]

/-- The oldest waiting read completes with all ones once it has waited for 50 us (R345). -/
theorem trapReadTimeout_fires {s : State} {r : TrapRead} {rs : List TrapRead} (h : s.hub.fw.trapReads = r :: rs) :
    Fires .trapReadTimeout s ((s.ns .phi - r.atNs).toInt ≥ 50000) fun t =>
      t.out = s.out ++ [.regRead .phi (BitVec.ofNat 64 (2 ^ (8 * r.len) - 1))] ∧ t.hub.fw.trapReads = rs ∧ t.hub.fw.trapLate = true
        ∧ t.phi.time = s.phi.time ∧ t.phi.rings = s.phi.rings ∧ t.mdl = s.mdl ∧ s.sameTsu t := by
  constructor <;> intro hc
  · have hdue : elapsed (s.ns .phi) r.atNs (us 50) = true := decide_eq_true hc
    show gives (execTrapReadTimeout s) _
    simp [execTrapReadTimeout, h, hdue, State.sameTsu, State.emit]
  · have hearly : elapsed (s.ns .phi) r.atNs (us 50) = false := decide_eq_false hc
    show execTrapReadTimeout s = _
    simp [execTrapReadTimeout, h, hearly, whenever]

/-! ### Registers with a command of their own -/

/-- The registers of a region's `WATCH` are one wide register of 32 bytes (R431). -/
theorem wideAt_watch : ∀ r < 16, ∀ off < 32, wideAt .tsu (0x0500 + 32 * r + off) = some (0x0500 + 32 * r, 32) := by
  decide +kernel

theorem ringAt_watch {r off : Nat} (hr : r < 16) (ho : off < 32) : ringAt .tsu (0x0500 + 32 * r + off) = none := by
  rw [ringAt, if_neg (by simp only [ringOffset]; omega)]

/-- A write of words of `WATCH` is a write of the TSU's window (R431). -/
theorem exec_watchWrite {s : State} {r off : Nat} {data : List Byte} (hr : r < 16) (ho : off + data.length ≤ 32)
    (h : s.reaches .tsu (0x0500 + 32 * r + off) data.length) :
    exec (.watchWrite r off data) s = .next (s.regWrite .tsu (0x0500 + 32 * r + off) data []) := by
  show execWatchWrite r off data s = _
  rw [execWatchWrite, if_neg (by omega), State.viaWindow_reaches h, State.taken_tsu]

/-- A word of `WATCH` below its highest is held (R424). -/
theorem watchWrite_holds {s : State} {r off : Nat} {data : List Byte} (hr : r < 16) (hal : off % 4 = 0) (ho : off < 28)
    (hlen : data.length = 4) (h : s.reaches .tsu (0x0500 + 32 * r + off) 4) :
    exec (.watchWrite r off data) s
      = .next { s with tsu.cfg.regHold := tabSet s.tsu.cfg.regHold (0x0500 + 32 * r + off) (BitVec.ofNat 32 (leNat data)) } := by
  rw [exec_watchWrite hr (by omega) (by rwa [hlen]),
    State.regWrite_below s [] (ringAt_watch hr (by omega)) (wideAt_watch r hr off (by omega)) hlen (by omega)]
  rfl

/-- The watch that a write with `EN` starts: its values are those in force, and it runs unless the region's channel has failed (R431). -/
def WatchSt.started (w : WatchSt) (v : List Byte) : WatchSt :=
  let pre := (byteAt v 0).toNat / 2 % 8
  let m := (byteAt v 1).toNat % 32
  let lo : W64 := BitVec.ofNat 64 (field v 8 8)
  let hi : W64 := BitVec.ofNat 64 (field v 16 8)
  { w with en := true, prescale := pre, m := m, gate := field v 2 2, lo := lo, hi := hi, running := !w.failed,
           curPrescale := pre, curM := m, curGate := field v 2 2, curLo := lo, curHi := hi }

/-- The values of `WATCH` are in their ranges (R431). -/
def watchInRange (v : List Byte) : Prop :=
  (byteAt v 0).toNat / 2 % 8 ≤ 6 ∧ (byteAt v 1).toNat % 32 ≤ 20 ∧ 1 ≤ field v 2 2
    ∧ (BitVec.ofNat 64 (field v 8 8)).toInt ≤ (BitVec.ofNat 64 (field v 16 8)).toInt

/-- `EN` with values in their ranges starts the watch of a region whose channel measures nothing (R89, R431). -/
theorem State.watchWrite_starts {s : State} {r : Nat} {v : List Byte} (hen : (byteAt v 0).getLsbD 0 = true)
    (hv : watchInRange v) (hmeas : (s.chan .tsu (16 + r)).meas = none) (hrun : (s.watch r).running = false) :
    s.watchWrite r v = { s with die.spine.watches := tabSet s.die.spine.watches r ((s.watch r).started v) } := by
  obtain ⟨hpre, hm, hgate, hbounds⟩ := hv
  simp only [State.watchWrite, hen, hmeas, hrun]
  simp [hmeas, hpre, hm, hgate, hbounds, WatchSt.started]

/-- The write of a region's highest words puts its `WATCH` in force, with the words held (R424, R431). -/
theorem exec_watchWrite_top {s : State} {r : Nat} {data : List Byte} (hr : r < 16) (hlen : data.length = 8)
    (h : s.reaches .tsu (0x0518 + 32 * r) 8) :
    exec (.watchWrite r 24 data) s
      = .next ((s.dropHeld .tsu (0x0500 + 32 * r) 32).watchWrite r (splice (s.wideBytes .tsu (0x0500 + 32 * r) 32) 24 data)) := by
  have hoff : 0x0500 + 32 * r + 24 = 0x0518 + 32 * r := by omega
  rw [exec_watchWrite hr (by omega) (by rwa [hlen, hoff]),
    State.regWrite_top s [] (ringAt_watch hr (by omega)) (wideAt_watch r hr 24 (by omega)) (by omega)]
  simp only [State.applyWide]
  rw [if_pos (by omega), Nat.add_sub_cancel_left, Nat.add_sub_cancel_left, Nat.mul_div_cancel_left r (by decide)]

theorem watchWrite_starts {s : State} {r : Nat} {data v : List Byte} (hr : r < 16) (hlen : data.length = 8)
    (h : s.reaches .tsu (0x0518 + 32 * r) 8) (hv : v = splice (s.wideBytes .tsu (0x0500 + 32 * r) 32) 24 data)
    (hen : (byteAt v 0).getLsbD 0 = true) (hrange : watchInRange v) (hmeas : (s.chan .tsu (16 + r)).meas = none)
    (hrun : (s.watch r).running = false) : Answers (.watchWrite r 24 data) s fun t =>
      (t.watch r).en = true ∧ (t.watch r).running = (!(s.watch r).failed) ∧ (t.watch r).curM = (byteAt v 1).toNat % 32
        ∧ (t.watch r).curGate = field v 2 2 ∧ (∀ j, j ≠ r → t.watch j = s.watch j) ∧ t.tsu.time = s.tsu.time ∧ t.out = s.out
        ∧ t.meter = s.meter ∧ s.samePhi t := by
  refine ⟨_, exec_watchWrite_top hr hlen h, ?_⟩
  have hstart := State.watchWrite_starts (s := s.dropHeld .tsu (0x0500 + 32 * r) 32) (r := r) hen hrange hmeas hrun
  rw [← hv, hstart]
  have hself : tabGet {} (tabSet s.die.spine.watches r ((s.watch r).started v)) r = (s.watch r).started v :=
    tabGet_set_same _ _ _ _
  refine ⟨congrArg WatchSt.en hself, congrArg WatchSt.running hself, congrArg WatchSt.curM hself,
    congrArg WatchSt.curGate hself, fun j hj => tabGet_set_other _ _ _ hj, rfl, rfl, rfl, rfl, rfl, rfl⟩

/-- `LEDGER_BASE` takes the address of a page while the ledger has none (R434). -/
theorem ledgerBase_takes_page {s : State} {v : W64} (h : s.reaches .phi 0x2010 8) (hbase : s.hub.led.base = 0)
    (hv : v.toNat % 4096 = 0) : Answers (.ledgerRegWrite 0x2010 (leOf 8 v)) s fun t =>
      t.hub.led = { s.hub.led with base := v } ∧ t.phi.time = s.phi.time ∧ t.hub.seqs = s.hub.seqs ∧ t.mdl = s.mdl
        ∧ s.sameTsu t := by
  let u := (s.taken .phi 0x2010 (leOf 8 v)).dropHeld .phi 0x2010 8
  refine ⟨u.ledUpd fun l => { l with base := v }, ?_, ?_⟩
  · show execLedgerRegWrite 0x2010 (leOf 8 v) s = _
    rw [execLedgerRegWrite, if_neg (by simp), State.viaWindow_reaches (by simpa using h),
      State.regWrite_eight _ _ _ (by decide) (by decide)]
    simp [State.applyWide, State.ledgerReg, field_leOf_eight, hbase, hv, u, State.dropHeld]
  · simp [u, State.dropHeld, State.ledUpd, State.hubUpd, State.sameTsu]

/-! ### Doorbell lines -/

@[simp] theorem State.updRing_ring_same (s : State) (p : Part) (i : Nat) (f : Ring → Ring) :
    (s.updRing p i f).ring p i = f (s.ring p i) := by
  cases p <;> exact tabGet_mod_same _ _ _ _

theorem State.updRing_ring_other (s : State) (p : Part) {i j : Nat} (f : Ring → Ring) (h : j ≠ i) :
    (s.updRing p i f).ring p j = s.ring p j := by
  cases p <;> exact tabGet_mod_other _ _ _ h

/-- Of a part's rings two states differ at most in one, and not in its indices from the host and its commands in flight. -/
def State.onlyCompletes (s t : State) (p : Part) (i : Nat) : Prop :=
  (t.ring p i).cplCons = (s.ring p i).cplCons ∧ (t.ring p i).prod = (s.ring p i).prod
    ∧ (t.ring p i).inflight = (s.ring p i).inflight ∧ ∀ j, j ≠ i → t.ring p j = s.ring p j

theorem State.onlyCompletes_trans {s t u : State} {p : Part} {i : Nat} (h : s.onlyCompletes t p i)
    (h' : t.onlyCompletes u p i) : s.onlyCompletes u p i := by
  obtain ⟨hcons, hprod, hin, hother⟩ := h
  obtain ⟨hcons', hprod', hin', hother'⟩ := h'
  exact ⟨hcons'.trans hcons, hprod'.trans hprod, hin'.trans hin, fun j hj => (hother' j hj).trans (hother j hj)⟩

theorem State.onlyCompletes_of_rings {s t : State} {p : Part} (i : Nat) (h : (t.part p).rings = (s.part p).rings) :
    s.onlyCompletes t p i := by
  have hring : ∀ j, t.ring p j = s.ring p j := fun j => by rw [State.ring, State.ring, h]
  simp [State.onlyCompletes, hring]

theorem State.onlyCompletes_updRing (s : State) (p : Part) (i : Nat) {f : Ring → Ring}
    (hf : ∀ r, (f r).cplCons = r.cplCons ∧ (f r).prod = r.prod ∧ (f r).inflight = r.inflight) :
    s.onlyCompletes (s.updRing p i f) p i := by
  simp only [State.onlyCompletes, State.updRing_ring_same, hf, true_and]
  exact fun j hj => s.updRing_ring_other p f hj

theorem State.onlyCompletes_ite {s t u : State} {p : Part} {i : Nat} (c : Prop) [Decidable c] (ht : s.onlyCompletes t p i)
    (hu : s.onlyCompletes u p i) : s.onlyCompletes (if c then t else u) p i := by
  split <;> assumption

theorem State.onlyCompletes_ringIrq (s : State) (p : Part) (i : Nat) : s.onlyCompletes (s.ringIrq p i) p i := by
  have hraise : ∀ (u : State) (v : Nat), u.onlyCompletes (u.raiseIrq p v) p i := fun u v =>
    State.onlyCompletes_of_rings i (by cases p <;> simp)
  refine State.onlyCompletes_ite _ (State.onlyCompletes_of_rings i rfl) (State.onlyCompletes_ite _ ?_ ?_)
  · refine State.onlyCompletes_trans ?_ (hraise _ _)
    exact s.onlyCompletes_updRing p i fun _ => ⟨rfl, rfl, rfl⟩
  · exact s.onlyCompletes_updRing p i fun _ => ⟨rfl, rfl, rfl⟩

/-- Writing a completion takes the ring's `CPL_PROD` on, and may raise its interrupt (R297, R298). -/
theorem State.onlyCompletes_writeCpl (s : State) (p : Part) (i : Nat) (c : Cpl) : s.onlyCompletes (s.writeCpl p i c) p i := by
  have hdma : ∀ a k d, s.onlyCompletes (s.dmaOrdered p a k d) p i := fun a k d =>
    State.onlyCompletes_of_rings i (by cases p <;> simp)
  have hprod : ∀ u : State, u.onlyCompletes (u.updRing p i fun r => { r with cplProd := r.cplProd + 1 }) p i := fun u =>
    u.onlyCompletes_updRing p i fun _ => ⟨rfl, rfl, rfl⟩
  have hcount : ∀ (u : State) (e : Nat), u.onlyCompletes (u.count p e i 1) p i := fun u e =>
    State.onlyCompletes_of_rings i (by cases p <;> simp)
  have hwritten := fun a k d e => State.onlyCompletes_trans (hdma a k d) (State.onlyCompletes_trans (hprod _) (hcount _ e))
  unfold State.writeCpl
  exact State.onlyCompletes_ite _ (State.onlyCompletes_trans (hwritten _ _ _ _) (State.onlyCompletes_ringIrq _ _ _))
    (hwritten _ _ _ _)

theorem State.onlyCompletes_flushCpl (s : State) (p : Part) (i : Nat) (l : List Cpl) :
    s.onlyCompletes (s.flushCpl p i l) p i := by
  induction l generalizing s with
  | nil => exact s.onlyCompletes_updRing p i fun _ => ⟨rfl, rfl, rfl⟩
  | cons c cs ih =>
    unfold State.flushCpl
    split
    · exact State.onlyCompletes_trans (s.onlyCompletes_writeCpl p i c) (ih _)
    · exact s.onlyCompletes_updRing p i fun _ => ⟨rfl, rfl, rfl⟩

/-- A doorbell line with both indices in range: `CPL_CONS` and `PROD` are taken, and nothing of another ring changes (R287, R289, R298). -/
theorem State.doorbell_takes (s : State) (p : Part) (i : Nat) {prod cons : W32} (hen : (s.ring p i).rstate = .enabled)
    (hcons : (cons - (s.ring p i).cplCons).toNat ≤ ((s.ring p i).cplProd - (s.ring p i).cplCons).toNat)
    (hprod : (prod - (s.ring p i).fetched).toNat ≤ 2 ^ (s.ring p i).entry.sizeLog2) :
    ((s.doorbell p i prod cons).ring p i).cplCons = cons ∧ ((s.doorbell p i prod cons).ring p i).prod = prod
    ∧ ((s.doorbell p i prod cons).ring p i).inflight = (s.ring p i).inflight
    ∧ ∀ j, j ≠ i → (s.doorbell p i prod cons).ring p j = s.ring p j := by
  let u := s.updRing p i fun r => { r with cplCons := cons }
  have hring : u.ring p i = { s.ring p i with cplCons := cons } := s.updRing_ring_same p i _
  have hdis : (RState.enabled == RState.disabled) = false := rfl
  have hdoor : s.doorbell p i prod cons
      = (u.flushCpl p i (u.ring p i).held).updRing p i fun r => { r with prod := prod } := by
    simp only [State.doorbell, hen, hdis, Bool.false_eq_true, if_false, if_pos hcons, if_pos hprod, u]
  obtain ⟨hc, -, hin, hother⟩ := u.onlyCompletes_flushCpl p i (u.ring p i).held
  rw [hdoor, State.updRing_ring_same]
  refine ⟨hc.trans (by rw [hring]), rfl, hin.trans (by rw [hring]), fun j hj => ?_⟩
  rw [State.updRing_ring_other _ _ _ hj, hother j hj, State.updRing_ring_other _ _ _ hj]

/-- The doorbell line of a ring, as a nudge reads it (R436). -/
theorem State.nudge_enabled (s : State) (i : Nat) (prod cons : W32) (h : (s.ring .phi i).rstate = .enabled) :
    s.nudge i (leOf 4 prod ++ leOf 4 cons) = s.doorbell .phi i prod cons := by
  have hp : field (leOf 4 prod ++ leOf 4 cons) 0 4 = prod.toNat := by
    rw [field, slice_front (leOf_length 4 prod), leNat_leOf prod (by decide)]
  have hc : field (leOf 4 prod ++ leOf 4 cons) 4 4 = cons.toNat := by
    have hmid := slice_mid (b := []) (leOf_length 4 prod) (leOf_length 4 cons)
    rw [List.append_nil] at hmid
    rw [field, hmid, leNat_leOf cons (by decide)]
  simp [State.nudge, h, hp, hc]

/-- A nudge of an enabled ring takes the indices of its doorbell line (R436). -/
theorem dbNudge_takes {s : State} {ring : Nat} {prod cons : W32} (h : s.reaches .phi 0x040000 4) (hr : ring < 4096)
    (hen : (s.ring .phi ring).rstate = .enabled)
    (hcons : (cons - (s.ring .phi ring).cplCons).toNat ≤ ((s.ring .phi ring).cplProd - (s.ring .phi ring).cplCons).toNat)
    (hprod : (prod - (s.ring .phi ring).fetched).toNat ≤ 2 ^ (s.ring .phi ring).entry.sizeLog2) :
    Answers (.dbNudge ring prod cons) s fun t =>
      (t.ring .phi ring).cplCons = cons ∧ (t.ring .phi ring).prod = prod ∧ (t.ring .phi ring).inflight = (s.ring .phi ring).inflight
        ∧ (∀ j, j ≠ ring → t.ring .phi j = s.ring .phi j) ∧ t.phi.time = s.phi.time ∧ t.hub.seqs = s.hub.seqs ∧ t.mdl = s.mdl
        ∧ s.sameTsu t := by
  have hreach : s.reaches .phi (0x040000 + 4 * ring) (zeros 4).length := by
    refine ⟨?_, by simp, h.2.2⟩
    simp [accessOk, zeros]
  obtain ⟨u, hu⟩ : ∃ u, u = s.taken .phi (0x040000 + 4 * ring) (zeros 4) := ⟨_, rfl⟩
  have hring : ∀ j, u.ring .phi j = s.ring .phi j := fun j => by simp [State.ring, hu]
  obtain ⟨hc, hp, hin, hother⟩ := u.doorbell_takes .phi ring (prod := prod) (cons := cons) (by rwa [hring])
    (by rwa [hring]) (by rwa [hring])
  refine ⟨u.doorbell .phi ring prod cons, ?_, hc, hp, hin.trans (by rw [hring]), fun j hj => (hother j hj).trans (hring j), ?_⟩
  · show execDbNudge ring prod cons s = _
    rw [execDbNudge, if_neg (by omega), State.viaWindow_reaches hreach, State.nudge_enabled _ _ _ _ (by rw [← hu, hring, hen]), hu]
  · simp [hu, State.sameTsu]

/-! ### The ledger's doorbell line -/

theorem State.flushLedger_cons (s : State) (l : List (Nat × List Byte)) : (s.flushLedger l).hub.led.cons = s.hub.led.cons := by
  have hput : ∀ (s : State) (kind src len : Nat) (body : List Byte), (s.putEntry kind src len body).hub.led.cons = s.hub.led.cons := by
    intro s kind src len body
    simp [State.putEntry, State.ledUpd, State.hubUpd]
  have hwrite : ∀ (s : State) (kind src : Nat) (body : List Byte), (s.writeEntry kind src body).hub.led.cons = s.hub.led.cons := by
    intro s kind src body
    simp only [State.writeEntry]
    split <;> simp [hput]
  induction l generalizing s with
  | nil => rfl
  | cons e es ih =>
    unfold State.flushLedger
    split
    · rw [ih, hwrite]
    · rfl

theorem State.ledgerDoorbell_cons (s : State) (cons : W64) (h : s.hub.led.base ≠ 0) :
    (s.ledgerDoorbell cons).hub.led.cons = cons := by
  rw [State.ledgerDoorbell, if_neg h]
  exact State.flushLedger_cons _ _

/-- A nudge of the ledger makes the Phidor read `LCONS` (R436). -/
theorem ledgerNudge_takes {s : State} (cons : W64) (h : s.reaches .phi 0x044000 4) (hbase : s.hub.led.base ≠ 0) :
    Answers (.ledgerNudge cons) s fun t =>
      t.hub.led.cons = cons ∧ t.phi.time = s.phi.time ∧ t.hub.seqs = s.hub.seqs ∧ t.mdl = s.mdl ∧ s.sameTsu t := by
  refine ⟨(s.taken .phi 0x044000 (zeros 4)).ledgerDoorbell cons, ?_, ?_, ?_⟩
  · show execLedgerNudge cons s = _
    rw [execLedgerNudge, State.viaWindow_reaches (by simpa [zeros] using h)]
  · exact State.ledgerDoorbell_cons _ _ (by simpa using hbase)
  · simp [State.sameTsu]

/-! ### Counters, latches and fault counts -/

/-- `WRAP_CLR` clears every `WRAP` bit but that of a counter which wraps in the write's own cycle (R394, R437). -/
theorem wrapClr_clears {s : State} {p : Part} (h : s.reaches p (cntCtrlAt p) 4) : Answers (.wrapClr p) s fun t =>
      (∀ c ∈ (t.part p).cnt.counters, c.wrapCyc ≠ some s.cyc → c.wrap = false)
        ∧ (p = .tsu → t.tsu.cnt.counters = s.tsu.cnt.counters.map fun c => { c with wrap := c.wrap && c.wrapCyc == some s.cyc })
        ∧ (t.part p).time = (s.part p).time ∧ (t.part p).rings = (s.part p).rings ∧ t.die = s.die ∧ t.meter = s.meter := by
  let u := s.taken p (cntCtrlAt p) (leBytes 4 1)
  have hcyc : u.cyc = s.cyc := by simp [u]
  have hmap : ((u.wrapClr p).part p).cnt.counters
      = (u.part p).cnt.counters.map fun c => { c with wrap := c.wrap && c.wrapCyc == some s.cyc } := by
    rw [← hcyc]; cases p <;> rfl
  refine ⟨u.wrapClr p, ?_, ?_, ?_, ?_⟩
  · show execWrapClr p s = _
    rw [execWrapClr, State.viaWindow_reaches (by simpa using h)]
  · rw [hmap]
    intro c hc hw
    obtain ⟨x, -, rfl⟩ := List.mem_map.mp hc
    simp [show x.wrapCyc ≠ some s.cyc from hw]
  · rintro rfl
    exact hmap
  · cases p <;> simp [u]

/-- `LATCH_NOW` with a `LOCAL_ID` and room for it leaves a local latch to be applied (R433). -/
theorem latchNow_waits {s : State} (h : s.reaches .tsu 0x0C00 4) (hid : s.tsu.cnt.localId ≠ 0)
    (hroom : s.tsu.cnt.pending.length < 4) :
    Answers .latchNow s fun t =>
      t.tsu.cnt.pending = ⟨s.ns .tsu, s.tsu.cnt.localId, 0, none, true, false⟩ :: s.tsu.cnt.pending ∧ t.tsu.cnt.latchBusy = true
        ∧ t = { s with tsu.cnt := t.tsu.cnt } := by
  have hlatch : s.latchNow = { s with
      tsu.cnt.latchBusy := true,
      tsu.cnt.pending := ⟨s.ns .tsu, s.tsu.cnt.localId, 0, none, true, false⟩ :: s.tsu.cnt.pending } := by
    rw [State.latchNow, if_neg hid, if_neg (by omega)]
    rfl
  refine ⟨s.latchNow, ?_, ?_⟩
  · show execLatchNow s = _
    rw [execLatchNow, State.viaWindow_reaches (by simpa using h), State.taken_tsu]
  · rw [hlatch]
    exact ⟨rfl, rfl, rfl⟩

/-- The offset of `FLT_CTRL`. -/
def fltCtrlAt : Part → Nat
  | .tsu => 0x0D08
  | .phi => 0x3008

/-- Setting bit 31 of a word leaves its fields below. -/
theorem toNat_or_top (w : W32) : (w ||| 0x80000000#32).toNat % 32 = w.toNat % 32
    ∧ (w ||| 0x80000000#32).toNat / 65536 % 2048 = w.toNat / 65536 % 2048 := by
  rw [BitVec.toNat_or]
  constructor
  · exact (Nat.or_mod_two_pow (n := 5)).trans (by simp)
  · have hdiv : (w.toNat ||| 0x80000000) / 65536 = w.toNat / 65536 ||| 0x8000 := Nat.or_div_two_pow (n := 16)
    exact (congrArg (· % 2048) hdiv).trans ((Nat.or_mod_two_pow (n := 11)).trans (by simp))

/-- A write of `FLT_CTRL` with values in their ranges and with `FLT_CNT_CLR` (R364). -/
theorem State.fltCtrl_clears (s : State) (p : Part) {w : W32} (htop : w.getLsbD 31 = true) (hlo : 6 ≤ w.toNat % 32)
    (hhi : w.toNat % 32 ≤ 20) (hvec : w.toNat / 65536 % 2048 ≤ 63) :
    s.fltCtrl p w = s.upd p fun c => { c with
      flt.log2 := w.toNat % 32, flt.irqEn := w.getLsbD 8, flt.vector := w.toNat / 65536 % 2048, flt.cnt := [] } := by
  have hvec' : w.toNat / 65536 % 2048 ≤ 2047 := Nat.le_trans hvec (by decide)
  cases p <;>
    simp only [State.fltCtrl, within, hlo, hhi, hvec, hvec', htop, decide_true, Bool.and_self, if_true, State.accept_true] <;>
    rfl

/-- `FLT_CNT_CLR` clears the counts, and the other fields are taken with it (R364). -/
theorem fltCntClr_clears {s : State} {p : Part} {rest : W32} (h : s.reaches p (fltCtrlAt p) 4) (hlo : 6 ≤ rest.toNat % 32)
    (hhi : rest.toNat % 32 ≤ 20) (hvec : rest.toNat / 65536 % 2048 ≤ 63) : Answers (.fltCntClr p rest) s fun t =>
      (t.part p).flt.cnt = [] ∧ (t.part p).flt.log2 = rest.toNat % 32 ∧ (t.part p).flt.vector = rest.toNat / 65536 % 2048
        ∧ (t.part p).time = (s.part p).time ∧ (t.part p).rings = (s.part p).rings ∧ t.die = s.die ∧ t.meter = s.meter := by
  obtain ⟨w, hw⟩ : ∃ w, w = rest ||| 0x80000000#32 := ⟨_, rfl⟩
  obtain ⟨hlog, hv⟩ := toNat_or_top rest
  rw [← hw] at hlog hv
  have htop : w.getLsbD 31 = true := by simp [hw]
  refine ⟨(s.taken p (fltCtrlAt p) (leOf 4 w)).fltCtrl p w, ?_, ?_⟩
  · have hreach : s.reaches p (fltCtrlAt p) (leOf 4 w).length := by simpa using h
    rw [hw] at hreach ⊢
    show execFltCntClr p rest s = _
    cases p <;> exact State.viaWindow_reaches hreach (fun s => s.fltCtrl _ (rest ||| 0x80000000#32)) []
  · rw [State.fltCtrl_clears _ p htop (hlog ▸ hlo) (hlog ▸ hhi) (hv ▸ hvec)]
    cases p <;> simp [hlog, hv]

/-- Settles O47: each register by the word or wide register that its offset names, behind one lemma on what a write that reaches a
part does. -/
theorem registerAccess : Obligations.RegisterAccess := by
  unfold Obligations.RegisterAccess
  refine ⟨?stateAddr, fun s off data => trappedWrite_misaligned, ?cfgStatus, fun s off data => trappedWrite_lost,
    fun s w => mailbox_busy_rejects, fun s off len => ⟨fun h ho => ⟨_, trappedRead_tsu h ho, rfl⟩,
      fun h => ⟨_, trappedRead_inReset h, rfl⟩, trappedRead_waits⟩, fun s r rs => trapReadTimeout_fires,
    fun s r off data hr hal ho hlen h => ⟨_, watchWrite_holds hr hal ho hlen h, rfl⟩, ?watch,
    fun s v => ledgerBase_takes_page, fun s ring prod cons => dbNudge_takes, fun s cons => ledgerNudge_takes cons,
    fun s p => wrapClr_clears, fun s => latchNow_waits, ?fltCtrl⟩
  case stateAddr =>
    rintro s p off a rfl h
    cases p <;> exact ⟨stateAddr_takes_page h, stateAddr_refuses_rest h⟩
  case cfgStatus =>
    intro s p w h
    cases p <;> exact cfgStatus_clears w h
  case watch =>
    intro s r data v hr hlen h hv hen hpre hm hgate hbounds hmeas hrun
    exact watchWrite_starts hr hlen h hv hen ⟨hpre, hm, hgate, hbounds⟩ hmeas hrun
  case fltCtrl =>
    intro s p rest h hlo hhi hvec
    cases p <;> exact fltCntClr_clears h hlo hhi hvec

end Sys2Proof.Machine

/-!
PROOFS. The TDC channels (R73 to R85): conversions, calibrations and host measurements, by what each operation does to its channel.
-/

namespace Sys2Proof.Machine

/-! ### Channels and ports -/

@[simp] theorem State.updChan_chan_same (s : State) (p : Part) (ch : Nat) (f : Chan → Chan) :
    (s.updChan p ch f).chan p ch = f (s.chan p ch) := by
  cases p <;> exact tabGet_mod_same _ _ _ _

theorem State.updChan_chan_other (s : State) (p : Part) {ch c : Nat} (f : Chan → Chan) (h : c ≠ ch) :
    (s.updChan p ch f).chan p c = s.chan p c := by
  cases p <;> exact tabGet_mod_other _ _ _ h

/-- A channel is read from its part's converters alone. -/
theorem State.chan_of_tdc {s t : State} {p : Part} (h : (t.part p).tdc = (s.part p).tdc) (ch : Nat) :
    t.chan p ch = s.chan p ch := by
  rw [State.chan, State.chan, h]

/-- A port is read from its part's ports alone. -/
theorem State.port_of_ports {s t : State} {p : Part} (h : (t.part p).ports = (s.part p).ports) (i : Nat) :
    t.port p i = s.port p i := by
  rw [State.port, State.port, h]

@[simp] theorem State.updPort_port_same (s : State) (p : Part) (i : Nat) (f : Port → Port) :
    (s.updPort p i f).port p i = f (s.port p i) := by
  cases p <;> exact tabGet_mod_same _ _ _ _

/-- A change of a channel leaves all else of its part. -/
@[simp] theorem State.updChan_part (s : State) (p : Part) (ch : Nat) (f : Chan → Chan) :
    ((s.updChan p ch f).part p).time = (s.part p).time ∧ ((s.updChan p ch f).part p).ports = (s.part p).ports
    ∧ ((s.updChan p ch f).part p).rings = (s.part p).rings ∧ ((s.updChan p ch f).part p).units = (s.part p).units
    ∧ ((s.updChan p ch f).part p).tdc.srcFailed = (s.part p).tdc.srcFailed
    ∧ ((s.updChan p ch f).part p).tdc.temp = (s.part p).tdc.temp := by
  cases p <;> simp [State.updChan]

/-- A unit is read from its part's units alone. -/
theorem State.unit_of_units {s t : State} {p : Part} (h : (t.part p).units = (s.part p).units) (kind i : Nat) :
    t.unit p kind i = s.unit p kind i := by
  rw [State.unit, State.unit, h]

/-- A change of a port leaves all else of its part. -/
@[simp] theorem State.updPort_part (s : State) (p : Part) (i : Nat) (f : Port → Port) :
    ((s.updPort p i f).part p).time = (s.part p).time ∧ ((s.updPort p i f).part p).tdc = (s.part p).tdc := by
  cases p <;> simp

/-! ### Conversions -/

/-- The TSU counts a conversion (R395); the Phidor has no counter for it. -/
def State.countConv (s : State) (p : Part) (ch n : Nat) : State := if p = .tsu then s.count .tsu 0x0201 ch n else s

@[simp] theorem State.countConv_keeps (s : State) (p : Part) (ch n : Nat) :
    ((s.countConv p ch n).part p).tdc = (s.part p).tdc ∧ ((s.countConv p ch n).part p).time = (s.part p).time
    ∧ ((s.countConv p ch n).part p).ports = (s.part p).ports ∧ (s.countConv p ch n).out = s.out
    ∧ (s.countConv p ch n).die = s.die ∧ (s.countConv p ch n).hub = s.hub := by
  cases p <;> simp [State.countConv]

/-- A multiphase receive stamp whose raw values are in range reaches its answer (R50, R73, R76, R77). -/
theorem tdcConversionDone_t2 {s : State} {p : Part} {chan input a b port : Nat} {cv : Conv} {an : Answer}
    (hcv : (s.chan p chan).convs.find? (fun x => x.input == input) = some cv) (hv : isVernier p chan = false)
    (huse : cv.use = .t2 port) (hcyc : cv.cyc + 2 ≤ s.cyc) (ha : a < 32) (hb : b < 16) (htab : cv.tabState ≠ 0)
    (han : (s.port p port).answer = some an) :
    Answers (.tdcConversionDone p chan input a b true) s fun t =>
      (t.port p port).answer = some { an with t2 := some (BitVec.ofInt 80
          (stampOf cv.cap (tauMulti cv.centre a b) - Config.chanConst (isPhi p) chan false cv.pairY)) }
        ∧ (t.chan p chan).convs = (s.chan p chan).convs.erase cv ∧ t.out = s.out ∧ (t.part p).time = (s.part p).time
        ∧ t.die = s.die ∧ t.hub = s.hub := by
  let u := (s.updChan p chan fun c => { c with convs := c.convs.erase cv }).countConv p chan 1
  let st : Ht80 := BitVec.ofInt 80
    (stampOf cv.cap (tauMulti cv.centre a b) - Config.chanConst (isPhi p) chan false cv.pairY)
  have hexec : exec (.tdcConversionDone p chan input a b true) s = .next (u.putStamp p (.t2 port) (some st)) := by
    show execTdcConversionDone p chan input a b true s = _
    have hlate : ¬ s.cyc < cv.cyc + 2 := by omega
    simp [execTdcConversionDone, hcv, convCycles, hv, hlate, State.staleStamp, huse, StampUse.transmit, ha, hb, htab, u, st,
      State.countConv]
  have hport : u.port p port = s.port p port := State.port_of_ports (by simp [u]) port
  have hchan : (u.putStamp p (.t2 port) (some st)).chan p chan
      = (s.updChan p chan fun c => { c with convs := c.convs.erase cv }).chan p chan :=
    State.chan_of_tdc (by simp [State.putStamp, u]) chan
  refine ⟨_, hexec, ?_, by simp [hchan], ?_⟩
  · simp [State.putStamp, hport, han, st]
  · simp [State.putStamp, u]

/-! ### What keeps a channel's calibration -/

/-- A channel has the same tables, vernier constants and calibration run in both states, and so have the part's time and the host die. -/
def State.sameCalibration (s t : State) (p : Part) (ch : Nat) : Prop :=
  (t.chan p ch).tables = (s.chan p ch).tables ∧ (t.chan p ch).cores = (s.chan p ch).cores
    ∧ (t.chan p ch).calRun = (s.chan p ch).calRun ∧ (t.chan p ch).lastCalNs = (s.chan p ch).lastCalNs
    ∧ (t.part p).time = (s.part p).time ∧ t.die = s.die

theorem State.sameCalibration_trans {s t u : State} {p : Part} {ch : Nat} (h : s.sameCalibration t p ch)
    (h' : t.sameCalibration u p ch) : s.sameCalibration u p ch := by
  obtain ⟨htab, hcore, hrun, hlast, htime, hdie⟩ := h
  obtain ⟨htab', hcore', hrun', hlast', htime', hdie'⟩ := h'
  exact ⟨htab'.trans htab, hcore'.trans hcore, hrun'.trans hrun, hlast'.trans hlast, htime'.trans htime, hdie'.trans hdie⟩

theorem State.sameCalibration_of_tdc {s t : State} {p : Part} (ch : Nat) (htdc : (t.part p).tdc = (s.part p).tdc)
    (htime : (t.part p).time = (s.part p).time) (hdie : t.die = s.die) : s.sameCalibration t p ch := by
  simp [State.sameCalibration, State.chan_of_tdc htdc, htime, hdie]

theorem State.sameCalibration_updChan (s : State) (p : Part) (ch : Nat) {f : Chan → Chan}
    (hf : ∀ c, (f c).tables = c.tables ∧ (f c).cores = c.cores ∧ (f c).calRun = c.calRun ∧ (f c).lastCalNs = c.lastCalNs) :
    s.sameCalibration (s.updChan p ch f) p ch := by
  simp [State.sameCalibration, hf]

/-- A metric below its threshold is noted and has no other effect (R88). -/
theorem State.evalMetric_below (s : State) (p : Part) (ch metric : Nat) {value thr : Nat} (cause : Cause) (h : value < thr) :
    s.evalMetric p ch metric value thr cause = s.updChan p ch fun c =>
      { c with metrics := tabSet c.metrics metric { value := value / 10000, failOnce := false, score := metricScore value thr } } := by
  simp [State.evalMetric, Nat.not_le.mpr h]

theorem State.sameCalibration_evalMetric (s : State) (p : Part) (ch metric : Nat) {value thr : Nat} (cause : Cause)
    (h : value < thr) : s.sameCalibration (s.evalMetric p ch metric value thr cause) p ch := by
  rw [State.evalMetric_below s p ch metric cause h]
  exact s.sameCalibration_updChan p ch fun _ => ⟨rfl, rfl, rfl, rfl⟩

theorem State.sameCalibration_dnlHealth (s : State) (p : Part) (ch : Nat) (l : List (Nat × BinTable))
    (h : ∀ e ∈ l, e.2.dnlMax < 7812) : s.sameCalibration (s.dnlHealth p ch l) p ch := by
  induction l generalizing s with
  | nil => exact State.sameCalibration_of_tdc ch rfl rfl rfl
  | cons e r ih =>
    obtain ⟨i, t⟩ := e
    have hlow : t.dnlMax * 1000 < 7812000 := by
      have := h (i, t) (by simp)
      simp only at this
      omega
    exact State.sameCalibration_trans (s.sameCalibration_evalMetric p ch (16 + i) .tdcDrift hlow)
      (ih _ fun e he => h e (by simp [he]))

theorem State.sameCalibration_identAfterCal (s : State) (p : Part) (ch : Nat) :
    s.sameCalibration (s.identAfterCal p ch) p ch := by
  have hident : ∀ port, s.sameCalibration (s.tryIdent p port) p ch := fun port => by
    unfold State.tryIdent
    refine State.sameCalibration_of_tdc ch ?_ ?_ ?_ <;> cases p <;> simp
  have hself : s.sameCalibration s p ch := State.sameCalibration_of_tdc ch rfl rfl rfl
  unfold State.identAfterCal
  split
  · split
    · exact hident _
    · exact hself
  · exact hself

theorem State.sameCalibration_returnDone (s : State) (p : Part) (ch : Nat) : s.sameCalibration (s.returnDone p ch) p ch := by
  unfold State.returnDone
  dsimp only
  split
  · exact State.sameCalibration_of_tdc ch rfl rfl rfl
  · refine State.sameCalibration_trans (s.sameCalibration_updChan p ch (f := fun c => { c with ret := [] })
      fun _ => ⟨rfl, rfl, rfl, rfl⟩) (State.sameCalibration_of_tdc ch ?_ ?_ ?_) <;> cases p <;> simp

/-! ### Calibration runs -/

/-- The tables of a run whose inputs are all accepted are those that it measured (R78, R79). -/
theorem tabGet?_runTables (old : Tab BinTable) {l : List (BinTable × Bool)} (h : ∀ r ∈ l, r.2 = true) (n i : Nat) :
    tabGet? (runTables old (l.zipIdx n)) (n + i) = l[i]?.map (·.1) := by
  induction l generalizing n i with
  | nil => rfl
  | cons r rs ih =>
    have hr : r.2 = true := h r (by simp)
    cases i with
    | zero => simp [runTables, tabGet?, hr]
    | succ i =>
      have := ih (fun r hr => h r (by simp [hr])) (n + 1) i
      rw [show n + 1 + i = n + (i + 1) by omega] at this
      simpa [runTables, tabGet?] using this

/-- The figures that a run gives the host: those of the bins of all its inputs (R84). -/
def pooledFigures (hs : List (List Nat)) : Int × Int × Int × Int × Nat :=
  let fig := statsOf ((hs.flatMap id).map (fun h => ((h / 64 : Nat) : Int)))
  (fig.1, fig.2.1, fig.2.2.1, fig.2.2.2, 2 ^ 20)

/-- A run of a channel ends with its tables taken, `l` being what it gave at each input (R78, R79, R84). -/
def State.takeRun (s : State) (p : Part) (ch : Nat) (hs : List (List Nat)) (l : List (BinTable × Bool)) : State :=
  (((s.countConv p ch ((hs.flatMap id).foldl (· + ·) 0)).densityFigures p ch (pooledFigures hs)).setTables p ch
    fun old => runTables old l.zipIdx).endRun p ch true

/-- The tables that a run has accepted, with their inputs. -/
def acceptedTables (l : List (BinTable × Bool)) : Tab BinTable :=
  (l.zipIdx.filter (fun r => r.1.2)).map (fun r => (r.2, r.1.1))

theorem mem_of_mem_acceptedTables {l : List (BinTable × Bool)} {e : Nat × BinTable} (h : e ∈ acceptedTables l) :
    (e.2, true) ∈ l := by
  obtain ⟨⟨⟨t, ok⟩, i⟩, hr, rfl⟩ := List.mem_map.mp h
  obtain ⟨hr, hok⟩ := List.mem_filter.mp hr
  have hmem := List.fst_mem_of_mem_zipIdx hr
  simp only at hok hmem ⊢
  rwa [hok] at hmem

theorem State.takeRun_chan (s : State) (p : Part) (ch : Nat) (hs : List (List Nat)) (l : List (BinTable × Bool)) :
    ((s.takeRun p ch hs l).chan p ch).tables = runTables (s.chan p ch).tables l.zipIdx
    ∧ ((s.takeRun p ch hs l).chan p ch).calRun = false ∧ ((s.takeRun p ch hs l).chan p ch).lastCalNs = s.ns p
    ∧ ((s.takeRun p ch hs l).part p).time = (s.part p).time ∧ (s.takeRun p ch hs l).die = s.die := by
  have hchan : ∀ n, (s.countConv p ch n).chan p ch = s.chan p ch := fun n => State.chan_of_tdc (by simp) ch
  simp [State.takeRun, State.endRun, State.setTables, State.densityFigures, State.ns, hchan]

/-- What a run of a channel on its source gives at an input: the table, and whether it is accepted (R78). -/
def State.runTable (s : State) (p : Part) (ch : Nat) (h : List Nat) : BinTable × Bool :=
  densityTable h (nb (s.sourceOf p ch != ownSource p ch)) (s.ns p)

section FirstRun

variable {s : State} {p : Part} {chan : Nat} {hs : List (List Nat)}
  (hex : chanExists p chan = true) (hv : isVernier p chan = false) (hfast : s.fastRuns p = true) (hlen : hs.length = 9)
  (hrun : (s.chan p chan).calRun = true) (halt : (s.chan p chan).altSource = false) (hatt : (s.chan p chan).attempt = 0)
  (hsrc : (s.part p).tdc.srcFailed.contains (s.sourceOf p chan) = false)

include hex hv hfast hlen hrun halt hatt hsrc

/-- A first run on a channel's own source that is accepted at every input is taken, judged, and lets the port and the `RETURN` commands
that wait for it go on (R40, R78, R88, R382). -/
theorem exec_codeDensityRunComplete (hok : ∀ r ∈ hs.map (s.runTable p chan), r.2 = true) :
    exec (.codeDensityRunComplete p chan hs) s
      = .next ((((s.takeRun p chan hs (hs.map (s.runTable p chan))).dnlHealth p chan
          (acceptedTables (hs.map (s.runTable p chan)))).identAfterCal p chan).returnDone p chan) := by
  have hall : (hs.map fun h => densityTable h (nb (s.sourceOf p chan != ownSource p chan)) (s.ns p)).zipIdx.all
      (fun r => r.1.2) = true :=
    List.all_eq_true.mpr fun r hr => hok r.1 (List.fst_mem_of_mem_zipIdx hr)
  show execCodeDensityRunComplete p chan hs s = _
  simp only [execCodeDensityRunComplete, State.noSource, hex, hv, hfast, hlen, hrun, hsrc, halt, hatt, Bool.false_eq_true,
    if_false, hall, if_true]
  rfl

/-- A run of a channel that is accepted at every input replaces its tables and ends (R78, R79). -/
theorem codeDensityRunComplete_accepts
    (hgood : ∀ h ∈ hs, (s.runTable p chan h).2 = true ∧ (s.runTable p chan h).1.dnlMax < 7812) :
    Answers (.codeDensityRunComplete p chan hs) s fun t =>
      (∀ i h, hs[i]? = some h → (t.chan p chan).table i = (s.runTable p chan h).1) ∧ (t.chan p chan).calRun = false
        ∧ (t.chan p chan).lastCalNs = s.ns p ∧ (t.part p).time = (s.part p).time ∧ t.die = s.die := by
  have hacc : ∀ r ∈ hs.map (s.runTable p chan), r.2 = true ∧ r.1.dnlMax < 7812 := by simpa using hgood
  have hok : ∀ r ∈ hs.map (s.runTable p chan), r.2 = true := fun r hr => (hacc r hr).1
  have hlow : ∀ e ∈ acceptedTables (hs.map (s.runTable p chan)), e.2.dnlMax < 7812 :=
    fun e he => (hacc _ (mem_of_mem_acceptedTables he)).2
  obtain ⟨htab, hcal, hlast, htime, hdie⟩ := s.takeRun_chan p chan hs (hs.map (s.runTable p chan))
  obtain ⟨htab', -, hcal', hlast', htime', hdie'⟩ := State.sameCalibration_trans
    (State.sameCalibration_trans ((s.takeRun p chan hs _).sameCalibration_dnlHealth p chan _ hlow)
      (State.sameCalibration_identAfterCal _ p chan)) (State.sameCalibration_returnDone _ p chan)
  refine ⟨_, exec_codeDensityRunComplete hex hv hfast hlen hrun halt hatt hsrc hok, fun i h hi => ?_, hcal'.trans hcal,
    hlast'.trans hlast, htime'.trans htime, hdie'.trans hdie⟩
  have hget := tabGet?_runTables (s.chan p chan).tables hok 0 i
  rw [Nat.zero_add, List.getElem?_map, hi] at hget
  rw [Chan.table, htab', htab, tabGet, hget]
  rfl

end FirstRun

/-- The rotation of a vernier channel leaves its cores' constants (R75). -/
@[simp] theorem Chan.rotateDue_core (c : Chan) (n i : Nat) : (c.rotateDue n).core i = c.core i := by
  suffices h : (c.rotateDue n).cores = c.cores by rw [Chan.core, Chan.core, h]
  have hboth : ∀ i j, (c.rotateBoth i j n).cores = c.cores := fun i j => by
    unfold Chan.rotateBoth
    split <;> rfl
  unfold Chan.rotateDue
  dsimp only
  split
  · rfl
  · split
    · split
      · rfl
      · split
        · split
          · exact hboth _ _
          · rfl
        · exact hboth _ _
    · exact hboth _ _

@[simp] theorem State.updChan_fastRuns (s : State) (p : Part) (ch : Nat) (f : Chan → Chan) :
    (s.updChan p ch f).fastRuns p = s.fastRuns p := by
  cases p <;> simp [State.fastRuns]

/-- A vernier core takes the constants of a fit (R81). -/
def State.takeFit (s : State) (p : Part) (ch core : Nat) (fit : Int × Int × Nat) : State :=
  let s := s.updChan p ch fun c => c.rotateDue s.cyc
  let k := (s.chan p ch).core core
  let s := (s.countConv p ch 1024).densityFigures p ch (fit.1, 0, fit.2.1, (fit.2.2 : Int), 1024)
  s.updChan p ch fun c =>
    { c with cores := tabSet c.cores core { k with lsb := fit.1.toNat, ofs := fit.2.1, fitRes := fit.2.2, state := 1,
                                                   calNs := s.ns p, attempt := 0 }, lastCalNs := s.ns p }

theorem State.takeFit_core (s : State) (p : Part) (ch core : Nat) (fit : Int × Int × Nat) :
    (((s.takeFit p ch core fit).chan p ch).core core).lsb = fit.1.toNat
    ∧ (((s.takeFit p ch core fit).chan p ch).core core).ofs = fit.2.1
    ∧ (((s.takeFit p ch core fit).chan p ch).core core).fitRes = fit.2.2
    ∧ (((s.takeFit p ch core fit).chan p ch).core core).state = 1
    ∧ ((s.takeFit p ch core fit).part p).time = (s.part p).time ∧ (s.takeFit p ch core fit).die = s.die := by
  simp [State.takeFit, State.densityFigures, Chan.core]

/-- A first fit of an uncalibrated core within the bounds of R81 and well inside those of R88 gives the core its constants. -/
theorem vernierCalComplete_accepts {s : State} {p : Part} {chan core : Nat} {sums : List Nat} (hex : chanExists p chan = true)
    (hv : isVernier p chan = true) (hfast : s.fastRuns p = true) (hcore : core < 3) (hlen : sums.length = 4)
    (hcal : core ≠ ((s.chan p chan).rotateDue s.cyc).calCore) (hstate : ((s.chan p chan).core core).state = 0)
    (hatt : ((s.chan p chan).core core).attempt = 0) (hlo : 2192 * 2 ^ 32 ≤ (vernierFit sums).1 * 10000000)
    (hhi : (vernierFit sums).1 * 10000000 ≤ 2692 * 2 ^ 32) (hres : (vernierFit sums).2.2 * 1000 ≤ 2 ^ 32)
    (hdev : (((vernierFit sums).1 * 1000000000).tdiv (2 ^ 32) - 244200).natAbs < 12000) :
    Answers (.vernierCalComplete p chan core sums) s fun t =>
      ((t.chan p chan).core core).lsb = (vernierFit sums).1.toNat ∧ ((t.chan p chan).core core).ofs = (vernierFit sums).2.1
        ∧ ((t.chan p chan).core core).fitRes = (vernierFit sums).2.2 ∧ ((t.chan p chan).core core).state = 1
        ∧ (t.part p).time = (s.part p).time ∧ t.die = s.die := by
  have hdrift : (((vernierFit sums).1 * 1000000000).tdiv (2 ^ 32) - 244200).natAbs < 12500 := by omega
  have hexec : exec (.vernierCalComplete p chan core sums) s
      = .next ((((s.takeFit p chan core (vernierFit sums)).evalMetric p chan (32 + core)
          (((vernierFit sums).1 * 1000000000).tdiv (2 ^ 32) - 244200).natAbs 12500 .tdcDrift).identAfterCal p chan).returnDone
            p chan) := by
    obtain ⟨fit, hfit⟩ : ∃ fit, fit = vernierFit sums := ⟨_, rfl⟩
    show execVernierCalComplete p chan core sums s = _
    rw [← hfit] at hlo hhi hres ⊢
    obtain ⟨lsb, ofs, res⟩ := fit
    simp only [execVernierCalComplete, ← hfit, State.updChan_chan_same, Chan.rotateDue_core, hstate, hatt]
    have hok : (decide (lsb * 10000000 ≥ 2192 * 2 ^ 32) && decide (lsb * 10000000 ≤ 2692 * 2 ^ 32)
        && decide (res * 1000 ≤ 2 ^ 32)) = true := by
      simp only [Bool.and_eq_true, decide_eq_true_eq]
      exact ⟨⟨hlo, hhi⟩, hres⟩
    rw [if_neg (by simp [hex, hv, hfast, hcore, hlen]), if_pos hok, if_neg hcal]
    simp only [State.takeFit, State.updChan_chan_same, Chan.rotateDue_core]
    rfl
  obtain ⟨hlsb, hofs, hfit, hst, htime, hdie⟩ := s.takeFit_core p chan core (vernierFit sums)
  obtain ⟨-, hcores, -, -, htime', hdie'⟩ := State.sameCalibration_trans
    (State.sameCalibration_trans ((s.takeFit p chan core (vernierFit sums)).sameCalibration_evalMetric p chan (32 + core) .tdcDrift hdrift)
      (State.sameCalibration_identAfterCal _ p chan)) (State.sameCalibration_returnDone _ p chan)
  refine ⟨_, hexec, ?_⟩
  simp only [Chan.core, hcores, htime', hdie']
  exact ⟨hlsb, hofs, hfit, hst, htime, hdie⟩

/-! ### The calibration timers -/

/-- A run of a channel with a source starts on that channel and changes nothing else (R79, R89). -/
theorem State.startRun_of_source {s : State} {p : Part} {ch : Nat} (h : s.noSource p ch = false) :
    s.startRun p ch
      = s.updChan p ch fun c => { c with calRun := true, hostRun := false, attempt := 0, altSource := false } := by
  simp [State.startRun, h]

/-- The run that falls due by the schedule (R79). -/
theorem tdcRecalTimer_starts {s : State} {p : Part} {chan : Nat} (hex : chanExists p chan = true)
    (hv : isVernier p chan = false) (hper : s.tdcRecalS p ≠ 0) (hrun : (s.chan p chan).calRun = false)
    (hsrc : s.noSource p chan = false)
    (hdue : (s.ns p - (s.chan p chan).schedNs).toInt ≥ 1000000000 * (s.tdcRecalS p : Int)) :
    Answers (.tdcRecalTimer p chan) s fun t =>
      (t.chan p chan).calRun = true ∧ (t.chan p chan).attempt = 0 ∧ (t.chan p chan).convs = (s.chan p chan).convs
        ∧ (t.part p).ports = (s.part p).ports ∧ (t.part p).time = (s.part p).time ∧ t.die = s.die ∧ t.hub = s.hub
        ∧ t.out = s.out := by
  have helapsed : elapsed (s.ns p) (s.chan p chan).schedNs (sec (s.tdcRecalS p)) = true := decide_eq_true hdue
  have hexec : exec (.tdcRecalTimer p chan) s = .next (s.startRun p chan) := by
    show execTdcRecalTimer p chan s = _
    simp [execTdcRecalTimer, whenever, hex, hv, hper, hrun, helapsed]
  exact ⟨_, hexec, by simp [State.startRun_of_source hsrc]⟩

theorem mem_of_tabGet? {α : Type} {t : Tab α} {x : Nat} {v : α} (h : tabGet? t x = some v) : (x, v) ∈ t := by
  induction t with
  | nil => simp [tabGet?] at h
  | cons e r ih =>
    obtain ⟨k, w⟩ := e
    by_cases hk : k = x
    · simp_all [tabGet?]
    · simp only [tabGet?, if_neg hk] at h
      exact List.mem_cons_of_mem _ (ih h)

/-- The start of a run leaves another channel alone. -/
theorem State.startRun_chan_other (s : State) (p : Part) {ch c : Nat} (h : c ≠ ch) :
    (s.startRun p ch).chan p c = s.chan p c := by
  have hrec : ∀ k, (s.recordLasting p k ch .tdcCalFailed ch).chan p c = s.chan p c := fun k =>
    State.chan_of_tdc (by cases p <;> simp) c
  unfold State.startRun State.refuseRun
  split
  · rw [State.updChan_chan_other _ _ _ h, hrec]
  · rw [State.updChan_chan_other _ _ _ h]

/-- What the start of a run, or its refusal, leaves of the part. -/
@[simp] theorem State.startRun_part (s : State) (p : Part) (ch : Nat) :
    ((s.startRun p ch).part p).time = (s.part p).time ∧ ((s.startRun p ch).part p).units = (s.part p).units
    ∧ ((s.startRun p ch).part p).tdc.srcFailed = (s.part p).tdc.srcFailed
    ∧ ((s.startRun p ch).part p).tdc.temp = (s.part p).tdc.temp := by
  have hrec : ∀ k, ((s.recordLasting p k ch .tdcCalFailed ch).part p).time = (s.part p).time
      ∧ ((s.recordLasting p k ch .tdcCalFailed ch).part p).units = (s.part p).units
      ∧ ((s.recordLasting p k ch .tdcCalFailed ch).part p).tdc = (s.part p).tdc := fun k => by cases p <;> simp
  unfold State.startRun State.refuseRun
  split <;> simp [hrec]

/-- Whether a channel has a source depends on the sources and the units of the part alone (R69, R89). -/
theorem State.noSource_of_sources {s t : State} {p : Part} (hsrc : (t.part p).tdc.srcFailed = (s.part p).tdc.srcFailed)
    (hunit : (t.part p).units = (s.part p).units) (ch : Nat) : t.noSource p ch = s.noSource p ch := by
  cases p with
  | tsu => rw [State.noSource, State.noSource, hsrc, State.sourceOf, State.sourceOf, State.unit_of_units hunit]
  | phi => simp_all [State.noSource, State.sourceOf]

theorem State.noSource_of_none {s : State} {p : Part} (h : (s.part p).tdc.srcFailed = []) (ch : Nat) :
    s.noSource p ch = false := by
  simp [State.noSource, h]

/-- Runs start on several channels, one after another (R79). -/
def State.startRuns (s : State) (p : Part) (l : Tab Chan) : State := l.foldl (fun s e => s.startRun p e.1) s

theorem State.startRuns_keeps (s : State) (p : Part) (l : Tab Chan) :
    ((s.startRuns p l).part p).time = (s.part p).time ∧ ((s.startRuns p l).part p).units = (s.part p).units
    ∧ ((s.startRuns p l).part p).tdc.temp = (s.part p).tdc.temp ∧ (s.startRuns p l).die = s.die := by
  induction l generalizing s with
  | nil => exact ⟨rfl, rfl, rfl, rfl⟩
  | cons e r ih =>
    obtain ⟨htime, hunit, htemp, hdie⟩ := ih (s.startRun p e.1)
    exact ⟨htime.trans (by simp), hunit.trans (by simp), htemp.trans (by simp), hdie.trans (by simp)⟩

/-- A channel with a source that runs calibrates on whatever other runs start, and starts where it is among them. -/
theorem State.startRuns_calRun {s : State} {p : Part} {l : Tab Chan} {ch : Nat} (hsrc : s.noSource p ch = false)
    (h : (s.chan p ch).calRun = true ∨ ∃ c, (ch, c) ∈ l) : ((s.startRuns p l).chan p ch).calRun = true := by
  induction l generalizing s with
  | nil => simpa [State.startRuns] using h
  | cons e r ih =>
    refine ih (s := s.startRun p e.1) ((State.noSource_of_sources (by simp) (by simp) ch).trans hsrc) ?_
    by_cases he : ch = e.1
    · left
      rw [← he, State.startRun_of_source hsrc, State.updChan_chan_same]
    · rw [State.startRun_chan_other s p he]
      refine h.imp_right fun ⟨c, hc⟩ => ⟨c, ?_⟩
      rcases List.mem_cons.mp hc with rfl | hr
      · exact absurd rfl he
      · exact hr

/-- While no source has failed, runs start without a record. -/
theorem State.startRuns_of_sources {s : State} {p : Part} (l : Tab Chan) (h : (s.part p).tdc.srcFailed = []) :
    ((s.startRuns p l).part p).ports = (s.part p).ports ∧ (s.startRuns p l).hub = s.hub ∧ (s.startRuns p l).out = s.out := by
  induction l generalizing s with
  | nil => exact ⟨rfl, rfl, rfl⟩
  | cons e r ih =>
    obtain ⟨hports, hhub, hout⟩ := ih (s := s.startRun p e.1) (by simp [h])
    have hrun := State.startRun_of_source (State.noSource_of_none h e.1)
    exact ⟨hports.trans (by simp [hrun]), hhub.trans (by simp [hrun]), hout.trans (by simp [hrun])⟩

/-- The channels of a part whose last run lies more than 4 degrees from a temperature (R79). -/
def State.movedChans (s : State) (p : Part) (centi : Int) : Tab Chan :=
  (s.part p).tdc.chans.filter (fun e => !isVernier p e.1 && (centi - e.2.calTemp).natAbs > 400)

/-- The temperature is taken, and the runs that it calls for start (R79). -/
def State.takeTemp (s : State) (p : Part) (centi : Int) : State :=
  (s.upd p fun c => { c with tdc.temp := centi }).startRuns p (s.movedChans p centi)

theorem State.takeTemp_keeps (s : State) (p : Part) (centi : Int) :
    ((s.takeTemp p centi).part p).tdc.temp = centi ∧ ((s.takeTemp p centi).part p).time = (s.part p).time
    ∧ ((s.takeTemp p centi).part p).units = (s.part p).units ∧ (s.takeTemp p centi).die = s.die
    ∧ ((s.part p).tdc.srcFailed = [] → ((s.takeTemp p centi).part p).ports = (s.part p).ports
        ∧ (s.takeTemp p centi).hub = s.hub ∧ (s.takeTemp p centi).out = s.out) := by
  obtain ⟨u, hu⟩ : ∃ u, u = s.upd p fun c => { c with tdc.temp := centi } := ⟨_, rfl⟩
  obtain ⟨htime, hunit, htemp, hdie⟩ := u.startRuns_keeps p (s.movedChans p centi)
  rw [State.takeTemp, ← hu]
  refine ⟨htemp.trans ?_, htime.trans ?_, hunit.trans ?_, hdie.trans (by simp [hu]), fun h => ?_⟩
  case refine_4 =>
    obtain ⟨hports, hhub, hout⟩ := State.startRuns_of_sources (s := u) (p := p) (s.movedChans p centi) (by cases p <;> simpa [hu] using h)
    exact ⟨hports.trans (by cases p <;> simp [hu]), hhub.trans (by simp [hu]), hout.trans (by simp [hu])⟩
  all_goals cases p <;> simp [hu]

theorem State.takeTemp_calRun {s : State} {p : Part} {centi : Int} {ch : Nat} {c : Chan}
    (hc : tabGet? (s.part p).tdc.chans ch = some c) (hv : isVernier p ch = false) (hfar : (centi - c.calTemp).natAbs > 400)
    (hsrc : s.noSource p ch = false) : ((s.takeTemp p centi).chan p ch).calRun = true := by
  refine State.startRuns_calRun ((State.noSource_of_sources ?_ ?_ ch).trans hsrc) (.inr ⟨c, ?_⟩)
  · cases p <;> rfl
  · cases p <;> rfl
  · exact List.mem_filter.mpr ⟨mem_of_tabGet? hc, by simp [hv, hfar]⟩

/-- A report of the temperature starts the runs that R79 and R103 ask for. -/
theorem temperatureMove_starts (s : State) (p : Part) (centi : Int) : Answers (.temperatureMove p centi) s fun t =>
    (t.part p).tdc.temp = centi
      ∧ (∀ ch c, tabGet? (s.part p).tdc.chans ch = some c → isVernier p ch = false → (centi - c.calTemp).natAbs > 400 →
          s.noSource p ch = false → (t.chan p ch).calRun = true)
      ∧ (p = .tsu → (centi - s.die.spine.calTemp).natAbs > 400 → s.spineChan = true → t.die.spine.calRun = true)
      ∧ (t.part p).time = (s.part p).time
      ∧ ((s.part p).tdc.srcFailed = [] → (t.part p).ports = (s.part p).ports ∧ t.hub = s.hub ∧ t.out = s.out) := by
  obtain ⟨htemp, htime, hunit, hdie, hquiet⟩ := s.takeTemp_keeps p centi
  have hruns : ∀ ch c, tabGet? (s.part p).tdc.chans ch = some c → isVernier p ch = false →
      (centi - c.calTemp).natAbs > 400 → s.noSource p ch = false → ((s.takeTemp p centi).chan p ch).calRun = true :=
    fun _ _ => State.takeTemp_calRun
  cases p with
  | phi => exact ⟨s.takeTemp .phi centi, rfl, htemp, hruns, by simp, htime, hquiet⟩
  | tsu =>
    have hspine : (s.takeTemp .tsu centi).spineChan = s.spineChan := by
      simp only [State.spineChan, State.tdcFor, State.unit_of_units hunit]
    have hexec : exec (.temperatureMove .tsu centi) s
        = if (centi - (s.takeTemp .tsu centi).die.spine.calTemp).natAbs > 400 && (s.takeTemp .tsu centi).spineChan
          then .next { s.takeTemp .tsu centi with die.spine.calRun := true } else .next (s.takeTemp .tsu centi) := rfl
    rw [hdie, hspine] at hexec
    by_cases h : (decide ((centi - s.die.spine.calTemp).natAbs > 400) && s.spineChan) = true
    · rw [if_pos h] at hexec
      exact ⟨_, hexec, htemp, hruns, fun _ _ _ => rfl, htime, hquiet⟩
    · rw [if_neg h] at hexec
      refine ⟨_, hexec, htemp, hruns, fun _ hfar hch => ?_, htime, hquiet⟩
      simp [hfar, hch] at h

/-! ### The start of a host measurement -/

/-- A command whose descriptor may start runs from the state in which its effect begins (R296). -/
theorem State.runDesc_ready {s : State} {p : Part} {ring idx op : Nat} {d : Desc} {variant : Desc → Bool}
    (h : s.ready p ring idx op d) (hv : variant d = true) (k : Desc → State → State) :
    s.runDesc p ring idx op variant k = .next (k d (s.begun p ring idx d)) := by
  obtain ⟨hdesc, hmay, hexec, hop, hover⟩ := h
  simp [State.runDesc, hdesc, hmay, hexec, hop, hover, hv, State.begun]

/-- What the start of a command leaves of its part and beside it. -/
@[simp] theorem State.begun_keeps (s : State) (p : Part) (ring idx : Nat) (d : Desc) :
    ((s.begun p ring idx d).part p).tdc = (s.part p).tdc ∧ ((s.begun p ring idx d).part p).time = (s.part p).time
    ∧ ((s.begun p ring idx d).part p).ports = (s.part p).ports ∧ ((s.begun p ring idx d).part p).units = (s.part p).units
    ∧ ((s.begun p ring idx d).part p).engines = (s.part p).engines ∧ (s.begun p ring idx d).die = s.die
    ∧ (s.begun p ring idx d).meter = s.meter := by
  cases p <;> simp [State.begun]

/-- The measurement that a descriptor asks for (R84), started at an instant in an always-on cycle. -/
def Desc.meas (d : Desc) (ring idx : Nat) (now : W64) (cyc : Nat) : Meas where
  ring := ring
  idx := idx
  mode := d.plBits 2 1 0 3
  m := d.plBits 3 1 0 5
  gate := d.pl 6 2
  prescale := d.plBits 5 1 0 3
  startIn := d.plBits 4 1 0 4
  stopIn := d.plBits 4 1 4 4
  timeoutUs := d.pl 8 4
  addr := d.pl 12 8
  startNs := now
  t0Ns := now
  samples := []
  stale := false
  figures := none
  cyc := cyc

/-- The channel of a descriptor starts the measurement that it asks for, and with `CODE_DENSITY` a run (R84). -/
def State.startMeas (s : State) (p : Part) (ring idx : Nat) (d : Desc) : State :=
  let ch := d.pl 0 2
  let mode := d.plBits 2 1 0 3
  s.updChan p ch fun c =>
    { c with meas := some (d.meas ring idx (s.ns p) s.cyc), old := if 16 ≤ ch && p == .tsu then c.old else [],
             calRun := c.calRun || (mode == 3 && !isVernier p ch), hostRun := if mode == 3 && !c.calRun then true else c.hostRun }

/-- A measurement wakes the fast logic of the TSU (R91); the channels of a Phidor need no wake. -/
def State.wakeFor (s : State) (p : Part) : State :=
  match p with
  | .tsu => s.wakeFast
  | .phi => s

@[simp] theorem State.wakeFor_keeps (s : State) (p : Part) :
    ((s.wakeFor p).part p).tdc = (s.part p).tdc ∧ ((s.wakeFor p).part p).time = (s.part p).time
    ∧ (s.wakeFor p).die = s.die ∧ (s.wakeFor p).meter = s.meter := by
  cases p with
  | phi => exact ⟨rfl, rfl, rfl, rfl⟩
  | tsu =>
    have htdc : s.wakeFast.tsu.tdc = s.tsu.tdc := by
      simp only [State.wakeFast]
      repeat' split
      all_goals simp
    simp [State.wakeFor, htdc]

/-- A `TDC_MEASURE` that passes the checks of R85 may start on its channel in this state. -/
structure State.mayMeasure (s : State) (p : Part) (d : Desc) : Prop where
  shut : s.measureShut p = false
  good : measureBad p d = false
  supported : s.measureUnsupported p (d.pl 0 2) (d.plBits 2 1 0 3) = false
  unwatched : (d.plBits 2 1 0 3 == 1 && p == .tsu && 16 ≤ d.pl 0 2 && d.pl 0 2 < 32 && s.watchOn (d.pl 0 2 - 16)) = false
  free : (s.chan p (d.pl 0 2)).meas = none
  sound : (s.chan p (d.pl 0 2)).failed = false
  inUse : outOfUse (s.unit p (chanKind p (d.pl 0 2)) (d.pl 0 2)).state = false
  source : d.plBits 2 1 0 3 = 3 → isVernier p (d.pl 0 2) = false → s.noSource p (d.pl 0 2) = false

/-- The checks of R85 read the converters, ports, units and engines of the part, and the watches. -/
theorem State.mayMeasure_of_part {s t : State} {p : Part} {d : Desc} (h : s.mayMeasure p d)
    (htdc : (t.part p).tdc = (s.part p).tdc) (hports : (t.part p).ports = (s.part p).ports)
    (hunits : (t.part p).units = (s.part p).units) (hengines : (t.part p).engines = (s.part p).engines)
    (hdie : t.die = s.die) : t.mayMeasure p d where
  shut := by
    rw [← h.shut]
    cases p with
    | tsu => simp only [State.measureShut, State.engineShut, hengines]
    | phi => rfl
  good := h.good
  supported := by
    rw [← h.supported]
    cases p <;> simp only [State.measureUnsupported, State.portOf, State.portChan, State.port_of_ports hports]
  unwatched := by simpa only [State.watchOn, hdie] using h.unwatched
  free := by rw [State.chan_of_tdc htdc, h.free]
  sound := by rw [State.chan_of_tdc htdc, h.sound]
  inUse := by rw [State.unit_of_units hunits, h.inUse]
  source := fun hmode hv => (State.noSource_of_sources (by rw [htdc]) hunits _).trans (h.source hmode hv)

theorem State.askMeasure_starts {s : State} {p : Part} {d : Desc} (h : s.mayMeasure p d) (ring idx : Nat) :
    s.askMeasure p ring idx d = (s.startMeas p ring idx d).wakeFor p := by
  have hsource : (d.plBits 2 1 0 3 == 3 && !isVernier p (d.pl 0 2) && s.noSource p (d.pl 0 2)) = false := by
    by_cases hmode : d.plBits 2 1 0 3 = 3
    · cases hv : isVernier p (d.pl 0 2) with
      | true => simp
      | false => simp [h.source hmode hv]
    · simp [hmode]
  have hfree : (s.chan p (d.pl 0 2)).meas.isSome = false := by simp [h.free]
  simp only [State.askMeasure, h.shut, State.measure, h.good, h.supported, h.unwatched, hfree, h.sound, h.inUse, hsource,
    Bool.or_false, Bool.false_eq_true, if_false]
  cases p <;> rfl

/-- The channel after the start of a measurement has the parameters of its descriptor (R84). -/
theorem State.startMeas_chan (s : State) (p : Part) (ring idx : Nat) (d : Desc) :
    (((s.startMeas p ring idx d).wakeFor p).chan p (d.pl 0 2)).meas = some (d.meas ring idx (s.ns p) s.cyc)
    ∧ (d.plBits 2 1 0 3 = 3 → isVernier p (d.pl 0 2) = false →
        (((s.startMeas p ring idx d).wakeFor p).chan p (d.pl 0 2)).calRun = true)
    ∧ (((s.startMeas p ring idx d).wakeFor p).part p).time = (s.part p).time
    ∧ ((s.startMeas p ring idx d).wakeFor p).die = s.die ∧ ((s.startMeas p ring idx d).wakeFor p).meter = s.meter := by
  rw [State.chan_of_tdc (s := s.startMeas p ring idx d) (by simp)]
  refine ⟨by simp [State.startMeas], fun hmode hv => by simp [State.startMeas, hmode, hv], ?_⟩
  simp [State.startMeas]

/-- The rows of `TDC_MEASURE`, by the mode of the descriptor (R84). -/
def measureRow (p : Part) (ring idx mode : Nat) (c : Instr) : Prop :=
  (mode = 0 ∧ c = .tdcMeasureInterval p ring idx) ∨ (mode = 1 ∧ c = .tdcMeasureFrequency p ring idx)
    ∨ (mode = 2 ∧ c = .tdcMeasureBeacon p ring idx) ∨ (mode = 3 ∧ c = .tdcMeasureCodeDensity p ring idx)

/-- Each row of `TDC_MEASURE` judges the descriptors of its mode. -/
theorem exec_measureRow {s : State} {p : Part} {ring idx : Nat} {d : Desc} {c : Instr} (hready : s.ready p ring idx 0x06 d)
    (hrow : measureRow p ring idx (d.plBits 2 1 0 3) c) :
    exec c s = .next ((s.begun p ring idx d).askMeasure p ring idx d) := by
  rcases hrow with ⟨hmode, rfl⟩ | ⟨hmode, rfl⟩ | ⟨hmode, rfl⟩ | ⟨hmode, rfl⟩ <;>
    exact State.runDesc_ready hready (by simp [hmode]) fun d s => s.askMeasure p ring idx d

/-- A `TDC_MEASURE` that passes its checks starts with the parameters of its descriptor (R84, R85). -/
theorem tdcMeasure_starts {s : State} {p : Part} {ring idx : Nat} {d : Desc} {c : Instr} (hready : s.ready p ring idx 0x06 d)
    (hmay : s.mayMeasure p d) (hrow : measureRow p ring idx (d.plBits 2 1 0 3) c) : Answers c s fun t =>
      (∃ cyc, (t.chan p (d.pl 0 2)).meas = some (d.meas ring idx (s.ns p) cyc))
        ∧ (d.plBits 2 1 0 3 = 3 → isVernier p (d.pl 0 2) = false → (t.chan p (d.pl 0 2)).calRun = true)
        ∧ (t.part p).time = (s.part p).time ∧ t.die = s.die ∧ t.meter = s.meter := by
  obtain ⟨htdc, htime, hports, hunits, hengines, hdie, hmeter⟩ := s.begun_keeps p ring idx d
  have hns : (s.begun p ring idx d).ns p = s.ns p := by rw [State.ns, State.ns, htime]
  have hstart := State.askMeasure_starts (State.mayMeasure_of_part hmay htdc hports hunits hengines hdie) ring idx
  obtain ⟨hmeas, hcal, htime', hdie', hmeter'⟩ := (s.begun p ring idx d).startMeas_chan p ring idx d
  exact ⟨_, (exec_measureRow hready hrow).trans (by rw [hstart]), ⟨_, hns ▸ hmeas⟩, hcal, htime'.trans htime,
    hdie'.trans hdie, hmeter'.trans hmeter⟩

/-! ### What a completion puts out -/

/-- The log of what the parts put out only grows. -/
def State.outGrows (s t : State) : Prop := s.out <+: t.out

theorem State.outGrows_of_eq {s t : State} (h : t.out = s.out) : s.outGrows t :=
  ⟨[], by rw [List.append_nil, h]⟩

theorem State.outGrows_trans {s t u : State} (h : s.outGrows t) (h' : t.outGrows u) : s.outGrows u :=
  List.IsPrefix.trans h h'

theorem State.outGrows_emit (s : State) (o : Out) : s.outGrows (s.emit o) := ⟨[o], rfl⟩

theorem State.outGrows_ite {s t u : State} (c : Prop) [Decidable c] (ht : s.outGrows t) (hu : s.outGrows u) :
    s.outGrows (if c then t else u) := by
  split <;> assumption

theorem State.outGrows_dma (s : State) (p : Part) (addr : Nat) (data : List Byte) : s.outGrows (s.dma p addr data) :=
  State.outGrows_ite _ (State.outGrows_of_eq rfl) (s.outGrows_emit _)

theorem State.outGrows_dmaOrdered (s : State) (p : Part) (addr k : Nat) (data : List Byte) :
    s.outGrows (s.dmaOrdered p addr k data) :=
  State.outGrows_trans (s.outGrows_dma _ _ _) (State.outGrows_dma _ _ _ _)

theorem State.outGrows_raiseIrq (s : State) (p : Part) (v : Nat) : s.outGrows (s.raiseIrq p v) := by
  cases p with
  | tsu => exact s.outGrows_emit _
  | phi => exact State.outGrows_ite _ (State.outGrows_of_eq rfl) (s.outGrows_emit _)

theorem State.outGrows_ringIrq (s : State) (p : Part) (i : Nat) : s.outGrows (s.ringIrq p i) :=
  State.outGrows_ite _ (State.outGrows_of_eq rfl) (State.outGrows_ite _
    (State.outGrows_trans (State.outGrows_of_eq (by simp)) (State.outGrows_raiseIrq _ p _)) (State.outGrows_of_eq (by simp)))

theorem State.outGrows_writeCpl (s : State) (p : Part) (i : Nat) (c : Cpl) : s.outGrows (s.writeCpl p i c) := by
  have hwritten : ∀ (a k : Nat) (data : List Byte) (f : Ring → Ring) (e : Nat),
      s.outGrows (((s.dmaOrdered p a k data).updRing p i f).count p e i 1) := fun a k data f e =>
    State.outGrows_trans (s.outGrows_dmaOrdered p a k data) (State.outGrows_of_eq (by simp))
  exact State.outGrows_ite _ (State.outGrows_trans (hwritten _ _ _ _ _) (State.outGrows_ringIrq _ p i)) (hwritten _ _ _ _ _)

theorem State.outGrows_flushCpl (s : State) (p : Part) (i : Nat) (l : List Cpl) : s.outGrows (s.flushCpl p i l) := by
  induction l generalizing s with
  | nil => exact State.outGrows_of_eq (by simp [State.flushCpl])
  | cons c cs ih =>
    exact State.outGrows_ite _ (State.outGrows_trans (s.outGrows_writeCpl p i c) (ih _)) (State.outGrows_of_eq (by simp))

theorem State.outGrows_addCpl (s : State) (p : Part) (i : Nat) (l : List Cpl) : s.outGrows (s.addCpl p i l) :=
  State.outGrows_ite _ (State.outGrows_of_eq rfl) (s.outGrows_flushCpl p i _)

theorem State.outGrows_fwEntry (s : State) (core level kind role code arg0 : Nat) (args : List Nat) :
    s.outGrows (s.fwEntry core level kind role code arg0 args) := by
  refine State.outGrows_ite _ (State.outGrows_of_eq rfl) ?_
  refine State.outGrows_trans ?_ (State.outGrows_dmaOrdered _ _ _ _ _)
  exact State.outGrows_of_eq rfl

theorem State.outGrows_trace (s : State) (point arg0 arg1 arg2 : Nat) : s.outGrows (s.trace point arg0 arg1 arg2) :=
  State.outGrows_ite _ (State.outGrows_trans (State.outGrows_of_eq (by simp)) (State.outGrows_fwEntry _ _ _ _ _ _ _ _))
    (State.outGrows_of_eq rfl)

theorem State.outGrows_traceCmd (s : State) (p : Part) (i : Nat) (d : Desc) (last : Bool) (result : Nat) :
    s.outGrows (s.traceCmd p i d last result) := by
  cases p with
  | tsu => exact State.outGrows_of_eq rfl
  | phi => exact s.outGrows_trace _ _ _ _

/-- The state in which a descriptor is no longer in flight. -/
def State.dropDesc (s : State) (p : Part) (i idx : Nat) : State :=
  s.updRing p i fun r => { r with inflight := r.inflight.filter (fun x => x.idx.toNat != idx) }

@[simp] theorem State.dropDesc_desc? (s : State) (p : Part) (i idx : Nat) : (s.dropDesc p i idx).desc? p i idx = none := by
  simp [State.dropDesc, State.desc?]

/-- Completions leave the commands in flight as they are (R297). -/
theorem State.addCpl_desc? (s : State) (p : Part) (i idx : Nat) (l : List Cpl) :
    (s.addCpl p i l).desc? p i idx = s.desc? p i idx := by
  unfold State.addCpl
  split
  · rfl
  · obtain ⟨-, -, hin, -⟩ := s.onlyCompletes_flushCpl p i ((s.ring p i).held ++ l)
    rw [State.desc?, State.desc?, hin]

/-- A command that completes leaves the commands in flight, and puts out no less than before (R297). -/
theorem State.finish_completes (s : State) (p : Part) (i idx : Nat) (st : Status) (cause : W16) (result : W64) :
    s.outGrows (s.finish p i idx st cause result) ∧ (s.finish p i idx st cause result).desc? p i idx = none := by
  have hadd : ∀ (u : State) (l : List Cpl), u.outGrows ((u.dropDesc p i idx).addCpl p i l)
      ∧ ((u.dropDesc p i idx).addCpl p i l).desc? p i idx = none := fun u l =>
    ⟨State.outGrows_trans (State.outGrows_of_eq (by simp [State.dropDesc])) (State.outGrows_addCpl _ p i l),
      by rw [State.addCpl_desc?, State.dropDesc_desc?]⟩
  unfold State.finish
  split
  case h_1 h => exact ⟨State.outGrows_of_eq rfl, h⟩
  case h_2 d h =>
    refine ⟨State.outGrows_trans ?_ (hadd _ _).1, (hadd _ _).2⟩
    refine State.outGrows_ite _ ?_ (State.outGrows_of_eq rfl)
    exact State.outGrows_trans (s.outGrows_traceCmd p i d true (st.code + 65536 * cause.toNat)) (State.outGrows_of_eq rfl)

/-! ### The end of a host measurement -/

/-- A measurement ends: its channel is free, its record is written and its command completes (R83, R84). -/
def State.endMeas (s : State) (p : Part) (ch : Nat) (m : Meas) (starts : List RawEdge) (ends : List (List RawEdge))
    (data : List Byte) (st : Status) (cause : W16) : State :=
  (((s.measCount p ch m starts ends).updChan p ch fun c => { c with meas := none }).dma p m.addr data).finish
    p m.ring m.idx st cause 0

theorem State.dma_out {s : State} {p : Part} {addr : Nat} {data : List Byte} (h : data ≠ []) :
    (s.dma p addr data).out = s.out ++ [.dma p addr data] := by
  rw [State.dma, if_neg (by simpa using h)]
  rfl

theorem resultRecord_ne_nil (st : Int × Int × Int × Int) (count m mode status : Nat) (above stale : Bool) (t0 : W64) :
    resultRecord st count m mode status above stale t0 ≠ [] := by
  simp [resultRecord, zeros]

theorem State.endMeas_completes (s : State) (p : Part) (ch : Nat) (m : Meas) (starts : List RawEdge)
    (ends : List (List RawEdge)) {data : List Byte} (st : Status) (cause : W16) (hrec : data ≠ []) :
    (s.out ++ [.dma p m.addr data]) <+: (s.endMeas p ch m starts ends data st cause).out
    ∧ ((s.endMeas p ch m starts ends data st cause).chan p ch).meas = none
    ∧ (s.endMeas p ch m starts ends data st cause).desc? p m.ring m.idx = none
    ∧ ((s.endMeas p ch m starts ends data st cause).part p).time = (s.part p).time
    ∧ (s.endMeas p ch m starts ends data st cause).die = s.die := by
  obtain ⟨u, hu⟩ : ∃ u, u = (s.measCount p ch m starts ends).updChan p ch fun c => { c with meas := none } := ⟨_, rfl⟩
  have hfree : (u.chan p ch).meas = none := by simp [hu]
  obtain ⟨hout, hgone⟩ := (u.dma p m.addr data).finish_completes p m.ring m.idx st cause 0
  rw [State.outGrows, State.dma_out hrec, show u.out = s.out by simp [hu]] at hout
  rw [State.endMeas, ← hu]
  refine ⟨hout, ?_, hgone, ?_, by simp [hu]⟩
  · rwa [State.chan_of_tdc (s := u) (by cases p <;> simp)]
  · cases p <;> simp [hu]

/-- A complete set of a measurement is written and completes it (R82, R83). -/
theorem tdcMeasureComplete_writes {s : State} {p : Part} {chan : Nat} {starts : List RawEdge} {ends : List (List RawEdge)}
    {m : Meas} {g : List Int} {above stale : Bool} {t0 : W64} (hm : (s.chan p chan).meas = some m) (hmode : m.mode ≠ 3)
    (hsamples : s.measSamples p chan m (2 ^ m.m) (edgesOf starts ends) = (g, above, stale, t0)) (hlen : g.length = 2 ^ m.m)
    (hedges : s.measEdges p chan m (edgesOf starts ends) = true) :
    exec (.tdcMeasureComplete p chan starts ends) s = .next (s.endMeas p chan m starts ends
      (resultRecord (statsOf g) (2 ^ m.m) m.m m.mode 0 above stale t0) .ok 0) := by
  show execTdcMeasureComplete p chan starts ends s = _
  simp [execTdcMeasureComplete, hm, hmode, hsamples, hlen, hedges, State.endMeas, Status.code]

/-- A `CODE_DENSITY` measurement with its figures is written and completes (R83, R84). -/
theorem tdcMeasureComplete_density {s : State} {p : Part} {chan : Nat} (starts : List RawEdge) (ends : List (List RawEdge))
    {m : Meas} {a b lo hi : Int} {k : Nat} (hm : (s.chan p chan).meas = some m) (hmode : m.mode = 3)
    (hfig : m.figures = some (a, b, lo, hi, k)) :
    exec (.tdcMeasureComplete p chan starts ends) s = .next (s.endMeas p chan m starts ends
      (resultRecord (a, b, lo, hi) k m.m 3 0 false false m.startNs) .ok 0) := by
  show execTdcMeasureComplete p chan starts ends s = _
  simp [execTdcMeasureComplete, hm, hmode, hfig, State.endMeas, Status.code]

/-- A measurement whose time is over is written over the samples taken and completes with `TIMEOUT` (R84). -/
theorem tdcMeasureTimeout_writes {s : State} {p : Part} {chan : Nat} {starts : List RawEdge} {ends : List (List RawEdge)}
    {m : Meas} {g : List Int} {above stale : Bool} {t0 : W64} (hm : (s.chan p chan).meas = some m)
    (htime : (s.ns p - m.startNs).toInt ≥ 1000 * (m.timeoutUs : Int))
    (hsamples : s.measSamples p chan m (2 ^ m.m - 1) (edgesOf starts ends) = (g, above, stale, t0))
    (hedges : s.measEdges p chan m (edgesOf starts ends) = true) :
    exec (.tdcMeasureTimeout p chan starts ends) s = .next (s.endMeas p chan m starts ends
      (resultRecord (statsOf g) g.length m.m m.mode 2 above stale t0) .timeout Cause.cmdTimeout.w) := by
  have helapsed : elapsed (s.ns p) m.startNs (us m.timeoutUs) = true := decide_eq_true htime
  show execTdcMeasureTimeout p chan starts ends s = _
  simp [execTdcMeasureTimeout, hm, helapsed, hsamples, hedges, State.endMeas, Status.code]

/-! ### The region watch -/

/-- A watch after a set: its record, and the settings written meanwhile in force for the next set (R87). -/
def WatchSt.nextSet (w : WatchSt) (data : List Byte) : WatchSt :=
  { w with result := data, curPrescale := w.prescale, curM := w.m, curGate := w.gate, curLo := w.lo, curHi := w.hi }

/-- The host die with the record of a set in a region's slot (R87). -/
def State.watchSet (s : State) (r ch : Nat) (w : WatchSt) (n : Nat) : State :=
  ({ s with die.spine.watches := tabSet s.die.spine.watches r w }.updChan .tsu ch
    fun c => { c with old := if c.meas.isSome then c.old else [] }).count .tsu 0x0201 ch n

theorem State.watchSet_keeps (s : State) (r ch : Nat) (w : WatchSt) (n : Nat) :
    tabGet {} (s.watchSet r ch w n).die.spine.watches r = w ∧ (s.watchSet r ch w n).tsu.time = s.tsu.time
    ∧ s.samePhi (s.watchSet r ch w n) := by
  simp [State.watchSet, State.samePhi]

/-- A set of an enabled watch goes to its slot, and the next set begins with the settings written meanwhile (R87). -/
theorem regionWatchResult_writes {s : State} {r ch : Nat} {starts : List RawEdge} {ends : List (List RawEdge)} {w : WatchSt}
    {g : List Int} {above stale : Bool} {t0 : W64} (hr : r < 16) (hch : s.tdcFor .tsu (16 + r) = some ch)
    (hw : tabGet {} s.die.spine.watches r = w) (hen : w.en = true) (hrun : w.running = true)
    (hreduce : (s.chan .tsu ch).reduce (s.tdcRecalS .tsu) (fun _ => 1) true (2 ^ w.curM) (s.ns .tsu) (edgesOf starts ends)
      = (g, above, stale, t0))
    (hreal : s.edgesReal .tsu ch (fun _ => 1) true w.curGate s.tsu.clk.runSinceNs (edgesOf starts ends) = true)
    (hlen : g.length = 2 ^ w.curM) : Answers (.regionWatchResult r starts ends) s fun t =>
      tabGet {} t.die.spine.watches r = w.nextSet (resultRecord (statsOf g) (2 ^ w.curM) w.curM 1 0 above stale t0)
        ∧ t.tsu.time = s.tsu.time ∧ s.samePhi t := by
  obtain ⟨u, hu⟩ : ∃ u, u = s.watchSet r ch (w.nextSet (resultRecord (statsOf g) (2 ^ w.curM) w.curM 1 0 above stale t0))
    (edgeCount starts ends) := ⟨_, rfl⟩
  have hexec : exec (.regionWatchResult r starts ends) s
      = if (statsOf g).1 < w.curLo.toInt ∨ (statsOf g).1 > w.curHi.toInt then .next (u.record .tsu .regionClockRange r)
        else .next u := by
    show execRegionWatchResult r starts ends s = _
    simp only [execRegionWatchResult, hch, hw, hreduce]
    rw [if_neg (by simp [hr, hen, hrun, hreal, hlen]), hu]
    rfl
  obtain ⟨hslot, htime, hphi, hhub, hmdl⟩ := s.watchSet_keeps r ch
    (w.nextSet (resultRecord (statsOf g) (2 ^ w.curM) w.curM 1 0 above stale t0)) (edgeCount starts ends)
  rw [← hu] at hslot htime hphi hhub hmdl
  split at hexec
  · exact ⟨_, hexec, by simpa using hslot, by simpa using htime, by simpa using hphi, by simpa using hhub, by simpa using hmdl⟩
  · exact ⟨_, hexec, hslot, htime, hphi, hhub, hmdl⟩

/-- Settles O14: each conversion, run, timer and measurement by the operation that it ends in, on the one channel that it is for. -/
theorem tdcChannels : Obligations.TdcChannels := by
  unfold Obligations.TdcChannels
  refine ⟨fun s p chan input a b port cv an => tdcConversionDone_t2,
    fun s p chan hs hex hv hfast hlen hrun halt hatt hsrc =>
      codeDensityRunComplete_accepts hex hv hfast hlen hrun halt hatt hsrc,
    fun s p chan core sums => vernierCalComplete_accepts, fun s p chan => tdcRecalTimer_starts, temperatureMove_starts,
    ?measure, ?complete, ?density, ?timeout, ?watch⟩
  case measure =>
    rintro s p ring idx ch mode d hready rfl rfl hshut hbad hunsup hwatch hfree hsound huse hsrc c hrow
    obtain ⟨t, hexec, ⟨cyc, hmeas⟩, hcal, htime, hdie, hmeter⟩ :=
      tdcMeasure_starts hready ⟨hshut, hbad, hunsup, hwatch, hfree, hsound, huse, hsrc⟩ hrow
    exact ⟨t, hexec, ⟨_, hmeas, rfl, rfl, rfl, rfl, rfl, rfl, rfl, rfl, rfl, rfl, rfl, rfl⟩, hcal, htime, hdie, hmeter⟩
  case complete =>
    intro s p chan starts ends m d g above stale t0 hm hmode hsamples hlen hedges _
    exact ⟨_, tdcMeasureComplete_writes hm hmode hsamples hlen hedges,
      s.endMeas_completes p chan m starts ends _ _ (resultRecord_ne_nil _ _ _ _ _ _ _ _)⟩
  case density =>
    intro s p chan starts ends m d a b lo hi k hm hmode hfig _
    exact ⟨_, tdcMeasureComplete_density starts ends hm hmode hfig,
      s.endMeas_completes p chan m starts ends _ _ (resultRecord_ne_nil _ _ _ _ _ _ _ _)⟩
  case timeout =>
    intro s p chan starts ends m d g above stale t0 hm htime hsamples hedges _
    exact ⟨_, tdcMeasureTimeout_writes hm htime hsamples hedges,
      s.endMeas_completes p chan m starts ends _ _ (resultRecord_ne_nil _ _ _ _ _ _ _ _)⟩
  case watch =>
    intro s r ch starts ends w g above stale t0 hr hch hw hen hrun hreduce hreal hlen
    obtain ⟨t, hexec, hslot, htime, hphi⟩ := regionWatchResult_writes hr hch hw hen hrun hreduce hreal hlen
    exact ⟨t, hexec, by rw [hslot]; rfl, by rw [hslot]; rfl, by rw [hslot]; rfl, htime, hphi⟩

end Sys2Proof.Machine

/-!
PROOFS. The fast logic of the TSU and the spine PLL (R91 to R97): what a wake does to the clock state, and the wake, lock, failed lock,
idle stop and `FAST_FORCE` that build on it.
-/

namespace Sys2Proof.Machine

/-! ### A wake -/

/-- A wake of fast logic that stands still starts its PLL (R91, R92). -/
theorem State.wakeFast_starts {s : State} (hsosc : s.tsu.clk.soscDead = false) (hrun : s.tsu.clk.running = false)
    (hstart : s.tsu.clk.starting = false) (hstop : s.tsu.clk.stopCyc ≠ some s.cyc) :
    s.wakeFast.tsu.clk
      = { s.tsu.clk with starting := true, startNs := s.ns .tsu, idleSince := none, wakeCyc := some s.cyc } := by
  simp [State.wakeFast, hsosc, hrun, hstart, hstop, State.ns]

/-- A wake in the cycle in which the fast logic was stopped cancels the stop (R94). -/
theorem State.wakeFast_cancels_stop {s : State} (hsosc : s.tsu.clk.soscDead = false) (hrun : s.tsu.clk.running = false)
    (hstart : s.tsu.clk.starting = false) (hstop : s.tsu.clk.stopCyc = some s.cyc) :
    s.wakeFast.tsu.clk.running = true ∧ s.wakeFast.tsu.clk.fast = true ∧ s.wakeFast.tsu.clk.starting = false := by
  simp [State.wakeFast, hsosc, hrun, hstart, hstop]

/-- After a wake the PLL of stopped fast logic starts, whether it had begun before or not. -/
theorem State.wakeFast_starting {s : State} (hsosc : s.tsu.clk.soscDead = false) (hrun : s.tsu.clk.running = false)
    (hstop : s.tsu.clk.stopCyc ≠ some s.cyc) : s.wakeFast.tsu.clk.starting = true := by
  cases hstart : s.tsu.clk.starting with
  | false => rw [State.wakeFast_starts hsosc hrun hstart hstop]
  | true => simp [State.wakeFast, hsosc, hrun, hstart]

/-- A wake leaves `FAST_FORCE` as it is. -/
@[simp] theorem State.wakeFast_fastForce (s : State) : s.wakeFast.tsu.clk.fastForce = s.tsu.clk.fastForce := by
  simp only [State.wakeFast]
  split
  · rfl
  · split
    · rfl
    · split <;> rfl

/-- A wake changes nothing of the state but the clock of the TSU. -/
theorem fastWakeRequest_wakes (s : State) : Answers .fastWakeRequest s fun t =>
    t.tsu.clk = s.wakeFast.tsu.clk ∧ t.tsu.time = s.tsu.time ∧ s.samePhi t ∧ t.die = s.die ∧ t.out = s.out :=
  ⟨s.wakeFast, rfl, rfl, by simp, by simp [State.samePhi], by simp, by simp⟩

/-! ### The lock of the PLL -/

/-- A lock of a PLL that starts puts its part into fast mode; without a start nothing locks (R92, R97). -/
theorem spinePllLock_fires (s : State) (p : Part) :
    Fires (.spinePllLock p) s ((s.part p).clk.starting = true) fun t =>
      (t.part p).clk.running = true ∧ (t.part p).clk.fast = true ∧ (t.part p).clk.pllLock = true
        ∧ (t.part p).clk.starting = false ∧ (t.part p).clk.runSinceNs = s.ns p ∧ (t.part p).time = (s.part p).time
        ∧ t.die = s.die ∧ t.hub = s.hub ∧ t.out = s.out := by
  refine ⟨fun hstart => ?_, fun hstart => ?_⟩
  · cases p with
    | tsu => exact ⟨_, by rw [exec, execSpinePllLock, if_pos hstart], by simp [State.count, State.ns]⟩
    | phi => exact ⟨_, by rw [exec, execSpinePllLock, if_pos hstart], by simp [State.ns]⟩
  · show execSpinePllLock p s = _
    rw [execSpinePllLock, if_neg hstart, nothing]

/-- A PLL that starts and has not locked after 2.5 us starts again, with one failure counted (R96, R112). -/
theorem spinePllLockTimeout_restarts {s : State} {p : Part} (hstart : (s.part p).clk.starting = true)
    (hlate : (s.ns p - (s.part p).clk.startNs).toInt ≥ 2500) (hfirst : (s.part p).clk.pllFails = 0) :
    Answers (.spinePllLockTimeout p) s fun t =>
      (t.part p).clk.pllFails = 1 ∧ (t.part p).clk.startNs = s.ns p ∧ (t.part p).clk.starting = true
        ∧ (t.part p).time = (s.part p).time ∧ t.die = s.die ∧ t.hub = s.hub ∧ t.out = s.out := by
  have hover : elapsed (s.ns p) (s.part p).clk.startNs 2500 = true := decide_eq_true hlate
  have hexec : exec (.spinePllLockTimeout p) s = .next ((s.transient p 3 (s.part p).clk.sosc).upd p fun c =>
      { c with clk.startNs := c.time.ns, clk.pllFails := 1 }) := by
    show execSpinePllLockTimeout p s = _
    simp [execSpinePllLockTimeout, hstart, hover, hfirst]
  refine ⟨_, hexec, ?_⟩
  cases p <;> simpa [State.transient, State.updUnit, State.ns] using hstart

/-! ### The idle stop -/

/-- A time held for so long is a start of it that lies so far back (R94). -/
theorem heldFor_iff {now : W64} {since : Option W64} {d : Int} :
    heldFor now since d = true ↔ ∃ x, since = some x ∧ (now - x).toInt ≥ d := by
  cases since with
  | none => simp [heldFor]
  | some x => simp [heldFor, elapsed, nsDiff]

/-- Fast logic that has had no reason to run for `FAST_IDLE_US` stops, unless a wake has come in the same cycle, which
begins that time anew (R94, log entry 72). -/
theorem fastIdleExpiry_fires (s : State) :
    Fires .fastIdleExpiry s (s.tsu.clk.running = true ∧ s.keepRunning = false
        ∧ ∃ x, s.tsu.clk.idleSince = some x ∧ (s.ns .tsu - x).toInt ≥ 1000 * (s.fastIdleUs : Int)) fun t =>
      t.tsu.clk = (if s.tsu.clk.wakeCyc = some s.cyc then { s.tsu.clk with idleSince := none } else
          { s.tsu.clk with running := false, fast := false, pllLock := false, idleSince := none, stopCyc := some s.cyc,
                           stopNs := s.ns .tsu })
        ∧ t.tsu.time = s.tsu.time ∧ s.samePhi t ∧ t.die = s.die ∧ t.out = s.out := by
  have hcond : (s.tsu.clk.running = true ∧ s.keepRunning = false
        ∧ ∃ x, s.tsu.clk.idleSince = some x ∧ (s.ns .tsu - x).toInt ≥ 1000 * (s.fastIdleUs : Int))
      ↔ (s.tsu.clk.running && !s.keepRunning && heldFor (s.ns .tsu) s.tsu.clk.idleSince (us s.fastIdleUs)) = true := by
    simp [heldFor_iff, us, and_assoc]
  rw [hcond]
  refine ⟨fun hidle => ?_, fun hbusy => ?_⟩
  · by_cases hwake : s.tsu.clk.wakeCyc = some s.cyc
    · refine ⟨{ s with tsu.clk.idleSince := none }, ?_, by simp [hwake, State.samePhi]⟩
      show execFastIdleExpiry s = _
      simp [execFastIdleExpiry, hidle, hwake]
    · show gives (execFastIdleExpiry s) _
      simp only [execFastIdleExpiry, hidle, if_neg hwake]
      exact ⟨_, rfl, rfl, rfl, ⟨rfl, rfl, rfl⟩, rfl, rfl⟩
  · show execFastIdleExpiry s = _
    simp [execFastIdleExpiry, nothing, hbusy]

/-! ### `FAST_FORCE` -/

/-- A write of `FAST_FORCE` that is not lost to a reset holds, and a set bit wakes the fast logic (R91, R93). -/
theorem fastForceWrite_holds {s : State} (v : Bool) (hkept : s.writeLost 0x0804 = false) :
    Answers (.fastForceWrite v) s fun t =>
      t.tsu.clk.fastForce = v
        ∧ (v = true → s.tsu.clk.soscDead = false → s.tsu.clk.running = false → s.tsu.clk.stopCyc ≠ some s.cyc →
            t.tsu.clk.starting = true)
        ∧ t.tsu.time = s.tsu.time ∧ s.samePhi t ∧ t.die = s.die ∧ t.out = s.out := by
  have hexec : exec (.fastForceWrite v) s = .next (s.fastForce v) := by
    show execFastForceWrite v s = _
    rw [execFastForceWrite, hkept]
    rfl
  refine ⟨_, hexec, ?_, ?_, by simp, by simp [State.samePhi], by simp, by simp⟩
  · cases v <;> simp [State.fastForce]
  · rintro rfl hsosc hrun hstop
    exact State.wakeFast_starting (s := { s with tsu.clk.fastForce := true }) hsosc hrun hstop

/-- Settles O15: each event by the change that it makes to the clock state of its part. -/
theorem fastLogic : Obligations.FastLogic := by
  unfold Obligations.FastLogic
  refine ⟨?wake, ?cancel, spinePllLock_fires, fun s p => spinePllLockTimeout_restarts, fastIdleExpiry_fires,
    fun s v => fastForceWrite_holds v⟩
  case wake =>
    intro s hsosc hrun hstart hstop
    obtain ⟨t, hexec, hclk, hrest⟩ := fastWakeRequest_wakes s
    exact ⟨t, hexec, hclk.trans (State.wakeFast_starts hsosc hrun hstart hstop), hrest⟩
  case cancel =>
    intro s hsosc hrun hstart hstop
    obtain ⟨t, hexec, hclk, hrest⟩ := fastWakeRequest_wakes s
    obtain ⟨hrunning, hfast, hstarting⟩ := State.wakeFast_cancels_stop hsosc hrun hstart hstop
    exact ⟨t, hexec, hclk ▸ hrunning, hclk ▸ hfast, hclk ▸ hstarting, hrest⟩

end Sys2Proof.Machine

/-!
PROOFS. The time spine and the region crossings (R98 to R109, R162): the regions' table, the FIFO of a crossing and what its oldest
entry does, the spine calibration, and the reads and events of a region.
-/

namespace Sys2Proof.Machine

/-! ### Regions -/

@[simp] theorem State.updRegion_region_same (s : State) (r : Nat) (f : RegionSt → RegionSt) :
    (s.updRegion r f).region r = f (s.region r) := tabGet_mod_same _ _ _ _

theorem State.updRegion_region_other (s : State) {r q : Nat} (f : RegionSt → RegionSt) (h : q ≠ r) :
    (s.updRegion r f).region q = s.region q := tabGet_mod_other _ _ _ h

/-- A region is read from the spine's table alone. -/
theorem State.region_of_regions {s t : State} (h : t.die.spine.regions = s.die.spine.regions) (r : Nat) :
    t.region r = s.region r := by
  rw [State.region, State.region, h]

@[simp] theorem State.count_region (s : State) (p : Part) (event inst n r : Nat) :
    (s.count p event inst n).region r = s.region r := State.region_of_regions (by simp) r

@[simp] theorem State.record_region (s : State) (p : Part) (cause : Cause) (detail r : Nat) :
    (s.record p cause detail).region r = s.region r := State.region_of_regions (by simp) r

@[simp] theorem State.emit_region (s : State) (o : Out) (r : Nat) : (s.emit o).region r = s.region r := rfl

/-- With nothing held at its source a crossing is as it stands. -/
theorem RegionSt.refill_of_waiting_nil {g : RegionSt} (h : g.waiting = []) (acc : BitVec 112) : g.refill acc = g := by
  cases g
  simp_all [RegionSt.refill]

/-- Entries that come into the FIFO leave the strobe that a region has been given as it is. -/
@[simp] theorem RegionSt.refill_fired (g : RegionSt) (acc : BitVec 112) : (g.refill acc).fired = g.fired := rfl

/-! ### Events of a region -/

/-- A first parity error of a region is counted, and its HT word kept (R98). -/
theorem spineParity_counts {s : State} {r : Nat} (hr : r < 16) (hfirst : (s.region r).parityAt = none) :
    Answers (.spineParity r) s fun t =>
      (t.region r).parityErrs = satNat 32 ((s.region r).parityErrs + 1) ∧ (t.region r).parityAt = some s.tsu.time.cycles
        ∧ t.tsu = s.tsu ∧ s.samePhi t ∧ t.out = s.out := by
  show gives (execSpineParity r s) _
  simp only [execSpineParity, if_neg (Nat.not_le.mpr hr), hfirst]
  exact ⟨_, rfl, by simp, by simp, rfl, ⟨rfl, rfl, rfl⟩, rfl⟩

/-- The value that a core's read of HT gives before the reads of its region are kept from decreasing (R99). -/
def State.htReading (s : State) : W64 :=
  let f := s.takeFree.1.toNat
  let now := s.ns .tsu
  if s.tsu.clk.fast then nsAdd now (-((f % 3 : Nat) : Int))
  else nsAdd now (-((now.toNat % 4 + 4 * (f % (if now.toNat % 4 = 0 then 3 else 2)) : Nat) : Int))

/-- A reading, or the last one of the region when that is later (R99). -/
def notBelow (last v : W64) : W64 := if later last v then last else v

/-- What is kept from decreasing does not lie before the last. -/
theorem notBelow_not_earlier (last v : W64) : (last - notBelow last v).toInt ≤ 0 := by
  unfold notBelow
  split
  case isTrue => simp
  case isFalse h => simpa [later, nsDiff] using h

/-- A core reads HT from its region, no earlier than the region's last read (R99). -/
theorem coreHtRead_reads {s : State} (r c : Nat) (hconf : s.tsu.configured = true) :
    Answers (.coreHtRead r c) s fun t =>
      (∃ v : W64, t.out = s.out ++ [.htRead r c v] ∧ (t.region r).htLast = v ∧ ((s.region r).htLast - v).toInt ≤ 0)
        ∧ t.tsu = s.tsu ∧ s.samePhi t := by
  have hexec : exec (.coreHtRead r c) s = .next ((s.takeFree.2.updRegion r fun g =>
      { g with htLast := notBelow (s.region r).htLast s.htReading }).emit
        (.htRead r c (notBelow (s.region r).htLast s.htReading))) := by
    show execCoreHtRead r c s = _
    rw [execCoreHtRead, hconf]
    rfl
  exact ⟨_, hexec, ⟨notBelow (s.region r).htLast s.htReading, by simp [State.emit], by simp, notBelow_not_earlier _ _⟩,
    by simp, by simp [State.samePhi]⟩

/-- A region that is switched on or off keeps its entries, which are then exempt from slipping (R101). -/
theorem regionPowerChange_exempts (s : State) (r : Nat) (off : Bool) : Answers (.regionPowerChange r off) s fun t =>
    (t.region r).off = off ∧ (t.region r).fifo = ((s.region r).refill s.tsu.time.acc).fifo.map (fun e => { e with exempt := true })
      ∧ (t.region r).waiting = ((s.region r).refill s.tsu.time.acc).waiting
      ∧ t.tsu = s.tsu ∧ s.samePhi t ∧ t.out = s.out :=
  ⟨_, rfl, by simp, by simp, by simp, by simp, by simp [State.samePhi], by simp⟩

/-- A stretch event adds its cycles to the region's count and to that of its slot (R105). -/
theorem stretchEvent_adds (s : State) (r : Nat) {n : Nat} (hn : n < 16) : Answers (.stretchEvent r n) s fun t =>
    (t.region r).stretchCnt = (s.region r).stretchCnt + BitVec.ofNat 64 n
      ∧ (t.region r).stretchSlot = satNat 32 ((s.region r).stretchSlot + n) ∧ t.tsu.time = s.tsu.time ∧ s.samePhi t
      ∧ t.out = s.out := by
  have hmod : n % 16 = n := Nat.mod_eq_of_lt hn
  exact ⟨_, rfl, by simp [hmod], by simp [hmod], by simp, by simp [State.samePhi], by simp⟩

/-! ### The oldest entry of a FIFO -/

/-- A region's FIFO holds these entries, and all else is as before. -/
def State.setFifo (s : State) (r : Nat) (es : List FifoEntry) : State := s.updRegion r fun _ => { s.region r with fifo := es }

@[simp] theorem State.setFifo_region (s : State) (r : Nat) (es : List FifoEntry) :
    (s.setFifo r es).region r = { s.region r with fifo := es } := s.updRegion_region_same r _

/-- What a region does with an entry that it consumes: its strobe, its gate edges, then its wakes (R100, R109, R162, R202). -/
def State.consumeEntry (s : State) (r : Nat) (e : FifoEntry) : State :=
  let s := match e.bell with
    | some l => if e.launch then s.consumeStrobe r l else s
    | none => s
  e.wakes.foldl (fun s w => s.emit (.wake w)) (e.edges.foldl (fun s x => s.consumeEdge r x) s)

/-- With nothing held at its source the oldest entry leaves the FIFO, and nothing comes in (R100). -/
theorem RegionSt.dropFirst_of_waiting_nil {g : RegionSt} (h : g.waiting = []) (acc : BitVec 112) (len : Nat) :
    g.dropFirst acc len = { g with fifo := g.fifo.drop 1 } := by
  rw [RegionSt.dropFirst, h]

/-- A region that is on takes the oldest entry out of its FIFO and consumes it (R100). -/
theorem exec_regionFifoConsume {s : State} {r : Nat} {e : FifoEntry} {es : List FifoEntry} (hfifo : (s.region r).fifo = e :: es)
    (hon : (s.region r).off = false) (hslip : e.slipped = false) (hwait : (s.region r).waiting = []) :
    exec (.regionFifoConsume r) s = .next ((s.setFifo r es).consumeEntry r e) := by
  have hpower : ¬ (s.region r).off = true := by simp [hon]
  show execRegionFifoConsume r s = _
  simp only [execRegionFifoConsume, RegionSt.refill_of_waiting_nil hwait, hfifo, if_neg hpower, hslip,
    RegionSt.dropFirst_of_waiting_nil hwait]
  rfl

/-- Wakes that go out are appended to the log, and change nothing else. -/
theorem State.emitWakes_eq (s : State) (ws : List WakeRef) :
    ws.foldl (fun s w => s.emit (.wake w)) s = { s with out := s.out ++ ws.map Out.wake } := by
  induction ws generalizing s with
  | nil => simp
  | cons w ws ih =>
    rw [List.foldl_cons, ih]
    simp [State.emit]

/-- An entry without strobe and edges wakes its cores (R100). -/
theorem regionFifoConsume_wakes {s : State} {r : Nat} {e : FifoEntry} {es : List FifoEntry} (hfifo : (s.region r).fifo = e :: es)
    (hon : (s.region r).off = false) (hbell : e.bell = none) (hedges : e.edges = []) (hslip : e.slipped = false)
    (hwait : (s.region r).waiting = []) : Answers (.regionFifoConsume r) s fun t =>
      (t.region r).fifo = es ∧ t.out = s.out ++ e.wakes.map Out.wake ∧ t.tsu = s.tsu ∧ s.samePhi t := by
  have hentry : (s.setFifo r es).consumeEntry r e = { s.setFifo r es with out := s.out ++ e.wakes.map Out.wake } := by
    simp only [State.consumeEntry, hbell, hedges, List.foldl_nil, State.emitWakes_eq]
    rfl
  exact ⟨_, (exec_regionFifoConsume hfifo hon hslip hwait).trans (congrArg _ hentry),
    congrArg RegionSt.fifo (s.setFifo_region r es), rfl, rfl, rfl, rfl, rfl⟩

/-! ### A strobe -/

/-- A mailbox slot is read from the slots' table alone. -/
theorem State.slot_of_slots {s t : State} (h : t.die.slots = s.die.slots) (c i : Nat) : t.slot c i = s.slot c i := by
  rw [State.slot, State.slot, h]

/-- A write of a mailbox slot. -/
theorem State.setSlot_slot (s : State) (c i : Nat) (x : Slot) (c' i' : Nat) :
    (s.setSlot c i x).slot c' i' = if 4 * c + i = 4 * c' + i' then x else s.slot c' i' := by
  simp only [State.slot, State.setSlot, State.dieUpd, tabGet, tabGet?_set]
  split <;> rfl

/-- Slots that a strobe starts (R162). -/
def State.startSlots (s : State) (l : List SlotRef) : State :=
  l.foldl (fun s x => s.setSlot x.core x.slot { s.slot x.core x.slot with state := .started }) s

/-- A slot is `STARTED` when it is among those that start, or was so before. -/
theorem State.startSlots_started {s : State} {l : List SlotRef} {x : SlotRef}
    (h : x ∈ l ∨ (s.slot x.core x.slot).state = .started) : ((s.startSlots l).slot x.core x.slot).state = .started := by
  induction l generalizing s with
  | nil => exact h.resolve_left List.not_mem_nil
  | cons y ys ih =>
    refine ih ?_
    rw [List.mem_cons] at h
    rw [State.setSlot_slot]
    by_cases hkey : 4 * y.core + y.slot = 4 * x.core + x.slot
    · simp [hkey]
    · rcases h with (rfl | hmem) | hwas
      · exact absurd rfl hkey
      · exact .inl hmem
      · simp [hkey, hwas]

/-- Starting slots changes the slots alone. -/
theorem State.startSlots_eq (s : State) (l : List SlotRef) :
    s.startSlots l = { s with die.slots := (s.startSlots l).die.slots } := by
  induction l generalizing s with
  | nil => rfl
  | cons y ys ih => exact ih _

/-- The slack of a strobe leaves the region's FIFO as it is (R109). -/
theorem State.strobeSlack_fifo (s : State) (r : Nat) (l : W64) (st : List SlotRef) :
    ((s.strobeSlack r l st).region r).fifo = (s.region r).fifo := by
  unfold State.strobeSlack
  dsimp only
  split <;> simp

/-- The anchor of a region's cycles is set now (R108). -/
def State.anchorCycles (s : State) (r : Nat) : State :=
  (s.updRegion r fun g => { g with cycZeroNs := s.ns .tsu, cycKnown := true }).dieUpd fun d =>
    { d with spine.regionCycs := d.spine.regionCycs.set r 0 }

theorem State.anchorCycles_region (s : State) (r : Nat) :
    (s.anchorCycles r).region r = { s.region r with cycZeroNs := s.ns .tsu, cycKnown := true } :=
  s.updRegion_region_same r fun g => { g with cycZeroNs := s.ns .tsu, cycKnown := true }

/-- A strobe leaves the die with its slack counted, its region's cycles anchored and its slots started; the wakes go out besides. -/
theorem State.consumeStrobe_die (s : State) (r : Nat) (l : W64) :
    (s.consumeStrobe r l).die
      = (((s.strobeSlack r l (s.slotsAt r l)).anchorCycles r).startSlots (s.slotsAt r l)).die :=
  foldl_die _ _ _ fun _ _ => rfl

/-- A strobe keeps the region's FIFO and anchors its cycles (R108). -/
theorem State.consumeStrobe_region (s : State) (r : Nat) (l : W64) :
    ((s.consumeStrobe r l).region r).fifo = (s.region r).fifo ∧ ((s.consumeStrobe r l).region r).cycZeroNs = s.ns .tsu
    ∧ ((s.consumeStrobe r l).region r).cycKnown = true := by
  have hregion : (s.consumeStrobe r l).region r = ((s.strobeSlack r l (s.slotsAt r l)).anchorCycles r).region r :=
    State.region_of_regions (by rw [s.consumeStrobe_die, State.startSlots_eq]) r
  rw [hregion, State.anchorCycles_region]
  exact ⟨s.strobeSlack_fifo r l _, by simp [State.ns], rfl⟩

/-- A strobe starts the slots that are armed for its bell (R162). -/
theorem State.consumeStrobe_started (s : State) (r : Nat) (l : W64) {x : SlotRef} (h : x ∈ s.slotsAt r l) :
    ((s.consumeStrobe r l).slot x.core x.slot).state = .started := by
  rw [State.slot_of_slots (congrArg DieSt.slots (s.consumeStrobe_die r l))]
  exact State.startSlots_started (.inl h)

/-- An entry that is a slipway strobe alone anchors the region's cycles and starts the slots of its bell (R108, R162). -/
theorem regionFifoConsume_strobes {s : State} {r : Nat} {e : FifoEntry} {l : W64} (hfifo : (s.region r).fifo = [e])
    (hon : (s.region r).off = false) (hbell : e.bell = some l) (hlaunch : e.launch = true) (hedges : e.edges = [])
    (hwakes : e.wakes = []) (hslip : e.slipped = false) (hwait : (s.region r).waiting = []) :
    Answers (.regionFifoConsume r) s fun t =>
      (t.region r).fifo = [] ∧ (t.region r).cycZeroNs = s.ns .tsu ∧ (t.region r).cycKnown = true
        ∧ (∀ x ∈ s.slotsAt r l, (t.slot x.core x.slot).state = .started) ∧ t.tsu.time = s.tsu.time ∧ s.samePhi t := by
  have hentry : (s.setFifo r []).consumeEntry r e = (s.setFifo r []).consumeStrobe r l := by
    simp [State.consumeEntry, hbell, hlaunch, hedges, hwakes]
  obtain ⟨hempty, hzero, hknown⟩ := (s.setFifo r []).consumeStrobe_region r l
  exact ⟨_, (exec_regionFifoConsume hfifo hon hslip hwait).trans (by rw [hentry]), by simpa using hempty, hzero, hknown,
    fun x hx => (s.setFifo r []).consumeStrobe_started r l hx, by simp [State.setFifo], by simp [State.setFifo, State.samePhi]⟩

/-- The oldest entry past its margin is marked as slipped (R107). -/
theorem crossingSlip_marks {s : State} {r : Nat} {e : FifoEntry} {es : List FifoEntry} (hfifo : (s.region r).fifo = e :: es)
    (hon : (s.region r).off = false) (hslip : e.slipped = false) (hexempt : e.exempt = false)
    (hlate : (s.tsu.time.acc - e.wAcc).toInt ≥ (s.crossMarginNs : Int) * 2 ^ 48) (hwait : (s.region r).waiting = []) :
    Answers (.crossingSlip r) s fun t =>
      (t.region r).fifo = { e with slipped := true } :: es ∧ t.tsu.time = s.tsu.time ∧ s.samePhi t := by
  have hpast : s.pastMargin e = true := by
    rw [State.pastMargin, hslip, hexempt]
    exact decide_eq_true hlate
  have hexec : exec (.crossingSlip r) s
      = .next (((s.setFifo r ({ e with slipped := true } :: es)).count .tsu 0x0302 r 1).record
          .tsu .crossingSlip (r + 16 * e.kind)) := by
    show execCrossingSlip r s = _
    simp [execCrossingSlip, RegionSt.refill_of_waiting_nil hwait, hfifo, hon, hpast, List.findIdx_cons, listAdj, State.setFifo]
  exact ⟨_, hexec, by simp, by simp [State.setFifo], by simp [State.setFifo, State.samePhi]⟩

/-! ### The spine calibration -/

/-- An entry after a write was there before or is the one written. -/
theorem mem_tabSet {α : Type} {t : Tab α} {x : Nat} {v : α} {e : Nat × α} (h : e ∈ tabSet t x v) : e = (x, v) ∨ e ∈ t := by
  induction t with
  | nil => simpa [tabSet] using h
  | cons a t ih =>
    obtain ⟨k, w⟩ := a
    simp only [tabSet] at h
    split at h
    · simpa using h
    · split at h <;> grind

/-- A read of a table whose entries have all been changed. -/
theorem tabGet?_map {α : Type} (t : Tab α) (f : α → α) (x : Nat) :
    tabGet? (t.map fun e => (e.1, f e.2)) x = (tabGet? t x).map f := by
  induction t with
  | nil => rfl
  | cons a t ih =>
    simp only [List.map_cons, tabGet?]
    split
    · rfl
    · exact ih

/-- No region waits for a repeat of its calibration (R103). -/
def State.noRepeats (s : State) : Prop := ∀ e ∈ s.die.spine.regions, e.2.calAttempt = 0

theorem State.noRepeats_region {s : State} (h : s.noRepeats) (r : Nat) : (s.region r).calAttempt = 0 := by
  unfold State.region tabGet
  cases hget : tabGet? s.die.spine.regions r with
  | none => rfl
  | some g => exact h _ (mem_of_tabGet? hget)

theorem State.noRepeats_updRegion {s : State} {r : Nat} {f : RegionSt → RegionSt} (h : s.noRepeats)
    (hf : (f (s.region r)).calAttempt = 0) : (s.updRegion r f).noRepeats := by
  intro e he
  rcases mem_tabSet he with rfl | hmem
  · exact hf
  · exact h e hmem

/-- Without a repeat a run measures all 16 regions (R103). -/
theorem State.calRegions_of_noRepeats {s : State} (h : s.noRepeats) : s.calRegions = List.range 16 := by
  simp [State.calRegions, State.noRepeats_region h]

/-- Accepted values are kept until they may take effect (R103). -/
def RegionSt.keepCal (g : RegionSt) (c : RegionCal) : RegionSt := { g with calNext := some (calValues c), calAttempt := 0 }

/-- A first result of a region that is accepted is kept, and nothing else changes (R103). -/
theorem State.takeCal_accepted {s : State} {c : RegionCal} (hacc : calAccept c = true) (hrep : s.noRepeats) :
    s.takeCal c = s.updRegion c.region fun g => g.keepCal c := by
  simp [State.takeCal, hacc, State.noRepeats_region hrep, RegionSt.keepCal]

/-- The two states differ at most in the regions' crossings. -/
def State.sameButRegions (s t : State) : Prop := t = { s with die.spine.regions := t.die.spine.regions }

/-- The results of a run that are all accepted are each kept for their region; nothing else changes, and no region waits for
a repeat (R103). -/
theorem State.takeCals_accepted {s : State} {l : List RegionCal} (hnodup : (l.map (·.region)).Nodup)
    (hacc : ∀ c ∈ l, calAccept c = true) (hrep : s.noRepeats) :
    s.sameButRegions (l.foldl State.takeCal s) ∧ (l.foldl State.takeCal s).noRepeats
      ∧ (∀ r ∉ l.map (·.region), (l.foldl State.takeCal s).region r = s.region r)
      ∧ ∀ c ∈ l, ((l.foldl State.takeCal s).region c.region).calNext = some (calValues c) := by
  induction l generalizing s with
  | nil => exact ⟨rfl, hrep, fun _ _ => rfl, by simp⟩
  | cons c cs ih =>
    rw [List.map_cons, List.nodup_cons] at hnodup
    obtain ⟨hnew, hnodup⟩ := hnodup
    obtain ⟨hc, hcs⟩ := List.forall_mem_cons.mp hacc
    rw [List.foldl_cons, State.takeCal_accepted hc hrep]
    obtain ⟨hsame, hnone, hother, hkept⟩ :=
      ih (s := s.updRegion c.region fun g => g.keepCal c) hnodup hcs (State.noRepeats_updRegion hrep rfl)
    refine ⟨hsame, hnone, fun r hr => ?_, fun d hd => ?_⟩
    · rw [List.map_cons, List.mem_cons, not_or] at hr
      rw [hother r hr.2, State.updRegion_region_other _ _ hr.1]
    · rcases List.mem_cons.mp hd with rfl | hmem
      · rw [hother _ hnew, State.updRegion_region_same]
        rfl
      · exact hkept d hmem

/-- When no strobe is near, kept values take effect in each region (R103). -/
theorem State.applyCals_region {s : State} (h : s.calMayApply = true) (r : Nat) :
    s.applyCals.region r = (s.region r).applyCal := by
  rw [State.applyCals, if_pos h]
  simp only [State.region, State.dieUpd, tabGet, tabGet?_map]
  cases tabGet? s.die.spine.regions r <;> rfl

/-- Values that take effect. -/
theorem RegionSt.applyCal_of_kept {g : RegionSt} {v : Int × Int × Int} (h : g.calNext = some v) :
    g.applyCal.strobeDlyFs = v.1 ∧ g.applyCal.spineDlyFs = v.2.1 ∧ g.applyCal.stepFs = v.2.2 ∧ g.applyCal.calOk = true := by
  simp [RegionSt.applyCal, h]

/-- Nothing but the regions changes when kept values take effect. -/
theorem State.applyCals_spine (s : State) :
    s.applyCals.die.spine.calRun = s.die.spine.calRun ∧ s.applyCals.die.spine.calNs = s.die.spine.calNs := by
  unfold State.applyCals
  split <;> exact ⟨rfl, rfl⟩

/-- A run of the spine calibration whose results are all accepted ends, and its values take effect (R102, R103). -/
theorem spineCalRunComplete_accepts {s : State} {l : List RegionCal} (hrun : s.die.spine.calRun = true)
    (hfast : s.tsu.clk.running = true) (hchan : s.spineChanReady = true) (hall : l.map (·.region) = List.range 16)
    (hacc : ∀ c ∈ l, calAccept c = true) (hrep : s.noRepeats) (hmay : s.calMayApply = true) :
    Answers (.spineCalRunComplete l) s fun t =>
      (∀ c ∈ l, (t.region c.region).strobeDlyFs = (calValues c).1 ∧ (t.region c.region).spineDlyFs = (calValues c).2.1
          ∧ (t.region c.region).stepFs = (calValues c).2.2 ∧ (t.region c.region).calOk = true)
        ∧ t.die.spine.calRun = false ∧ t.die.spine.calNs = s.ns .tsu ∧ t.tsu.time = s.tsu.time ∧ t.tsu.ports = s.tsu.ports
        ∧ t.tsu.tdc = s.tsu.tdc ∧ s.samePhi t ∧ t.out = s.out := by
  obtain ⟨u, hu⟩ : ∃ u, u = s.count .tsu 0x0201 ((s.tdcFor .tsu 32).getD 32) (2048 * l.length) := ⟨_, rfl⟩
  have hurep : u.noRepeats := by simpa [hu, State.noRepeats] using hrep
  obtain ⟨hsame, hnone, -, hkept⟩ := State.takeCals_accepted (s := u) (hall ▸ List.nodup_range) hacc hurep
  obtain ⟨v, hv⟩ : ∃ v, v = l.foldl State.takeCal u := ⟨_, rfl⟩
  rw [← hv] at hsame hnone hkept
  have hagain : (v.die.spine.regions.any fun e => e.2.calAttempt == 1) = false := by
    rw [List.any_eq_false]
    intro e he
    simp [hnone e he]
  have hexec : exec (.spineCalRunComplete l) s = .next (v.dieUpd fun d =>
      { d with spine.calRun := false, spine.calNs := v.ns .tsu, spine.calTemp := v.tsu.tdc.temp }).applyCals := by
    show execSpineCalRunComplete l s = _
    simp only [execSpineCalRunComplete, hrun, hfast, hchan, hall, State.calRegions_of_noRepeats hrep, ← hu, ← hv, hagain]
    rfl
  obtain ⟨w, hw⟩ : ∃ w, w = v.dieUpd fun d =>
      { d with spine.calRun := false, spine.calNs := v.ns .tsu, spine.calTemp := v.tsu.tdc.temp } := ⟨_, rfl⟩
  rw [← hw] at hexec
  have hmayw : w.calMayApply = true := by
    rw [hw, hsame, hu]
    exact hmay
  obtain ⟨hcalRun, hcalNs⟩ := w.applyCals_spine
  refine ⟨_, hexec, fun c hc => ?_, by rw [hcalRun, hw]; rfl, ?_, ?_, ?_, ?_, ?_, ?_⟩
  · rw [State.applyCals_region hmayw, State.region_of_regions (s := v) (by rw [hw]; rfl)]
    exact RegionSt.applyCal_of_kept (hkept c hc)
  · rw [hcalNs, hw, hsame, hu]
    simp [State.dieUpd, State.ns]
  all_goals
    rw [hw, hsame, hu]
    simp [State.dieUpd, State.samePhi]

/-- The periodic calibration of the spine begins when it is due, and at no other time (R103). -/
theorem spineRecalTimer_fires (s : State) :
    Fires .spineRecalTimer s (s.spineRecalS ≠ 0 ∧ s.die.spine.calRun = false ∧ s.spineChan = true
        ∧ (s.ns .tsu - s.die.spine.calNs).toInt ≥ 1000000000 * (s.spineRecalS : Int)) fun t =>
      t.die.spine.calRun = true ∧ t.tsu = s.tsu ∧ s.samePhi t ∧ t.out = s.out := by
  have hcond : (s.spineRecalS ≠ 0 ∧ s.die.spine.calRun = false ∧ s.spineChan = true
        ∧ (s.ns .tsu - s.die.spine.calNs).toInt ≥ 1000000000 * (s.spineRecalS : Int))
      ↔ (s.spineRecalS != 0 && !s.die.spine.calRun && s.spineChan
          && elapsed (s.ns .tsu) s.die.spine.calNs (sec s.spineRecalS)) = true := by
    simp [elapsed, nsDiff, sec, and_assoc]
  have hexec : exec .spineRecalTimer s = whenever _ s (s.dieUpd fun d => { d with spine.calRun := true }) := rfl
  rw [hcond, Fires, Answers, hexec]
  refine ⟨fun hdue => ⟨s.dieUpd fun d => { d with spine.calRun := true }, by rw [hdue]; rfl, rfl, rfl, ⟨rfl, rfl, rfl⟩, rfl⟩,
    fun hnot => ?_⟩
  rw [whenever, if_neg hnot]

/-- Settles O16: each clause by the event's own lemma on its region, its FIFO or the spine calibration. -/
theorem spineAndRegions : Obligations.SpineAndRegions := by
  unfold Obligations.SpineAndRegions
  exact ⟨fun s r => spineParity_counts, fun s r c => coreHtRead_reads r c, regionPowerChange_exempts,
    fun s r n => stretchEvent_adds s r, fun s l => spineCalRunComplete_accepts, spineRecalTimer_fires,
    fun s r e es => regionFifoConsume_wakes, fun s r e l => regionFifoConsume_strobes, fun s r e es => crossingSlip_marks⟩

end Sys2Proof.Machine

/-!
PROOFS. The strobe of a launch (R104, R151, R162, R164, R168): the decision and the delay line, `DONE`, what an `ABORT` leaves of the
basins and the kept frame keys while it is applied, and the commit of a strobed step.
-/

namespace Sys2Proof.Machine

/-! ### Decision and strobe -/

/-- The one launch of a die changed. -/
theorem State.updLaunch_single {s : State} {l : Launch} (h : s.die.launches = [l]) (f : Launch → Launch) :
    (s.updLaunch l f).die.launches = [f l] := by
  simp [State.updLaunch, State.dieUpd, h]

/-- At the decision point a committed launch that names cores is settled (R164). -/
theorem strobeDecision_settles {s : State} {l : Launch} (hone : s.die.launches = [l]) (harmed : l.phase = .armed)
    (hcom : l.committed = true) (hmask : l.mask ≠ 0) (hok : s.launchOk l.lNs = true)
    (htime : (s.ns .tsu - nsAdd l.lNs (-128)).toInt ≥ 0) : Answers (.strobeDecision l.lNs) s fun t =>
      t.die.launches = [{ l with phase := .decided }] ∧ t.tsu = s.tsu ∧ t.out = s.out ∧ s.samePhi t := by
  have hreached : reached (s.ns .tsu) (nsAdd l.lNs (-128)) = true := decide_eq_true htime
  have hdue : s.die.launches.filter (fun l' => l'.phase == .armed && l'.committed && l'.lNs == l.lNs) = [l] := by
    simp [hone, harmed, hcom]
  show gives (execStrobeDecision l.lNs s) _
  simp only [execStrobeDecision, hreached, hdue, List.foldl_cons, List.foldl_nil, hok, hmask]
  exact ⟨_, rfl, State.updLaunch_single hone _, rfl, rfl, rfl, rfl, rfl⟩

/-- Marking the one launch of a die as strobed. -/
theorem State.markStrobed_single {s : State} {l : Launch} (h : s.die.launches = [l]) :
    (s.markStrobed l).die.launches = [{ l with phase := .strobed }] := State.updLaunch_single h _

@[simp] theorem State.markStrobed_region (s : State) (l : Launch) (r : Nat) : (s.markStrobed l).region r = s.region r := rfl

/-- The settled launch of a bell goes out as one strobe into a region of its cores (R104, R164). -/
theorem delayLineFire_strobes {s : State} {r : Nat} {l : Launch} (hone : s.die.launches = [l]) (hdec : l.phase = .decided)
    (hr : r ∈ s.regionsOf l.mask) (hprox : s.die.sync.proxies = []) (hfast : s.tsu.clk.fast = true)
    (hconf : s.tsu.configured = true) (hnew : (s.region r).fired ≠ some l.lNs)
    (htime : (s.ns .tsu - nsAdd l.lNs (-((leadSplit (s.region r).strobeDlyFs (s.region r).stepFs).1 : Int))).toInt ≥ 0) :
    Answers (.delayLineFire r l.lNs) s fun t =>
      t.out = s.out ++ [.delayLine r (leadSplit (s.region r).strobeDlyFs (s.region r).stepFs).1
          (leadSplit (s.region r).strobeDlyFs (s.region r).stepFs).2 l.lNs]
        ∧ t.die.launches = [{ l with phase := .strobed }] ∧ (t.region r).fired = some l.lNs ∧ t.tsu.time = s.tsu.time
        ∧ s.samePhi t := by
  have hreached : reached (s.ns .tsu) (nsAdd l.lNs (-((leadSplit (s.region r).strobeDlyFs (s.region r).stepFs).1 : Int))) = true :=
    decide_eq_true htime
  have hedges : s.edgesAt r l.lNs = [] := by simp [State.edgesAt, hprox]
  have hmine : s.die.launches.filter (fun l' => l'.phase != .armed && l'.lNs == l.lNs && r ∈ s.regionsOf l'.mask) = [l] := by
    simp [hone, hdec, hr]
  obtain ⟨u, hu⟩ : ∃ u, u = ((((s.updRegion r fun g => { g with fired := some l.lNs }).emit
      (.delayLine r (leadSplit (s.region r).strobeDlyFs (s.region r).stepFs).1
        (leadSplit (s.region r).strobeDlyFs (s.region r).stepFs).2 l.lNs)).pushEntry r
      { wAcc := (l.lNs.setWidth 112) <<< 48, bell := some l.lNs, launch := true, edges := [], wakes := [] }).count
      .tsu 0x0403 r 1) := ⟨_, rfl⟩
  have hexec : exec (.delayLineFire r l.lNs) s = .next (u.markStrobed l) := by
    show execDelayLineFire r l.lNs s = _
    simp [execDelayLineFire, hmine, hedges, hfast, hconf, hnew, hreached, hdec, hu]
  have hlaunches : u.die.launches = [l] := by simp [hu, hone]
  refine ⟨_, hexec, ?_, State.markStrobed_single hlaunches, ?_, ?_, ?_⟩
  · simp [hu, State.emit]
  · simp [hu, State.pushEntry]
  · simp [hu]
  · simp [hu, State.samePhi]

/-! ### The end of a slot -/

/-- A slot that is `STARTED` or `ABORTED` becomes `EMPTY` at `DONE`, and no other slot changes (R162). -/
theorem slotDoneWrite_empties {s : State} {core slot : Nat} (hslot : slot < 4)
    (hopen : (s.slot core slot).state = .started ∨ (s.slot core slot).state = .aborted) :
    Answers (.slotDoneWrite core slot) s fun t =>
      (t.slot core slot).state = .empty ∧ (∀ k, k ≠ 4 * core + slot → tabGet? t.die.slots k = tabGet? s.die.slots k)
        ∧ t.tsu = s.tsu ∧ t.out = s.out ∧ s.samePhi t := by
  have hdone : ((s.slot core slot).state == .empty || (s.slot core slot).state == .armed || slot ≥ 4) = false := by
    rcases hopen with h | h <;> simp [h, hslot]
  have hexec : ∃ t, exec (.slotDoneWrite core slot) s = .next t
      ∧ t.die.slots = tabSet s.die.slots (4 * core + slot) { s.slot core slot with state := .empty } ∧ t.tsu = s.tsu
      ∧ t.out = s.out ∧ s.samePhi t := by
    show gives (execSlotDoneWrite core slot s) _
    simp only [execSlotDoneWrite, hdone]
    refine ⟨_, rfl, ?_⟩
    split <;> split <;> exact ⟨rfl, rfl, rfl, rfl, rfl, rfl⟩
  obtain ⟨t, hexec, hslots, hrest⟩ := hexec
  refine ⟨t, hexec, ?_, fun k hk => ?_, hrest⟩
  · rw [State.slot, hslots, tabGet_set_same]
  · rw [hslots, tabGet?_set_other _ _ hk]

/-! ### What applying an `ABORT` leaves alone -/

theorem State.samePhi_trans {s t u : State} (h : s.samePhi t) (h' : t.samePhi u) : s.samePhi u := by
  obtain ⟨hp, hh, hm⟩ := h
  obtain ⟨hp', hh', hm'⟩ := h'
  exact ⟨hp'.trans hp, hh'.trans hh, hm'.trans hm⟩

/-- The two states have the same basins, the same keys of frames kept at the TSU, the same time there, and the same Phidor. -/
def State.sameWave (s t : State) : Prop :=
  t.die.basins = s.die.basins ∧ t.tsu.keys = s.tsu.keys ∧ t.tsu.time = s.tsu.time ∧ s.samePhi t

theorem State.sameWave_rfl (s : State) : s.sameWave s := ⟨rfl, rfl, rfl, rfl, rfl, rfl⟩

theorem State.sameWave_trans {s t u : State} (h : s.sameWave t) (h' : t.sameWave u) : s.sameWave u := by
  obtain ⟨hb, hk, ht, hphi⟩ := h
  obtain ⟨hb', hk', ht', hphi'⟩ := h'
  exact ⟨hb'.trans hb, hk'.trans hk, ht'.trans ht, State.samePhi_trans hphi hphi'⟩

/-- A basin's entry is among what the wave shares. -/
theorem State.sameWave_basin? {s t : State} (h : s.sameWave t) (b : Nat) : t.basin? b = s.basin? b := by
  rw [State.basin?, State.basin?, h.1]

/-- Steps that each leave the wave alone do so together. -/
theorem State.sameWave_foldl {α : Type} (l : List α) {f : State → α → State} (s : State)
    (h : ∀ (s : State) a, s.sameWave (f s a)) : s.sameWave (l.foldl f s) := by
  induction l generalizing s with
  | nil => exact s.sameWave_rfl
  | cons a l ih => exact State.sameWave_trans (h s a) (ih _)

/-- A choice between two states leaves the wave alone when each does. -/
theorem State.sameWave_ite {s t u : State} (c : Prop) [Decidable c] (ht : s.sameWave t) (hu : s.sameWave u) :
    s.sameWave (if c then t else u) := by
  split <;> assumption

/-- A change of the die that leaves the basins. -/
theorem State.sameWave_dieUpd (s : State) {f : DieSt → DieSt} (h : (f s.die).basins = s.die.basins) : s.sameWave (s.dieUpd f) :=
  ⟨h, rfl, rfl, rfl, rfl, rfl⟩

theorem State.sameWave_thenDie {s t : State} {f : DieSt → DieSt} (h : s.sameWave t) (hf : (f t.die).basins = t.die.basins) :
    s.sameWave (t.dieUpd f) := State.sameWave_trans h (t.sameWave_dieUpd hf)

theorem State.sameWave_syncUpd (s : State) (f : SyncSt → SyncSt) : s.sameWave (s.syncUpd f) := s.sameWave_dieUpd rfl

theorem State.sameWave_count (s : State) (event inst n : Nat) : s.sameWave (s.count .tsu event inst n) :=
  ⟨rfl, rfl, rfl, rfl, rfl, rfl⟩

theorem State.sameWave_record (s : State) (cause : Cause) (detail : Nat) : s.sameWave (s.record .tsu cause detail) :=
  ⟨by simp, by simp, by simp, by simp, by simp, by simp⟩

theorem State.sameWave_finish (s : State) (i idx : Nat) (st : Status) (cause : W16) (result : W64) :
    s.sameWave (s.finish .tsu i idx st cause result) := by
  refine ⟨by simp, by simp, by simp, by simp, ?_, by simp⟩
  unfold State.finish
  split <;> simp

theorem State.sameWave_dma (s : State) (addr : Nat) (data : List Byte) : s.sameWave (s.dma .tsu addr data) :=
  State.sameWave_ite _ s.sameWave_rfl ⟨rfl, rfl, rfl, rfl, rfl, rfl⟩

/-- Wakes go to the FIFOs of the regions (R100). -/
theorem State.sameWave_wakes (s : State) (ws : List WakeRef) : s.sameWave (s.wakes ws) := by
  refine State.sameWave_ite _ s.sameWave_rfl (State.sameWave_trans (s.sameWave_count _ _ _) (State.sameWave_foldl _ _ ?_))
  intro s r
  split
  · exact s.sameWave_rfl
  · exact s.sameWave_dieUpd rfl

/-- Waits that end answer by wakes, or by responses and completions of the host's rings (R194, R208). -/
theorem State.sameWave_endWaits (s : State) (st : Status) (cause : W16) (ws : List WakeRef) (l : List (Nat × W32)) :
    s.sameWave (s.endWaits st cause ws l) := by
  induction l generalizing s ws with
  | nil => exact s.sameWave_wakes ws
  | cons e r ih =>
    obtain ⟨k, v⟩ := e
    rw [State.endWaits]
    split
    · exact ih _ _
    · have hdrop : s.sameWave (if st = .ok then
          (s.syncUpd fun y => { y with waiters := tabDel y.waiters k }).count .tsu 0x0501 0 1
          else s.syncUpd fun y => { y with waiters := tabDel y.waiters k }) :=
        State.sameWave_ite _ (State.sameWave_trans (s.sameWave_syncUpd _) (State.sameWave_count _ _ _ _)) (s.sameWave_syncUpd _)
      dsimp only
      split
      · exact State.sameWave_trans hdrop (State.sameWave_trans (State.sameWave_dma _ _ _)
          (State.sameWave_trans (State.sameWave_finish _ _ _ _ _ _) (ih _ _)))
      · exact State.sameWave_trans hdrop (ih _ _)

theorem State.sameWave_endTogether (s : State) (st : Status) (cause : W16) (l : List (Nat × W32)) :
    s.sameWave (s.endTogether st cause l) := s.sameWave_endWaits _ _ _ _

theorem State.sameWave_failWaits (s : State) (st : Status) (cause : W16) (ks : List Nat) :
    s.sameWave (s.failWaits st cause ks) :=
  State.sameWave_trans (t := { s with freeNext := s.freeNext + ks.length }) ⟨rfl, rfl, rfl, rfl, rfl, rfl⟩
    (State.sameWave_endTogether _ _ _ _)

/-- A proxy whose open use is cancelled (R206). -/
theorem State.sameWave_cancelProxy (s : State) (p : Nat) (cause : W16) : s.sameWave (s.cancelProxy p cause) :=
  State.sameWave_trans (s.sameWave_failWaits _ _ _) (State.sameWave_syncUpd _ _)

/-- A flag that is set, and the waits on it (R185). -/
theorem State.sameWave_setFlag (s : State) (i : Nat) : s.sameWave (s.setFlag i) :=
  State.sameWave_trans (s.sameWave_syncUpd _)
    (State.sameWave_ite _ (State.sameWave_endTogether _ _ _ _) (State.sameWave_rfl _))

/-- A weighbridge operation that ends (R226, R246). -/
theorem State.sameWave_endWb (s : State) (o : WbOp) (st : Status) (cause : W16) : s.sameWave (s.endWb o st cause) := by
  refine State.sameWave_ite _ (State.sameWave_trans ?_ (State.sameWave_setFlag _ _)) ?_ <;> exact ⟨rfl, rfl, rfl, rfl, rfl, rfl⟩

theorem State.sameWave_endWbs (s : State) (st : Status) (cause : W16) (l : List WbOp) : s.sameWave (s.endWbs st cause l) := by
  induction l generalizing s with
  | nil => exact s.sameWave_rfl
  | cons o os ih => exact State.sameWave_trans (s.sameWave_endWb o st cause) (ih _)

theorem State.sameWave_abortJudged (s : State) : s.sameWave s.abortJudged := by
  refine State.sameWave_trans ?_ (State.sameWave_foldl _ _ fun s _ => s.sameWave_finish _ _ _ _ _)
  exact s.sameWave_dieUpd rfl

theorem State.sameWave_writeDigest (s : State) (b g : Nat) (step : StepNo) (cores : Nat) (rollback : Bool) (v : List Byte) :
    s.sameWave (s.writeDigest b g step cores rollback v) := by
  refine State.sameWave_ite _ s.sameWave_rfl (State.sameWave_thenDie ?_ rfl)
  exact State.sameWave_trans (s.sameWave_dma _ _) (State.sameWave_dma _ _ _)

/-- The digest chain of an aborted basin (R391). -/
theorem State.sameWave_rollDigests (s : State) (b g : Nat) (j : StepNo) : s.sameWave (s.rollDigests b g j) := by
  unfold State.rollDigests
  split
  · exact s.sameWave_rfl
  · refine State.sameWave_ite _ ?_ (State.sameWave_trans ?_ (State.sameWave_writeDigest _ _ _ _ _ _ _)) <;>
      exact s.sameWave_dieUpd rfl

theorem State.sameWave_disarm (s : State) (l : Launch) : s.sameWave (s.disarm l) := ⟨rfl, rfl, rfl, rfl, rfl, rfl⟩

theorem State.sameWave_mapSlots (s : State) (c : Slot → Bool) (f : Slot → Slot) : s.sameWave (s.mapSlots c f) :=
  ⟨rfl, rfl, rfl, rfl, rfl, rfl⟩

theorem State.sameWave_notify (s : State) (b g : Nat) (j : StepNo) (c : Nat) : s.sameWave (s.notify b g j c) :=
  ⟨rfl, rfl, rfl, rfl, rfl, rfl⟩

theorem State.sameWave_gateAbort (s : State) (b g : Nat) (f : LaunchPl) : s.sameWave (s.gateAbort b g f) := by
  unfold State.gateAbort
  refine State.sameWave_ite _ (State.sameWave_foldl _ _ fun s p => ?_) s.sameWave_rfl
  exact State.sameWave_ite _ (s.sameWave_record _ _) s.sameWave_rfl

theorem State.sameWave_queueFrame (s : State) (port : Nat) (basin : BitVec 12) (gen : W16) (pl : Payload) :
    s.sameWave (s.queueFrame .tsu port basin gen pl) :=
  ⟨by simp, by simp, by simp, State.queueFrame_keeps_tsu _ _ _ _ _, by simp, by simp⟩

/-! ### An `ABORT` -/

/-- What the TSU does for an `ABORT` to the launches, slots and cores of the basin before its entry changes (R168, R204). -/
def State.abortLaunches (s : State) (b g : Nat) (f : LaunchPl) : State :=
  let j := f.lastStep
  let s := s.count .tsu 0x0405 0 1
  let s := s.gateAbort b g f
  let gone := s.die.launches.filter (fun l => l.basin == b && l.gen == g && l.phase == .armed && stepLater l.step j)
  let s := gone.foldl (fun s l => s.disarm l) s
  let s := s.dieUpd fun d =>
    { d with launches := d.launches.map (fun l =>
               if l.basin = b ∧ l.gen = g ∧ stepLater l.step j then { l with aborted := true } else l),
             fetches := d.fetches.filter (fun l => !(l.basin == b && l.gen == g && stepLater l.step j)),
             dig.engines := d.dig.engines.filter (fun e => !(e.basin == b && e.gen == g && stepLater e.step j)) }
  let s := s.mapSlots (fun y => y.basin == b && y.gen == g && stepLater y.step j
    && (y.state == .started || y.state == .armed)) (fun y => { y with state := .aborted })
  let cores := s.ownedCores b
  (cores.foldl (fun s c => s.notify b g j c) s).wakes (cores.map (fun c => { core := c, ctx := 8, status := 0, value := 0 }))

theorem State.sameWave_abortLaunches (s : State) (b g : Nat) (f : LaunchPl) : s.sameWave (s.abortLaunches b g f) := by
  refine State.sameWave_trans ?_ (State.sameWave_wakes _ _)
  refine State.sameWave_trans ?_ (State.sameWave_foldl _ _ fun s c => s.sameWave_notify _ _ _ _)
  refine State.sameWave_trans ?_ (State.sameWave_mapSlots _ _ _)
  refine State.sameWave_thenDie (State.sameWave_trans ?_ (State.sameWave_foldl _ _ fun s l => s.sameWave_disarm l)) rfl
  exact State.sameWave_trans (s.sameWave_count _ _ _) (State.sameWave_gateAbort _ b g f)

/-- The entry of a basin after an `ABORT` applied now, with those applied before that still count (R168, R180). -/
def BasinSt.aborted (x : BasinSt) (recent : List (StepNo × W64)) (f : LaunchPl) (now : W64) : BasinSt :=
  let j := f.lastStep
  { x with applied := recent ++ [(j, now)], aborts := satNat 32 (x.aborts + 1), lastRollback := j,
           lastCause := f.cause, lastOrigin := f.origin,
           committed := x.committed.filter (fun n => !stepLater n j),
           undone := x.undone ++ (x.strobed.map (·.1)).filter (fun n => stepLater n j) }

/-- What the TSU does for an `ABORT` to the gates, the weighbridge and the digests after its entry has changed (R206, R246, R391). -/
def State.abortObjects (s : State) (b g : Nat) (f : LaunchPl) : State :=
  let s := (s.proxiesOf b g).foldl (fun s p => s.cancelProxy p f.cause) s
  let s := s.endWbs .aborted f.cause (s.die.wbOps.filter (fun o => o.basin == b && o.gen == g && stepLater o.step f.lastStep))
  s.abortJudged.rollDigests b g f.lastStep

theorem State.sameWave_abortObjects (s : State) (b g : Nat) (f : LaunchPl) : s.sameWave (s.abortObjects b g f) :=
  State.sameWave_trans (State.sameWave_foldl _ _ fun s p => s.sameWave_cancelProxy p _)
    (State.sameWave_trans (State.sameWave_endWbs _ _ _ _)
      (State.sameWave_trans (State.sameWave_abortJudged _) (State.sameWave_rollDigests _ _ _ _)))

/-- The keys of `ANNOUNCE` and `COMMIT` frames of the steps that an `ABORT` undoes are forgotten (R172). -/
def State.dropAbortedKeys (s : State) (b g : Nat) (j : StepNo) : State :=
  s.upd .tsu fun c => { c with
    keys := c.keys.filter (fun k => !(k.basin == b && k.gen == g && (k.kind == 0 || k.kind == 1) && stepLater k.step j)) }

/-- The `ABORT`s of a basin that count for a later one: those of the last 100 us (R168). -/
def BasinSt.recentAborts (x : BasinSt) (now : W64) : List (StepNo × W64) := x.applied.filter fun a => !elapsed now a.2 (us 100)

/-- An `ABORT` at or above a recent one changes nothing; any other is applied to the launches, the entry and keys, and the objects of
its basin (R168). -/
theorem State.applyAbort_eq {s : State} {b : Nat} {x : BasinSt} (g : Nat) (f : LaunchPl) (hx : s.basin? b = some x) :
    s.applyAbort b g f = if (x.recentAborts (s.ns .tsu)).any fun a => stepFrom f.lastStep a.1 then s else
      (((s.abortLaunches b g f).updBasin b fun y => y.aborted (x.recentAborts (s.ns .tsu)) f (s.ns .tsu)).dropAbortedKeys b g
        f.lastStep).abortObjects b g f := by
  rw [State.applyAbort, hx]
  rfl

/-- A basin entry changed. -/
theorem State.updBasin_basin? (s : State) (b : Nat) (f : BasinSt → BasinSt) : (s.updBasin b f).basin? b = (s.basin? b).map f := by
  rw [State.basin?, State.updBasin, State.dieUpd, tabGet?_adj, if_pos rfl]
  rfl

/-- A first `ABORT` of a basin marks its entry, and keeps the keys of `ABORT` frames, the time and the Phidor (R168, R172). -/
theorem State.applyAbort_marks {s : State} {b : Nat} {x : BasinSt} (g : Nat) (f : LaunchPl) (hx : s.basin? b = some x)
    (hnone : x.applied = []) :
    (s.applyAbort b g f).basin? b = some (x.aborted [] f (s.ns .tsu))
      ∧ (∀ k ∈ s.tsu.keys, k.kind = 2 → k ∈ (s.applyAbort b g f).tsu.keys)
      ∧ (s.applyAbort b g f).tsu.time = s.tsu.time ∧ s.samePhi (s.applyAbort b g f) := by
  have hrecent : x.recentAborts (s.ns .tsu) = [] := by simp [BasinSt.recentAborts, hnone]
  rw [State.applyAbort_eq g f hx, hrecent, List.any_nil, if_neg Bool.false_ne_true]
  obtain ⟨u, hu⟩ : ∃ u, u = (s.abortLaunches b g f).updBasin b fun y => y.aborted [] f (s.ns .tsu) := ⟨_, rfl⟩
  have hlaunches := s.sameWave_abortLaunches b g f
  have hobjects := (u.dropAbortedKeys b g f.lastStep).sameWave_abortObjects b g f
  have hbasin := State.sameWave_basin? hlaunches b
  have hbasin' := State.sameWave_basin? hobjects b
  obtain ⟨-, hkeys, htime, hphi, hhub, hmdl⟩ := hlaunches
  obtain ⟨-, hkeys', htime', hphi', hhub', hmdl'⟩ := hobjects
  rw [← hu]
  refine ⟨?_, fun k hk hkind => ?_, ?_, ?_, ?_, ?_⟩
  · have hentry : u.basin? b = some (x.aborted [] f (s.ns .tsu)) := by
      rw [hu, State.updBasin_basin?, hbasin, hx, Option.map_some]
    exact hbasin'.trans hentry
  · rw [hkeys', State.dropAbortedKeys]
    simp [hu, hkeys, hk, hkind]
  · rw [htime', ← htime, hu]; rfl
  · rw [hphi', ← hphi, hu]; rfl
  · rw [hhub', ← hhub, hu]; rfl
  · rw [hmdl', ← hmdl, hu]; rfl

/-- A reliable frame in order is taken, and brings no change but to what its port and the counters hold (R47). -/
theorem State.rxReliable_inOrder {s : State} {p : Part} {port : Nat} {e : Env} (h : s.inOrder p port e) :
    (s.rxReliable p port e).1 = true := by
  obtain ⟨hup, hwait, hseq, -⟩ := h
  simp [State.rxReliable, hup, hwait, hseq]

/-- The state in which a new `ABORT` is applied: its frame is taken in order by its engine, and its key is kept (R47, R172, R371). -/
def State.abortTaken (s : State) (port : Nat) (e : Env) (f : LaunchPl) : State :=
  ((s.rxReliable .tsu port e).2.take .tsu 2).addKey .tsu e.basin.toNat e.gen.toNat f.step 2 f.bell (nsAdd (s.ns .tsu) (us 100))

/-- What the receipt of an `ABORT` leaves: the die, the time of the TSU and the Phidor; and its key is kept (R172). -/
theorem State.abortTaken_keeps (s : State) (port : Nat) (e : Env) (f : LaunchPl) :
    (s.abortTaken port e f).die = s.die ∧ (s.abortTaken port e f).tsu.time = s.tsu.time ∧ s.samePhi (s.abortTaken port e f)
    ∧ ∃ k ∈ (s.abortTaken port e f).tsu.keys,
        k.basin = e.basin.toNat ∧ k.gen = e.gen.toNat ∧ k.step = f.step ∧ k.kind = 2 :=
  ⟨by simp [State.abortTaken, State.addKey, State.take], by simp [State.abortTaken, State.addKey, State.take],
    by simp [State.abortTaken, State.addKey, State.take, State.samePhi], _, List.mem_cons_self, rfl, rfl, rfl, rfl⟩

/-- A new `ABORT` for a basin that the die holds is applied, and goes up the other port (R167, R168, R172). -/
theorem exec_abortReceive {s : State} {port : Nat} {e : Env} {f : LaunchPl} {x : BasinSt} (hin : s.inOrder .tsu port e)
    (hopen : s.engineShut .tsu 2 = false) (hx : s.basin? e.basin.toNat = some x) (hgen : x.gen = e.gen.toNat)
    (hkey : s.key? .tsu e.basin.toNat e.gen.toNat f.step 2 = none) :
    exec (.abortReceive port e f) s = .next (((s.abortTaken port e f).applyAbort e.basin.toNat e.gen.toNat f).queueFrame .tsu
      (otherPort port) e.basin e.gen (.abort f)) := by
  obtain ⟨u, hu⟩ : ∃ u, u = (s.rxReliable .tsu port e).2 := ⟨_, rfl⟩
  have hdie : u.die = s.die := by simp [hu]
  have htime : u.tsu.time = s.tsu.time := by simp [hu]
  have hkeys : u.tsu.keys = s.tsu.keys := by simp [hu]
  have hopen' : u.engineShut .tsu 2 = false := by simpa [State.engineShut, hu] using hopen
  have hholds : (u.take .tsu 2).holds e.basin.toNat e.gen.toNat = true := by
    simp [State.holds, State.basin?, State.take, hdie, ← hgen, show tabGet? s.die.basins e.basin.toNat = some x from hx]
  have hkey' : (u.take .tsu 2).key? .tsu e.basin.toNat e.gen.toNat f.step 2 = none := by
    rw [← hkey]
    simp [State.key?, State.take, State.ns, hkeys, htime]
  show execAbortReceive port e f s = _
  rw [execAbortReceive, State.onEngine, State.onReliable_eq, if_pos (State.rxReliable_inOrder hin), ← hu]
  simp only [hopen', hholds, hkey']
  simp [State.abortTaken, State.take, State.ns, ← hu, htime]

/-- A new `ABORT`, the first of its basin, is kept by its key and noted in the basin's entry (R168, R172, R180). -/
theorem abortReceive_notes {s : State} {port : Nat} {e : Env} {f : LaunchPl} {x : BasinSt} (hin : s.inOrder .tsu port e)
    (hopen : s.engineShut .tsu 2 = false) (hx : s.basin? e.basin.toNat = some x) (hgen : x.gen = e.gen.toNat)
    (hnone : x.applied = []) (hkey : s.key? .tsu e.basin.toNat e.gen.toNat f.step 2 = none) :
    Answers (.abortReceive port e f) s fun t =>
      (∃ k ∈ t.tsu.keys, k.basin = e.basin.toNat ∧ k.gen = e.gen.toNat ∧ k.step = f.step ∧ k.kind = 2)
        ∧ (∃ y, t.basin? e.basin.toNat = some y ∧ y.lastRollback = f.lastStep ∧ y.lastCause = f.cause
            ∧ y.lastOrigin = f.origin ∧ y.aborts = satNat 32 (x.aborts + 1))
        ∧ t.tsu.time = s.tsu.time ∧ s.samePhi t := by
  obtain ⟨hdie, htime, hphi, k, hk, hbasin, hgen', hstep, hkind⟩ := s.abortTaken_keeps port e f
  have hx' : (s.abortTaken port e f).basin? e.basin.toNat = some x := by rw [State.basin?, hdie]; exact hx
  obtain ⟨hentry, hkeys, htime', hphi'⟩ := State.applyAbort_marks e.gen.toNat f hx' hnone
  have hsent := ((s.abortTaken port e f).applyAbort e.basin.toNat e.gen.toNat f).sameWave_queueFrame (otherPort port)
    e.basin e.gen (.abort f)
  have hbasins := State.sameWave_basin? hsent e.basin.toNat
  obtain ⟨-, hkeep, htimeQ, hphiQ⟩ := hsent
  exact ⟨_, exec_abortReceive hin hopen hx hgen hkey, ⟨k, hkeep ▸ hkeys k hk hkind, hbasin, hgen', hstep, hkind⟩,
    ⟨_, hbasins.trans hentry, rfl, rfl, rfl, rfl⟩, htimeQ.trans (htime'.trans htime),
    State.samePhi_trans hphi (State.samePhi_trans hphi' hphiQ)⟩

/-! ### The commit of a step -/

/-- A step that was strobed at L, is not undone and has not been counted counts as committed from L + 20 us on (R151). -/
theorem State.tsuCommit_counts {s : State} {b : Nat} {step : StepNo} {l : W64} {x : BasinSt} (hx : s.basin? b = some x)
    (hstrobed : (step, l) ∈ x.strobed) (htime : (s.ns .tsu - nsAdd l 20000).toInt ≥ 0) (hkept : step ∉ x.undone)
    (hnew : step ∉ x.committed) : (s.tsuCommit b step).basin? b = some { x with committed := x.committed ++ [step] } := by
  have hreached : (x.strobed.any fun y => y.1 == step && reached (s.ns .tsu) (nsAdd y.2 (us 20))) = true :=
    List.any_eq_true.mpr ⟨_, hstrobed, by rw [BEq.rfl]; exact decide_eq_true htime⟩
  rw [State.tsuCommit, State.updBasin_basin?, hx, Option.map_some]
  simp [hreached, hkept, hnew]

/-- The commit timer changes the die as the TSU's own count does, and nothing else of the TSU; what it settles is the Phidor's. -/
theorem stepCommitTimer_die (s : State) (b : Nat) (step : StepNo) : Answers (.stepCommitTimer b step) s fun t =>
    t.die = (s.tsuCommit b step).die ∧ t.tsu = s.tsu ∧ t.phi.time = s.phi.time ∧ t.mdl = s.mdl := by
  show gives (execStepCommitTimer b step s) _
  unfold execStepCommitTimer
  dsimp only
  split
  · exact ⟨_, rfl, rfl, rfl, rfl, rfl⟩
  · split
    · exact ⟨_, rfl, by simp, by simp, by simp, by simp⟩
    · exact ⟨_, rfl, rfl, rfl, rfl, rfl⟩

/-- Settles O18: the decision, the strobe, `DONE`, the first `ABORT` of a basin and the commit, each by its command's own lemma. -/
theorem launchStrobe : Obligations.LaunchStrobe := by
  unfold Obligations.LaunchStrobe
  refine ⟨fun s l => strobeDecision_settles, fun s r l => delayLineFire_strobes, fun s core slot => slotDoneWrite_empties,
    fun s port e f x => abortReceive_notes, fun s b step l x hx hstrobed htime hkept hnew => ?commit⟩
  case commit =>
    obtain ⟨t, hexec, hdie, hrest⟩ := stepCommitTimer_die s b step
    refine ⟨t, hexec, ?_, hrest⟩
    rw [State.basin?, hdie]
    exact State.tsuCommit_counts hx hstrobed htime hkept hnew

end Sys2Proof.Machine

/-!
PROOFS. A launch at the TSU up to its commit (R158, R163, R166, R171 to R174): the receipt of an `ANNOUNCE`, its row fetch and the arming,
the `COMMIT`, and the abort of a launch by the checks before its bell.
-/

namespace Sys2Proof.Machine

/-! ### The receipt of a launch frame -/

/-- A reliable frame in order for an engine that is open is taken by the engine (R47, R371). -/
theorem State.onEngine_inOrder {s : State} {p : Part} {n port : Nat} {e : Env} (hin : s.inOrder p port e)
    (hopen : s.engineShut p n = false) (k : State → State) :
    s.onEngine p n port e k = .next (k ((s.rxReliable p port e).2.take p n)) := by
  have hopen' : (s.rxReliable p port e).2.engineShut p n = false := by
    cases p <;> simpa [State.engineShut] using hopen
  rw [State.onEngine, State.onReliable_eq, if_pos (State.rxReliable_inOrder hin), hopen', if_neg Bool.false_ne_true]

/-- The state in which the TSU judges an `ANNOUNCE` or a `COMMIT`: its frame is taken in order by its engine, and the fast logic is woken
(R47, R91, R371). -/
def State.launchFrameTaken (s : State) (port : Nat) (e : Env) : State := ((s.rxReliable .tsu port e).2.take .tsu 2).wakeFast

/-- A wake of the fast logic leaves the kept frame keys. -/
@[simp] theorem State.wakeFast_keys (s : State) : s.wakeFast.tsu.keys = s.tsu.keys := by
  simp only [State.wakeFast]
  split
  · rfl
  · split
    · rfl
    · split <;> rfl

/-- Taking a launch frame changes nothing but its port, the clock of the TSU and what its engines and counters hold. -/
@[simp] theorem State.launchFrameTaken_keeps (s : State) (port : Nat) (e : Env) :
    (s.launchFrameTaken port e).die = s.die ∧ (s.launchFrameTaken port e).tsu.time = s.tsu.time
    ∧ (s.launchFrameTaken port e).tsu.keys = s.tsu.keys ∧ (s.launchFrameTaken port e).tsu.cfg = s.tsu.cfg
    ∧ (s.launchFrameTaken port e).out = s.out ∧ (s.launchFrameTaken port e).cyc = s.cyc
    ∧ (s.launchFrameTaken port e).phi = s.phi ∧ (s.launchFrameTaken port e).hub = s.hub
    ∧ (s.launchFrameTaken port e).mdl = s.mdl := by
  simp [State.launchFrameTaken, State.take]

/-- What a TSU holds is read from its die alone. -/
theorem State.holds_of_die {s t : State} (h : t.die = s.die) (b g : Nat) : t.holds b g = s.holds b g := by
  rw [State.holds, State.basin?, h]; rfl

/-- A kept frame key is read from the part's keys and its HT. -/
theorem State.key?_of_keys {s t : State} {p : Part} (hkeys : (t.part p).keys = (s.part p).keys)
    (htime : (t.part p).time = (s.part p).time) (b g : Nat) (step : StepNo) (kind : Nat) :
    t.key? p b g step kind = s.key? p b g step kind := by
  rw [State.key?, State.ns, hkeys, htime]; rfl

/-- The TSU holds a basin in a generation only when it has an entry of the basin. -/
theorem State.basin?_isNone_of_holds {s : State} {b g : Nat} (h : s.holds b g = true) : (s.basin? b).isNone = false := by
  unfold State.holds at h
  split at h
  · simp_all
  · exact absurd h Bool.false_ne_true

/-! ### An `ANNOUNCE` -/

/-- The row fetch that a good `ANNOUNCE` starts (R158). -/
def State.newFetch (s : State) (b g : Nat) (f : LaunchPl) (l : W64) : Fetch :=
  { basin := b, gen := g, step := f.step, bell := f.bell, lNs := l, entry := f.entry, recvNs := s.ns .tsu, recvCyc := s.cyc, fails := 0 }

/-- An `ANNOUNCE` that no check of R158 refuses starts its row fetch, and changes nothing else. -/
theorem State.judgeAnnounce_fetches {s : State} {b g : Nat} {f : LaunchPl} {l : W64} {a : Attach} (hserve : s.tsu.inService = false)
    (hholds : s.holds b g = true) (hok : s.launchOk l = true) (hready : s.regionsReady = true)
    (hearly : later (s.ns .tsu) (nsAdd l (-3000)) = false) (ha : tabGet? s.die.attaches b = some a) (hgen : a.gen = g)
    (hrow : f.entry.toNat < a.rows) :
    s.judgeAnnounce b g f l = s.dieUpd fun d => { d with fetches := d.fetches ++ [s.newFetch b g f l] } := by
  have hattached : ¬ (a.gen ≠ g ∨ f.entry.toNat ≥ a.rows) := by omega
  simp only [State.judgeAnnounce, hserve, hholds, hok, hready, hearly, ha, if_neg hattached]
  rfl

/-- A new `ANNOUNCE` of a basin that the TSU holds, its stamp near and past the abort fence, is kept by its key and judged (R21, R22, R171,
R172). -/
theorem exec_announceReceive {s : State} {port : Nat} {e : Env} {f : LaunchPl} {l : W64} (hin : s.inOrder .tsu port e)
    (hopen : s.engineShut .tsu 2 = false) (hholds : s.holds e.basin.toNat e.gen.toNat = true) (hexp : s.tsu.time.expands = true)
    (hl : expandStamp (s.ns .tsu) f.bell = l) (hnear : stampNear (s.ns .tsu) l = true) (hfence : s.fenced e.basin.toNat l = false)
    (hkey : s.key? .tsu e.basin.toNat e.gen.toNat f.step 0 = none) :
    exec (.announceReceive port e f) s = .next (((s.launchFrameTaken port e).addKey .tsu e.basin.toNat e.gen.toNat f.step 0 f.bell
      (nsAdd l (us 20))).judgeAnnounce e.basin.toNat e.gen.toNat f l) := by
  obtain ⟨hdie, htime, hkeys, -⟩ := s.launchFrameTaken_keeps port e
  have hns : (s.launchFrameTaken port e).ns .tsu = s.ns .tsu := by simp [State.ns]
  have hbasin : ((s.launchFrameTaken port e).basin? e.basin.toNat).isNone = false :=
    State.basin?_isNone_of_holds ((State.holds_of_die hdie _ _).trans hholds)
  have hfence' : (s.launchFrameTaken port e).fenced e.basin.toNat l = false := by
    rw [← hfence, State.fenced, State.basin?, hdie]; rfl
  have hkey' := (State.key?_of_keys (p := .tsu) hkeys htime e.basin.toNat e.gen.toNat f.step 0).trans hkey
  show execAnnounceReceive port e f s = _
  rw [execAnnounceReceive, State.onEngine_inOrder hin hopen]
  change Host.Outcome.next _ = _
  rw [← State.launchFrameTaken]
  simp only [hbasin, htime, hexp, hns, hl, hnear, hfence', hkey', Bool.not_true, Bool.false_eq_true, if_false]

/-- A good `ANNOUNCE` starts its row fetch (R158). -/
theorem announceReceive_fetches {s : State} {port b g : Nat} {e : Env} {f : LaunchPl} {l : W64} {a : Attach}
    (hin : s.inOrder .tsu port e) (hopen : s.engineShut .tsu 2 = false) (hb : e.basin.toNat = b) (hg : e.gen.toNat = g)
    (hserve : s.tsu.inService = false) (hholds : s.holds b g = true) (hexp : s.tsu.time.expands = true)
    (hl : expandStamp (s.ns .tsu) f.bell = l) (hnear : stampNear (s.ns .tsu) l = true) (hfence : s.fenced b l = false)
    (hkey : s.key? .tsu b g f.step 0 = none) (hok : s.launchOk l = true) (hready : s.regionsReady = true)
    (hearly : later (s.ns .tsu) (nsAdd l (-3000)) = false) (ha : tabGet? s.die.attaches b = some a) (hgen : a.gen = g)
    (hrow : f.entry.toNat < a.rows) : Answers (.announceReceive port e f) s fun t =>
      t.die.fetches = s.die.fetches ++ [s.newFetch b g f l] ∧ t.die.launches = s.die.launches ∧ t.tsu.time = s.tsu.time
        ∧ t.out = s.out ∧ s.samePhi t := by
  subst hb hg
  obtain ⟨u, hu⟩ : ∃ u, u = (s.launchFrameTaken port e).addKey .tsu e.basin.toNat e.gen.toNat f.step 0 f.bell
    (nsAdd l (us 20)) := ⟨_, rfl⟩
  have hdie : u.die = s.die := by simp [hu]
  have htime : u.tsu.time = s.tsu.time := by simp [hu]
  have hserve' : u.tsu.inService = false := by rw [← hserve, PartCore.inService, PartCore.inService]; simp [hu]
  have hholds' := (State.holds_of_die hdie e.basin.toNat e.gen.toNat).trans hholds
  have hok' : u.launchOk l = true := by rw [← hok, State.launchOk, htime]; rfl
  have hready' : u.regionsReady = true := by simpa [State.regionsReady, State.region, hdie] using hready
  have hearly' : later (u.ns .tsu) (nsAdd l (-3000)) = false := by simpa [State.ns, htime] using hearly
  have hfetch : u.newFetch e.basin.toNat e.gen.toNat f l = s.newFetch e.basin.toNat e.gen.toNat f l := by
    simp [State.newFetch, State.ns, hu]
  refine ⟨_, exec_announceReceive hin hopen hholds hexp hl hnear hfence hkey, ?_⟩
  rw [← hu, State.judgeAnnounce_fetches hserve' hholds' hok' hready' hearly' (hdie ▸ ha) hgen hrow, hfetch]
  simp [State.dieUpd, State.samePhi, hu]

/-! ### The end of a row fetch -/

/-- A fetch found is among those under way. -/
theorem State.mem_of_fetch? {s : State} {b : Nat} {step : StepNo} {x : Fetch} (h : s.fetch? b step = some x) : x ∈ s.die.fetches :=
  List.mem_of_find?_eq_some h

/-- Without a row that waits nothing is judged (R174). -/
theorem State.judgeWaiting_of_no_rows {s : State} (h : ∀ y ∈ s.die.fetches, y.row = none) (n : Nat) : s.judgeWaiting n = s := by
  cases n with
  | zero => rfl
  | succ n =>
    have hnone : s.die.fetches.find? (fun x => x.row.isSome && !s.rowWaits x) = none := by
      refine List.find?_eq_none.mpr fun y hy => ?_
      simp [h y hy]
    rw [State.judgeWaiting, hnone]

/-- The end of a fetch beside which no row waits is what its outcome makes of the state without it. -/
theorem State.endFetch_of_no_rows {s : State} (h : ∀ y ∈ s.die.fetches, y.row = none) (x : Fetch) {k : State → State}
    (hk : (k (s.dropFetch x)).die.fetches = s.die.fetches.erase x) : s.endFetch x k = k (s.dropFetch x) :=
  State.judgeWaiting_of_no_rows (fun y hy => h y (List.mem_of_mem_erase (hk ▸ hy))) _

/-- A row fetch that has taken 800 ns is dropped, and its launch answered with `TIMEOUT` (R158). -/
theorem rowFetchTimeout_drops {s : State} {b : Nat} {step : StepNo} {x : Fetch} (hx : s.fetch? b step = some x)
    (hnone : ∀ y ∈ s.die.fetches, y.row = none) (hlate : (s.ns .tsu - x.recvNs).toInt ≥ 800) :
    Answers (.rowFetchTimeout b step) s fun t =>
      t.die.fetches = s.die.fetches.erase x ∧ t.die.launches = s.die.launches ∧ t.tsu.time = s.tsu.time ∧ t.out = s.out
        ∧ s.samePhi t := by
  have hover : elapsed (s.ns .tsu) x.recvNs 800 = true := decide_eq_true hlate
  have hrow : x.row = none := hnone x (State.mem_of_fetch? hx)
  have hexec : exec (.rowFetchTimeout b step) s
      = .next ((s.dropFetch x).sendAck x.basin x.gen x.step x.bell x.entry .timeout) := by
    show execRowFetchTimeout b step s = _
    rw [execRowFetchTimeout, hx]
    simp only [whenever, hrow, hover]
    rw [State.endFetch_of_no_rows hnone x (by simp [State.dropFetch, State.dieUpd])]
    rfl
  exact ⟨_, hexec, by simp [State.dropFetch, State.dieUpd, State.samePhi]⟩

/-! ### The arming of a launch -/

/-- Writing the mailbox slots of a launch leaves the row fetches. -/
@[simp] theorem State.armSlots_fetches (s : State) (l : Launch) (cs : List Nat) :
    (s.armSlots l cs).die.fetches = s.die.fetches := by
  induction cs generalizing s with
  | nil => rfl
  | cons c cs ih =>
    rw [State.armSlots]
    split <;> exact ih _

/-- With no launch armed, a launch that is armed joins the launches; only slots, its basin's entry and the ports change besides (R158,
R162). -/
theorem State.arm_of_none_armed {s : State} (l : Launch) (hnone : s.armedLaunches = []) :
    (s.arm l).die.launches = s.die.launches ++ [l] ∧ (s.arm l).die.fetches = s.die.fetches ∧ (s.arm l).tsu.time = s.tsu.time
      ∧ (s.arm l).out = s.out ∧ s.samePhi (s.arm l) := by
  simp [State.arm, hnone, State.updBasin, State.dieUpd, State.samePhi]

/-- The launch that a row and its core set make of a fetch (R158, R160, R161). -/
def Fetch.launch (x : Fetch) (row : List Byte) (cs : CoreSet) : Launch :=
  { basin := x.basin, gen := x.gen, step := x.step, bell := x.bell, lNs := x.lNs, entry := x.entry, coreset := field row 4 1 % 64,
    mask := cs.mask, ring := cs.ring, kernel := BitVec.ofNat 32 (field row 0 4), arg := BitVec.ofNat 64 (field row 8 8),
    committed := false, checked := false, phase := .armed, aborted := false }

/-- With no launch armed, no step has one. -/
theorem State.armed?_of_none_armed {s : State} (hnone : s.armedLaunches = []) (b g : Nat) (step : StepNo) :
    s.armed? b g step = none := by
  refine List.find?_eq_none.mpr fun l hl => ?_
  have hstrobed := List.filter_eq_nil_iff.mp hnone l hl
  simp_all

/-- A valid row that names a valid core set of its basin, the cores of which are enabled and have a free slot each, arms the launch when
no other is armed (R158, R161, R162). -/
theorem State.judgeRow_arms {s : State} {x : Fetch} {row : List Byte} {cs : CoreSet} (hvalid : (byteAt row 4).getLsbD 7 = true)
    (hcs : tabGet? s.die.coresets (field row 4 1 % 64) = some cs) (hcsValid : cs.valid = true) (howner : cs.owner = x.basin)
    (hcores : (coresOf cs.mask).all s.coreEnabled = true) (hnone : s.armedLaunches = [])
    (hfree : ((coresOf cs.mask).any fun c => (s.freeSlot c).isNone) = false) : s.judgeRow x row = s.arm (x.launch row cs) := by
  have hset : tabGet ⟨0, 0, false, false⟩ s.die.coresets (field row 4 1 % 64) = cs := by rw [tabGet, hcs]; rfl
  simp only [State.judgeRow, hset, hvalid, hcsValid, howner, hcores, hnone, hfree, State.armed?_of_none_armed hnone]
  simp [Fetch.launch]

/-- A good row that comes within 800 ns arms its launch when no other is armed (R158, R162). -/
theorem launchRowFetched_arms {s : State} {b : Nat} {step : StepNo} {row : List Byte} {x : Fetch} {cs : CoreSet}
    (hx : s.fetch? b step = some x) (hrows : ∀ y ∈ s.die.fetches, y.row = none) (hwait : s.rowWaits x = false)
    (htime : (s.ns .tsu - x.recvNs).toInt ≤ 800) (hvalid : (byteAt row 4).getLsbD 7 = true)
    (hcs : tabGet? s.die.coresets (field row 4 1 % 64) = some cs) (hcsValid : cs.valid = true) (howner : cs.owner = x.basin)
    (hcores : (coresOf cs.mask).all s.coreEnabled = true) (hnone : s.armedLaunches = [])
    (hfree : ((coresOf cs.mask).any fun c => (s.freeSlot c).isNone) = false) :
    Answers (.launchRowFetched b step row true) s fun t =>
      t.die.launches = s.die.launches ++ [x.launch row cs] ∧ t.die.fetches = s.die.fetches.erase x ∧ t.tsu.time = s.tsu.time
        ∧ t.out = s.out ∧ s.samePhi t := by
  have hrow : x.row = none := hrows x (State.mem_of_fetch? hx)
  have hintime : elapsed (s.ns .tsu) x.recvNs 801 = false := decide_eq_false (by rw [nsDiff]; omega)
  have harms : (s.dropFetch x).judgeRow x row = (s.dropFetch x).arm (x.launch row cs) :=
    State.judgeRow_arms hvalid hcs hcsValid howner hcores hnone hfree
  obtain ⟨hlaunches, hfetches, hrest⟩ := State.arm_of_none_armed (s := s.dropFetch x) (x.launch row cs) hnone
  have hexec : exec (.launchRowFetched b step row true) s = .next ((s.dropFetch x).arm (x.launch row cs)) := by
    show execLaunchRowFetched b step row true s = _
    rw [execLaunchRowFetched, hx]
    simp only [hrow, hintime, hwait]
    rw [← harms, ← State.endFetch_of_no_rows hrows x (k := fun s => s.judgeRow x row) (by rw [harms]; exact hfetches)]
    rfl
  exact ⟨_, hexec, hlaunches, hfetches, hrest⟩

/-! ### A `COMMIT` -/

/-- The armed launch of a step is read from the die alone. -/
theorem State.armed?_of_die {s t : State} (h : t.die = s.die) (b g : Nat) (step : StepNo) :
    t.armed? b g step = s.armed? b g step := by
  rw [State.armed?, h]; rfl

/-- A launch that is changed is among the launches in its new form. -/
theorem State.mem_updLaunch {s : State} {l : Launch} (h : l ∈ s.die.launches) (f : Launch → Launch) :
    f l ∈ (s.updLaunch l f).die.launches :=
  List.mem_map.mpr ⟨l, h, if_pos BEq.rfl⟩

/-- Changing a launch neither adds nor forgets one. -/
theorem State.updLaunch_length (s : State) (l : Launch) (f : Launch → Launch) :
    (s.updLaunch l f).die.launches.length = s.die.launches.length := List.length_map _

/-- A new `COMMIT` with the bell of the armed launch of its step, up to 2 us before it, commits the launch (R163, R172). -/
theorem exec_commitReceive {s : State} {port : Nat} {e : Env} {f : LaunchPl} {x : Launch} (hin : s.inOrder .tsu port e)
    (hopen : s.engineShut .tsu 2 = false) (hholds : s.holds e.basin.toNat e.gen.toNat = true) (hexp : s.tsu.time.expands = true)
    (hnear : stampNear (s.ns .tsu) (expandStamp (s.ns .tsu) f.bell) = true)
    (hkey : s.key? .tsu e.basin.toNat e.gen.toNat f.step 1 = none) (hx : s.armed? e.basin.toNat e.gen.toNat f.step = some x)
    (hbell : x.bell = f.bell) (hchecked : x.checked = false) (hearly : later (s.ns .tsu) (nsAdd x.lNs (-2000)) = false) :
    exec (.commitReceive port e f) s = .next (((s.launchFrameTaken port e).addKey .tsu e.basin.toNat e.gen.toNat f.step 1 f.bell
      (nsAdd (expandStamp (s.ns .tsu) f.bell) (us 20))).updLaunch x fun x => { x with committed := true }) := by
  obtain ⟨hdie, htime, hkeys, -⟩ := s.launchFrameTaken_keeps port e
  have hns : (s.launchFrameTaken port e).ns .tsu = s.ns .tsu := by simp [State.ns]
  have hholds' := (State.holds_of_die hdie e.basin.toNat e.gen.toNat).trans hholds
  have hkey' := (State.key?_of_keys (p := .tsu) hkeys htime e.basin.toNat e.gen.toNat f.step 1).trans hkey
  have hgood : x.bell = f.bell ∧ !x.checked ∧ !later (s.ns .tsu) (nsAdd x.lNs (-2000)) := by simp [hbell, hchecked, hearly]
  show execCommitReceive port e f s = _
  rw [execCommitReceive, State.onEngine_inOrder hin hopen]
  change Host.Outcome.next _ = _
  rw [← State.launchFrameTaken]
  simp only [hholds', htime, hexp, hns, hnear, hkey']
  rw [State.armed?_of_die (s := s) (by simp), hx]
  simp only [if_pos hgood]
  rfl

/-- A good `COMMIT` commits its launch, and changes no other part of the die or the Phidor (R163). -/
theorem commitReceive_commits {s : State} {port b g : Nat} {e : Env} {f : LaunchPl} {x : Launch} (hin : s.inOrder .tsu port e)
    (hopen : s.engineShut .tsu 2 = false) (hb : e.basin.toNat = b) (hg : e.gen.toNat = g) (hholds : s.holds b g = true)
    (hexp : s.tsu.time.expands = true) (hnear : stampNear (s.ns .tsu) (expandStamp (s.ns .tsu) f.bell) = true)
    (hkey : s.key? .tsu b g f.step 1 = none) (hx : s.armed? b g f.step = some x) (hbell : x.bell = f.bell)
    (hchecked : x.checked = false) (hearly : later (s.ns .tsu) (nsAdd x.lNs (-2000)) = false) :
    Answers (.commitReceive port e f) s fun t =>
      { x with committed := true } ∈ t.die.launches ∧ t.die.launches.length = s.die.launches.length ∧ t.tsu.time = s.tsu.time
        ∧ t.out = s.out ∧ s.samePhi t := by
  subst hb hg
  obtain ⟨u, hu⟩ : ∃ u, u = (s.launchFrameTaken port e).addKey .tsu e.basin.toNat e.gen.toNat f.step 1 f.bell
    (nsAdd (expandStamp (s.ns .tsu) f.bell) (us 20)) := ⟨_, rfl⟩
  have hdie : u.die = s.die := by simp [hu]
  have hmem : x ∈ u.die.launches := hdie ▸ List.mem_of_find?_eq_some hx
  refine ⟨_, exec_commitReceive hin hopen hholds hexp hnear hkey hx hbell hchecked hearly, ?_⟩
  rw [← hu]
  refine ⟨u.mem_updLaunch hmem _, ?_, ?_, ?_, ?_⟩
  · rw [State.updLaunch_length, hdie]
  · simp [hu]
  · simp [hu]
  · simp [State.samePhi, hu]

/-! ### The abort of a launch -/

/-- The second state keeps every key of an `ABORT` that the first keeps, and has the same time at the TSU and the same Phidor. -/
def State.keepsAborts (s t : State) : Prop :=
  (∀ k ∈ s.tsu.keys, k.kind = 2 → k ∈ t.tsu.keys) ∧ t.tsu.time = s.tsu.time ∧ s.samePhi t

theorem State.keepsAborts_trans {s t u : State} (h : s.keepsAborts t) (h' : t.keepsAborts u) : s.keepsAborts u := by
  obtain ⟨hk, ht, hphi⟩ := h
  obtain ⟨hk', ht', hphi'⟩ := h'
  exact ⟨fun k hmem hkind => hk' k (hk k hmem hkind) hkind, ht'.trans ht, State.samePhi_trans hphi hphi'⟩

theorem State.keepsAborts_of_sameWave {s t : State} (h : s.sameWave t) : s.keepsAborts t := by
  obtain ⟨-, hkeys, htime, hphi⟩ := h
  exact ⟨fun k hk _ => hkeys ▸ hk, htime, hphi⟩

theorem State.keepsAborts_updBasin (s : State) (b : Nat) (f : BasinSt → BasinSt) : s.keepsAborts (s.updBasin b f) :=
  ⟨fun _ hk _ => hk, rfl, rfl, rfl, rfl⟩

/-- What an `ABORT` forgets are keys of `ANNOUNCE` and `COMMIT` frames (R172). -/
theorem State.keepsAborts_dropAbortedKeys (s : State) (b g : Nat) (j : StepNo) : s.keepsAborts (s.dropAbortedKeys b g j) :=
  ⟨fun k hk hkind => by simp [State.dropAbortedKeys, hk, hkind], rfl, rfl, rfl, rfl⟩

/-- Whatever an `ABORT` does to the basin, the keys of `ABORT` frames, the time and the Phidor stay (R168, R172). -/
theorem State.keepsAborts_applyAbort (s : State) (b g : Nat) (f : LaunchPl) : s.keepsAborts (s.applyAbort b g f) := by
  cases hx : s.basin? b with
  | none =>
    rw [State.applyAbort, hx]
    exact State.keepsAborts_of_sameWave s.sameWave_rfl
  | some x =>
    rw [State.applyAbort_eq g f hx]
    split
    · exact State.keepsAborts_of_sameWave s.sameWave_rfl
    · exact State.keepsAborts_trans (State.keepsAborts_of_sameWave (s.sameWave_abortLaunches b g f))
        (State.keepsAborts_trans (State.keepsAborts_updBasin _ _ _)
          (State.keepsAborts_trans (State.keepsAborts_dropAbortedKeys _ _ _ _)
            (State.keepsAborts_of_sameWave (State.sameWave_abortObjects _ _ _ _))))

/-- A key that is kept is among the keys (R172). -/
theorem State.mem_addKey (s : State) (b g : Nat) (step : StepNo) (kind : Nat) (bell : W32) (untilNs : W64) :
    { basin := b, gen := g, step := step, kind := kind, bells := [bell], untilNs := untilNs }
      ∈ (s.addKey .tsu b g step kind bell untilNs).tsu.keys := List.mem_cons_self

/-- An `ABORT` that starts at the TSU is kept by its key, and leaves the time and the Phidor (R166, R172). -/
theorem State.startAbort_notes (s : State) (b g : Nat) (step : StepNo) (bell : W32) (entry : BitVec 24) (st : Status) (cause : W16) :
    (∃ k ∈ (s.startAbort b g step bell entry st cause).tsu.keys, k.basin = b ∧ k.gen = g ∧ k.step = step ∧ k.kind = 2)
      ∧ (s.startAbort b g step bell entry st cause).tsu.time = s.tsu.time ∧ s.samePhi (s.startAbort b g step bell entry st cause) := by
  obtain ⟨u, hu⟩ : ∃ u, u = (s.die.launches.filter (fun l => l.basin == b && l.gen == g && l.step == step && l.phase == .armed)).foldl
    (fun s l => s.disarm l) s := ⟨_, rfl⟩
  have hdisarm : s.sameWave u := hu ▸ State.sameWave_foldl _ s fun s l => s.sameWave_disarm l
  obtain ⟨-, -, htime, hphi⟩ := hdisarm
  obtain ⟨v, hv⟩ : ∃ v, v = u.addKey .tsu b g step 2 bell (nsAdd (u.ns .tsu) (us 100)) := ⟨_, rfl⟩
  have hadd : v.tsu.time = u.tsu.time ∧ u.samePhi v := by simp [hv, State.samePhi]
  have hsent : v.keepsAborts (s.startAbort b g step bell entry st cause) := by
    rw [State.startAbort, ← hu, ← hv]
    exact State.keepsAborts_trans (v.keepsAborts_applyAbort b g _)
      (State.keepsAborts_of_sameWave (State.sameWave_foldl _ _ fun s i => s.sameWave_queueFrame i _ _ _))
  obtain ⟨hkeys, htime', hphi'⟩ := hsent
  exact ⟨⟨_, hkeys _ (hv ▸ u.mem_addKey b g step 2 bell _) rfl, rfl, rfl, rfl, rfl⟩, htime'.trans (hadd.1.trans htime),
    State.samePhi_trans hphi (State.samePhi_trans hadd.2 hphi')⟩

/-- A launch that is aborted is kept by the key of its `ABORT` (R166, R172). -/
theorem State.abortLaunch_notes (s : State) (l : Launch) (st : Status) (cause : Cause) :
    (∃ k ∈ (s.abortLaunch l st cause).tsu.keys, k.basin = l.basin ∧ k.gen = l.gen ∧ k.step = l.step ∧ k.kind = 2)
      ∧ (s.abortLaunch l st cause).tsu.time = s.tsu.time ∧ s.samePhi (s.abortLaunch l st cause) := by
  obtain ⟨hkey, htime, hphi⟩ := (s.record .tsu cause l.basin (launchExt l.step l.gen l.lNs)).startAbort_notes l.basin l.gen l.step
    l.bell l.entry st cause.w
  rw [State.abortLaunch]
  exact ⟨hkey, htime.trans (by simp), State.samePhi_trans (by simp [State.samePhi]) hphi⟩

/-- At L - 2 us a committed launch is checked, and one without its `COMMIT` is aborted (R163, R166). -/
theorem commitDeadline_judges {s : State} {b : Nat} {step : StepNo} {l : Launch}
    (hl : s.die.launches.find? (fun l => l.basin == b && l.step == step && l.phase == .armed) = some l)
    (htime : (s.ns .tsu - nsAdd l.lNs (-2000)).toInt ≥ 0) : Answers (.commitDeadline b step) s fun t =>
      (l.committed = true → { l with checked := true } ∈ t.die.launches ∧ t.tsu = s.tsu ∧ t.out = s.out)
        ∧ (l.committed = false → ∃ k ∈ t.tsu.keys, k.basin = l.basin ∧ k.gen = l.gen ∧ k.step = l.step ∧ k.kind = 2)
        ∧ t.tsu.time = s.tsu.time ∧ s.samePhi t := by
  have hreached : reached (s.ns .tsu) (nsAdd l.lNs (-2000)) = true := decide_eq_true htime
  show gives (execCommitDeadline b step s) _
  rw [execCommitDeadline, hl]
  simp only [hreached]
  rcases Bool.eq_false_or_eq_true l.committed with hcom | hcom
  · have hmem := State.mem_updLaunch (List.mem_of_find?_eq_some hl) fun l => { l with checked := true }
    simp only [if_pos hcom]
    exact ⟨_, rfl, fun _ => ⟨hmem, rfl, rfl⟩, fun h => absurd hcom (by simp [h]), rfl, rfl, rfl, rfl⟩
  · obtain ⟨hkey, hrest⟩ := s.abortLaunch_notes l .timeout .commitMissed
    have hmissed : ¬ l.committed = true := by simp [hcom]
    simp only [if_neg hmissed]
    exact ⟨_, rfl, fun h => absurd h hmissed, fun _ => hkey, hrest⟩

/-- At L - 1 us a launch for which the fast logic is not ready is aborted (R96, R166). -/
theorem fastReadyCheck_aborts {s : State} {b : Nat} {step : StepNo} {l : Launch}
    (hl : s.die.launches.find? (fun l => l.basin == b && l.step == step && l.phase == .armed) = some l)
    (htime : (s.ns .tsu - nsAdd l.lNs (-1000)).toInt ≥ 0) (hfast : s.tsu.clk.running = false ∨ s.tsu.clk.fast = false) :
    Answers (.fastReadyCheck b step) s fun t =>
      (∃ k ∈ t.tsu.keys, k.basin = l.basin ∧ k.gen = l.gen ∧ k.step = l.step ∧ k.kind = 2) ∧ t.tsu.time = s.tsu.time
        ∧ s.samePhi t := by
  have hreached : reached (s.ns .tsu) (nsAdd l.lNs (-1000)) = true := decide_eq_true htime
  have hslow : (s.tsu.clk.running && s.tsu.clk.fast) = false := Bool.and_eq_false_iff.mpr hfast
  have hexec : exec (.fastReadyCheck b step) s = .next (s.abortLaunch l .timeout .fastWakeLate) := by
    show execFastReadyCheck b step s = _
    rw [execFastReadyCheck, hl]
    simp only [hreached, hslow]
    rfl
  exact ⟨_, hexec, s.abortLaunch_notes l .timeout .fastWakeLate⟩

/-- Settles O17: the `ANNOUNCE`, the row in time and too late, the `COMMIT`, and the two checks before the bell, each by its command's own
lemma. -/
theorem launchArming : Obligations.LaunchArming := by
  unfold Obligations.LaunchArming
  refine ⟨fun s port b g e f l a => announceReceive_fetches, fun s b step row x cs hx hrows hwait htime hvalid hcs hcsValid howner
    hcores hnone hfree => ?row, fun s b step x => rowFetchTimeout_drops, fun s port b g e f x => commitReceive_commits,
    fun s b step l => commitDeadline_judges, fun s b step l => fastReadyCheck_aborts⟩
  case row =>
    obtain ⟨t, hexec, hlaunches, hrest⟩ :=
      launchRowFetched_arms hx hrows hwait htime hvalid hcs hcsValid howner hcores hnone hfree
    have hmem : x.launch row cs ∈ t.die.launches := hlaunches ▸ List.mem_append_right _ List.mem_cons_self
    exact ⟨t, hexec, ⟨_, hmem, rfl, rfl, rfl, rfl, rfl, rfl, rfl, rfl, rfl, rfl⟩, hrest⟩

end Sys2Proof.Machine
